-- ==== Sys2Proof/Word.lean ====
section
/-! DEFINITION. The number types of the model and their plainest arithmetic (R3, R4, R377). -/

namespace Sys2Proof

/-- An instant or a span on the converter timebase, in ticks of 1.25 ns (R377). -/
abbrev Tick := Nat

/-- A 32-bit register word (R7). -/
abbrev Word := BitVec 32

/-- One byte (R4). -/
abbrev Byte := BitVec 8

end Sys2Proof
end

