-- ==== Sys2Proof/Machine/StClocks.lean ====
section
/-! DEFINITION. State of the device: clocks and the timebase. Plain data only; each field names the rule of spec/ that gives it. -/

namespace Sys2Proof.Machine

/-- One PLL: SYS, CTB, LINK, MDL. (R369, 13_clocks_and_timebase.md.) -/
structure Pll where
  /-- Locked (13 HST_CLK_STAT) -/
  locked : Bool
  /-- In bypass (13 HST_CLK_STAT) -/
  bypass : Bool
  /-- Unplanned losses of lock, saturating at 255 (13 HST_CLK_LOL) -/
  lol : Nat
  /-- Outputs that never return from bypass without a device reset (13 R373) -/
  dead : Bool
  /-- Start of a relock after a feedback change (13 R372) -/
  relock : Option Tick
  /-- Dither LFSR as loaded at the last lock (13 R371) -/
  lfsr : BitVec 23
  /-- Feedback value in force (13 Table 13-2) -/
  feedback : Rat
  deriving DecidableEq, Repr

/-- `Pll` at reset. -/
def Pll.reset : Pll where
  locked := false
  bypass := true
  lol := 0
  dead := false
  relock := none
  lfsr := 0
  feedback := 0

/-- One clock output. (R376, 13_clocks_and_timebase.md.) -/
structure ClkOut where
  /-- Enable in force (13 R376) -/
  enable : Bool
  /-- Divider in force (13 R376) -/
  div : Nat
  /-- Delay in force (13 R376) -/
  delay : Nat
  /-- Committed change waiting for its edge (13 R376) -/
  change : Option (Bool × Nat × Nat)
  /-- Boundary from which it applies (13 R376) -/
  changeFrom : Tick
  /-- First edge of the grid in force, VCO periods (13 R376) -/
  firstEdge : Nat
  deriving DecidableEq, Repr

/-- `ClkOut` at reset. -/
def ClkOut.reset : ClkOut where
  enable := false
  div := 480
  delay := 0
  change := none
  changeFrom := 0
  firstEdge := 0

/-- A correlation sample. (R382, 13_clocks_and_timebase.md.) -/
structure Corr where
  /-- Sampled CTB (13 CTB_XS_CTB) -/
  ctb : Tick
  /-- SC-A seconds (13 CTB_XS_SCA_S) -/
  aS : Nat
  /-- SC-A nanoseconds (13 CTB_XS_SCA_NS) -/
  aNs : Nat
  /-- SC-B seconds (13 CTB_XS_SCB_S) -/
  bS : Nat
  /-- SC-B nanoseconds (13 CTB_XS_SCB_NS) -/
  bNs : Nat
  deriving DecidableEq, Repr

/-- `Corr` at reset. -/
def Corr.reset : Corr where
  ctb := 0
  aS := 0
  aNs := 0
  bS := 0
  bNs := 0

/-- Clocks and the converter timebase. (R368, 13_clocks_and_timebase.md.) -/
structure Clk where
  /-- SYS, CTB, LINK, MDL (13 R369) -/
  plls : List Pll
  /-- Reference path; none before detection or with no valid frequency (13 HST_CLK_STAT) -/
  path : Option Nat
  /-- Start of reference detection (13 R368) -/
  detectFrom : Tick
  /-- Detection done (13 R368) -/
  detected : Bool
  /-- REF_LOST (13 HST_CLK_STAT) -/
  refLost : Bool
  /-- HOLDOVER (13 HST_CLK_STAT) -/
  holdover : Bool
  /-- Entry into holdover (13 R375) -/
  holdFrom : Tick
  /-- Clk.holdover_max has been reported (13 R375) -/
  holdReported : Bool
  /-- Holdover entries, saturating (13 HST_CLK_HOLD) -/
  holdCnt : Nat
  /-- Longest holdover, s (13 HST_CLK_HOLD) -/
  holdMax : Nat
  /-- Reference returned, loops closing (13 R375) -/
  refBack : Option Tick
  /-- Margin in force, % (13 R374) -/
  margin : Rat
  /-- A relock of the SYS PLL for a margin is under way (13 R374) -/
  marginBusy : Bool
  /-- Margin after that relock (13 R374) -/
  marginNext : Rat
  /-- Duration of the last relock, µs (13 HST_CLK_RELOCK) -/
  relockUs : Nat
  /-- Relocks commanded, saturating (13 HST_CLK_RELOCK) -/
  relocks : Nat
  /-- The CTB has been set to 0 at the first lock (13 R377) -/
  ctbOn : Bool
  /-- CLKOUT0 and CLKOUT1 (13 R376) -/
  outs : List ClkOut
  /-- Source in force: 0 island, 1 SC-A, 2 SC-B, 3 twin master (13 CTB_MODE) -/
  src : Nat
  /-- Committed source last taken up (13 R402) -/
  srcCommit : Nat
  /-- RATE_LOCKED (13 CTB_MODE) -/
  rateLocked : Bool
  /-- Rounds within 0.05 ppm (13 R379) -/
  rateRun : Nat
  /-- PHASE_ALIGNED (13 CTB_MODE) -/
  aligned : Bool
  /-- Rounds within 10 ns (13 R380) -/
  alignRun : Nat
  /-- EV_CTB_ALIGNED raised (13 R380) -/
  alignSeen : Bool
  /-- SLEWING (13 CTB_MODE) -/
  slewing : Bool
  /-- SOURCE_LOST (13 CTB_MODE) -/
  srcLost : Bool
  /-- No phase target (13 CTB_MODE) -/
  noPhase : Bool
  /-- Pull p, ppm (13 CTB_PULL) -/
  pull : Rat
  /-- E at the last round, ns (13 CTB_PHASE_ERR) -/
  phaseErr : Rat
  /-- CTB and source time (ns) at the last round (13 R379) -/
  lastRound : Option (Tick × Rat)
  /-- READY (13 CTB_XS_CTRL) -/
  xsReady : Bool
  /-- Last sample (13 R382) -/
  xs : Corr
  /-- A capture is under way (13 R382) -/
  xsBusy : Bool
  /-- Latched (13 CTB_NOW_H) -/
  nowH : BitVec 32
  /-- Latched (13 CTB_CYC_H) -/
  cycH : BitVec 32
  /-- Latched (13 CTB_EK_L) -/
  ekL : BitVec 32
  /-- Latched (13 CTB_EK_H) -/
  ekH : BitVec 32
  /-- Since when the committed source is synchronised again (13 R402) -/
  returnFrom : Option Tick
  /-- Never aligned until the next device reset (13 R381) -/
  alignFail : Bool
  /-- Island outputs disabled for a failed die (13 R370) -/
  islandOff : List Bool
  deriving DecidableEq, Repr

/-- `Clk` at reset. -/
def Clk.reset : Clk where
  plls := List.replicate 4 Pll.reset
  path := none
  detectFrom := 0
  detected := false
  refLost := false
  holdover := false
  holdFrom := 0
  holdReported := false
  holdCnt := 0
  holdMax := 0
  refBack := none
  margin := 0
  marginBusy := false
  marginNext := 0
  relockUs := 0
  relocks := 0
  ctbOn := false
  outs := List.replicate 2 ClkOut.reset
  src := 0
  srcCommit := 0
  rateLocked := false
  rateRun := 0
  aligned := false
  alignRun := 0
  alignSeen := false
  slewing := false
  srcLost := false
  noPhase := false
  pull := 0
  phaseErr := 0
  lastRound := none
  xsReady := false
  xs := Corr.reset
  xsBusy := false
  nowH := 0
  cycH := 0
  ekL := 0
  ekH := 0
  returnFrom := none
  alignFail := false
  islandOff := List.replicate 10 false

end Sys2Proof.Machine
end

