-- ==== Sys2Proof/Machine/StHost.lean ====
section
/-! DEFINITION. State of the device: the host interface. Plain data only; each field names the rule of spec/ that gives it. -/

namespace Sys2Proof.Machine

/-- Header of a mailbox command. (R327, 11_host_interface.md.) -/
structure CmdHdr where
  /-- Channel (11 R324) -/
  chan : Nat
  /-- Producer count of the command (11 R325) -/
  count : Nat
  /-- TAG (11 Table 11-3) -/
  tag : BitVec 32
  /-- OPCODE (11 Table 11-3) -/
  opcode : Nat
  /-- FENCE (11 Table 11-3) -/
  fence : Bool
  /-- NOIRQ (11 Table 11-3) -/
  noirq : Bool
  deriving DecidableEq, Repr

/-- `CmdHdr` at reset. -/
def CmdHdr.reset : CmdHdr where
  chan := 0
  count := 0
  tag := 0
  opcode := 0
  fence := false
  noirq := false

/-- An event on its way to the queue. (R338, 11_host_interface.md.) -/
structure Event where
  /-- Event name (CODE and CLASS follow from it) (11 R338) -/
  name : String
  /-- CTB of detection (11 R338) -/
  ctb : Tick
  /-- SUMMARY (11 R338) -/
  summary : Bool
  /-- REMIND (11 R338) -/
  remind : Bool
  /-- Island (11 R338) -/
  island : Nat
  /-- Kind of source (11 R338) -/
  kind : Nat
  /-- Index of the source (11 R338) -/
  index : Nat
  /-- The values the raising chapter names, in its order (11 R338) -/
  payload : List Int
  /-- Bytes 28 to 31 of a summary (11 R338) -/
  count : Nat
  deriving DecidableEq, Repr

/-- `Event` at reset. -/
def Event.reset : Event where
  name := ""
  ctb := 0
  summary := false
  remind := false
  island := 0
  kind := 0
  index := 0
  payload := []
  count := 0

/-- Occurrences of a rate-limited event of one source in the round. (R338, 11_host_interface.md.) -/
structure RateRow where
  /-- Event name (11 R338) -/
  name : String
  /-- Island (11 R338) -/
  island : Nat
  /-- Kind of source (11 R338) -/
  kind : Nat
  /-- Index of the source (11 R338) -/
  index : Nat
  /-- Zephyr round that holds the CTB of detection (17 R465) -/
  round : Nat
  /-- Occurrences after the first (11 R338) -/
  count : Nat
  /-- Payload of the latest occurrence counted (11 R338) -/
  payload : List Int
  deriving DecidableEq, Repr

/-- `RateRow` at reset. -/
def RateRow.reset : RateRow where
  name := ""
  island := 0
  kind := 0
  index := 0
  round := 0
  count := 0
  payload := []

/-- A completion entry. (R327, 11_host_interface.md.) -/
structure Completion where
  /-- The command (11 Table 11-4) -/
  hdr : CmdHdr
  /-- STATUS (11 Table 11-4) -/
  status : Nat
  /-- EVENTS (11 Table 11-4) -/
  events : Bool
  /-- DETAIL (11 Table 11-4) -/
  detail : BitVec 32
  /-- CTB (11 Table 11-4) -/
  ctb : Tick
  /-- RESULT (11 Table 11-4) -/
  result : BitVec 64
  deriving DecidableEq, Repr

/-- `Completion` at reset. -/
def Completion.reset : Completion where
  hdr := CmdHdr.reset
  status := 0
  events := false
  detail := 0
  ctb := 0
  result := 0

/-- One mailbox channel. (R324, 11_host_interface.md.) -/
structure Channel where
  /-- Enable bit (11 HST_CTRL) -/
  enabled : Bool
  /-- Command ring address, low (11 HST_CMDQ_BASE_L) -/
  cmdL : BitVec 32
  /-- Command ring address, high (11 HST_CMDQ_BASE_H) -/
  cmdH : BitVec 32
  /-- Completion ring address, low (11 HST_CPLQ_BASE_L) -/
  cplL : BitVec 32
  /-- Completion ring address, high (11 HST_CPLQ_BASE_H) -/
  cplH : BitVec 32
  /-- Producer count (11 HST_CMD_DB) -/
  producer : Nat
  /-- Fetch count (11 HST_CMD_STAT) -/
  fetch : Nat
  /-- Completion count (11 HST_CMD_STAT) -/
  completed : Nat
  /-- Commands in flight (11 HST_CMD_STAT) -/
  inflight : Nat
  deriving DecidableEq, Repr

/-- `Channel` at reset. -/
def Channel.reset : Channel where
  enabled := false
  cmdL := 0
  cmdH := 0
  cplL := 0
  cplH := 0
  producer := 0
  fetch := 0
  completed := 0
  inflight := 0

/-- An entry of the backlog. (R341, 11_host_interface.md.) -/
structure Backlog where
  /-- The event; none is the OVERFLOW marker (11 R341) -/
  ev : Option Event
  deriving DecidableEq, Repr

/-- `Backlog` at reset. -/
def Backlog.reset : Backlog where
  ev := none

/-- Parameter sets. (R331, 11_host_interface.md.) -/
structure ParamState where
  /-- Staged values by ID, rising (11 R331) -/
  staged : List (Nat × Rat)
  /-- Committed values that differ from the default, by ID (11 R332) -/
  committed : List (Nat × Rat)
  /-- Values in force that differ from the default, by ID (11 R333) -/
  force : List (Nat × Rat)
  /-- Commit being checked (11 R332) -/
  checking : Option (CmdHdr × Tick)
  /-- Commits whose cycle items wait: the command, the end of its check, the items (11 R333) -/
  applying : List (CmdHdr × Tick × List Nat)
  /-- Committed IDs waiting for their point (11 R333) -/
  waiting : List Nat
  /-- Persist command in progress (11 R335) -/
  persisting : Option CmdHdr
  /-- The set being written (11 R335) -/
  persistSet : List (Nat × Rat)
  /-- Committed set differs from the persisted copy (11 HST_PARAM_STAT) -/
  dirty : Bool
  /-- Defaults loaded at reset (11 HST_PARAM_STAT) -/
  defaults : Bool
  /-- DETAIL of the last rejected commit (11 HST_PARAM_LAST) -/
  last : BitVec 32
  /-- Successful commits, saturating (11 HST_PARAM_COMMITS) -/
  commits : Nat
  deriving DecidableEq, Repr

/-- `ParamState` at reset. -/
def ParamState.reset : ParamState where
  staged := []
  committed := []
  force := []
  checking := none
  applying := []
  waiting := []
  persisting := none
  persistSet := []
  dirty := false
  defaults := false
  last := 0
  commits := 0

/-- One persisted copy of the committed set. (R335, 11_host_interface.md.) -/
structure ParamCopy where
  /-- ECC check (11 R335) -/
  good : Bool
  /-- Persistence number (11 R335) -/
  number : Nat
  /-- The values (11 R335) -/
  set : List (Nat × Rat)
  /-- SHAKE256 digest over the values (11 R335) -/
  digest : List (BitVec 8)
  deriving DecidableEq, Repr

/-- `ParamCopy` at reset. -/
def ParamCopy.reset : ParamCopy where
  good := false
  number := 0
  set := []
  digest := []

/-- A write the device posts to host memory, or a message. (R344, 11_host_interface.md.) -/
structure HostWrite where
  /-- 0 event record, 1 completion, 2 tail shadow, 3 MSI-X vector, 4 bulk data, 5 dump, 6 BMS tap record (11 R344) -/
  kind : Nat
  /-- Host address, or vector number (11 R344) -/
  addr : Nat
  /-- The record (11 Table 11-8) -/
  ev : Option Event
  /-- Its SEQ, or EVQ_TAIL of a tail shadow (11 R339) -/
  seq : Nat
  /-- The completion entry (11 Table 11-4) -/
  cpl : Option Completion
  /-- Data (11 R344) -/
  bytes : List (BitVec 8)
  deriving DecidableEq, Repr

/-- `HostWrite` at reset. -/
def HostWrite.reset : HostWrite where
  kind := 0
  addr := 0
  ev := none
  seq := 0
  cpl := none
  bytes := []

/-- The configuration space of the endpoint, as far as Table 11-1 gives it. (R321, 11_host_interface.md.) -/
structure PciHeader where
  /-- Vendor ID and Subsystem Vendor ID (11 Table 11-1) -/
  vendor : BitVec 16
  /-- Device ID and Subsystem ID (11 Table 11-1) -/
  device : BitVec 16
  /-- Class code (11 Table 11-1) -/
  classCode : BitVec 24
  /-- Base of BAR0, 64-bit, non-prefetchable, 64 MiB (11 Table 11-1) -/
  bar0 : BitVec 64
  /-- Base of BAR2, 64-bit, prefetchable, 1 GiB (11 Table 11-1) -/
  bar2 : BitVec 64
  /-- Max payload size in force: 128, 256 or 512 bytes (11 Table 11-1) -/
  maxPayload : Nat
  /-- Max read request size in force: 128 to 4,096 bytes (11 Table 11-1) -/
  maxRead : Nat
  /-- AER uncorrectable error status (11 Table 11-1) -/
  aerUncor : BitVec 32
  /-- AER correctable error status (11 Table 11-1) -/
  aerCor : BitVec 32
  deriving DecidableEq, Repr

/-- `PciHeader` at reset. -/
def PciHeader.reset : PciHeader where
  vendor := 0x7A84
  device := 0x0384
  classCode := 0x118000
  bar0 := 0
  bar2 := 0
  maxPayload := 128
  maxRead := 512
  aerUncor := 0
  aerCor := 0

/-- One MSI-X table entry. (R323, 11_host_interface.md.) -/
structure MsixEntry where
  /-- Message address (11 R323) -/
  addr : BitVec 64
  /-- Message data (11 R323) -/
  data : BitVec 32
  /-- Mask bit (11 R323) -/
  masked : Bool
  /-- PBA bit (11 R323) -/
  pend : Bool
  deriving DecidableEq, Repr

/-- `MsixEntry` at reset. -/
def MsixEntry.reset : MsixEntry where
  addr := 0
  data := 0
  masked := true
  pend := false

/-- Host interface. (R321, 11_host_interface.md.) -/
structure HostPort where
  /-- Mailbox channels (11 R324) -/
  chans : List Channel
  /-- Next channel of the round robin (11 R326) -/
  rr : Nat
  /-- Configuration space (11 R321) -/
  pci : PciHeader
  /-- Commands in flight, oldest first (11 R326) -/
  outstanding : List CmdHdr
  /-- Firmware running (11 HST_STAT) -/
  fwRunning : Bool
  /-- DMA error since enable (11 HST_STAT) -/
  dmaErr : Bool
  /-- HOST_LOST (11 HST_STAT) -/
  hostLost : Bool
  /-- Host-interface errors, saturating (11 HST_ERR_CNT) -/
  errCnt : Nat
  /-- Fences completed (11 HST_FENCE) -/
  fences : Nat
  /-- A fence has been started (11 R343) -/
  fencePend : Bool
  /-- Last retrigger of the host watchdog (11 R345) -/
  wdAt : Tick
  /-- Queue address, low (11 EVQ_BASE_L) -/
  evqBaseL : BitVec 32
  /-- Queue address, high (11 EVQ_BASE_H) -/
  evqBaseH : BitVec 32
  /-- N (11 EVQ_SIZE) -/
  evqSize : BitVec 32
  /-- Queue enable (11 EVQ_CTRL) -/
  evqOn : Bool
  /-- Records consumed (11 EVQ_HEAD) -/
  evqHead : BitVec 32
  /-- Records written since enable (11 EVQ_TAIL) -/
  evqTail : BitVec 32
  /-- SEQ of the next record (11 EVQ_SEQ) -/
  evqSeq : BitVec 32
  /-- Events lost, saturating (11 EVQ_LOST) -/
  evqLost : Nat
  /-- Tail-shadow address, low (11 EVQ_SHADOW_L) -/
  shadowL : BitVec 32
  /-- Tail-shadow address, high (11 EVQ_SHADOW_H) -/
  shadowH : BitVec 32
  /-- Moderation (11 EVQ_IRQ) -/
  evqIrq : BitVec 32
  /-- Write error (11 EVQ_STAT) -/
  evqErr : Bool
  /-- Visible records not reported by vector 0 (11 R340) -/
  unreported : Nat
  /-- When the first of them became visible (11 R340) -/
  visFrom : Option Tick
  /-- Backlog, oldest first (11 R341) -/
  backlog : List Backlog
  /-- Events lost in the run (11 R341) -/
  lostRun : Nat
  /-- CTB of the first lost event (11 R341) -/
  lostFirst : Tick
  /-- CTB of the last lost event (11 R341) -/
  lostLast : Tick
  /-- Rate-limited events of the round (11 R338) -/
  rates : List RateRow
  /-- Rate-limited events of the round before, until its close (17 R465) -/
  closing : List RateRow
  /-- MSI-X table (11 R323) -/
  msix : List MsixEntry
  /-- Commands in flight at a host-interface reset, whose completions are discarded (11 R346) -/
  discarding : List CmdHdr
  /-- The command in execution has raised events (11 R344) -/
  cmdEvents : Bool
  /-- Outbox of the model: what the device has posted, oldest first (11 R344) -/
  outbox : List HostWrite
  /-- Data returned by the last host read (the model's own field) (11 R322) -/
  reply : BitVec 64
  /-- Bytes returned by the last BAR2 read (the model's own field) (15 R426) -/
  replyBytes : List (BitVec 8)
  /-- The last BAR2 read was answered with a poisoned completion (15 R409) -/
  poisoned : Bool
  deriving DecidableEq, Repr

/-- `HostPort` at reset. -/
def HostPort.reset : HostPort where
  chans := List.replicate 8 Channel.reset
  rr := 1
  pci := PciHeader.reset
  outstanding := []
  fwRunning := false
  dmaErr := false
  hostLost := false
  errCnt := 0
  fences := 0
  fencePend := false
  wdAt := 0
  evqBaseL := 0
  evqBaseH := 0
  evqSize := 8
  evqOn := false
  evqHead := 0
  evqTail := 0
  evqSeq := 0
  evqLost := 0
  shadowL := 0
  shadowH := 0
  evqIrq := 0
  evqErr := false
  unreported := 0
  visFrom := none
  backlog := []
  lostRun := 0
  lostFirst := 0
  lostLast := 0
  rates := []
  closing := []
  msix := List.replicate 32 MsixEntry.reset
  discarding := []
  cmdEvents := false
  outbox := []
  reply := 0
  replyBytes := []
  poisoned := false

/-- One mirror page. (R336, 11_host_interface.md.) -/
structure MirrorPage where
  /-- GEN (11 R336) -/
  gen : BitVec 32
  /-- STAMP (11 R336) -/
  stamp : Nat
  /-- CTB of the freeze (11 R336) -/
  ctb : Tick
  /-- The register words (11 R336) -/
  words : List (BitVec 32)
  deriving DecidableEq, Repr

/-- `MirrorPage` at reset. -/
def MirrorPage.reset : MirrorPage where
  gen := 0
  stamp := 0
  ctb := 0
  words := []

end Sys2Proof.Machine
end

