-- ==== Sys2Proof/Machine/StConv.lean ====
section
/-! DEFINITION. State of the device: converter states and start-up. Plain data only; each field names the rule of spec/ that gives it. -/

namespace Sys2Proof.Machine

/-- Converter states and start-up. (R361, 12_start_up_and_states.md.) -/
structure Conv where
  /-- State code (RIDE is shown from ride-through) (12 HST_ST_STATE) -/
  state : Nat
  /-- Origin of HOLD (12 HST_ST_STATE) -/
  origin : Nat
  /-- Service level (12 HST_ST_STATE) -/
  level : Nat
  /-- STOP_ARMED (12 HST_ST_STATE) -/
  stopArmed : Bool
  /-- Restart in centre mode (12 HST_ST_STATE) -/
  restart : Bool
  /-- Start-up phase (12 HST_ST_PHASE) -/
  phase : Nat
  /-- Start of the phase (12 R358) -/
  phaseFrom : Tick
  /-- Cycles of the phase done (12 R359) -/
  phaseCyc : Nat
  /-- PRE_CHARGE: 0 ramp up, 1 dwell, 2 ramp down (12 R359) -/
  pcStep : Nat
  /-- Phase of the last EV_CHARGE_FAIL (12 HST_ST_PHASE) -/
  failPhase : Nat
  /-- State requests waiting for their boundary, with their targets, oldest first (12 R361) -/
  reqs : List (CmdHdr × Nat)
  /-- The frames of the last load-all carry the committed conv.tc that waits for a transition (01 R22) -/
  tcSaid : Bool
  /-- First trigger of a Squall since the last boundary (12 R363) -/
  trigSquall : Bool
  /-- MB OPEN since the last boundary (12 R363) -/
  trigMb : Bool
  /-- Completion of a sequence: target and transition number (12 R363) -/
  trigSeq : Option (Nat × Nat)
  /-- E ramps to 0 after MB OPEN (12 R362) -/
  mbRamp : Bool
  /-- The restart found no live bus: E tracks gf.v_set (12 R363) -/
  restartDead : Bool
  /-- Passed bring-up (12 HST_ST_DIES) -/
  dies : BitVec 8
  /-- Failed during operation (12 HST_ST_DIES) -/
  failed : BitVec 8
  /-- Rings excluded (12 HST_ST_RINGX) -/
  ringx : BitVec 12
  /-- Rings found with fewer cells (12 HST_ST_RINGX) -/
  ringFew : BitVec 12
  /-- Slot running (1 = B) (12 HST_ST_BOOT) -/
  bootSlot : Bool
  /-- Other slot passes (12 HST_ST_BOOT) -/
  otherPass : Bool
  /-- Fall-back taken (12 HST_ST_BOOT) -/
  fallbackTaken : Bool
  /-- Recovery: 0 over PCI Express, 1 over the management UART (12 R351) -/
  recovery : Option Nat
  /-- An image runs (12 R352) -/
  booted : Bool
  /-- Boot watchdog armed (12 R353) -/
  bootAt : Tick
  /-- Fall-backs since power-on (12 R353) -/
  bootFalls : Nat
  /-- Next bring-up step (12 R354) -/
  upStep : Nat
  /-- OFF has been entered since reset (12 R354) -/
  up : Bool
  /-- Transitions since reset, saturating (12 HST_ST_TRANS) -/
  trans : Nat
  /-- HOLD entries, saturating (12 HST_ST_HOLDS) -/
  holds : Nat
  /-- Restarts into RUN, saturating (12 HST_ST_HOLDS) -/
  restarts : Nat
  /-- A fatal error stands (12 Table 12-4) -/
  fatal : Bool
  /-- A rail supervisor holds the device reset (18 R484) -/
  devReset : Bool
  /-- A rail supervisor holds the Bailsil reset (18 R484) -/
  bslReset : Bool
  /-- The charge sequence waits for its resume (12 R359) -/
  resumeDue : Bool
  deriving DecidableEq, Repr

/-- `Conv` at reset. -/
def Conv.reset : Conv where
  state := 0
  origin := 0
  level := 2
  stopArmed := false
  restart := false
  phase := 0
  phaseFrom := 0
  phaseCyc := 0
  pcStep := 0
  failPhase := 0
  reqs := []
  tcSaid := false
  trigSquall := false
  trigMb := false
  trigSeq := none
  mbRamp := false
  restartDead := false
  dies := 0
  failed := 0
  ringx := 0
  ringFew := 0
  bootSlot := false
  otherPass := false
  fallbackTaken := false
  recovery := none
  booted := false
  bootAt := 0
  bootFalls := 0
  upStep := 0
  up := false
  trans := 0
  holds := 0
  restarts := 0
  fatal := false
  devReset := false
  bslReset := false
  resumeDue := false

end Sys2Proof.Machine
end

