-- ==== Sys2Proof/Machine/StConverter.lean ====
section
/-! DEFINITION. State of the device: straps and the control cycle. Plain data only; each field names the rule of spec/ that gives it. -/

namespace Sys2Proof.Machine

/-- Strap levels read once, at reset (R27, R350, R496). (R27, 01_converter_and_dies.md.) -/
structure Straps where
  /-- TWIN_ID: membership (false = Member 0) (00 R16) -/
  twinId : Bool
  /-- Twin-mode strap (false = standalone) (01 R27) -/
  twinEn : Bool
  /-- BOOTSEL pins (12 R351) -/
  bootSel : BitVec 2
  deriving DecidableEq, Repr

/-- `Straps` at reset. -/
def Straps.reset : Straps where
  twinId := false
  twinEn := false
  bootSel := 0

/-- Consecutive overruns of one arm. (R38, 01_converter_and_dies.md.) -/
structure OverrunArm where
  /-- Consecutive cycles with an overrun (01 R38) -/
  run : Nat
  /-- This cycle already had an overrun on the arm (01 R38) -/
  inCycle : Bool
  deriving DecidableEq, Repr

/-- `OverrunArm` at reset. -/
def OverrunArm.reset : OverrunArm where
  run := 0
  inCycle := false

/-- The control cycle in progress. (R36, 01_converter_and_dies.md.) -/
structure Cycle where
  /-- 48-bit cycle counter (00 R16 cycle counter (Table 0-5)) -/
  k : Nat
  /-- CTB instant E(k) of the cycle in progress (01 R36) -/
  eK : Tick
  /-- Per arm (01 R38) -/
  overrun : List OverrunArm
  deriving DecidableEq, Repr

/-- `Cycle` at reset. -/
def Cycle.reset : Cycle where
  k := 0
  eK := 0
  overrun := List.replicate 3 OverrunArm.reset

end Sys2Proof.Machine
end

