-- ==== Sys2Proof/Machine/StCounters.lean ====
section
/-! DEFINITION. State of the device: counters and housekeeping. Plain data only; each field names the rule of spec/ that gives it. -/

namespace Sys2Proof.Machine

/-- One performance counter. (R455, 17_diagnostics_and_long_run.md.) -/
structure PmcCounter where
  /-- 48-bit value (17 R455) -/
  value : Nat
  /-- EVENT, EDGE, CHAIN, EN (17 PMC_CFG) -/
  cfg : BitVec 11
  /-- Overflow bit (17 PMC_OVF) -/
  ovf : Bool
  /-- Tick of the last write to the configuration, which applies from the next tick (17 R456) -/
  wrote : Option Tick
  deriving DecidableEq, Repr

/-- `PmcCounter` at reset. -/
def PmcCounter.reset : PmcCounter where
  value := 0
  cfg := 0
  ovf := false
  wrote := none

/-- An Anemometer dump being written. (R460, 17_diagnostics_and_long_run.md.) -/
structure Dump where
  /-- Dump sequence number (17 Table 17-3) -/
  seq : Nat
  /-- The CMD_PMC_DUMP that asked for it (17 R460) -/
  hdr : Option CmdHdr
  /-- The entry (17 Table 17-3) -/
  bytes : List (BitVec 8)
  /-- Host address of its slot (17 R460) -/
  addr : Nat
  deriving DecidableEq, Repr

/-- `Dump` at reset. -/
def Dump.reset : Dump where
  seq := 0
  hdr := none
  bytes := []
  addr := 0

/-- Counter blocks and the Anemometer. (R455, 17_diagnostics_and_long_run.md.) -/
structure Pmc where
  /-- Blocks 0 to 6 (17 R455) -/
  ctrs : List (List PmcCounter)
  /-- Level signals as last seen (17 R456) -/
  levels : List (List Bool)
  /-- Latched upper word of the page (17 R459) -/
  upper : BitVec 32
  /-- Ring address (17 PMC_DUMP_BASE_L) -/
  baseL : BitVec 32
  /-- Ring address (17 PMC_DUMP_BASE_H) -/
  baseH : BitVec 32
  /-- N (17 PMC_DUMP_SIZE) -/
  size : BitVec 32
  /-- Ring enable (17 PMC_DUMP_CTRL) -/
  on : Bool
  /-- Next sequence number (17 PMC_DUMP_SEQ) -/
  seq : BitVec 32
  /-- Last completed dump (17 Table 17-2) -/
  lastSeq : BitVec 32
  /-- Dumps skipped, saturating (17 PMC_DUMP_SKIP) -/
  skip : Nat
  /-- Write error (17 PMC_DUMP_STAT) -/
  err : Bool
  /-- Dump being written (17 PMC_DUMP_STAT) -/
  writing : Option Dump
  /-- CMD_PMC_DUMP waiting for its tick (17 R460) -/
  cmd : Option CmdHdr
  /-- When it started (17 R460) -/
  cmdFrom : Tick
  /-- Round whose dump has fallen due last (17 R460) -/
  dumped : Option Nat
  deriving DecidableEq, Repr

/-- `Pmc` at reset. -/
def Pmc.reset : Pmc where
  ctrs := List.replicate 7 (List.replicate 16 PmcCounter.reset)
  levels := List.replicate 7 (List.replicate 8 false)
  upper := 0
  baseL := 0
  baseH := 0
  size := 8
  on := false
  seq := 0
  lastSeq := 0
  skip := 0
  err := false
  writing := none
  cmd := none
  cmdFrom := 0
  dumped := none

/-- A drift tag. (R463, 17_diagnostics_and_long_run.md.) -/
structure DriftTag where
  /-- Tag number (17 Table 17-5) -/
  num : BitVec 16
  /-- Stream (17 Table 17-5) -/
  stream : Nat
  /-- Tagged cycle (17 Table 17-5) -/
  cyc : Nat
  /-- Its E(k) (17 Table 17-5) -/
  eK : Tick
  /-- T0 to T6 (17 Table 17-5) -/
  stamps : List (Option Nat)
  /-- Stream value at T1 (17 Table 17-5) -/
  v1 : Int
  /-- Stream value at T2 (17 Table 17-5) -/
  v2 : Int
  /-- INCOMPLETE (17 Table 17-5) -/
  incomplete : Bool
  /-- MISMATCH (17 Table 17-5) -/
  mismatch : Bool
  deriving DecidableEq, Repr

/-- `DriftTag` at reset. -/
def DriftTag.reset : DriftTag where
  num := 0
  stream := 0
  cyc := 0
  eK := 0
  stamps := List.replicate 7 none
  v1 := 0
  v2 := 0
  incomplete := false
  mismatch := false

/-- Drift tags. (R462, 17_diagnostics_and_long_run.md.) -/
structure Drift where
  /-- Draw register, seeded at reset from the identity (17 R462) -/
  lfsr : BitVec 32
  /-- Tag in flight (17 R462) -/
  tag : Option DriftTag
  /-- Next tag number (17 Table 17-5) -/
  next : BitVec 16
  /-- The 64 newest records, newest first (17 R463) -/
  trace : List DriftTag
  /-- Tags completed, saturating (17 HK_DRIFT_CNT) -/
  cnt : Nat
  /-- Tags INCOMPLETE, saturating (17 HK_DRIFT_INC) -/
  inc : Nat
  /-- Largest T4 (17 HK_DRIFT_MAX) -/
  max : Nat
  deriving DecidableEq, Repr

/-- `Drift` at reset. -/
def Drift.reset : Drift where
  lfsr := 0
  tag := none
  next := 0
  trace := []
  cnt := 0
  inc := 0
  max := 0

/-- A temperature sensor or supply monitor. (R468, 17_diagnostics_and_long_run.md.) -/
structure HkSensor where
  /-- Last reading, 0.1 °C or mV (17 HK_TEMP, HK_SUPPLY) -/
  last : Int
  /-- Previous good reading (17 R468) -/
  good : Option Int
  /-- Consecutive rounds with bad readings (17 R468) -/
  badRun : Nat
  /-- Consecutive rounds with good readings (17 R468) -/
  goodRun : Nat
  /-- Broken (17 HK_SENS_BROKEN) -/
  broken : Bool
  /-- Consecutive readings outside the window (rails) (17 R471) -/
  outRun : Nat
  /-- Consecutive readings inside (rails) (17 R471) -/
  inRun : Nat
  /-- Rail outside its window (17 HK_SUPPLY_OUT) -/
  out : Bool
  deriving DecidableEq, Repr

/-- `HkSensor` at reset. -/
def HkSensor.reset : HkSensor where
  last := 0
  good := none
  badRun := 0
  goodRun := 0
  broken := false
  outRun := 0
  inRun := 0
  out := false

/-- Die temperature state. (R469, 17_diagnostics_and_long_run.md.) -/
structure HkDie where
  /-- Die temperature of the last round, 0.1 °C (17 R467) -/
  temp : Int
  /-- WARN (17 HK_STAT) -/
  warn : Bool
  /-- STOP (17 HK_STAT) -/
  stop : Bool
  /-- RATE (17 HK_STAT) -/
  rate : Bool
  /-- Highest temperature, 0.1 °C (17 HK_TMAX) -/
  tmax : Int
  /-- Temperatures per round over the rate window, newest first (17 R469) -/
  hist : List Int
  deriving DecidableEq, Repr

/-- `HkDie` at reset. -/
def HkDie.reset : HkDie where
  temp := 0
  warn := false
  stop := false
  rate := false
  tmax := -32768
  hist := []

/-- Housekeeping and the Zephyr round. (R465, 17_diagnostics_and_long_run.md.) -/
structure Hk where
  /-- Temperature sensors (17 R467) -/
  sensors : List HkSensor
  /-- Supply monitors (17 R471) -/
  rails : List HkSensor
  /-- Dies in the order of HST_ST_DIES (17 R469) -/
  dies : List HkDie
  /-- Zephyr round number (17 HK_ROUND) -/
  round : Nat
  /-- Rounds whose tasks overran, saturating (17 HK_ROUND_LATE) -/
  late : Nat
  /-- Boundary that ended the round whose close is due (17 R465) -/
  closeAt : Option Tick
  /-- Cell after the one whose PRELOAD_CRC was verified last (07 R225) -/
  crcCell : Nat
  deriving DecidableEq, Repr

/-- `Hk` at reset. -/
def Hk.reset : Hk where
  sensors := List.replicate 16 HkSensor.reset
  rails := List.replicate 8 HkSensor.reset
  dies := List.replicate 8 HkDie.reset
  round := 0
  late := 0
  closeAt := none
  crcCell := 0

/-- Counters, drift tags and housekeeping. (R455, 17_diagnostics_and_long_run.md.) -/
structure Zephyr where
  /-- Counters (17 R455) -/
  pmc : Pmc
  /-- Drift tags (17 R462) -/
  drift : Drift
  /-- Housekeeping (17 R465) -/
  hk : Hk
  deriving DecidableEq, Repr

/-- `Zephyr` at reset. -/
def Zephyr.reset : Zephyr where
  pmc := Pmc.reset
  drift := Drift.reset
  hk := Hk.reset

end Sys2Proof.Machine
end

