-- ==== Sys2Proof/Machine/StLaw.lean ====
section
/-! DEFINITION. State of the device: the control law. Plain data only; each field names the rule of spec/ that gives it. -/

namespace Sys2Proof.Machine

/-- A dq (or alpha-beta) pair. (R73, 03_grid_forming_control.md.) -/
structure DQ where
  /-- D (or alpha) component (03 R73) -/
  d : Rat
  /-- Q (or beta) component (03 R73) -/
  q : Rat
  deriving DecidableEq, Repr

/-- `DQ` at reset. -/
def DQ.reset : DQ where
  d := 0
  q := 0

/-- The feedback vote of one phase, current or voltage. (R99, 03_grid_forming_control.md.) -/
structure Vote where
  /-- 0 main (converter side), 1 second (PCC), 2 model (03 HST_PLAUS_SEL) -/
  sel : Nat
  /-- Consecutive cycles main suspect (03 R100) -/
  mainSus : Nat
  /-- Consecutive cycles second suspect (03 R100) -/
  secSus : Nat
  /-- Consecutive cycles model suspect (03 R100) -/
  modSus : Nat
  deriving DecidableEq, Repr

/-- `Vote` at reset. -/
def Vote.reset : Vote where
  sel := 0
  mainSus := 0
  secSus := 0
  modSus := 0

/-- One feedback sensor. (R100, 03_grid_forming_control.md.) -/
structure Sensor where
  /-- Latched faulty (03 HST_PLAUS_FAULT) -/
  faulty : Bool
  /-- CMD_FEEDBACK_REARM accepted, not yet admitted (03 R100) -/
  rearmed : Bool
  /-- Consecutive agreeing cycles while rearmed (03 R100) -/
  agree : Nat
  deriving DecidableEq, Repr

/-- `Sensor` at reset. -/
def Sensor.reset : Sensor where
  faulty := false
  rearmed := false
  agree := 0

/-- One set-point. (R95, 03_grid_forming_control.md.) -/
structure SetSrc where
  /-- Set-point after source, limits and ramp, pu (03 HST_GF_PSET, HST_GF_QSET) -/
  active : Rat
  /-- SETP_x_FAIL (03 R96, HST_GF_STAT) -/
  failed : Bool
  /-- Last value before the failure (03 R96) -/
  held : Rat
  /-- Since when a failed source has met no failing condition (03 R97) -/
  goodFrom : Option Tick
  /-- X_LIMIT (03 R95, HST_GF_STAT) -/
  limit : Bool
  deriving DecidableEq, Repr

/-- `SetSrc` at reset. -/
def SetSrc.reset : SetSrc where
  active := 0
  failed := false
  held := 0
  goodFrom := none
  limit := false

/-- The states of the law (Table 3-3), which the checkpoint of R91 holds. (R88, 03_grid_forming_control.md.) -/
structure LawStates where
  /-- Velocity target, pu (03 Table 3-3, HST_GF_FREQ) -/
  omega : Rat
  /-- Low-pass of omega (03 R77) -/
  omegaF : Rat
  /-- Filtered p (03 R77, HST_GF_P) -/
  pF : Rat
  /-- Filtered q (03 R79, HST_GF_Q) -/
  qF : Rat
  /-- Voltage-restoration integrator (03 R79) -/
  xQv : Rat
  /-- EMF target, tracking (03 Table 3-3) -/
  e : Rat
  /-- Voltage-loop integrators (03 R82) -/
  xV : DQ
  /-- Current-loop integrators (03 R83) -/
  xI : DQ
  /-- Negative-sequence integrators (03 R83) -/
  xIneg : DQ
  /-- Resonant pairs (03 R84) -/
  res : List DQ
  /-- Model line currents (03 R98) -/
  iEst : List Rat
  /-- Selected currents of the previous cycle (03 R98) -/
  iSelPrev : List Rat
  /-- Selected voltages of the previous cycle (03 R98) -/
  vSelPrev : List Rat
  /-- Converter voltage sent in the previous cycle (03 R86) -/
  uPrev : DQ
  /-- Its negative-sequence part, in the frame at minus theta (03 R83, R86) -/
  unPrev : DQ
  /-- Rv in force, moving in 50 steps (03 R81) -/
  rv : Rat
  /-- Xv in force, moving in 50 steps (03 R81) -/
  xv : Rat
  /-- Committed Rv the steps aim at (03 R81) -/
  rvTarget : Rat
  /-- Committed Xv the steps aim at (03 R81) -/
  xvTarget : Rat
  /-- One of the 50 equal steps of Rv (03 R81) -/
  rvStep : Rat
  /-- One of the 50 equal steps of Xv (03 R81) -/
  xvStep : Rat
  /-- Steps left (03 R81) -/
  rampLeft : Nat
  /-- Active set-point (03 R95) -/
  p : SetSrc
  /-- Reactive set-point (03 R95) -/
  q : SetSrc
  deriving DecidableEq, Repr

/-- `LawStates` at reset. -/
def LawStates.reset : LawStates where
  omega := 1
  omegaF := 1
  pF := 0
  qF := 0
  xQv := 0
  e := 0
  xV := DQ.reset
  xI := DQ.reset
  xIneg := DQ.reset
  res := List.replicate 8 DQ.reset
  iEst := List.replicate 3 0
  iSelPrev := List.replicate 3 0
  vSelPrev := List.replicate 3 0
  uPrev := DQ.reset
  unPrev := DQ.reset
  rv := 0
  xv := 0
  rvTarget := 0
  xvTarget := 0
  rvStep := 0
  xvStep := 0
  rampLeft := 0
  p := SetSrc.reset
  q := SetSrc.reset

/-- The control law on Rafter. (R76, 03_grid_forming_control.md.) -/
structure Law where
  /-- LAW_RUNNING (03 R90, HST_GF_STAT) -/
  running : Bool
  /-- The states (03 R88) -/
  st : LawStates
  /-- The checkpoint of the cycle's start (03 R91) -/
  ckpt : LawStates
  /-- Clamp bits (03 R89, HST_GF_CLAMP) -/
  clamp : BitVec 8
  /-- States standing at their clamp (03 R89) -/
  atClamp : List Bool
  /-- Arm saturation flags of the cycle (03 R87) -/
  sat : List Bool
  /-- Current votes, L1 to L3 (03 R99) -/
  votesI : List Vote
  /-- Voltage votes, L1 to L3 (03 R101) -/
  votesV : List Vote
  /-- Sensors in the order of HST_PLAUS_FAULT (03 R100) -/
  sensors : List Sensor
  /-- MODEL_DEV (03 R100, HST_GF_STAT) -/
  modelDev : Bool
  /-- SENSORLESS_I (03 R102, HST_GF_STAT) -/
  slI : Bool
  /-- SENSORLESS_V (03 R102, HST_GF_STAT) -/
  slV : Bool
  /-- Consecutive sensorless cycles (03 R102, HST_SENSORLESS_CNT) -/
  slCnt : Nat
  /-- Sensorless entries, saturating (03 R102, HST_SENSORLESS_CNT) -/
  slEntries : Nat
  /-- Consecutive cycles in which every phase selected a sensor (03 R102) -/
  slGood : Nat
  /-- Largest measured cluster-0 time, clocks (03 R107, HST_GF_LOAD_MAX) -/
  loadMax : Nat
  /-- Reactive component i_r of stage 5, pu (04 R112) -/
  iR : Rat
  /-- Circulating current passed to Batten, pu (03 R85) -/
  circ : Rat
  /-- EMF target of the law (03 R79) -/
  e_t : Rat
  /-- Selected terminal voltage, alpha-beta (03 R113) -/
  vPll : DQ
  /-- Selected voltage and current, alpha-beta, of the last quarter period, newest first (03 R83, 04 R113) -/
  seqHist : List (DQ × DQ)
  /-- The limit reduced the reference in the last cycle, other than by the cap alone (04 R112) -/
  limited : Bool
  /-- Any part of the reference was reduced in the last cycle (04 R112) -/
  limitedAny : Bool
  /-- The references of this cycle have been sent (01 R38) -/
  evaluated : Bool
  deriving DecidableEq, Repr

/-- `Law` at reset. -/
def Law.reset : Law where
  running := false
  st := LawStates.reset
  ckpt := LawStates.reset
  clamp := 0
  atClamp := List.replicate 8 false
  sat := List.replicate 3 false
  votesI := List.replicate 3 Vote.reset
  votesV := List.replicate 3 Vote.reset
  sensors := List.replicate 12 Sensor.reset
  modelDev := false
  slI := false
  slV := false
  slCnt := 0
  slEntries := 0
  slGood := 0
  loadMax := 0
  iR := 0
  circ := 0
  e_t := 0
  vPll := DQ.reset
  seqHist := []
  limited := false
  limitedAny := false
  evaluated := false

end Sys2Proof.Machine
end

