-- ==== Sys2Proof/Machine/StGrid.lean ====
section
/-! DEFINITION. State of the device: ride-through, trajectory, breakers and sequences. Plain data only; each field names the rule of spec/ that gives it. -/

namespace Sys2Proof.Machine

/-- Ride-through. (R113, 04_ride_through_black_start_landing.md.) -/
structure Ride where
  /-- RIDE (04 HST_RT_STAT) -/
  active : Bool
  /-- CVI (04 HST_RT_STAT) -/
  cvi : Bool
  /-- I_LIMIT (04 HST_RT_STAT) -/
  iLimit : Bool
  /-- K_FLOOR (04 HST_RT_STAT) -/
  kFloor : Bool
  /-- NEG_INJ (04 HST_RT_STAT) -/
  negInj : Bool
  /-- RECOVERY (04 HST_RT_STAT) -/
  recovery : Bool
  /-- Positive-sequence magnitude, pu (04 R113, HST_RT_VPOS) -/
  vPos : Rat
  /-- Negative-sequence magnitude, pu (04 R113, HST_RT_VNEG) -/
  vNeg : Rat
  /-- Angle of the negative-sequence voltage, turns (04 R117) -/
  negAngle : Rat
  /-- Past alpha-beta voltages for the delayed-signal cancellation, newest first (04 R113) -/
  abHist : List DQ
  /-- PCC angle tracked by the loop, turns (04 R113) -/
  pllAngle : Rat
  /-- Grid frequency of the loop, pu (04 R113) -/
  pllFreq : Rat
  /-- Grid ROCOF, Hz/s (04 R113) -/
  pllRocof : Rat
  /-- PCC angle of the last cycle, turns (04 R113) -/
  pccAngle : Rat
  /-- RIDE entries, saturating (04 HST_RT_CNT) -/
  entries : Nat
  /-- Phase jumps, saturating (04 HST_RT_CNT) -/
  jumps : Nat
  /-- Last jump, 0.01 degree (04 HST_RT_JUMP) -/
  jump : Int
  /-- A jump was detected in this cycle (04 R114) -/
  jumpNow : Bool
  /-- Step of theta due in the next cycle, turns (04 R117) -/
  thetaStep : Rat
  /-- Consecutive cycles beyond rt.slip_angle (04 R117) -/
  slip : Nat
  /-- Start of RIDE (04 R118) -/
  since : Tick
  /-- Since when the exit conditions hold together (04 R118) -/
  exitFrom : Option Tick
  /-- Frozen EMF target (04 R115) -/
  eFrozen : Rat
  /-- Held x_qv (04 R115) -/
  xQvFrozen : Rat
  /-- Mean of v_pos before entry (04 R116) -/
  vPre : Rat
  /-- V_pos of the last 50 ms, newest first (04 R116) -/
  vHist : List Rat
  /-- Active-current recovery limit, pu (04 R118) -/
  iARec : Rat
  deriving DecidableEq, Repr

/-- `Ride` at reset. -/
def Ride.reset : Ride where
  active := false
  cvi := false
  iLimit := false
  kFloor := false
  negInj := false
  recovery := false
  vPos := 0
  vNeg := 0
  negAngle := 0
  abHist := []
  pllAngle := 0
  pllFreq := 1
  pllRocof := 0
  pccAngle := 0
  entries := 0
  jumps := 0
  jump := 0
  jumpNow := false
  thetaStep := 0
  slip := 0
  since := 0
  exitFrom := none
  eFrozen := 0
  xQvFrozen := 0
  vPre := 0
  vHist := []
  iARec := 6/5

/-- One segment of a move. (R122, 04_ride_through_black_start_landing.md.) -/
structure Segment where
  /-- DURATION, cycles (04 Table 4-2) -/
  dur : Nat
  /-- POS, end offset (04 Table 4-2) -/
  pos : Rat
  /-- VEL, end offset velocity (04 Table 4-2) -/
  vel : Rat
  deriving DecidableEq, Repr

/-- `Segment` at reset. -/
def Segment.reset : Segment where
  dur := 1
  pos := 0
  vel := 0

/-- One move. (R121, 04_ride_through_black_start_landing.md.) -/
structure Move where
  /-- On the amplitude axis (04 R121) -/
  amp : Bool
  /-- PCC-locked base (04 R121) -/
  locked : Bool
  /-- Queued by the host (04 R123) -/
  host : Bool
  /-- CTB instant named in the command (04 R123) -/
  start : Option Tick
  /-- Command tag or move id (04 R123) -/
  tag : Nat
  /-- Its segments (04 R122) -/
  segs : List Segment
  deriving DecidableEq, Repr

/-- `Move` at reset. -/
def Move.reset : Move where
  amp := false
  locked := false
  host := true
  start := none
  tag := 0
  segs := []

/-- One axis of the trajectory engine. (R119, 04_ride_through_black_start_landing.md.) -/
structure Axis where
  /-- 0 TRACK, 1 MOVE frozen, 2 MOVE PCC-locked (04 HST_TR_STAT) -/
  mode : Nat
  /-- The move in execution (04 R121) -/
  move : Option Move
  /-- Segment in execution (04 R122) -/
  seg : Nat
  /-- Its length now, cycles (04 R124) -/
  segDur : Nat
  /-- Cycles of the segment done (04 R122) -/
  segAt : Nat
  /-- Offset at the point the polynomial starts from (04 R122) -/
  pos0 : Rat
  /-- Offset velocity there (04 R122) -/
  vel0 : Rat
  /-- Offset (04 R121) -/
  off : Rat
  /-- Offset velocity (04 R121) -/
  offVel : Rat
  /-- Base position (phase: advance since the start, turns; amplitude: E) (04 R121) -/
  base : Rat
  /-- Velocity of a frozen phase base, pu (04 R121) -/
  baseVel : Rat
  /-- Applied position (amplitude axis: applied E) (04 R119) -/
  pos : Rat
  /-- Applied velocity (phase: frequency pu; amplitude: pu/s) (04 R119) -/
  vel : Rat
  /-- SLEW: the limit acts in this cycle (04 R120, HST_TR_STAT) -/
  slew : Bool
  /-- The limits changed: the remaining part is to be checked again (04 R124) -/
  replan : Bool
  deriving DecidableEq, Repr

/-- `Axis` at reset. -/
def Axis.reset : Axis where
  mode := 0
  move := none
  seg := 0
  segDur := 0
  segAt := 0
  pos0 := 0
  vel0 := 0
  off := 0
  offVel := 0
  base := 0
  baseVel := 0
  pos := 0
  vel := 0
  slew := false
  replan := false

/-- The trajectory engine. (R119, 04_ride_through_black_start_landing.md.) -/
structure Traj where
  /-- Phase axis (04 R119) -/
  phase : Axis
  /-- Amplitude axis (04 R119) -/
  amp : Axis
  /-- Queued moves, oldest first (04 R123) -/
  queue : List Move
  /-- STRETCH (04 R124, HST_TR_STAT) -/
  stretch : Bool
  /-- Cycles added to the current move (04 R124, HST_TR_STRETCH_T) -/
  stretchT : Nat
  /-- Host moves accepted, the number the last one got (11 Table 11-6, CMD_TR_MOVE) -/
  moveNo : Nat
  /-- 64-bit phase register (04 R126, HST_TR_THETA) -/
  theta64 : BitVec 64
  /-- Θ at E(k) (HST_TR_THETA) (04 R126) -/
  thetaK : BitVec 32
  /-- The loaded waveform table; none while the default sine stands (04 R126) -/
  table : Option (List Int)
  deriving DecidableEq, Repr

/-- `Traj` at reset. -/
def Traj.reset : Traj where
  phase := { Axis.reset with vel := 1 }
  amp := Axis.reset
  queue := []
  stretch := false
  stretchT := 0
  moveNo := 0
  theta64 := 0
  thetaK := 0
  table := none

/-- One breaker contact. (R127, 04_ride_through_black_start_landing.md.) -/
structure Contact where
  /-- Filtered level (04 R127) -/
  filt : Bool
  /-- Since when the filtered input holds it; none before the first sample (04 R127) -/
  filtFrom : Option Tick
  /-- Debounced state; none until the first (04 R129, HST_BRK_POS) -/
  deb : Option Bool
  /-- Filtered transitions within the chatter window, newest first (04 R127) -/
  trans : List Tick
  deriving DecidableEq, Repr

/-- `Contact` at reset. -/
def Contact.reset : Contact where
  filt := false
  filtFrom := none
  deb := none
  trans := []

/-- One breaker. (R127, 04_ride_through_black_start_landing.md.) -/
structure Breaker where
  /-- A-contact (04 R127) -/
  a : Contact
  /-- B-contact (04 R127) -/
  b : Contact
  /-- Start of TRAVEL with both contacts debounced (04 R128) -/
  travelFrom : Option Tick
  /-- FAULTY by discrepancy (04 HST_BRK_FAULT) -/
  discFault : Bool
  /-- FAULTY by chatter (04 HST_BRK_FAULT) -/
  chatFault : Bool
  /-- Last reported position (04 HST_BRK_POS) -/
  pos : Nat
  /-- Position changes, saturating (04 HST_BRK_CHG) -/
  changes : Nat
  /-- A close command waits for the boundary (04 R131) -/
  closeReq : Bool
  /-- Close output asserted (04 R131, HST_BRK_POS) -/
  closeOut : Bool
  /-- Instant of assertion (04 R131) -/
  closeFrom : Tick
  /-- Brk.close_max still runs (04 R131) -/
  closePend : Bool
  /-- Release at the next boundary (04 R131) -/
  release : Bool
  deriving DecidableEq, Repr

/-- `Breaker` at reset. -/
def Breaker.reset : Breaker where
  a := Contact.reset
  b := Contact.reset
  travelFrom := none
  discFault := false
  chatFault := false
  pos := 2
  changes := 0
  closeReq := false
  closeOut := false
  closeFrom := 0
  closePend := false
  release := false

/-- Black start and landing. (R134, 04_ride_through_black_start_landing.md.) -/
structure Seq where
  /-- Sequence phase (04 HST_SEQ_STAT) -/
  phase : Nat
  /-- Last abort reason (04 HST_SEQ_STAT) -/
  abort : Nat
  /-- Attempt counter (04 R135, HST_SEQ_STAT) -/
  attempts : BitVec 16
  /-- Start of the phase (04 R134) -/
  since : Tick
  /-- Entry into LANDING (04 R139) -/
  entry : Tick
  /-- Last drawn hold-off, ms (04 HST_BS_HOLDOFF) -/
  holdoff : Rat
  /-- Bus band: 0 dead, 1 indeterminate, 2 live (04 R133) -/
  band : Nat
  /-- Since when the bus is dead (04 R134) -/
  deadFrom : Option Tick
  /-- Since when the bus is live (04 R134) -/
  liveFrom : Option Tick
  /-- Late-live catch done (04 R136) -/
  caught : Bool
  /-- The close command was withdrawn (04 R140) -/
  withdrawn : Bool
  /-- Since when the differences are in the window (04 R138) -/
  dwellFrom : Option Tick
  /-- Instant of the next trim measurement (04 R138) -/
  trimAt : Tick
  /-- Difference in angle, degrees (04 HST_LAND_DTHETA) -/
  dTheta : Rat
  /-- Difference in magnitude, pu (04 HST_LAND_DV) -/
  dV : Rat
  /-- Difference in frequency, Hz (04 HST_LAND_DF) -/
  dF : Rat
  /-- Squares of the PCC streams over one nominal period, per phase, newest first (04 R133) -/
  pccSq : List (List Rat)
  /-- The abort hold is over and E ramps to 0 (04 R139) -/
  rampDown : Bool
  /-- Converter-side alpha-beta voltages for the differences, newest first (04 R138) -/
  convHist : List DQ
  /-- Angle of the converter-side streams in the last cycle, turns (04 R138) -/
  convAngle : Rat
  deriving DecidableEq, Repr

/-- `Seq` at reset. -/
def Seq.reset : Seq where
  phase := 0
  abort := 0
  attempts := 0
  since := 0
  entry := 0
  holdoff := 0
  band := 0
  deadFrom := none
  liveFrom := none
  caught := false
  withdrawn := false
  dwellFrom := none
  trimAt := 0
  dTheta := 0
  dV := 0
  dF := 0
  pccSq := List.replicate 3 []
  rampDown := false
  convHist := []
  convAngle := 0

/-- Ride-through, trajectory engine, breakers and sequences. (R113, 04_ride_through_black_start_landing.md.) -/
structure Grid where
  /-- Ride-through (04 R113) -/
  ride : Ride
  /-- Trajectory engine (04 R119) -/
  tr : Traj
  /-- Breakers 0 and 1 (04 R127) -/
  brk : List Breaker
  /-- Sequences (04 R134) -/
  seq : Seq
  deriving DecidableEq, Repr

/-- `Grid` at reset. -/
def Grid.reset : Grid where
  ride := Ride.reset
  tr := Traj.reset
  brk := List.replicate 2 Breaker.reset
  seq := Seq.reset

end Sys2Proof.Machine
end

