-- ==== Sys2Proof/Machine/StModulation.lean ====
section
/-! DEFINITION. State of the device: cell modulation. Plain data only; each field names the rule of spec/ that gives it. -/

namespace Sys2Proof.Machine

/-- One commanded edge. (R145, 05_cell_modulation.md.) -/
structure Edge where
  /-- Offset from E(k+1), ticks (05 R145) -/
  off : Nat
  /-- Target state code (05 Table 5-1) -/
  state : Nat
  deriving DecidableEq, Repr

/-- `Edge` at reset. -/
def Edge.reset : Edge where
  off := 0
  state := 7

/-- Batten's cell-table entry. (R147, 05_cell_modulation.md.) -/
structure CellRow where
  /-- State of charge, pu (05 R147) -/
  soc : Rat
  /-- State of health, pu (05 R147) -/
  soh : Rat
  /-- Rs over the profile's reference (05 R147) -/
  rsRel : Rat
  /-- IN_CHG_WIN (06 R180) -/
  chgWin : Bool
  /-- IN_DIS_WIN (06 R180) -/
  disWin : Bool
  /-- PACK_OK (05 R147) -/
  packOk : Bool
  /-- Inverse capacity of the estimate, 1/Ah (05 R150) -/
  qInv : Rat
  /-- DC voltage of the last validated status, V (05 R147) -/
  vdc : Rat
  deriving DecidableEq, Repr

/-- `CellRow` at reset. -/
def CellRow.reset : CellRow where
  soc := 0
  soh := 0
  rsRel := 0
  chgWin := false
  disWin := false
  packOk := false
  qInv := 0
  vdc := 0

/-- Modulation state of one cell. (R148, 05_cell_modulation.md.) -/
structure ModCell where
  /-- Cell-table entry (05 R147) -/
  row : CellRow
  /-- Rest for PACK_OK or V_dc limits: cycles since the cause is gone (05 Table 5-3) -/
  restPack : Option Nat
  /-- Rest for BS_LOW: cycles of the rest (05 Table 5-3) -/
  restBs : Option Nat
  /-- BS_LOW in the last validated status (05 R158) -/
  bsLow : Bool
  /-- Bootstrap rotation: cycles of rest left (05 R157) -/
  restRot : Option Nat
  /-- Rest for missing statuses: cycles of valid status (05 Table 5-3) -/
  restMiss : Option Nat
  /-- Consecutive cycles with no valid status (05 Table 5-3) -/
  missRun : Nat
  /-- Rest after CMD_CELL_RETURN: cycles left (05 R171) -/
  restReturn : Option Nat
  /-- BYPASSED (05 Table 5-3) -/
  bypassed : Bool
  /-- Step of the bypass sequence, 0 none (05 Table 5-5) -/
  bypStep : Nat
  /-- Step 1 used ZL (05 Table 5-5) -/
  bypZl : Bool
  /-- Start of step 2 (05 Table 5-5) -/
  bypFrom : Tick
  /-- BP was not reported closed in time (05 R163) -/
  bypFailed : Bool
  /-- Cause of the bypass (05 R163) -/
  bypCause : Nat
  /-- State the schedules command at the end of the last one computed (05 R145) -/
  cmdState : Nat
  /-- Instant of the last commanded edge, ticks (05 R154) -/
  lastEdge : Int
  /-- Switching-budget counter (05 R151) -/
  budget : Rat
  /-- End of the last full off interval of S1 (05 R157) -/
  offS1 : Tick
  /-- End of the last full off interval of S3 (05 R157) -/
  offS3 : Tick
  /-- State at the end of the schedule launched last (05 R157) -/
  endState : Nat
  /-- Off time of S1 that runs at that end, µs, up to mod.bs_refresh (05 R157) -/
  runS1 : Rat
  /-- Off time of S3 that runs at that end, µs, up to mod.bs_refresh (05 R157) -/
  runS3 : Rat
  /-- Edges computed for the next cycle (05 R145) -/
  sched : List Edge
  /-- Edges launched at the last load-all (05 R159) -/
  sent : List Edge
  /-- Edges launched at the load-all before (01 R38) -/
  sentPrev : List Edge
  /-- Edges launched two load-alls before (06 R190) -/
  sentOld : List Edge
  /-- State at the start of the interval the next report covers (06 R190) -/
  state0 : Nat
  /-- CELL_TEST in the slots (12 R359) -/
  cellTest : Bool
  deriving DecidableEq, Repr

/-- `ModCell` at reset. -/
def ModCell.reset : ModCell where
  row := CellRow.reset
  restPack := none
  restBs := none
  bsLow := false
  restRot := none
  restMiss := none
  missRun := 0
  restReturn := none
  bypassed := false
  bypStep := 0
  bypZl := false
  bypFrom := 0
  bypFailed := false
  bypCause := 0
  cmdState := 0
  lastEdge := 0
  budget := 0
  offS1 := 0
  offS3 := 0
  endState := 0
  runS1 := 0
  runS3 := 0
  sched := []
  sent := []
  sentPrev := []
  sentOld := []
  state0 := 0
  cellTest := false

/-- An arm record (Table 5-2) with the reference of R87. (R146, 05_cell_modulation.md.) -/
structure ArmRecord where
  /-- Start value, V (05 Table 5-2) -/
  v0 : Rat
  /-- Slope, V/µs (05 Table 5-2) -/
  slope : Rat
  /-- Predicted arm current, A (05 Table 5-2) -/
  ip : Rat
  /-- Circulating-current reference, A (05 Table 5-2) -/
  i0ref : Rat
  /-- Its slope, A/µs (05 Table 5-2) -/
  i0slope : Rat
  /-- Measured circulating current, A (05 Table 5-2) -/
  i0 : Rat
  /-- An active reference (03 R90) -/
  active : Bool
  deriving DecidableEq, Repr

/-- `ArmRecord` at reset. -/
def ArmRecord.reset : ArmRecord where
  v0 := 0
  slope := 0
  ip := 0
  i0ref := 0
  i0slope := 0
  i0 := 0
  active := false

/-- Modulation state of one arm. (R152, 05_cell_modulation.md.) -/
structure ModArm where
  /-- Record in use (05 R146) -/
  record : ArmRecord
  /-- The record of this cycle has arrived (01 R38) -/
  arrived : Bool
  /-- The schedule of this cycle is complete (01 R38) -/
  scheduled : Bool
  /-- Carried residue, V·µs (05 R156) -/
  rho : Rat
  /-- Residue at the last load-all (05 HST_MOD_RESIDUE) -/
  rhoShown : Rat
  /-- SAT in this cycle (05 HST_MOD_STAT) -/
  sat : Bool
  /-- RES_CLAMP since last cleared (05 HST_MOD_STAT) -/
  resClamp : Bool
  /-- A residue clamp that the next load-all shows (05 R156, R172) -/
  resPend : Bool
  /-- Carrier mode: centre (05 HST_MOD_STAT) -/
  centre : Bool
  /-- Boundary at which centre mode began (05 R162) -/
  centreFrom : Tick
  /-- Cycles of centre mode left after a resume (08 R247) -/
  recoverLeft : Nat
  /-- Redundancy state 0 FULL, 1 DERATED, 2 undervoltage (05 HST_MOD_STAT) -/
  redund : Nat
  /-- Band the sum stands in (05 R165) -/
  redNew : Nat
  /-- Consecutive load-alls in that band (05 R165) -/
  redRun : Nat
  /-- S_dis of the availability record, V (05 R160) -/
  sDis : Rat
  /-- S_chg (05 R160) -/
  sChg : Rat
  /-- S_both (05 R160) -/
  sBoth : Rat
  /-- AVAILABLE cells (05 HST_MOD_AVAIL) -/
  nAvail : Nat
  /-- RESTED cells (05 HST_MOD_AVAIL) -/
  nRest : Nat
  /-- BYPASSED cells (05 HST_MOD_AVAIL) -/
  nByp : Nat
  /-- Applied circulating-current voltage, V (05 R160) -/
  vcApplied : Rat
  deriving DecidableEq, Repr

/-- `ModArm` at reset. -/
def ModArm.reset : ModArm where
  record := ArmRecord.reset
  arrived := false
  scheduled := false
  rho := 0
  rhoShown := 0
  sat := false
  resClamp := false
  resPend := false
  centre := false
  centreFrom := 0
  recoverLeft := 0
  redund := 0
  redNew := 0
  redRun := 0
  sDis := 0
  sChg := 0
  sBoth := 0
  nAvail := 0
  nRest := 0
  nByp := 0
  vcApplied := 0

/-- Modulation on Batten. (R143, 05_cell_modulation.md.) -/
structure Modu where
  /-- The 384 cells (05 R143) -/
  cells : List ModCell
  /-- The arms (05 R152) -/
  arms : List ModArm
  /-- Arm records on their way to Batten (05 R146) -/
  sentRecs : List ArmRecord
  /-- First arm record of the cycle to arrive (05 R168) -/
  first : Option ArmRecord
  /-- Integrator of the circulating-current loop, pu (05 R168) -/
  xC : Rat
  /-- V_c limited in the last cycle (05 R168) -/
  xCclamp : Bool
  /-- Circulating-current voltage applied to the arms, V (05 R168) -/
  vcNow : Rat
  /-- Its change over the cycle, V (05 R168) -/
  vcStep : Rat
  /-- Integrator of the outer balance loop (05 R166) -/
  xAb : DQ
  /-- Output of the outer balance loop (05 R166) -/
  dpAb : DQ
  /-- BAL_IDLE (05 HST_MOD_STAT) -/
  balIdle : Bool
  /-- The output limit acts (05 R166) -/
  balLimited : Bool
  /-- Pulses removed, saturating (05 HST_MOD_DROP) -/
  drop : Nat
  /-- Pulses extended, saturating (05 HST_MOD_EXTEND) -/
  extend : Nat
  /-- Arm-cycles with SAT, saturating (05 HST_MOD_SATCNT) -/
  satCnt : Nat
  /-- Residue clamps, saturating (05 HST_MOD_RESCLAMP) -/
  resCnt : Nat
  /-- Rotations, saturating (05 HST_BS_ROT) -/
  rot : Nat
  /-- Forced refreshes, saturating (05 HST_BS_FORCED) -/
  forced : Nat
  /-- Cycles with a budget-limited cell moved, saturating (05 HST_MOD_BUDGET) -/
  budgetCnt : Nat
  /-- A budget-limited cell was moved in this cycle (05 R151) -/
  budgetNow : Bool
  /-- Table 5-9 as the last load-all left it: 17 words from 0x6000, then the BYPASSED and the RESTED masks (05 R172) -/
  shown : List Nat
  /-- Reference overruns counted (01 R38) -/
  refOverruns : Nat
  /-- Schedule overruns counted (01 R38) -/
  schedOverruns : Nat
  /-- Load-all of this cycle done (05 R159) -/
  loaded : Bool
  deriving DecidableEq, Repr

/-- `Modu` at reset. -/
def Modu.reset : Modu where
  cells := List.replicate 384 ModCell.reset
  arms := List.replicate 3 ModArm.reset
  sentRecs := List.replicate 3 ArmRecord.reset
  first := none
  xC := 0
  xCclamp := false
  vcNow := 0
  vcStep := 0
  xAb := DQ.reset
  dpAb := DQ.reset
  balIdle := false
  balLimited := false
  drop := 0
  extend := 0
  satCnt := 0
  resCnt := 0
  rot := 0
  forced := 0
  budgetCnt := 0
  budgetNow := false
  shown := List.replicate 41 0
  refOverruns := 0
  schedOverruns := 0
  loaded := false

end Sys2Proof.Machine
end

