-- ==== Sys2Proof/Machine/StLink.lean ====
section
/-! DEFINITION. State of the device: the cell links. Plain data only; each field names the rule of spec/ that gives it. -/

namespace Sys2Proof.Machine

/-- One tunnel record. (R223, 07_dunrylink.md.) -/
structure TunRec where
  /-- OWNER (07 R223) -/
  owner : Nat
  /-- UP (07 R223) -/
  up : Bool
  /-- IDE (07 R223) -/
  ide : Bool
  /-- DLC (07 R223) -/
  dlc : Nat
  /-- Identifier (07 R223) -/
  canId : BitVec 29
  /-- Data bytes 6 to 13, byte 6 in the low byte (07 R223) -/
  data : BitVec 64
  /-- STAMP (07 R223) -/
  stamp : BitVec 32
  deriving DecidableEq, Repr

/-- `TunRec` at reset. -/
def TunRec.reset : TunRec where
  owner := 255
  up := false
  ide := false
  dlc := 0
  canId := 0
  data := 0
  stamp := 0

/-- A CAN frame waiting for a pack. (R224, 07_dunrylink.md.) -/
structure DownFrame where
  /-- The record (07 R224) -/
  fr : TunRec
  /-- 0 or 1: a copy of that transmit frame; 2: raw (06 R185) -/
  tx : Nat
  deriving DecidableEq, Repr

/-- `DownFrame` at reset. -/
def DownFrame.reset : DownFrame where
  fr := TunRec.reset
  tx := 2

/-- A slow-channel request. (R225, 07_dunrylink.md.) -/
structure SlowReq where
  /-- TARGET (07 R225) -/
  target : Nat
  /-- OP (07 R225) -/
  op : Nat
  /-- ADDR (07 R225) -/
  addr : Nat
  /-- LEN (07 R225) -/
  len : Nat
  /-- TAG (07 R225) -/
  tag : Nat
  /-- DATA, byte 6 in the low byte (07 R225) -/
  data : BitVec 384
  deriving DecidableEq, Repr

/-- `SlowReq` at reset. -/
def SlowReq.reset : SlowReq where
  target := 255
  op := 0
  addr := 0
  len := 0
  tag := 0
  data := 0

/-- A host node transaction in progress. (R225, 07_dunrylink.md.) -/
structure NodeTxn where
  /-- Ring (11 R329) -/
  ring : Nat
  /-- Request (07 R225) -/
  req : SlowReq
  /-- The command (11 R329) -/
  hdr : CmdHdr
  /-- Host buffer (11 R329) -/
  addr : Nat
  /-- Consecutive frames with no answer (11 R329) -/
  missed : Nat
  /-- SEQ of the frame that carried it last (07 R225) -/
  sentSeq : Option (BitVec 16)
  deriving DecidableEq, Repr

/-- `NodeTxn` at reset. -/
def NodeTxn.reset : NodeTxn where
  ring := 0
  req := SlowReq.reset
  hdr := CmdHdr.reset
  addr := 0
  missed := 0
  sentSeq := none

/-- What the device knows of one node. (R222, 07_dunrylink.md.) -/
structure NodeInfo where
  /-- The node answered (07 R222) -/
  present : Bool
  /-- RES_P, ns (07 R221) -/
  resP : Rat
  /-- RES_Q, ns (07 R221) -/
  resQ : Rat
  /-- HOP_P, ns (07 R221) -/
  hopP : Rat
  /-- HOP_Q, ns (07 R221) -/
  hopQ : Rat
  /-- Preload acknowledged (12 R358) -/
  preloaded : Bool
  /-- RUN_EN written (12 R358) -/
  runEn : Bool
  /-- Capabilities (07 Table 7-8) -/
  caps : BitVec 16
  deriving DecidableEq, Repr

/-- `NodeInfo` at reset. -/
def NodeInfo.reset : NodeInfo where
  present := false
  resP := 0
  resQ := 0
  hopP := 0
  hopQ := 0
  preloaded := false
  runEn := false
  caps := 0

/-- A validated status slot. (R205, 07_dunrylink.md.) -/
structure Slot where
  /-- FLAGS (07 Table 7-5) -/
  flags : BitVec 16
  /-- VDC (07 Table 7-5) -/
  vdc : Nat
  /-- Executed edges (07 Table 7-5) -/
  exec : List Edge
  /-- TSW_ON, ns (07 Table 7-5) -/
  tswOn : Nat
  /-- TSW_OFF, ns (07 Table 7-5) -/
  tswOff : Nat
  /-- TIME_DIFF, 10 ps (07 Table 7-5) -/
  timeDiff : Int
  /-- TEMP, °C (07 Table 7-5) -/
  temp : Int
  /-- EXEC_SEQ (07 Table 7-5) -/
  execSeq : BitVec 8
  deriving DecidableEq, Repr

/-- `Slot` at reset. -/
def Slot.reset : Slot where
  flags := 0
  vdc := 0
  exec := []
  tswOn := 0
  tswOff := 0
  timeDiff := 0
  temp := 0
  execSeq := 0

/-- The reports of one node. (R208, 07_dunrylink.md.) -/
structure NodeView where
  /-- Registers read (07 R222) -/
  info : NodeInfo
  /-- Last validated status (01 R39) -/
  last : Option Slot
  /-- SEQ of the frame it came in (07 R208) -/
  lastSeq : BitVec 16
  /-- A P copy was used (07 R208) -/
  fromP : Bool
  /-- Validated for the cycle in progress (01 R39) -/
  fresh : Bool
  /-- One cycle old (01 R39) -/
  aged : Bool
  /-- VDC and BS_LOW of a status validated late, for the cell table at the next cycle start (07 R220) -/
  lateRow : Option (Nat × Bool)
  /-- STAMPs of uplink frames taken, for the discard of second copies (07 R224) -/
  stamps : List (BitVec 32)
  /-- Downlink queue, oldest first (07 R224) -/
  down : List DownFrame
  /-- DESAT, DRV_FAULT, CHOP_ESC seen set (07 R206) -/
  latched : BitVec 3
  deriving DecidableEq, Repr

/-- `NodeView` at reset. -/
def NodeView.reset : NodeView where
  info := NodeInfo.reset
  last := none
  lastSeq := 0
  fromP := false
  fresh := false
  aged := false
  lateRow := none
  stamps := []
  down := []
  latched := 0

/-- A frame launched at the last load-all. (R203, 07_dunrylink.md.) -/
structure TxFrame where
  /-- RING (07 Table 7-3) -/
  ring : Nat
  /-- DIR (07 Table 7-3) -/
  q : Bool
  /-- MEMBER (07 Table 7-3) -/
  member : Bool
  /-- FTYPE (07 Table 7-3) -/
  ftype : Nat
  /-- ACTIVE (07 Table 7-3) -/
  active : Bool
  /-- SEQ (07 Table 7-3) -/
  seq : BitVec 16
  /-- RESUME (07 Table 7-3) -/
  resume : Bool
  /-- HDM (07 Table 7-3) -/
  hdm : Bool
  /-- RELAYED (07 Table 7-3) -/
  relayed : Bool
  /-- TC_STEPS (07 Table 7-3) -/
  tcSteps : Nat
  /-- E_NEXT (07 Table 7-3) -/
  eNext : Tick
  /-- T_TX (07 Table 7-3) -/
  tTx : Tick
  /-- CORR, 2^-16 ns; 0 in a discovery frame, whose byte 24 is HOP (07 R213) -/
  corr : Nat
  /-- Command slots, bytes 0 to 17 (07 Table 7-4) -/
  slots : List (BitVec 144)
  /-- Tunnel records (07 R223) -/
  tun : List TunRec
  /-- Slow channel (07 R225) -/
  slow : SlowReq
  /-- The 1,628 bytes between SOF and EOF (07 Table 7-2) -/
  wire : List (BitVec 8)
  deriving DecidableEq, Repr

/-- `TxFrame` at reset. -/
def TxFrame.reset : TxFrame where
  ring := 0
  q := false
  member := false
  ftype := 1
  active := true
  seq := 0
  resume := false
  hdm := false
  relayed := false
  tcSteps := 200
  eNext := 0
  tTx := 0
  corr := 0
  slots := []
  tun := []
  slow := SlowReq.reset
  wire := []

/-- One ring. (R230, 07_dunrylink.md.) -/
structure Ring where
  /-- P lock (07 HST_LNK_STAT) -/
  pLock : Bool
  /-- Q lock (07 HST_LNK_STAT) -/
  qLock : Bool
  /-- P frames returning (07 HST_LNK_STAT) -/
  pRet : Bool
  /-- Q frames returning (07 HST_LNK_STAT) -/
  qRet : Bool
  /-- WRAP (07 HST_LNK_STAT) -/
  wrap : Bool
  /-- Failed timing condition, 0 none (07 HST_LNK_STAT) -/
  timingFail : Nat
  /-- DISC_DONE (07 HST_LNK_STAT) -/
  discDone : Bool
  /-- DISC_FAULT (07 HST_LNK_STAT) -/
  discFault : Bool
  /-- Cells found, 33 for more than 32 (07 HST_LNK_STAT) -/
  found : Nat
  /-- Last position served by P frames during wrap (07 HST_LNK_STAT) -/
  breakPos : Option Nat
  /-- Returning HOP of the P direction (07 R222) -/
  hopRetP : Option Nat
  /-- Returning HOP of the Q direction (07 R222) -/
  hopRetQ : Option Nat
  /-- Frame CRC failures on P, saturating (07 HST_LNK_FCRC) -/
  fcrcP : Nat
  /-- Frame CRC failures on Q, saturating (07 HST_LNK_FCRC) -/
  fcrcQ : Nat
  /-- Slot CRC failures on P, saturating (07 HST_LNK_SCRC) -/
  scrcP : Nat
  /-- Slot CRC failures on Q, saturating (07 HST_LNK_SCRC) -/
  scrcQ : Nat
  /-- Frames validated late, saturating (07 HST_LNK_LATE) -/
  late : Nat
  /-- Frames missing, saturating (07 HST_LNK_LATE) -/
  missing : Nat
  /-- D_f, ns (07 HST_LNK_DF) -/
  df : Rat
  /-- Last load-all to frame-end validation, ns (07 HST_LNK_RET) -/
  ret : Nat
  /-- A frame came back at the P receiver in this cycle (07 R229) -/
  gotP : Bool
  /-- A frame came back at the Q receiver in this cycle (07 R229) -/
  gotQ : Bool
  /-- A P frame came back at the P receiver since the load-all (07 R220) -/
  dirP : Bool
  /-- A Q frame came back at the Q receiver since the load-all (07 R220) -/
  dirQ : Bool
  /-- Next slow-channel transaction of discovery or preload (12 R358) -/
  preStep : Nat
  /-- Failed PRELOAD_CRC attempts of the node (12 R358) -/
  preTry : Nat
  /-- Frames without an answer to that transaction (12 R358) -/
  preMiss : Nat
  /-- Not used (12 R358) -/
  excluded : Bool
  /-- Squall received (07 HST_LNK_SQUALL) -/
  squall : Bool
  deriving DecidableEq, Repr

/-- `Ring` at reset. -/
def Ring.reset : Ring where
  pLock := false
  qLock := false
  pRet := false
  qRet := false
  wrap := false
  timingFail := 0
  discDone := false
  discFault := false
  found := 0
  breakPos := none
  hopRetP := none
  hopRetQ := none
  fcrcP := 0
  fcrcQ := 0
  scrcP := 0
  scrcQ := 0
  late := 0
  missing := 0
  df := 0
  ret := 0
  gotP := false
  gotQ := false
  dirP := false
  dirQ := false
  preStep := 0
  preTry := 0
  preMiss := 0
  excluded := true
  squall := false

/-- The Dunrylink side of the device. (R199, 07_dunrylink.md.) -/
structure Link where
  /-- The rings (07 R230) -/
  rings : List Ring
  /-- The nodes (07 R208) -/
  nodes : List NodeView
  /-- Frames launched at the last load-all (07 R203) -/
  tx : List TxFrame
  /-- Largest HST_LNK_RET, ns (07 HST_LNK_RET_MAX) -/
  retMax : Nat
  /-- Largest |TIME_DIFF| of the last round, 10 ps (07 HST_LNK_TDIFF) -/
  tdMax : Nat
  /-- Its cell (07 HST_LNK_TDIFF) -/
  tdCell : Nat
  /-- Largest |TIME_DIFF| of the round in progress (07 HST_LNK_TDIFF) -/
  tdMaxNow : Nat
  /-- Its cell (07 HST_LNK_TDIFF) -/
  tdCellNow : Nat
  /-- Host node transactions, oldest first (11 R329) -/
  txns : List NodeTxn
  /-- Last PRS sent: ring, receive lane is Q, tag, instant (07 R214) -/
  prsTag : Option (Nat × Bool × Nat × Tick)
  /-- Discovery frames still to send (07 R222) -/
  discLeft : Nat
  /-- PRELOAD_CRC verification in progress: ring, position (07 R225) -/
  crcVerify : Option (Nat × Nat)
  deriving DecidableEq, Repr

/-- `Link` at reset. -/
def Link.reset : Link where
  rings := List.replicate 12 Ring.reset
  nodes := List.replicate 384 NodeView.reset
  tx := []
  retMax := 0
  tdMax := 0
  tdCell := 0
  tdMaxNow := 0
  tdCellNow := 0
  txns := []
  prsTag := none
  discLeft := 0
  crcVerify := none

end Sys2Proof.Machine
end

