-- ==== Sys2Proof/Machine/StIntegrity.lean ====
section
/-! DEFINITION. State of the device: errors and security. Plain data only; each field names the rule of spec/ that gives it. -/

namespace Sys2Proof.Machine

/-- An error queued or in handling. (R436, 16_integrity_and_security.md.) -/
structure ErrEntry where
  /-- Error code (16 R438) -/
  code : Nat
  /-- Class after escalation (16 R439) -/
  cls : Nat
  /-- Class of the code (16 R438) -/
  cls0 : Nat
  /-- Unit: die in the order of HST_ST_DIES (16 R438) -/
  die : Nat
  /-- Second die of the unit (0x0061) (16 R438) -/
  die2 : Option Nat
  /-- Island of the reporter (16 Table 16-4) -/
  island : Nat
  /-- Kind (16 Table 16-4) -/
  kind : Nat
  /-- Index (16 Table 16-4) -/
  index : Nat
  /-- Detail (16 Table 16-4) -/
  detail : BitVec 32
  /-- CTB at detection (16 R439) -/
  detected : Tick
  /-- Merged reports (16 R436) -/
  merged : Nat
  /-- Count of the entry (16 R436) -/
  count : Nat
  /-- Escalated (16 R439) -/
  escalated : Bool
  /-- Log sequence number of the parent, 0xFFFF none (16 R439) -/
  parent : Nat
  /-- Code and detection instant of a parent not logged yet (16 R439) -/
  parentOf : Option (Nat × Nat)
  /-- When the handler took it (16 R436) -/
  taken : Option Tick
  deriving DecidableEq, Repr

/-- `ErrEntry` at reset. -/
def ErrEntry.reset : ErrEntry where
  code := 0
  cls := 0
  cls0 := 0
  die := 0
  die2 := none
  island := 0
  kind := 0
  index := 0
  detail := 0
  detected := 0
  merged := 0
  count := 1
  escalated := false
  parent := 0xFFFF
  parentOf := none
  taken := none

/-- An error-log entry (Table 16-4). (R441, 16_integrity_and_security.md.) -/
structure LogEntry where
  /-- Log sequence number (16 Table 16-4) -/
  seq : Nat
  /-- CTB at detection (16 Table 16-4) -/
  ctb : Tick
  /-- Code (16 Table 16-4) -/
  code : Nat
  /-- Class logged (16 Table 16-4) -/
  cls : Nat
  /-- Class of the code (16 Table 16-4) -/
  cls0 : Nat
  /-- Escalated (16 Table 16-4) -/
  escalated : Bool
  /-- Action completed (16 Table 16-4) -/
  done : Bool
  /-- Island (16 Table 16-4) -/
  island : Nat
  /-- Kind (16 Table 16-4) -/
  kind : Nat
  /-- Index (16 Table 16-4) -/
  index : Nat
  /-- Reports merged (16 Table 16-4) -/
  merged : Nat
  /-- Detail (16 Table 16-4) -/
  detail : BitVec 32
  /-- Handling time, 10 ns (16 Table 16-4) -/
  time : Nat
  /-- Parent (16 Table 16-4) -/
  parent : Nat
  deriving DecidableEq, Repr

/-- `LogEntry` at reset. -/
def LogEntry.reset : LogEntry where
  seq := 0
  ctb := 0
  code := 0
  cls := 0
  cls0 := 0
  escalated := false
  done := true
  island := 0
  kind := 0
  index := 0
  merged := 0
  detail := 0
  time := 0
  parent := 0xFFFF

/-- Errors and the handler. (R436, 16_integrity_and_security.md.) -/
structure Eh where
  /-- Queue of at most 32 entries, oldest first (16 R436, HST_EH_STAT) -/
  queue : List ErrEntry
  /-- The entry the handler has taken (16 R436, HST_EH_STAT) -/
  handling : Option ErrEntry
  /-- FATAL (16 HST_EH_STAT) -/
  fatal : Bool
  /-- Log restored at reset (16 HST_EH_STAT) -/
  restored : Bool
  /-- Log overwrite since reset (16 HST_EH_STAT) -/
  overwrite : Bool
  /-- Handler-fault cause (16 HST_EH_STAT) -/
  cause : Nat
  /-- The handler has stopped (fall-back, or a handler fault) (16 R440) -/
  stopped : Bool
  /-- Dies degraded (16 HST_EH_DEGRADED) -/
  degraded : BitVec 8
  /-- Errors per class, saturating (16 HST_EH_CNT) -/
  cnt : List Nat
  /-- Escalations, saturating (16 HST_EH_ESC) -/
  esc : Nat
  /-- The log, oldest first (16 R441) -/
  log : List LogEntry
  /-- Number of the newest entry (16 HST_EH_LOG_SEQ) -/
  logSeq : Nat
  /-- Number of the next entry (16 R441) -/
  logNext : Nat
  /-- Entries not stored, saturating (16 HST_EH_LOST) -/
  lost : Nat
  /-- Code of the newest entry (16 HST_EH_LAST) -/
  lastCode : Nat
  /-- Class of the newest entry (16 HST_EH_LAST) -/
  lastCls : Nat
  /-- Longest handling, ns (16 HST_EH_HANDLE_MAX) -/
  handleMax : Nat
  /-- Merged reports, saturating (16 HST_EH_MERGED) -/
  merged : Nat
  /-- Words corrected by scrubbing, saturating (16 HST_EH_SCRUB) -/
  scrub : Nat
  /-- The log changed in this round (16 R441) -/
  changed : Bool
  /-- Persisted log (16 R441) -/
  store : List LogEntry
  /-- Highest number persisted (16 R441) -/
  storeSeq : Option Nat
  /-- Words corrected within integ.ce_win: die, word, instant (16 R438) -/
  ceWords : List (Nat × Nat × Tick)
  deriving DecidableEq, Repr

/-- `Eh` at reset. -/
def Eh.reset : Eh where
  queue := []
  handling := none
  fatal := false
  restored := false
  overwrite := false
  cause := 0
  stopped := false
  degraded := 0
  cnt := List.replicate 5 0
  esc := 0
  log := []
  logSeq := 0
  logNext := 0
  lost := 0
  lastCode := 0
  lastCls := 0
  handleMax := 0
  merged := 0
  scrub := 0
  changed := false
  store := []
  storeSeq := none
  ceWords := []

/-- Results in the provisional buffer. (R435, 16_integrity_and_security.md.) -/
structure ProvResult where
  /-- Ring of the frame; 12 for Mardal (16 R435) -/
  ring : Nat
  /-- SEQ of the frame, or type of the block (16 R435) -/
  id : Nat
  /-- Cell and status fields held until the marker (16 R435) -/
  slots : List (Nat × Slot)
  deriving DecidableEq, Repr

/-- `ProvResult` at reset. -/
def ProvResult.reset : ProvResult where
  ring := 0
  id := 0
  slots := []

/-- An image slot. (R444, 16_integrity_and_security.md.) -/
structure ImageHdr where
  /-- An image stands in the slot (16 R444) -/
  written : Bool
  /-- The image passes (16 R445) -/
  pass : Bool
  /-- Key index (16 R444) -/
  keyIdx : Nat
  /-- Firmware version (16 R444) -/
  version : BitVec 32
  /-- Rollback index (16 R444) -/
  rollback : Nat
  /-- Header bytes 0 to 95 (16 R444) -/
  header : List (BitVec 8)
  deriving DecidableEq, Repr

/-- `ImageHdr` at reset. -/
def ImageHdr.reset : ImageHdr where
  written := false
  pass := false
  keyIdx := 0
  version := 0
  rollback := 0
  header := []

/-- CMD_FW_WRITE in progress. (R446, 16_integrity_and_security.md.) -/
structure FwWrite where
  /-- The command (16 R446) -/
  hdr : CmdHdr
  /-- The image as written (16 R446) -/
  image : ImageHdr
  /-- Number of the first check that fails, 0 none (16 R445) -/
  fail : Nat
  deriving DecidableEq, Repr

/-- `FwWrite` at reset. -/
def FwWrite.reset : FwWrite where
  hdr := CmdHdr.reset
  image := ImageHdr.reset
  fail := 0

/-- CMD_SEC_ATTEST in progress or waiting. (R449, 16_integrity_and_security.md.) -/
structure Attest where
  /-- The command (16 R449) -/
  hdr : CmdHdr
  /-- Buffer address (16 R449) -/
  addr : Nat
  /-- Nonce (16 R449) -/
  nonce : BitVec 128
  deriving DecidableEq, Repr

/-- `Attest` at reset. -/
def Attest.reset : Attest where
  hdr := CmdHdr.reset
  addr := 0
  nonce := 0

/-- Identity, firmware and debug lock. (R442, 16_integrity_and_security.md.) -/
structure Sec where
  /-- 0 LOCKED, 1 UNLOCKED, 2 DISABLED (16 HST_SEC_STAT) -/
  debug : Nat
  /-- Scope of the unlock (16 R450) -/
  scope : BitVec 8
  /-- Unlocked since reset (16 HST_SEC_STAT) -/
  unlockedOnce : Bool
  /-- An uncorrectable word was found in the key store (code 0x0083) (16 Table 16-3) -/
  keyBad : Bool
  /-- Revoked key indices (store) (16 HST_SEC_STAT) -/
  revoked : BitVec 4
  /-- Anti-rollback counter (store) (16 HST_SEC_RBC) -/
  rbc : Nat
  /-- Unlock count (store) (16 HST_SEC_DBG_CNT) -/
  dbgCnt : Nat
  /-- DISABLED, persisted (16 R450) -/
  disabled : Bool
  /-- The store values have been read in bring-up (16 R454) -/
  storeRead : Bool
  /-- Key index of the running image (16 HST_SEC_STAT) -/
  imgKey : Nat
  /-- Rollback index of the running image (16 HST_SEC_RBC) -/
  imgRollback : Nat
  /-- Firmware version running (11 HST_FW_VER) -/
  imgVersion : BitVec 32
  /-- Image slots A and B (16 R443) -/
  slots : List ImageHdr
  /-- Challenge and its instant (16 R450) -/
  challenge : Option (BitVec 256 × Tick)
  /-- Image write in progress (16 R446) -/
  fw : Option FwWrite
  /-- Attestation being signed, or waiting for a snapshot (16 R449) -/
  attest : Option Attest
  /-- Attestation waiting for the one being signed (16 R449) -/
  attestNext : Option Attest
  /-- The image was booted by fall-back (16 R446) -/
  fallImage : Bool
  /-- The image was booted by recovery (16 R446) -/
  recImage : Bool
  deriving DecidableEq, Repr

/-- `Sec` at reset. -/
def Sec.reset : Sec where
  debug := 0
  scope := 0
  unlockedOnce := false
  keyBad := false
  revoked := 0
  rbc := 0
  dbgCnt := 0
  disabled := false
  storeRead := false
  imgKey := 0
  imgRollback := 0
  imgVersion := 0
  slots := [ImageHdr.reset, ImageHdr.reset]
  challenge := none
  fw := none
  attest := none
  attestNext := none
  fallImage := false
  recImage := false

end Sys2Proof.Machine
end

