-- ==== Sys2Proof/Machine/StMeasurement.lean ====
section
/-! DEFINITION. State of the device: measurement. Plain data only; each field names the rule of spec/ that gives it. -/

namespace Sys2Proof.Machine

/-- One input sample of a stream, in codes. (R54, 02_measurement_chain.md.) -/
structure Sample where
  /-- VALUE read with its fraction bits (02 R54) -/
  code : Rat
  /-- SAT of the result word (02 R54) -/
  sat : Bool
  /-- REFNS of the result word (02 R54) -/
  refns : Bool
  /-- TAG of the result word (02 R54) -/
  tag : Bool
  deriving DecidableEq, Repr

/-- `Sample` at reset. -/
def Sample.reset : Sample where
  code := 0
  sat := false
  refns := false
  tag := false

/-- One stream of the filter chain. (R59, 02_measurement_chain.md.) -/
structure Stream where
  /-- Newest first, the last W input samples (02 R59) -/
  rankHist : List Sample
  /-- Newest first, the last T rank outputs (02 R59) -/
  respHist : List Sample
  /-- Number of the newest input sample since the start of settling (02 R60) -/
  n : Nat
  /-- Last good input sample (02 R55) -/
  lastGood : Sample
  /-- Consecutive parity failures (02 R55) -/
  parRun : Nat
  /-- VALID (02 R61, HST_STRM_VALID) -/
  valid : Bool
  /-- Newest output, Q24.8 (02 R60, HST_STRM_VAL) -/
  out : Int
  /-- The response output behind it, before scaling, codes (02 R68) -/
  outCode : Rat
  /-- New outputs so far, modulo 2^32 (02 R60) -/
  outs : Nat
  /-- SAT in the current filter window (02 Table 2-6, HST_STRM_SAT) -/
  satWin : Bool
  /-- The scaled result saturated (02 R59) -/
  satOut : Bool
  /-- Sticky crossing bit (02 R63, HST_STRM_THR) -/
  thrSet : Bool
  /-- Consecutive outputs above the high threshold (02 R63) -/
  hiRun : Nat
  /-- Consecutive outputs below the low threshold (02 R63) -/
  loRun : Nat
  /-- High threshold armed (02 R63) -/
  hiArmed : Bool
  /-- Low threshold armed (02 R63) -/
  loArmed : Bool
  /-- Mod-15 residue of the newest input word (16 R433) -/
  residue : Nat
  deriving DecidableEq, Repr

/-- `Stream` at reset. -/
def Stream.reset : Stream where
  rankHist := []
  respHist := []
  n := 0
  lastGood := Sample.reset
  parRun := 0
  valid := false
  out := 0
  outCode := 0
  outs := 0
  satWin := false
  satOut := false
  thrSet := false
  hiRun := 0
  loRun := 0
  hiArmed := true
  loArmed := true
  residue := 0

/-- One converter. (R43, 02_measurement_chain.md.) -/
structure Adc where
  /-- An auxiliary sequence runs (02 R47) -/
  auxRunning : Bool
  /-- Its entry in progress, restarted after a Gust (02 R52) -/
  auxPos : Nat
  /-- Start of the auxiliary entry in progress (02 R48) -/
  auxEntryStart : Tick
  /-- CTB instant of the first sample of the run (02 R50) -/
  auxFirst : Tick
  /-- The entry in progress was aborted by a Gust (02 R52) -/
  auxAborted : Bool
  /-- Gust running (02 R53) -/
  gustRunning : Bool
  /-- Gust pending (02 R53) -/
  gustPending : Bool
  /-- Request of the Gust that runs, or the end of the one before it (02 R52) -/
  gustFrom : Tick
  /-- Gust request dropped (02 R53, HST_GUST_DROP) -/
  gustDrop : Bool
  /-- Result words of the Gust list (02 R53, HST_GUST_RES) -/
  gustRes : List (BitVec 32)
  /-- CTB instant of the first sample of the last Gust (15 R410) -/
  gustFirst : Tick
  deriving DecidableEq, Repr

/-- `Adc` at reset. -/
def Adc.reset : Adc where
  auxRunning := false
  auxPos := 0
  auxEntryStart := 0
  auxFirst := 0
  auxAborted := false
  gustRunning := false
  gustPending := false
  gustFrom := 0
  gustDrop := false
  gustRes := List.replicate 4 0
  gustFirst := 0

/-- One reference group. (R57, 02_measurement_chain.md.) -/
structure RefGroup where
  /-- REF_SETTLED (02 R57, HST_MEAS_STAT) -/
  settled : Bool
  /-- Since when it is settled (02 R54) -/
  since : Tick
  /-- REF_FAULT (02 R58, HST_MEAS_STAT) -/
  fault : Bool
  /-- Settling in progress (02 R57) -/
  settling : Bool
  /-- Start of settling (02 R57) -/
  settleStart : Tick
  deriving DecidableEq, Repr

/-- `RefGroup` at reset. -/
def RefGroup.reset : RefGroup where
  settled := false
  since := 0
  fault := false
  settling := true
  settleStart := 0

/-- One fast window comparator. (R65, 02_measurement_chain.md.) -/
structure Comparator where
  /-- Fast level outside (02 R65, HST_CMP_RAW) -/
  fastOut : Bool
  /-- Hard level outside (02 R65, HST_CMP_RAW) -/
  hardOut : Bool
  /-- Threshold in use (02 R66) -/
  fastLo : Nat
  /-- Threshold in use (02 R66) -/
  fastHi : Nat
  /-- Threshold in use (02 R66) -/
  hardLo : Nat
  /-- Threshold in use (02 R66) -/
  hardHi : Nat
  /-- Boundary at which the spare DACs were loaded, until the switch (02 R67) -/
  switchFrom : Option Tick
  /-- The watched input's last level, codes (02 R65) -/
  input : Rat
  deriving DecidableEq, Repr

/-- `Comparator` at reset. -/
def Comparator.reset : Comparator where
  fastOut := false
  hardOut := false
  fastLo := 0
  fastHi := 65520
  hardLo := 0
  hardHi := 65520
  switchFrom := none
  input := 32768

/-- The set-point inputs. (R69, 02_measurement_chain.md.) -/
structure Setp where
  /-- SETP_PULSE level (02 R69) -/
  level : Bool
  /-- Start of the present phase (02 R69) -/
  phaseStart : Tick
  /-- Counted rising edges, newest first (02 R69) -/
  edges : List Tick
  /-- Ignored phases, saturating (02 R69, HST_SETP_STAT) -/
  ignored : Nat
  /-- Frequency, Q24.8 Hz (02 R69, HST_SETP_FREQ) -/
  freq : Int
  /-- PULSE_LOST (02 R69, HST_SETP_STAT) -/
  pulseLost : Bool
  /-- PULSE_LOW (02 R69, HST_SETP_STAT) -/
  pulseLow : Bool
  /-- PULSE_HIGH (02 R69, HST_SETP_STAT) -/
  pulseHigh : Bool
  /-- AIN_RANGE (02 R68, HST_SETP_STAT) -/
  ainRange : Bool
  /-- Consecutive outputs on the other side of the window (02 R68) -/
  ainRun : Nat
  deriving DecidableEq, Repr

/-- `Setp` at reset. -/
def Setp.reset : Setp where
  level := false
  phaseStart := 0
  edges := []
  ignored := 0
  freq := 0
  pulseLost := true
  pulseLow := false
  pulseHigh := false
  ainRange := false
  ainRun := 0

/-- A result word on its way to the filter chain. (R54, 02_measurement_chain.md.) -/
structure RawWord where
  /-- Converter (02 R54) -/
  adc : Nat
  /-- Sequence entry (02 R54) -/
  entry : Nat
  /-- Destination stream, 127 for none (02 R45) -/
  stream : Nat
  /-- AVG of the entry (02 R45) -/
  avg : Nat
  /-- SHIFT of the entry (02 R45) -/
  shift : Nat
  /-- The result word (02 Table 2-3) -/
  word : BitVec 32
  deriving DecidableEq, Repr

/-- `RawWord` at reset. -/
def RawWord.reset : RawWord where
  adc := 0
  entry := 0
  stream := 0
  avg := 0
  shift := 0
  word := 0

/-- Thatch: conversion and filtering. (R40, 02_measurement_chain.md.) -/
structure Meas where
  /-- The 64 streams (02 R59) -/
  streams : List Stream
  /-- The 16 converters (02 R40) -/
  adcs : List Adc
  /-- The 4 reference groups (02 R41) -/
  groups : List RefGroup
  /-- The 12 comparators (02 R65) -/
  cmps : List Comparator
  /-- Missed starts, saturating at 255 (02 R49, HST_ATRIG_MISS) -/
  atrigMiss : List Nat
  /-- ATRIG levels after the width filter (02 R49) -/
  atrigLevel : List Bool
  /-- Parity failures, saturating (02 R55, HST_PAR_ERR) -/
  parErr : Nat
  /-- Set-point inputs (02 R69) -/
  setp : Setp
  /-- Result words of the cycle sequences, before the chain (02 R54) -/
  cycleWords : List RawWord
  deriving DecidableEq, Repr

/-- `Meas` at reset. -/
def Meas.reset : Meas where
  streams := List.replicate 64 Stream.reset
  adcs := List.replicate 16 Adc.reset
  groups := List.replicate 4 RefGroup.reset
  cmps := List.replicate 12 Comparator.reset
  atrigMiss := List.replicate 4 0
  atrigLevel := List.replicate 4 false
  parErr := 0
  setp := Setp.reset
  cycleWords := []

end Sys2Proof.Machine
end

