-- ==== Sys2Proof/Machine/StNetwork.lean ====
section
/-! DEFINITION. State of the device: the station network and station clocks. Plain data only; each field names the rule of spec/ that gives it. -/

namespace Sys2Proof.Machine

/-- One station clock. (R397, 14_station_network_and_time.md.) -/
structure StClock where
  /-- Seconds (14 R397) -/
  s : Nat
  /-- Nanoseconds (14 R397) -/
  ns : Nat
  /-- 2^-32 ns (14 R397) -/
  frac : Nat
  /-- Increment in force, whole ns (14 SCx_INC_NS) -/
  incNs : Nat
  /-- Increment in force, fraction (14 SCx_INC_FRAC) -/
  incFrac : Nat
  /-- Register (14 SCx_INC_NS) -/
  incNsW : BitVec 32
  /-- Register (14 SCx_INC_FRAC) -/
  incFracW : BitVec 32
  /-- Register (14 SCx_SET_S_L) -/
  setSL : BitVec 32
  /-- Register (14 SCx_SET_S_H) -/
  setSH : BitVec 32
  /-- Register (14 SCx_SET_NS) -/
  setNs : BitVec 32
  /-- Register (14 SCx_ADJ) -/
  adj : BitVec 32
  /-- SYNC (14 SCx_STAT) -/
  sync : Bool
  /-- HOLDOVER (14 SCx_STAT) -/
  holdover : Bool
  /-- Selected port (14 SCx_STAT) -/
  port : Nat
  /-- Stepped (14 SCx_STAT) -/
  stepped : Bool
  /-- Grandmaster changed (14 SCx_STAT) -/
  gmChanged : Bool
  /-- INC_REJ (14 SCx_STAT) -/
  incRej : Bool
  /-- Latched (14 SCx_TIME_S_L) -/
  timeSL : BitVec 32
  /-- Latched (14 SCx_TIME_S_H) -/
  timeSH : BitVec 32
  /-- Last offset, ns (14 SCx_OFFSET) -/
  offset : Rat
  /-- Grandmaster identity (14 SCx_GM) -/
  gm : BitVec 64
  /-- UTC offset and valid (14 SCx_UTC) -/
  utc : BitVec 17
  /-- Steps, saturating (14 SCx_CNT) -/
  steps : Nat
  /-- Losses, saturating (14 SCx_CNT) -/
  losses : Nat
  /-- Consecutive Syncs within the threshold (14 R400) -/
  goodRun : Nat
  /-- Consecutive Syncs beyond it (14 R400) -/
  badRun : Nat
  /-- Consecutive Syncs beyond the step threshold (14 R399) -/
  stepRun : Nat
  /-- Has been synchronised (14 R399) -/
  everSync : Bool
  /-- Last Announce of the selected master (14 R396) -/
  announceAt : Tick
  /-- Announce interval, s (14 R396) -/
  announceInt : Rat
  /-- Integral part of the firmware servo, ppm (14 R398) -/
  servoRate : Rat
  /-- Not synchronised until then (13 R374) -/
  marginUntil : Option Tick
  /-- Not synchronised while a margin lasts (13 R374) -/
  marginBlock : Bool
  deriving DecidableEq, Repr

/-- `StClock` at reset. -/
def StClock.reset : StClock where
  s := 0
  ns := 0
  frac := 0
  incNs := 8
  incFrac := 0
  incNsW := 8
  incFracW := 0
  setSL := 0
  setSH := 0
  setNs := 0
  adj := 0
  sync := false
  holdover := false
  port := 0
  stepped := false
  gmChanged := false
  incRej := false
  timeSL := 0
  timeSH := 0
  offset := 0
  gm := 0
  utc := 0
  steps := 0
  losses := 0
  goodRun := 0
  badRun := 0
  stepRun := 0
  everSync := false
  announceAt := 0
  announceInt := 1
  servoRate := 0
  marginUntil := none
  marginBlock := false

/-- Best master heard on one port in one domain. (R396, 14_station_network_and_time.md.) -/
structure BestMaster where
  /-- Port identity of the master (14 R396) -/
  src : BitVec 80
  /-- Grandmaster identity (14 R396) -/
  gm : BitVec 64
  /-- Data set comparison values, lower is better (14 R396) -/
  rank : List Nat
  /-- Last Announce (14 R396) -/
  at_ : Tick
  /-- An Announce has been heard (14 R396) -/
  heard : Bool
  /-- UTC offset announced (14 R397) -/
  utc : BitVec 17
  deriving DecidableEq, Repr

/-- `BestMaster` at reset. -/
def BestMaster.reset : BestMaster where
  src := 0
  gm := 0
  rank := []
  at_ := 0
  heard := false
  utc := 0

/-- A two-step Sync whose Follow_Up is awaited. (R395, 14_station_network_and_time.md.) -/
structure TwoStep where
  /-- Domain (14 R395) -/
  dom : Nat
  /-- Ingress port (14 R395) -/
  port : Nat
  /-- SequenceId (14 R395) -/
  seq : Nat
  /-- Source port identity (14 R395) -/
  src : BitVec 80
  /-- Ingress timestamp, ns of the station clock (14 R395) -/
  ts : Rat
  /-- CorrectionField of the Sync, ns (14 R395) -/
  corr : Rat
  /-- Residence and ingress peer delay to add, ns (14 R395) -/
  resid : Rat
  /-- Arrival (14 R395) -/
  at_ : Tick
  /-- For the own slave rather than for forwarding (14 R395) -/
  own : Bool
  deriving DecidableEq, Repr

/-- `TwoStep` at reset. -/
def TwoStep.reset : TwoStep where
  dom := 0
  port := 0
  seq := 0
  src := 0
  ts := 0
  corr := 0
  resid := 0
  at_ := 0
  own := false

/-- An entry of the duplicate table. (R390, 14_station_network_and_time.md.) -/
structure DupEntry where
  /-- Source address (14 R390) -/
  src : BitVec 48
  /-- Sequence number (14 R390) -/
  seq : Nat
  /-- 0 accepted; 1 or 2: forwarded towards that port (14 R391) -/
  dir : Nat
  /-- Time of entry (14 R390) -/
  at_ : Tick
  deriving DecidableEq, Repr

/-- `DupEntry` at reset. -/
def DupEntry.reset : DupEntry where
  src := 0
  seq := 0
  dir := 0
  at_ := 0

/-- A frame sent on a port. (R390, 14_station_network_and_time.md.) -/
structure EthTx where
  /-- Port (14 R390) -/
  port : Nat
  /-- 0 supervision, 1 safe-channel status, 2 forwarded, 3 Pdelay_Req, 4 Pdelay_Resp, 5 Sync, 6 Follow_Up (14 R390) -/
  kind : Nat
  /-- Redundancy sequence number (14 R390) -/
  seq : Nat
  /-- Destination address (14 R393) -/
  dst : BitVec 48
  /-- Source address (14 R393) -/
  src : BitVec 48
  /-- CorrectionField, ns (14 R395) -/
  corr : Rat
  /-- Priority queue, 0 top to 3 lowest (14 R391) -/
  queue : Nat
  /-- VLAN identifier and PCP of the 802.1Q tag (14 R393) -/
  vlan : Option (Nat × Nat)
  /-- LAN identifier of the redundancy control trailer, PRP (14 R390) -/
  lan : Nat
  /-- Safe-channel PDU (14 R393) -/
  pdu : BitVec 192
  /-- Bytes of a safe-channel frame (14 Table 14-1) -/
  wire : List (BitVec 8)
  deriving DecidableEq, Repr

/-- `EthTx` at reset. -/
def EthTx.reset : EthTx where
  port := 0
  kind := 0
  seq := 0
  dst := 0
  src := 0
  corr := 0
  queue := 0
  vlan := none
  lan := 0
  pdu := 0
  wire := []

/-- Station network and time. (R386, 14_station_network_and_time.md.) -/
structure Net where
  /-- Port links (14 HST_NET_STAT) -/
  links : List Bool
  /-- Ring closed (14 HST_NET_STAT) -/
  ringClosed : Bool
  /-- Last own supervision frame returned, per port (14 R391) -/
  ownBack : List (Option Tick)
  /-- DOM_DIFF (14 HST_NET_STAT) -/
  domDiff : Bool
  /-- The difference has been within the limit for one full round (14 R401) -/
  domOkRound : Bool
  /-- Node table full (14 HST_NET_STAT) -/
  nodeFull : Bool
  /-- Duplicates discarded, saturating (14 HST_NET_DUP) -/
  dup : Nat
  /-- Wrong-LAN frames, saturating (14 HST_NET_WRONG_LAN) -/
  wrong : List Nat
  /-- Frames discarded, saturating (14 HST_NET_DISC) -/
  disc : Nat
  /-- Safe-channel frames discarded, saturating (14 HST_NET_SC_DISC) -/
  scDisc : Nat
  /-- Frames forwarded, saturating (14 HST_NET_FWD) -/
  fwd : Nat
  /-- Node table (14 HST_NET_NODES) -/
  nodes : List (BitVec 48)
  /-- Duplicate table, newest first (14 R390) -/
  dups : List DupEntry
  /-- Next redundancy sequence number (14 R390) -/
  seq : Nat
  /-- Last supervision frame (14 R390) -/
  supAt : Tick
  /-- Source of the last command frame accepted (14 R393) -/
  scPeer : Option (BitVec 48)
  /-- SC-A and SC-B (14 R397) -/
  clocks : List StClock
  /-- Fraction of an STCLK tick gone (14 R397) -/
  stPhase : Rat
  /-- Peer delay per port, ns (14 SCx_PDELAY) -/
  pdelay : List Rat
  /-- Own Pdelay_Req outstanding: sequenceId and departure (14 R394) -/
  pdReq : List (Option (Nat × Tick))
  /-- Next Pdelay_Req sequenceId (14 R394) -/
  pdSeq : Nat
  /-- Per domain and port (14 R396) -/
  best : List (List BestMaster)
  /-- Offset to the best master of each port, ns (14 R396) -/
  passive : List (List Rat)
  /-- Two-step Syncs held (14 R395) -/
  held : List TwoStep
  /-- Last difference, ns (14 SCA_DIFF_B) -/
  diff : Rat
  /-- Frames sent, newest first (14 R390) -/
  tx : List EthTx
  /-- Safe-channel PDUs on their way to channels A, B and P, oldest first (14 R393) -/
  scRx : List (BitVec 192)
  deriving DecidableEq, Repr

/-- `Net` at reset. -/
def Net.reset : Net where
  links := [false, false]
  ringClosed := false
  ownBack := [none, none]
  domDiff := false
  domOkRound := true
  nodeFull := false
  dup := 0
  wrong := [0, 0]
  disc := 0
  scDisc := 0
  fwd := 0
  nodes := []
  dups := []
  seq := 0
  supAt := 0
  scPeer := none
  clocks := List.replicate 2 StClock.reset
  stPhase := 0
  pdelay := [0, 0]
  pdReq := [none, none]
  pdSeq := 0
  best := List.replicate 2 (List.replicate 2 BestMaster.reset)
  passive := List.replicate 2 (List.replicate 2 0)
  held := []
  diff := 0
  tx := []
  scRx := []

end Sys2Proof.Machine
end

