-- ==== Sys2Proof/Machine/StPacks.lean ====
section
/-! DEFINITION. State of the device: packs and metering. Plain data only; each field names the rule of spec/ that gives it. -/

namespace Sys2Proof.Machine

/-- Newest decoded value of one mapped field. (R184, 06_pack_observers_and_metering.md.) -/
structure BmsField where
  /-- Value in the target's unit (06 R186) -/
  value : Rat
  /-- CTB timestamp (06 R184) -/
  stamp : Tick
  deriving DecidableEq, Repr

/-- `BmsField` at reset. -/
def BmsField.reset : BmsField where
  value := 0
  stamp := 0

/-- The extended Kalman filter of one pack. (R175, 06_pack_observers_and_metering.md.) -/
structure Observer where
  /-- Initialised (06 R176) -/
  init : Bool
  /-- State of charge, pu (06 R175) -/
  soc : Rat
  /-- Voltage of the first RC pair, V (06 R175) -/
  va : Rat
  /-- Voltage of the second RC pair, V (06 R175) -/
  vb : Rat
  /-- Series resistance, ohm (06 R175) -/
  rs : Rat
  /-- Inverse capacity, 1/Ah (06 R175) -/
  qInv : Rat
  /-- Covariance (06 R175) -/
  p : List (List Rat)
  /-- Consecutive outliers (06 R177) -/
  outliers : Nat
  /-- Last divergence (06 R177) -/
  lastDiv : Option Tick
  /-- The last round was skipped: dt = 2 ms (06 R179) -/
  skipped : Bool
  /-- State of health, pu (06 R175) -/
  soh : Rat
  deriving DecidableEq, Repr

/-- `Observer` at reset. -/
def Observer.reset : Observer where
  init := false
  soc := 0
  va := 0
  vb := 0
  rs := 0
  qInv := 0
  p := List.replicate 5 (List.replicate 5 0)
  outliers := 0
  lastDiv := none
  skipped := false
  soh := 0

/-- The four counters of a cell position, in 2^-32 µC and 2^-32 mJ. (R191, 06_pack_observers_and_metering.md.) -/
structure PackCounters where
  /-- Q_dis (06 R191) -/
  qDis : Nat
  /-- Q_chg (06 R191) -/
  qChg : Nat
  /-- E_dis (06 R191) -/
  eDis : Nat
  /-- E_chg (06 R191) -/
  eChg : Nat
  deriving DecidableEq, Repr

/-- `PackCounters` at reset. -/
def PackCounters.reset : PackCounters where
  qDis := 0
  qChg := 0
  eDis := 0
  eChg := 0

/-- The tenancy of a cell position. (R191, 06_pack_observers_and_metering.md.) -/
structure Tenancy where
  /-- Tenancy number, 32 bits (06 R191) -/
  number : Nat
  /-- Stored pack identity (06 R191) -/
  ident : BitVec 64
  /-- Counters at the start of the tenancy (06 R191) -/
  start : PackCounters
  deriving DecidableEq, Repr

/-- `Tenancy` at reset. -/
def Tenancy.reset : Tenancy where
  number := 0
  ident := 0
  start := PackCounters.reset

/-- One pack. (R173, 06_pack_observers_and_metering.md.) -/
structure Pack where
  /-- Observer (06 R175) -/
  obs : Observer
  /-- IN_CHG_WIN (06 R180) -/
  chgWin : Bool
  /-- IN_DIS_WIN (06 R180) -/
  disWin : Bool
  /-- Cause mask, INIT in bit 0 (06 Table 6-1) -/
  causes : BitVec 10
  /-- XCHK_V, XCHK_I, XCHK_SOC, XCHK_SOH (06 R189) -/
  xchk : BitVec 4
  /-- Consecutive failing comparisons (06 R189) -/
  xRuns : List Nat
  /-- Checks that have tripped on the failures now running (06 R189) -/
  xTripped : BitVec 4
  /-- Newest value per target 0 to 16 (06 R184) -/
  fields : List (Option BmsField)
  /-- Alive counter at its last change (06 Table 6-1) -/
  alivePrev : Option Rat
  /-- Instant of that change (06 Table 6-1) -/
  aliveAt : Tick
  /-- Last valid t_max, °C (06 R181) -/
  tMax : Rat
  /-- Last valid t_min, °C (06 R181) -/
  tMin : Rat
  /-- The last round met no broken-sensor condition (06 R181) -/
  tGood : Bool
  /-- Profile in use (06 R188) -/
  profile : Option Nat
  /-- Profiles matched by frames since matching began (06 R188) -/
  matched : List Nat
  /-- Identity last reported since reset (06 R191) -/
  identLast : BitVec 64
  /-- The BMS has reported an identity since reset (06 R191) -/
  identSeen : Bool
  /-- PACK_ID_UNKNOWN (06 R187) -/
  identUnknown : Bool
  /-- Counters (06 R191) -/
  cnt : PackCounters
  /-- Counters at the start of the interval in flight (06 R193) -/
  cntOpen : PackCounters
  /-- Tenancy (06 R191) -/
  ten : Tenancy
  /-- Charge of the round window, C (06 R191) -/
  qWin : Rat
  /-- Sum of the cycle V_dc values of the window, V (06 R175) -/
  vSum : Rat
  /-- Their number (06 R175) -/
  vCnt : Nat
  /-- A validated V_dc is held for every interval of the window (06 R176) -/
  vWinOk : Bool
  /-- V_dc of the last 100 ms, newest first (06 R189) -/
  vHist : List (Tick × Rat)
  /-- Charge of the CTB second, C (06 R189) -/
  qSec : Rat
  /-- BMS current values of the CTB second (06 R189) -/
  iBms : List (Tick × Rat)
  /-- Charge after the end of the round window, C (06 R190) -/
  qNext : Rat
  /-- Sum of the cycle V_dc values of the next window, V (06 R175) -/
  vSumN : Rat
  /-- Their number (06 R175) -/
  vCntN : Nat
  /-- A validated V_dc is held for every interval of the next window (06 R176) -/
  vWinOkN : Bool
  /-- Charge after the end of the CTB second, C (06 R190) -/
  qSecN : Rat
  /-- State of the cell at the end of the last interval integrated (06 R190) -/
  meterState : Nat
  /-- The interval in flight has been integrated (06 R190) -/
  metered : Bool
  /-- Persisted soh and Rs / rs_ref of the position (06 R176) -/
  kept : Option (Rat × Rat)
  /-- Profile assigned by matching (06 R188) -/
  assigned : Option Nat
  /-- Low half of an identity report (06 R191) -/
  identLo : Option (BitVec 32)
  /-- High half of an identity report (06 R191) -/
  identHi : Option (BitVec 32)
  /-- Flags since the previous snapshot (06 Table 6-5b) -/
  snapFlags : BitVec 8
  /-- Next instant of transmit frames 0 and 1 (06 R185) -/
  txNext : List Tick
  /-- Rolling counters (06 R185) -/
  txRoll : List Nat
  deriving DecidableEq, Repr

/-- `Pack` at reset. -/
def Pack.reset : Pack where
  obs := Observer.reset
  chgWin := false
  disWin := false
  causes := 1
  xchk := 0
  xRuns := List.replicate 4 0
  xTripped := 0
  fields := List.replicate 17 none
  alivePrev := none
  aliveAt := 0
  tMax := 0
  tMin := 0
  tGood := false
  profile := none
  matched := []
  identLast := 0
  identSeen := false
  identUnknown := false
  cnt := PackCounters.reset
  cntOpen := PackCounters.reset
  ten := Tenancy.reset
  qWin := 0
  vSum := 0
  vCnt := 0
  vWinOk := true
  vHist := []
  qSec := 0
  iBms := []
  qNext := 0
  vSumN := 0
  vCntN := 0
  vWinOkN := true
  qSecN := 0
  meterState := 0
  metered := false
  kept := none
  assigned := none
  identLo := none
  identHi := none
  snapFlags := 0
  txNext := [0, 0]
  txRoll := [0, 0]

/-- What a bank holds of one cell position. (R193, 06_pack_observers_and_metering.md.) -/
structure BankRow where
  /-- Counters (06 R193) -/
  cnt : PackCounters
  /-- Tenancy (06 R193) -/
  ten : Tenancy
  /-- Soh (06 R193) -/
  soh : Rat
  /-- Rs / rs_ref (06 R193) -/
  rsRel : Rat
  deriving DecidableEq, Repr

/-- `BankRow` at reset. -/
def BankRow.reset : BankRow where
  cnt := PackCounters.reset
  ten := Tenancy.reset
  soh := 0
  rsRel := 0

/-- One persistence bank in the magnetoresistive store. (R193, 06_pack_observers_and_metering.md.) -/
structure Bank where
  /-- Digest and ECC check (06 R194) -/
  good : Bool
  /-- Persistence sequence number (06 R193) -/
  seq : Nat
  /-- Epoch (06 R193) -/
  epoch : Nat
  /-- Snapshot sequence number (06 R195) -/
  snapSeq : Nat
  /-- The cell positions (06 R193) -/
  rows : List BankRow
  /-- SHAKE256 digest of the contents (06 R193) -/
  digest : List (BitVec 8)
  deriving DecidableEq, Repr

/-- `Bank` at reset. -/
def Bank.reset : Bank where
  good := false
  seq := 0
  epoch := 0
  snapSeq := 0
  rows := []
  digest := []

/-- A meter snapshot in progress. (R195, 06_pack_observers_and_metering.md.) -/
structure Snapshot where
  /-- The command (06 R195) -/
  hdr : CmdHdr
  /-- Host buffer address (06 R195) -/
  addr : Nat
  /-- First cell (06 R195) -/
  first : Nat
  /-- Cell count (06 R195) -/
  count : Nat
  /-- Nonce (06 R195) -/
  nonce : BitVec 128
  /-- The counters have been frozen (06 R195) -/
  frozen : Bool
  /-- Header and entries (06 Tables 6-5a and 6-5b) -/
  record : List (BitVec 8)
  deriving DecidableEq, Repr

/-- `Snapshot` at reset. -/
def Snapshot.reset : Snapshot where
  hdr := CmdHdr.reset
  addr := 0
  first := 0
  count := 0
  nonce := 0
  frozen := false
  record := []

/-- Pack observers and metering. (R173, 06_pack_observers_and_metering.md.) -/
structure Packs where
  /-- The 384 packs (06 R173) -/
  packs : List Pack
  /-- Number of the last observer round started (06 R178) -/
  roundN : Nat
  /-- Packs not yet updated in the round (06 R179) -/
  outstanding : List Nat
  /-- A round skipped packs since last cleared (06 HST_OBS_STAT) -/
  obsSkipped : Bool
  /-- Pack updates skipped, saturating (06 HST_OBS_SKIP) -/
  skip : Nat
  /-- Longest round measured, µs (06 HST_OBS_ROUND_MAX) -/
  roundMax : Nat
  /-- Reinitialisations, saturating (06 HST_OBS_REINIT) -/
  reinit : Nat
  /-- Unmatched BMS frames, saturating (06 HST_BMS_DISCARD) -/
  discard : Nat
  /-- Selected cell (06 HST_PACK_SEL) -/
  sel : Nat
  /-- READY (06 HST_PACK_SEL) -/
  selReady : Bool
  /-- Latched HST_PACK_ registers (06 R198) -/
  selRegs : List (BitVec 32)
  /-- Tapped cell, host buffer and its entries (06 R184) -/
  tap : Option (Nat × Nat × Nat)
  /-- Next entry of the tap buffer (11 R330) -/
  tapIdx : Nat
  /-- Arm current at the cycle start before that, A (06 R190) -/
  iOld : List Rat
  /-- Arm current at the last cycle start, A (06 R190) -/
  iPrev : List Rat
  /-- Arm current at this cycle start, A (06 R190) -/
  iNow : List Rat
  /-- Source of the arm current: 0 main, 1 second, 2 model (06 R190) -/
  iKind : List Nat
  /-- Start of the interval that the frames in flight report (06 R190) -/
  ivFrom : Tick
  /-- Its end (06 R190) -/
  ivTo : Tick
  /-- Number of the last CTB second handled (06 R193) -/
  secN : Nat
  /-- SAT in a current sample (06 Table 6-5b) -/
  iSat : List Bool
  deriving DecidableEq, Repr

/-- `Packs` at reset. -/
def Packs.reset : Packs where
  packs := List.replicate 384 Pack.reset
  roundN := 0
  outstanding := []
  obsSkipped := false
  skip := 0
  roundMax := 0
  reinit := 0
  discard := 0
  sel := 0
  selReady := false
  selRegs := [0, 0, 0, 0, 0x00F00010, 0]
  tap := none
  tapIdx := 0
  iOld := [0, 0, 0]
  iPrev := List.replicate 3 0
  iNow := List.replicate 3 0
  iKind := List.replicate 3 0
  ivFrom := 0
  ivTo := 0
  secN := 0
  iSat := List.replicate 3 false

/-- Persistence and snapshots. (R193, 06_pack_observers_and_metering.md.) -/
structure Meter where
  /-- The two banks (06 R193) -/
  banks : List Bank
  /-- Bank that the next write takes (06 R193) -/
  next : Nat
  /-- Counters as frozen at the last CTB second (06 R193) -/
  frozen : List PackCounters
  /-- Bank last written (06 HST_METER_STAT) -/
  last : Nat
  /-- Persistence sequence number (06 HST_METER_PSEQ) -/
  pseq : Nat
  /-- Epoch (06 HST_METER_EPOCH) -/
  epoch : Nat
  /-- METER_RESET (06 HST_METER_STAT) -/
  meterReset : Bool
  /-- Persistence failure since last snapshot (06 HST_METER_STAT) -/
  failSince : Bool
  /-- The snapshot in progress, SNAP_BUSY (06 HST_METER_STAT) -/
  snap : Option Snapshot
  /-- Last snapshot sequence number (06 HST_METER_SNAPSEQ) -/
  snapSeq : Nat
  /-- Failed bank writes, saturating (06 HST_METER_PFAIL) -/
  pfail : Nat
  /-- Consecutive failed bank writes (06 R193) -/
  failRun : Nat
  /-- The bank write in progress (06 R193) -/
  writing : Option Bank
  deriving DecidableEq, Repr

/-- `Meter` at reset. -/
def Meter.reset : Meter where
  banks := [Bank.reset, Bank.reset]
  next := 0
  frozen := []
  last := 0
  pseq := 0
  epoch := 0
  meterReset := false
  failSince := false
  snap := none
  snapSeq := 0
  pfail := 0
  failRun := 0
  writing := none

end Sys2Proof.Machine
end

