-- ==== Sys2Proof/Machine/StProtection.lean ====
section
/-! DEFINITION. State of the device: protection and gate drive. Plain data only; each field names the rule of spec/ that gives it. -/

namespace Sys2Proof.Machine

/-- One trip source. (R231, 08_protection_and_gate_drive.md.) -/
structure TripSrc where
  /-- Input active (08 TRP_ACTIVE) -/
  active : Bool
  /-- Arms associated with its input, as it last became active (08 Table 8-1) -/
  arms : Nat
  /-- 0 CLEAR, 1 SET, 2 PENDING (08 Table 8-4) -/
  latch : Nat
  /-- Since when the input is active (08 R248) -/
  activeFrom : Tick
  /-- Reminders raised since then (08 R248) -/
  reminded : Nat
  /-- Since when the input is inactive with the latch SET (08 R249) -/
  quietFrom : Option Tick
  /-- PENDING by an auto-clear request (08 R249) -/
  autoReq : Bool
  /-- Set in a Squall whose record is multi-arm or that is beyond the limit (08 R249) -/
  noAuto : Bool
  deriving DecidableEq, Repr

/-- `TripSrc` at reset. -/
def TripSrc.reset : TripSrc where
  active := false
  arms := 0
  latch := 0
  activeFrom := 0
  reminded := 0
  quietFrom := none
  autoReq := false
  noAuto := false

/-- One TRIP_IN. (R233, 08_protection_and_gate_drive.md.) -/
structure TripIn where
  /-- Filtered pin level (08 TRP_TIN_LVL) -/
  level : Bool
  /-- FAULTY (08 TRP_FAULTY) -/
  faulty : Bool
  /-- Filtered transitions, newest first (08 R233) -/
  trans : List Tick
  deriving DecidableEq, Repr

/-- `TripIn` at reset. -/
def TripIn.reset : TripIn where
  level := false
  faulty := false
  trans := []

/-- Blanking of one comparator. (R234, 08_protection_and_gate_drive.md.) -/
structure BlankCmp where
  /-- Merged windows of the schedules in execution, rising (08 R234) -/
  windows : List (Tick × Tick)
  /-- End of the last window that was cut, after which near edges open none (08 R234) -/
  cut : Option Tick
  /-- The present window has been counted (08 R236) -/
  counted : Bool
  /-- Windows with the level outside, saturating (08 TRP_BLANK_EVT) -/
  evt : Nat
  deriving DecidableEq, Repr

/-- `BlankCmp` at reset. -/
def BlankCmp.reset : BlankCmp where
  windows := []
  cut := none
  counted := false
  evt := 0

/-- The trip record. (R241, 08_protection_and_gate_drive.md.) -/
structure TripRec where
  /-- First trigger (08 TRP_REC_CTB) -/
  ctb : Tick
  /-- Sources (08 TRP_REC_SRC) -/
  srcs : BitVec 48
  /-- Primary source (08 TRP_REC_INFO) -/
  primary : Nat
  /-- Associated arms (08 TRP_REC_INFO) -/
  arms : BitVec 3
  /-- MULTI_ARM (08 TRP_REC_INFO) -/
  multiArm : Bool
  /-- AFTER_BLANK (08 TRP_REC_INFO) -/
  afterBlank : Bool
  /-- REJECT_EDGE (08 TRP_REC_INFO) -/
  rejectEdge : Bool
  /-- Control-trip cause (08 TRP_REC_INFO) -/
  ctlCause : Nat
  /-- The record is being completed (08 R241) -/
  open_ : Bool
  /-- Arms of its sources with exactly one arm (08 R241) -/
  singleArms : BitVec 3
  deriving DecidableEq, Repr

/-- `TripRec` at reset. -/
def TripRec.reset : TripRec where
  ctb := 0
  srcs := 0
  primary := 0
  arms := 0
  multiArm := false
  afterBlank := false
  rejectEdge := false
  ctlCause := 0
  open_ := false
  singleArms := 0

/-- Gate-strength loop of one cell and direction. (R255, 08_protection_and_gate_drive.md.) -/
structure Gate where
  /-- Code (08 R255) -/
  code : Nat
  /-- GATE_SAT (08 R256) -/
  sat : Bool
  /-- Consecutive accepted measurements at the range end (08 R256) -/
  satRun : Nat
  /-- EV_GATE_SAT raised (08 R256) -/
  satRaised : Bool
  /-- Last accepted measurement, ns (08 TRP_GATE_TSW) -/
  tsw : Nat
  /-- Code mean (08 R257) -/
  mean : Rat
  /-- Baseline (08 R257) -/
  base : Option Rat
  /-- Ageing warning (08 TRP_AGE_MASK) -/
  aged : Bool
  deriving DecidableEq, Repr

/-- `Gate` at reset. -/
def Gate.reset : Gate where
  code := 16
  sat := false
  satRun := 0
  satRaised := false
  tsw := 0
  mean := 0
  base := none
  aged := false

/-- Persisted mean and baseline of one cell and direction. (R257, 08_protection_and_gate_drive.md.) -/
structure GateStore where
  /-- Persisted mean (08 R257) -/
  mean : Rat
  /-- Persisted baseline (08 R257) -/
  base : Option Rat
  deriving DecidableEq, Repr

/-- `GateStore` at reset. -/
def GateStore.reset : GateStore where
  mean := 0
  base := none

/-- Protection. (R231, 08_protection_and_gate_drive.md.) -/
structure Prot where
  /-- The 48 sources (08 R231) -/
  srcs : List TripSrc
  /-- Trip inputs (08 R233) -/
  tins : List TripIn
  /-- Chatter on contacts A0, B0, A1, B1 (08 TRP_FAULTY) -/
  contactChat : BitVec 4
  /-- Blanking (08 R234) -/
  blank : List BlankCmp
  /-- BURST (08 TRP_STAT) -/
  burst : Bool
  /-- Most recent trigger (08 R237) -/
  lastTrigger : Tick
  /-- First trigger of the last Squall (08 R249) -/
  sqFrom : Tick
  /-- Start of the echo window (08 R238) -/
  echoFrom : Option Tick
  /-- BLOCKED (08 TRP_STAT) -/
  blocked : Bool
  /-- Resume launched this cycle (08 TRP_STAT) -/
  resumed : Bool
  /-- Resume edge due (08 R247) -/
  resumeEdge : Option Tick
  /-- AUTO_DISABLED (08 TRP_STAT) -/
  autoDisabled : Bool
  /-- Resume edges following auto-clear, newest first (08 R249) -/
  autoResumes : List Tick
  /-- Resume edge of the recovery in centre mode (08 R247) -/
  recoverUntil : Option Tick
  /-- Gate loop frozen until the first edge-mode schedule after the resume (08 R255) -/
  gateFrozen : Bool
  /-- Last recognised K28.3 pair (08 R238) -/
  rxPair : Option Tick
  /-- Host trip sample (08 R253) -/
  hostTripUntil : Option Tick
  /-- Trip record (08 R241) -/
  record : TripRec
  /-- Squalls, saturating (08 TRP_SQ_CNT) -/
  sqCnt : Nat
  /-- Rejected clear requests, saturating (08 TRP_REJ_CNT) -/
  rejCnt : Nat
  /-- Echoes, saturating (08 TRP_ECHO_CNT) -/
  echoCnt : Nat
  /-- DESAT onsets, saturating (08 TRP_DESAT_CNT) -/
  desatCnt : Nat
  /-- CHOP_ESC onsets, saturating (08 TRP_CHOPESC_CNT) -/
  chopCnt : Nat
  /-- DESAT onsets per arm in the reported interval (08 R245) -/
  desatArms : List Nat
  /-- SEQ of that interval's frames (08 R245) -/
  desatSeq : BitVec 16
  /-- Since when stream 56 is above its threshold (08 R251) -/
  efFrom : Option Tick
  /-- Since when stream 52 is above its threshold (08 R251) -/
  spFrom : Option Tick
  /-- Cells whose bypass failed and that do not report BP_CLOSED (08 R252) -/
  bypFailed : List Nat
  /-- Turn-on and turn-off loops (08 R255) -/
  gates : List (Gate × Gate)
  /-- Persisted means and baselines (08 R257) -/
  gateStore : List (GateStore × GateStore)
  /-- Last persistence (08 R257) -/
  gateSaved : Tick
  /-- Selected cell (08 TRP_GATE_SEL) -/
  gateSel : Nat
  /-- READY (08 TRP_GATE_SEL) -/
  gateReady : Bool
  /-- Latched TRP_GATE_ registers (08 R263) -/
  gateRegs : List (BitVec 32)
  deriving DecidableEq, Repr

/-- `Prot` at reset. -/
def Prot.reset : Prot where
  srcs := List.replicate 48 TripSrc.reset
  tins := List.replicate 16 TripIn.reset
  contactChat := 0
  blank := List.replicate 12 BlankCmp.reset
  burst := false
  lastTrigger := 0
  sqFrom := 0
  echoFrom := none
  blocked := false
  resumed := false
  resumeEdge := none
  autoDisabled := false
  autoResumes := []
  recoverUntil := none
  gateFrozen := false
  rxPair := none
  hostTripUntil := none
  record := TripRec.reset
  sqCnt := 0
  rejCnt := 0
  echoCnt := 0
  desatCnt := 0
  chopCnt := 0
  desatArms := [0, 0, 0]
  desatSeq := 0
  efFrom := none
  spFrom := none
  bypFailed := []
  gates := List.replicate 384 (Gate.reset, Gate.reset)
  gateStore := List.replicate 384 (GateStore.reset, GateStore.reset)
  gateSaved := 0
  gateSel := 0
  gateReady := false
  gateRegs := [0x1010, 0, 0, 0]

end Sys2Proof.Machine
end

