-- ==== Sys2Proof/Machine/StRails.lean ====
section
/-! DEFINITION. State of the device: rails. Plain data only; each field names the rule of spec/ that gives it. -/

namespace Sys2Proof.Machine

/-- Rail supervisors. (R484, 18_package_pins_electrical.md.) -/
structure Rails where
  /-- Rail below its supervisor threshold, in the order of R471 (18 R484) -/
  low : List Bool
  deriving DecidableEq, Repr

/-- `Rails` at reset. -/
def Rails.reset : Rails where
  low := List.replicate 8 false

end Sys2Proof.Machine
end

