-- ==== Sys2Proof/Machine/StRecorder.lean ====
section
/-! DEFINITION. State of the device: the disturbance recorder. Plain data only; each field names the rule of spec/ that gives it. -/

namespace Sys2Proof.Machine

/-- A frame in the making. (R410, 15_disturbance_recorder.md.) -/
structure RecFrame where
  /-- Cycle counter (15 Table 15-2) -/
  k : Nat
  /-- E(k) (15 Table 15-2) -/
  eK : Tick
  /-- Converter state code (15 Table 15-2) -/
  state : Nat
  /-- Mask violation (15 Table 15-2) -/
  maskViol : Bool
  /-- Stream valid mask (15 Table 15-2) -/
  valid : BitVec 64
  /-- Reduction windows completed in the cycle (15 Table 15-2) -/
  redDone : BitVec 16
  /-- STREAMS (15 Table 15-1) -/
  streams : List Int
  /-- LAW (15 Table 15-1) -/
  law : List (BitVec 32)
  /-- ARMS: 24 words used (15 Table 15-1) -/
  arms : List (BitVec 32)
  /-- STATUS: cell and bytes 0 to 21 of its slot, of the cells with a validated one (15 Table 15-1) -/
  status : List (Nat × BitVec 176)
  /-- SCHED: cell and bytes 0 to 17 of the command slot launched (15 Table 15-1) -/
  sched : List (Nat × BitVec 144)
  /-- RAW: converter, 100 ns slot, word (15 Table 15-1) -/
  raw : List (Nat × Nat × BitVec 32)
  /-- GUST: place 4n + e and word (15 Table 15-1) -/
  gust : List (Nat × BitVec 32)
  /-- REDUCE: 64 words (15 Table 15-1) -/
  reduce : List (BitVec 32)
  deriving DecidableEq, Repr

/-- `RecFrame` at reset. -/
def RecFrame.reset : RecFrame where
  k := 0
  eK := 0
  state := 0
  maskViol := false
  valid := 0
  redDone := 0
  streams := []
  law := []
  arms := []
  status := []
  sched := []
  raw := []
  gust := []
  reduce := []

/-- One reduction channel. (R412, 15_disturbance_recorder.md.) -/
structure RedChan where
  /-- Samples in the window (15 R412) -/
  n : Nat
  /-- Minimum so far (15 R412) -/
  lo : Int
  /-- Maximum so far (15 R412) -/
  hi : Int
  /-- Sum so far (15 R412) -/
  sum : Int
  /-- Sum of squares so far (15 R412) -/
  sq : Int
  /-- Minimum, maximum, mean and RMS of the last window (15 R412) -/
  last : List (BitVec 32)
  deriving DecidableEq, Repr

/-- `RedChan` at reset. -/
def RedChan.reset : RedChan where
  n := 0
  lo := 0
  hi := 0
  sum := 0
  sq := 0
  last := [0, 0, 0, 0]

/-- A met trigger condition of a record. (R425, 15_disturbance_recorder.md.) -/
structure TrigHit where
  /-- Trigger number (15 Table 15-6) -/
  trig : Nat
  /-- Type (15 Table 15-6) -/
  kind : Nat
  /-- The trigger's action is 1 (15 R419) -/
  opens : Bool
  /-- CTB of the condition (15 Table 15-6) -/
  ctb : Tick
  /-- Source value (15 Table 15-6) -/
  value : Int
  deriving DecidableEq, Repr

/-- `TrigHit` at reset. -/
def TrigHit.reset : TrigHit where
  trig := 0
  kind := 0
  opens := false
  ctb := 0
  value := 0

/-- A source's stay at level, as a trigger's evaluation follows it. (R418, 15_disturbance_recorder.md.) -/
structure TrigStay where
  /-- The stay's start, while it lasts (15 Table 15-4) -/
  since : Option Tick
  /-- The timeout of the stay was met (15 Table 15-4) -/
  done : Bool
  deriving DecidableEq, Repr

/-- `TrigStay` at reset. -/
def TrigStay.reset : TrigStay where
  since := none
  done := false

/-- Evaluation of one trigger on its source. (R418, 15_disturbance_recorder.md.) -/
structure TrigEval where
  /-- The source has been sampled since the trigger was configured (15 R418) -/
  seen : Bool
  /-- The last sample (15 R418) -/
  last : Int
  /-- Stay above thr_hi, or at 1 (15 R418) -/
  up : TrigStay
  /-- Stay below thr_lo, or at 0 (15 R418) -/
  dn : TrigStay
  /-- Runt of polarity 0: 0 none, 1 between the thresholds after a rise, 2 thr_hi reached (15 Table 15-4) -/
  runtUp : Nat
  /-- Runt of polarity 1, the mirror image (15 Table 15-4) -/
  runtDn : Nat
  /-- Samples back to the last one at or before t_lo earlier, newest first (slew) (15 Table 15-4) -/
  hist : List (Tick × Int)
  deriving DecidableEq, Repr

/-- `TrigEval` at reset. -/
def TrigEval.reset : TrigEval where
  seen := false
  last := 0
  up := TrigStay.reset
  dn := TrigStay.reset
  runtUp := 0
  runtDn := 0
  hist := []

/-- A record. (R424, 15_disturbance_recorder.md.) -/
structure RecHdr where
  /-- Record number (15 Table 15-6) -/
  num : Nat
  /-- Bytes 12 to 15 (15 Table 15-6) -/
  flags : BitVec 32
  /-- Start of the trigger sample (15 Table 15-6) -/
  sample : Tick
  /-- Cycle counter of the trigger frame (15 Table 15-6) -/
  cyc : Nat
  /-- Conditions registered for the record, in order of registration (15 R425) -/
  hits : List TrigHit
  /-- Pre-trigger frames recorded (15 Table 15-6) -/
  pre : Nat
  /-- Post-trigger frames recorded (15 Table 15-6) -/
  post : Nat
  /-- Rec.pre_frames committed (15 Table 15-6) -/
  preCfg : Nat
  /-- Rec.post_frames committed (15 Table 15-6) -/
  postCfg : Nat
  /-- F (15 Table 15-6) -/
  f : Nat
  /-- Fps (15 Table 15-6) -/
  fps : Nat
  /-- TC_STEPS (15 Table 15-6) -/
  tc : Nat
  /-- Rec.groups (15 Table 15-6) -/
  groups : Nat
  /-- Absolute slot position of the first frame (15 R411) -/
  firstJ : Nat
  /-- Absolute slot position of the trigger frame (15 R414) -/
  trigJ : Nat
  /-- Post-trigger frames to record, from the trigger frame (15 R416) -/
  target : Nat
  /-- E of the first frame (15 Table 15-6) -/
  eFirst : Tick
  /-- E of the last frame (15 Table 15-6) -/
  eLast : Tick
  /-- SC-A seconds (15 Table 15-6) -/
  scS : Nat
  /-- SC-A nanoseconds (15 Table 15-6) -/
  scNs : Nat
  /-- SC-A synchronised (15 Table 15-6) -/
  scSync : Bool
  /-- Header generation (15 Table 15-6) -/
  gen : Nat
  /-- First 8 bytes of SHAKE256 over the committed class-0x10 set, at the opening (15 Table 15-6) -/
  digest : BitVec 64
  deriving DecidableEq, Repr

/-- `RecHdr` at reset. -/
def RecHdr.reset : RecHdr where
  num := 0
  flags := 0
  sample := 0
  cyc := 0
  hits := []
  pre := 0
  post := 0
  preCfg := 0
  postCfg := 0
  f := 0
  fps := 0
  tc := 0
  groups := 0
  firstJ := 0
  trigJ := 0
  target := 0
  eFirst := 0
  eLast := 0
  scS := 0
  scNs := 0
  scSync := false
  gen := 0
  digest := 0

/-- One mask. (R422, 15_disturbance_recorder.md.) -/
structure MaskRun where
  /-- Run in progress (15 REC_MASK_STAT) -/
  running : Bool
  /-- Start event seen, run starts at the next E (15 R422) -/
  startAt : Option Tick
  /-- E from which t counts (15 R422) -/
  t0 : Tick
  /-- Consecutive cycles outside (15 R423) -/
  bad : Nat
  /-- Violated (15 REC_MASK_STAT) -/
  violated : Bool
  deriving DecidableEq, Repr

/-- `MaskRun` at reset. -/
def MaskRun.reset : MaskRun where
  running := false
  startAt := none
  t0 := 0
  bad := 0
  violated := false

/-- Disturbance recorder. (R407, 15_disturbance_recorder.md.) -/
structure Rec where
  /-- The 2 GiB of Soffit: rising addresses, no entry equal to what an unlisted byte reads (15 R407) -/
  mem : List Host.Cell
  /-- Writes to Soffit that the command in execution has posted, oldest first (the model's own field) (15 R407) -/
  posted : List (Nat × List (BitVec 8))
  /-- The command in execution has cleared Soffit (the model's own field) (15 R407) -/
  wiped : Bool
  /-- State (15 REC_STAT) -/
  state : Nat
  /-- POST_CLAMPED (15 REC_STAT) -/
  postClamped : Bool
  /-- PRE_CUT (15 REC_STAT) -/
  preCut : Bool
  /-- PRE_SHORT (15 REC_STAT) -/
  preShort : Bool
  /-- Stop pending (15 REC_STAT) -/
  stopPend : Bool
  /-- The stop was made by a mask (15 R423) -/
  stopMask : Bool
  /-- Record in progress or next (15 REC_RECNUM) -/
  recNum : Nat
  /-- P in force (15 REC_PRE) -/
  p : Nat
  /-- Q in force (15 REC_POST) -/
  q : Nat
  /-- Slot position at which the arm that started continuous capture began (15 R411) -/
  armAt : Nat
  /-- Slot position of the next frame, counted from reset (15 R411) -/
  wrJ : Nat
  /-- Instant of the change to ARMED (15 R420) -/
  armedAt : Tick
  /-- F of the last arm (15 REC_FRAME) -/
  fInForce : Nat
  /-- BAR2 window base segment (15 REC_WIN) -/
  win : Nat
  /-- Conditions met (15 REC_TRIG_MET) -/
  trigMet : BitVec 17
  /-- Records completed, saturating (15 REC_RECORDS) -/
  records : Nat
  /-- Corrected words, saturating (15 REC_ECC_CE) -/
  ecCe : Nat
  /-- Uncorrectable words, saturating (15 REC_ECC_UE) -/
  ecUe : Nat
  /-- Frames with a STATUS slot missing, saturating (15 REC_MISSING) -/
  missing : Nat
  /-- Soffit failed (15 R428) -/
  failed : Bool
  /-- The memory test has passed (15 R413) -/
  memTested : Bool
  /-- Frames in the making, oldest first (15 R410) -/
  frames : List RecFrame
  /-- Record in progress (15 R413) -/
  cur : Option RecHdr
  /-- Completed records whose frames may still stand, newest first (15 R424) -/
  past : List RecHdr
  /-- Reduction channels (15 R412) -/
  reds : List RedChan
  /-- Windows completed in the cycle (15 R410) -/
  redDone : BitVec 16
  /-- Masks (15 R422) -/
  masks : List MaskRun
  /-- Conditions registered lately (15 R420) -/
  regd : List TrigHit
  /-- Instants at which each condition was met lately, one a sample, newest first (15 R419) -/
  lastMet : List (List Tick)
  /-- Conditions met, not yet registered: trigger, instant, value (15 R420) -/
  conds : List (Nat × Tick × Int)
  /-- Evaluation of triggers 0 to 15 (15 R418) -/
  trigs : List TrigEval
  /-- Changes of the DIGITAL word, newest first (15 Table 15-1) -/
  digLog : List (Tick × BitVec 128)
  /-- Slot positions of the frames in the capture area with a STATUS slot missing (15 Table 15-6) -/
  missJ : List Nat
  deriving DecidableEq, Repr

/-- `Rec` at reset. -/
def Rec.reset : Rec where
  mem := []
  posted := []
  wiped := false
  state := 4
  postClamped := false
  preCut := false
  preShort := false
  stopPend := false
  stopMask := false
  recNum := 0
  p := 2500
  q := 25000
  armAt := 0
  wrJ := 0
  armedAt := 0
  fInForce := 3904
  win := 0
  trigMet := 0
  records := 0
  ecCe := 0
  ecUe := 0
  missing := 0
  failed := false
  memTested := false
  frames := []
  cur := none
  past := []
  reds := List.replicate 16 RedChan.reset
  redDone := 0
  masks := List.replicate 4 MaskRun.reset
  regd := []
  lastMet := List.replicate 17 []
  conds := []
  trigs := List.replicate 16 TrigEval.reset
  digLog := []
  missJ := []

end Sys2Proof.Machine
end

