-- ==== Sys2Proof/Machine/StSafety.lean ====
section
/-! DEFINITION. State of the device: safety functions. Plain data only; each field names the rule of spec/ that gives it. -/

namespace Sys2Proof.Machine

/-- One safety input. (R269, 09_safety_functions.md.) -/
structure SafeIn where
  /-- Filtered level of SINn_A (09 HST_SAF_SIN) -/
  a : Bool
  /-- Filtered level of SINn_B (09 HST_SAF_SIN) -/
  b : Bool
  /-- Level of A as evaluated, with its own pulse masked (09 R272) -/
  seenA : Bool
  /-- Level of B as evaluated (09 R272) -/
  seenB : Bool
  /-- Last fall of the filtered level of A (09 R272) -/
  fellA : Option Tick
  /-- Last fall of the filtered level of B (09 R272) -/
  fellB : Option Tick
  /-- Last rise of the filtered level of A (09 R272) -/
  roseA : Option Tick
  /-- Last rise of the filtered level of B (09 R272) -/
  roseB : Option Tick
  /-- FAULTY (09 HST_SAF_SIN) -/
  faulty : Bool
  /-- Transitions of A, newest first (09 R271) -/
  transA : List Tick
  /-- Transitions of B, newest first (09 R271) -/
  transB : List Tick
  /-- Since when the channels disagree (09 R271) -/
  discFrom : Option Tick
  /-- Last transition of either channel (09 R271) -/
  lastTrans : Tick
  /-- The channels have agreed for a full disc_time since the Bailsil reset (09 R271) -/
  settled : Bool
  /-- Since when the reset function is held (09 R281) -/
  resetFrom : Option Tick
  deriving DecidableEq, Repr

/-- `SafeIn` at reset. -/
def SafeIn.reset : SafeIn where
  a := false
  b := false
  seenA := false
  seenB := false
  fellA := none
  fellB := none
  roseA := none
  roseB := none
  faulty := false
  transA := []
  transB := []
  discFrom := none
  lastTrans := 0
  settled := false
  resetFrom := none

/-- One safety output. (R274, 09_safety_functions.md.) -/
structure SafeOut where
  /-- HS commanded on (09 R265) -/
  hs : Bool
  /-- LS commanded on (09 R265) -/
  ls : Bool
  /-- FAULTY (09 HST_SAF_SOUT) -/
  faulty : Bool
  /-- Test pulse running (09 HST_SAF_SOUT) -/
  testing : Bool
  /-- The test in progress or next is of LS (09 R274) -/
  testLs : Bool
  /-- Start of the test (09 R274) -/
  testFrom : Tick
  /-- A demand fell into the test (09 R275) -/
  testVoid : Bool
  /-- The discarded test is to be repeated (09 R275) -/
  repeat_ : Bool
  /-- The switch check has passed (09 R274) -/
  checked : Bool
  /-- A switch check is due or running (09 R274) -/
  checking : Bool
  /-- Start of the running switch check (09 R274) -/
  checkFrom : Option Tick
  /-- Since when it has been commanded on (09 R274) -/
  onFrom : Tick
  deriving DecidableEq, Repr

/-- `SafeOut` at reset. -/
def SafeOut.reset : SafeOut where
  hs := false
  ls := false
  faulty := false
  testing := false
  testLs := false
  testFrom := 0
  testVoid := false
  repeat_ := false
  checked := false
  checking := true
  checkFrom := none
  onFrom := 0

/-- One active demand source. (R282, 09_safety_functions.md.) -/
structure DemandSrc where
  /-- Function: 0 SPI, 1 SBT0, 2 SBT1, 3 SCI (09 R282) -/
  fn : Nat
  /-- Source: 0 to 3 input, 4 safe channel, 5 expiry, 6 fall-back, 7 SLP, 8 SCI, 9 SAFE-HOLD, 10 Bailsil reset, 11 channel P (09 R282) -/
  src : Nat
  /-- Since when it is active (09 R282) -/
  since : Tick
  /-- Reminders raised (09 R282) -/
  reminded : Nat
  deriving DecidableEq, Repr

/-- `DemandSrc` at reset. -/
def DemandSrc.reset : DemandSrc where
  fn := 0
  src := 0
  since := 0
  reminded := 0

/-- The safe channel. (R287, 09_safety_functions.md.) -/
structure SafeConn where
  /-- 0 DISABLED, 1 START, 2 RUN, 3 EXPIRED (09 HST_SAF_SC) -/
  state : Nat
  /-- Last accepted CN (09 HST_SAF_CN_RX) -/
  cnRx : BitVec 32
  /-- Last status CN sent (09 HST_SAF_CN_TX) -/
  cnTx : BitVec 32
  /-- Last accepted PDU (09 R288) -/
  lastAt : Tick
  /-- PERMIT of the last accepted PDU (09 R288) -/
  permit : BitVec 5
  /-- RESET of the last accepted PDU (09 R288) -/
  resetBit : Bool
  /-- Functions demanded by an expiry (09 R288) -/
  expired : BitVec 4
  /-- Expiries, saturating (09 HST_SAF_SC) -/
  expiries : Nat
  /-- PDUs accepted, saturating (09 HST_SAF_SC_RX) -/
  rx : Nat
  /-- Check failures, saturating (09 HST_SAF_SC_ERR) -/
  badCheck : Nat
  /-- Window and START discards, saturating (09 HST_SAF_SC_ERR) -/
  discards : Nat
  /-- Status PDUs sent, newest first (09 R285) -/
  sent : List (BitVec 192)
  deriving DecidableEq, Repr

/-- `SafeConn` at reset. -/
def SafeConn.reset : SafeConn where
  state := 0
  cnRx := 0
  cnTx := 0
  lastAt := 0
  permit := 0x1F
  resetBit := false
  expired := 0
  expiries := 0
  rx := 0
  badCheck := 0
  discards := 0
  sent := []

/-- Safety functions. (R264, 09_safety_functions.md.) -/
structure Safety where
  /-- Inputs (09 R269) -/
  ins : List SafeIn
  /-- Safety set in force on Bailsil, items that differ from their defaults (09 R295) -/
  par : List (Nat × Rat)
  /-- Channel P has begun its heartbeats (12 Table 12-3) -/
  hbOn : Bool
  /-- Start of the last pulse of TPA (09 R272) -/
  tpa : Option Tick
  /-- Start of the last pulse of TPB (09 R272) -/
  tpb : Option Tick
  /-- Outputs (09 R274) -/
  outs : List SafeOut
  /-- Latches SPI, SBT0, SBT1, SCI (09 HST_SAF_STAT) -/
  fns : List Bool
  /-- Active demand sources (09 R282) -/
  demands : List DemandSrc
  /-- SLP reduced (09 HST_SAF_STAT) -/
  slpReduced : Bool
  /-- FALLBACK (09 HST_SAF_STAT) -/
  fallback : Bool
  /-- Fall-back cause (09 HST_SAF_STAT) -/
  fbCause : Nat
  /-- SAFE_HOLD (09 HST_SAF_STAT) -/
  safeHold : Bool
  /-- RESET_REQUIRED (09 HST_SAF_STAT) -/
  resetRequired : Bool
  /-- A Bailsil reset is in progress (09 R276) -/
  inReset : Bool
  /-- Consecutive comparisons with a difference (09 R266) -/
  abDiff : Nat
  /-- Consecutive failing oscillator checks (09 R266) -/
  oscBad : Nat
  /-- Sequence number of the last heartbeat (09 R267) -/
  hbSeq : Nat
  /-- Last valid heartbeat (09 R267) -/
  hbAt : Tick
  /-- Demand vector of channel P: SPI, SBT0, SBT1, SCI (09 R267) -/
  pVector : BitVec 4
  /-- Since when P differs from A and B (09 R267) -/
  pDiffFrom : Option Tick
  /-- SCI demand, until de-energisation (09 R279) -/
  sciFrom : Option Tick
  /-- De-energisation, until confirmation (09 R279) -/
  sciOffAt : Option Tick
  /-- Role-3 outputs are de-energised by SCI (09 R279) -/
  sciDone : Bool
  /-- Cells counted at the de-energisation (09 R279) -/
  sciCells : List Nat
  /-- Cells confirmed (09 HST_SAF_SCI_STAT) -/
  sciConf : Nat
  /-- Cells unconfirmable (09 HST_SAF_SCI_STAT) -/
  sciUncf : Nat
  /-- Unconfirmed cells (09 HST_SAF_SCI_MASK) -/
  sciMask : List (BitVec 32)
  /-- Monitor limit in force, pu (09 HST_SAF_SLP) -/
  slpLimit : Rat
  /-- Limit selected (09 R280) -/
  slpTarget : Rat
  /-- Fall of the monitor limit per ms, pu (09 R280) -/
  slpStep : Rat
  /-- Monitor power, pu (09 HST_SAF_SLP) -/
  slpPower : Rat
  /-- Since when the power is above the limit (09 R280) -/
  slpFrom : Option Tick
  /-- Powers of the last 1 ms, newest first: main, second, all valid (09 R280) -/
  slpSum : List (Rat × Rat × Bool)
  /-- Channel P demands SPI for SLP (09 R280) -/
  slpDemand : Bool
  /-- Tests passed, saturating (09 HST_SAF_TESTS) -/
  tests : Nat
  /-- Tests discarded, saturating (09 HST_SAF_TDISC) -/
  tdisc : Nat
  /-- Tests failed, saturating (09 HST_SAF_TDISC) -/
  tfail : Nat
  /-- Rejected resets, saturating (09 HST_SAF_REJ) -/
  rej : Nat
  /-- Latch sets, saturating (09 HST_SAF_DEMANDS) -/
  demandCnt : Nat
  /-- Safe channel (09 R287) -/
  sc : SafeConn
  /-- Levels of SINn_A at the pin (09 R269) -/
  pinsA : List Bool
  /-- Levels of SINn_B at the pin (09 R269) -/
  pinsB : List Bool
  /-- SAFE-HOLD demands SPI through channel P (12 R357) -/
  pvHold : Bool
  deriving DecidableEq, Repr

/-- `Safety` at reset. -/
def Safety.reset : Safety where
  ins := List.replicate 4 SafeIn.reset
  par := []
  hbOn := false
  tpa := none
  tpb := none
  outs := List.replicate 6 SafeOut.reset
  fns := List.replicate 4 true
  demands := []
  slpReduced := false
  fallback := false
  fbCause := 0
  safeHold := false
  resetRequired := true
  inReset := true
  abDiff := 0
  oscBad := 0
  hbSeq := 0
  hbAt := 0
  pVector := 0
  pDiffFrom := none
  sciFrom := none
  sciOffAt := none
  sciDone := true
  sciCells := []
  sciConf := 0
  sciUncf := 0
  sciMask := List.replicate 12 0
  slpLimit := 0
  slpTarget := 0
  slpStep := 0
  slpPower := 0
  slpFrom := none
  slpSum := []
  slpDemand := false
  tests := 0
  tdisc := 0
  tfail := 0
  rej := 0
  demandCnt := 0
  sc := SafeConn.reset
  pinsA := List.replicate 4 false
  pinsB := List.replicate 4 false
  pvHold := false

end Sys2Proof.Machine
end

