-- ==== Sys2Proof/Machine/StTwin.lean ====
section
/-! DEFINITION. State of the device: twin operation. Plain data only; each field names the rule of spec/ that gives it. -/

namespace Sys2Proof.Machine

/-- The peer's last beacon (Table 10-2). (R300, 10_twin_operation.md.) -/
structure PeerBeacon where
  /-- Cycle counter (10 Table 10-2) -/
  cyc : Nat
  /-- Converter state (10 Table 10-2) -/
  state : Nat
  /-- Service level (10 Table 10-2) -/
  level : Nat
  /-- ACTIVE (10 Table 10-2) -/
  active : Bool
  /-- SERVING (10 Table 10-2) -/
  serving : Bool
  /-- READY (10 Table 10-2) -/
  ready : Bool
  /-- SPI latched (10 Table 10-2) -/
  spi : Bool
  /-- BLOCKED (10 Table 10-2) -/
  blocked : Bool
  /-- TIME_MASTER (10 Table 10-2) -/
  timeMaster : Bool
  /-- The sender's TWIN_ID (10 R296) -/
  twinId : Bool
  /-- Arms whose Batten state the sender requests (10 R308) -/
  asks : List Bool
  deriving DecidableEq, Repr

/-- `PeerBeacon` at reset. -/
def PeerBeacon.reset : PeerBeacon where
  cyc := 0
  state := 0
  level := 2
  active := false
  serving := false
  ready := false
  spi := false
  blocked := false
  timeMaster := false
  twinId := false
  asks := []

/-- A Mardal block that the device sends (Table 10-1). (R300, 10_twin_operation.md.) -/
structure MdlBlock where
  /-- TYPE (10 Table 10-1) -/
  ty : Nat
  /-- SUB (10 Table 10-1) -/
  sub : Nat
  /-- Lane it leaves on (10 R300) -/
  lane : Nat
  /-- Its bytes, CRC-32 last (10 Table 10-1) -/
  wire : List (BitVec 8)
  deriving DecidableEq, Repr

/-- `MdlBlock` at reset. -/
def MdlBlock.reset : MdlBlock where
  ty := 0
  sub := 0
  lane := 0
  wire := []

/-- Batten's circulating-current state in the copy (R168). (R301, 10_twin_operation.md.) -/
structure Circ where
  /-- Integrator, pu (05 R168) -/
  xC : Rat
  /-- V_c limited (05 R168) -/
  clamp : Bool
  /-- Voltage applied, V (05 R168) -/
  now : Rat
  /-- Its change over the cycle, V (05 R168) -/
  step : Rat
  /-- First arm record of the cycle (05 R168) -/
  first : Option ArmRecord
  deriving DecidableEq, Repr

/-- `Circ` at reset. -/
def Circ.reset : Circ where
  xC := 0
  clamp := false
  now := 0
  step := 0
  first := none

/-- The Standby's view of one arm. (R304, 10_twin_operation.md.) -/
structure TwinArm where
  /-- The Active's arm record of the cycle (10 R301) -/
  record : Option ArmRecord
  /-- Schedule check or notice of the cycle: notice, RESUME, CRC-32 (10 R304) -/
  check : Option (Bool × Bool × BitVec 32)
  /-- RESUME of the check that the Active has sent in the cycle (10 Table 10-2) -/
  checkSaid : Option Bool
  /-- Relayed schedule, in arm order (10 R301) -/
  relayed : List (List Edge)
  /-- Slots of the relayed schedule, with the gate codes and flags of the copy (10 R301) -/
  slots : List (BitVec 144)
  /-- Shadow schedule, in arm order (10 R301) -/
  shadow : List (List Edge)
  /-- Relayed schedule of the cycle before (10 R304) -/
  prev : List (List Edge)
  /-- Copy of the Active's Batten state, in arm order (10 R301) -/
  copy_ : List ModCell
  /-- Copy of the Active's arm state (10 R301) -/
  copyArm : ModArm
  /-- Copy of the gate loops, in arm order (10 R301) -/
  gates : List (Gate × Gate)
  /-- Slots chosen: 0 empty, 1 relayed, 2 relayed shifted, 3 shadow (10 R304) -/
  choice : Nat
  /-- Slots chosen in the cycle before (10 R312) -/
  last : Nat
  /-- Consecutive differing checks (10 R308) -/
  misRun : Nat
  /-- Parts received of the requested copy (10 R308) -/
  parts : List Nat
  /-- Next part of the Batten state that the Active sends (10 R308) -/
  partNext : Nat
  /-- The copy is complete (10 R308) -/
  mirrored : Bool
  /-- A check must match before the Standby is READY again (10 R308) -/
  matchDue : Bool
  deriving DecidableEq, Repr

/-- `TwinArm` at reset. -/
def TwinArm.reset : TwinArm where
  record := none
  check := none
  checkSaid := none
  relayed := []
  slots := []
  shadow := []
  prev := []
  copy_ := []
  copyArm := ModArm.reset
  gates := []
  choice := 0
  last := 0
  misRun := 0
  parts := []
  partNext := 0
  mirrored := false
  matchDue := false

/-- Comparison of one stream with the peer's. (R307, 10_twin_operation.md.) -/
structure TwinStream where
  /-- Peer's newest output, Q24.8 (10 R307) -/
  peer : Int
  /-- Consecutive differing outputs (10 R307) -/
  differ : Nat
  /-- Consecutive agreeing outputs (10 R307) -/
  agree : Nat
  /-- Disagreeing (10 HST_TWIN_MEAS_DEV) -/
  dev : Bool
  /-- Own outputs up to the last comparison (10 R307) -/
  seen : Nat
  deriving DecidableEq, Repr

/-- `TwinStream` at reset. -/
def TwinStream.reset : TwinStream where
  peer := 0
  differ := 0
  agree := 0
  dev := false
  seen := 0

/-- Twin operation. (R296, 10_twin_operation.md.) -/
structure Twin where
  /-- ACTIVE (10 HST_TWIN_STAT) -/
  active : Bool
  /-- READY (10 HST_TWIN_STAT) -/
  ready : Bool
  /-- SERVING (10 HST_TWIN_STAT) -/
  serving : Bool
  /-- SHADOW (10 HST_TWIN_STAT) -/
  shadow : Bool
  /-- SPLIT (10 HST_TWIN_STAT) -/
  split : Bool
  /-- ARB_FAULT (10 HST_TWIN_STAT) -/
  arbFault : Bool
  /-- Filtered ARB_GRANT (10 HST_TWIN_STAT) -/
  grant : Bool
  /-- Its last change (10 R312) -/
  grantAt : Tick
  /-- EV_TWIN_GRANT_REFUSED raised for this grant (10 R312) -/
  refused : Bool
  /-- Level of HEALTH (10 R311) -/
  health : Bool
  /-- HEALTH toggling (10 HST_TWIN_STAT) -/
  healthOn : Bool
  /-- Last toggle (10 R311) -/
  healthAt : Tick
  /-- TIME_MASTER (10 HST_TWIN_STAT) -/
  timeMaster : Bool
  /-- READY reached or serving since the pair formed (10 R297) -/
  everReady : Bool
  /-- Zephyr round in which READY or serving was first reached (10 R297) -/
  firstRound : Option Nat
  /-- Zephyr round in which the peer first showed READY or SERVING (10 R297) -/
  peerRound : Option Nat
  /-- Aligned (10 HST_TWIN_STAT) -/
  aligned : Bool
  /-- The CTB was set once (10 R297) -/
  timeSet : Bool
  /-- Shadow permission (10 HST_TWIN_STAT) -/
  permission : Bool
  /-- Consecutive shadow cycles (10 R311) -/
  shadowRun : Nat
  /-- Twin.shadow_max was reached (10 R311) -/
  shadowExpired : Bool
  /-- Failed READY conditions (10 HST_TWIN_STAT) -/
  failed : BitVec 8
  /-- Both members have the same TWIN_ID (10 R296) -/
  idConflict : Bool
  /-- Cycles with a shadow schedule, saturating (10 HST_TWIN_SHADOW) -/
  shadowCnt : Nat
  /-- Schedule-check mismatches, saturating (10 HST_TWIN_MISMATCH) -/
  misCnt : Nat
  /-- Digest mismatches, saturating (10 HST_TWIN_MISMATCH) -/
  digCnt : Nat
  /-- Role changes, saturating (10 HST_TWIN_ROLECHG) -/
  roleChg : Nat
  /-- Dual-active detections, saturating (10 HST_TWIN_ROLECHG) -/
  dualCnt : Nat
  /-- Consecutive beacons with both Active (10 R312) -/
  dualRun : Nat
  /-- The member becomes Standby at the next boundary (10 R312) -/
  demote : Bool
  /-- Largest meter deviation, ppm (10 HST_TWIN_METER_DEV) -/
  meterDev : Nat
  /-- Lanes up (10 HST_MDL_STAT) -/
  lanes : List Bool
  /-- Since when both lanes are down (10 Table 10-4) -/
  lanesDownFrom : Option Tick
  /-- Both lanes were down for more than 2 cycles since the last full mirror (10 Table 10-4) -/
  linkLost : Bool
  /-- Since when the link is up (10 R306) -/
  upFrom : Option Tick
  /-- Peer's last beacon (10 R300) -/
  beacon : Option PeerBeacon
  /-- Peer beacon received in this cycle (10 HST_MDL_STAT) -/
  beaconNow : Bool
  /-- A peer frame of the previous load-all arrived with ACTIVE = 1 and a non-empty slot (10 R304) -/
  peerFrame : Bool
  /-- One-way link delay, ns (10 HST_MDL_DELAY) -/
  delay : Rat
  /-- Own CTB minus the master's, ns (10 HST_MDL_CTB_OFS) -/
  ctbOfs : Rat
  /-- Blocks discarded, saturating (10 HST_MDL_CRC) -/
  crc : Nat
  /-- Bytes sent in the last cycle (10 HST_MDL_LOAD) -/
  load : Nat
  /-- Blocks waiting for a lane, next first (10 R300) -/
  mdlQ : List MdlBlock
  /-- Blocks that a lane has taken in this cycle, oldest first (10 HST_MDL_LOAD) -/
  mdlOut : List MdlBlock
  /-- Instants from which the lanes are free, in thirds of a tick (10 R299) -/
  mdlFree : List Nat
  /-- Lane that took the last block (10 R300) -/
  mdlLast : Nat
  /-- The Active's checkpoint and its cycle (10 R301) -/
  ckpt : Option (Nat × LawStates)
  /-- The Active's V_dc and dispositions of the cycle (10 R301) -/
  inputs : Option (Nat × List (Rat × Nat))
  /-- Copy of Batten's circulating-current state (10 R301) -/
  circ : Circ
  /-- Per arm (10 R304) -/
  arms : List TwinArm
  /-- Per stream (10 R307) -/
  streams : List TwinStream
  /-- Digests equal (10 R308) -/
  digestEqual : Bool
  /-- Packs whose observer state has been adopted (10 Table 10-4) -/
  obsMirrored : List Nat
  /-- Observer blocks arrive (10 R301) -/
  obsArriving : Bool
  /-- A checkpoint has arrived since the last full mirror was lost (10 Table 10-4) -/
  ckptSeen : Bool
  /-- One full meter second has arrived (10 Table 10-4) -/
  meterSec : Bool
  /-- Cells whose counters of this second have arrived (10 R309) -/
  meterCells : List Nat
  /-- Next cell whose frozen counters the Active sends (10 Table 10-2) -/
  meterNext : Nat
  /-- Own counters at the last CTB second (10 R309) -/
  ownAtSec : List PackCounters
  /-- The Active's counters at the second before (10 R309) -/
  peerAtSec : List PackCounters
  /-- Cell table as it stood at E(k) (10 R302) -/
  tableAtE : List CellRow
  deriving DecidableEq, Repr

/-- `Twin` at reset. -/
def Twin.reset : Twin where
  active := false
  ready := false
  serving := false
  shadow := false
  split := false
  arbFault := false
  grant := false
  grantAt := 0
  refused := false
  health := false
  healthOn := false
  healthAt := 0
  timeMaster := false
  everReady := false
  firstRound := none
  peerRound := none
  aligned := false
  timeSet := false
  permission := false
  shadowRun := 0
  shadowExpired := false
  failed := 0xFF
  idConflict := false
  shadowCnt := 0
  misCnt := 0
  digCnt := 0
  roleChg := 0
  dualCnt := 0
  dualRun := 0
  demote := false
  meterDev := 0
  lanes := [false, false]
  lanesDownFrom := some 0
  linkLost := true
  upFrom := none
  beacon := none
  beaconNow := false
  peerFrame := false
  delay := 0
  ctbOfs := 0
  crc := 0
  load := 0
  mdlQ := []
  mdlOut := []
  mdlFree := [0, 0]
  mdlLast := 1
  ckpt := none
  inputs := none
  circ := Circ.reset
  arms := List.replicate 3 TwinArm.reset
  streams := List.replicate 64 TwinStream.reset
  digestEqual := false
  obsMirrored := []
  obsArriving := false
  ckptSeen := false
  meterSec := false
  meterCells := []
  meterNext := 384
  ownAtSec := []
  peerAtSec := []
  tableAtE := []

end Sys2Proof.Machine
end

