-- ==== Sys2Proof/Machine/Device.lean ====
section
/-! DEFINITION. State of the device: the whole device. Plain data only; each field names the rule of spec/ that gives it. -/

namespace Sys2Proof.Machine

/-- The whole device. (R497, 19_address_and_parameter_map.md.) -/
structure Device where
  /-- The converter timebase, CTB (13 R377) -/
  now : Tick
  /-- Counter of free values drawn (the model's own field) (00 R8) -/
  fresh : Nat
  /-- Bits of W1C registers that hardware has set, with the instant: BAR0 offset, mask (only those of the present instant count) (00 R8) -/
  justSet : List (Tick × Nat × Nat)
  /-- Straps as read at reset (01 R27) -/
  straps : Straps
  /-- Control cycle (01 R36) -/
  cycle : Cycle
  /-- Thatch (02 R40) -/
  meas : Meas
  /-- Control law (03 R76) -/
  law : Law
  /-- Ride-through, trajectory, breakers, sequences (04 R113) -/
  grid : Grid
  /-- Modulation (05 R143) -/
  modu : Modu
  /-- Packs (06 R173) -/
  packs : Packs
  /-- Metering persistence (06 R193) -/
  meter : Meter
  /-- Cell links (07 R199) -/
  link : Link
  /-- Protection (08 R231) -/
  prot : Prot
  /-- Bailsil and channel P (09 R264) -/
  safety : Safety
  /-- Twin operation (10 R296) -/
  twin : Twin
  /-- Parameters (11 R331) -/
  par : ParamState
  /-- Persisted parameter copies (11 R335) -/
  parCopies : List ParamCopy
  /-- Host interface (11 R321) -/
  host : HostPort
  /-- Status-mirror pages of islands 0 to 9 (11 R336) -/
  mirrors : List MirrorPage
  /-- Converter states and start-up (12 R361) -/
  conv : Conv
  /-- Clocks (13 R368) -/
  clk : Clk
  /-- Station network (14 R386) -/
  net : Net
  /-- Disturbance recorder (15 R407) -/
  recd : Rec
  /-- Error handler (16 R436) -/
  eh : Eh
  /-- Provisional buffer (16 R435) -/
  prov : List ProvResult
  /-- Security (16 R442) -/
  sec : Sec
  /-- Counters and housekeeping (17 R455) -/
  zep : Zephyr
  /-- Rails (18 R484) -/
  rails : Rails
  deriving DecidableEq, Repr

/-- `Device` at reset. -/
def Device.reset : Device where
  now := 0
  fresh := 0
  justSet := []
  straps := Straps.reset
  cycle := Cycle.reset
  meas := Meas.reset
  law := Law.reset
  grid := Grid.reset
  modu := Modu.reset
  packs := Packs.reset
  meter := Meter.reset
  link := Link.reset
  prot := Prot.reset
  safety := Safety.reset
  twin := Twin.reset
  par := ParamState.reset
  parCopies := [ParamCopy.reset, ParamCopy.reset]
  host := HostPort.reset
  mirrors := List.replicate 10 MirrorPage.reset
  conv := Conv.reset
  clk := Clk.reset
  net := Net.reset
  recd := Rec.reset
  eh := Eh.reset
  prov := []
  sec := Sec.reset
  zep := Zephyr.reset
  rails := Rails.reset

end Sys2Proof.Machine
end

