-- ==== Sys2Proof/Syntax.lean ====
section
/-! DEFINITION. The commands of the block: one constructor per row of spec/opcode_table.json. Every command carries the CTB instant t at which it takes effect, except SAMPLE_TRIGGER, whose instant is the next cycle start (assumption log 5). -/

namespace Sys2Proof

open Sys2Proof.Machine

/-- The commands, operations and events of the table, with their operands. -/
inductive Instr where
  /-- DEVICE_RESET (R350): Power-on of the core rails or RESET_N held low restarts islands 0 to 7 and 9 and begins the boot. power: power-on of the core rails, otherwise RESET_N; the straps as read at the release -/
  | deviceReset (t : Tick) (power : Bool) (twinId twinEn : Bool) (bootSel : BitVec 2)
  /-- BAILSIL_RESET (R350): Power-on of VDD_BSL or BSL_RESET_N held low restarts island 8 with every safety function latched and RESET_REQUIRED set. -/
  | bailsilReset (t : Tick)
  /-- HOST_INTERFACE_RESET (R346): A function-level reset, hot reset, PCI Express link loss or PERST_N resets island 1's PCI Express logic and host-interface registers; every other island continues. -/
  | hostInterfaceReset (t : Tick)
  /-- RAIL_SUPERVISOR_UNDERVOLTAGE (R484): A rail below 90 % of nominal for more than 2 µs holds a device reset or a Bailsil reset until the rail recovers. rail: index of R471 -/
  | railSupervisorUndervoltage (t : Tick) (rail : Fin 8)
  /-- RAIL_SUPERVISOR_RELEASE (R484): 1 ms after the last supervised rail rises above 93 %, with RESET_N high, the supervisor releases its reset. bsl: the supervisor of VDD_BSL, otherwise that of the core rails; the straps as read at the release -/
  | railSupervisorRelease (t : Tick) (bsl : Bool) (twinId twinEn : Bool) (bootSel : BitVec 2)
  /-- REFERENCE_DETECTION (R368): After t_refdet the clock generator selects the REFCLK path, or leaves the PLLs stopped when no valid frequency is found. mhz: the frequency of REFCLK as measured, MHz -/
  | referenceDetection (t : Tick) (mhz : Rat)
  /-- PLL_LOCK (R373): A PLL whose phase error has stayed within ±1 ns for 2,048 f_pfd cycles is locked, and its outputs leave bypass. pll: 0 SYS, 1 CTB, 2 LINK, 3 MDL -/
  | pllLock (t : Tick) (pll : Fin 4)
  /-- PLL_LOSS_OF_LOCK (R373): An unplanned loss of lock moves the PLL's islands to bypass, raises EV_CLK_LOCK_LOST and reports a clock error. pll: 0 SYS, 1 CTB, 2 LINK, 3 MDL -/
  | pllLossOfLock (t : Tick) (pll : Fin 4)
  /-- REFERENCE_LOST (R375): A missing REFCLK edge or a frequency deviation puts every PLL into holdover and raises EV_REF_LOST. -/
  | referenceLost (t : Tick)
  /-- REFERENCE_RESTORED (R375): A returned reference that passes 1 ms of measurement closes the loops by frequency and raises EV_REF_RESTORED. -/
  | referenceRestored (t : Tick)
  /-- HOLDOVER_MAX_EXPIRY (R375): Holdover that outlasts clk.holdover_max reports a clock error to the handler. -/
  | holdoverMaxExpiry (t : Tick)
  /-- PLL_RELOCK_DONE (R372): After a feedback change the PLL relocks and its outputs return from bypass with their new dividers. -/
  | pllRelockDone (t : Tick)
  /-- CLKOUT_CHANGE_APPLY (R376): A committed CLKOUT change applies at the first rising edge of the old output at or after the applying boundary. o: output -/
  | clkoutChangeApply (t : Tick) (o : Fin 2)
  /-- BOOT_WATCHDOG_EXPIRY (R353): When OFF is not reached within 2 s, the ROM resets the device and boots the other passing slot, once per power-on. -/
  | bootWatchdogExpiry (t : Tick)
  /-- RECOVERY_IMAGE_LENGTH_WRITE (R499): A write of the image length to the last word of the recovery window starts the image checks. len: written length -/
  | recoveryImageLengthWrite (t : Tick) (len : BitVec 32)
  /-- BRING_UP_STEP_DONE (R354): A bring-up step completes its self-test; a failing die raises EV_SELFTEST_FAIL, and OFF is entered at the end. fail: dies of the step that fail their test, in the order of HST_ST_DIES; test: its number -/
  | bringUpStepDone (t : Tick) (fail : BitVec 8) (test : BitVec 8)
  /-- SOFFIT_MEMORY_TEST_DONE (R413): The background Soffit test completes and the recorder leaves UNAVAILABLE. pass: the test finds no fault -/
  | soffitMemoryTestDone (t : Tick) (pass : Bool)
  /-- SAMPLE_TRIGGER (R43): At each cycle start E(k) every converter runs its cycle sequence and the cycle-driven work of the islands begins. codes: the conversions of each converter's cycle sequence, in order (a missing one is code 0) -/
  | sampleTrigger (codes : List (List (BitVec 16)))
  /-- DRIFT_TAG_END (R464): A tag ends at T6, or at E(k+2) when incomplete; its record enters the trace. flip: bits in which the value that Rafter acknowledged differs from the one written -/
  | driftTagEnd (t : Tick) (flip : BitVec 32)
  /-- MASK_PASS (R422): A mask run reaching the time of its last point ends with pass and raises EV_REC_MASK. -/
  | maskPass (t : Tick)
  /-- FILTER_CHAIN_OUTPUT (R62): The filter chain finishes the streams and hands the new outputs to Rafter. flips: bits of a stream's result word changed between converter and chain, per stream -/
  | filterChainOutput (t : Tick) (flips : List (Nat × BitVec 32))
  /-- AUX_SEQUENCE_START (R47): A CTB event, host start or continuous restart starts a converter's auxiliary sequence. n: converter -/
  | auxSequenceStart (t : Tick) (n : Fin 16)
  /-- ATRIG_EDGE (R49): An accepted ATRIG edge starts an auxiliary sequence or a Gust, or counts a missed start. heldNs: how long the new level persists, ns -/
  | atrigEdge (t : Tick) (pin : Fin 4) (rising : Bool) (heldNs : Rat)
  /-- AUX_ENTRY_END (R62): An auxiliary entry ends and its stream output follows within t_filt. codes: its conversions; flip: bits changed on the way to the chain -/
  | auxEntryEnd (t : Tick) (n : Fin 16) (codes : List (BitVec 16)) (flip : BitVec 32)
  /-- GUST_COMPLETE (R52): A Gust list finishes, results go to HST_GUST_RES and the interrupted auxiliary entry restarts. codes: the conversions of each entry of the Gust list -/
  | gustComplete (t : Tick) (n : Fin 16) (codes : List (List (BitVec 16)))
  /-- REFERENCE_SETTLE_END (R57): After t_ref_set, REF_SETTLED is set when the monitor reads inside the window. reading: the monitor's deviation from nominal, % -/
  | referenceSettleEnd (t : Tick) (g : Fin 4) (reading : Rat)
  /-- REFERENCE_SETTLE_TIMEOUT (R57): Ten milliseconds after settling starts without success the group is declared REF_FAULT. g: group -/
  | referenceSettleTimeout (t : Tick) (g : Fin 4)
  /-- COMPARATOR_LEVEL_CHANGE (R65): A fast or hard comparator level goes outside or returns, feeding the trip logic, Squall path and Gust request. x: the input's level now, in codes of its group's scale -/
  | comparatorLevelChange (t : Tick) (j : Fin 12) (x : Rat)
  /-- SPARE_DAC_SWITCH (R67): t_dac_set after the boundary a comparator switches to the spare DAC with the committed thresholds. j: comparator -/
  | spareDacSwitch (t : Tick) (j : Fin 12)
  /-- SETP_PULSE_EDGE (R69): A rising edge on SETP_PULSE is timestamped, or an ignored short phase is counted. rising: the pin's new level -/
  | setpPulseEdge (t : Tick) (rising : Bool)
  /-- RAFTER_LAW_EVALUATION (R76): Once the filtered streams arrive, Rafter evaluates the law stages and sends each arm record to Batten. clocks: RCLK cycles taken; fail: 0 none, 1 arithmetic residue, 2 uncorrectable memory error -/
  | rafterLawEvaluation (t : Tick) (clocks : Nat) (fail : Fin 3)
  /-- SETP_RECOVERED (R97): A failed source free of faults for gf.setp.recover is restored and raises EV_SETP_RECOVERED. target: which setpoint sensor's loss ends -/
  | setpRecovered (t : Tick) (target : Fin 2)
  /-- FEEDBACK_SENSOR_FAULT (R100): A suspect condition persisting gf.plaus.count cycles latches the sensor faulty or sets MODEL_DEV. -/
  | feedbackSensorFault (t : Tick)
  /-- SENSOR_READMISSION (R100): A rearmed sensor agreeing for gf.plaus.rearm cycles is admitted again. sensor: voted sensor -/
  | sensorReadmission (t : Tick) (sensor : Fin 12)
  /-- SENSORLESS_EXIT (R102): Every phase selecting a sensor for gf.plaus.count cycles ends sensorless operation and raises EV_SENSORLESS_EXIT. -/
  | sensorlessExit (t : Tick)
  /-- SENSORLESS_TRIP (R102): The sensorless count reaching gf.plaus.sensorless_max raises EV_SENSORLESS_TRIP and sets the control trip. -/
  | sensorlessTrip (t : Tick)
  /-- RT_SYNC_LOST (R117): An angle beyond rt.slip_angle for rt.slip_cycles raises EV_RT_SYNC_LOST and sets the control trip. -/
  | rtSyncLost (t : Tick)
  /-- RIDE_EXIT (R118): Exit conditions holding for rt.exit_time leave RIDE, raise EV_RT_EXIT and start recovery. -/
  | rideExit (t : Tick)
  /-- RIDE_TIMEOUT (R118): RIDE lasting rt.max_time raises EV_RT_TIMEOUT and sets the control trip. -/
  | rideTimeout (t : Tick)
  /-- RECOVERY_END (R118): i_a_rec reaching rt.i_max clears RECOVERY. -/
  | recoveryEnd (t : Tick)
  /-- REFERENCE_OVERRUN (R38): An arm reference missing at 4.455 µs is extrapolated and counted, and EV_CYCLE_OVERRUN is raised. arm: U, V, W -/
  | referenceOverrun (t : Tick) (arm : Fin 3)
  /-- SCHEDULE_OVERRUN (R38): An arm schedule incomplete at t_load, or at the twin deadline, is re-sent shifted by Tc and counted. arm: U, V, W -/
  | scheduleOverrun (t : Tick) (arm : Fin 3)
  /-- ARM_RECORD_ARRIVAL (R146): Batten receives an arm record and computes the arm's sorting and edge schedule. arm: U, V, W; differs: the record received twice differs or fails its CRC -/
  | armRecordArrival (t : Tick) (arm : Fin 3) (differs : Bool)
  /-- LOAD_ALL (R159): At t_load the shadow buffers are committed, the frames are launched and the availability record is taken. -/
  | loadAll (t : Tick)
  /-- ARM_REDUNDANCY_CHANGE (R165): An arm sum staying in a new band for 50 load-alls changes its redundancy state and raises its event. arm: U, V, W -/
  | armRedundancyChange (t : Tick) (arm : Fin 3)
  /-- RESUME_EDGE (R247): At the resume edge each PENDING latch clears or returns to SET under the next-edge rule. -/
  | resumeEdge (t : Tick)
  /-- CENTRE_MODE_RECOVERY_END (R247): After mod.recover_cycles of centre mode from the resume edge, edge mode resumes. -/
  | centreModeRecoveryEnd (t : Tick)
  /-- RETURNING_FRAME (R208): A returning Dunrylink frame is checked and its status slots, tunnel records and slow-channel answer are validated and used. lane: the receiver, false P, true Q; frame: the bytes between SOF and EOF -/
  | returningFrame (t : Tick) (ring : Fin 12) (lane : Bool) (frame : List (BitVec 8))
  /-- VALIDATION_MARKER (R435): A VALID or INVALID marker commits or discards the provisional results that depend on a frame or block. ring: 0 to 11, or 12 for Mardal; id: SEQ of the frame or type of the block -/
  | validationMarker (t : Tick) (ring : Fin 13) (id : BitVec 16) (valid : Bool)
  /-- BYPASS_CLOSE_TIMEOUT (R163): BP not reported closed within mod.bp_close_max raises EV_CELL_BYPASS_FAIL. cell: 32 times its ring plus its position -/
  | bypassCloseTimeout (t : Tick) (cell : Fin 384)
  /-- CELL_REST_END (R148): A rest cause absent for its count of cycles returns the cell to AVAILABLE. cell: 32 times its ring plus its position -/
  | cellRestEnd (t : Tick) (cell : Fin 384)
  /-- NODE_ANSWER_MISSED (R329): A slow-channel answer missed in link.disc_cycles consecutive frames completes the command with REFUSED. -/
  | nodeAnswerMissed (t : Tick)
  /-- PRQ_RECEIVED (R214): The device answers a hop-delay probe with a PRS exactly t_turn later. lane: the receive lane, false P, true Q -/
  | prqReceived (t : Tick) (ring : Fin 12) (lane : Bool) (tag : BitVec 8)
  /-- BMS_TRANSMIT_FRAME (R185): A profile transmit frame's period elapses and the frame is queued to the pack's BMS. q: transmit frame -/
  | bmsTransmitFrame (t : Tick) (cell : Fin 384) (q : Fin 2)
  /-- CTB_SECOND (R193): At each CTB second the meter engine freezes the counters and Ridge writes the next persistence bank. -/
  | ctbSecond (t : Tick)
  /-- METER_BANK_WRITE_DONE (R193): A bank write completes; a failed read-back raises EV_METER_PERSIST_FAIL. ok: the read-back passes -/
  | meterBankWriteDone (t : Tick) (ok : Bool)
  /-- OBSERVER_ROUND_START (R178): Once the meter engine has integrated every pack up to T_n, the observer round updates the packs. left: packs, the last of the round, that stalls leave without their update; us: measured length of the round in µs -/
  | observerRoundStart (t : Tick) (left : Fin 385) (us : BitVec 16)
  /-- OBSERVER_ROUND_LATE (R179): When round n+1 is due with round n unfinished, outstanding packs skip and EV_OBS_ROUND_LATE is raised. -/
  | observerRoundLate (t : Tick)
  /-- TRIP_INPUT_CHANGE (R233): A filtered TRIP_IN level change activates or releases the source and feeds the chatter detector. held: consecutive samples of that level up to t -/
  | tripInputChange (t : Tick) (inp : Fin 16) (level : Bool) (held : Nat)
  /-- BLANKING_WINDOW_END (R236): A blanking window ends; a fast level still outside asserts its source with AFTER_BLANK. j: comparator -/
  | blankingWindowEnd (t : Tick) (j : Fin 12)
  /-- INCOMING_SQUALL (R238): A K28.3 pair on a receive lane is counted as echo or asserts source 40. ring: of the receive lane -/
  | incomingSquall (t : Tick) (ring : Fin 12)
  /-- SQUALL_HOLD_END (R238): No K28.3 pair for t_sq_hold makes the input of source 40 inactive. -/
  | squallHoldEnd (t : Tick)
  /-- BURST_END (R237): prot.squall_burst after the last trigger the lanes return to idle and the echo window starts. -/
  | burstEnd (t : Tick)
  /-- ECHO_WINDOW_END (R238): t_echo after a burst the echo window ends. -/
  | echoWindowEnd (t : Tick)
  /-- MULTI_WIN_ELAPSED (R241): prot.multi_win after the first trigger the record is complete and EV_SQUALL is raised, after EV_TRIP_MULTI_ARM when multi-arm. -/
  | multiWinElapsed (t : Tick)
  /-- AUTO_CLEAR_REQUEST (R249): A SET latch in the auto masks whose input stays inactive for prot.auto_delay is clear-requested, unless beyond the limit. src: source -/
  | autoClearRequest (t : Tick) (src : Fin 48)
  /-- TRIP_REMIND (R248): Every 10 s of an active input on a SET latch raises EV_TRIP_REMIND. src: source -/
  | tripRemind (t : Tick) (src : Fin 48)
  /-- EARTH_CURRENT_TRIP (R251): |stream 56| above prot.ef_i for prot.ef_time makes source 43 active. -/
  | earthCurrentTrip (t : Tick)
  /-- STAR_POINT_TRIP (R251): |stream 52| above prot.sp_v for prot.sp_time in star makes source 44 active. -/
  | starPointTrip (t : Tick)
  /-- GATE_AGEING_PERSIST (R257): Every 60 s Ridge persists the gate code means and baselines. -/
  | gateAgeingPersist (t : Tick)
  /-- SAFETY_INPUT_CHANGE (R269): A filtered SIN channel changes level, starting or ending a demand or a reset of the assigned function. n: input; chB: channel B; level: of the pin; heldNs: how long the pin holds it, up to t -/
  | safetyInputChange (t : Tick) (n : Fin 4) (chB level : Bool) (heldNs : Rat)
  /-- SIN_DISCREPANCY (R271): Channels disagreeing longer than saf.sin[n].disc_time make the input FAULTY and raise EV_SIN_FAULT. n: input -/
  | sinDiscrepancy (t : Tick) (n : Fin 4)
  /-- SIN_PULSE_MISSED (R272): A pulsed channel missing its own test pulse or showing a cross-circuit makes the input FAULTY. chB: channel B; cross: a cross-circuit, otherwise its own pulse is missing -/
  | sinPulseMissed (t : Tick) (n : Fin 4) (chB cross : Bool)
  /-- TEST_PULSE_START (R274): At its slot an energised output has one switch turned off for saf.test_w. n: output -/
  | testPulseStart (t : Tick) (n : Fin 6)
  /-- TEST_PULSE_END (R274): The pulse ends; the output is re-energised if passing, made FAULTY if failing, or left off under a demand. pass: both channels read the output off before the end -/
  | testPulseEnd (t : Tick) (n : Fin 6) (pass : Bool)
  /-- SOUT_READBACK_MISMATCH (R274): A readback that contradicts the command makes the output FAULTY and raises EV_SOUT_FAULT. on: read on while commanded off; ls: the switch it shows -/
  | soutReadbackMismatch (t : Tick) (n : Fin 6) (on ls : Bool)
  /-- SWITCH_CHECK_DONE (R274): The HS-alone and LS-alone checks end, letting the output energise or making it FAULTY again. ls: the switch that failed -/
  | switchCheckDone (t : Tick) (n : Fin 6) (pass ls : Bool)
  /-- CHANNEL_COMPARISON (R266): Every 1 µs channels A and B compare their images and channel B checks the oscillator. differs: the images of A and B differ; oscBad: more than 10 % deviation of the oscillator -/
  | channelComparison (t : Tick) (differs oscBad : Bool)
  /-- HEARTBEAT (R267): A channel-P heartbeat carries its demand vector to Bailsil. flip: functions SPI, SBT0, SBT1, SCI in which P's evaluation differs from that of A and B -/
  | heartbeat (t : Tick) (flip : BitVec 4) (seq : Nat)
  /-- HEARTBEAT_TIMEOUT (R267): No valid heartbeat for 50 µs puts the device into fall-back. -/
  | heartbeatTimeout (t : Tick)
  /-- LOCKSTEP_MISMATCH (R267): A lockstep mismatch in the safety pair puts the device into fall-back. -/
  | lockstepMismatch (t : Tick)
  /-- CHANNEL_DISAGREEMENT_TIMEOUT (R267): P differing from A and B for 1 ms puts the device into fall-back. -/
  | channelDisagreementTimeout (t : Tick)
  /-- SCI_DELAY_EXPIRY (R279): saf.sci.delay after an SCI demand the role-3 outputs are de-energised. -/
  | sciDelayExpiry (t : Tick)
  /-- SCI_CONFIRM_EXPIRY (R279): saf.sci.confirm after de-energisation channel P counts the confirmed cells and raises EV_SCI_DONE. -/
  | sciConfirmExpiry (t : Tick)
  /-- SLP_MONITOR (R280): Every 1 ms channel P evaluates the power against the SLP limit, demanding SPI after saf.slp.time. -/
  | slpMonitor (t : Tick)
  /-- SAFE_REMIND (R282): Every 10 s of an active demand source raises EV_SAFE_REMIND. fn: function; src: demand source -/
  | safeRemind (t : Tick) (fn : Fin 4) (src : Fin 12)
  /-- SAFE_CHANNEL_PDU (R287): A command PDU is checked under its connection state and, if accepted, applies its demands and resets and is answered. -/
  | safeChannelPdu (t : Tick)
  /-- SAFE_CHANNEL_WATCHDOG_EXPIRY (R288): No accepted PDU for saf.sc_watchdog expires the connection and demands saf.sc_tmo_action. -/
  | safeChannelWatchdogExpiry (t : Tick)
  /-- MARDAL_LANE_DOWN (R299): Invalid sync headers or loss of signal take a lane down and raise EV_TWIN_LANE. lane: MDL0 or MDL1 -/
  | mardalLaneDown (t : Tick) (lane : Fin 2)
  /-- MARDAL_LANE_UP (R299): 1 ms of valid blocks brings a lane up and raises EV_TWIN_LANE. lane: MDL0 or MDL1 -/
  | mardalLaneUp (t : Tick) (lane : Fin 2)
  /-- BEACON (R312): A peer beacon updates role, state, service level and READY inputs, and detects dual-active. good: the block's CRC holds; b: its content -/
  | beacon (t : Tick) (good : Bool) (b : PeerBeacon)
  /-- LAW_CHECKPOINT (R301): The Active's law checkpoint arrives for the Standby's next cycle. good: the block's CRC holds; cyc: its cycle; st: the states -/
  | lawCheckpoint (t : Tick) (good : Bool) (cyc : Nat) (st : LawStates)
  /-- MARDAL_ARM_RECORD (R301): An Active arm record arrives and the Standby computes the relayed schedule. cyc: CYC of the block, none where its CRC fails; r: the record of Table 5-2 -/
  | mardalArmRecord (t : Tick) (cyc : Option Nat) (arm : Fin 3) (r : ArmRecord)
  /-- BATTEN_INPUTS (R301): The Active's cell voltages and dispositions arrive for the relayed computation. cells: V_dc and disposition (0 AVAILABLE, 1 RESTED, 2 BYPASSED) of every cell -/
  | battenInputs (t : Tick) (good : Bool) (cyc : Nat) (cells : List (Rat × Nat))
  /-- SCHEDULE_CHECK (R304): An arm's schedule check or overrun notice arrives for the decision of its arm. cyc: CYC of the block, none where its CRC fails; notice: an overrun notice; crc: over the arm's slots -/
  | scheduleCheck (t : Tick) (cyc : Option Nat) (arm : Fin 3) (notice resume : Bool) (crc : BitVec 32)
  /-- STREAM_BLOCK (R307): The peer's stream outputs arrive and are compared for measurement alignment. vals: newest outputs of streams 0 on, Q24.8 -/
  | streamBlock (t : Tick) (good : Bool) (vals : List Int)
  /-- STATUS_BLOCK (R308): The peer's validated status slots fill slots the own receivers did not validate. bytes: 32 status slots as the peer received them -/
  | statusBlock (t : Tick) (good : Bool) (ring : Fin 12) (seq : BitVec 16) (bytes : List (BitVec 8))
  /-- OBSERVER_BLOCK (R301): The Standby adopts the Active's observer states and cell-table entries. obs, row: the Active's state of the pack -/
  | observerBlock (t : Tick) (good : Bool) (cell : Fin 384) (obs : Observer) (row : CellRow)
  /-- METER_BLOCK (R309): The Standby adopts the Active's frozen counters and records the deviation. cnt: the counters as frozen, with fractions; ten: the tenancy -/
  | meterBlock (t : Tick) (good : Bool) (cell : Fin 384) (cnt : PackCounters) (ten : Tenancy)
  /-- DIGEST_BLOCK (R308): A differing parameter or firmware digest raises EV_TWIN_MISMATCH and makes the Standby NOT_READY. set: digest of the committed set; fw: firmware version -/
  | digestBlock (t : Tick) (good : Bool) (set : BitVec 256) (fw : BitVec 32)
  /-- BATTEN_STATE_BLOCK (R308): A requested part of the Active's Batten state arrives for the Standby's copy. cells: the part's cells by place in arm order, with their gate loops; a: the arm's state, and the circulating-current state -/
  | battenStateBlock (t : Tick) (good : Bool) (arm : Fin 3) (cells : List (Nat × ModCell × Gate × Gate)) (a : ModArm × Circ)
  /-- TIME_PROBE (R297): A time probe lets the slave steer its CTB to the master and, once, set it. delay: one-way, ns; ofs: own CTB minus the master's, ns; cyc: the master's cycle counter -/
  | timeProbe (t : Tick) (good : Bool) (delay ofs : Rat) (cyc : Nat)
  /-- TWIN_DEADLINE (R302): At t_load − 1.7 µs the Active sends schedule checks or overrun notices. -/
  | twinDeadline (t : Tick)
  /-- TWIN_DECISION (R304): At t_dec the Standby chooses relayed, shadow or empty slots for each arm. -/
  | twinDecision (t : Tick)
  /-- SHADOW_EXPIRED (R311): twin.shadow_max shadow cycles without a grant raise EV_TWIN_SHADOW_EXPIRED. -/
  | shadowExpired (t : Tick)
  /-- HEALTH_TOGGLE (R311): Every 10 µs HEALTH toggles while the member is READY or able to serve. -/
  | healthToggle (t : Tick)
  /-- ARB_GRANT_CHANGE (R312): The filtered ARB_GRANT rises or falls, arming a role change. level: of the pin; heldNs: how long it has stood, ns -/
  | arbGrantChange (t : Tick) (level : Bool) (heldNs : Rat)
  /-- TWIN_ROLE_CHANGE (R312): At a cycle boundary the member becomes Active or Standby and raises EV_TWIN_ROLE. -/
  | twinRoleChange (t : Tick)
  /-- BREAKER_CONTACT_CHANGE (R127): A filtered breaker contact changes level and feeds the debounce and chatter detector. b: breaker, 0 MB and 1 BYP; c: contact, 0 A and 1 B; level: the level now on the pin, with the samples at 800 MHz for which it has been held -/
  | breakerContactChange (t : Tick) (b c : Fin 2) (level : Bool × Nat)
  /-- BREAKER_DEBOUNCE_DONE (R127): A contact held for brk[b].debounce changes its debounced state and may change the position. b: breaker; c: contact -/
  | breakerDebounceDone (t : Tick) (b c : Fin 2)
  /-- BREAKER_DISCREPANCY (R128): TRAVEL beyond brk[b].disc_time makes the breaker FAULTY and raises EV_BRK_POS_FAULT. b: breaker -/
  | breakerDiscrepancy (t : Tick) (b : Fin 2)
  /-- CLOSE_PULSE_EXPIRY (R131): brk[b].close_pulse after assertion the close output is released. b: breaker -/
  | closePulseExpiry (t : Tick) (b : Fin 2)
  /-- CLOSE_MAX_EXPIRY (R131): CLOSED not reached within brk[b].close_max raises EV_BRK_CLOSE_FAIL. b: breaker -/
  | closeMaxExpiry (t : Tick) (b : Fin 2)
  /-- BS_DEAD_CONFIRMED (R134): A dead bus for bs.dead_time draws the hold-off and enters BS_HOLDOFF. -/
  | bsDeadConfirmed (t : Tick)
  /-- BS_HOLDOFF_END (R136): At the end of the hold-off the last look issues the close command if the bus is still dead. -/
  | bsHoldoffEnd (t : Tick)
  /-- BS_BUS_BAND_CHANGE (R133): The bus leaving the dead band, or becoming live or dead again, moves the black-start sequence. -/
  | bsBusBandChange (t : Tick)
  /-- BS_LIVE_CONFIRMED (R134): A bus live for bs.live_time requests LANDING. -/
  | bsLiveConfirmed (t : Tick)
  /-- BS_CONFIRM_TIMEOUT (R134): BS_WAIT_LIVE not live within bs.confirm_max aborts the sequence. -/
  | bsConfirmTimeout (t : Tick)
  /-- BS_ENERGISE_TIMEOUT (R134): BS_ENERGISE beyond bs.energise_max aborts the sequence and sets the control trip. -/
  | bsEnergiseTimeout (t : Tick)
  /-- LAND_TRIM_STEP (R138): Every land.trim_time the differences are measured and trim segments are queued. -/
  | landTrimStep (t : Tick)
  /-- LAND_DWELL_COMPLETE (R138): land.dwell in the window issues the close command. -/
  | landDwellComplete (t : Tick)
  /-- LAND_TIMEOUT (R139): No close command within land.time_max aborts the landing. -/
  | landTimeout (t : Tick)
  /-- LAND_ABORT_HOLD_END (R139): After land.abort_hold E ramps to 0 and CHARGED is requested. -/
  | landAbortHoldEnd (t : Tick)
  /-- MOVE_START (R123): A queued move starts at its CTB instant or when the previous move on its axis ends. axis: 0 PHASE, 1 AMPLITUDE -/
  | moveStart (t : Tick) (axis : Fin 2)
  /-- SEGMENT_START (R124): At each segment start the remaining part is checked and lengthened if needed. axis: 0 PHASE, 1 AMPLITUDE -/
  | segmentStart (t : Tick) (axis : Fin 2)
  /-- MOVE_END (R123): A move ends and its axis returns to TRACK, except a PCC-locked move. axis: 0 PHASE, 1 AMPLITUDE -/
  | moveEnd (t : Tick) (axis : Fin 2)
  /-- ENUM_DISCOVER_DONE (R358): After link.disc_cycles discovery frames the cell counts are compared and rings used or excluded. -/
  | enumDiscoverDone (t : Tick)
  /-- ENUM_PRELOAD_DONE (R358): Preload of the nodes ends and matching begins. -/
  | enumPreloadDone (t : Tick)
  /-- ENUM_MATCH_END (R358): All cells assigned or st.match_time passed enters STANDBY. -/
  | enumMatchEnd (t : Tick)
  /-- CHARGE_CONTACT_END (R359): Every cell ready, or st.contact_max passed, ends CONTACT. -/
  | chargeContactEnd (t : Tick)
  /-- CHARGE_CELL_TEST_END (R359): After 4 cycles the cell test ends and PRE_CHARGE starts. -/
  | chargeCellTestEnd (t : Tick)
  /-- PRE_CHARGE_DWELL_END (R359): After st.pc_dwell the converter-side voltages are checked against st.pc_tol. -/
  | preChargeDwellEnd (t : Tick)
  /-- HOST_WATCHDOG_EXPIRY (R345): No write to HST_HOST_WD within host.wd_time sets HOST_LOST and applies st.host_lost_action. -/
  | hostWatchdogExpiry (t : Tick)
  /-- ZEPHYR_ROUND (R466): At each 10 ms boundary the housekeeping tasks of the round start in order. temps: the 16 sensors, 0.1 °C; rails: the eight rails, mV; refs: the reference monitor of each group, its deviation from nominal in % -/
  | zephyrRound (t : Tick) (temps : List Int) (rails : List Nat) (refs : List Rat)
  /-- ZEPHYR_ROUND_CLOSE (R465): t_zclose after a boundary the round is closed and its summary events are raised. -/
  | zephyrRoundClose (t : Tick)
  /-- CTB_SOURCE_RETURN (R402): The committed source synchronised for 60 s takes the CTB back. -/
  | ctbSourceReturn (t : Tick)
  /-- ANEMOMETER_DUMP (R460): At a due tick every counter block is frozen and a dump is written to the host ring. -/
  | anemometerDump (t : Tick)
  /-- DUMP_WRITE_DONE (R461): A dump write completes and signals vector 9, or fails and disables the ring. ok: the host takes the write -/
  | dumpWriteDone (t : Tick) (ok : Bool)
  /-- COUNTER_WRAP (R458): A counter wrapping feeds its chained counter or sets its overflow bit. b: block; idx: counter -/
  | counterWrap (t : Tick) (b : Fin 7) (idx : Fin 16)
  /-- SCRUB_PASS (R434): The scrubber reads, corrects and rewrites SRAM words. fixed: words corrected, as SRAM (0 Ridge, 1 Rafter, 2 Batten) and word address; bad: words that could not be corrected -/
  | scrubPass (t : Tick) (fixed bad : List (Fin 3 × BitVec 32))
  /-- RECORDER_FRAME_WRITE (R410): Within t_frame after E(k+2) the recorder writes frame k into the capture area. bad: the capture write check fails -/
  | recorderFrameWrite (t : Tick) (bad : Bool)
  /-- TRIGGER_CONDITION (R420): A recorder trigger condition is met and placed in its sample. -/
  | triggerCondition (t : Tick)
  /-- ETH_PORT_LINK_CHANGE (R392): A port's link state changes and EV_NET_PORT is raised. port: 0 for port 1; gigabit: the partner offers 1,000 Mbit/s -/
  | ethPortLinkChange (t : Tick) (port : Fin 2) (up gigabit : Bool)
  /-- ETH_FRAME_RECEIVED (R388): A received frame is deduplicated and terminated, or discarded and counted. kind: 0 PTP, 1 safe channel, 2 supervision, 3 pause, 4 other; tag: LAN and sequence number of the RCT or HSR tag; mine: addressed to the device or a group it uses -/
  | ethFrameReceived (t : Tick) (port : Fin 2) (len : Nat) (src : BitVec 48) (kind : Fin 5) (tag : Option (Nat × Nat)) (mine : Bool)
  /-- SAFE_CHANNEL_FRAME (R393): A safe-channel frame passes its PDU to channels A, B and P. pdu: byte 0 in the low byte -/
  | safeChannelFrame (t : Tick) (src : BitVec 48) (mine : Bool) (etherType version : BitVec 16) (pdu : BitVec 192)
  /-- HSR_FORWARD (R391): An HSR frame for another node is forwarded to the other port. port: ingress; event: 0 no PTP event message, 1 corrected at once, 2 two-step Sync; resid: residence, ns -/
  | hsrForward (t : Tick) (port : Fin 2) (src dst : BitVec 48) (seq : Nat) (pcp : Option (Fin 8)) (event : Fin 3) (dom ptpSeq : Nat) (ptpSrc : BitVec 80) (corr resid : Rat)
  /-- SUPERVISION_FRAME_SEND (R390): Every 2 s a supervision frame is sent on both ports. -/
  | supervisionFrameSend (t : Tick)
  /-- PTP_SYNC (R400): A Sync updates the station clock's offset, servo and synchronisation state. origin and corr in ns; err: error of the ingress timestamp, ns -/
  | ptpSync (t : Tick) (dom : Nat) (port : Fin 2) (src : BitVec 80) (seq : Nat) (twoStep : Bool) (origin corr err : Rat)
  /-- PTP_FOLLOW_UP (R395): A Follow_Up completes a two-step Sync or is forwarded with the held residence added. mac: source address of the frame -/
  | ptpFollowUp (t : Tick) (dom : Nat) (port : Fin 2) (src : BitVec 80) (seq : Nat) (mac : BitVec 48) (origin corr : Rat)
  /-- PTP_ANNOUNCE (R396): An Announce feeds the best master clock algorithm and port selection. rank: the data set's values in the order of comparison; interval: announce interval, s; utc: offset and valid bit -/
  | ptpAnnounce (t : Tick) (dom : Nat) (port : Fin 2) (src : BitVec 80) (gm : BitVec 64) (rank : List Nat) (interval : Rat) (utc : BitVec 17)
  /-- PDELAY_REQ (R394): A Pdelay_Req is answered one-step with the turnaround time. turn: turnaround time, ns -/
  | pdelayReq (t : Tick) (port : Fin 2) (src : BitVec 48) (seq : Nat) (corr turn : Rat)
  /-- DOMAIN_SILENT (R396): No Announce from the selected master within 3 intervals makes the domain silent. x: 0 SC-A, 1 SC-B -/
  | domainSilent (t : Tick) (x : Fin 2)
  /-- ERROR_REPORT (R436): An error reporter sends an error to the handler's queue or merges it into a queued entry. code of Table 16-3; island: the reporter's, whose die is the unit; kind, index: source as in Table 11-8; detail: of the report -/
  | errorReport (t : Tick) (code : BitVec 16) (island : Fin 10) (kind : Fin 10) (index : BitVec 16) (detail : BitVec 32)
  /-- ERROR_HANDLING_DONE (R437): The handler completes an error's class action and log entry. -/
  | errorHandlingDone (t : Tick)
  /-- HANDLER_FAULT (R440): The handler monitor detects a handler fault and sends Bailsil into safe hold. cause: in the order of R440, from 0 -/
  | handlerFault (t : Tick) (cause : Fin 5)
  /-- COMMAND_DOORBELL (R325): A write to HST_CMD_DB announces commands up to the producer count. ch: channel; v: the word written to HST_CMD_DB -/
  | commandDoorbell (t : Tick) (ch : Fin 8) (v : BitVec 32)
  /-- COMMAND_FETCH (R326): The device fetches a command when its channel's share of in-flight commands allows. entry: the 64 bytes of the slot, byte 0 in the low byte, none for a failed access -/
  | commandFetch (t : Tick) (entry : Option (BitVec 512))
  /-- CMD_NOP (R330): Echoes bytes 8 to 15 in RESULT. h: header of the fetched command; a: its ARGS -/
  | cmdNop (t : Tick) (h : CmdHdr) (a : BitVec 448)
  /-- CMD_PARAM_STAGE (R331): Stages up to 6 parameter pairs, all or nothing. h: header of the fetched command; a: its ARGS -/
  | cmdParamStage (t : Tick) (h : CmdHdr) (a : BitVec 448)
  /-- CMD_PARAM_STAGE_LIST (R331): Stages a list of pairs from host memory, all or nothing. h, a: header and ARGS; mem: bytes read from host memory, none for a failed access -/
  | cmdParamStageList (t : Tick) (h : CmdHdr) (a : BitVec 448) (mem : Option (List (BitVec 8)))
  /-- CMD_PARAM_STAGE_DEFAULTS (R331): Stages the defaults of one class or all classes. h: header of the fetched command; a: its ARGS -/
  | cmdParamStageDefaults (t : Tick) (h : CmdHdr) (a : BitVec 448)
  /-- CMD_PARAM_DISCARD (R331): Empties the staging area. h: header of the fetched command; a: its ARGS -/
  | cmdParamDiscard (t : Tick) (h : CmdHdr) (a : BitVec 448)
  /-- CMD_PARAM_COMMIT (R332): Starts the check of the staged set against the consistency rules. h: header of the fetched command; a: its ARGS -/
  | cmdParamCommit (t : Tick) (h : CmdHdr) (a : BitVec 448)
  /-- COMMIT_CHECK_DONE (R332): The commit check ends, making the staged set committed or rejecting it. -/
  | commitCheckDone (t : Tick)
  /-- COMMIT_APPLY (R333): Committed cycle items apply at the first boundary at least t_apply after the check. -/
  | commitApply (t : Tick)
  /-- CMD_PARAM_READ (R334): Returns a committed or staged parameter value. h: header of the fetched command; a: its ARGS -/
  | cmdParamRead (t : Tick) (h : CmdHdr) (a : BitVec 448)
  /-- CMD_PARAM_PERSIST (R335): Writes the committed set to the next persistence copy. h: header of the fetched command; a: its ARGS -/
  | cmdParamPersist (t : Tick) (h : CmdHdr) (a : BitVec 448)
  /-- CMD_STATE_REQ (R361): Requests a converter state transition under the guards of Table 12-5. h: header of the fetched command; a: its ARGS -/
  | cmdStateReq (t : Tick) (h : CmdHdr) (a : BitVec 448)
  /-- CMD_TR_MOVE (R123): Queues a move of segments on one trajectory axis. h, a: header and ARGS; mem: bytes read from host memory, none for a failed access -/
  | cmdTrMove (t : Tick) (h : CmdHdr) (a : BitVec 448) (mem : Option (List (BitVec 8)))
  /-- CMD_TR_FLUSH (R123): Ends host moves and discards queued host moves. h: header of the fetched command; a: its ARGS -/
  | cmdTrFlush (t : Tick) (h : CmdHdr) (a : BitVec 448)
  /-- CMD_TR_TABLE_LOAD (R126): Replaces the waveform table from host memory in OFF or MAINT. h, a: header and ARGS; mem: bytes read from host memory, none for a failed access -/
  | cmdTrTableLoad (t : Tick) (h : CmdHdr) (a : BitVec 448) (mem : Option (List (BitVec 8)))
  /-- CMD_BLACK_START (R132): Starts the black-start sequence or refuses it with EV_BS_REFUSED. h: header of the fetched command; a: its ARGS -/
  | cmdBlackStart (t : Tick) (h : CmdHdr) (a : BitVec 448)
  /-- CMD_LAND (R137): Starts the landing move from CHARGED. h: header of the fetched command; a: its ARGS -/
  | cmdLand (t : Tick) (h : CmdHdr) (a : BitVec 448)
  /-- CMD_LAND_ABORT (R139): Aborts the landing move. h: header of the fetched command; a: its ARGS -/
  | cmdLandAbort (t : Tick) (h : CmdHdr) (a : BitVec 448)
  /-- CMD_BRK_CLOSE (R131): Asserts a breaker's close output at the next boundary. h: header of the fetched command; a: its ARGS -/
  | cmdBrkClose (t : Tick) (h : CmdHdr) (a : BitVec 448)
  /-- CMD_BRK_REARM (R130): Clears a breaker's FAULTY latch and both cause bits. h: header of the fetched command; a: its ARGS -/
  | cmdBrkRearm (t : Tick) (h : CmdHdr) (a : BitVec 448)
  /-- CMD_FEEDBACK_REARM (R100): Rearms latched-faulty feedback sensors for re-admission. h: header of the fetched command; a: its ARGS -/
  | cmdFeedbackRearm (t : Tick) (h : CmdHdr) (a : BitVec 448)
  /-- CMD_CELL_BYPASS (R171): Makes a cell BYPASSED. h: header of the fetched command; a: its ARGS -/
  | cmdCellBypass (t : Tick) (h : CmdHdr) (a : BitVec 448)
  /-- CMD_CELL_RETURN (R171): Returns a BYPASSED cell to RESTED in MAINT. h: header of the fetched command; a: its ARGS -/
  | cmdCellReturn (t : Tick) (h : CmdHdr) (a : BitVec 448)
  /-- CMD_PACK_REARM (R177): Clears a cell's latched XCHK or DIVERGE cause. h: header of the fetched command; a: its ARGS -/
  | cmdPackRearm (t : Tick) (h : CmdHdr) (a : BitVec 448)
  /-- CMD_PACK_TENANCY (R191): Starts a new tenancy for a cell in MAINT. h: header of the fetched command; a: its ARGS -/
  | cmdPackTenancy (t : Tick) (h : CmdHdr) (a : BitVec 448)
  /-- CMD_BMS_TAP (R184): Moves or stops the raw BMS frame tap into a host buffer. h: header of the fetched command; a: its ARGS -/
  | cmdBmsTap (t : Tick) (h : CmdHdr) (a : BitVec 448)
  /-- CMD_BMS_SEND (R184): Queues one raw frame to a cell's BMS in OFF or MAINT. h: header of the fetched command; a: its ARGS -/
  | cmdBmsSend (t : Tick) (h : CmdHdr) (a : BitVec 448)
  /-- CMD_METER_SNAPSHOT (R195): Freezes the named cells' counters at the next boundary and starts the signed snapshot. h: header of the fetched command; a: its ARGS -/
  | cmdMeterSnapshot (t : Tick) (h : CmdHdr) (a : BitVec 448)
  /-- SNAPSHOT_SIGNED (R195): The signed snapshot record is written and the command completes. dmaOk: the host takes the record -/
  | snapshotSigned (t : Tick) (dmaOk : Bool)
  /-- CMD_METER_ACK (R194): Acknowledges METER_RESET and clears it. h: header of the fetched command; a: its ARGS -/
  | cmdMeterAck (t : Tick) (h : CmdHdr) (a : BitVec 448)
  /-- CMD_NODE_READ (R225): Reads cell-node registers over the slow channel. h: header of the fetched command; a: its ARGS -/
  | cmdNodeRead (t : Tick) (h : CmdHdr) (a : BitVec 448)
  /-- CMD_NODE_WRITE (R225): Writes cell-node registers over the slow channel. h: header of the fetched command; a: its ARGS -/
  | cmdNodeWrite (t : Tick) (h : CmdHdr) (a : BitVec 448)
  /-- CMD_TRIP_CLEAR (R246): Makes a clear request for each source of its mask. h: header of the fetched command; a: its ARGS -/
  | cmdTripClear (t : Tick) (h : CmdHdr) (a : BitVec 448)
  /-- CMD_TRIP_REARM (R233): Ends FAULTY for trip inputs that have been quiet a full chatter window. h: header of the fetched command; a: its ARGS -/
  | cmdTripRearm (t : Tick) (h : CmdHdr) (a : BitVec 448)
  /-- CMD_TRIP_FORCE (R253): Asserts trip source 46 for one sample. h: header of the fetched command; a: its ARGS -/
  | cmdTripForce (t : Tick) (h : CmdHdr) (a : BitVec 448)
  /-- CMD_GATE_BASELINE (R257): Sets the gate-drive baseline of one cell or all cells to the code mean. h: header of the fetched command; a: its ARGS -/
  | cmdGateBaseline (t : Tick) (h : CmdHdr) (a : BitVec 448)
  /-- CMD_SAFE_RESET (R281): Requests a safety reset when saf.host_reset = 1. h: header of the fetched command; a: its ARGS -/
  | cmdSafeReset (t : Tick) (h : CmdHdr) (a : BitVec 448)
  /-- CMD_SAFE_REARM (R274): Rearms FAULTY safety inputs, or outputs in MAINT with a switch check. h: header of the fetched command; a: its ARGS -/
  | cmdSafeRearm (t : Tick) (h : CmdHdr) (a : BitVec 448)
  /-- CMD_REC_ARM (R415): Arms the recorder and computes the record lengths in force. h, a: header and ARGS of the fetched command -/
  | cmdRecArm (t : Tick) (h : CmdHdr) (a : BitVec 448)
  /-- CMD_REC_STOP (R413): Stops the recorder now or after the record in progress. h, a: header and ARGS of the fetched command -/
  | cmdRecStop (t : Tick) (h : CmdHdr) (a : BitVec 448)
  /-- CMD_REC_TRIGGER (R417): Meets the condition of host trigger 16. h, a: header and ARGS of the fetched command -/
  | cmdRecTrigger (t : Tick) (h : CmdHdr) (a : BitVec 448)
  /-- CMD_REC_MASK_START (R422): Starts a run of a mask with host start. h, a: header and ARGS of the fetched command -/
  | cmdRecMaskStart (t : Tick) (h : CmdHdr) (a : BitVec 448)
  /-- CMD_EH_LOG_READ (R441): Copies error-log entries to host memory. h: header of the fetched command; a: its ARGS; dmaOk: the host-memory access succeeds -/
  | cmdEhLogRead (t : Tick) (h : CmdHdr) (a : BitVec 448) (dmaOk : Bool)
  /-- CMD_EH_ACK (R437): Clears degraded die bits. h: header of the fetched command; a: its ARGS -/
  | cmdEhAck (t : Tick) (h : CmdHdr) (a : BitVec 448)
  /-- CMD_EH_LOG_CLEAR (R441): Empties the error log in SRAM and store, in MAINT. h: header of the fetched command; a: its ARGS -/
  | cmdEhLogClear (t : Tick) (h : CmdHdr) (a : BitVec 448)
  /-- CMD_FW_RESTART (R447): Performs the firmware restart of the host pair in OFF or MAINT. h: header of the fetched command; a: its ARGS -/
  | cmdFwRestart (t : Tick) (h : CmdHdr) (a : BitVec 448)
  /-- CMD_FW_WRITE (R446): Starts writing an image into the slot that is not running. h, a: header and ARGS; image: bytes read from host memory, none for a failed access -/
  | cmdFwWrite (t : Tick) (h : CmdHdr) (a : BitVec 448) (image : Option (List (BitVec 8)))
  /-- FW_WRITE_DONE (R446): The image write, read-back and checks complete. -/
  | fwWriteDone (t : Tick)
  /-- CMD_FW_COMMIT (R446): Raises the anti-rollback counter and revokes lower key indices. h: header of the fetched command; a: its ARGS -/
  | cmdFwCommit (t : Tick) (h : CmdHdr) (a : BitVec 448)
  /-- CMD_SEC_IDENTITY (R442): Copies the device certificate to the host. h: header of the fetched command; a: its ARGS; dmaOk: the host-memory access succeeds -/
  | cmdSecIdentity (t : Tick) (h : CmdHdr) (a : BitVec 448) (dmaOk : Bool)
  /-- CMD_SEC_ATTEST (R449): Starts a signed attestation report. h: header of the fetched command; a: its ARGS -/
  | cmdSecAttest (t : Tick) (h : CmdHdr) (a : BitVec 448)
  /-- ATTEST_SIGNED (R449): The signed attestation report is written and the command completes. dmaOk: the host takes the report -/
  | attestSigned (t : Tick) (dmaOk : Bool)
  /-- CMD_DBG_CHALLENGE (R450): Returns a debug unlock challenge. h: header of the fetched command; a: its ARGS; dmaOk: the host-memory access succeeds -/
  | cmdDbgChallenge (t : Tick) (h : CmdHdr) (a : BitVec 448) (dmaOk : Bool)
  /-- CMD_DBG_UNLOCK (R450): Opens the debug port for a scope with a valid vendor signature. h, a: header and ARGS; mem: bytes read from host memory, none for a failed access -/
  | cmdDbgUnlock (t : Tick) (h : CmdHdr) (a : BitVec 448) (mem : Option (List (BitVec 8)))
  /-- CMD_DBG_LOCK (R450): Relocks the debug port or disables it permanently. h: header of the fetched command; a: its ARGS -/
  | cmdDbgLock (t : Tick) (h : CmdHdr) (a : BitVec 448)
  /-- CMD_PMC_DUMP (R460): Requests an Anemometer dump at the next 800-tick multiple. h, a: header and ARGS of the fetched command -/
  | cmdPmcDump (t : Tick) (h : CmdHdr) (a : BitVec 448)
  /-- CMD_PMC_CLEAR (R473): Sets the selected counters and overflow bits to 0 at one tick. h, a: header and ARGS of the fetched command -/
  | cmdPmcClear (t : Tick) (h : CmdHdr) (a : BitVec 448)
  /-- CMD_DRIFT_READ (R463): Copies drift records to host memory. h, a: header and ARGS; dmaOk: the host takes the records -/
  | cmdDriftRead (t : Tick) (h : CmdHdr) (a : BitVec 448) (dmaOk : Bool)
  /-- CMD_HK_REARM (R468): Rearms broken sensors that have read good for 100 rounds. h, a: header and ARGS of the fetched command -/
  | cmdHkRearm (t : Tick) (h : CmdHdr) (a : BitVec 448)
  /-- CHANNEL_ENABLE_WRITE (R324): A write to HST_CTRL enables or disables mailbox channels and resets their counts. v: the word written to HST_CTRL -/
  | channelEnableWrite (t : Tick) (v : BitVec 32)
  /-- EVQ_ENABLE_WRITE (R337): Setting or clearing EVQ_CTRL [0] enables the queue or sends events to the backlog. v: the word written to EVQ_CTRL -/
  | evqEnableWrite (t : Tick) (v : BitVec 32)
  /-- EVQ_HEAD_WRITE (R337): A write of the consumed count frees queue space and drains the backlog. v: the word written to EVQ_HEAD -/
  | evqHeadWrite (t : Tick) (v : BitVec 32)
  /-- EVENT_RECORD_WRITE (R340): Event records and the tail shadow are written to host memory. ok: the host takes the writes -/
  | eventRecordWrite (t : Tick) (ok : Bool)
  /-- EVQ_IRQ_DELAY_EXPIRY (R340): EVQ_IRQ [31:16] µs after a record becomes visible vector 0 is signalled. -/
  | evqIrqDelayExpiry (t : Tick)
  /-- FENCE_WRITE (R343): A write to HST_FENCE starts a fence. -/
  | fenceWrite (t : Tick)
  /-- FENCE_READ (R343): A read of HST_FENCE completes after every earlier host write has taken effect. -/
  | fenceRead (t : Tick)
  /-- HOST_WATCHDOG_WRITE (R345): A write to HST_HOST_WD retriggers the host watchdog and clears HOST_LOST. -/
  | hostWatchdogWrite (t : Tick)
  /-- GUST_REQUEST_WRITE (R51): A write to HST_GUST_REQ requests a Gust on each converter named. v: the word written, bit n for converter n -/
  | gustRequestWrite (t : Tick) (v : BitVec 32)
  /-- PACK_SELECT_WRITE (R198): A write to HST_PACK_SEL latches the selected cell's registers and sets READY. v: the word written to HST_PACK_SEL -/
  | packSelectWrite (t : Tick) (v : BitVec 32)
  /-- GATE_SELECT_WRITE (R263): A write to TRP_GATE_SEL latches the selected cell's gate registers and sets READY. v: the word written to TRP_GATE_SEL -/
  | gateSelectWrite (t : Tick) (v : BitVec 32)
  /-- CTB_NOW_READ (R385): A read of CTB_NOW_L latches CTB_NOW_H. -/
  | ctbNowRead (t : Tick)
  /-- CTB_CYC_READ (R385): A read of CTB_CYC_L latches CTB_CYC_H and E(k) of the same cycle. -/
  | ctbCycRead (t : Tick)
  /-- CORRELATION_SAMPLE_REQUEST (R382): A write of 1 to CTB_XS_CTRL [0] requests a correlation sample. w: the instant, and the word written to CTB_XS_CTRL -/
  | correlationSampleRequest (w : Tick × BitVec 32)
  /-- SC_TIME_READ (R406): A read of SCx_TIME_NS latches the seconds words. x: 0 SC-A, 1 SC-B -/
  | scTimeRead (t : Tick) (x : Fin 2)
  /-- SC_INCREMENT_WRITE (R398): A write to SCx_INC_FRAC applies the increment at the next tick or sets INC_REJ. frac: the word written to SCx_INC_FRAC -/
  | scIncrementWrite (t : Tick) (x : Fin 2) (frac : BitVec 32)
  /-- SC_APPLY_SET (R399): SCx_CTRL bit 0 sets the station clock time at the next tick. w: the clock, 0 SC-A or 1 SC-B, and the word written to its SCx_CTRL -/
  | scApplySet (t : Tick) (w : Fin 2 × BitVec 32)
  /-- SC_APPLY_STEP (R399): SCx_CTRL bit 1 adds the signed step of SCx_ADJ at the next tick. w: the clock, 0 SC-A or 1 SC-B, and the word written to its SCx_CTRL, with bit 0 clear -/
  | scApplyStep (t : Tick) (w : Fin 2 × BitVec 32)
  /-- PMC_CONFIG_WRITE (R456): A write to PMC_CFG zeroes the counter and applies the configuration from the next tick. b: block; idx: counter; v: the word written -/
  | pmcConfigWrite (t : Tick) (b : Fin 7) (idx : Fin 16) (v : BitVec 32)
  /-- DUMP_RING_ENABLE_WRITE (R460): Setting PMC_DUMP_CTRL [0] enables the dump ring and zeroes the next sequence number. v: the word written to PMC_DUMP_CTRL -/
  | dumpRingEnableWrite (t : Tick) (v : BitVec 32)
  /-- COUNTER_PAGE_LOW_READ (R459): A 4-byte read of a counter's lower word latches its upper word in the shared latch. offset: byte of the user page -/
  | counterPageLowRead (t : Tick) (offset : BitVec 12)
  /-- BAR2_READOUT (R426): A BAR2 read returns Soffit bytes through REC_WIN with ECC correction or poisoning. write: the access is a write; offset: BAR2 byte; len: bytes read; ce, ue: 8-byte words whose error is corrected, or is not -/
  | bar2Readout (t : Tick) (write : Bool) (offset : BitVec 30) (len : Nat) (ce ue : Nat)
  /-- MISALIGNED_ACCESS (R322): A register access of wrong size or alignment reads 0 or is ignored and counted. write: a write, otherwise a read -/
  | misalignedAccess (t : Tick) (write : Bool)
  /-- REGISTER_WRITE (R8): A write to a register without its own row stores, sets or clears bits per its access code. offset: byte of BAR0; v: the word written -/
  | registerWrite (t : Tick) (offset : BitVec 26) (v : BitVec 32)
  /-- PARAM_PERSIST_DONE (R335): The write of the committed set to a persistence copy and its read-back complete, and CMD_PARAM_PERSIST completes with OK or with DMA status and DETAIL 1. ok: the copy's read-back holds -/
  | paramPersistDone (t : Tick) (ok : Bool)
  /-- MSIX_VECTOR_UNMASK (R323): A host write that unmasks an MSI-X vector whose PBA bit is set sends the pending message. v: vector -/
  | msixVectorUnmask (t : Tick) (v : Fin 32)
  /-- MANAGEMENT_UART_RECOVERY (R351): An image received over the management UART with BOOTSEL = 1, 1 is checked under R445 and, if it passes, booted. image: the bytes received -/
  | managementUartRecovery (t : Tick) (image : List (BitVec 8))
  /-- TPA_TPB_TEST_PULSE (R272): Every 10 ms Bailsil drops TPA, and 5 ms later TPB, low for 50 µs, and masks the low level on the channels that source feeds. tpb: TPB, otherwise TPA -/
  | tpaTpbTestPulse (t : Tick) (tpb : Bool)
  /-- RING_LANE_LOCK_CHANGE (R230): A ring receive lane gains or loses symbol lock, and the P lock or Q lock bit of HST_LNK_STAT changes. lane: false P, true Q -/
  | ringLaneLockChange (t : Tick) (ring : Fin 12) (lane : Bool) (lock : Bool)
  /-- RING_CLOSED_TIMEOUT (R391): When the device's own HSR supervision frames have not returned on both ports within 6 s, ring closed in HST_NET_STAT [4] clears. -/
  | ringClosedTimeout (t : Tick)
  /-- PDELAY_RESP_RECEIVED (R396): A Pdelay_Resp answering the device's own peer-delay request is timestamped and updates the peer delay of its port. err: error of the two timestamps together, ns -/
  | pdelayRespReceived (t : Tick) (port : Fin 2) (seq : Nat) (corr err : Rat)
  /-- PDELAY_REQ_INTERVAL (R394): At each peer-delay interval of the profile the device sends Pdelay_Req on each port, the passive one included. -/
  | pdelayReqInterval (t : Tick)
  deriving DecidableEq, Repr

end Sys2Proof
end

