-- ==== Sys2Proof/Config.lean ====
section
/-! DEFINITION. What an implementation fixes and the values the spec leaves open: opaque constants, of which no proof can see the value. -/

namespace Sys2Proof.Config

/-- Whether a quantiser rounds an inexact value up (fresh draw number). -/
opaque roundUp : Nat → Bool

/-- Whether a register word that shows an inexact value rounds it up, by register offset and value. -/
opaque regUp : Nat → Rat → Bool

/-- One cycle of the phase-locked loop of R113: step in s, (angle in turns, frequency in pu, ROCOF in Hz/s), nominal frequency, measured angle; the next three. -/
opaque pllNext : Rat → Rat × Rat × Rat → Rat → Rat → Rat × Rat × Rat

/-- The next value of a linear-feedback shift register whose polynomial the spec does not give (R462). -/
opaque driftNext : BitVec 32 → BitVec 32

/-- Which of n streams the further bits of a draw choose (R462): draw, n. -/
opaque driftPick : BitVec 32 → Nat → Nat

/-- Entropy of the security engine, by draw number (R450). -/
opaque random : Nat → BitVec 128

/-- Bytes of the Falcon-1024 public key (R442). -/
opaque publicKey : Nat → BitVec 8

/-- The manufacturing day and the index of the vendor certificate key (Table 16-6). -/
opaque certDay : BitVec 32
opaque certKey : BitVec 32

/-- The vendor signature of the device certificate: its length and bytes (Table 16-6). -/
opaque certSigLen : BitVec 32
opaque certSig : Nat → BitVec 8

/-- A Falcon-1024 signature by the device key over a message, for a draw number: length and bytes (R448). -/
opaque signLen : Nat → List (BitVec 8) → BitVec 32
opaque signByte : Nat → List (BitVec 8) → Nat → BitVec 8

/-- Whether a vendor signature verifies: public key bytes, message, signature (R445, R450). -/
opaque vendorVerify : List (BitVec 8) → List (BitVec 8) → List (BitVec 8) → Bool

/-- The ROM digests of the four vendor firmware keys (R444). -/
opaque romDigest : Nat → List (BitVec 8)

/-- Silicon stepping of the module (HST_ID [23:16]). -/
opaque stepping : BitVec 8

/-- Ticks for which a level signal of the counter blocks that the model does not hold was active, out of a span: draw number, block, code, span (R457). -/
opaque busyTicks : Nat → Nat → Nat → Nat → Nat

/-- The bytes over which the digest of the committed set is taken (R335). -/
opaque setBytes : List (Nat × Rat) → List (BitVec 8)

/-- The bytes over which the digest of a persistence bank is taken (R193): its whole numbers, then its real ones. -/
opaque bankBytes : List Nat → List Rat → List (BitVec 8)

/-- The covariance a pack observer starts from (R176): row, column. -/
opaque obsP0 : Nat → Nat → Rat

/-- Where in its stated range the filter threshold of a safety-input channel lies (R270), as a fraction; channels 2n for A and 2n + 1 for B. -/
opaque sinThreshold : Nat → Rat

/-- A number that the spec leaves open, by draw number. -/
opaque freeReal : Nat → Rat

/-- The firmware servo of a station clock on a Sync (R398): loop bandwidth in Hz, integral part in ppm, offset in ns; the next integral part and the rate it writes, in ppm. -/
opaque servo : Rat → Rat → Rat → Rat × Rat

/-- CODE of an event, which the spec does not number (Table 11-8), by its name. -/
opaque evCode : String → BitVec 16

/-- CLASS of an event other than EV_OVERFLOW, by its name (R338). -/
opaque evClass : String → Fin 5

/-- Byte 20 + i of the record of an event whose payload the spec lists but does not lay out: its name, the payload's values, i. -/
opaque evPayload : String → List Int → Nat → BitVec 8

end Sys2Proof.Config
end

