-- ==== Sys2Proof/Machine/Params.lean ====
section
/-! DEFINITION. The parameter table: every parameter row of the chapters (R10, R11, R503), its range, step, default and encoding (R506), and a reader for each name. -/

namespace Sys2Proof.Machine

/-- When a committed value takes effect (Table 0-3). -/
inductive Takes where
  | cycle | nextMove | state | restart | round
  deriving DecidableEq, Repr

/-- How a value travels as a word (R506): an integer, a Q format with that many fraction bits, or a real item. -/
inductive PKind where
  | int | q (frac : Nat) | real
  deriving DecidableEq, Repr

/-- One row of a parameter table, for all its instances and items (R10, R11). -/
structure PRow where
  /-- Class, bits 31 to 24 of the ID. -/
  cls : Nat
  /-- First instance and number of instances. -/
  inst0 : Nat
  insts : Nat
  /-- First item number, number of items and their distance. -/
  item0 : Nat
  items : Nat
  stride : Nat
  /-- Encoding. -/
  kind : PKind
  /-- The range includes negative values. -/
  signed : Bool
  /-- Range, both ends included. -/
  lo : Rat
  hi : Rat
  /-- Step, or 0 where none is named. -/
  step : Rat
  /-- 0 is admitted besides the range (off). -/
  orZero : Bool
  /-- The values admitted, where the range lists them. -/
  vals : List Rat
  /-- Default (rows whose default depends on the index have their own function). -/
  dflt : Rat
  /-- When it takes effect. -/
  takes : Takes
  deriving DecidableEq, Repr

/-- A set of parameter values by ID: only those that differ from the default are listed. -/
abbrev PSet := List (Nat × Rat)

/-- The value a set gives an ID, or the default. -/
def PSet.val (s : PSet) (id : Nat) (dflt : Rat) : Rat := (s.lookup id).getD dflt

/-- The same as a whole number that is not negative. -/
def PSet.nat (s : PSet) (id : Nat) (dflt : Nat) : Nat := (s.val id dflt).floor.toNat

/-- The same as a truth value. -/
def PSet.bool (s : PSet) (id : Nat) (dflt : Nat) : Bool := s.nat id dflt != 0

/-- Parameter rows of class 0x01, part 1. -/
def pRows01a : List PRow := [
  /- conv.topology -/
  { cls := 0x01, inst0 := 0x000, insts := 1, item0 := 0x01, items := 1, stride := 1, kind := .int, signed := false, lo := 0, hi := 1, step := 0, orZero := false, vals := [], dflt := 0, takes := .state },
  /- conv.tc -/
  { cls := 0x01, inst0 := 0x000, insts := 1, item0 := 0x02, items := 1, stride := 1, kind := .real, signed := false, lo := 125, hi := 1000, step := 1, orZero := false, vals := [], dflt := 200, takes := .state }
  ]

/-- Parameter rows of class 0x01 (Table 19-5). -/
def pRows01 : List PRow := pRows01a

/-- Parameter rows of class 0x02, part 1. -/
def pRows02a : List PRow := [
  /- ring[r].arm -/
  { cls := 0x02, inst0 := 0x000, insts := 12, item0 := 0x01, items := 1, stride := 1, kind := .int, signed := false, lo := 0, hi := 3, step := 0, orZero := false, vals := [], dflt := 0, takes := .state },
  /- ring[r].cells_expected -/
  { cls := 0x02, inst0 := 0x000, insts := 12, item0 := 0x02, items := 1, stride := 1, kind := .int, signed := false, lo := 0, hi := 32, step := 0, orZero := false, vals := [], dflt := 32, takes := .state },
  /- ring[r].dead_time -/
  { cls := 0x02, inst0 := 0x000, insts := 12, item0 := 0x03, items := 1, stride := 1, kind := .real, signed := false, lo := 1 / 5, hi := 5, step := 1 / 40, orZero := false, vals := [], dflt := 3 / 2, takes := .state },
  /- ring[r].min_pulse -/
  { cls := 0x02, inst0 := 0x000, insts := 12, item0 := 0x04, items := 1, stride := 1, kind := .real, signed := false, lo := 1, hi := 20, step := 1 / 40, orZero := false, vals := [], dflt := 3, takes := .state },
  /- ring[r].short_policy -/
  { cls := 0x02, inst0 := 0x000, insts := 12, item0 := 0x05, items := 1, stride := 1, kind := .int, signed := false, lo := 0, hi := 1, step := 0, orZero := false, vals := [], dflt := 0, takes := .cycle },
  /- link.time_diff_max -/
  { cls := 0x02, inst0 := 0x010, insts := 1, item0 := 0x01, items := 1, stride := 1, kind := .real, signed := false, lo := 1 / 2, hi := 5, step := 0, orZero := false, vals := [], dflt := 3 / 2, takes := .cycle },
  /- link.disc_cycles -/
  { cls := 0x02, inst0 := 0x010, insts := 1, item0 := 0x02, items := 1, stride := 1, kind := .int, signed := false, lo := 32, hi := 1000, step := 0, orZero := false, vals := [], dflt := 64, takes := .state }
  ]

/-- Parameter rows of class 0x02 (Table 19-5). -/
def pRows02 : List PRow := pRows02a

/-- Parameter rows of class 0x03, part 1. -/
def pRows03a : List PRow := [
  /- meas.stream[s].rank_win -/
  { cls := 0x03, inst0 := 0x000, insts := 64, item0 := 0x01, items := 1, stride := 1, kind := .int, signed := false, lo := 0, hi := 0, step := 0, orZero := false, vals := [1, 3, 5, 7, 9], dflt := 1, takes := .cycle },
  /- meas.stream[s].rank -/
  { cls := 0x03, inst0 := 0x000, insts := 64, item0 := 0x02, items := 1, stride := 1, kind := .int, signed := false, lo := 0, hi := 9, step := 0, orZero := false, vals := [], dflt := 0, takes := .cycle },
  /- meas.stream[s].resp -/
  { cls := 0x03, inst0 := 0x000, insts := 64, item0 := 0x03, items := 1, stride := 1, kind := .int, signed := false, lo := 0, hi := 10, step := 0, orZero := false, vals := [], dflt := 0, takes := .cycle },
  /- meas.stream[s].offset -/
  { cls := 0x03, inst0 := 0x000, insts := 64, item0 := 0x04, items := 1, stride := 1, kind := (.q 8), signed := false, lo := 0, hi := 16777215 / 256, step := 0, orZero := false, vals := [], dflt := 0, takes := .cycle },
  /- meas.stream[s].gain -/
  { cls := 0x03, inst0 := 0x000, insts := 64, item0 := 0x05, items := 1, stride := 1, kind := (.q 20), signed := true, lo := (-2048), hi := 2147483647 / 1048576, step := 0, orZero := false, vals := [], dflt := 1, takes := .cycle },
  /- meas.stream[s].thr_hi -/
  { cls := 0x03, inst0 := 0x000, insts := 64, item0 := 0x06, items := 1, stride := 1, kind := (.q 8), signed := true, lo := (-8388608), hi := 2147483647 / 256, step := 0, orZero := false, vals := [], dflt := 0, takes := .cycle },
  /- meas.stream[s].thr_lo -/
  { cls := 0x03, inst0 := 0x000, insts := 64, item0 := 0x07, items := 1, stride := 1, kind := (.q 8), signed := true, lo := (-8388608), hi := 2147483647 / 256, step := 0, orZero := false, vals := [], dflt := 0, takes := .cycle },
  /- meas.stream[s].thr_hyst -/
  { cls := 0x03, inst0 := 0x000, insts := 64, item0 := 0x08, items := 1, stride := 1, kind := (.q 8), signed := false, lo := 0, hi := 2147483647 / 256, step := 0, orZero := false, vals := [], dflt := 0, takes := .cycle },
  /- meas.stream[s].thr_count -/
  { cls := 0x03, inst0 := 0x000, insts := 64, item0 := 0x09, items := 1, stride := 1, kind := .int, signed := false, lo := 1, hi := 255, step := 0, orZero := false, vals := [], dflt := 1, takes := .cycle },
  /- meas.stream[s].thr_enable -/
  { cls := 0x03, inst0 := 0x000, insts := 64, item0 := 0x0A, items := 1, stride := 1, kind := .int, signed := false, lo := 0, hi := 3, step := 0, orZero := false, vals := [], dflt := 0, takes := .cycle },
  /- meas.adc[n].aux_len -/
  { cls := 0x03, inst0 := 0x040, insts := 16, item0 := 0x02, items := 1, stride := 1, kind := .int, signed := false, lo := 0, hi := 16, step := 0, orZero := false, vals := [], dflt := 0, takes := .cycle },
  /- meas.adc[n].aux_start -/
  { cls := 0x03, inst0 := 0x040, insts := 16, item0 := 0x03, items := 1, stride := 1, kind := .int, signed := false, lo := 0, hi := 7, step := 0, orZero := false, vals := [], dflt := 0, takes := .cycle },
  /- meas.adc[n].aux_offset -/
  { cls := 0x03, inst0 := 0x040, insts := 16, item0 := 0x04, items := 1, stride := 1, kind := .real, signed := false, lo := 1 / 2, hi := 999 / 10, step := 1 / 10, orZero := false, vals := [], dflt := 1, takes := .cycle },
  /- meas.adc[n].aux_every -/
  { cls := 0x03, inst0 := 0x040, insts := 16, item0 := 0x05, items := 1, stride := 1, kind := .int, signed := false, lo := 1, hi := 1000, step := 0, orZero := false, vals := [], dflt := 1, takes := .cycle },
  /- meas.adc[n].gust_len -/
  { cls := 0x03, inst0 := 0x040, insts := 16, item0 := 0x06, items := 1, stride := 1, kind := .int, signed := false, lo := 0, hi := 4, step := 0, orZero := false, vals := [], dflt := 0, takes := .cycle },
  /- meas.adc[n].gust_src, n up to 11 -/
  { cls := 0x03, inst0 := 0x040, insts := 12, item0 := 0x07, items := 1, stride := 1, kind := .int, signed := false, lo := 0, hi := 31, step := 0, orZero := false, vals := [], dflt := 0, takes := .cycle },
  /- meas.adc[n].gust_src, n from 12 -/
  { cls := 0x03, inst0 := 0x04C, insts := 4, item0 := 0x07, items := 1, stride := 1, kind := .int, signed := false, lo := 0, hi := 15, step := 0, orZero := false, vals := [], dflt := 0, takes := .cycle },
  /- meas.adc[n].cyc_entry[e] -/
  { cls := 0x03, inst0 := 0x040, insts := 16, item0 := 0x10, items := 4, stride := 1, kind := .int, signed := false, lo := 0, hi := 4294967295, step := 0, orZero := false, vals := [], dflt := 0, takes := .state },
  /- meas.adc[n].aux_entry[e] -/
  { cls := 0x03, inst0 := 0x040, insts := 16, item0 := 0x20, items := 16, stride := 1, kind := .int, signed := false, lo := 0, hi := 4294967295, step := 0, orZero := false, vals := [], dflt := 0, takes := .cycle },
  /- meas.adc[n].gust_entry[e] -/
  { cls := 0x03, inst0 := 0x040, insts := 16, item0 := 0x30, items := 4, stride := 1, kind := .int, signed := false, lo := 0, hi := 4294967295, step := 0, orZero := false, vals := [], dflt := 0, takes := .cycle },
  /- meas.group[g].ref_sel -/
  { cls := 0x03, inst0 := 0x050, insts := 4, item0 := 0x01, items := 1, stride := 1, kind := .int, signed := false, lo := 0, hi := 2, step := 0, orZero := false, vals := [], dflt := 0, takes := .state }
  ]

/-- Parameter rows of class 0x03, part 2. -/
def pRows03b : List PRow := [
  /- meas.group[g].ref_window -/
  { cls := 0x03, inst0 := 0x050, insts := 4, item0 := 0x02, items := 1, stride := 1, kind := .real, signed := false, lo := 1 / 2, hi := 5, step := 0, orZero := false, vals := [], dflt := 1, takes := .state },
  /- meas.cmp[j].fast_lo -/
  { cls := 0x03, inst0 := 0x060, insts := 12, item0 := 0x01, items := 1, stride := 1, kind := .int, signed := false, lo := 0, hi := 65520, step := 16, orZero := false, vals := [], dflt := 0, takes := .cycle },
  /- meas.cmp[j].fast_hi -/
  { cls := 0x03, inst0 := 0x060, insts := 12, item0 := 0x02, items := 1, stride := 1, kind := .int, signed := false, lo := 0, hi := 65520, step := 16, orZero := false, vals := [], dflt := 65520, takes := .cycle },
  /- meas.cmp[j].hard_lo -/
  { cls := 0x03, inst0 := 0x060, insts := 12, item0 := 0x03, items := 1, stride := 1, kind := .int, signed := false, lo := 0, hi := 65520, step := 16, orZero := false, vals := [], dflt := 0, takes := .cycle },
  /- meas.cmp[j].hard_hi -/
  { cls := 0x03, inst0 := 0x060, insts := 12, item0 := 0x04, items := 1, stride := 1, kind := .int, signed := false, lo := 0, hi := 65520, step := 16, orZero := false, vals := [], dflt := 65520, takes := .cycle },
  /- meas.cmp[j].hyst -/
  { cls := 0x03, inst0 := 0x060, insts := 12, item0 := 0x05, items := 1, stride := 1, kind := .int, signed := false, lo := 0, hi := 7, step := 0, orZero := false, vals := [], dflt := 1, takes := .cycle },
  /- meas.atrig[t].edge -/
  { cls := 0x03, inst0 := 0x070, insts := 1, item0 := 0x01, items := 4, stride := 1, kind := .int, signed := false, lo := 0, hi := 3, step := 0, orZero := false, vals := [], dflt := 0, takes := .cycle },
  /- meas.atrig[t].min_width -/
  { cls := 0x03, inst0 := 0x070, insts := 1, item0 := 0x05, items := 4, stride := 1, kind := .real, signed := false, lo := 5, hi := 1000, step := 5 / 4, orZero := false, vals := [], dflt := 20, takes := .cycle },
  /- meas.setp.pulse_gate -/
  { cls := 0x03, inst0 := 0x070, insts := 1, item0 := 0x10, items := 1, stride := 1, kind := .real, signed := false, lo := 1 / 5, hi := 100, step := 1 / 10, orZero := false, vals := [], dflt := 2, takes := .cycle },
  /- meas.setp.pulse_min -/
  { cls := 0x03, inst0 := 0x070, insts := 1, item0 := 0x11, items := 1, stride := 1, kind := .real, signed := false, lo := 100, hi := 2000, step := 0, orZero := false, vals := [], dflt := 1000, takes := .cycle },
  /- meas.setp.ain_stream -/
  { cls := 0x03, inst0 := 0x070, insts := 1, item0 := 0x12, items := 1, stride := 1, kind := .int, signed := false, lo := 0, hi := 63, step := 0, orZero := false, vals := [], dflt := 48, takes := .state },
  /- meas.setp.ain_lo -/
  { cls := 0x03, inst0 := 0x070, insts := 1, item0 := 0x13, items := 1, stride := 1, kind := .int, signed := false, lo := 0, hi := 65535, step := 0, orZero := false, vals := [], dflt := 9600, takes := .cycle },
  /- meas.setp.ain_hi -/
  { cls := 0x03, inst0 := 0x070, insts := 1, item0 := 0x14, items := 1, stride := 1, kind := .int, signed := false, lo := 0, hi := 65535, step := 0, orZero := false, vals := [], dflt := 64800, takes := .cycle },
  /- meas.setp.ain_fail_count -/
  { cls := 0x03, inst0 := 0x070, insts := 1, item0 := 0x15, items := 1, stride := 1, kind := .int, signed := false, lo := 1, hi := 255, step := 0, orZero := false, vals := [], dflt := 3, takes := .cycle }
  ]

/-- Parameter rows of class 0x03 (Table 19-5). -/
def pRows03 : List PRow := pRows03a ++ pRows03b

/-- Parameter rows of class 0x04, part 1. -/
def pRows04a : List PRow := [
  /- gf.base_s -/
  { cls := 0x04, inst0 := 0x000, insts := 1, item0 := 0x01, items := 1, stride := 1, kind := .real, signed := false, lo := 1, hi := 60, step := 0, orZero := false, vals := [], dflt := 25, takes := .state },
  /- gf.base_v -/
  { cls := 0x04, inst0 := 0x000, insts := 1, item0 := 0x02, items := 1, stride := 1, kind := .real, signed := false, lo := 6, hi := 40, step := 0, orZero := false, vals := [], dflt := 33, takes := .state },
  /- gf.f_nom -/
  { cls := 0x04, inst0 := 0x000, insts := 1, item0 := 0x03, items := 1, stride := 1, kind := .real, signed := false, lo := 0, hi := 0, step := 0, orZero := false, vals := [50, 60], dflt := 50, takes := .state },
  /- gf.inertia_h -/
  { cls := 0x04, inst0 := 0x000, insts := 1, item0 := 0x04, items := 1, stride := 1, kind := .real, signed := false, lo := 1 / 2, hi := 20, step := 0, orZero := false, vals := [], dflt := 4, takes := .cycle },
  /- gf.damping -/
  { cls := 0x04, inst0 := 0x000, insts := 1, item0 := 0x05, items := 1, stride := 1, kind := .real, signed := false, lo := 0, hi := 500, step := 0, orZero := false, vals := [], dflt := 40, takes := .cycle },
  /- gf.damp_tau -/
  { cls := 0x04, inst0 := 0x000, insts := 1, item0 := 0x06, items := 1, stride := 1, kind := .real, signed := false, lo := 1 / 50, hi := 5, step := 0, orZero := false, vals := [], dflt := 1 / 2, takes := .cycle },
  /- gf.droop_p -/
  { cls := 0x04, inst0 := 0x000, insts := 1, item0 := 0x07, items := 1, stride := 1, kind := .real, signed := false, lo := 1 / 2, hi := 10, step := 0, orZero := false, vals := [], dflt := 4, takes := .cycle },
  /- gf.droop_q -/
  { cls := 0x04, inst0 := 0x000, insts := 1, item0 := 0x08, items := 1, stride := 1, kind := .real, signed := false, lo := 0, hi := 20, step := 0, orZero := false, vals := [], dflt := 3, takes := .cycle },
  /- gf.f_set -/
  { cls := 0x04, inst0 := 0x000, insts := 1, item0 := 0x09, items := 1, stride := 1, kind := .real, signed := false, lo := 19 / 20, hi := 21 / 20, step := 0, orZero := false, vals := [], dflt := 1, takes := .cycle },
  /- gf.v_set -/
  { cls := 0x04, inst0 := 0x000, insts := 1, item0 := 0x0A, items := 1, stride := 1, kind := .real, signed := false, lo := 9 / 10, hi := 11 / 10, step := 0, orZero := false, vals := [], dflt := 1, takes := .cycle },
  /- gf.p_tau -/
  { cls := 0x04, inst0 := 0x000, insts := 1, item0 := 0x0B, items := 1, stride := 1, kind := .real, signed := false, lo := 0, hi := 100, step := 0, orZero := false, vals := [], dflt := 2, takes := .cycle },
  /- gf.q_tau -/
  { cls := 0x04, inst0 := 0x000, insts := 1, item0 := 0x0C, items := 1, stride := 1, kind := .real, signed := false, lo := 1, hi := 500, step := 0, orZero := false, vals := [], dflt := 20, takes := .cycle },
  /- gf.qv_ki -/
  { cls := 0x04, inst0 := 0x000, insts := 1, item0 := 0x0D, items := 1, stride := 1, kind := .real, signed := false, lo := 0, hi := 10, step := 0, orZero := false, vals := [], dflt := 0, takes := .cycle },
  /- gf.qv_int_max -/
  { cls := 0x04, inst0 := 0x000, insts := 1, item0 := 0x0E, items := 1, stride := 1, kind := .real, signed := false, lo := 0, hi := 1 / 5, step := 0, orZero := false, vals := [], dflt := 1 / 10, takes := .cycle },
  /- gf.f_min -/
  { cls := 0x04, inst0 := 0x000, insts := 1, item0 := 0x0F, items := 1, stride := 1, kind := .real, signed := false, lo := 9 / 10, hi := 99 / 100, step := 0, orZero := false, vals := [], dflt := 47 / 50, takes := .cycle },
  /- gf.f_max -/
  { cls := 0x04, inst0 := 0x000, insts := 1, item0 := 0x10, items := 1, stride := 1, kind := .real, signed := false, lo := 101 / 100, hi := 11 / 10, step := 0, orZero := false, vals := [], dflt := 53 / 50, takes := .cycle },
  /- gf.e_min -/
  { cls := 0x04, inst0 := 0x000, insts := 1, item0 := 0x11, items := 1, stride := 1, kind := .real, signed := false, lo := 1 / 2, hi := 19 / 20, step := 0, orZero := false, vals := [], dflt := 4 / 5, takes := .cycle },
  /- gf.e_max -/
  { cls := 0x04, inst0 := 0x000, insts := 1, item0 := 0x12, items := 1, stride := 1, kind := .real, signed := false, lo := 21 / 20, hi := 13 / 10, step := 0, orZero := false, vals := [], dflt := 6 / 5, takes := .cycle },
  /- gf.rv -/
  { cls := 0x04, inst0 := 0x000, insts := 1, item0 := 0x13, items := 1, stride := 1, kind := .real, signed := false, lo := 0, hi := 1 / 2, step := 0, orZero := false, vals := [], dflt := 1 / 50, takes := .cycle },
  /- gf.xv -/
  { cls := 0x04, inst0 := 0x000, insts := 1, item0 := 0x14, items := 1, stride := 1, kind := .real, signed := false, lo := 0, hi := 1 / 2, step := 0, orZero := false, vals := [], dflt := 1 / 10, takes := .cycle }
  ]

/-- Parameter rows of class 0x04, part 2. -/
def pRows04b : List PRow := [
  /- gf.l_arm -/
  { cls := 0x04, inst0 := 0x000, insts := 1, item0 := 0x15, items := 1, stride := 1, kind := .real, signed := false, lo := 1 / 50, hi := 1 / 2, step := 0, orZero := false, vals := [], dflt := 3 / 25, takes := .state },
  /- gf.r_arm -/
  { cls := 0x04, inst0 := 0x000, insts := 1, item0 := 0x16, items := 1, stride := 1, kind := .real, signed := false, lo := 0, hi := 1 / 20, step := 0, orZero := false, vals := [], dflt := 1 / 200, takes := .state },
  /- gf.vloop_kp -/
  { cls := 0x04, inst0 := 0x000, insts := 1, item0 := 0x17, items := 1, stride := 1, kind := .real, signed := false, lo := 0, hi := 10, step := 0, orZero := false, vals := [], dflt := 3 / 2, takes := .cycle },
  /- gf.vloop_ki -/
  { cls := 0x04, inst0 := 0x000, insts := 1, item0 := 0x18, items := 1, stride := 1, kind := .real, signed := false, lo := 0, hi := 500, step := 0, orZero := false, vals := [], dflt := 30, takes := .cycle },
  /- gf.vloop_iff -/
  { cls := 0x04, inst0 := 0x000, insts := 1, item0 := 0x19, items := 1, stride := 1, kind := .real, signed := false, lo := 0, hi := 1, step := 0, orZero := false, vals := [], dflt := 1, takes := .cycle },
  /- gf.vloop_int_max -/
  { cls := 0x04, inst0 := 0x000, insts := 1, item0 := 0x1A, items := 1, stride := 1, kind := .real, signed := false, lo := 0, hi := 2, step := 0, orZero := false, vals := [], dflt := 1 / 2, takes := .cycle },
  /- gf.iloop_kp -/
  { cls := 0x04, inst0 := 0x000, insts := 1, item0 := 0x1B, items := 1, stride := 1, kind := .real, signed := false, lo := 0, hi := 5, step := 0, orZero := false, vals := [], dflt := 3 / 5, takes := .cycle },
  /- gf.iloop_ki -/
  { cls := 0x04, inst0 := 0x000, insts := 1, item0 := 0x1C, items := 1, stride := 1, kind := .real, signed := false, lo := 0, hi := 2000, step := 0, orZero := false, vals := [], dflt := 60, takes := .cycle },
  /- gf.iloop_int_max -/
  { cls := 0x04, inst0 := 0x000, insts := 1, item0 := 0x1D, items := 1, stride := 1, kind := .real, signed := false, lo := 0, hi := 1 / 2, step := 0, orZero := false, vals := [], dflt := 1 / 5, takes := .cycle },
  /- gf.negseq_en -/
  { cls := 0x04, inst0 := 0x000, insts := 1, item0 := 0x1E, items := 1, stride := 1, kind := .int, signed := false, lo := 0, hi := 1, step := 0, orZero := false, vals := [], dflt := 1, takes := .cycle },
  /- gf.harm_count -/
  { cls := 0x04, inst0 := 0x000, insts := 1, item0 := 0x1F, items := 1, stride := 1, kind := .int, signed := false, lo := 0, hi := 8, step := 0, orZero := false, vals := [], dflt := 0, takes := .cycle },
  /- gf.predict -/
  { cls := 0x04, inst0 := 0x000, insts := 1, item0 := 0x20, items := 1, stride := 1, kind := .int, signed := false, lo := 0, hi := 1, step := 0, orZero := false, vals := [], dflt := 1, takes := .cycle },
  /- gf.p_min -/
  { cls := 0x04, inst0 := 0x000, insts := 1, item0 := 0x21, items := 1, stride := 1, kind := .real, signed := true, lo := (-6) / 5, hi := 0, step := 0, orZero := false, vals := [], dflt := (-1), takes := .cycle },
  /- gf.p_max -/
  { cls := 0x04, inst0 := 0x000, insts := 1, item0 := 0x22, items := 1, stride := 1, kind := .real, signed := false, lo := 0, hi := 6 / 5, step := 0, orZero := false, vals := [], dflt := 1, takes := .cycle },
  /- gf.q_min -/
  { cls := 0x04, inst0 := 0x000, insts := 1, item0 := 0x23, items := 1, stride := 1, kind := .real, signed := true, lo := (-6) / 5, hi := 0, step := 0, orZero := false, vals := [], dflt := (-3) / 5, takes := .cycle },
  /- gf.q_max -/
  { cls := 0x04, inst0 := 0x000, insts := 1, item0 := 0x24, items := 1, stride := 1, kind := .real, signed := false, lo := 0, hi := 6 / 5, step := 0, orZero := false, vals := [], dflt := 3 / 5, takes := .cycle },
  /- gf.p_set -/
  { cls := 0x04, inst0 := 0x000, insts := 1, item0 := 0x25, items := 1, stride := 1, kind := .real, signed := true, lo := (-6) / 5, hi := 6 / 5, step := 0, orZero := false, vals := [], dflt := 0, takes := .cycle },
  /- gf.q_set -/
  { cls := 0x04, inst0 := 0x000, insts := 1, item0 := 0x26, items := 1, stride := 1, kind := .real, signed := true, lo := (-6) / 5, hi := 6 / 5, step := 0, orZero := false, vals := [], dflt := 0, takes := .cycle },
  /- gf.setp.p_src -/
  { cls := 0x04, inst0 := 0x001, insts := 1, item0 := 0x01, items := 1, stride := 1, kind := .int, signed := false, lo := 0, hi := 2, step := 0, orZero := false, vals := [], dflt := 0, takes := .cycle },
  /- gf.setp.q_src -/
  { cls := 0x04, inst0 := 0x001, insts := 1, item0 := 0x02, items := 1, stride := 1, kind := .int, signed := false, lo := 0, hi := 2, step := 0, orZero := false, vals := [], dflt := 0, takes := .cycle }
  ]

/-- Parameter rows of class 0x04, part 3. -/
def pRows04c : List PRow := [
  /- gf.setp.ain_zero -/
  { cls := 0x04, inst0 := 0x001, insts := 1, item0 := 0x03, items := 1, stride := 1, kind := .int, signed := false, lo := 0, hi := 65535, step := 0, orZero := false, vals := [], dflt := 38400, takes := .cycle },
  /- gf.setp.ain_scale -/
  { cls := 0x04, inst0 := 0x001, insts := 1, item0 := 0x04, items := 1, stride := 1, kind := .real, signed := true, lo := (-1) / 1000, hi := 1 / 1000, step := 0, orZero := false, vals := [], dflt := 1 / 25600, takes := .cycle },
  /- gf.setp.pulse_f0 -/
  { cls := 0x04, inst0 := 0x001, insts := 1, item0 := 0x05, items := 1, stride := 1, kind := .real, signed := false, lo := 1000, hi := 200000, step := 0, orZero := false, vals := [], dflt := 50000, takes := .cycle },
  /- gf.setp.pulse_k -/
  { cls := 0x04, inst0 := 0x001, insts := 1, item0 := 0x06, items := 1, stride := 1, kind := .real, signed := true, lo := (-1), hi := 1, step := 0, orZero := false, vals := [], dflt := 1 / 40, takes := .cycle },
  /- gf.setp.p_rate -/
  { cls := 0x04, inst0 := 0x001, insts := 1, item0 := 0x07, items := 1, stride := 1, kind := .real, signed := false, lo := 1 / 100, hi := 100, step := 0, orZero := false, vals := [], dflt := 1, takes := .cycle },
  /- gf.setp.q_rate -/
  { cls := 0x04, inst0 := 0x001, insts := 1, item0 := 0x08, items := 1, stride := 1, kind := .real, signed := false, lo := 1 / 100, hi := 100, step := 0, orZero := false, vals := [], dflt := 2, takes := .cycle },
  /- gf.setp.fail_action -/
  { cls := 0x04, inst0 := 0x001, insts := 1, item0 := 0x09, items := 1, stride := 1, kind := .int, signed := false, lo := 0, hi := 2, step := 0, orZero := false, vals := [], dflt := 1, takes := .cycle },
  /- gf.setp.p_fail -/
  { cls := 0x04, inst0 := 0x001, insts := 1, item0 := 0x0A, items := 1, stride := 1, kind := .real, signed := true, lo := (-6) / 5, hi := 6 / 5, step := 0, orZero := false, vals := [], dflt := 0, takes := .cycle },
  /- gf.setp.q_fail -/
  { cls := 0x04, inst0 := 0x001, insts := 1, item0 := 0x0B, items := 1, stride := 1, kind := .real, signed := true, lo := (-6) / 5, hi := 6 / 5, step := 0, orZero := false, vals := [], dflt := 0, takes := .cycle },
  /- gf.setp.recover -/
  { cls := 0x04, inst0 := 0x001, insts := 1, item0 := 0x0C, items := 1, stride := 1, kind := .real, signed := false, lo := 0, hi := 10000, step := 0, orZero := false, vals := [], dflt := 100, takes := .cycle },
  /- gf.plaus.i_abs -/
  { cls := 0x04, inst0 := 0x002, insts := 1, item0 := 0x01, items := 1, stride := 1, kind := .real, signed := false, lo := 1 / 100, hi := 1 / 2, step := 0, orZero := false, vals := [], dflt := 1 / 20, takes := .cycle },
  /- gf.plaus.i_rel -/
  { cls := 0x04, inst0 := 0x002, insts := 1, item0 := 0x02, items := 1, stride := 1, kind := .real, signed := false, lo := 0, hi := 50, step := 0, orZero := false, vals := [], dflt := 5, takes := .cycle },
  /- gf.plaus.v_abs -/
  { cls := 0x04, inst0 := 0x002, insts := 1, item0 := 0x03, items := 1, stride := 1, kind := .real, signed := false, lo := 1 / 100, hi := 1 / 2, step := 0, orZero := false, vals := [], dflt := 1 / 20, takes := .cycle },
  /- gf.plaus.count -/
  { cls := 0x04, inst0 := 0x002, insts := 1, item0 := 0x04, items := 1, stride := 1, kind := .int, signed := false, lo := 1, hi := 255, step := 0, orZero := false, vals := [], dflt := 3, takes := .cycle },
  /- gf.plaus.gain -/
  { cls := 0x04, inst0 := 0x002, insts := 1, item0 := 0x05, items := 1, stride := 1, kind := .real, signed := false, lo := 0, hi := 1, step := 0, orZero := false, vals := [], dflt := 1 / 10, takes := .cycle },
  /- gf.plaus.sensorless_max -/
  { cls := 0x04, inst0 := 0x002, insts := 1, item0 := 0x06, items := 1, stride := 1, kind := .int, signed := false, lo := 1, hi := 5000, step := 0, orZero := false, vals := [], dflt := 250, takes := .cycle },
  /- gf.plaus.rearm -/
  { cls := 0x04, inst0 := 0x002, insts := 1, item0 := 0x07, items := 1, stride := 1, kind := .int, signed := false, lo := 50, hi := 65535, step := 0, orZero := false, vals := [], dflt := 1000, takes := .cycle },
  /- gf.stream.i_main[x] -/
  { cls := 0x04, inst0 := 0x003, insts := 1, item0 := 0x01, items := 3, stride := 1, kind := .int, signed := false, lo := 0, hi := 63, step := 0, orZero := false, vals := [], dflt := 0, takes := .state },
  /- gf.stream.i_sec[x] -/
  { cls := 0x04, inst0 := 0x003, insts := 1, item0 := 0x04, items := 3, stride := 1, kind := .int, signed := false, lo := 0, hi := 63, step := 0, orZero := false, vals := [], dflt := 0, takes := .state },
  /- gf.stream.v_conv[x] -/
  { cls := 0x04, inst0 := 0x003, insts := 1, item0 := 0x07, items := 3, stride := 1, kind := .int, signed := false, lo := 0, hi := 63, step := 0, orZero := false, vals := [], dflt := 0, takes := .state }
  ]

/-- Parameter rows of class 0x04, part 4. -/
def pRows04d : List PRow := [
  /- gf.stream.v_pcc[x] -/
  { cls := 0x04, inst0 := 0x003, insts := 1, item0 := 0x0A, items := 3, stride := 1, kind := .int, signed := false, lo := 0, hi := 63, step := 0, orZero := false, vals := [], dflt := 0, takes := .state },
  /- gf.harm[n].order -/
  { cls := 0x04, inst0 := 0x010, insts := 8, item0 := 0x01, items := 1, stride := 1, kind := .int, signed := false, lo := 2, hi := 25, step := 0, orZero := false, vals := [], dflt := 0, takes := .cycle },
  /- gf.harm[n].ki -/
  { cls := 0x04, inst0 := 0x010, insts := 8, item0 := 0x02, items := 1, stride := 1, kind := .real, signed := false, lo := 0, hi := 200, step := 0, orZero := false, vals := [], dflt := 10, takes := .cycle },
  /- gf.harm[n].int_max -/
  { cls := 0x04, inst0 := 0x010, insts := 8, item0 := 0x03, items := 1, stride := 1, kind := .real, signed := false, lo := 0, hi := 1 / 10, step := 0, orZero := false, vals := [], dflt := 3 / 100, takes := .cycle }
  ]

/-- Parameter rows of class 0x04 (Table 19-5). -/
def pRows04 : List PRow := pRows04a ++ pRows04b ++ pRows04c ++ pRows04d

/-- Parameter rows of class 0x05, part 1. -/
def pRows05a : List PRow := [
  /- rt.v_lo_enter -/
  { cls := 0x05, inst0 := 0x000, insts := 1, item0 := 0x01, items := 1, stride := 1, kind := .real, signed := false, lo := 1 / 2, hi := 19 / 20, step := 0, orZero := false, vals := [], dflt := 17 / 20, takes := .cycle },
  /- rt.v_hi_enter -/
  { cls := 0x05, inst0 := 0x000, insts := 1, item0 := 0x02, items := 1, stride := 1, kind := .real, signed := false, lo := 21 / 20, hi := 7 / 5, step := 0, orZero := false, vals := [], dflt := 23 / 20, takes := .cycle },
  /- rt.v_lo_exit -/
  { cls := 0x05, inst0 := 0x000, insts := 1, item0 := 0x03, items := 1, stride := 1, kind := .real, signed := false, lo := 11 / 20, hi := 1, step := 0, orZero := false, vals := [], dflt := 9 / 10, takes := .cycle },
  /- rt.v_hi_exit -/
  { cls := 0x05, inst0 := 0x000, insts := 1, item0 := 0x04, items := 1, stride := 1, kind := .real, signed := false, lo := 1, hi := 27 / 20, step := 0, orZero := false, vals := [], dflt := 11 / 10, takes := .cycle },
  /- rt.vneg_enter -/
  { cls := 0x05, inst0 := 0x000, insts := 1, item0 := 0x05, items := 1, stride := 1, kind := .real, signed := false, lo := 1 / 50, hi := 1 / 2, step := 0, orZero := false, vals := [], dflt := 1 / 20, takes := .cycle },
  /- rt.vneg_exit -/
  { cls := 0x05, inst0 := 0x000, insts := 1, item0 := 0x06, items := 1, stride := 1, kind := .real, signed := false, lo := 1 / 100, hi := 1 / 2, step := 0, orZero := false, vals := [], dflt := 3 / 100, takes := .cycle },
  /- rt.exit_time -/
  { cls := 0x05, inst0 := 0x000, insts := 1, item0 := 0x07, items := 1, stride := 1, kind := .real, signed := false, lo := 0, hi := 500, step := 0, orZero := false, vals := [], dflt := 20, takes := .cycle },
  /- rt.max_time -/
  { cls := 0x05, inst0 := 0x000, insts := 1, item0 := 0x08, items := 1, stride := 1, kind := .real, signed := false, lo := 1 / 10, hi := 60, step := 0, orZero := false, vals := [], dflt := 3, takes := .cycle },
  /- rt.i_max -/
  { cls := 0x05, inst0 := 0x000, insts := 1, item0 := 0x09, items := 1, stride := 1, kind := .real, signed := false, lo := 1 / 2, hi := 3 / 2, step := 0, orZero := false, vals := [], dflt := 6 / 5, takes := .cycle },
  /- rt.cvi_i0 -/
  { cls := 0x05, inst0 := 0x000, insts := 1, item0 := 0x0A, items := 1, stride := 1, kind := .real, signed := false, lo := 1 / 2, hi := 3 / 2, step := 0, orZero := false, vals := [], dflt := 1, takes := .cycle },
  /- rt.cvi_k -/
  { cls := 0x05, inst0 := 0x000, insts := 1, item0 := 0x0B, items := 1, stride := 1, kind := .real, signed := false, lo := 0, hi := 5, step := 0, orZero := false, vals := [], dflt := 4 / 5, takes := .cycle },
  /- rt.cvi_xr -/
  { cls := 0x05, inst0 := 0x000, insts := 1, item0 := 0x0C, items := 1, stride := 1, kind := .real, signed := false, lo := 0, hi := 20, step := 0, orZero := false, vals := [], dflt := 5, takes := .cycle },
  /- rt.k_factor -/
  { cls := 0x05, inst0 := 0x000, insts := 1, item0 := 0x0D, items := 1, stride := 1, kind := .real, signed := false, lo := 0, hi := 10, step := 0, orZero := false, vals := [], dflt := 2, takes := .cycle },
  /- rt.k_db -/
  { cls := 0x05, inst0 := 0x000, insts := 1, item0 := 0x0E, items := 1, stride := 1, kind := .real, signed := false, lo := 0, hi := 1 / 5, step := 0, orZero := false, vals := [], dflt := 1 / 10, takes := .cycle },
  /- rt.neg_mode -/
  { cls := 0x05, inst0 := 0x000, insts := 1, item0 := 0x0F, items := 1, stride := 1, kind := .int, signed := false, lo := 0, hi := 1, step := 0, orZero := false, vals := [], dflt := 1, takes := .cycle },
  /- rt.k_neg -/
  { cls := 0x05, inst0 := 0x000, insts := 1, item0 := 0x10, items := 1, stride := 1, kind := .real, signed := false, lo := 0, hi := 10, step := 0, orZero := false, vals := [], dflt := 2, takes := .cycle },
  /- rt.jump_det -/
  { cls := 0x05, inst0 := 0x000, insts := 1, item0 := 0x11, items := 1, stride := 1, kind := .real, signed := false, lo := 2, hi := 30, step := 0, orZero := false, vals := [], dflt := 5, takes := .cycle },
  /- rt.jump_max -/
  { cls := 0x05, inst0 := 0x000, insts := 1, item0 := 0x12, items := 1, stride := 1, kind := .real, signed := false, lo := 10, hi := 60, step := 0, orZero := false, vals := [], dflt := 60, takes := .cycle },
  /- rt.slip_angle -/
  { cls := 0x05, inst0 := 0x000, insts := 1, item0 := 0x13, items := 1, stride := 1, kind := .real, signed := false, lo := 90, hi := 170, step := 0, orZero := false, vals := [], dflt := 120, takes := .cycle },
  /- rt.slip_cycles -/
  { cls := 0x05, inst0 := 0x000, insts := 1, item0 := 0x14, items := 1, stride := 1, kind := .int, signed := false, lo := 1, hi := 1000, step := 0, orZero := false, vals := [], dflt := 5, takes := .cycle }
  ]

/-- Parameter rows of class 0x05, part 2. -/
def pRows05b : List PRow := [
  /- rt.p_recover -/
  { cls := 0x05, inst0 := 0x000, insts := 1, item0 := 0x15, items := 1, stride := 1, kind := .real, signed := false, lo := 1 / 10, hi := 100, step := 0, orZero := false, vals := [], dflt := 2, takes := .cycle },
  /- tr.rocof_max -/
  { cls := 0x05, inst0 := 0x001, insts := 1, item0 := 0x01, items := 1, stride := 1, kind := .real, signed := false, lo := 1 / 10, hi := 5, step := 0, orZero := false, vals := [], dflt := 2, takes := .cycle },
  /- tr.v_rate -/
  { cls := 0x05, inst0 := 0x001, insts := 1, item0 := 0x02, items := 1, stride := 1, kind := .real, signed := false, lo := 1 / 20, hi := 20, step := 0, orZero := false, vals := [], dflt := 1, takes := .cycle },
  /- tr.v_accel -/
  { cls := 0x05, inst0 := 0x001, insts := 1, item0 := 0x03, items := 1, stride := 1, kind := .real, signed := false, lo := 1, hi := 1000, step := 0, orZero := false, vals := [], dflt := 50, takes := .cycle },
  /- bs.enable -/
  { cls := 0x05, inst0 := 0x002, insts := 1, item0 := 0x01, items := 1, stride := 1, kind := .int, signed := false, lo := 0, hi := 1, step := 0, orZero := false, vals := [], dflt := 0, takes := .state },
  /- bs.dead_v -/
  { cls := 0x05, inst0 := 0x002, insts := 1, item0 := 0x02, items := 1, stride := 1, kind := .real, signed := false, lo := 1 / 50, hi := 3 / 10, step := 0, orZero := false, vals := [], dflt := 1 / 10, takes := .cycle },
  /- bs.live_v -/
  { cls := 0x05, inst0 := 0x002, insts := 1, item0 := 0x03, items := 1, stride := 1, kind := .real, signed := false, lo := 1 / 2, hi := 19 / 20, step := 0, orZero := false, vals := [], dflt := 4 / 5, takes := .cycle },
  /- bs.dead_time -/
  { cls := 0x05, inst0 := 0x002, insts := 1, item0 := 0x04, items := 1, stride := 1, kind := .real, signed := false, lo := 100, hi := 60000, step := 0, orZero := false, vals := [], dflt := 1000, takes := .cycle },
  /- bs.live_time -/
  { cls := 0x05, inst0 := 0x002, insts := 1, item0 := 0x05, items := 1, stride := 1, kind := .real, signed := false, lo := 10, hi := 1000, step := 0, orZero := false, vals := [], dflt := 20, takes := .cycle },
  /- bs.confirm_max -/
  { cls := 0x05, inst0 := 0x002, insts := 1, item0 := 0x06, items := 1, stride := 1, kind := .real, signed := false, lo := 1, hi := 600, step := 0, orZero := false, vals := [], dflt := 10, takes := .cycle },
  /- bs.holdoff_min -/
  { cls := 0x05, inst0 := 0x002, insts := 1, item0 := 0x07, items := 1, stride := 1, kind := .real, signed := false, lo := 0, hi := 10000, step := 0, orZero := false, vals := [], dflt := 100, takes := .cycle },
  /- bs.holdoff_slot -/
  { cls := 0x05, inst0 := 0x002, insts := 1, item0 := 0x08, items := 1, stride := 1, kind := .real, signed := false, lo := 10, hi := 1000, step := 0, orZero := false, vals := [], dflt := 400, takes := .cycle },
  /- bs.holdoff_slots -/
  { cls := 0x05, inst0 := 0x002, insts := 1, item0 := 0x09, items := 1, stride := 1, kind := .int, signed := false, lo := 1, hi := 256, step := 0, orZero := false, vals := [], dflt := 16, takes := .cycle },
  /- bs.v_rate -/
  { cls := 0x05, inst0 := 0x002, insts := 1, item0 := 0x0A, items := 1, stride := 1, kind := .real, signed := false, lo := 1 / 20, hi := 10, step := 0, orZero := false, vals := [], dflt := 1 / 2, takes := .cycle },
  /- bs.v_done -/
  { cls := 0x05, inst0 := 0x002, insts := 1, item0 := 0x0B, items := 1, stride := 1, kind := .real, signed := false, lo := 1 / 2, hi := 1, step := 0, orZero := false, vals := [], dflt := 9 / 10, takes := .cycle },
  /- bs.energise_max -/
  { cls := 0x05, inst0 := 0x002, insts := 1, item0 := 0x0C, items := 1, stride := 1, kind := .real, signed := false, lo := 1, hi := 120, step := 0, orZero := false, vals := [], dflt := 10, takes := .cycle },
  /- land.ramp_time -/
  { cls := 0x05, inst0 := 0x003, insts := 1, item0 := 0x01, items := 1, stride := 1, kind := .real, signed := false, lo := 100, hi := 10000, step := 0, orZero := false, vals := [], dflt := 2000, takes := .nextMove },
  /- land.trim_time -/
  { cls := 0x05, inst0 := 0x003, insts := 1, item0 := 0x02, items := 1, stride := 1, kind := .real, signed := false, lo := 50, hi := 2000, step := 0, orZero := false, vals := [], dflt := 250, takes := .nextMove },
  /- land.dv_max -/
  { cls := 0x05, inst0 := 0x003, insts := 1, item0 := 0x03, items := 1, stride := 1, kind := .real, signed := false, lo := 1 / 200, hi := 1 / 10, step := 0, orZero := false, vals := [], dflt := 3 / 100, takes := .cycle },
  /- land.dtheta_max -/
  { cls := 0x05, inst0 := 0x003, insts := 1, item0 := 0x04, items := 1, stride := 1, kind := .real, signed := false, lo := 1 / 2, hi := 10, step := 0, orZero := false, vals := [], dflt := 3, takes := .cycle }
  ]

/-- Parameter rows of class 0x05, part 3. -/
def pRows05c : List PRow := [
  /- land.df_max -/
  { cls := 0x05, inst0 := 0x003, insts := 1, item0 := 0x05, items := 1, stride := 1, kind := .real, signed := false, lo := 1 / 200, hi := 1 / 2, step := 0, orZero := false, vals := [], dflt := 1 / 50, takes := .cycle },
  /- land.dwell -/
  { cls := 0x05, inst0 := 0x003, insts := 1, item0 := 0x06, items := 1, stride := 1, kind := .real, signed := false, lo := 20, hi := 2000, step := 0, orZero := false, vals := [], dflt := 100, takes := .cycle },
  /- land.time_max -/
  { cls := 0x05, inst0 := 0x003, insts := 1, item0 := 0x07, items := 1, stride := 1, kind := .real, signed := false, lo := 5, hi := 600, step := 0, orZero := false, vals := [], dflt := 30, takes := .cycle },
  /- land.rocof_max -/
  { cls := 0x05, inst0 := 0x003, insts := 1, item0 := 0x08, items := 1, stride := 1, kind := .real, signed := false, lo := 1 / 20, hi := 2, step := 0, orZero := false, vals := [], dflt := 1 / 2, takes := .cycle },
  /- land.abort_hold -/
  { cls := 0x05, inst0 := 0x003, insts := 1, item0 := 0x09, items := 1, stride := 1, kind := .real, signed := false, lo := 0, hi := 10000, step := 0, orZero := false, vals := [], dflt := 1000, takes := .cycle },
  /- brk[b].debounce -/
  { cls := 0x05, inst0 := 0x004, insts := 2, item0 := 0x01, items := 1, stride := 1, kind := .real, signed := false, lo := 1 / 2, hi := 10, step := 0, orZero := false, vals := [], dflt := 2, takes := .cycle },
  /- brk[b].disc_time -/
  { cls := 0x05, inst0 := 0x004, insts := 2, item0 := 0x02, items := 1, stride := 1, kind := .real, signed := false, lo := 5, hi := 200, step := 0, orZero := false, vals := [], dflt := 20, takes := .cycle },
  /- brk[b].chatter_n -/
  { cls := 0x05, inst0 := 0x004, insts := 2, item0 := 0x03, items := 1, stride := 1, kind := .int, signed := false, lo := 2, hi := 255, step := 0, orZero := false, vals := [], dflt := 8, takes := .cycle },
  /- brk[b].chatter_win -/
  { cls := 0x05, inst0 := 0x004, insts := 2, item0 := 0x04, items := 1, stride := 1, kind := .real, signed := false, lo := 10, hi := 10000, step := 0, orZero := false, vals := [], dflt := 1000, takes := .cycle },
  /- brk[b].close_pulse -/
  { cls := 0x05, inst0 := 0x004, insts := 2, item0 := 0x05, items := 1, stride := 1, kind := .real, signed := false, lo := 20, hi := 1000, step := 0, orZero := false, vals := [], dflt := 200, takes := .cycle },
  /- brk[b].close_max -/
  { cls := 0x05, inst0 := 0x004, insts := 2, item0 := 0x06, items := 1, stride := 1, kind := .real, signed := false, lo := 20, hi := 1000, step := 0, orZero := false, vals := [], dflt := 150, takes := .cycle },
  /- brk[b].role -/
  { cls := 0x05, inst0 := 0x004, insts := 2, item0 := 0x07, items := 1, stride := 1, kind := .int, signed := false, lo := 0, hi := 2, step := 0, orZero := false, vals := [], dflt := 0, takes := .state }
  ]

/-- Parameter rows of class 0x05 (Table 19-5). -/
def pRows05 : List PRow := pRows05a ++ pRows05b ++ pRows05c

/-- Parameter rows of class 0x06, part 1. -/
def pRows06a : List PRow := [
  /- mod.kw_soc -/
  { cls := 0x06, inst0 := 0x000, insts := 1, item0 := 0x01, items := 1, stride := 1, kind := .real, signed := false, lo := 0, hi := 16, step := 0, orZero := false, vals := [], dflt := 4, takes := .cycle },
  /- mod.kw_soh -/
  { cls := 0x06, inst0 := 0x000, insts := 1, item0 := 0x02, items := 1, stride := 1, kind := .real, signed := false, lo := 0, hi := 16, step := 0, orZero := false, vals := [], dflt := 1, takes := .cycle },
  /- mod.kw_rs -/
  { cls := 0x06, inst0 := 0x000, insts := 1, item0 := 0x03, items := 1, stride := 1, kind := .real, signed := false, lo := 0, hi := 16, step := 0, orZero := false, vals := [], dflt := 1 / 2, takes := .cycle },
  /- mod.sort_hyst -/
  { cls := 0x06, inst0 := 0x000, insts := 1, item0 := 0x04, items := 1, stride := 1, kind := .real, signed := false, lo := 0, hi := 1, step := 0, orZero := false, vals := [], dflt := 1 / 50, takes := .cycle },
  /- mod.i_dir_db -/
  { cls := 0x06, inst0 := 0x000, insts := 1, item0 := 0x05, items := 1, stride := 1, kind := .real, signed := false, lo := 0, hi := 1 / 5, step := 0, orZero := false, vals := [], dflt := 1 / 20, takes := .cycle },
  /- mod.budget_n -/
  { cls := 0x06, inst0 := 0x000, insts := 1, item0 := 0x06, items := 1, stride := 1, kind := .int, signed := false, lo := 10, hi := 10000, step := 0, orZero := false, vals := [], dflt := 100, takes := .cycle },
  /- mod.budget_win -/
  { cls := 0x06, inst0 := 0x000, insts := 1, item0 := 0x07, items := 1, stride := 1, kind := .real, signed := false, lo := 1, hi := 1000, step := 0, orZero := false, vals := [], dflt := 20, takes := .cycle },
  /- mod.residue_max -/
  { cls := 0x06, inst0 := 0x000, insts := 1, item0 := 0x08, items := 1, stride := 1, kind := .real, signed := false, lo := 1000, hi := 200000, step := 0, orZero := false, vals := [], dflt := 30000, takes := .cycle },
  /- mod.dtc_i0 -/
  { cls := 0x06, inst0 := 0x000, insts := 1, item0 := 0x09, items := 1, stride := 1, kind := .real, signed := false, lo := 0, hi := 1 / 10, step := 0, orZero := false, vals := [], dflt := 1 / 50, takes := .cycle },
  /- mod.bs_window -/
  { cls := 0x06, inst0 := 0x000, insts := 1, item0 := 0x0A, items := 1, stride := 1, kind := .real, signed := false, lo := 1 / 2, hi := 20, step := 0, orZero := false, vals := [], dflt := 2, takes := .cycle },
  /- mod.bs_refresh -/
  { cls := 0x06, inst0 := 0x000, insts := 1, item0 := 0x0B, items := 1, stride := 1, kind := .real, signed := false, lo := 1, hi := 50, step := 0, orZero := false, vals := [], dflt := 5, takes := .cycle },
  /- mod.bs_rest -/
  { cls := 0x06, inst0 := 0x000, insts := 1, item0 := 0x0C, items := 1, stride := 1, kind := .int, signed := false, lo := 1, hi := 10000, step := 0, orZero := false, vals := [], dflt := 50, takes := .cycle },
  /- mod.rest_min -/
  { cls := 0x06, inst0 := 0x000, insts := 1, item0 := 0x0D, items := 1, stride := 1, kind := .int, signed := false, lo := 1, hi := 100000, step := 0, orZero := false, vals := [], dflt := 500, takes := .cycle },
  /- mod.bp_close_max -/
  { cls := 0x06, inst0 := 0x000, insts := 1, item0 := 0x0E, items := 1, stride := 1, kind := .real, signed := false, lo := 1, hi := 100, step := 0, orZero := false, vals := [], dflt := 10, takes := .cycle },
  /- mod.v_margin -/
  { cls := 0x06, inst0 := 0x000, insts := 1, item0 := 0x0F, items := 1, stride := 1, kind := .real, signed := false, lo := 0, hi := 5000, step := 0, orZero := false, vals := [], dflt := 800, takes := .cycle },
  /- mod.v_arm_full -/
  { cls := 0x06, inst0 := 0x000, insts := 1, item0 := 0x10, items := 1, stride := 1, kind := .real, signed := false, lo := 1, hi := 120, step := 0, orZero := false, vals := [], dflt := 30, takes := .state },
  /- mod.v_arm_min -/
  { cls := 0x06, inst0 := 0x000, insts := 1, item0 := 0x11, items := 1, stride := 1, kind := .real, signed := false, lo := 1, hi := 120, step := 0, orZero := false, vals := [], dflt := 27, takes := .state },
  /- mod.car_period -/
  { cls := 0x06, inst0 := 0x000, insts := 1, item0 := 0x12, items := 1, stride := 1, kind := .real, signed := false, lo := 100, hi := 10000, step := 1 / 10, orZero := false, vals := [], dflt := 500, takes := .cycle },
  /- mod.recover_cycles -/
  { cls := 0x06, inst0 := 0x000, insts := 1, item0 := 0x13, items := 1, stride := 1, kind := .int, signed := false, lo := 1, hi := 1000, step := 0, orZero := false, vals := [], dflt := 10, takes := .cycle },
  /- bal.kp -/
  { cls := 0x06, inst0 := 0x001, insts := 1, item0 := 0x01, items := 1, stride := 1, kind := .real, signed := false, lo := 0, hi := 10, step := 0, orZero := false, vals := [], dflt := 1 / 2, takes := .cycle }
  ]

/-- Parameter rows of class 0x06, part 2. -/
def pRows06b : List PRow := [
  /- bal.ki -/
  { cls := 0x06, inst0 := 0x001, insts := 1, item0 := 0x02, items := 1, stride := 1, kind := .real, signed := false, lo := 0, hi := 10, step := 0, orZero := false, vals := [], dflt := 1 / 10, takes := .cycle },
  /- bal.db -/
  { cls := 0x06, inst0 := 0x001, insts := 1, item0 := 0x03, items := 1, stride := 1, kind := .real, signed := false, lo := 0, hi := 1 / 10, step := 0, orZero := false, vals := [], dflt := 1 / 100, takes := .cycle },
  /- bal.v0_max -/
  { cls := 0x06, inst0 := 0x001, insts := 1, item0 := 0x04, items := 1, stride := 1, kind := .real, signed := false, lo := 0, hi := 3 / 10, step := 0, orZero := false, vals := [], dflt := 3 / 20, takes := .cycle },
  /- bal.i_min -/
  { cls := 0x06, inst0 := 0x001, insts := 1, item0 := 0x05, items := 1, stride := 1, kind := .real, signed := false, lo := 1 / 100, hi := 1 / 2, step := 0, orZero := false, vals := [], dflt := 1 / 20, takes := .cycle },
  /- bal.i0_max -/
  { cls := 0x06, inst0 := 0x001, insts := 1, item0 := 0x06, items := 1, stride := 1, kind := .real, signed := false, lo := 0, hi := 3 / 10, step := 0, orZero := false, vals := [], dflt := 1 / 10, takes := .cycle },
  /- bal.ic_kp -/
  { cls := 0x06, inst0 := 0x001, insts := 1, item0 := 0x07, items := 1, stride := 1, kind := .real, signed := false, lo := 0, hi := 5, step := 0, orZero := false, vals := [], dflt := 3 / 10, takes := .cycle },
  /- bal.ic_ki -/
  { cls := 0x06, inst0 := 0x001, insts := 1, item0 := 0x08, items := 1, stride := 1, kind := .real, signed := false, lo := 0, hi := 500, step := 0, orZero := false, vals := [], dflt := 20, takes := .cycle },
  /- bal.vc_max -/
  { cls := 0x06, inst0 := 0x001, insts := 1, item0 := 0x09, items := 1, stride := 1, kind := .real, signed := false, lo := 0, hi := 1 / 5, step := 0, orZero := false, vals := [], dflt := 1 / 10, takes := .cycle }
  ]

/-- Parameter rows of class 0x06 (Table 19-5). -/
def pRows06 : List PRow := pRows06a ++ pRows06b

/-- Parameter rows of class 0x07, part 1. -/
def pRows07a : List PRow := [
  /- obs.q_soc -/
  { cls := 0x07, inst0 := 0x000, insts := 1, item0 := 0x01, items := 1, stride := 1, kind := .real, signed := false, lo := 0, hi := 1 / 10^6, step := 0, orZero := false, vals := [], dflt := 1 / 10^10, takes := .round },
  /- obs.q_va -/
  { cls := 0x07, inst0 := 0x000, insts := 1, item0 := 0x02, items := 1, stride := 1, kind := .real, signed := false, lo := 0, hi := 10, step := 0, orZero := false, vals := [], dflt := 1 / 100, takes := .round },
  /- obs.q_rs -/
  { cls := 0x07, inst0 := 0x000, insts := 1, item0 := 0x03, items := 1, stride := 1, kind := .real, signed := false, lo := 0, hi := 1 / 10^6, step := 0, orZero := false, vals := [], dflt := 1 / 10^12, takes := .round },
  /- obs.q_cap -/
  { cls := 0x07, inst0 := 0x000, insts := 1, item0 := 0x04, items := 1, stride := 1, kind := .real, signed := false, lo := 0, hi := 1 / 10^8, step := 0, orZero := false, vals := [], dflt := 1 / 10^14, takes := .round },
  /- obs.r_v -/
  { cls := 0x07, inst0 := 0x000, insts := 1, item0 := 0x05, items := 1, stride := 1, kind := .real, signed := false, lo := 1 / 100, hi := 1000, step := 0, orZero := false, vals := [], dflt := 4, takes := .round },
  /- obs.nis_max -/
  { cls := 0x07, inst0 := 0x000, insts := 1, item0 := 0x06, items := 1, stride := 1, kind := .real, signed := false, lo := 1, hi := 100, step := 0, orZero := false, vals := [], dflt := 16, takes := .cycle },
  /- obs.nis_count -/
  { cls := 0x07, inst0 := 0x000, insts := 1, item0 := 0x07, items := 1, stride := 1, kind := .int, signed := false, lo := 1, hi := 10000, step := 0, orZero := false, vals := [], dflt := 200, takes := .cycle },
  /- obs.reinit_win -/
  { cls := 0x07, inst0 := 0x000, insts := 1, item0 := 0x08, items := 1, stride := 1, kind := .real, signed := false, lo := 60, hi := 86400, step := 0, orZero := false, vals := [], dflt := 3600, takes := .cycle },
  /- obs.xv_abs -/
  { cls := 0x07, inst0 := 0x000, insts := 1, item0 := 0x09, items := 1, stride := 1, kind := .real, signed := false, lo := 1 / 2, hi := 50, step := 0, orZero := false, vals := [], dflt := 5, takes := .cycle },
  /- obs.xv_rel -/
  { cls := 0x07, inst0 := 0x000, insts := 1, item0 := 0x0A, items := 1, stride := 1, kind := .real, signed := false, lo := 0, hi := 5, step := 0, orZero := false, vals := [], dflt := 1, takes := .cycle },
  /- obs.xi_abs -/
  { cls := 0x07, inst0 := 0x000, insts := 1, item0 := 0x0B, items := 1, stride := 1, kind := .real, signed := false, lo := 1 / 2, hi := 100, step := 0, orZero := false, vals := [], dflt := 5, takes := .cycle },
  /- obs.xi_rel -/
  { cls := 0x07, inst0 := 0x000, insts := 1, item0 := 0x0C, items := 1, stride := 1, kind := .real, signed := false, lo := 0, hi := 10, step := 0, orZero := false, vals := [], dflt := 3, takes := .cycle },
  /- obs.xsoc_tol -/
  { cls := 0x07, inst0 := 0x000, insts := 1, item0 := 0x0D, items := 1, stride := 1, kind := .real, signed := false, lo := 1 / 100, hi := 1 / 2, step := 0, orZero := false, vals := [], dflt := 2 / 25, takes := .cycle },
  /- obs.xsoh_tol -/
  { cls := 0x07, inst0 := 0x000, insts := 1, item0 := 0x0E, items := 1, stride := 1, kind := .real, signed := false, lo := 1 / 100, hi := 1 / 2, step := 0, orZero := false, vals := [], dflt := 1 / 10, takes := .cycle },
  /- obs.x_count -/
  { cls := 0x07, inst0 := 0x000, insts := 1, item0 := 0x0F, items := 1, stride := 1, kind := .int, signed := false, lo := 1, hi := 255, step := 0, orZero := false, vals := [], dflt := 5, takes := .cycle },
  /- prof[p].chem -/
  { cls := 0x07, inst0 := 0x010, insts := 8, item0 := 0x01, items := 1, stride := 1, kind := .int, signed := false, lo := 0, hi := 7, step := 0, orZero := false, vals := [], dflt := 0, takes := .state },
  /- prof[p].n_series -/
  { cls := 0x07, inst0 := 0x010, insts := 8, item0 := 0x02, items := 1, stride := 1, kind := .int, signed := false, lo := 1, hi := 400, step := 0, orZero := false, vals := [], dflt := 192, takes := .state },
  /- prof[p].q_nom -/
  { cls := 0x07, inst0 := 0x010, insts := 8, item0 := 0x03, items := 1, stride := 1, kind := .real, signed := false, lo := 10, hi := 2000, step := 0, orZero := false, vals := [], dflt := 280, takes := .state },
  /- prof[p].rs_ref -/
  { cls := 0x07, inst0 := 0x010, insts := 8, item0 := 0x04, items := 1, stride := 1, kind := .real, signed := false, lo := 1, hi := 2000, step := 0, orZero := false, vals := [], dflt := 80, takes := .state },
  /- prof[p].ra -/
  { cls := 0x07, inst0 := 0x010, insts := 8, item0 := 0x05, items := 1, stride := 1, kind := .real, signed := false, lo := 0, hi := 2000, step := 0, orZero := false, vals := [], dflt := 20, takes := .state }
  ]

/-- Parameter rows of class 0x07, part 2. -/
def pRows07b : List PRow := [
  /- prof[p].ca -/
  { cls := 0x07, inst0 := 0x010, insts := 8, item0 := 0x06, items := 1, stride := 1, kind := .real, signed := false, lo := 1, hi := 1000000, step := 0, orZero := false, vals := [], dflt := 500, takes := .state },
  /- prof[p].rb -/
  { cls := 0x07, inst0 := 0x010, insts := 8, item0 := 0x07, items := 1, stride := 1, kind := .real, signed := false, lo := 0, hi := 2000, step := 0, orZero := false, vals := [], dflt := 30, takes := .state },
  /- prof[p].cb -/
  { cls := 0x07, inst0 := 0x010, insts := 8, item0 := 0x08, items := 1, stride := 1, kind := .real, signed := false, lo := 1, hi := 1000000, step := 0, orZero := false, vals := [], dflt := 6000, takes := .state },
  /- prof[p].v_min -/
  { cls := 0x07, inst0 := 0x010, insts := 8, item0 := 0x09, items := 1, stride := 1, kind := .real, signed := false, lo := 100, hi := 1200, step := 0, orZero := false, vals := [], dflt := 520, takes := .cycle },
  /- prof[p].v_max -/
  { cls := 0x07, inst0 := 0x010, insts := 8, item0 := 0x0A, items := 1, stride := 1, kind := .real, signed := false, lo := 100, hi := 1200, step := 0, orZero := false, vals := [], dflt := 820, takes := .cycle },
  /- prof[p].t_chg_lo -/
  { cls := 0x07, inst0 := 0x010, insts := 8, item0 := 0x0B, items := 1, stride := 1, kind := .real, signed := true, lo := (-40), hi := 60, step := 0, orZero := false, vals := [], dflt := 0, takes := .round },
  /- prof[p].t_chg_hi -/
  { cls := 0x07, inst0 := 0x010, insts := 8, item0 := 0x0C, items := 1, stride := 1, kind := .real, signed := true, lo := (-40), hi := 80, step := 0, orZero := false, vals := [], dflt := 45, takes := .round },
  /- prof[p].t_dis_lo -/
  { cls := 0x07, inst0 := 0x010, insts := 8, item0 := 0x0D, items := 1, stride := 1, kind := .real, signed := true, lo := (-40), hi := 60, step := 0, orZero := false, vals := [], dflt := (-20), takes := .round },
  /- prof[p].t_dis_hi -/
  { cls := 0x07, inst0 := 0x010, insts := 8, item0 := 0x0E, items := 1, stride := 1, kind := .real, signed := true, lo := (-40), hi := 80, step := 0, orZero := false, vals := [], dflt := 55, takes := .round },
  /- prof[p].t_hyst -/
  { cls := 0x07, inst0 := 0x010, insts := 8, item0 := 0x0F, items := 1, stride := 1, kind := .real, signed := false, lo := 0, hi := 10, step := 0, orZero := false, vals := [], dflt := 2, takes := .round },
  /- prof[p].soh_floor -/
  { cls := 0x07, inst0 := 0x010, insts := 8, item0 := 0x10, items := 1, stride := 1, kind := .real, signed := false, lo := 3 / 10, hi := 9 / 10, step := 0, orZero := false, vals := [], dflt := 3 / 5, takes := .cycle },
  /- prof[p].can_rate -/
  { cls := 0x07, inst0 := 0x010, insts := 8, item0 := 0x11, items := 1, stride := 1, kind := .int, signed := false, lo := 0, hi := 3, step := 0, orZero := false, vals := [], dflt := 2, takes := .state },
  /- prof[p].match_id -/
  { cls := 0x07, inst0 := 0x010, insts := 8, item0 := 0x12, items := 1, stride := 1, kind := .int, signed := false, lo := 0, hi := 1073741823, step := 0, orZero := false, vals := [], dflt := 0, takes := .state },
  /- prof[p].match[w] -/
  { cls := 0x07, inst0 := 0x010, insts := 8, item0 := 0x13, items := 4, stride := 1, kind := .int, signed := false, lo := 0, hi := 4294967295, step := 0, orZero := false, vals := [], dflt := 0, takes := .state },
  /- prof[p].tx[q].id -/
  { cls := 0x07, inst0 := 0x010, insts := 8, item0 := 0x20, items := 2, stride := 8, kind := .int, signed := false, lo := 0, hi := 1073741823, step := 0, orZero := false, vals := [], dflt := 0, takes := .cycle },
  /- prof[p].tx[q].ctl -/
  { cls := 0x07, inst0 := 0x010, insts := 8, item0 := 0x21, items := 2, stride := 8, kind := .int, signed := false, lo := 0, hi := 16777215, step := 0, orZero := false, vals := [], dflt := 0, takes := .cycle },
  /- prof[p].tx[q].data_lo -/
  { cls := 0x07, inst0 := 0x010, insts := 8, item0 := 0x22, items := 2, stride := 8, kind := .int, signed := false, lo := 0, hi := 4294967295, step := 0, orZero := false, vals := [], dflt := 0, takes := .cycle },
  /- prof[p].tx[q].data_hi -/
  { cls := 0x07, inst0 := 0x010, insts := 8, item0 := 0x23, items := 2, stride := 8, kind := .int, signed := false, lo := 0, hi := 4294967295, step := 0, orZero := false, vals := [], dflt := 0, takes := .cycle },
  /- prof[p].tx[q].counter -/
  { cls := 0x07, inst0 := 0x010, insts := 8, item0 := 0x24, items := 2, stride := 8, kind := .int, signed := false, lo := 0, hi := 1023, step := 0, orZero := false, vals := [], dflt := 0, takes := .cycle },
  /- prof[p].map[m].word[w] -/
  { cls := 0x07, inst0 := 0x010, insts := 8, item0 := 0x40, items := 64, stride := 1, kind := .int, signed := false, lo := 0, hi := 4294967295, step := 0, orZero := false, vals := [], dflt := 0, takes := .state }
  ]

/-- Parameter rows of class 0x07, part 3. -/
def pRows07c : List PRow := [
  /- pack[c].profile -/
  { cls := 0x07, inst0 := 0x100, insts := 384, item0 := 0x01, items := 1, stride := 1, kind := .int, signed := false, lo := 0, hi := 9, step := 0, orZero := false, vals := [], dflt := 8, takes := .state }
  ]

/-- Parameter rows of class 0x07 (Table 19-5). -/
def pRows07 : List PRow := pRows07a ++ pRows07b ++ pRows07c

/-- Parameter rows of class 0x08, part 1. -/
def pRows08a : List PRow := [
  /- chem[t].point[j] -/
  { cls := 0x08, inst0 := 0x000, insts := 8, item0 := 0x01, items := 64, stride := 1, kind := .int, signed := false, lo := 0, hi := 4294967295, step := 0, orZero := false, vals := [], dflt := 0, takes := .state }
  ]

/-- Parameter rows of class 0x08 (Table 19-5). -/
def pRows08 : List PRow := pRows08a

/-- Parameter rows of class 0x09, part 1. -/
def pRows09a : List PRow := [
  /- prot.squall_burst -/
  { cls := 0x09, inst0 := 0x000, insts := 1, item0 := 0x01, items := 1, stride := 1, kind := .real, signed := false, lo := 5, hi := 1000, step := 0, orZero := false, vals := [], dflt := 10, takes := .cycle },
  /- prot.blank_t -/
  { cls := 0x09, inst0 := 0x000, insts := 1, item0 := 0x02, items := 1, stride := 1, kind := .real, signed := false, lo := 0, hi := 2000, step := 25, orZero := false, vals := [], dflt := 400, takes := .cycle },
  /- prot.blank_max -/
  { cls := 0x09, inst0 := 0x000, insts := 1, item0 := 0x03, items := 1, stride := 1, kind := .real, signed := false, lo := 1 / 10, hi := 10, step := 0, orZero := false, vals := [], dflt := 2, takes := .cycle },
  /- prot.multi_win -/
  { cls := 0x09, inst0 := 0x000, insts := 1, item0 := 0x04, items := 1, stride := 1, kind := .real, signed := false, lo := 1 / 10, hi := 100, step := 0, orZero := false, vals := [], dflt := 2, takes := .cycle },
  /- prot.auto_mask_l -/
  { cls := 0x09, inst0 := 0x000, insts := 1, item0 := 0x05, items := 1, stride := 1, kind := .int, signed := false, lo := 0, hi := 4294967295, step := 0, orZero := false, vals := [], dflt := 268369920, takes := .cycle },
  /- prot.auto_mask_h -/
  { cls := 0x09, inst0 := 0x000, insts := 1, item0 := 0x06, items := 1, stride := 1, kind := .int, signed := false, lo := 0, hi := 65535, step := 0, orZero := false, vals := [], dflt := 256, takes := .cycle },
  /- prot.auto_delay -/
  { cls := 0x09, inst0 := 0x000, insts := 1, item0 := 0x07, items := 1, stride := 1, kind := .real, signed := false, lo := 20, hi := 100000, step := 0, orZero := false, vals := [], dflt := 100, takes := .cycle },
  /- prot.auto_max -/
  { cls := 0x09, inst0 := 0x000, insts := 1, item0 := 0x08, items := 1, stride := 1, kind := .int, signed := false, lo := 0, hi := 10, step := 0, orZero := false, vals := [], dflt := 3, takes := .cycle },
  /- prot.auto_win -/
  { cls := 0x09, inst0 := 0x000, insts := 1, item0 := 0x09, items := 1, stride := 1, kind := .real, signed := false, lo := 1, hi := 3600, step := 0, orZero := false, vals := [], dflt := 60, takes := .cycle },
  /- prot.sto_t1 -/
  { cls := 0x09, inst0 := 0x000, insts := 1, item0 := 0x0A, items := 1, stride := 1, kind := .real, signed := false, lo := 1 / 2, hi := 5, step := 1 / 800, orZero := false, vals := [], dflt := 1, takes := .state },
  /- prot.sto_level -/
  { cls := 0x09, inst0 := 0x000, insts := 1, item0 := 0x0B, items := 1, stride := 1, kind := .int, signed := false, lo := 0, hi := 31, step := 0, orZero := false, vals := [], dflt := 10, takes := .state },
  /- prot.chop_en -/
  { cls := 0x09, inst0 := 0x000, insts := 1, item0 := 0x0C, items := 1, stride := 1, kind := .int, signed := false, lo := 0, hi := 1, step := 0, orZero := false, vals := [], dflt := 1, takes := .cycle },
  /- prot.chop_on_rel -/
  { cls := 0x09, inst0 := 0x000, insts := 1, item0 := 0x0D, items := 1, stride := 1, kind := .real, signed := false, lo := 1, hi := 6 / 5, step := 0, orZero := false, vals := [], dflt := 26 / 25, takes := .state },
  /- prot.chop_off_rel -/
  { cls := 0x09, inst0 := 0x000, insts := 1, item0 := 0x0E, items := 1, stride := 1, kind := .real, signed := false, lo := 19 / 20, hi := 23 / 20, step := 0, orZero := false, vals := [], dflt := 101 / 100, takes := .state },
  /- prot.desat_arm_max -/
  { cls := 0x09, inst0 := 0x000, insts := 1, item0 := 0x0F, items := 1, stride := 1, kind := .int, signed := false, lo := 1, hi := 16, step := 0, orZero := false, vals := [], dflt := 3, takes := .cycle },
  /- prot.ef_i -/
  { cls := 0x09, inst0 := 0x000, insts := 1, item0 := 0x10, items := 1, stride := 1, kind := .real, signed := false, lo := 0, hi := 2000, step := 0, orZero := false, vals := [], dflt := 0, takes := .cycle },
  /- prot.ef_time -/
  { cls := 0x09, inst0 := 0x000, insts := 1, item0 := 0x11, items := 1, stride := 1, kind := .real, signed := false, lo := 1, hi := 10000, step := 0, orZero := false, vals := [], dflt := 100, takes := .cycle },
  /- prot.sp_v -/
  { cls := 0x09, inst0 := 0x000, insts := 1, item0 := 0x12, items := 1, stride := 1, kind := .real, signed := false, lo := 0, hi := 40000, step := 0, orZero := false, vals := [], dflt := 0, takes := .cycle },
  /- prot.sp_time -/
  { cls := 0x09, inst0 := 0x000, insts := 1, item0 := 0x13, items := 1, stride := 1, kind := .real, signed := false, lo := 1, hi := 10000, step := 0, orZero := false, vals := [], dflt := 500, takes := .cycle },
  /- prot.bypfail_trip -/
  { cls := 0x09, inst0 := 0x000, insts := 1, item0 := 0x14, items := 1, stride := 1, kind := .int, signed := false, lo := 0, hi := 1, step := 0, orZero := false, vals := [], dflt := 1, takes := .cycle }
  ]

/-- Parameter rows of class 0x09, part 2. -/
def pRows09b : List PRow := [
  /- prot.brk_filt -/
  { cls := 0x09, inst0 := 0x000, insts := 1, item0 := 0x15, items := 1, stride := 1, kind := .int, signed := false, lo := 1, hi := 255, step := 0, orZero := false, vals := [], dflt := 255, takes := .cycle },
  /- gd.enable -/
  { cls := 0x09, inst0 := 0x001, insts := 1, item0 := 0x01, items := 1, stride := 1, kind := .int, signed := false, lo := 0, hi := 1, step := 0, orZero := false, vals := [], dflt := 1, takes := .cycle },
  /- gd.tsw_on_target -/
  { cls := 0x09, inst0 := 0x001, insts := 1, item0 := 0x02, items := 1, stride := 1, kind := .real, signed := false, lo := 50, hi := 2000, step := 0, orZero := false, vals := [], dflt := 250, takes := .cycle },
  /- gd.tsw_off_target -/
  { cls := 0x09, inst0 := 0x001, insts := 1, item0 := 0x03, items := 1, stride := 1, kind := .real, signed := false, lo := 50, hi := 2000, step := 0, orZero := false, vals := [], dflt := 300, takes := .cycle },
  /- gd.db -/
  { cls := 0x09, inst0 := 0x001, insts := 1, item0 := 0x04, items := 1, stride := 1, kind := .real, signed := false, lo := 5, hi := 200, step := 0, orZero := false, vals := [], dflt := 20, takes := .cycle },
  /- gd.i_min -/
  { cls := 0x09, inst0 := 0x001, insts := 1, item0 := 0x05, items := 1, stride := 1, kind := .real, signed := false, lo := 1 / 20, hi := 1, step := 0, orZero := false, vals := [], dflt := 1 / 5, takes := .cycle },
  /- gd.code_init -/
  { cls := 0x09, inst0 := 0x001, insts := 1, item0 := 0x06, items := 1, stride := 1, kind := .int, signed := false, lo := 0, hi := 31, step := 0, orZero := false, vals := [], dflt := 16, takes := .cycle },
  /- gd.sat_count -/
  { cls := 0x09, inst0 := 0x001, insts := 1, item0 := 0x07, items := 1, stride := 1, kind := .int, signed := false, lo := 1, hi := 10000, step := 0, orZero := false, vals := [], dflt := 100, takes := .cycle },
  /- gd.age_tau -/
  { cls := 0x09, inst0 := 0x001, insts := 1, item0 := 0x08, items := 1, stride := 1, kind := .real, signed := false, lo := 1 / 10, hi := 100, step := 0, orZero := false, vals := [], dflt := 24, takes := .cycle },
  /- gd.age_warn -/
  { cls := 0x09, inst0 := 0x001, insts := 1, item0 := 0x09, items := 1, stride := 1, kind := .int, signed := false, lo := 1, hi := 16, step := 0, orZero := false, vals := [], dflt := 4, takes := .cycle },
  /- prot.tin[i].mode -/
  { cls := 0x09, inst0 := 0x010, insts := 16, item0 := 0x01, items := 1, stride := 1, kind := .int, signed := false, lo := 0, hi := 1, step := 0, orZero := false, vals := [], dflt := 0, takes := .cycle },
  /- prot.tin[i].polarity -/
  { cls := 0x09, inst0 := 0x010, insts := 16, item0 := 0x02, items := 1, stride := 1, kind := .int, signed := false, lo := 0, hi := 1, step := 0, orZero := false, vals := [], dflt := 1, takes := .cycle },
  /- prot.tin[i].filt -/
  { cls := 0x09, inst0 := 0x010, insts := 16, item0 := 0x03, items := 1, stride := 1, kind := .int, signed := false, lo := 1, hi := 255, step := 0, orZero := false, vals := [], dflt := 8, takes := .cycle },
  /- prot.tin[i].chatter_n -/
  { cls := 0x09, inst0 := 0x010, insts := 16, item0 := 0x04, items := 1, stride := 1, kind := .int, signed := false, lo := 2, hi := 255, step := 0, orZero := false, vals := [], dflt := 16, takes := .cycle },
  /- prot.tin[i].chatter_win -/
  { cls := 0x09, inst0 := 0x010, insts := 16, item0 := 0x05, items := 1, stride := 1, kind := .real, signed := false, lo := 1, hi := 10000, step := 0, orZero := false, vals := [], dflt := 100, takes := .cycle },
  /- prot.tin[i].arms -/
  { cls := 0x09, inst0 := 0x010, insts := 16, item0 := 0x06, items := 1, stride := 1, kind := .int, signed := false, lo := 0, hi := 7, step := 0, orZero := false, vals := [], dflt := 7, takes := .cycle },
  /- prot.cmp[j].blank_arms -/
  { cls := 0x09, inst0 := 0x020, insts := 12, item0 := 0x01, items := 1, stride := 1, kind := .int, signed := false, lo := 0, hi := 7, step := 0, orZero := false, vals := [], dflt := 0, takes := .cycle },
  /- prot.cmp[j].trip -/
  { cls := 0x09, inst0 := 0x020, insts := 12, item0 := 0x02, items := 1, stride := 1, kind := .int, signed := false, lo := 0, hi := 3, step := 0, orZero := false, vals := [], dflt := 3, takes := .cycle }
  ]

/-- Parameter rows of class 0x09 (Table 19-5). -/
def pRows09 : List PRow := pRows09a ++ pRows09b

/-- Parameter rows of class 0x0A, part 1. -/
def pRows0Aa : List PRow := [
  /- saf.host_reset -/
  { cls := 0x0A, inst0 := 0x000, insts := 1, item0 := 0x01, items := 1, stride := 1, kind := .int, signed := false, lo := 0, hi := 1, step := 0, orZero := false, vals := [], dflt := 0, takes := .state },
  /- saf.fb_sbt -/
  { cls := 0x0A, inst0 := 0x000, insts := 1, item0 := 0x02, items := 1, stride := 1, kind := .int, signed := false, lo := 0, hi := 3, step := 0, orZero := false, vals := [], dflt := 1, takes := .state },
  /- saf.test_w -/
  { cls := 0x0A, inst0 := 0x000, insts := 1, item0 := 0x03, items := 1, stride := 1, kind := .real, signed := false, lo := 20, hi := 200, step := 0, orZero := false, vals := [], dflt := 100, takes := .state },
  /- saf.cfg_crc -/
  { cls := 0x0A, inst0 := 0x000, insts := 1, item0 := 0x04, items := 1, stride := 1, kind := .int, signed := false, lo := 0, hi := 4294967295, step := 0, orZero := false, vals := [], dflt := 647695179, takes := .state },
  /- saf.sc_enable -/
  { cls := 0x0A, inst0 := 0x001, insts := 1, item0 := 0x01, items := 1, stride := 1, kind := .int, signed := false, lo := 0, hi := 1, step := 0, orZero := false, vals := [], dflt := 0, takes := .state },
  /- saf.sc_cid_lo -/
  { cls := 0x0A, inst0 := 0x001, insts := 1, item0 := 0x02, items := 1, stride := 1, kind := .int, signed := false, lo := 0, hi := 4294967295, step := 0, orZero := false, vals := [], dflt := 0, takes := .state },
  /- saf.sc_cid_hi -/
  { cls := 0x0A, inst0 := 0x001, insts := 1, item0 := 0x03, items := 1, stride := 1, kind := .int, signed := false, lo := 0, hi := 4294967295, step := 0, orZero := false, vals := [], dflt := 0, takes := .state },
  /- saf.sc_watchdog -/
  { cls := 0x0A, inst0 := 0x001, insts := 1, item0 := 0x04, items := 1, stride := 1, kind := .real, signed := false, lo := 1, hi := 1000, step := 0, orZero := false, vals := [], dflt := 20, takes := .state },
  /- saf.sc_window -/
  { cls := 0x0A, inst0 := 0x001, insts := 1, item0 := 0x05, items := 1, stride := 1, kind := .int, signed := false, lo := 1, hi := 16, step := 0, orZero := false, vals := [], dflt := 4, takes := .state },
  /- saf.sc_tmo_action -/
  { cls := 0x0A, inst0 := 0x001, insts := 1, item0 := 0x06, items := 1, stride := 1, kind := .int, signed := false, lo := 0, hi := 15, step := 0, orZero := false, vals := [], dflt := 1, takes := .state },
  /- saf.slp.limit_hi -/
  { cls := 0x0A, inst0 := 0x002, insts := 1, item0 := 0x01, items := 1, stride := 1, kind := .real, signed := false, lo := 0, hi := 3 / 2, step := 0, orZero := false, vals := [], dflt := 11 / 10, takes := .state },
  /- saf.slp.limit_lo -/
  { cls := 0x0A, inst0 := 0x002, insts := 1, item0 := 0x02, items := 1, stride := 1, kind := .real, signed := false, lo := 0, hi := 3 / 2, step := 0, orZero := false, vals := [], dflt := 3 / 10, takes := .state },
  /- saf.slp.time -/
  { cls := 0x0A, inst0 := 0x002, insts := 1, item0 := 0x03, items := 1, stride := 1, kind := .real, signed := false, lo := 1, hi := 1000, step := 0, orZero := false, vals := [], dflt := 20, takes := .state },
  /- saf.slp.ramp -/
  { cls := 0x0A, inst0 := 0x002, insts := 1, item0 := 0x04, items := 1, stride := 1, kind := .real, signed := false, lo := 0, hi := 10000, step := 0, orZero := false, vals := [], dflt := 500, takes := .state },
  /- saf.sci.delay -/
  { cls := 0x0A, inst0 := 0x002, insts := 1, item0 := 0x05, items := 1, stride := 1, kind := .real, signed := false, lo := 0, hi := 1000, step := 0, orZero := false, vals := [], dflt := 20, takes := .state },
  /- saf.sci.confirm -/
  { cls := 0x0A, inst0 := 0x002, insts := 1, item0 := 0x06, items := 1, stride := 1, kind := .real, signed := false, lo := 1 / 10, hi := 30, step := 0, orZero := false, vals := [], dflt := 2, takes := .state },
  /- saf.sin[n].type -/
  { cls := 0x0A, inst0 := 0x010, insts := 4, item0 := 0x01, items := 1, stride := 1, kind := .int, signed := false, lo := 0, hi := 3, step := 0, orZero := false, vals := [], dflt := 0, takes := .state },
  /- saf.sin[n].func -/
  { cls := 0x0A, inst0 := 0x010, insts := 4, item0 := 0x02, items := 1, stride := 1, kind := .int, signed := false, lo := 0, hi := 63, step := 0, orZero := false, vals := [], dflt := 0, takes := .state },
  /- saf.sin[n].filt -/
  { cls := 0x0A, inst0 := 0x010, insts := 4, item0 := 0x03, items := 1, stride := 1, kind := .int, signed := false, lo := 0, hi := 2, step := 0, orZero := false, vals := [], dflt := 1, takes := .state },
  /- saf.sin[n].disc_time -/
  { cls := 0x0A, inst0 := 0x010, insts := 4, item0 := 0x04, items := 1, stride := 1, kind := .real, signed := false, lo := 5, hi := 500, step := 0, orZero := false, vals := [], dflt := 50, takes := .state }
  ]

/-- Parameter rows of class 0x0A, part 2. -/
def pRows0Ab : List PRow := [
  /- saf.sout[n].func -/
  { cls := 0x0A, inst0 := 0x020, insts := 6, item0 := 0x01, items := 1, stride := 1, kind := .int, signed := false, lo := 0, hi := 4, step := 0, orZero := false, vals := [], dflt := 0, takes := .state }
  ]

/-- Parameter rows of class 0x0A (Table 19-5). -/
def pRows0A : List PRow := pRows0Aa ++ pRows0Ab

/-- Parameter rows of class 0x0B, part 1. -/
def pRows0Ba : List PRow := [
  /- twin.shadow_en -/
  { cls := 0x0B, inst0 := 0x000, insts := 1, item0 := 0x01, items := 1, stride := 1, kind := .int, signed := false, lo := 0, hi := 1, step := 0, orZero := false, vals := [], dflt := 1, takes := .state },
  /- twin.shadow_max -/
  { cls := 0x0B, inst0 := 0x000, insts := 1, item0 := 0x02, items := 1, stride := 1, kind := .int, signed := false, lo := 10, hi := 5000, step := 0, orZero := false, vals := [], dflt := 250, takes := .cycle },
  /- twin.meas_tol -/
  { cls := 0x0B, inst0 := 0x000, insts := 1, item0 := 0x03, items := 1, stride := 1, kind := .real, signed := false, lo := 1 / 200, hi := 1 / 10, step := 0, orZero := false, vals := [], dflt := 1 / 50, takes := .cycle },
  /- twin.meas_count -/
  { cls := 0x0B, inst0 := 0x000, insts := 1, item0 := 0x04, items := 1, stride := 1, kind := .int, signed := false, lo := 1, hi := 1000, step := 0, orZero := false, vals := [], dflt := 50, takes := .cycle },
  /- twin.mis_max -/
  { cls := 0x0B, inst0 := 0x000, insts := 1, item0 := 0x05, items := 1, stride := 1, kind := .int, signed := false, lo := 1, hi := 100, step := 0, orZero := false, vals := [], dflt := 3, takes := .cycle },
  /- twin.meter_tol -/
  { cls := 0x0B, inst0 := 0x000, insts := 1, item0 := 0x06, items := 1, stride := 1, kind := .real, signed := false, lo := 1 / 100, hi := 1, step := 0, orZero := false, vals := [], dflt := 1 / 10, takes := .cycle }
  ]

/-- Parameter rows of class 0x0B (Table 19-5). -/
def pRows0B : List PRow := pRows0Ba

/-- Parameter rows of class 0x0C, part 1. -/
def pRows0Ca : List PRow := [
  /- host.wd_time -/
  { cls := 0x0C, inst0 := 0x000, insts := 1, item0 := 0x01, items := 1, stride := 1, kind := .real, signed := false, lo := 10, hi := 60000, step := 0, orZero := true, vals := [], dflt := 0, takes := .cycle }
  ]

/-- Parameter rows of class 0x0C (Table 19-5). -/
def pRows0C : List PRow := pRows0Ca

/-- Parameter rows of class 0x0D, part 1. -/
def pRows0Da : List PRow := [
  /- st.match_time -/
  { cls := 0x0D, inst0 := 0x000, insts := 1, item0 := 0x01, items := 1, stride := 1, kind := .real, signed := false, lo := 0, hi := 60, step := 0, orZero := false, vals := [], dflt := 5, takes := .cycle },
  /- st.contact_max -/
  { cls := 0x0D, inst0 := 0x000, insts := 1, item0 := 0x02, items := 1, stride := 1, kind := .real, signed := false, lo := 1, hi := 300, step := 0, orZero := false, vals := [], dflt := 30, takes := .cycle },
  /- st.test_en -/
  { cls := 0x0D, inst0 := 0x000, insts := 1, item0 := 0x03, items := 1, stride := 1, kind := .int, signed := false, lo := 0, hi := 1, step := 0, orZero := false, vals := [], dflt := 1, takes := .cycle },
  /- st.pc_v -/
  { cls := 0x0D, inst0 := 0x000, insts := 1, item0 := 0x04, items := 1, stride := 1, kind := .real, signed := false, lo := 0, hi := 1 / 2, step := 0, orZero := false, vals := [], dflt := 1 / 5, takes := .cycle },
  /- st.pc_tol -/
  { cls := 0x0D, inst0 := 0x000, insts := 1, item0 := 0x05, items := 1, stride := 1, kind := .real, signed := false, lo := 1 / 100, hi := 1 / 5, step := 0, orZero := false, vals := [], dflt := 1 / 20, takes := .cycle },
  /- st.pc_dwell -/
  { cls := 0x0D, inst0 := 0x000, insts := 1, item0 := 0x06, items := 1, stride := 1, kind := .real, signed := false, lo := 20, hi := 2000, step := 0, orZero := false, vals := [], dflt := 100, takes := .cycle },
  /- st.host_lost_action -/
  { cls := 0x0D, inst0 := 0x000, insts := 1, item0 := 0x07, items := 1, stride := 1, kind := .int, signed := false, lo := 0, hi := 2, step := 0, orZero := false, vals := [], dflt := 0, takes := .cycle }
  ]

/-- Parameter rows of class 0x0D (Table 19-5). -/
def pRows0D : List PRow := pRows0Da

/-- Parameter rows of class 0x0E, part 1. -/
def pRows0Ea : List PRow := [
  /- clk.ctb_source -/
  { cls := 0x0E, inst0 := 0x000, insts := 1, item0 := 0x01, items := 1, stride := 1, kind := .int, signed := false, lo := 0, hi := 2, step := 0, orZero := false, vals := [], dflt := 0, takes := .cycle },
  /- clk.cycle_align -/
  { cls := 0x0E, inst0 := 0x000, insts := 1, item0 := 0x02, items := 1, stride := 1, kind := .int, signed := false, lo := 0, hi := 1, step := 0, orZero := false, vals := [], dflt := 1, takes := .cycle },
  /- clk.cycle_phase -/
  { cls := 0x0E, inst0 := 0x000, insts := 1, item0 := 0x03, items := 1, stride := 1, kind := .real, signed := false, lo := 0, hi := 79999 / 800, step := 1 / 800, orZero := false, vals := [], dflt := 0, takes := .cycle },
  /- clk.pull_max -/
  { cls := 0x0E, inst0 := 0x000, insts := 1, item0 := 0x04, items := 1, stride := 1, kind := .real, signed := false, lo := 1, hi := 50, step := 0, orZero := false, vals := [], dflt := 20, takes := .cycle },
  /- clk.pull_rate -/
  { cls := 0x0E, inst0 := 0x000, insts := 1, item0 := 0x05, items := 1, stride := 1, kind := .real, signed := false, lo := 1 / 10, hi := 10, step := 0, orZero := false, vals := [], dflt := 10, takes := .cycle },
  /- clk.holdover_max -/
  { cls := 0x0E, inst0 := 0x000, insts := 1, item0 := 0x06, items := 1, stride := 1, kind := .real, signed := false, lo := 1, hi := 3600, step := 0, orZero := false, vals := [], dflt := 10, takes := .cycle },
  /- clk.dither_en -/
  { cls := 0x0E, inst0 := 0x000, insts := 1, item0 := 0x07, items := 1, stride := 1, kind := .int, signed := false, lo := 0, hi := 1, step := 0, orZero := false, vals := [], dflt := 1, takes := .restart },
  /- clk.dither_seed -/
  { cls := 0x0E, inst0 := 0x000, insts := 1, item0 := 0x08, items := 1, stride := 1, kind := .int, signed := false, lo := 0, hi := 8388607, step := 0, orZero := false, vals := [], dflt := 0, takes := .restart },
  /- clk.margin_pct -/
  { cls := 0x0E, inst0 := 0x000, insts := 1, item0 := 0x09, items := 1, stride := 1, kind := .real, signed := true, lo := (-10), hi := 4, step := 1, orZero := false, vals := [], dflt := 0, takes := .state },
  /- clkout[o].enable -/
  { cls := 0x0E, inst0 := 0x001, insts := 2, item0 := 0x01, items := 1, stride := 1, kind := .int, signed := false, lo := 0, hi := 1, step := 0, orZero := false, vals := [], dflt := 0, takes := .cycle },
  /- clkout[o].div -/
  { cls := 0x0E, inst0 := 0x001, insts := 2, item0 := 0x02, items := 1, stride := 1, kind := .int, signed := false, lo := 48, hi := 1048575, step := 0, orZero := false, vals := [], dflt := 480, takes := .cycle },
  /- clkout[o].delay -/
  { cls := 0x0E, inst0 := 0x001, insts := 2, item0 := 0x03, items := 1, stride := 1, kind := .int, signed := false, lo := 0, hi := 1048574, step := 0, orZero := false, vals := [], dflt := 0, takes := .cycle }
  ]

/-- Parameter rows of class 0x0E (Table 19-5). -/
def pRows0E : List PRow := pRows0Ea

/-- Parameter rows of class 0x0F, part 1. -/
def pRows0Fa : List PRow := [
  /- net.mode -/
  { cls := 0x0F, inst0 := 0x000, insts := 1, item0 := 0x01, items := 1, stride := 1, kind := .int, signed := false, lo := 0, hi := 2, step := 0, orZero := false, vals := [], dflt := 1, takes := .state },
  /- net.mac_lo -/
  { cls := 0x0F, inst0 := 0x000, insts := 1, item0 := 0x02, items := 1, stride := 1, kind := .int, signed := false, lo := 0, hi := 4294967295, step := 0, orZero := false, vals := [], dflt := 0, takes := .state },
  /- net.mac_hi -/
  { cls := 0x0F, inst0 := 0x000, insts := 1, item0 := 0x03, items := 1, stride := 1, kind := .int, signed := false, lo := 0, hi := 65535, step := 0, orZero := false, vals := [], dflt := 0, takes := .state },
  /- net.vlan_en -/
  { cls := 0x0F, inst0 := 0x000, insts := 1, item0 := 0x04, items := 1, stride := 1, kind := .int, signed := false, lo := 0, hi := 1, step := 0, orZero := false, vals := [], dflt := 0, takes := .state },
  /- net.vlan_id -/
  { cls := 0x0F, inst0 := 0x000, insts := 1, item0 := 0x05, items := 1, stride := 1, kind := .int, signed := false, lo := 0, hi := 4094, step := 0, orZero := false, vals := [], dflt := 0, takes := .state },
  /- net.pcp_ptp -/
  { cls := 0x0F, inst0 := 0x000, insts := 1, item0 := 0x06, items := 1, stride := 1, kind := .int, signed := false, lo := 0, hi := 7, step := 0, orZero := false, vals := [], dflt := 4, takes := .cycle },
  /- net.pcp_sc -/
  { cls := 0x0F, inst0 := 0x000, insts := 1, item0 := 0x07, items := 1, stride := 1, kind := .int, signed := false, lo := 0, hi := 7, step := 0, orZero := false, vals := [], dflt := 7, takes := .cycle },
  /- net.sc_ethertype -/
  { cls := 0x0F, inst0 := 0x000, insts := 1, item0 := 0x08, items := 1, stride := 1, kind := .int, signed := false, lo := 1536, hi := 65535, step := 0, orZero := false, vals := [], dflt := 34997, takes := .state },
  /- net.ctb_failover -/
  { cls := 0x0F, inst0 := 0x000, insts := 1, item0 := 0x09, items := 1, stride := 1, kind := .int, signed := false, lo := 0, hi := 1, step := 0, orZero := false, vals := [], dflt := 1, takes := .cycle },
  /- net.dom_diff_max -/
  { cls := 0x0F, inst0 := 0x000, insts := 1, item0 := 0x0A, items := 1, stride := 1, kind := .real, signed := false, lo := 10, hi := 1000000, step := 0, orZero := false, vals := [], dflt := 1000, takes := .cycle },
  /- port[n].mode -/
  { cls := 0x0F, inst0 := 0x001, insts := 2, item0 := 0x01, items := 1, stride := 1, kind := .int, signed := false, lo := 0, hi := 1, step := 0, orZero := false, vals := [], dflt := 0, takes := .state },
  /- port[n].delay_asym -/
  { cls := 0x0F, inst0 := 0x001, insts := 2, item0 := 0x02, items := 1, stride := 1, kind := .real, signed := true, lo := (-1000), hi := 1000, step := 0, orZero := false, vals := [], dflt := 0, takes := .cycle },
  /- sc[x].enable -/
  { cls := 0x0F, inst0 := 0x010, insts := 2, item0 := 0x01, items := 1, stride := 1, kind := .int, signed := false, lo := 0, hi := 1, step := 0, orZero := false, vals := [], dflt := 0, takes := .state },
  /- sc[x].domain -/
  { cls := 0x0F, inst0 := 0x010, insts := 2, item0 := 0x02, items := 1, stride := 1, kind := .int, signed := false, lo := 0, hi := 127, step := 0, orZero := false, vals := [], dflt := 0, takes := .state },
  /- sc[x].servo -/
  { cls := 0x0F, inst0 := 0x010, insts := 2, item0 := 0x03, items := 1, stride := 1, kind := .int, signed := false, lo := 0, hi := 1, step := 0, orZero := false, vals := [], dflt := 0, takes := .state },
  /- sc[x].servo_bw -/
  { cls := 0x0F, inst0 := 0x010, insts := 2, item0 := 0x04, items := 1, stride := 1, kind := .real, signed := false, lo := 1 / 100, hi := 1, step := 0, orZero := false, vals := [], dflt := 1 / 10, takes := .cycle },
  /- sc[x].sync_thr -/
  { cls := 0x0F, inst0 := 0x010, insts := 2, item0 := 0x05, items := 1, stride := 1, kind := .real, signed := false, lo := 20, hi := 10000, step := 0, orZero := false, vals := [], dflt := 250, takes := .cycle },
  /- sc[x].step_thr -/
  { cls := 0x0F, inst0 := 0x010, insts := 2, item0 := 0x06, items := 1, stride := 1, kind := .real, signed := false, lo := 1, hi := 1000000, step := 0, orZero := false, vals := [], dflt := 100, takes := .cycle },
  /- sc[x].step_en -/
  { cls := 0x0F, inst0 := 0x010, insts := 2, item0 := 0x07, items := 1, stride := 1, kind := .int, signed := false, lo := 0, hi := 1, step := 0, orZero := false, vals := [], dflt := 1, takes := .cycle },
  /- sc[x].slew_max -/
  { cls := 0x0F, inst0 := 0x010, insts := 2, item0 := 0x08, items := 1, stride := 1, kind := .real, signed := false, lo := 60, hi := 1000, step := 0, orZero := false, vals := [], dflt := 100, takes := .cycle }
  ]

/-- Parameter rows of class 0x0F (Table 19-5). -/
def pRows0F : List PRow := pRows0Fa

/-- Parameter rows of class 0x10, part 1. -/
def pRows10a : List PRow := [
  /- rec.groups -/
  { cls := 0x10, inst0 := 0x000, insts := 1, item0 := 0x01, items := 1, stride := 1, kind := .int, signed := false, lo := 0, hi := 511, step := 0, orZero := false, vals := [], dflt := 71, takes := .cycle },
  /- rec.pre_frames -/
  { cls := 0x10, inst0 := 0x000, insts := 1, item0 := 0x02, items := 1, stride := 1, kind := .int, signed := false, lo := 0, hi := 16777215, step := 0, orZero := false, vals := [], dflt := 2500, takes := .cycle },
  /- rec.post_frames -/
  { cls := 0x10, inst0 := 0x000, insts := 1, item0 := 0x03, items := 1, stride := 1, kind := .int, signed := false, lo := 1, hi := 16777215, step := 0, orZero := false, vals := [], dflt := 25000, takes := .cycle },
  /- rec.retrig -/
  { cls := 0x10, inst0 := 0x000, insts := 1, item0 := 0x04, items := 1, stride := 1, kind := .int, signed := false, lo := 0, hi := 1, step := 0, orZero := false, vals := [], dflt := 0, takes := .cycle },
  /- rec.auto_rearm -/
  { cls := 0x10, inst0 := 0x000, insts := 1, item0 := 0x05, items := 1, stride := 1, kind := .int, signed := false, lo := 0, hi := 1, step := 0, orZero := false, vals := [], dflt := 1, takes := .cycle },
  /- rec.arm_at_start -/
  { cls := 0x10, inst0 := 0x000, insts := 1, item0 := 0x06, items := 1, stride := 1, kind := .int, signed := false, lo := 0, hi := 1, step := 0, orZero := false, vals := [], dflt := 1, takes := .restart },
  /- rec.trig[t].type -/
  { cls := 0x10, inst0 := 0x010, insts := 16, item0 := 0x01, items := 1, stride := 1, kind := .int, signed := false, lo := 0, hi := 7, step := 0, orZero := false, vals := [], dflt := 0, takes := .cycle },
  /- rec.trig[t].src -/
  { cls := 0x10, inst0 := 0x010, insts := 16, item0 := 0x02, items := 1, stride := 1, kind := .int, signed := false, lo := 0, hi := 65535, step := 0, orZero := false, vals := [], dflt := 0, takes := .cycle },
  /- rec.trig[t].thr_hi -/
  { cls := 0x10, inst0 := 0x010, insts := 16, item0 := 0x03, items := 1, stride := 1, kind := .int, signed := true, lo := (-2147483648), hi := 2147483647, step := 0, orZero := false, vals := [], dflt := 0, takes := .cycle },
  /- rec.trig[t].thr_lo -/
  { cls := 0x10, inst0 := 0x010, insts := 16, item0 := 0x04, items := 1, stride := 1, kind := .int, signed := true, lo := (-2147483648), hi := 2147483647, step := 0, orZero := false, vals := [], dflt := 0, takes := .cycle },
  /- rec.trig[t].t_lo -/
  { cls := 0x10, inst0 := 0x010, insts := 16, item0 := 0x05, items := 1, stride := 1, kind := .int, signed := false, lo := 1, hi := 4294967295, step := 0, orZero := false, vals := [], dflt := 80, takes := .cycle },
  /- rec.trig[t].t_hi -/
  { cls := 0x10, inst0 := 0x010, insts := 16, item0 := 0x06, items := 1, stride := 1, kind := .int, signed := false, lo := 1, hi := 4294967295, step := 0, orZero := false, vals := [], dflt := 800, takes := .cycle },
  /- rec.trig[t].polarity -/
  { cls := 0x10, inst0 := 0x010, insts := 16, item0 := 0x07, items := 1, stride := 1, kind := .int, signed := false, lo := 0, hi := 2, step := 0, orZero := false, vals := [], dflt := 0, takes := .cycle },
  /- rec.trig[t].qual -/
  { cls := 0x10, inst0 := 0x010, insts := 16, item0 := 0x08, items := 1, stride := 1, kind := .int, signed := false, lo := 0, hi := 0, step := 0, orZero := false, vals := [0, 1, 2, 3, 4, 5, 6, 7, 8, 9, 10, 11, 12, 13, 14, 15, 255], dflt := 255, takes := .cycle },
  /- rec.trig[t].qual_win -/
  { cls := 0x10, inst0 := 0x010, insts := 16, item0 := 0x09, items := 1, stride := 1, kind := .real, signed := false, lo := 0, hi := 10000000, step := 0, orZero := false, vals := [], dflt := 0, takes := .cycle },
  /- rec.trig[t].action -/
  { cls := 0x10, inst0 := 0x010, insts := 16, item0 := 0x0A, items := 1, stride := 1, kind := .int, signed := false, lo := 0, hi := 1, step := 0, orZero := false, vals := [], dflt := 1, takes := .cycle },
  /- rec.mask[m].enable -/
  { cls := 0x10, inst0 := 0x020, insts := 4, item0 := 0x01, items := 1, stride := 1, kind := .int, signed := false, lo := 0, hi := 1, step := 0, orZero := false, vals := [], dflt := 0, takes := .cycle },
  /- rec.mask[m].source -/
  { cls := 0x10, inst0 := 0x020, insts := 4, item0 := 0x02, items := 1, stride := 1, kind := .int, signed := false, lo := 0, hi := 4, step := 0, orZero := false, vals := [], dflt := 0, takes := .cycle },
  /- rec.mask[m].stream -/
  { cls := 0x10, inst0 := 0x020, insts := 4, item0 := 0x03, items := 1, stride := 1, kind := .int, signed := false, lo := 0, hi := 63, step := 0, orZero := false, vals := [], dflt := 0, takes := .cycle },
  /- rec.mask[m].start -/
  { cls := 0x10, inst0 := 0x020, insts := 4, item0 := 0x04, items := 1, stride := 1, kind := .int, signed := false, lo := 0, hi := 2, step := 0, orZero := false, vals := [], dflt := 0, takes := .cycle }
  ]

/-- Parameter rows of class 0x10, part 2. -/
def pRows10b : List PRow := [
  /- rec.mask[m].start_trig -/
  { cls := 0x10, inst0 := 0x020, insts := 4, item0 := 0x05, items := 1, stride := 1, kind := .int, signed := false, lo := 0, hi := 15, step := 0, orZero := false, vals := [], dflt := 0, takes := .cycle },
  /- rec.mask[m].count -/
  { cls := 0x10, inst0 := 0x020, insts := 4, item0 := 0x06, items := 1, stride := 1, kind := .int, signed := false, lo := 1, hi := 1000, step := 0, orZero := false, vals := [], dflt := 3, takes := .cycle },
  /- rec.mask[m].stop -/
  { cls := 0x10, inst0 := 0x020, insts := 4, item0 := 0x07, items := 1, stride := 1, kind := .int, signed := false, lo := 0, hi := 1, step := 0, orZero := false, vals := [], dflt := 0, takes := .cycle },
  /- rec.mask[m].n -/
  { cls := 0x10, inst0 := 0x020, insts := 4, item0 := 0x08, items := 1, stride := 1, kind := .int, signed := false, lo := 2, hi := 16, step := 0, orZero := false, vals := [], dflt := 2, takes := .cycle },
  /- rec.mask[m].time[p] -/
  { cls := 0x10, inst0 := 0x020, insts := 4, item0 := 0x10, items := 16, stride := 3, kind := .real, signed := false, lo := 0, hi := 60000, step := 1 / 10, orZero := false, vals := [], dflt := 0, takes := .cycle },
  /- rec.mask[m].lo[p] -/
  { cls := 0x10, inst0 := 0x020, insts := 4, item0 := 0x11, items := 16, stride := 3, kind := .real, signed := true, lo := (-10), hi := 10, step := 0, orZero := false, vals := [], dflt := (-10), takes := .cycle },
  /- rec.mask[m].hi[p] -/
  { cls := 0x10, inst0 := 0x020, insts := 4, item0 := 0x12, items := 16, stride := 3, kind := .real, signed := true, lo := (-10), hi := 10, step := 0, orZero := false, vals := [], dflt := 10, takes := .cycle },
  /- rec.red[c].src -/
  { cls := 0x10, inst0 := 0x030, insts := 16, item0 := 0x01, items := 1, stride := 1, kind := .int, signed := false, lo := 0, hi := 65535, step := 0, orZero := false, vals := [], dflt := 65535, takes := .cycle },
  /- rec.red[c].window -/
  { cls := 0x10, inst0 := 0x030, insts := 16, item0 := 0x02, items := 1, stride := 1, kind := .int, signed := false, lo := 1, hi := 65536, step := 0, orZero := false, vals := [], dflt := 1000, takes := .cycle }
  ]

/-- Parameter rows of class 0x10 (Table 19-5). -/
def pRows10 : List PRow := pRows10a ++ pRows10b

/-- Parameter rows of class 0x11, part 1. -/
def pRows11a : List PRow := [
  /- integ.holdover_action -/
  { cls := 0x11, inst0 := 0x000, insts := 1, item0 := 0x01, items := 1, stride := 1, kind := .int, signed := false, lo := 0, hi := 1, step := 0, orZero := false, vals := [], dflt := 0, takes := .cycle },
  /- integ.ce_win -/
  { cls := 0x11, inst0 := 0x000, insts := 1, item0 := 0x02, items := 1, stride := 1, kind := .real, signed := false, lo := 10, hi := 60000, step := 0, orZero := false, vals := [], dflt := 1000, takes := .cycle }
  ]

/-- Parameter rows of class 0x11 (Table 19-5). -/
def pRows11 : List PRow := pRows11a

/-- Parameter rows of class 0x12, part 1. -/
def pRows12a : List PRow := [
  /- anem.period -/
  { cls := 0x12, inst0 := 0x000, insts := 1, item0 := 0x01, items := 1, stride := 1, kind := .int, signed := false, lo := 1, hi := 6000, step := 0, orZero := true, vals := [], dflt := 100, takes := .cycle },
  /- anem.blocks -/
  { cls := 0x12, inst0 := 0x000, insts := 1, item0 := 0x02, items := 1, stride := 1, kind := .int, signed := false, lo := 0, hi := 127, step := 0, orZero := false, vals := [], dflt := 127, takes := .cycle },
  /- hk.drift_period -/
  { cls := 0x12, inst0 := 0x000, insts := 1, item0 := 0x03, items := 1, stride := 1, kind := .int, signed := false, lo := 16, hi := 65535, step := 0, orZero := true, vals := [], dflt := 5000, takes := .cycle },
  /- hk.t_warn -/
  { cls := 0x12, inst0 := 0x000, insts := 1, item0 := 0x04, items := 1, stride := 1, kind := .real, signed := false, lo := 60, hi := 110, step := 0, orZero := false, vals := [], dflt := 100, takes := .cycle },
  /- hk.t_stop -/
  { cls := 0x12, inst0 := 0x000, insts := 1, item0 := 0x05, items := 1, stride := 1, kind := .real, signed := false, lo := 60, hi := 110, step := 0, orZero := false, vals := [], dflt := 107, takes := .cycle },
  /- hk.t_hyst -/
  { cls := 0x12, inst0 := 0x000, insts := 1, item0 := 0x06, items := 1, stride := 1, kind := .real, signed := false, lo := 1, hi := 10, step := 0, orZero := false, vals := [], dflt := 5, takes := .cycle },
  /- hk.t_rate -/
  { cls := 0x12, inst0 := 0x000, insts := 1, item0 := 0x07, items := 1, stride := 1, kind := .real, signed := false, lo := 1 / 10, hi := 10, step := 0, orZero := false, vals := [], dflt := 2, takes := .cycle },
  /- hk.t_rate_win -/
  { cls := 0x12, inst0 := 0x000, insts := 1, item0 := 0x08, items := 1, stride := 1, kind := .real, signed := false, lo := 1, hi := 600, step := 0, orZero := false, vals := [], dflt := 10, takes := .cycle },
  /- hk.t_jump -/
  { cls := 0x12, inst0 := 0x000, insts := 1, item0 := 0x09, items := 1, stride := 1, kind := .real, signed := false, lo := 5, hi := 50, step := 0, orZero := false, vals := [], dflt := 20, takes := .cycle },
  /- hk.t_pair -/
  { cls := 0x12, inst0 := 0x000, insts := 1, item0 := 0x0A, items := 1, stride := 1, kind := .real, signed := false, lo := 5, hi := 50, step := 0, orZero := false, vals := [], dflt := 15, takes := .cycle },
  /- hk.v_tol -/
  { cls := 0x12, inst0 := 0x000, insts := 1, item0 := 0x0B, items := 1, stride := 1, kind := .real, signed := false, lo := 1, hi := 10, step := 0, orZero := false, vals := [], dflt := 4, takes := .cycle }
  ]

/-- Parameter rows of class 0x12 (Table 19-5). -/
def pRows12 : List PRow := pRows12a

/-- Parameter rows of class 0x13, part 1. -/
def pRows13a : List PRow := [
  /- asset.cell[c].word[w] -/
  { cls := 0x13, inst0 := 0x000, insts := 384, item0 := 0x01, items := 8, stride := 1, kind := .int, signed := false, lo := 0, hi := 4294967295, step := 0, orZero := false, vals := [], dflt := 0, takes := .cycle },
  /- asset.site[w] -/
  { cls := 0x13, inst0 := 0x180, insts := 4, item0 := 0x01, items := 122, stride := 1, kind := .int, signed := false, lo := 0, hi := 4294967295, step := 0, orZero := false, vals := [], dflt := 0, takes := .cycle },
  /- asset.site[w] -/
  { cls := 0x13, inst0 := 0x184, insts := 1, item0 := 0x01, items := 121, stride := 1, kind := .int, signed := false, lo := 0, hi := 4294967295, step := 0, orZero := false, vals := [], dflt := 0, takes := .cycle }
  ]

/-- Parameter rows of class 0x13 (Table 19-5). -/
def pRows13 : List PRow := pRows13a

/-- Every parameter row (R503). -/
def pRows : List PRow :=
  pRows01 ++ pRows02 ++ pRows03 ++ pRows04 ++ pRows05 ++ pRows06 ++ pRows07 ++ pRows08 ++ pRows09 ++ pRows0A ++ pRows0B ++ pRows0C ++ pRows0D ++ pRows0E ++ pRows0F ++ pRows10 ++ pRows11 ++ pRows12 ++ pRows13

namespace Par

/-- conv.topology, in enum (chapter 01). -/
def convTopology (ps : PSet) : Nat := ps.nat (0x01000001) 0

/-- conv.tc, in 100 ns (chapter 01). -/
def convTc (ps : PSet) : Rat := ps.val (0x01000002) 200

/-- ring[r].arm, in enum (chapter 01). -/
def ringArm (ps : PSet) (r : Nat) : Nat := ps.nat (0x02000001 + r * 0x1000) ((r % 6) / 2)

/-- ring[r].cells_expected, in cells (chapter 01). -/
def ringCellsExpected (ps : PSet) (r : Nat) : Nat := ps.nat (0x02000002 + r * 0x1000) 32

/-- meas.stream[s].rank_win, in samples (chapter 02). -/
def measStreamRankWin (ps : PSet) (s : Nat) : Nat := ps.nat (0x03000001 + s * 0x1000) 1

/-- meas.stream[s].rank, in rank (chapter 02). -/
def measStreamRank (ps : PSet) (s : Nat) : Nat := ps.nat (0x03000002 + s * 0x1000) 0

/-- meas.stream[s].resp, in code (chapter 02). -/
def measStreamResp (ps : PSet) (s : Nat) : Nat := ps.nat (0x03000003 + s * 0x1000) 0

/-- meas.stream[s].offset, in code, Q16.8 (chapter 02). -/
def measStreamOffset (ps : PSet) (s : Nat) : Rat := ps.val (0x03000004 + s * 0x1000) 0

/-- meas.stream[s].gain, in primary unit per code, Q12.20 (chapter 02). -/
def measStreamGain (ps : PSet) (s : Nat) : Rat := ps.val (0x03000005 + s * 0x1000) 1

/-- meas.stream[s].thr_hi, in Q24.8 (chapter 02). -/
def measStreamThrHi (ps : PSet) (s : Nat) : Rat := ps.val (0x03000006 + s * 0x1000) 0

/-- meas.stream[s].thr_lo, in Q24.8 (chapter 02). -/
def measStreamThrLo (ps : PSet) (s : Nat) : Rat := ps.val (0x03000007 + s * 0x1000) 0

/-- meas.stream[s].thr_hyst, in Q24.8 (chapter 02). -/
def measStreamThrHyst (ps : PSet) (s : Nat) : Rat := ps.val (0x03000008 + s * 0x1000) 0

/-- meas.stream[s].thr_count, in outputs (chapter 02). -/
def measStreamThrCount (ps : PSet) (s : Nat) : Nat := ps.nat (0x03000009 + s * 0x1000) 1

/-- meas.stream[s].thr_enable, in bit mask (chapter 02). -/
def measStreamThrEnable (ps : PSet) (s : Nat) : Nat := ps.nat (0x0300000A + s * 0x1000) 0

/-- meas.adc[n].aux_len, in entries (chapter 02). -/
def measAdcAuxLen (ps : PSet) (n : Nat) : Nat := ps.nat (0x03040002 + n * 0x1000) 0

/-- meas.adc[n].aux_start, in enum (chapter 02). -/
def measAdcAuxStart (ps : PSet) (n : Nat) : Nat := ps.nat (0x03040003 + n * 0x1000) 0

/-- meas.adc[n].aux_offset, in µs (chapter 02). -/
def measAdcAuxOffset (ps : PSet) (n : Nat) : Rat := ps.val (0x03040004 + n * 0x1000) 1

/-- meas.adc[n].aux_every, in cycles (chapter 02). -/
def measAdcAuxEvery (ps : PSet) (n : Nat) : Nat := ps.nat (0x03040005 + n * 0x1000) 1

/-- meas.adc[n].gust_len, in entries (chapter 02). -/
def measAdcGustLen (ps : PSet) (n : Nat) : Nat := ps.nat (0x03040006 + n * 0x1000) 0

/-- meas.adc[n].gust_src, in bit mask (chapter 02). -/
def measAdcGustSrc (ps : PSet) (n : Nat) : Nat := ps.nat (0x03040007 + n * 0x1000) 0

/-- meas.adc[n].cyc_entry[e], in Table 2-2 (chapter 02). -/
def measAdcCycEntry (ps : PSet) (n e : Nat) : Nat := ps.nat (0x03040010 + n * 0x1000 + e) (0x80000000 + (4 * n + e) * 0x10000 + e)

/-- meas.adc[n].aux_entry[e], in Table 2-2 (chapter 02). -/
def measAdcAuxEntry (ps : PSet) (n e : Nat) : Nat := ps.nat (0x03040020 + n * 0x1000 + e) 0

/-- meas.adc[n].gust_entry[e], in Table 2-2 (chapter 02). -/
def measAdcGustEntry (ps : PSet) (n e : Nat) : Nat := ps.nat (0x03040030 + n * 0x1000 + e) 0

/-- meas.group[g].ref_sel, in enum (chapter 02). -/
def measGroupRefSel (ps : PSet) (g : Nat) : Nat := ps.nat (0x03050001 + g * 0x1000) 0

/-- meas.group[g].ref_window, in % of nominal (chapter 02). -/
def measGroupRefWindow (ps : PSet) (g : Nat) : Rat := ps.val (0x03050002 + g * 0x1000) 1

/-- meas.cmp[j].fast_lo, in code (chapter 02). -/
def measCmpFastLo (ps : PSet) (j : Nat) : Nat := ps.nat (0x03060001 + j * 0x1000) 0

/-- meas.cmp[j].fast_hi, in code (chapter 02). -/
def measCmpFastHi (ps : PSet) (j : Nat) : Nat := ps.nat (0x03060002 + j * 0x1000) 65520

/-- meas.cmp[j].hard_lo, in code (chapter 02). -/
def measCmpHardLo (ps : PSet) (j : Nat) : Nat := ps.nat (0x03060003 + j * 0x1000) 0

/-- meas.cmp[j].hard_hi, in code (chapter 02). -/
def measCmpHardHi (ps : PSet) (j : Nat) : Nat := ps.nat (0x03060004 + j * 0x1000) 65520

/-- meas.cmp[j].hyst, in steps of 16 codes (chapter 02). -/
def measCmpHyst (ps : PSet) (j : Nat) : Nat := ps.nat (0x03060005 + j * 0x1000) 1

/-- meas.atrig[t].edge, in enum (chapter 02). -/
def measAtrigEdge (ps : PSet) (t : Nat) : Nat := ps.nat (0x03070001 + t) 0

/-- meas.atrig[t].min_width, in ns (chapter 02). -/
def measAtrigMinWidth (ps : PSet) (t : Nat) : Rat := ps.val (0x03070005 + t) 20

/-- meas.setp.pulse_gate, in ms (chapter 02). -/
def measSetpPulseGate (ps : PSet) : Rat := ps.val (0x03070010) 2

/-- meas.setp.pulse_min, in ns (chapter 02). -/
def measSetpPulseMin (ps : PSet) : Rat := ps.val (0x03070011) 1000

/-- meas.setp.ain_stream, in stream (chapter 02). -/
def measSetpAinStream (ps : PSet) : Nat := ps.nat (0x03070012) 48

/-- meas.setp.ain_lo, in code (chapter 02). -/
def measSetpAinLo (ps : PSet) : Nat := ps.nat (0x03070013) 9600

/-- meas.setp.ain_hi, in code (chapter 02). -/
def measSetpAinHi (ps : PSet) : Nat := ps.nat (0x03070014) 64800

/-- meas.setp.ain_fail_count, in outputs (chapter 02). -/
def measSetpAinFailCount (ps : PSet) : Nat := ps.nat (0x03070015) 3

/-- gf.base_s, in MVA (chapter 03). -/
def gfBaseS (ps : PSet) : Rat := ps.val (0x04000001) 25

/-- gf.base_v, in kV (chapter 03). -/
def gfBaseV (ps : PSet) : Rat := ps.val (0x04000002) 33

/-- gf.f_nom, in Hz (chapter 03). -/
def gfFNom (ps : PSet) : Rat := ps.val (0x04000003) 50

/-- gf.inertia_h, in s (chapter 03). -/
def gfInertiaH (ps : PSet) : Rat := ps.val (0x04000004) 4

/-- gf.damping, in pu (chapter 03). -/
def gfDamping (ps : PSet) : Rat := ps.val (0x04000005) 40

/-- gf.damp_tau, in s (chapter 03). -/
def gfDampTau (ps : PSet) : Rat := ps.val (0x04000006) (1 / 2)

/-- gf.droop_p, in % (chapter 03). -/
def gfDroopP (ps : PSet) : Rat := ps.val (0x04000007) 4

/-- gf.droop_q, in % (chapter 03). -/
def gfDroopQ (ps : PSet) : Rat := ps.val (0x04000008) 3

/-- gf.f_set, in pu (chapter 03). -/
def gfFSet (ps : PSet) : Rat := ps.val (0x04000009) 1

/-- gf.v_set, in pu (chapter 03). -/
def gfVSet (ps : PSet) : Rat := ps.val (0x0400000A) 1

/-- gf.p_tau, in ms (chapter 03). -/
def gfPTau (ps : PSet) : Rat := ps.val (0x0400000B) 2

/-- gf.q_tau, in ms (chapter 03). -/
def gfQTau (ps : PSet) : Rat := ps.val (0x0400000C) 20

/-- gf.qv_ki, in pu/s (chapter 03). -/
def gfQvKi (ps : PSet) : Rat := ps.val (0x0400000D) 0

/-- gf.qv_int_max, in pu (chapter 03). -/
def gfQvIntMax (ps : PSet) : Rat := ps.val (0x0400000E) (1 / 10)

/-- gf.f_min, in pu (chapter 03). -/
def gfFMin (ps : PSet) : Rat := ps.val (0x0400000F) (47 / 50)

/-- gf.f_max, in pu (chapter 03). -/
def gfFMax (ps : PSet) : Rat := ps.val (0x04000010) (53 / 50)

/-- gf.e_min, in pu (chapter 03). -/
def gfEMin (ps : PSet) : Rat := ps.val (0x04000011) (4 / 5)

/-- gf.e_max, in pu (chapter 03). -/
def gfEMax (ps : PSet) : Rat := ps.val (0x04000012) (6 / 5)

/-- gf.rv, in pu (chapter 03). -/
def gfRv (ps : PSet) : Rat := ps.val (0x04000013) (1 / 50)

/-- gf.xv, in pu (chapter 03). -/
def gfXv (ps : PSet) : Rat := ps.val (0x04000014) (1 / 10)

/-- gf.l_arm, in pu (chapter 03). -/
def gfLArm (ps : PSet) : Rat := ps.val (0x04000015) (3 / 25)

/-- gf.r_arm, in pu (chapter 03). -/
def gfRArm (ps : PSet) : Rat := ps.val (0x04000016) (1 / 200)

/-- gf.vloop_kp, in pu (chapter 03). -/
def gfVloopKp (ps : PSet) : Rat := ps.val (0x04000017) (3 / 2)

/-- gf.vloop_ki, in pu/s (chapter 03). -/
def gfVloopKi (ps : PSet) : Rat := ps.val (0x04000018) 30

/-- gf.vloop_iff, in — (chapter 03). -/
def gfVloopIff (ps : PSet) : Rat := ps.val (0x04000019) 1

/-- gf.vloop_int_max, in pu (chapter 03). -/
def gfVloopIntMax (ps : PSet) : Rat := ps.val (0x0400001A) (1 / 2)

/-- gf.iloop_kp, in pu (chapter 03). -/
def gfIloopKp (ps : PSet) : Rat := ps.val (0x0400001B) (3 / 5)

/-- gf.iloop_ki, in pu/s (chapter 03). -/
def gfIloopKi (ps : PSet) : Rat := ps.val (0x0400001C) 60

/-- gf.iloop_int_max, in pu (chapter 03). -/
def gfIloopIntMax (ps : PSet) : Rat := ps.val (0x0400001D) (1 / 5)

/-- gf.negseq_en, in bool (chapter 03). -/
def gfNegseqEn (ps : PSet) : Bool := ps.bool (0x0400001E) 1

/-- gf.harm_count, in terms (chapter 03). -/
def gfHarmCount (ps : PSet) : Nat := ps.nat (0x0400001F) 0

/-- gf.predict, in bool (chapter 03). -/
def gfPredict (ps : PSet) : Bool := ps.bool (0x04000020) 1

/-- gf.p_min, in pu (chapter 03). -/
def gfPMin (ps : PSet) : Rat := ps.val (0x04000021) ((-1))

/-- gf.p_max, in pu (chapter 03). -/
def gfPMax (ps : PSet) : Rat := ps.val (0x04000022) 1

/-- gf.q_min, in pu (chapter 03). -/
def gfQMin (ps : PSet) : Rat := ps.val (0x04000023) ((-3) / 5)

/-- gf.q_max, in pu (chapter 03). -/
def gfQMax (ps : PSet) : Rat := ps.val (0x04000024) (3 / 5)

/-- gf.p_set, in pu (chapter 03). -/
def gfPSet (ps : PSet) : Rat := ps.val (0x04000025) 0

/-- gf.q_set, in pu (chapter 03). -/
def gfQSet (ps : PSet) : Rat := ps.val (0x04000026) 0

/-- gf.setp.p_src, in enum (chapter 03). -/
def gfSetpPSrc (ps : PSet) : Nat := ps.nat (0x04001001) 0

/-- gf.setp.q_src, in enum (chapter 03). -/
def gfSetpQSrc (ps : PSet) : Nat := ps.nat (0x04001002) 0

/-- gf.setp.ain_zero, in code (chapter 03). -/
def gfSetpAinZero (ps : PSet) : Nat := ps.nat (0x04001003) 38400

/-- gf.setp.ain_scale, in pu per code (chapter 03). -/
def gfSetpAinScale (ps : PSet) : Rat := ps.val (0x04001004) (1 / 25600)

/-- gf.setp.pulse_f0, in Hz (chapter 03). -/
def gfSetpPulseF0 (ps : PSet) : Rat := ps.val (0x04001005) 50000

/-- gf.setp.pulse_k, in pu per kHz (chapter 03). -/
def gfSetpPulseK (ps : PSet) : Rat := ps.val (0x04001006) (1 / 40)

/-- gf.setp.p_rate, in pu/s (chapter 03). -/
def gfSetpPRate (ps : PSet) : Rat := ps.val (0x04001007) 1

/-- gf.setp.q_rate, in pu/s (chapter 03). -/
def gfSetpQRate (ps : PSet) : Rat := ps.val (0x04001008) 2

/-- gf.setp.fail_action, in enum (chapter 03). -/
def gfSetpFailAction (ps : PSet) : Nat := ps.nat (0x04001009) 1

/-- gf.setp.p_fail, in pu (chapter 03). -/
def gfSetpPFail (ps : PSet) : Rat := ps.val (0x0400100A) 0

/-- gf.setp.q_fail, in pu (chapter 03). -/
def gfSetpQFail (ps : PSet) : Rat := ps.val (0x0400100B) 0

/-- gf.setp.recover, in ms (chapter 03). -/
def gfSetpRecover (ps : PSet) : Rat := ps.val (0x0400100C) 100

/-- gf.plaus.i_abs, in pu (chapter 03). -/
def gfPlausIAbs (ps : PSet) : Rat := ps.val (0x04002001) (1 / 20)

/-- gf.plaus.i_rel, in % (chapter 03). -/
def gfPlausIRel (ps : PSet) : Rat := ps.val (0x04002002) 5

/-- gf.plaus.v_abs, in pu (chapter 03). -/
def gfPlausVAbs (ps : PSet) : Rat := ps.val (0x04002003) (1 / 20)

/-- gf.plaus.count, in cycles (chapter 03). -/
def gfPlausCount (ps : PSet) : Nat := ps.nat (0x04002004) 3

/-- gf.plaus.gain, in — (chapter 03). -/
def gfPlausGain (ps : PSet) : Rat := ps.val (0x04002005) (1 / 10)

/-- gf.plaus.sensorless_max, in cycles (chapter 03). -/
def gfPlausSensorlessMax (ps : PSet) : Nat := ps.nat (0x04002006) 250

/-- gf.plaus.rearm, in cycles (chapter 03). -/
def gfPlausRearm (ps : PSet) : Nat := ps.nat (0x04002007) 1000

/-- gf.stream.i_main[x], in stream (chapter 03). -/
def gfStreamIMain (ps : PSet) (x : Nat) : Nat := ps.nat (0x04003001 + x) (4 * x)

/-- gf.stream.i_sec[x], in stream (chapter 03). -/
def gfStreamISec (ps : PSet) (x : Nat) : Nat := ps.nat (0x04003004 + x) (12 + 4 * x)

/-- gf.stream.v_conv[x], in stream (chapter 03). -/
def gfStreamVConv (ps : PSet) (x : Nat) : Nat := ps.nat (0x04003007 + x) (36 + 4 * x)

/-- gf.stream.v_pcc[x], in stream (chapter 03). -/
def gfStreamVPcc (ps : PSet) (x : Nat) : Nat := ps.nat (0x0400300A + x) (24 + 4 * x)

/-- gf.harm[n].order, in order (chapter 03). -/
def gfHarmOrder (ps : PSet) (n : Nat) : Nat := ps.nat (0x04010001 + n * 0x1000) (5 + 2 * n)

/-- gf.harm[n].ki, in pu/s (chapter 03). -/
def gfHarmKi (ps : PSet) (n : Nat) : Rat := ps.val (0x04010002 + n * 0x1000) 10

/-- gf.harm[n].int_max, in pu (chapter 03). -/
def gfHarmIntMax (ps : PSet) (n : Nat) : Rat := ps.val (0x04010003 + n * 0x1000) (3 / 100)

/-- rt.v_lo_enter, in pu (chapter 04). -/
def rtVLoEnter (ps : PSet) : Rat := ps.val (0x05000001) (17 / 20)

/-- rt.v_hi_enter, in pu (chapter 04). -/
def rtVHiEnter (ps : PSet) : Rat := ps.val (0x05000002) (23 / 20)

/-- rt.v_lo_exit, in pu (chapter 04). -/
def rtVLoExit (ps : PSet) : Rat := ps.val (0x05000003) (9 / 10)

/-- rt.v_hi_exit, in pu (chapter 04). -/
def rtVHiExit (ps : PSet) : Rat := ps.val (0x05000004) (11 / 10)

/-- rt.vneg_enter, in pu (chapter 04). -/
def rtVnegEnter (ps : PSet) : Rat := ps.val (0x05000005) (1 / 20)

/-- rt.vneg_exit, in pu (chapter 04). -/
def rtVnegExit (ps : PSet) : Rat := ps.val (0x05000006) (3 / 100)

/-- rt.exit_time, in ms (chapter 04). -/
def rtExitTime (ps : PSet) : Rat := ps.val (0x05000007) 20

/-- rt.max_time, in s (chapter 04). -/
def rtMaxTime (ps : PSet) : Rat := ps.val (0x05000008) 3

/-- rt.i_max, in pu (chapter 04). -/
def rtIMax (ps : PSet) : Rat := ps.val (0x05000009) (6 / 5)

/-- rt.cvi_i0, in pu (chapter 04). -/
def rtCviI0 (ps : PSet) : Rat := ps.val (0x0500000A) 1

/-- rt.cvi_k, in pu/pu (chapter 04). -/
def rtCviK (ps : PSet) : Rat := ps.val (0x0500000B) (4 / 5)

/-- rt.cvi_xr, in — (chapter 04). -/
def rtCviXr (ps : PSet) : Rat := ps.val (0x0500000C) 5

/-- rt.k_factor, in — (chapter 04). -/
def rtKFactor (ps : PSet) : Rat := ps.val (0x0500000D) 2

/-- rt.k_db, in pu (chapter 04). -/
def rtKDb (ps : PSet) : Rat := ps.val (0x0500000E) (1 / 10)

/-- rt.neg_mode, in enum (chapter 04). -/
def rtNegMode (ps : PSet) : Nat := ps.nat (0x0500000F) 1

/-- rt.k_neg, in — (chapter 04). -/
def rtKNeg (ps : PSet) : Rat := ps.val (0x05000010) 2

/-- rt.jump_det, in ° (chapter 04). -/
def rtJumpDet (ps : PSet) : Rat := ps.val (0x05000011) 5

/-- rt.jump_max, in ° (chapter 04). -/
def rtJumpMax (ps : PSet) : Rat := ps.val (0x05000012) 60

/-- rt.slip_angle, in ° (chapter 04). -/
def rtSlipAngle (ps : PSet) : Rat := ps.val (0x05000013) 120

/-- rt.slip_cycles, in cycles (chapter 04). -/
def rtSlipCycles (ps : PSet) : Nat := ps.nat (0x05000014) 5

/-- rt.p_recover, in pu/s (chapter 04). -/
def rtPRecover (ps : PSet) : Rat := ps.val (0x05000015) 2

/-- tr.rocof_max, in Hz/s (chapter 04). -/
def trRocofMax (ps : PSet) : Rat := ps.val (0x05001001) 2

/-- tr.v_rate, in pu/s (chapter 04). -/
def trVRate (ps : PSet) : Rat := ps.val (0x05001002) 1

/-- tr.v_accel, in pu/s² (chapter 04). -/
def trVAccel (ps : PSet) : Rat := ps.val (0x05001003) 50

/-- bs.enable, in bool (chapter 04). -/
def bsEnable (ps : PSet) : Bool := ps.bool (0x05002001) 0

/-- bs.dead_v, in pu (chapter 04). -/
def bsDeadV (ps : PSet) : Rat := ps.val (0x05002002) (1 / 10)

/-- bs.live_v, in pu (chapter 04). -/
def bsLiveV (ps : PSet) : Rat := ps.val (0x05002003) (4 / 5)

/-- bs.dead_time, in ms (chapter 04). -/
def bsDeadTime (ps : PSet) : Rat := ps.val (0x05002004) 1000

/-- bs.live_time, in ms (chapter 04). -/
def bsLiveTime (ps : PSet) : Rat := ps.val (0x05002005) 20

/-- bs.confirm_max, in s (chapter 04). -/
def bsConfirmMax (ps : PSet) : Rat := ps.val (0x05002006) 10

/-- bs.holdoff_min, in ms (chapter 04). -/
def bsHoldoffMin (ps : PSet) : Rat := ps.val (0x05002007) 100

/-- bs.holdoff_slot, in ms (chapter 04). -/
def bsHoldoffSlot (ps : PSet) : Rat := ps.val (0x05002008) 400

/-- bs.holdoff_slots, in slots (chapter 04). -/
def bsHoldoffSlots (ps : PSet) : Nat := ps.nat (0x05002009) 16

/-- bs.v_rate, in pu/s (chapter 04). -/
def bsVRate (ps : PSet) : Rat := ps.val (0x0500200A) (1 / 2)

/-- bs.v_done, in pu (chapter 04). -/
def bsVDone (ps : PSet) : Rat := ps.val (0x0500200B) (9 / 10)

/-- bs.energise_max, in s (chapter 04). -/
def bsEnergiseMax (ps : PSet) : Rat := ps.val (0x0500200C) 10

/-- land.ramp_time, in ms (chapter 04). -/
def landRampTime (ps : PSet) : Rat := ps.val (0x05003001) 2000

/-- land.trim_time, in ms (chapter 04). -/
def landTrimTime (ps : PSet) : Rat := ps.val (0x05003002) 250

/-- land.dv_max, in pu (chapter 04). -/
def landDvMax (ps : PSet) : Rat := ps.val (0x05003003) (3 / 100)

/-- land.dtheta_max, in ° (chapter 04). -/
def landDthetaMax (ps : PSet) : Rat := ps.val (0x05003004) 3

/-- land.df_max, in Hz (chapter 04). -/
def landDfMax (ps : PSet) : Rat := ps.val (0x05003005) (1 / 50)

/-- land.dwell, in ms (chapter 04). -/
def landDwell (ps : PSet) : Rat := ps.val (0x05003006) 100

/-- land.time_max, in s (chapter 04). -/
def landTimeMax (ps : PSet) : Rat := ps.val (0x05003007) 30

/-- land.rocof_max, in Hz/s (chapter 04). -/
def landRocofMax (ps : PSet) : Rat := ps.val (0x05003008) (1 / 2)

/-- land.abort_hold, in ms (chapter 04). -/
def landAbortHold (ps : PSet) : Rat := ps.val (0x05003009) 1000

/-- brk[b].debounce, in ms (chapter 04). -/
def brkDebounce (ps : PSet) (b : Nat) : Rat := ps.val (0x05004001 + b * 0x1000) 2

/-- brk[b].disc_time, in ms (chapter 04). -/
def brkDiscTime (ps : PSet) (b : Nat) : Rat := ps.val (0x05004002 + b * 0x1000) 20

/-- brk[b].chatter_n, in transitions (chapter 04). -/
def brkChatterN (ps : PSet) (b : Nat) : Nat := ps.nat (0x05004003 + b * 0x1000) 8

/-- brk[b].chatter_win, in ms (chapter 04). -/
def brkChatterWin (ps : PSet) (b : Nat) : Rat := ps.val (0x05004004 + b * 0x1000) 1000

/-- brk[b].close_pulse, in ms (chapter 04). -/
def brkClosePulse (ps : PSet) (b : Nat) : Rat := ps.val (0x05004005 + b * 0x1000) 200

/-- brk[b].close_max, in ms (chapter 04). -/
def brkCloseMax (ps : PSet) (b : Nat) : Rat := ps.val (0x05004006 + b * 0x1000) 150

/-- brk[b].role, in enum (chapter 04). -/
def brkRole (ps : PSet) (b : Nat) : Nat := ps.nat (0x05004007 + b * 0x1000) (if b = 0 then 1 else 0)

/-- ring[r].dead_time, in µs (chapter 05). -/
def ringDeadTime (ps : PSet) (r : Nat) : Rat := ps.val (0x02000003 + r * 0x1000) (3 / 2)

/-- ring[r].min_pulse, in µs (chapter 05). -/
def ringMinPulse (ps : PSet) (r : Nat) : Rat := ps.val (0x02000004 + r * 0x1000) 3

/-- ring[r].short_policy, in enum (chapter 05). -/
def ringShortPolicy (ps : PSet) (r : Nat) : Nat := ps.nat (0x02000005 + r * 0x1000) 0

/-- mod.kw_soc, in — (chapter 05). -/
def modKwSoc (ps : PSet) : Rat := ps.val (0x06000001) 4

/-- mod.kw_soh, in — (chapter 05). -/
def modKwSoh (ps : PSet) : Rat := ps.val (0x06000002) 1

/-- mod.kw_rs, in — (chapter 05). -/
def modKwRs (ps : PSet) : Rat := ps.val (0x06000003) (1 / 2)

/-- mod.sort_hyst, in — (chapter 05). -/
def modSortHyst (ps : PSet) : Rat := ps.val (0x06000004) (1 / 50)

/-- mod.i_dir_db, in pu (chapter 05). -/
def modIDirDb (ps : PSet) : Rat := ps.val (0x06000005) (1 / 20)

/-- mod.budget_n, in edges (chapter 05). -/
def modBudgetN (ps : PSet) : Nat := ps.nat (0x06000006) 100

/-- mod.budget_win, in ms (chapter 05). -/
def modBudgetWin (ps : PSet) : Rat := ps.val (0x06000007) 20

/-- mod.residue_max, in V·µs (chapter 05). -/
def modResidueMax (ps : PSet) : Rat := ps.val (0x06000008) 30000

/-- mod.dtc_i0, in pu (chapter 05). -/
def modDtcI0 (ps : PSet) : Rat := ps.val (0x06000009) (1 / 50)

/-- mod.bs_window, in ms (chapter 05). -/
def modBsWindow (ps : PSet) : Rat := ps.val (0x0600000A) 2

/-- mod.bs_refresh, in µs (chapter 05). -/
def modBsRefresh (ps : PSet) : Rat := ps.val (0x0600000B) 5

/-- mod.bs_rest, in cycles (chapter 05). -/
def modBsRest (ps : PSet) : Nat := ps.nat (0x0600000C) 50

/-- mod.rest_min, in cycles (chapter 05). -/
def modRestMin (ps : PSet) : Nat := ps.nat (0x0600000D) 500

/-- mod.bp_close_max, in ms (chapter 05). -/
def modBpCloseMax (ps : PSet) : Rat := ps.val (0x0600000E) 10

/-- mod.v_margin, in V (chapter 05). -/
def modVMargin (ps : PSet) : Rat := ps.val (0x0600000F) 800

/-- mod.v_arm_full, in kV (chapter 05). -/
def modVArmFull (ps : PSet) : Rat := ps.val (0x06000010) 30

/-- mod.v_arm_min, in kV (chapter 05). -/
def modVArmMin (ps : PSet) : Rat := ps.val (0x06000011) 27

/-- mod.car_period, in µs (chapter 05). -/
def modCarPeriod (ps : PSet) : Rat := ps.val (0x06000012) 500

/-- mod.recover_cycles, in cycles (chapter 05). -/
def modRecoverCycles (ps : PSet) : Nat := ps.nat (0x06000013) 10

/-- bal.kp, in pu/pu (chapter 05). -/
def balKp (ps : PSet) : Rat := ps.val (0x06001001) (1 / 2)

/-- bal.ki, in pu/(pu·s) (chapter 05). -/
def balKi (ps : PSet) : Rat := ps.val (0x06001002) (1 / 10)

/-- bal.db, in pu (chapter 05). -/
def balDb (ps : PSet) : Rat := ps.val (0x06001003) (1 / 100)

/-- bal.v0_max, in pu (chapter 05). -/
def balV0Max (ps : PSet) : Rat := ps.val (0x06001004) (3 / 20)

/-- bal.i_min, in pu (chapter 05). -/
def balIMin (ps : PSet) : Rat := ps.val (0x06001005) (1 / 20)

/-- bal.i0_max, in pu (chapter 05). -/
def balI0Max (ps : PSet) : Rat := ps.val (0x06001006) (1 / 10)

/-- bal.ic_kp, in pu (chapter 05). -/
def balIcKp (ps : PSet) : Rat := ps.val (0x06001007) (3 / 10)

/-- bal.ic_ki, in pu/s (chapter 05). -/
def balIcKi (ps : PSet) : Rat := ps.val (0x06001008) 20

/-- bal.vc_max, in pu (chapter 05). -/
def balVcMax (ps : PSet) : Rat := ps.val (0x06001009) (1 / 10)

/-- obs.q_soc, in pu² (chapter 06). -/
def obsQSoc (ps : PSet) : Rat := ps.val (0x07000001) (1 / 10^10)

/-- obs.q_va, in V² (chapter 06). -/
def obsQVa (ps : PSet) : Rat := ps.val (0x07000002) (1 / 100)

/-- obs.q_rs, in Ω² (chapter 06). -/
def obsQRs (ps : PSet) : Rat := ps.val (0x07000003) (1 / 10^12)

/-- obs.q_cap, in (1/Ah)² (chapter 06). -/
def obsQCap (ps : PSet) : Rat := ps.val (0x07000004) (1 / 10^14)

/-- obs.r_v, in V² (chapter 06). -/
def obsRV (ps : PSet) : Rat := ps.val (0x07000005) 4

/-- obs.nis_max, in — (chapter 06). -/
def obsNisMax (ps : PSet) : Rat := ps.val (0x07000006) 16

/-- obs.nis_count, in updates (chapter 06). -/
def obsNisCount (ps : PSet) : Nat := ps.nat (0x07000007) 200

/-- obs.reinit_win, in s (chapter 06). -/
def obsReinitWin (ps : PSet) : Rat := ps.val (0x07000008) 3600

/-- obs.xv_abs, in V (chapter 06). -/
def obsXvAbs (ps : PSet) : Rat := ps.val (0x07000009) 5

/-- obs.xv_rel, in % (chapter 06). -/
def obsXvRel (ps : PSet) : Rat := ps.val (0x0700000A) 1

/-- obs.xi_abs, in A (chapter 06). -/
def obsXiAbs (ps : PSet) : Rat := ps.val (0x0700000B) 5

/-- obs.xi_rel, in % (chapter 06). -/
def obsXiRel (ps : PSet) : Rat := ps.val (0x0700000C) 3

/-- obs.xsoc_tol, in pu (chapter 06). -/
def obsXsocTol (ps : PSet) : Rat := ps.val (0x0700000D) (2 / 25)

/-- obs.xsoh_tol, in pu (chapter 06). -/
def obsXsohTol (ps : PSet) : Rat := ps.val (0x0700000E) (1 / 10)

/-- obs.x_count, in comparisons (chapter 06). -/
def obsXCount (ps : PSet) : Nat := ps.nat (0x0700000F) 5

/-- prof[p].chem, in table (chapter 06). -/
def profChem (ps : PSet) (p : Nat) : Nat := ps.nat (0x07010001 + p * 0x1000) (p)

/-- prof[p].n_series, in cells (chapter 06). -/
def profNSeries (ps : PSet) (p : Nat) : Nat := ps.nat (0x07010002 + p * 0x1000) 192

/-- prof[p].q_nom, in Ah (chapter 06). -/
def profQNom (ps : PSet) (p : Nat) : Rat := ps.val (0x07010003 + p * 0x1000) 280

/-- prof[p].rs_ref, in mΩ (chapter 06). -/
def profRsRef (ps : PSet) (p : Nat) : Rat := ps.val (0x07010004 + p * 0x1000) 80

/-- prof[p].ra, in mΩ (chapter 06). -/
def profRa (ps : PSet) (p : Nat) : Rat := ps.val (0x07010005 + p * 0x1000) 20

/-- prof[p].ca, in F (chapter 06). -/
def profCa (ps : PSet) (p : Nat) : Rat := ps.val (0x07010006 + p * 0x1000) 500

/-- prof[p].rb, in mΩ (chapter 06). -/
def profRb (ps : PSet) (p : Nat) : Rat := ps.val (0x07010007 + p * 0x1000) 30

/-- prof[p].cb, in F (chapter 06). -/
def profCb (ps : PSet) (p : Nat) : Rat := ps.val (0x07010008 + p * 0x1000) 6000

/-- prof[p].v_min, in V (chapter 06). -/
def profVMin (ps : PSet) (p : Nat) : Rat := ps.val (0x07010009 + p * 0x1000) 520

/-- prof[p].v_max, in V (chapter 06). -/
def profVMax (ps : PSet) (p : Nat) : Rat := ps.val (0x0701000A + p * 0x1000) 820

/-- prof[p].t_chg_lo, in °C (chapter 06). -/
def profTChgLo (ps : PSet) (p : Nat) : Rat := ps.val (0x0701000B + p * 0x1000) 0

/-- prof[p].t_chg_hi, in °C (chapter 06). -/
def profTChgHi (ps : PSet) (p : Nat) : Rat := ps.val (0x0701000C + p * 0x1000) 45

/-- prof[p].t_dis_lo, in °C (chapter 06). -/
def profTDisLo (ps : PSet) (p : Nat) : Rat := ps.val (0x0701000D + p * 0x1000) ((-20))

/-- prof[p].t_dis_hi, in °C (chapter 06). -/
def profTDisHi (ps : PSet) (p : Nat) : Rat := ps.val (0x0701000E + p * 0x1000) 55

/-- prof[p].t_hyst, in °C (chapter 06). -/
def profTHyst (ps : PSet) (p : Nat) : Rat := ps.val (0x0701000F + p * 0x1000) 2

/-- prof[p].soh_floor, in pu (chapter 06). -/
def profSohFloor (ps : PSet) (p : Nat) : Rat := ps.val (0x07010010 + p * 0x1000) (3 / 5)

/-- prof[p].can_rate, in enum (chapter 06). -/
def profCanRate (ps : PSet) (p : Nat) : Nat := ps.nat (0x07010011 + p * 0x1000) 2

/-- prof[p].match_id, in Table 6-2 word 0 (chapter 06). -/
def profMatchId (ps : PSet) (p : Nat) : Nat := ps.nat (0x07010012 + p * 0x1000) 0

/-- prof[p].match[w], in value lo, value hi, mask lo, mask hi (chapter 06). -/
def profMatch (ps : PSet) (p w : Nat) : Nat := ps.nat (0x07010013 + p * 0x1000 + w) 0

/-- prof[p].tx[q].id, in Table 6-2 word 0 (chapter 06). -/
def profTxId (ps : PSet) (p q : Nat) : Nat := ps.nat (0x07010020 + p * 0x1000 + 8 * q) 0

/-- prof[p].tx[q].ctl, in [3:0] data length 0 to 8; [23:8] period, ms, 0 or 10 to 10,000 (chapter 06). -/
def profTxCtl (ps : PSet) (p q : Nat) : Nat := ps.nat (0x07010021 + p * 0x1000 + 8 * q) 0

/-- prof[p].tx[q].data_lo, in bytes 0 to 3 (chapter 06). -/
def profTxDataLo (ps : PSet) (p q : Nat) : Nat := ps.nat (0x07010022 + p * 0x1000 + 8 * q) 0

/-- prof[p].tx[q].data_hi, in bytes 4 to 7 (chapter 06). -/
def profTxDataHi (ps : PSet) (p q : Nat) : Nat := ps.nat (0x07010023 + p * 0x1000 + 8 * q) 0

/-- prof[p].tx[q].counter, in [5:0] start bit; [9:6] width 0 to 8, 0 = none (chapter 06). -/
def profTxCounter (ps : PSet) (p q : Nat) : Nat := ps.nat (0x07010024 + p * 0x1000 + 8 * q) 0

/-- prof[p].map[m].word[w], in Table 6-2 (chapter 06). -/
def profMapWord (ps : PSet) (p m w : Nat) : Nat := ps.nat (0x07010040 + p * 0x1000 + 4 * m + w) 0

/-- pack[c].profile, in enum (chapter 06). -/
def packProfile (ps : PSet) (c : Nat) : Nat := ps.nat (0x07100001 + c * 0x1000) 8

/-- chem[t].point[j], in Table entry (R174) (chapter 06). -/
def chemPoint (ps : PSet) (t j : Nat) : Nat := ps.nat (0x08000001 + t * 0x1000 + j) (30000 + (20000 * j + 63) / 126)

/-- link.time_diff_max, in ns (chapter 07). -/
def linkTimeDiffMax (ps : PSet) : Rat := ps.val (0x02010001) (3 / 2)

/-- link.disc_cycles, in cycles (chapter 07). -/
def linkDiscCycles (ps : PSet) : Nat := ps.nat (0x02010002) 64

/-- prot.squall_burst, in µs (chapter 08). -/
def protSquallBurst (ps : PSet) : Rat := ps.val (0x09000001) 10

/-- prot.blank_t, in ns (chapter 08). -/
def protBlankT (ps : PSet) : Rat := ps.val (0x09000002) 400

/-- prot.blank_max, in µs (chapter 08). -/
def protBlankMax (ps : PSet) : Rat := ps.val (0x09000003) 2

/-- prot.multi_win, in µs (chapter 08). -/
def protMultiWin (ps : PSet) : Rat := ps.val (0x09000004) 2

/-- prot.auto_mask_l, in bit mask (chapter 08). -/
def protAutoMaskL (ps : PSet) : Nat := ps.nat (0x09000005) 268369920

/-- prot.auto_mask_h, in bit mask (chapter 08). -/
def protAutoMaskH (ps : PSet) : Nat := ps.nat (0x09000006) 256

/-- prot.auto_delay, in µs (chapter 08). -/
def protAutoDelay (ps : PSet) : Rat := ps.val (0x09000007) 100

/-- prot.auto_max, in resumes (chapter 08). -/
def protAutoMax (ps : PSet) : Nat := ps.nat (0x09000008) 3

/-- prot.auto_win, in s (chapter 08). -/
def protAutoWin (ps : PSet) : Rat := ps.val (0x09000009) 60

/-- prot.sto_t1, in µs (chapter 08). -/
def protStoT1 (ps : PSet) : Rat := ps.val (0x0900000A) 1

/-- prot.sto_level, in code (chapter 08). -/
def protStoLevel (ps : PSet) : Nat := ps.nat (0x0900000B) 10

/-- prot.chop_en, in bool (chapter 08). -/
def protChopEn (ps : PSet) : Bool := ps.bool (0x0900000C) 1

/-- prot.chop_on_rel, in — (chapter 08). -/
def protChopOnRel (ps : PSet) : Rat := ps.val (0x0900000D) (26 / 25)

/-- prot.chop_off_rel, in — (chapter 08). -/
def protChopOffRel (ps : PSet) : Rat := ps.val (0x0900000E) (101 / 100)

/-- prot.desat_arm_max, in cells (chapter 08). -/
def protDesatArmMax (ps : PSet) : Nat := ps.nat (0x0900000F) 3

/-- prot.ef_i, in A (chapter 08). -/
def protEfI (ps : PSet) : Rat := ps.val (0x09000010) 0

/-- prot.ef_time, in ms (chapter 08). -/
def protEfTime (ps : PSet) : Rat := ps.val (0x09000011) 100

/-- prot.sp_v, in V (chapter 08). -/
def protSpV (ps : PSet) : Rat := ps.val (0x09000012) 0

/-- prot.sp_time, in ms (chapter 08). -/
def protSpTime (ps : PSet) : Rat := ps.val (0x09000013) 500

/-- prot.bypfail_trip, in bool (chapter 08). -/
def protBypfailTrip (ps : PSet) : Bool := ps.bool (0x09000014) 1

/-- prot.brk_filt, in samples (chapter 08). -/
def protBrkFilt (ps : PSet) : Nat := ps.nat (0x09000015) 255

/-- gd.enable, in bool (chapter 08). -/
def gdEnable (ps : PSet) : Bool := ps.bool (0x09001001) 1

/-- gd.tsw_on_target, in ns (chapter 08). -/
def gdTswOnTarget (ps : PSet) : Rat := ps.val (0x09001002) 250

/-- gd.tsw_off_target, in ns (chapter 08). -/
def gdTswOffTarget (ps : PSet) : Rat := ps.val (0x09001003) 300

/-- gd.db, in ns (chapter 08). -/
def gdDb (ps : PSet) : Rat := ps.val (0x09001004) 20

/-- gd.i_min, in pu (chapter 08). -/
def gdIMin (ps : PSet) : Rat := ps.val (0x09001005) (1 / 5)

/-- gd.code_init, in code (chapter 08). -/
def gdCodeInit (ps : PSet) : Nat := ps.nat (0x09001006) 16

/-- gd.sat_count, in measurements (chapter 08). -/
def gdSatCount (ps : PSet) : Nat := ps.nat (0x09001007) 100

/-- gd.age_tau, in h (chapter 08). -/
def gdAgeTau (ps : PSet) : Rat := ps.val (0x09001008) 24

/-- gd.age_warn, in steps (chapter 08). -/
def gdAgeWarn (ps : PSet) : Nat := ps.nat (0x09001009) 4

/-- prot.tin[i].mode, in enum (chapter 08). -/
def protTinMode (ps : PSet) (i : Nat) : Nat := ps.nat (0x09010001 + i * 0x1000) 0

/-- prot.tin[i].polarity, in enum (chapter 08). -/
def protTinPolarity (ps : PSet) (i : Nat) : Nat := ps.nat (0x09010002 + i * 0x1000) 1

/-- prot.tin[i].filt, in samples (chapter 08). -/
def protTinFilt (ps : PSet) (i : Nat) : Nat := ps.nat (0x09010003 + i * 0x1000) 8

/-- prot.tin[i].chatter_n, in transitions (chapter 08). -/
def protTinChatterN (ps : PSet) (i : Nat) : Nat := ps.nat (0x09010004 + i * 0x1000) 16

/-- prot.tin[i].chatter_win, in ms (chapter 08). -/
def protTinChatterWin (ps : PSet) (i : Nat) : Rat := ps.val (0x09010005 + i * 0x1000) 100

/-- prot.tin[i].arms, in bit mask (chapter 08). -/
def protTinArms (ps : PSet) (i : Nat) : Nat := ps.nat (0x09010006 + i * 0x1000) 7

/-- prot.cmp[j].blank_arms, in bit mask (chapter 08). -/
def protCmpBlankArms (ps : PSet) (j : Nat) : Nat := ps.nat (0x09020001 + j * 0x1000) (if j ≤ 5 then 2 ^ (j % 3) else 0)

/-- prot.cmp[j].trip, in bit mask (chapter 08). -/
def protCmpTrip (ps : PSet) (j : Nat) : Nat := ps.nat (0x09020002 + j * 0x1000) 3

/-- saf.host_reset, in bool (chapter 09). -/
def safHostReset (ps : PSet) : Bool := ps.bool (0x0A000001) 0

/-- saf.fb_sbt, in bit mask (chapter 09). -/
def safFbSbt (ps : PSet) : Nat := ps.nat (0x0A000002) 1

/-- saf.test_w, in µs (chapter 09). -/
def safTestW (ps : PSet) : Rat := ps.val (0x0A000003) 100

/-- saf.cfg_crc, in — (chapter 09). -/
def safCfgCrc (ps : PSet) : Nat := ps.nat (0x0A000004) 647695179

/-- saf.sc_enable, in bool (chapter 09). -/
def safScEnable (ps : PSet) : Bool := ps.bool (0x0A001001) 0

/-- saf.sc_cid_lo, in — (chapter 09). -/
def safScCidLo (ps : PSet) : Nat := ps.nat (0x0A001002) 0

/-- saf.sc_cid_hi, in — (chapter 09). -/
def safScCidHi (ps : PSet) : Nat := ps.nat (0x0A001003) 0

/-- saf.sc_watchdog, in ms (chapter 09). -/
def safScWatchdog (ps : PSet) : Rat := ps.val (0x0A001004) 20

/-- saf.sc_window, in CN (chapter 09). -/
def safScWindow (ps : PSet) : Nat := ps.nat (0x0A001005) 4

/-- saf.sc_tmo_action, in bit mask (chapter 09). -/
def safScTmoAction (ps : PSet) : Nat := ps.nat (0x0A001006) 1

/-- saf.slp.limit_hi, in pu (chapter 09). -/
def safSlpLimitHi (ps : PSet) : Rat := ps.val (0x0A002001) (11 / 10)

/-- saf.slp.limit_lo, in pu (chapter 09). -/
def safSlpLimitLo (ps : PSet) : Rat := ps.val (0x0A002002) (3 / 10)

/-- saf.slp.time, in ms (chapter 09). -/
def safSlpTime (ps : PSet) : Rat := ps.val (0x0A002003) 20

/-- saf.slp.ramp, in ms (chapter 09). -/
def safSlpRamp (ps : PSet) : Rat := ps.val (0x0A002004) 500

/-- saf.sci.delay, in ms (chapter 09). -/
def safSciDelay (ps : PSet) : Rat := ps.val (0x0A002005) 20

/-- saf.sci.confirm, in s (chapter 09). -/
def safSciConfirm (ps : PSet) : Rat := ps.val (0x0A002006) 2

/-- saf.sin[n].type, in enum (chapter 09). -/
def safSinType (ps : PSet) (n : Nat) : Nat := ps.nat (0x0A010001 + n * 0x1000) (if n = 0 then 1 else 0)

/-- saf.sin[n].func, in bit mask (chapter 09). -/
def safSinFunc (ps : PSet) (n : Nat) : Nat := ps.nat (0x0A010002 + n * 0x1000) (if n = 0 then 3 else 0)

/-- saf.sin[n].filt, in enum (chapter 09). -/
def safSinFilt (ps : PSet) (n : Nat) : Nat := ps.nat (0x0A010003 + n * 0x1000) 1

/-- saf.sin[n].disc_time, in ms (chapter 09). -/
def safSinDiscTime (ps : PSet) (n : Nat) : Rat := ps.val (0x0A010004 + n * 0x1000) 50

/-- saf.sout[n].func, in enum (chapter 09). -/
def safSoutFunc (ps : PSet) (n : Nat) : Nat := ps.nat (0x0A020001 + n * 0x1000) ([1, 1, 2, 3, 3, 4].getD n 0)

/-- twin.shadow_en, in bool (chapter 10). -/
def twinShadowEn (ps : PSet) : Bool := ps.bool (0x0B000001) 1

/-- twin.shadow_max, in cycles (chapter 10). -/
def twinShadowMax (ps : PSet) : Nat := ps.nat (0x0B000002) 250

/-- twin.meas_tol, in pu (chapter 10). -/
def twinMeasTol (ps : PSet) : Rat := ps.val (0x0B000003) (1 / 50)

/-- twin.meas_count, in outputs (chapter 10). -/
def twinMeasCount (ps : PSet) : Nat := ps.nat (0x0B000004) 50

/-- twin.mis_max, in cycles (chapter 10). -/
def twinMisMax (ps : PSet) : Nat := ps.nat (0x0B000005) 3

/-- twin.meter_tol, in % (chapter 10). -/
def twinMeterTol (ps : PSet) : Rat := ps.val (0x0B000006) (1 / 10)

/-- host.wd_time, in ms (chapter 11). -/
def hostWdTime (ps : PSet) : Rat := ps.val (0x0C000001) 0

/-- st.match_time, in s (chapter 12). -/
def stMatchTime (ps : PSet) : Rat := ps.val (0x0D000001) 5

/-- st.contact_max, in s (chapter 12). -/
def stContactMax (ps : PSet) : Rat := ps.val (0x0D000002) 30

/-- st.test_en, in bool (chapter 12). -/
def stTestEn (ps : PSet) : Bool := ps.bool (0x0D000003) 1

/-- st.pc_v, in pu (chapter 12). -/
def stPcV (ps : PSet) : Rat := ps.val (0x0D000004) (1 / 5)

/-- st.pc_tol, in pu (chapter 12). -/
def stPcTol (ps : PSet) : Rat := ps.val (0x0D000005) (1 / 20)

/-- st.pc_dwell, in ms (chapter 12). -/
def stPcDwell (ps : PSet) : Rat := ps.val (0x0D000006) 100

/-- st.host_lost_action, in enum (chapter 12). -/
def stHostLostAction (ps : PSet) : Nat := ps.nat (0x0D000007) 0

/-- clk.ctb_source, in enum (chapter 13). -/
def clkCtbSource (ps : PSet) : Nat := ps.nat (0x0E000001) 0

/-- clk.cycle_align, in bool (chapter 13). -/
def clkCycleAlign (ps : PSet) : Bool := ps.bool (0x0E000002) 1

/-- clk.cycle_phase, in µs (chapter 13). -/
def clkCyclePhase (ps : PSet) : Rat := ps.val (0x0E000003) 0

/-- clk.pull_max, in ppm (chapter 13). -/
def clkPullMax (ps : PSet) : Rat := ps.val (0x0E000004) 20

/-- clk.pull_rate, in ppm/s (chapter 13). -/
def clkPullRate (ps : PSet) : Rat := ps.val (0x0E000005) 10

/-- clk.holdover_max, in s (chapter 13). -/
def clkHoldoverMax (ps : PSet) : Rat := ps.val (0x0E000006) 10

/-- clk.dither_en, in bool (chapter 13). -/
def clkDitherEn (ps : PSet) : Bool := ps.bool (0x0E000007) 1

/-- clk.dither_seed, in — (chapter 13). -/
def clkDitherSeed (ps : PSet) : Nat := ps.nat (0x0E000008) 0

/-- clk.margin_pct, in % (chapter 13). -/
def clkMarginPct (ps : PSet) : Rat := ps.val (0x0E000009) 0

/-- clkout[o].enable, in bool (chapter 13). -/
def clkoutEnable (ps : PSet) (o : Nat) : Bool := ps.bool (0x0E001001 + o * 0x1000) 0

/-- clkout[o].div, in VCO periods (chapter 13). -/
def clkoutDiv (ps : PSet) (o : Nat) : Nat := ps.nat (0x0E001002 + o * 0x1000) 480

/-- clkout[o].delay, in VCO periods (chapter 13). -/
def clkoutDelay (ps : PSet) (o : Nat) : Nat := ps.nat (0x0E001003 + o * 0x1000) 0

/-- net.mode, in enum (chapter 14). -/
def netMode (ps : PSet) : Nat := ps.nat (0x0F000001) 1

/-- net.mac_lo, in — (chapter 14). -/
def netMacLo (ps : PSet) : Nat := ps.nat (0x0F000002) 0

/-- net.mac_hi, in — (chapter 14). -/
def netMacHi (ps : PSet) : Nat := ps.nat (0x0F000003) 0

/-- net.vlan_en, in bool (chapter 14). -/
def netVlanEn (ps : PSet) : Bool := ps.bool (0x0F000004) 0

/-- net.vlan_id, in — (chapter 14). -/
def netVlanId (ps : PSet) : Nat := ps.nat (0x0F000005) 0

/-- net.pcp_ptp, in — (chapter 14). -/
def netPcpPtp (ps : PSet) : Nat := ps.nat (0x0F000006) 4

/-- net.pcp_sc, in — (chapter 14). -/
def netPcpSc (ps : PSet) : Nat := ps.nat (0x0F000007) 7

/-- net.sc_ethertype, in — (chapter 14). -/
def netScEthertype (ps : PSet) : Nat := ps.nat (0x0F000008) 34997

/-- net.ctb_failover, in bool (chapter 14). -/
def netCtbFailover (ps : PSet) : Bool := ps.bool (0x0F000009) 1

/-- net.dom_diff_max, in ns (chapter 14). -/
def netDomDiffMax (ps : PSet) : Rat := ps.val (0x0F00000A) 1000

/-- port[n].mode, in enum (chapter 14). -/
def portMode (ps : PSet) (n : Nat) : Nat := ps.nat (0x0F000001 + n * 0x1000) 0

/-- port[n].delay_asym, in ns (chapter 14). -/
def portDelayAsym (ps : PSet) (n : Nat) : Rat := ps.val (0x0F000002 + n * 0x1000) 0

/-- sc[x].enable, in bool (chapter 14). -/
def scEnable (ps : PSet) (x : Nat) : Bool := ps.bool (0x0F010001 + x * 0x1000) (if x = 0 then 1 else 0)

/-- sc[x].domain, in — (chapter 14). -/
def scDomain (ps : PSet) (x : Nat) : Nat := ps.nat (0x0F010002 + x * 0x1000) (x)

/-- sc[x].servo, in enum (chapter 14). -/
def scServo (ps : PSet) (x : Nat) : Nat := ps.nat (0x0F010003 + x * 0x1000) 0

/-- sc[x].servo_bw, in Hz (chapter 14). -/
def scServoBw (ps : PSet) (x : Nat) : Rat := ps.val (0x0F010004 + x * 0x1000) (1 / 10)

/-- sc[x].sync_thr, in ns (chapter 14). -/
def scSyncThr (ps : PSet) (x : Nat) : Rat := ps.val (0x0F010005 + x * 0x1000) 250

/-- sc[x].step_thr, in µs (chapter 14). -/
def scStepThr (ps : PSet) (x : Nat) : Rat := ps.val (0x0F010006 + x * 0x1000) 100

/-- sc[x].step_en, in bool (chapter 14). -/
def scStepEn (ps : PSet) (x : Nat) : Bool := ps.bool (0x0F010007 + x * 0x1000) 1

/-- sc[x].slew_max, in ppm (chapter 14). -/
def scSlewMax (ps : PSet) (x : Nat) : Rat := ps.val (0x0F010008 + x * 0x1000) 100

/-- rec.groups, in bit mask (chapter 15). -/
def recGroups (ps : PSet) : Nat := ps.nat (0x10000001) 71

/-- rec.pre_frames, in frames (chapter 15). -/
def recPreFrames (ps : PSet) : Nat := ps.nat (0x10000002) 2500

/-- rec.post_frames, in frames (chapter 15). -/
def recPostFrames (ps : PSet) : Nat := ps.nat (0x10000003) 25000

/-- rec.retrig, in enum (chapter 15). -/
def recRetrig (ps : PSet) : Nat := ps.nat (0x10000004) 0

/-- rec.auto_rearm, in bool (chapter 15). -/
def recAutoRearm (ps : PSet) : Bool := ps.bool (0x10000005) 1

/-- rec.arm_at_start, in bool (chapter 15). -/
def recArmAtStart (ps : PSet) : Bool := ps.bool (0x10000006) 1

/-- rec.trig[t].type, in enum (chapter 15). -/
def recTrigType (ps : PSet) (t : Nat) : Nat := ps.nat (0x10010001 + t * 0x1000) (if t ≤ 1 then 6 else 0)

/-- rec.trig[t].src, in — (chapter 15). -/
def recTrigSrc (ps : PSet) (t : Nat) : Nat := ps.nat (0x10010002 + t * 0x1000) (if t ≤ 1 then 0x3000 + t else 0)

/-- rec.trig[t].thr_hi, in source unit (chapter 15). -/
def recTrigThrHi (ps : PSet) (t : Nat) : Rat := ps.val (0x10010003 + t * 0x1000) 0

/-- rec.trig[t].thr_lo, in source unit (chapter 15). -/
def recTrigThrLo (ps : PSet) (t : Nat) : Rat := ps.val (0x10010004 + t * 0x1000) 0

/-- rec.trig[t].t_lo, in ticks (chapter 15). -/
def recTrigTLo (ps : PSet) (t : Nat) : Nat := ps.nat (0x10010005 + t * 0x1000) 80

/-- rec.trig[t].t_hi, in ticks (chapter 15). -/
def recTrigTHi (ps : PSet) (t : Nat) : Nat := ps.nat (0x10010006 + t * 0x1000) 800

/-- rec.trig[t].polarity, in enum (chapter 15). -/
def recTrigPolarity (ps : PSet) (t : Nat) : Nat := ps.nat (0x10010007 + t * 0x1000) 0

/-- rec.trig[t].qual, in trigger (chapter 15). -/
def recTrigQual (ps : PSet) (t : Nat) : Nat := ps.nat (0x10010008 + t * 0x1000) 255

/-- rec.trig[t].qual_win, in µs (chapter 15). -/
def recTrigQualWin (ps : PSet) (t : Nat) : Rat := ps.val (0x10010009 + t * 0x1000) 0

/-- rec.trig[t].action, in enum (chapter 15). -/
def recTrigAction (ps : PSet) (t : Nat) : Nat := ps.nat (0x1001000A + t * 0x1000) 1

/-- rec.mask[m].enable, in bool (chapter 15). -/
def recMaskEnable (ps : PSet) (m : Nat) : Bool := ps.bool (0x10020001 + m * 0x1000) 0

/-- rec.mask[m].source, in enum (chapter 15). -/
def recMaskSource (ps : PSet) (m : Nat) : Nat := ps.nat (0x10020002 + m * 0x1000) 0

/-- rec.mask[m].stream, in stream (chapter 15). -/
def recMaskStream (ps : PSet) (m : Nat) : Nat := ps.nat (0x10020003 + m * 0x1000) 0

/-- rec.mask[m].start, in enum (chapter 15). -/
def recMaskStart (ps : PSet) (m : Nat) : Nat := ps.nat (0x10020004 + m * 0x1000) 0

/-- rec.mask[m].start_trig, in trigger (chapter 15). -/
def recMaskStartTrig (ps : PSet) (m : Nat) : Nat := ps.nat (0x10020005 + m * 0x1000) 0

/-- rec.mask[m].count, in cycles (chapter 15). -/
def recMaskCount (ps : PSet) (m : Nat) : Nat := ps.nat (0x10020006 + m * 0x1000) 3

/-- rec.mask[m].stop, in bool (chapter 15). -/
def recMaskStop (ps : PSet) (m : Nat) : Bool := ps.bool (0x10020007 + m * 0x1000) 0

/-- rec.mask[m].n, in points (chapter 15). -/
def recMaskN (ps : PSet) (m : Nat) : Nat := ps.nat (0x10020008 + m * 0x1000) 2

/-- rec.mask[m].time[p], in ms (chapter 15). -/
def recMaskTime (ps : PSet) (m p : Nat) : Rat := ps.val (0x10020010 + m * 0x1000 + 3 * p) 0

/-- rec.mask[m].lo[p], in pu (chapter 15). -/
def recMaskLo (ps : PSet) (m p : Nat) : Rat := ps.val (0x10020011 + m * 0x1000 + 3 * p) ((-10))

/-- rec.mask[m].hi[p], in pu (chapter 15). -/
def recMaskHi (ps : PSet) (m p : Nat) : Rat := ps.val (0x10020012 + m * 0x1000 + 3 * p) 10

/-- rec.red[c].src, in — (chapter 15). -/
def recRedSrc (ps : PSet) (c : Nat) : Nat := ps.nat (0x10030001 + c * 0x1000) 65535

/-- rec.red[c].window, in samples (chapter 15). -/
def recRedWindow (ps : PSet) (c : Nat) : Nat := ps.nat (0x10030002 + c * 0x1000) 1000

/-- integ.holdover_action, in enum (chapter 16). -/
def integHoldoverAction (ps : PSet) : Nat := ps.nat (0x11000001) 0

/-- integ.ce_win, in ms (chapter 16). -/
def integCeWin (ps : PSet) : Rat := ps.val (0x11000002) 1000

/-- anem.period, in rounds (chapter 17). -/
def anemPeriod (ps : PSet) : Nat := ps.nat (0x12000001) 100

/-- anem.blocks, in bit mask (chapter 17). -/
def anemBlocks (ps : PSet) : Nat := ps.nat (0x12000002) 127

/-- hk.drift_period, in cycles (chapter 17). -/
def hkDriftPeriod (ps : PSet) : Nat := ps.nat (0x12000003) 5000

/-- hk.t_warn, in °C (chapter 17). -/
def hkTWarn (ps : PSet) : Rat := ps.val (0x12000004) 100

/-- hk.t_stop, in °C (chapter 17). -/
def hkTStop (ps : PSet) : Rat := ps.val (0x12000005) 107

/-- hk.t_hyst, in °C (chapter 17). -/
def hkTHyst (ps : PSet) : Rat := ps.val (0x12000006) 5

/-- hk.t_rate, in °C/s (chapter 17). -/
def hkTRate (ps : PSet) : Rat := ps.val (0x12000007) 2

/-- hk.t_rate_win, in s (chapter 17). -/
def hkTRateWin (ps : PSet) : Rat := ps.val (0x12000008) 10

/-- hk.t_jump, in °C (chapter 17). -/
def hkTJump (ps : PSet) : Rat := ps.val (0x12000009) 20

/-- hk.t_pair, in °C (chapter 17). -/
def hkTPair (ps : PSet) : Rat := ps.val (0x1200000A) 15

/-- hk.v_tol, in % (chapter 17). -/
def hkVTol (ps : PSet) : Rat := ps.val (0x1200000B) 4

end Par

/-- Defaults that depend on the index, by class, instance and item (the Default column of the chapters' tables). -/
def dfltByIndex (cls inst item : Nat) : Option Rat :=
  if cls = 0x02 ∧ 0x000 ≤ inst ∧ inst < 0x00C ∧ item = 0x01 then some ((((inst - 0x000) % 6) / 2 : Nat) : Rat)
  else if cls = 0x03 ∧ 0x040 ≤ inst ∧ inst < 0x050 ∧ 0x10 ≤ item ∧ item < 0x14 then some ((0x80000000 + (4 * (inst - 0x040) + (item - 0x10)) * 0x10000 + (item - 0x10) : Nat) : Rat)
  else if cls = 0x04 ∧ inst = 0x003 ∧ 0x01 ≤ item ∧ item < 0x04 then some ((4 * (item - 0x01) : Nat) : Rat)
  else if cls = 0x04 ∧ inst = 0x003 ∧ 0x04 ≤ item ∧ item < 0x07 then some ((12 + 4 * (item - 0x04) : Nat) : Rat)
  else if cls = 0x04 ∧ inst = 0x003 ∧ 0x07 ≤ item ∧ item < 0x0A then some ((36 + 4 * (item - 0x07) : Nat) : Rat)
  else if cls = 0x04 ∧ inst = 0x003 ∧ 0x0A ≤ item ∧ item < 0x0D then some ((24 + 4 * (item - 0x0A) : Nat) : Rat)
  else if cls = 0x04 ∧ 0x010 ≤ inst ∧ inst < 0x018 ∧ item = 0x01 then some ((5 + 2 * (inst - 0x010) : Nat) : Rat)
  else if cls = 0x05 ∧ 0x004 ≤ inst ∧ inst < 0x006 ∧ item = 0x07 then some ((if (inst - 0x004) = 0 then 1 else 0 : Nat) : Rat)
  else if cls = 0x07 ∧ 0x010 ≤ inst ∧ inst < 0x018 ∧ item = 0x01 then some (((inst - 0x010) : Nat) : Rat)
  else if cls = 0x08 ∧ 0x000 ≤ inst ∧ inst < 0x008 ∧ 0x01 ≤ item ∧ item < 0x41 then some ((30000 + (20000 * (item - 0x01) + 63) / 126 : Nat) : Rat)
  else if cls = 0x09 ∧ 0x020 ≤ inst ∧ inst < 0x02C ∧ item = 0x01 then some ((if (inst - 0x020) ≤ 5 then 2 ^ ((inst - 0x020) % 3) else 0 : Nat) : Rat)
  else if cls = 0x0A ∧ 0x010 ≤ inst ∧ inst < 0x014 ∧ item = 0x01 then some ((if (inst - 0x010) = 0 then 1 else 0 : Nat) : Rat)
  else if cls = 0x0A ∧ 0x010 ≤ inst ∧ inst < 0x014 ∧ item = 0x02 then some ((if (inst - 0x010) = 0 then 3 else 0 : Nat) : Rat)
  else if cls = 0x0A ∧ 0x020 ≤ inst ∧ inst < 0x026 ∧ item = 0x01 then some (([1, 1, 2, 3, 3, 4].getD (inst - 0x020) 0 : Nat) : Rat)
  else if cls = 0x0F ∧ 0x010 ≤ inst ∧ inst < 0x012 ∧ item = 0x01 then some ((if (inst - 0x010) = 0 then 1 else 0 : Nat) : Rat)
  else if cls = 0x0F ∧ 0x010 ≤ inst ∧ inst < 0x012 ∧ item = 0x02 then some (((inst - 0x010) : Nat) : Rat)
  else if cls = 0x10 ∧ 0x010 ≤ inst ∧ inst < 0x020 ∧ item = 0x01 then some ((if (inst - 0x010) ≤ 1 then 6 else 0 : Nat) : Rat)
  else if cls = 0x10 ∧ 0x010 ≤ inst ∧ inst < 0x020 ∧ item = 0x02 then some ((if (inst - 0x010) ≤ 1 then 0x3000 + (inst - 0x010) else 0 : Nat) : Rat)
  else none

end Sys2Proof.Machine
end

