-- ==== Sys2Proof/Machine/State.lean ====
section
/-! DEFINITION. The machine's state: the queue of waiting commands and the device; the reasons a step could stop; the state at reset. -/

namespace Sys2Proof.Machine

/-- The machine: the commands waiting, first in first out, and the device. -/
structure State where
  /-- Commands waiting, the first to run at the head (model's queue, assumption log 1). -/
  pending : List Instr
  /-- The device: every piece of state the spec gives it. -/
  dev : Device
  deriving DecidableEq, Repr

/-- Reasons to stop with a fault. No command of this block raises one. -/
inductive Fault where
  /-- Raised by nothing: the type needs an inhabitant. Safe, since no step gives it. -/
  | none
  deriving DecidableEq, Repr

/-- Reasons to refuse a command. -/
inductive Refusal where
  /-- Raised by the dispatch for a row that has no meaning yet, with the row's mnemonic. Safe: the machine stops. -/
  | notModelled (mnemonic : String)
  deriving DecidableEq, Repr

/-- The machine right after reset: no command waits, and the device stands as at power-on, before the boot. -/
def State.reset : State := { pending := [], dev := Device.reset }

end Sys2Proof.Machine
end

