-- ==== Sys2Proof/Machine/Base.lean ====
section
/-! DEFINITION. The plainest shared operations: lists and counters, little-endian fields, spans of the timebase, parameters in force, free values. -/

namespace Sys2Proof.Machine

/-! ## Lists and counters -/

/-- Put an element into an ordered list, after those that do not come after it. -/
def placeIn {α : Type} (le : α → α → Bool) (x : α) : List α → List α
  | [] => [x]
  | y :: r => if le y x then y :: placeIn le x r else x :: y :: r
/-- A list in order, equal elements as they stood. -/
def orderBy {α : Type} (le : α → α → Bool) (l : List α) : List α := l.foldl (fun a x => placeIn le x a) []

/-- The i-th entry replaced by its image; a list without an i-th entry is left as it stands. -/
def upd {α : Type} (l : List α) (i : Nat) (f : α → α) : List α := l.modify i f

/-- A counter that saturates at 2^32 - 1 (chapter registers). -/
def sat32 (n : Nat) : Nat := min n 0xFFFFFFFF

/-- One more, saturating at 2^32 - 1. -/
def inc32 (n : Nat) : Nat := sat32 (n + 1)

/-- One more, saturating at 2^16 - 1. -/
def inc16 (n : Nat) : Nat := min (n + 1) 0xFFFF

/-- One more, saturating at 255. -/
def inc8 (n : Nat) : Nat := min (n + 1) 255

/-- Bit i of a number. -/
def bit (n i : Nat) : Bool := n.testBit i

/-- The number whose bits, from bit 0, are the list. -/
def ofBits : List Bool → Nat
  | [] => 0
  | b :: r => b.toNat + 2 * ofBits r

/-- The indices below n that satisfy p, rising. -/
def idx (n : Nat) (p : Nat → Bool) : List Nat := (List.range n).filter p

/-- The sum of a list of numbers. -/
def rsum (l : List Rat) : Rat := l.foldl (· + ·) 0

/-- The largest of a list of numbers and a start value. -/
def nmax (l : List Nat) : Nat := l.foldl max 0

/-- x held between lo and hi. -/
def clampR (lo hi x : Rat) : Rat := if x < lo then lo else if hi < x then hi else x

/-- The absolute value. -/
def rabs (x : Rat) : Rat := if x < 0 then -x else x

/-- The nearest whole number, halves rounded up. -/
def rround (x : Rat) : Int := (x + 1 / 2).floor

/-! ## Little-endian fields (R5) -/

/-- n bytes of a number, the least significant first. -/
def leBytes : Nat → Nat → List (BitVec 8)
  | 0, _ => []
  | n + 1, v => BitVec.ofNat 8 v :: leBytes n (v / 256)

/-- The number whose bytes, the least significant first, are the list. -/
def leVal : List (BitVec 8) → Nat
  | [] => 0
  | b :: r => b.toNat + 256 * leVal r

/-- The number of a little-endian field of a byte list. -/
def leField (l : List (BitVec 8)) (off len : Nat) : Nat := leVal ((l.drop off).take len)

/-- The number whose bytes, the most significant first, are the list. -/
def beVal (l : List (BitVec 8)) : Nat := l.foldl (fun v b => v * 256 + b.toNat) 0

/-- n bytes of a number, the most significant first. -/
def beBytes (n v : Nat) : List (BitVec 8) := (leBytes n v).reverse

/-- A number of n bits read as two's complement. -/
def sext (n v : Nat) : Int := if v < 2 ^ (n - 1) then (v : Int) else (v : Int) - 2 ^ n

/-- An integer's low n bits. -/
def trunc (n : Nat) (v : Int) : Nat := (v % (2 ^ n : Nat)).toNat

/-- Bits hi to lo of a number. -/
def bits (v hi lo : Nat) : Nat := (v / 2 ^ lo) % 2 ^ (hi - lo + 1)

/-- Bytes of a list as a bit vector, the first in the low byte. -/
def packBytes (w : Nat) (l : List (BitVec 8)) : BitVec w := BitVec.ofNat w (leVal l)

/-! ## Spans of the timebase -/

/-- Ticks in a span of x µs (R377: one tick is 1.25 ns). -/
def usT (x : Rat) : Rat := x * 800

/-- Ticks in a span of x ms. -/
def msT (x : Rat) : Rat := x * 800000

/-- Ticks in a span of x s. -/
def sT (x : Rat) : Rat := x * 800000000

/-- Ticks in a span of x ns. -/
def nsT (x : Rat) : Rat := x * 4 / 5

/-- Whether a span of ticks has passed since an instant. -/
def Device.past (d : Device) (since : Tick) (span : Rat) : Bool := decide (span ≤ ((d.now : Rat) - (since : Rat)))

/-- Whether more than a span of ticks has passed since an instant. -/
def Device.pastBeyond (d : Device) (since : Tick) (span : Rat) : Bool := decide (span < ((d.now : Rat) - (since : Rat)))

/-- Whether a span has passed since an instant that may be missing. -/
def Device.pastOpt (d : Device) (since : Option Tick) (span : Rat) : Bool :=
  match since with
  | none => false
  | some t => d.past t span

/-! ## Parameters in force -/

/-- The parameter set in force (R333). -/
def Device.P (d : Device) : PSet := d.par.force

/-- The control cycle in ticks: conv.tc in steps of 100 ns (R22). -/
def Device.tc (d : Device) : Nat := (Par.convTc d.P * 80).floor.toNat

/-- The control cycle in seconds. -/
def Device.tcS (d : Device) : Rat := Par.convTc d.P / 10000000

/-- The next cycle start, E(k + 1) (R36). -/
def Device.eNext (d : Device) : Tick := d.cycle.eK + d.tc

/-- The rings of an arm, rising (R24). -/
def Device.ringsOf (d : Device) (arm : Nat) : List Nat := idx 12 fun r => Par.ringArm d.P r == arm

/-- A ring set to none: its receivers are powered down and nothing is reported from them (R25). -/
def Device.ringNone (d : Device) (r : Nat) : Bool := Par.ringArm d.P r == 3

/-- The cells of an arm in arm order: rings rising, then positions rising (R24). -/
def Device.cellsOf (d : Device) (arm : Nat) : List Nat :=
  (d.ringsOf arm).flatMap fun r => (List.range (Par.ringCellsExpected d.P r)).map fun p => 32 * r + p

/-- The arm of a cell, 3 for none. -/
def Device.armOf (d : Device) (cell : Nat) : Nat := Par.ringArm d.P (cell / 32)

/-! ## Free values -/

/-- Draw a fresh free value's number: the counter moves on (assumption log 8). -/
def Device.draw (d : Device) : Nat × Device := (d.fresh, { d with fresh := d.fresh + 1 })

end Sys2Proof.Machine
end

