-- ==== Sys2Proof/Machine/Triggers.lean ====
section
/-! DEFINITION. Evaluation of the recorder's triggers on their sources (R417 to R420, Tables 15-4 and 15-5): a condition met waits, with its instant, for its registration. -/

namespace Sys2Proof.Machine

/-! ## Conditions -/

/-- The sample of an instant: the start of the 100 ns slot of the CTB that holds it (R420). -/
def sampleStart (t : Tick) : Tick := t / 80 * 80

/-- Instants kept with a new one, one a sample, at most 16. -/
def noteMet (l : List Tick) (at_ : Tick) : List Tick :=
  if l.any fun x => sampleStart x == sampleStart at_ then l else (at_ :: l).take 16

/-- The condition of trigger x is met at an instant, with the source's value: it waits for its registration, and the triggers that it qualifies see it (R419, R420). -/
def Device.condMet (d : Device) (x : Nat) (at_ : Tick) (v : Int) : Device :=
  let r := d.recd
  { d with recd := { r with conds := r.conds ++ [(x, at_, v)], lastMet := upd r.lastMet x fun l => noteMet l at_ } }

/-- A trigger event of Table 15-5, at its own instant: the condition of every trigger of type 6 on it. -/
def Device.recEvent (d : Device) (k : Nat) (at_ : Tick) : Device :=
  (idx 16 fun x => Par.recTrigType d.P x == 6 && Par.recTrigSrc d.P x == 0x3000 + k).foldl (fun d x => d.condMet x at_ 0) d

/-- The trigger event of Table 15-5 that an event record is, for those taken at the record's own CTB. -/
def recEventOf (name : String) : Option Nat :=
  if name = "EV_CELL_BYPASS" then some 3
  else if name = "EV_RT_PHASE_JUMP" then some 4
  else if name = "EV_BRK_POS_CHANGE" then some 6
  else if name = "EV_SAFE_DEMAND" then some 7
  else none

/-! ## Types 1 to 5 (Table 15-4) -/

/-- A trigger's configuration as its evaluation needs it. -/
structure TrigCfg where
  /-- Type. -/
  kind : Nat
  /-- Source kind is a digital bit. -/
  digital : Bool
  /-- thr_hi. -/
  hi : Rat
  /-- thr_lo. -/
  lo : Rat
  /-- t_lo, ticks. -/
  tLo : Nat
  /-- t_hi, ticks. -/
  tHi : Nat
  /-- Polarity: 0, 1, or 2 for either. -/
  pol : Nat
  deriving DecidableEq, Repr

/-- The configuration in force of trigger x. -/
def Device.trigCfg (d : Device) (x : Nat) : TrigCfg :=
  let p := d.P
  { kind := Par.recTrigType p x, digital := Par.recTrigSrc p x / 4096 % 16 == 2, hi := Par.recTrigThrHi p x, lo := Par.recTrigThrLo p x
    tLo := Par.recTrigTLo p x, tHi := Par.recTrigTHi p x, pol := Par.recTrigPolarity p x }

/-- At level above thr_hi, or at 1 (polarity 0). -/
def TrigCfg.high (c : TrigCfg) (v : Int) : Bool := if c.digital then v == 1 else decide (c.hi < (v : Rat))
/-- At level below thr_lo, or at 0 (polarity 1). -/
def TrigCfg.low (c : TrigCfg) (v : Int) : Bool := if c.digital then v == 0 else decide ((v : Rat) < c.lo)

/-- A sample on one stay: the stay after it, and the instants at which a condition is met: it comes to level, a stay of a width in t_lo to t_hi ends, or a stay has reached t_lo. -/
def stayStep (c : TrigCfg) (seen : Bool) (s : TrigStay) (level : Bool) (at_ : Tick) : TrigStay × List Tick :=
  let due := fun (since : Tick) => if c.kind = 4 && !s.done && decide (since + c.tLo ≤ at_) then [since + c.tLo] else []
  match s.since, level with
  | none, true => ({ since := some at_, done := false }, if c.kind = 1 && seen then [at_] else [])
  | none, false => (s, [])
  | some f, true => ({ s with done := s.done || !(due f).isEmpty }, due f)
  | some f, false =>
    let w := at_ - f
    (TrigStay.reset, due f ++ (if c.kind = 2 && decide (c.tLo ≤ w) && decide (w ≤ c.tHi) then [at_] else []))

/-- A sample on a runt, as seen upwards: a rise above lo, hi reached, a fall back below lo. The second part says whether a runt ends. -/
def runtStep (st : Nat) (rises reached falls : Bool) : Nat × Bool :=
  if falls then (0, st == 1)
  else if reached then (2, false)
  else if st = 0 && rises then (1, false) else (st, false)

/-- The last value at or before an instant, of samples newest first. -/
def valueBy (l : List (Tick × Int)) (t : Tick) : Option Int := (l.find? fun x => decide (x.1 ≤ t)).map fun x => x.2

/-- Samples from the newest back to the first at or before an instant. -/
def keepFrom (l : List (Tick × Int)) (t : Tick) : List (Tick × Int) :=
  (l.takeWhile fun x => decide (t < x.1)) ++ (l.dropWhile fun x => decide (t < x.1)).take 1

/-- A sample on one trigger: its evaluation after it, and the instants at which its condition is met. -/
def TrigEval.sample (e : TrigEval) (c : TrigCfg) (at_ : Tick) (v : Int) : TrigEval × List Tick :=
  let pos := c.pol = 0 || c.pol = 2
  let neg := c.pol = 1 || c.pol = 2
  let (up, metUp) := stayStep c e.seen e.up (c.high v) at_
  let (dn, metDn) := stayStep c e.seen e.dn (c.low v) at_
  let x : Rat := v
  let (ru, runtU) := runtStep e.runtUp (e.seen && decide ((e.last : Rat) ≤ c.lo) && decide (c.lo < x)) (decide (c.hi ≤ x)) (decide (x < c.lo))
  let (rd, runtD) := runtStep e.runtDn (e.seen && decide (c.hi ≤ (e.last : Rat)) && decide (x < c.hi)) (decide (x ≤ c.lo)) (decide (c.hi < x))
  let slew := match valueBy e.hist (at_ - c.tLo) with
    | some old => (pos && decide (c.hi < ((v - old : Int) : Rat))) || (neg && decide (c.hi < ((old - v : Int) : Rat)))
    | none => false
  let met :=
    (if pos then metUp else []) ++ (if neg then metDn else []) ++
    (if c.kind = 3 && ((pos && runtU) || (neg && runtD)) then [at_] else []) ++
    (if c.kind = 5 && slew then [at_] else [])
  let hist := if c.kind = 5 then keepFrom ((at_, v) :: e.hist) (at_ - c.tLo) else []
  ({ seen := true, last := v, up := up, dn := dn, runtUp := ru, runtDn := rd, hist := hist }, met)

/-- Trigger x takes a sample of its source. -/
def Device.trigSample (d : Device) (x : Nat) (at_ : Tick) (v : Int) : Device :=
  let c := d.trigCfg x
  let (e, met) := (d.recd.trigs.getD x TrigEval.reset).sample c at_ v
  let d := { d with recd := { d.recd with trigs := upd d.recd.trigs x fun _ => e } }
  let shown := if c.digital then 0 else v
  met.foldl (fun d t => d.condMet x t shown) d

/-- A source's sample, by its code in rec.trig[t].src: every trigger of types 1 to 5 on it takes the sample (R417, R418). -/
def Device.trigFeed (d : Device) (src : Nat) (at_ : Tick) (v : Int) : Device :=
  (idx 16 fun x => Par.recTrigSrc d.P x == src && 1 ≤ Par.recTrigType d.P x && Par.recTrigType d.P x ≤ 5).foldl (fun d x => d.trigSample x at_ v) d

/-- The digital bits that triggers watch. -/
def Device.trigBits (d : Device) : List Nat :=
  (idx 16 fun x => Par.recTrigSrc d.P x / 4096 % 16 == 2 && 1 ≤ Par.recTrigType d.P x && Par.recTrigType d.P x ≤ 5).map fun x => Par.recTrigSrc d.P x % 256

/-- A change of the DIGITAL word: each watched bit that changed is sampled, as it stood at the last change if it has not been seen, and as it stands now. -/
def Device.trigDigital (d : Device) (old new : BitVec 128) (since : Tick) : Device :=
  (idx 112 fun i => old.getLsbD i != new.getLsbD i && d.trigBits.contains i).foldl (fun d i =>
    let src := 0x2000 + i
    let d := (idx 16 fun x => Par.recTrigSrc d.P x == src && !(d.recd.trigs.getD x TrigEval.reset).seen).foldl
      (fun d x => d.trigSample x since (old.getLsbD i).toNat) d
    d.trigFeed src d.now (new.getLsbD i).toNat) d

/-- Timeouts that have come due by now on stays that last (Table 15-4, type 4). -/
def Device.trigTimeouts (d : Device) : Device :=
  (idx 16 fun x => Par.recTrigType d.P x == 4).foldl (fun d x =>
    let c := d.trigCfg x
    let e := d.recd.trigs.getD x TrigEval.reset
    let due := fun (s : TrigStay) => match s.since with
      | some f => if !s.done && decide (f + c.tLo ≤ d.now) then some (f + c.tLo) else none
      | none => none
    let up := if c.pol = 0 || c.pol = 2 then due e.up else none
    let dn := if c.pol = 1 || c.pol = 2 then due e.dn else none
    let e' := { e with up := { e.up with done := e.up.done || up.isSome }, dn := { e.dn with done := e.dn.done || dn.isSome } }
    let d := { d with recd := { d.recd with trigs := upd d.recd.trigs x fun _ => e' } }
    (up.toList ++ dn.toList).foldl (fun d t => d.condMet x t (if c.digital then 0 else e.last)) d) d

/-- Triggers whose configuration changed start afresh. -/
def Device.trigRestart (d : Device) (old : PSet) : Device :=
  let cfg := fun (p : PSet) (x : Nat) =>
    ((Par.recTrigType p x, Par.recTrigSrc p x, Par.recTrigTLo p x, Par.recTrigTHi p x, Par.recTrigPolarity p x), (Par.recTrigThrHi p x, Par.recTrigThrLo p x))
  let one := fun (x : Nat) (e : TrigEval) => if cfg d.P x = cfg old x then e else TrigEval.reset
  { d with recd := { d.recd with trigs := d.recd.trigs.mapIdx one } }

end Sys2Proof.Machine
end

