-- ==== Sys2Proof/Machine/Ops.lean ====
section
/-! DEFINITION. The shared operations of every meaning: events, messages, completions and host writes. -/

namespace Sys2Proof.Machine

/-! ## Records in host memory (R5, R327, R338) -/

/-- PAYLOAD of an event record: 12 bytes. EV_OVERFLOW has the layout of R341; a summary carries its count in its last four bytes; every other value stands where the spec leaves it open (assumption log 123). -/
def Event.payloadBytes (e : Event) : List (BitVec 8) :=
  if e.name = "EV_OVERFLOW" then leBytes 4 (trunc 32 (e.payload.getD 0 0)) ++ leBytes 8 (trunc 64 (e.payload.getD 1 0))
  else
    let l := (List.range 12).map (Config.evPayload e.name e.payload)
    if e.summary then l.take 8 ++ leBytes 4 e.count else l
/-- The 32 bytes of an event record (Table 11-8). -/
def Event.bytes (e : Event) (seq : Nat) : List (BitVec 8) :=
  let cls := if e.name = "EV_OVERFLOW" then 4 else (Config.evClass e.name).val
  leBytes 4 seq ++ leBytes 8 e.ctb ++ leBytes 2 (Config.evCode e.name).toNat ++ [BitVec.ofNat 8 cls, BitVec.ofNat 8 (e.summary.toNat + 2 * e.remind.toNat)] ++
    [BitVec.ofNat 8 e.island, BitVec.ofNat 8 e.kind] ++ leBytes 2 e.index ++ e.payloadBytes
/-- The 32 bytes of a completion entry (Table 11-4); PHASE is 1 for producer counts 0 to 15 (R327). -/
def Completion.bytes (c : Completion) : List (BitVec 8) :=
  leBytes 4 c.hdr.tag.toNat ++ leBytes 2 c.hdr.opcode ++
    [BitVec.ofNat 8 c.status, BitVec.ofNat 8 ((decide (c.hdr.count % 32 < 16)).toNat + 2 * c.events.toNat)] ++
    leBytes 4 c.detail.toNat ++ leBytes 4 0 ++ leBytes 8 c.ctb ++ leBytes 8 c.result.toNat

/-! ## Host writes and messages -/

/-- A write or message posted to the host, after every earlier one (R344). -/
def Device.post (d : Device) (w : HostWrite) : Device :=
  { d with host := { d.host with outbox := d.host.outbox ++ [w] } }

/-- Signal MSI-X vector v: a masked vector sets its PBA bit instead (R323). -/
def Device.msix (d : Device) (v : Nat) : Device :=
  match d.host.msix[v]? with
  | none => d
  | some e =>
    if e.masked then { d with host := { d.host with msix := upd d.host.msix v fun x => { x with pend := true } } }
    else d.post { HostWrite.reset with kind := 3, addr := v }

/-- Hardware sets bits of a W1C register now: a host clear of the same instant leaves them at 1 (R8). -/
def Device.hwSet (d : Device) (off mask : Nat) : Device :=
  { d with justSet := (d.justSet.filter fun x => x.1 == d.now) ++ [(d.now, off, mask)] }

/-- The bits of a W1C register that hardware sets at this instant (R8). -/
def Device.setNow (d : Device) (off : Nat) : Nat :=
  (d.justSet.filter fun x => x.1 == d.now && x.2.1 == off).foldl (fun m x => m ||| x.2.2) 0

/-! ## Events (R337 to R341) -/

/-- The number of records the queue holds room for now (R337). -/
def Device.evqSpace (d : Device) : Nat :=
  if d.host.evqOn then 2 ^ d.host.evqSize.toNat - (d.host.evqTail - d.host.evqHead).toNat else 0

/-- The backlog takes no further event: 255 events wait, beside the reserved entry (R341). -/
def Device.backlogFull (d : Device) : Bool :=
  decide (255 ≤ (d.host.backlog.filter fun b => b.ev.isSome).length)

/-- Put an event into the backlog, or count it lost and place the marker (R341). -/
def Device.enqueue (d : Device) (e : Event) : Device :=
  if d.backlogFull then
    let run := d.host.lostRun
    { d with host := { d.host with
        evqLost := inc32 d.host.evqLost
        lostRun := run + 1
        lostFirst := if run = 0 then e.ctb else d.host.lostFirst
        lostLast := e.ctb
        backlog := if run = 0 then d.host.backlog ++ [{ ev := none }] else d.host.backlog } }
  else { d with host := { d.host with backlog := d.host.backlog ++ [{ ev := some e }] } }

/-- Raise an event (R338): it goes to the backlog, from which it is written (R341). -/
def Device.raiseEv (d : Device) (e : Event) : Device :=
  let d := { d with host := { d.host with cmdEvents := true } }
  -- the events that Table 15-5 names as trigger sources meet their triggers' conditions
  let d := match recEventOf e.name with
    | none => d
    | some k => d.recEvent k e.ctb
  d.enqueue e

/-- Raise a named event now, with the island that detects it, its source and its payload. -/
def Device.raise (d : Device) (name : String) (island kind index : Nat) (payload : List Int) : Device :=
  d.raiseEv { Event.reset with name := name, ctb := d.now, island := island, kind := kind, index := index, payload := payload }

/-- The Zephyr round in which now lies; its first tick belongs to it (R465). -/
def Device.roundNow (d : Device) : Nat := d.now / 8000000
/-- Whether an occurrence now belongs to this account: per source and per round of its detection (R319, R465). -/
def Device.counts (d : Device) (r : RateRow) (name : String) (island kind index : Nat) : Bool :=
  r.name == name && r.island == island && r.kind == kind && r.index == index && r.round == d.roundNow

/-- Raise a rate-limited event: the first of its source in the round is raised, later ones are counted for the summary (R64, R319, R465). -/
def Device.raiseRated (d : Device) (name : String) (island kind index : Nat) (payload : List Int) : Device :=
  if d.host.rates.any fun r => d.counts r name island kind index then
    let rates := d.host.rates.map fun r =>
      if d.counts r name island kind index then { r with count := r.count + 1, payload := payload } else r
    { d with host := { d.host with rates := rates } }
  else
    let d := d.raise name island kind index payload
    let row := { RateRow.reset with name := name, round := d.roundNow, island := island, kind := kind, index := index, payload := payload }
    { d with host := { d.host with rates := d.host.rates ++ [row] } }

/-- Raise a reminder, with REMIND set (R248, R282). -/
def Device.reminder (d : Device) (name : String) (island kind index : Nat) (payload : List Int) : Device :=
  d.raiseEv { Event.reset with name := name, ctb := d.now, remind := true, island := island, kind := kind, index := index, payload := payload }

/-- The EV_OVERFLOW record that stands for a run of lost events (R341). -/
def Device.overflowEvent (d : Device) : Event :=
  { Event.reset with name := "EV_OVERFLOW", ctb := d.host.lostLast, payload := [d.host.lostRun, d.host.lostFirst] }

/-- Write one record into the next slot of the queue, with its SEQ (R337, R339). -/
def Device.writeRecord (d : Device) (e : Event) : Device :=
  let h := d.host
  let n := h.evqSize.toNat
  let base := (h.evqBaseH.toNat * 2 ^ 32) + (h.evqBaseL.toNat / 4096) * 4096
  let w : HostWrite := { HostWrite.reset with kind := 0, addr := base + 32 * (h.evqTail.toNat % 2 ^ n), ev := some e, seq := h.evqSeq.toNat, bytes := e.bytes h.evqSeq.toNat }
  { d with host := { h with outbox := h.outbox ++ [w], evqTail := h.evqTail + 1, evqSeq := h.evqSeq + 1,
                            unreported := h.unreported + 1, visFrom := some (h.visFrom.getD d.now) } }

/-- Write backlog records in order while the queue has space; in the marker's place stands EV_OVERFLOW (R341). -/
def Device.writeBacklog : Nat → Device → Device
  | 0, d => d
  | n + 1, d =>
    if d.evqSpace = 0 then d else
    match d.host.backlog with
    | [] => d
    | b :: rest =>
      let d1 := { d with host := { d.host with backlog := rest } }
      match b.ev with
      | some e => Device.writeBacklog n (d1.writeRecord e)
      | none =>
        let d2 := d1.writeRecord d.overflowEvent
        Device.writeBacklog n { d2 with host := { d2.host with lostRun := 0, lostFirst := 0, lostLast := 0 } }

/-- Whether vector 0 is due: the record count or the delay of EVQ_IRQ, or every shadow write with both 0 (R340). -/
def Device.evqIrqDue (d : Device) : Bool :=
  let cnt := d.host.evqIrq.toNat % 65536
  let delay := d.host.evqIrq.toNat / 65536
  (cnt == 0 && delay == 0) || (cnt != 0 && decide (cnt ≤ d.host.unreported)) ||
    (delay != 0 && d.pastOpt d.host.visFrom (usT delay))

/-- Signal vector 0 and begin a new count of unreported records (R340). -/
def Device.evqSignal (d : Device) : Device :=
  let d := d.msix 0
  { d with host := { d.host with unreported := 0, visFrom := none } }

/-- Records wait that the queue has room for. -/
def Device.canDrain (d : Device) : Bool := !(d.evqSpace == 0 || d.host.backlog.isEmpty)

/-- Write what the queue has room for (R341). -/
def Device.drainRecords (d : Device) : Device := Device.writeBacklog d.host.backlog.length d

/-- The tail shadow after records, then vector 0 if due (R340). -/
def Device.drainShadow (d : Device) : Device :=
  let addr := d.host.shadowH.toNat * 2 ^ 32 + (d.host.shadowL.toNat / 8) * 8
  let shadow := d.host.evqTail.toNat + 2 ^ 32 * ((d.host.evqSeq - 1).toNat)
  let d := d.post { HostWrite.reset with kind := 2, addr := addr, seq := shadow, bytes := leBytes 8 shadow }
  if d.evqIrqDue then d.evqSignal else d

/-- Write what the queue has room for, then the tail shadow, then vector 0 if due (R340, R341). -/
def Device.drain (d : Device) : Device := if d.canDrain then d.drainRecords.drainShadow else d

/-! ## Completions (R326 to R328, R344) -/

/-- How a command ends: its status, DETAIL and RESULT (Tables 11-4 and 11-5). -/
structure Ending where
  /-- STATUS. -/
  status : Nat
  /-- DETAIL. -/
  detail : Nat
  /-- RESULT. -/
  result : Nat
  deriving DecidableEq, Repr

/-- OK with a RESULT. -/
def Ending.ok (result : Nat) : Ending := { status := 0x00, detail := 0, result := result }
/-- UNKNOWN. -/
def Ending.unknown : Ending := { status := 0x01, detail := 0, result := 0 }
/-- MALFORMED, with the offset of the first bad field. -/
def Ending.malformed (offset : Nat) : Ending := { status := 0x02, detail := offset, result := 0 }
/-- RANGE, with the index of the pair. -/
def Ending.range (index : Nat) : Ending := { status := 0x03, detail := index, result := 0 }
/-- RULE, with rule, class and instance. -/
def Ending.rule (rule cls inst : Nat) : Ending := { status := 0x04, detail := rule + 256 * cls + 65536 * inst, result := 0 }
/-- STATE, with the state code and, for parameters, the class. -/
def Ending.state (code cls : Nat) : Ending := { status := 0x05, detail := code + 256 * cls, result := 0 }
/-- BUSY. -/
def Ending.busy : Ending := { status := 0x06, detail := 0, result := 0 }
/-- QUEUE_FULL. -/
def Ending.queueFull : Ending := { status := 0x07, detail := 0, result := 0 }
/-- ROLE. -/
def Ending.role : Ending := { status := 0x08, detail := 0, result := 0 }
/-- DMA. -/
def Ending.dma (detail : Nat) : Ending := { status := 0x09, detail := detail, result := 0 }
/-- AUTH, with the check number. -/
def Ending.auth (check : Nat) : Ending := { status := 0x0A, detail := check, result := 0 }
/-- REFUSED, with a condition number. -/
def Ending.refused (cond : Nat) : Ending := { status := 0x0B, detail := cond, result := 0 }
/-- REFUSED, with a mask in RESULT. -/
def Ending.refusedMask (mask : Nat) : Ending := { status := 0x0B, detail := 0, result := mask }
/-- NO_ID, with the index of the pair. -/
def Ending.noId (index : Nat) : Ending := { status := 0x0C, detail := index, result := 0 }

/-- Post a command's completion: event records first, then the entry with PHASE, then the tail shadow (the order of R344), then the channel's vector unless NOIRQ (R323, R327). The completion of a command in flight at a host-interface reset is discarded (R346), as is one of a channel that is not enabled. -/
def Device.complete (d : Device) (h : CmdHdr) (e : Ending) : Device :=
  if d.host.discarding.contains h then
    { d with host := { d.host with discarding := d.host.discarding.erase h, outstanding := d.host.outstanding.erase h } }
  else
    let evs := d.host.cmdEvents
    let wrote := d.canDrain
    let d := if wrote then d.drainRecords else d
    let rest := fun (d : Device) => if wrote then d.drainShadow else d
    match d.host.chans[h.chan]? with
    | none => rest d
    | some ch =>
      if !ch.enabled then rest d else
      let base := ch.cplH.toNat * 2 ^ 32 + (ch.cplL.toNat / 512) * 512
      let c : Completion := { hdr := h, status := e.status, events := evs, detail := BitVec.ofNat 32 e.detail, ctb := d.now, result := BitVec.ofNat 64 e.result }
      let d := d.post { HostWrite.reset with kind := 1, addr := base + 32 * (h.count % 16), cpl := some c, bytes := c.bytes }
      let d := { d with host := { d.host with
          outstanding := d.host.outstanding.erase h
          chans := upd d.host.chans h.chan fun x => { x with completed := (x.completed + 1) % 32, inflight := x.inflight - 1 } } }
      let d := rest d
      if h.noirq then d else d.msix (1 + h.chan)

/-- A host-memory access of a command failed: DMA error since enable (HST_STAT [2]). -/
def Device.dmaFail (d : Device) : Device := { d with host := { d.host with dmaErr := true } }

/-- A host-interface error is counted (R9, R322). -/
def Device.hostErr (d : Device) : Device := { d with host := { d.host with errCnt := inc32 d.host.errCnt } }

/-- A write of a word whose register implements the bits of mask: non-zero reserved bits are ignored and counted (R9). -/
def Device.reserved (d : Device) (v : BitVec 32) (mask : Nat) : Device :=
  if v.toNat &&& (2 ^ 32 - 1 - mask) = 0 then d else d.hostErr

end Sys2Proof.Machine
end

