-- ==== Sys2Proof/Machine/Soffit.lean ====
section
/-! DEFINITION. Soffit's 2 GiB (R407): bytes in one canonical form, reads, and the writes that a command posts and that are carried out at its end. -/

namespace Sys2Proof.Machine

/-- What a byte of Soffit that nothing has written reads as (assumption log 6). -/
abbrev soffitBlank : BitVec 8 := 0

/-- The bytes of Soffit in use in one canonical form: addresses rising, none equal to an unwritten byte. -/
def Memory.wf : List Host.Cell → Bool
  | [] => true
  | c :: r => c.2 != soffitBlank && (r.all fun x => decide (c.1 < x.1)) && Memory.wf r

/-- One byte read. -/
def memGet (m : List Host.Cell) (a : Nat) : BitVec 8 := ((m.find? fun c => c.1 == a).map fun c => c.2).getD soffitBlank

/-- One byte written, the form kept. -/
def memPut : List Host.Cell → Nat → BitVec 8 → List Host.Cell
  | [], a, b => if b = soffitBlank then [] else [(a, b)]
  | c :: r, a, b =>
    if c.1 < a then c :: memPut r a b
    else
      let rest := if c.1 = a then r else c :: r
      if b = soffitBlank then rest else (a, b) :: rest

/-- Bytes written from an address on, wrapping at the end of Soffit. -/
def memWrite : List Host.Cell → Nat → List (BitVec 8) → List Host.Cell
  | m, _, [] => m
  | m, a, b :: r => memWrite (memPut m (a % 2 ^ 31) b) (a + 1) r

/-- Bytes of Soffit from an address, wrapping at its end. -/
def Device.soffit (d : Device) (addr len : Nat) : List (BitVec 8) := (List.range len).map fun i => memGet d.recd.mem ((addr + i) % 2 ^ 31)

/-- Post a write to Soffit. -/
def Device.soffitWrite (d : Device) (addr : Nat) (l : List (BitVec 8)) : Device := { d with recd := { d.recd with posted := d.recd.posted ++ [(addr, l)] } }

/-- The content after a command: what it held before, or nothing where the command cleared it, and then the posted writes in order. -/
def Device.soffitAfter (before after : Device) : List Host.Cell :=
  after.recd.posted.foldl (fun m w => memWrite m w.1 w.2) (if after.recd.wiped then [] else before.recd.mem)

/-- The posted writes of a command are carried out. -/
def Device.carryOut (before after : Device) : Device :=
  { after with recd := { after.recd with mem := before.soffitAfter after, posted := [], wiped := false } }

end Sys2Proof.Machine
end

