-- ==== Sys2Proof/Machine/Time.lean ====
section
/-! DEFINITION. What time does of itself: the timebase, the station clocks, the level-mode counters; the DIGITAL word and its log; and the frame in which every command's effect runs. -/

namespace Sys2Proof.Machine

/-! ## Performance counters (R455 to R458) -/

/-- The EVENT field of a counter configuration (PMC_CFG [7:0]). -/
def PmcCounter.event (c : PmcCounter) : Nat := c.cfg.toNat % 256
/-- EDGE (PMC_CFG [8]). -/
def PmcCounter.edge (c : PmcCounter) : Bool := c.cfg.getLsbD 8
/-- CHAIN (PMC_CFG [9]). -/
def PmcCounter.chain (c : PmcCounter) : Bool := c.cfg.getLsbD 9
/-- EN (PMC_CFG [10]). -/
def PmcCounter.en (c : PmcCounter) : Bool := c.cfg.getLsbD 10

/-- Change the counters of a block. -/
def Device.setCtrs (d : Device) (b : Nat) (f : List PmcCounter → List PmcCounter) : Device :=
  { d with zep := { d.zep with pmc := { d.zep.pmc with ctrs := upd d.zep.pmc.ctrs b f } } }

/-- Counter i of block b. -/
def Device.ctr (d : Device) (b i : Nat) : PmcCounter := (d.zep.pmc.ctrs.getD b []).getD i PmcCounter.reset

/-- A wrap of counter i: the chained counter above takes it, unless its configuration is written in the same tick, or the overflow bit is set and EV_PMC_WRAP raised (R458). The first argument bounds the chain. -/
def Device.ctrWrap : Nat → Device → Nat → Nat → Device
  | 0, d, _, _ => d
  | n + 1, d, b, i =>
    let up := d.ctr b (i + 1)
    if i < 15 && up.en && up.chain then
      if up.wrote = some d.now then d
      else if up.value + 1 < 2 ^ 48 then d.setCtrs b fun l => upd l (i + 1) fun c => { c with value := c.value + 1 }
      else Device.ctrWrap n (d.setCtrs b fun l => upd l (i + 1) fun c => { c with value := 0 }) b (i + 1)
    else
      ((d.setCtrs b fun l => upd l i fun c => { c with ovf := true }).hwSet (0x201200 + 4 * b) (2 ^ i)).raiseRated "EV_PMC_WRAP" 1 0 b [(b : Int), (i : Int)]

/-- Add to a counter, with its wrap (R456, R458). -/
def Device.ctrAdd (d : Device) (b i n : Nat) : Device :=
  let v := (d.ctr b i).value + n
  let d' := d.setCtrs b fun l => upd l i fun c => { c with value := v % 2 ^ 48 }
  if v < 2 ^ 48 then d' else Device.ctrWrap 16 d' b i

/-- n occurrences of a signal: a counter in edge mode adds them, one in level mode the ticks in which they fell, at most 16 in one tick (R456; assumption log 9). A configuration written in this tick does not apply yet. -/
def Device.pmcPulse (d : Device) (b code n : Nat) : Device :=
  (List.range 16).foldl (fun d i =>
    let c := d.ctr b i
    if n = 0 || !c.en || c.chain || c.event ≠ code || c.wrote = some d.now then d
    else if c.edge then d.ctrAdd b i n
    else if n = 1 then d.ctrAdd b i 1
    else
      let (k, d) := d.draw
      d.ctrAdd b i (min n (max ((n + 15) / 16) (Config.busyTicks k b code n)))) d

/-- Whether any comparator's fast or hard level is outside (Table 17-1). -/
def Device.anyOutside (d : Device) (hard : Bool) : Bool :=
  d.meas.cmps.any fun c => if hard then c.hardOut else c.fastOut

/-- A TRIP_IN is active after its filter and polarity (Table 15-1, bits 39 to 24). -/
def Device.tinActive (d : Device) (i : Nat) : Bool :=
  let lv := (d.prot.tins.getD i TripIn.reset).level
  if Par.protTinPolarity d.P i = 0 then lv else !lv

/-- n changes of a level signal to active, counted by the counters of the block in edge mode (R456). -/
def Device.pmcRise (d : Device) (b code n : Nat) : Device :=
  (List.range 16).foldl (fun d i =>
    let c := d.ctr b i
    if c.en && !c.chain && c.edge && c.event == code && c.wrote != some d.now then d.ctrAdd b i n else d) d

/-- A blanking window of some comparator is open now. -/
def Device.blankOpen (d : Device) : Bool :=
  d.prot.blank.any fun b => b.windows.any fun w => decide (w.1 ≤ d.now) && decide (d.now < w.2)
/-- Intervals in the order of their starts, joined where they overlap or touch. -/
def joinSpans (l : List (Tick × Tick)) : List (Tick × Tick) :=
  (orderBy (fun x y => decide (x.1 ≤ y.1)) l).foldr (fun x acc =>
    match acc with
    | [] => [x]
    | y :: r => if y.1 ≤ x.2 then (x.1, max x.2 y.2) :: r else x :: y :: r) []
/-- Ticks of the span after now in which some blanking window is open, and how many of the joined windows open in it. -/
def Device.blankTicks (d : Device) (span : Nat) : Nat × Nat :=
  let stop := d.now + span
  let l := joinSpans (d.prot.blank.flatMap BlankCmp.windows)
  ((l.map fun w => min w.2 stop - max w.1 d.now).sum, (l.filter fun w => decide (d.now < w.1) && decide (w.1 ≤ stop)).length)

/-- A ring of a Purlin is in wrap. -/
def Device.wrapOf (d : Device) (purlin : Nat) : Bool :=
  (List.range 6).any fun i => (d.link.rings.getD (6 * purlin + i) Ring.reset).wrap

/-- The level of a signal of Table 17-1 that the state holds; none for one it does not hold (assumption log 9). -/
def Device.levelOf (d : Device) (b code : Nat) : Option Bool :=
  match b, code with
  | 0, 5 => some d.eh.handling.isSome
  | 2, 5 => some d.blankOpen
  | 2, 6 => some ((List.range 16).any d.tinActive)
  | 2, 7 => some d.prot.burst
  | 3, 4 => some (d.wrapOf 0)
  | 4, 4 => some (d.wrapOf 1)
  | 5, 3 => some (d.anyOutside false)
  | 5, 4 => some (d.anyOutside true)
  | _, _ => none

/-- Whether a code names a signal that the state does not hold (Table 17-1). -/
def hiddenLevel (b code : Nat) : Bool :=
  (b == 0 && (code ≤ 1 || code == 4)) || (b == 1 && code ≤ 5) || (b == 2 && code ≤ 2) || (b == 5 && code == 5) || (b == 6 && code ≤ 1)

/-- What the counters add over a span of ticks: a level that stood throughout, the span; the blanking windows, their own time in it; a hidden level, a free value of at most the span (R456). -/
def Device.pmcSpan (d : Device) (span : Nat) : Device :=
  if span = 0 then d else
  let opened := d.blankTicks span
  (List.range 7).foldl (fun d b =>
    (List.range 16).foldl (fun d i =>
      let c := d.ctr b i
      if !c.en || c.chain then d else
      if b = 2 && c.event = 5 then d.ctrAdd 2 i (if c.edge then opened.2 else opened.1) else
      match d.levelOf b c.event with
      | some lv => if !c.edge && lv then d.ctrAdd b i span else d
      | none =>
        if hiddenLevel b c.event then
          let (n, d) := d.draw
          d.ctrAdd b i (min span (Config.busyTicks n b (c.event + if c.edge then 256 else 0) span))
        else d) d) d

/-! ## Station clocks (R397) -/

/-- k increments added to a station clock, its nanoseconds rolling over at 10^9. -/
def StClock.tick (c : StClock) (k : Nat) : StClock :=
  let total := ((c.s * 1000000000 + c.ns) * 2 ^ 32 + c.frac) + k * (c.incNs * 2 ^ 32 + c.incFrac)
  { c with frac := total % 2 ^ 32
           ns := (total / 2 ^ 32) % 1000000000
           s := ((total / 2 ^ 32) / 1000000000) % 2 ^ 48 }

/-- The time of a station clock in ns. -/
def StClock.timeNs (c : StClock) : Rat := ((c.s * 1000000000 + c.ns : Nat) : Rat) + (c.frac : Rat) / 2 ^ 32

/-- STCLK ticks in a span of the CTB: 8 ns each, off-rate by the margin in force, while the CTB is pulled (R374, R379). -/
def Device.stTicks (d : Device) (span : Nat) : Rat :=
  (span : Rat) * (5 / 32) * (1 + d.clk.margin / 100) / (1 + d.clk.pull / 1000000)

/-- The station clocks over a span of the CTB (R397). -/
def Device.scSpan (d : Device) (span : Nat) : Device :=
  let total := d.net.stPhase + d.stTicks span
  let k := total.floor.toNat
  { d with net := { d.net with stPhase := total - (k : Rat), clocks := d.net.clocks.map fun c => c.tick k } }

/-- The device at an instant: the timebase moves on, never back, and with it the station clocks and the counters. One exact count stands for the CTB copies of islands 3, 4, 5, 6 and 9, whose difference within ±1 LSB the spec leaves open (R33; DESIGN CHOICE, assumption log 125). -/
def Device.advance (d : Device) (t : Tick) : Device :=
  if t ≤ d.now then d else
  let span := t - d.now
  { (d.scSpan span).pmcSpan span with now := t }

/-! ## The DIGITAL word (Table 15-1) -/

/-- The DIGITAL word as it stands now. -/
def Device.digital (d : Device) : BitVec 128 :=
  let cmps := d.meas.cmps
  let bits :=
    ((List.range 12).map fun j => (cmps.getD j Comparator.reset).fastOut) ++
    ((List.range 12).map fun j => (cmps.getD j Comparator.reset).hardOut) ++
    ((List.range 16).map d.tinActive) ++
    ((List.range 2).flatMap fun b => [(d.grid.brk.getD b Breaker.reset).a.filt, (d.grid.brk.getD b Breaker.reset).b.filt]) ++
    ((List.range 4).flatMap fun n => [(d.safety.ins.getD n SafeIn.reset).a, (d.safety.ins.getD n SafeIn.reset).b]) ++
    ((List.range 6).map fun n => (d.safety.outs.getD n SafeOut.reset).hs && (d.safety.outs.getD n SafeOut.reset).ls) ++
    [d.prot.burst, d.prot.blocked, false, false, false, false] ++
    ((List.range 48).map fun i => (d.prot.srcs.getD i TripSrc.reset).latch == 1)
  BitVec.ofNat 128 (ofBits bits)

/-- Log a change of the DIGITAL word (R410), and let the triggers see it (R418). -/
def Device.logDigital (d : Device) : Device :=
  let w := d.digital
  let last := (d.recd.digLog.head?).getD (0, 0)
  if last.2 = w then d else
  let d := d.trigDigital last.2 w last.1
  { d with recd := { d.recd with digLog := (d.now, w) :: d.recd.digLog } }

/-- Count the level signals that became active in this command, in edge mode (R456); the blanking windows are counted with the time. -/
def Device.countEdges (d : Device) : Device :=
  let now := (List.range 7).map fun b => (List.range 8).map fun c => (d.levelOf b c).getD false
  let rose : List (Nat × Nat) := (List.range 7).flatMap fun b => ((List.range 8).filter fun c =>
    !(b == 2 && c == 5) && (now.getD b []).getD c false && !((d.zep.pmc.levels.getD b []).getD c false)).map fun c => (b, c)
  let d := rose.foldl (fun d bc => d.pmcRise bc.1 bc.2 1) d
  { d with zep := { d.zep with pmc := { d.zep.pmc with levels := now } } }

/-! ## The frame of every command -/

/-- A command's effect on the device at an instant: time moves on to it, the effect runs, and what other parts watch is noted: event records written (counter signal 0.3), the DIGITAL word, level signals. -/
def Device.at_ (d : Device) (t : Tick) (f : Device → Device) : Device :=
  let d := d.advance t
  let d := { d with host := { d.host with cmdEvents := false } }
  let d' := f d
  (d'.pmcPulse 0 3 (d'.host.evqSeq - d.host.evqSeq).toNat).logDigital.countEdges

/-- A command's outcome: always a next state, in which the queue stands as before and the posted writes to Soffit are carried out. -/
def State.on (s : State) (t : Tick) (f : Device → Device) : Host.Outcome State Fault Refusal :=
  .next { s with dev := s.dev.carryOut (s.dev.at_ t f) }

end Sys2Proof.Machine
end

