-- ==== Sys2Proof/Machine/Sequence.lean ====
section
/-! DEFINITION. Shared operations of the breakers, the trajectory engine's queue and the black-start and landing sequences (R119 to R140). -/

namespace Sys2Proof.Machine

/-! ## Changing one part -/

/-- Change the sequence state. -/
def Device.setSeq (d : Device) (f : Seq → Seq) : Device := { d with grid := { d.grid with seq := f d.grid.seq } }
/-- Change the trajectory engine. -/
def Device.setTraj (d : Device) (f : Traj → Traj) : Device := { d with grid := { d.grid with tr := f d.grid.tr } }
/-- Change ride-through. -/
def Device.setRide (d : Device) (f : Ride → Ride) : Device := { d with grid := { d.grid with ride := f d.grid.ride } }
/-- Change breaker b. -/
def Device.setBrk (d : Device) (b : Nat) (f : Breaker → Breaker) : Device := { d with grid := { d.grid with brk := upd d.grid.brk b f } }
/-- Change the converter state part. -/
def Device.setConv (d : Device) (f : Conv → Conv) : Device := { d with conv := f d.conv }
/-- Change protection. -/
def Device.setProt (d : Device) (f : Prot → Prot) : Device := { d with prot := f d.prot }
/-- Change modulation. -/
def Device.setModu (d : Device) (f : Modu → Modu) : Device := { d with modu := f d.modu }
/-- Change the safety functions. -/
def Device.setSaf (d : Device) (f : Safety → Safety) : Device := { d with safety := f d.safety }
/-- Change twin operation. -/
def Device.setTwin (d : Device) (f : Twin → Twin) : Device := { d with twin := f d.twin }
/-- Change the host interface. -/
def Device.setHost (d : Device) (f : HostPort → HostPort) : Device := { d with host := f d.host }
/-- Change the cell links. -/
def Device.setLink (d : Device) (f : Link → Link) : Device := { d with link := f d.link }
/-- Change the control law. -/
def Device.setLaw (d : Device) (f : Law → Law) : Device := { d with law := f d.law }
/-- Change the packs. -/
def Device.setPacks (d : Device) (f : Packs → Packs) : Device := { d with packs := f d.packs }
/-- Change measurement. -/
def Device.setMeas (d : Device) (f : Meas → Meas) : Device := { d with meas := f d.meas }

/-! ## Converter states (Table 12-6) -/

/-- OFF. -/
abbrev stOff : Nat := 0
/-- STANDBY. -/
abbrev stStandby : Nat := 1
/-- CHARGED. -/
abbrev stCharged : Nat := 2
/-- ENERGISE. -/
abbrev stEnergise : Nat := 3
/-- LANDING. -/
abbrev stLanding : Nat := 4
/-- RUN. -/
abbrev stRun : Nat := 5
/-- HOLD. -/
abbrev stHold : Nat := 7
/-- MAINT. -/
abbrev stMaint : Nat := 8

/-- The state code shown: RIDE in place of RUN (Table 12-6). -/
def Device.stateCode (d : Device) : Nat := if d.conv.state = stRun && d.grid.ride.active then 6 else d.conv.state

/-- OFF or MAINT, where "state" items and many commands are accepted. -/
def Device.offOrMaint (d : Device) : Bool := d.conv.state == stOff || d.conv.state == stMaint

/-- A device in SAFE-HOLD (Table 12-4). -/
def Device.inSafeHold (d : Device) : Bool := d.conv.level == 2

/-- A Standby of a twin pair. -/
def Device.standby (d : Device) : Bool := d.straps.twinEn && !d.twin.active
/-- Channels A and B evaluate: neither in safe hold nor held in reset. -/
def Device.bslRuns (d : Device) : Bool := !d.safety.safeHold && !d.safety.inReset && !d.conv.bslReset

/-! ## Breakers (R127 to R131) -/

/-- Breaker b as the state holds it. -/
def Device.brkAt (d : Device) (b : Nat) : Breaker := d.grid.brk.getD b Breaker.reset

/-- A breaker is FAULTY (R130). -/
def Breaker.faulty (x : Breaker) : Bool := x.discFault || x.chatFault

/-- Position from the debounced contacts and the FAULTY latch: 0 OPEN, 1 CLOSED, 2 TRAVEL, 3 FAULTY (Table 4-3, R129). -/
def Breaker.position (x : Breaker) : Nat :=
  if x.faulty then 3 else
  match x.a.deb, x.b.deb with
  | some true, some false => 1
  | some false, some true => 0
  | _, _ => 2

/-- The main breaker's position is OPEN. -/
def Device.mbOpen (d : Device) : Bool := (d.brkAt 0).position == 0
/-- The main breaker's position is CLOSED. -/
def Device.mbClosed (d : Device) : Bool := (d.brkAt 0).position == 1
/-- A breaker that some function uses: its role is not 0 (R130). -/
def Device.brkUsed (d : Device) (b : Nat) : Bool := Par.brkRole d.P b != 0
/-- Some breaker that a function uses is FAULTY (R130). -/
def Device.anyBrkFaulty (d : Device) : Bool := (List.range 2).any fun b => d.brkUsed b && (d.brkAt b).faulty

/-- A close command for breaker b: the output is asserted at the next boundary (R131); a Standby asserts none (R314). -/
def Device.closeCommand (d : Device) (b : Nat) : Device :=
  if d.standby then d else d.setBrk b fun x => { x with closeReq := true, release := false }

/-- BRKb_CLOSE at its pin: Bailsil holds it inactive in safe hold and while SBT of the breaker is latched (R278), and a Standby holds it inactive (R314). -/
def Device.closePin (d : Device) (b : Nat) : Bool :=
  (d.brkAt b).closeOut && !d.standby && !d.safety.safeHold && !d.conv.bslReset && !d.safety.fns.getD (1 + b) false

/-- Withdrawal of a close command: the output is released at the next boundary, and the limit of R131 stops. -/
def Device.withdrawClose (d : Device) (b : Nat) : Device :=
  let x := d.brkAt b
  if x.closeReq || x.closeOut || x.closePend then
    (d.setBrk b fun x => { x with closeReq := false, closePend := false, release := x.closeOut }).setSeq fun q => { q with withdrawn := true }
  else d

/-! ## Moves (R121 to R123) -/

/-- An axis returns to TRACK from the position and velocity it has reached (R123). -/
def Axis.toTrack (a : Axis) : Axis := { a with mode := 0, move := none, seg := 0, segAt := 0, replan := false }

/-- End the moves that satisfy p: axes executing one return to TRACK, and queued ones are discarded. -/
def Traj.drop (t : Traj) (p : Move → Bool) : Traj :=
  let ax := fun (a : Axis) => match a.move with
    | some m => if p m then a.toTrack else a
    | none => a
  { t with phase := ax t.phase, amp := ax t.amp, queue := t.queue.filter fun m => !p m }

/-- An axis that a sequence keeps on a locked base returns to TRACK. -/
def Traj.free (t : Traj) : Traj :=
  let ax := fun (a : Axis) => if a.mode = 2 then a.toTrack else a
  { t with phase := ax t.phase, amp := ax t.amp }

/-- The moves that satisfy p, executing and queued. -/
def Traj.countMoves (t : Traj) (p : Move → Bool) : Nat :=
  let ax := fun (a : Axis) => match a.move with
    | some m => if p m then 1 else 0
    | none => 0
  ax t.phase + ax t.amp + (t.queue.filter p).length

/-- Segment slots in use (R123). -/
def Traj.slotsUsed (t : Traj) : Nat :=
  let ax := fun (a : Axis) => match a.move with
    | some m => m.segs.length
    | none => 0
  ax t.phase + ax t.amp + (t.queue.map fun m => m.segs.length).sum

/-- End host moves, discard queued ones and raise EV_TR_FLUSHED (R123). -/
def Device.flushMoves (d : Device) : Device :=
  let n := d.grid.tr.countMoves fun m => m.host
  (d.setTraj fun t => t.drop fun m => m.host).raise "EV_TR_FLUSHED" 2 0 0 [(n : Int)]

/-- Every move ends and is discarded, as in a state without the law: there θ runs at gf.f_set and E is 0 (R119). -/
def Device.dropMoves (d : Device) : Device := d.setTraj fun t => (t.drop fun _ => true).free

/-! ## Ends of the sequences -/

/-- End a sequence that runs, with a reason, without an abort hold (R134, R362). -/
def Device.endSequence (d : Device) (reason : Nat) : Device :=
  if d.grid.seq.phase = 0 then d else
  ((d.withdrawClose 0).setTraj fun t => (t.drop fun m => !m.host).free).setSeq
    fun q => { q with phase := 0, abort := reason, caught := false, rampDown := false, dwellFrom := none, deadFrom := none, liveFrom := none }

/-- A landing phase before the abort hold (R138). -/
def Device.landing (d : Device) : Bool := decide (6 ≤ d.grid.seq.phase) && decide (d.grid.seq.phase ≤ 9)

/-- Abort the landing move: the close command is withdrawn, the sequence's moves are discarded, both axes hold what they have reached, EV_LAND_ABORT (R139). -/
def Device.landAbort (d : Device) (reason : Nat) : Device :=
  if !d.landing then d else
  (((d.withdrawClose 0).setTraj fun t => (t.drop fun m => !m.host).free).setSeq
    fun q => { q with phase := 10, abort := reason, since := d.now, rampDown := false, dwellFrom := none }).raise "EV_LAND_ABORT" 2 8 0 [(reason : Int)]

/-- What a trip latch set does to a sequence: a landing is aborted (R139); a black start ends (assumption log 10). -/
def Device.tripSequence (d : Device) : Device :=
  if d.landing then d.landAbort 7
  else if 1 ≤ d.grid.seq.phase && d.grid.seq.phase ≤ 5 then d.endSequence 7
  else d

end Sys2Proof.Machine
end

