-- ==== Sys2Proof/Machine/Trip.lean ====
section
/-! DEFINITION. Trip sources, latches and the Squall (R231 to R253): the operations that every path to a Squall shares. -/

namespace Sys2Proof.Machine

/-- Trip source i as the state holds it. -/
def Device.srcAt (d : Device) (i : Nat) : TripSrc := d.prot.srcs.getD i TripSrc.reset

/-- A blanking window of comparator j is open now: its gate is closed (R234). -/
def Device.windowOpen (d : Device) (j : Nat) : Bool :=
  (d.prot.blank.getD j BlankCmp.reset).windows.any fun w => decide (w.1 ≤ d.now) && decide (d.now < w.2)

/-- Source i's input is active in this sample: of a fast level only while its gate is open (R234), of the host trip only in its one sample (R253). -/
def Device.srcActive (d : Device) (i : Nat) : Bool :=
  if i = 46 then d.prot.hostTripUntil.any fun (u : Tick) => decide (d.now < u)
  else (d.srcAt i).active && !(decide (16 ≤ i) && decide (i < 28) && d.windowOpen (i - 16))

/-- Change trip source i. -/
def Device.setSrc (d : Device) (i : Nat) (f : TripSrc → TripSrc) : Device := d.setProt fun p => { p with srcs := upd p.srcs i f }

/-- The arms associated with a source, bits 0 to 2 for U, V, W (Table 8-1). -/
def Device.srcArms (d : Device) (i : Nat) : Nat :=
  if i < 16 then Par.protTinArms d.P i
  else if i < 40 then
    let j := if i < 28 then i - 16 else i - 28
    if j ≤ 5 then 2 ^ (j % 3) else 7
  else 7

/-- A mask of arms names exactly one. -/
def oneArm (m : Nat) : Bool := m == 1 || m == 2 || m == 4

/-- What an assertion adds to the trip record. -/
structure TripNote where
  /-- Arms associated with the source in this assertion. -/
  arms : Nat
  /-- AFTER_BLANK (R236). -/
  afterBlank : Bool := false
  /-- REJECT_EDGE (R246). -/
  rejectEdge : Bool := false
  /-- Control-trip cause (R250). -/
  cause : Nat := 0
  /-- Multi-arm by R245. -/
  multi : Bool := false
  deriving DecidableEq, Repr

/-- Resumes following auto-clear whose edges lie within the prot.auto_win that ends now (R249). -/
def Device.autoCount (d : Device) : Nat :=
  (d.prot.autoResumes.filter fun (t : Tick) => decide (((d.now : Rat) - (t : Rat)) ≤ sT (Par.protAutoWin d.P))).length

/-- The first trigger of a Squall: it is counted, and the limit of R249 is checked; in an active state it will enter HOLD (R361). -/
def Device.squallBegins (d : Device) : Device :=
  let d := d.setProt fun p => { p with sqCnt := inc32 p.sqCnt, sqFrom := d.now }
  let d := d.setConv fun c => { c with trigSquall := true }
  if Par.protAutoMax d.P ≤ d.autoCount then
    (d.setProt fun p => { p with autoDisabled := true }).raise "EV_TRIP_AUTO_LIMIT" 3 0 0 [(d.autoCount : Int)]
  else d

/-- Every arm is blocked: the residues are 0 and the gate-strength loop is frozen (R240, R156, R255). -/
def Device.blockArms (d : Device) : Device :=
  let d := d.setProt fun p => { p with blocked := true, gateFrozen := true, recoverUntil := none, resumeEdge := none }
  let d := d.setConv fun c => { c with restart := false }
  d.setModu fun m => { m with arms := m.arms.map fun a => { a with rho := 0, recoverLeft := 0 } }

/-- A Squall trigger: the burst starts or is extended, and every arm is blocked (R237, R240). -/
def Device.squallTrigger (d : Device) : Device :=
  let first := !d.prot.burst
  let d := d.setProt fun p => { p with burst := true, lastTrigger := d.now, echoFrom := none }
  let d := if first then d.squallBegins else d
  let d := d.blockArms
  d.tripSequence

/-- The trip record after an assertion of source i: created by the first trigger that finds the arms unblocked, completed within prot.multi_win (R241). -/
def Device.recordTrip (d : Device) (i : Nat) (note : TripNote) : Device :=
  let fresh := !d.prot.blocked
  let r := if fresh then { TripRec.reset with ctb := d.now, primary := i, open_ := true } else d.prot.record
  if !r.open_ || d.pastBeyond r.ctb (usT (Par.protMultiWin d.P)) then d else
  let single := r.singleArms.toNat ||| (if oneArm note.arms then note.arms else 0)
  let r' : TripRec := { r with
    srcs := BitVec.ofNat 48 (r.srcs.toNat ||| 2 ^ i)
    primary := if r.ctb = d.now then min r.primary i else r.primary
    arms := BitVec.ofNat 3 (r.arms.toNat ||| note.arms)
    singleArms := BitVec.ofNat 3 single
    multiArm := r.multiArm || note.multi || (single != 0 && !oneArm single)
    afterBlank := r.afterBlank || note.afterBlank
    rejectEdge := r.rejectEdge || note.rejectEdge
    ctlCause := if note.cause = 0 then r.ctlCause else note.cause }
  let d := d.setProt fun p => { p with record := r' }
  if fresh then d.recEvent 0 d.now else d

/-- A clear request is rejected: counted, and EV_TRIP_CLEAR_REJECTED with the source and the stage; of stage 1, one per source and round (R246, R248). -/
def Device.rejectClear (d : Device) (i stage : Nat) : Device :=
  let d := d.setProt fun p => { p with rejCnt := inc32 p.rejCnt }
  if stage = 1 then d.raiseRated "EV_TRIP_CLEAR_REJECTED" 3 5 i [(i : Int), (stage : Int)]
  else d.raise "EV_TRIP_CLEAR_REJECTED" 3 5 i [(i : Int), (stage : Int)]

/-- An assertion of source i: the latch is SET and a Squall triggered; a CLEAR latch raises EV_TRIP, a PENDING clear is rejected at stage 2 (Table 8-4). -/
def Device.assertSrc (d : Device) (i : Nat) (note : TripNote) : Device :=
  let was := (d.srcAt i).latch
  if was = 1 then d else
  let d := if was = 2 then d.rejectClear i 2 else d
  let d := d.recordTrip i note
  -- the record is this Squall's own where the Squall's first trigger made it (R249)
  let own := d.prot.record.ctb == (if d.prot.burst then d.prot.sqFrom else d.now)
  let d := d.setSrc i fun s => { s with latch := 1, quietFrom := none, autoReq := false, noAuto := own && d.prot.record.multiArm }
  let d := if was = 2 then d else d.raise "EV_TRIP" 3 5 i [(i : Int)]
  d.squallTrigger

/-- Source i's input becomes active: it asserts while its latch is CLEAR or PENDING (R231). In the sample of the resume edge a PENDING latch is left to the next-edge rule (R246). -/
def Device.inputActive (d : Device) (i : Nat) (note : TripNote) : Device :=
  if (d.srcAt i).active then d else
  let d := d.setSrc i fun s => { s with active := true, arms := note.arms, activeFrom := d.now, reminded := 0, quietFrom := none }
  if (d.srcAt i).latch = 2 && d.prot.resumeEdge = some d.now then d else
  d.assertSrc i note

/-- Source i's input becomes inactive: the auto-clear delay begins (R249). -/
def Device.inputInactive (d : Device) (i : Nat) : Device :=
  if !(d.srcAt i).active then d else
  d.setSrc i fun s => { s with active := false, quietFrom := some d.now }

/-- Source i's input at a level, with its ordinary association. -/
def Device.setInput (d : Device) (i : Nat) (active : Bool) : Device :=
  if active then d.inputActive i { arms := d.srcArms i } else d.inputInactive i

/-- The control trip (source 42) with its cause (R250): its input is active to the end of the cycle. -/
def Device.controlTrip (d : Device) (cause : Nat) : Device := d.inputActive 42 { arms := 7, cause := cause }

/-- The control trip MULTI_DESAT with the arms of the cells; of two or more arms the record is multi-arm, also where the later onset finds the input already active (R245). -/
def Device.desatTrip (d : Device) (arms : Nat) : Device :=
  let note : TripNote := { arms := arms, multi := !oneArm arms }
  if (d.srcAt 42).active then d.recordTrip 42 note else d.inputActive 42 { note with cause := 5 }

/-- No latch is SET. -/
def Device.noLatchSet (d : Device) : Bool := d.prot.srcs.all fun s => s.latch != 1

/-- Every latch is CLEAR. -/
def Device.allClear (d : Device) : Bool := d.prot.srcs.all fun s => s.latch == 0

/-- The mask of sources with a property, bit i for source i. -/
def Device.srcMask (d : Device) (p : TripSrc → Bool) : Nat := ofBits ((List.range 48).map fun i => p (d.srcAt i))

/-- Whether the chatter detector calls an input FAULTY: the newest transition and the n-th newest lie within the window of w ticks (R233). -/
def chatters (trans : List Tick) (n : Nat) (w : Rat) : Bool :=
  match trans.head?, trans[n - 1]? with
  | some newest, some old => decide (((newest : Rat) - (old : Rat)) ≤ w)
  | _, _ => false

/-- The last n transitions with a new one (R233). -/
def noteTransition (trans : List Tick) (t : Tick) (n : Nat) : List Tick := (t :: trans).take (max n 1)

end Sys2Proof.Machine
end

