-- ==== Sys2Proof/Machine/Operands.lean ====
section
/-! DEFINITION. Operand forms: the ARGS of a mailbox command, little-endian fields and byte lists, check sums and SHAKE256. -/

namespace Sys2Proof.Machine

/-! ## Register offsets -/

/-- Whether the word at an offset has a command of its own for its writes. -/
def ownRow (off : Nat) : Bool :=
  [0x8, 0x14, 0x1C, 0x20C, 0x210, 0x4004, 0x7020, 0x9100, 0x400024, 0x400114, 0x400128, 0x400214, 0x400228, 0x20122C].contains off ||
    (0x100 ≤ off && off < 0x120) || (0x201000 ≤ off && off < 0x2011C0)

/-! ## ARGS of a mailbox command (Table 11-3) -/

/-- ARGS: bytes 8 to 63 of a command entry, byte 8 in the low byte. -/
abbrev Args := BitVec 448

/-- The little-endian field of a command entry at a byte offset of the entry, at least 8. -/
def arg (a : Args) (off len : Nat) : Nat := (a.toNat / 256 ^ (off - 8)) % 256 ^ len

/-- The offset of the first byte of ARGS that is not 0 and belongs to none of the used fields (offset, length) (R327). -/
def firstStray (a : Args) (used : List (Nat × Nat)) : Option Nat :=
  (List.range 56).map (· + 8) |>.find? fun o => arg a o 1 != 0 && !(used.any fun u => decide (u.1 ≤ o) && decide (o < u.1 + u.2))

/-- The smaller of two offsets of which one may be missing. -/
def minOpt (a b : Option Nat) : Option Nat :=
  match a, b with
  | some x, some y => some (min x y)
  | none, y => y
  | x, none => x

/-- A command with FENCE waits while an earlier command of its channel is in flight (R326). -/
def Device.fenced (d : Device) (h : CmdHdr) : Bool :=
  h.fence && (d.host.outstanding.takeWhile fun x => x != h).any fun x => x.chan == h.chan

/-- A mailbox command: stray bytes, or a field out of its bounds at an offset, complete it with MALFORMED; otherwise its body runs, and completes it unless it ends later. A start that FENCE does not yet allow has no effect. Counter signal 0.2 counts the start. -/
def Device.cmdIf (d : Device) (h : CmdHdr) (a : Args) (used : List (Nat × Nat)) (bad : Option Nat) (body : Device → Device × Option Ending) : Device :=
  if d.fenced h then d else
  let d := d.pmcPulse 0 2 1
  match minOpt (firstStray a used) bad with
  | some o => d.complete h (.malformed o)
  | none =>
    match body d with
    | (d', some e) => d'.complete h e
    | (d', none) => d'

/-- A mailbox command with no field out of bounds. -/
def Device.cmd (d : Device) (h : CmdHdr) (a : Args) (used : List (Nat × Nat)) (body : Device → Device × Option Ending) : Device :=
  d.cmdIf h a used none body

/-- The first bad offset of a list of (offset, bad). -/
def firstBad (l : List (Nat × Bool)) : Option Nat := (l.find? fun x => x.2).map fun x => x.1

/-- A body that ends at once. -/
def ends (d : Device) (e : Ending) : Device × Option Ending := (d, some e)

/-! ## Check sums -/

/-- One step of a check sum taken most significant bit first. -/
def crcStepMsb (width poly : Nat) (reg : Nat) (bitIn : Bool) : Nat :=
  let top := (reg / 2 ^ (width - 1)) % 2 == 1
  let sh := (reg * 2) % 2 ^ width
  if top != bitIn then sh ^^^ poly else sh

/-- A check sum over bytes, each byte most significant bit first, from an initial register. -/
def crcMsb (width poly init : Nat) (l : List (BitVec 8)) : Nat :=
  l.foldl (fun reg b => (List.range 8).foldl (fun r i => crcStepMsb width poly r (b.getLsbD (7 - i))) reg) init

/-- One step of a check sum taken least significant bit first (poly in reflected form). -/
def crcStepLsb (poly : Nat) (reg : Nat) (bitIn : Bool) : Nat :=
  let low := reg % 2 == 1
  let sh := reg / 2
  if low != bitIn then sh ^^^ poly else sh

/-- A check sum over bytes, each byte least significant bit first, from an initial register. -/
def crcLsb (poly init : Nat) (l : List (BitVec 8)) : Nat :=
  l.foldl (fun reg b => (List.range 8).foldl (fun r i => crcStepLsb poly r (b.getLsbD i)) reg) init

/-- CRC-16 of R201. -/
def crc16 (l : List (BitVec 8)) : Nat := crcMsb 16 0x1021 0xFFFF l
/-- CRC-32 with the IEEE 802.3 parameters. -/
def crc32 (l : List (BitVec 8)) : Nat := crcLsb 0xEDB88320 0xFFFFFFFF l ^^^ 0xFFFFFFFF
/-- The prefix SEQ, RING of a record. -/
def recPrefix (seq ring : Nat) : List (BitVec 8) := leBytes 2 seq ++ leBytes 1 ring

/-! ## SHAKE256 (FIPS 202) -/

/-- The rotations of the 24 lanes that step ρ moves, as pairs of a lane and its offset: from lane (1, 0) the walk goes from (x, y) to (y, 2x + 3y), and its t-th lane turns by (t + 1)(t + 2)/2. Lane (x, y) stands at x + 5y. -/
def rhoWalk : Nat → Nat → Nat × Nat → List (Nat × Nat)
  | 0, _, _ => []
  | left + 1, t, (x, y) => (x + 5 * y, (t + 1) * (t + 2) / 2 % 64) :: rhoWalk left (t + 1) (y, (2 * x + 3 * y) % 5)
/-- The shift register of step ι, of period 255. -/
def iotaShift (r : Nat) : Nat := if 128 ≤ r then (2 * r % 256) ^^^ 0x71 else 2 * r
/-- The constants of step ι for some rounds from a register on: its seven outputs of a round stand at bits 0, 1, 3, 7, 15, 31 and 63. -/
def iotaConsts : Nat → Nat → List (BitVec 64)
  | 0, _ => []
  | rounds + 1, r =>
    let (v, r) := [0, 1, 3, 7, 15, 31, 63].foldl (fun (acc : Nat × Nat) b => (acc.1 + (acc.2 % 2) * 2 ^ b, iotaShift acc.2)) (0, r)
    BitVec.ofNat 64 v :: iotaConsts rounds r
/-- 25 lanes from a function of x and y. -/
def byLane (f : Nat → Nat → BitVec 64) : List (BitVec 64) := (List.range 5).flatMap fun y => (List.range 5).map fun x => f x y
/-- Lane (x, y), with both taken modulo 5. -/
def laneAt (s : List (BitVec 64)) (x y : Nat) : BitVec 64 := s.getD (x % 5 + 5 * (y % 5)) 0
/-- The column parities of step θ. -/
def parities (s : List (BitVec 64)) : List (BitVec 64) :=
  (List.range 5).map fun x => (List.range 5).foldl (fun v y => v ^^^ laneAt s x y) 0
/-- One round of the permutation: θ, then ρ and π, then χ and ι. -/
def permRound (turns : List (Nat × Nat)) (s : List (BitVec 64)) (rc : BitVec 64) : List (BitVec 64) :=
  let par := parities s
  let mixed := byLane fun x y => laneAt s x y ^^^ laneAt par (x + 4) 0 ^^^ (laneAt par (x + 1) 0).rotateLeft 1
  let moved := byLane fun x y => (laneAt mixed (x + 3 * y) x).rotateLeft ((turns.lookup ((x + 3 * y) % 5 + 5 * x)).getD 0)
  let out := byLane fun x y => laneAt moved x y ^^^ (laneAt moved (x + 2) y &&& ~~~laneAt moved (x + 1) y)
  out.set 0 (out.getD 0 0 ^^^ rc)
/-- The permutation of 1,600 bits under SHAKE256. -/
def permute1600 (s : List (BitVec 64)) : List (BitVec 64) := (iotaConsts 24 1).foldl (permRound (rhoWalk 24 0 (1, 0))) s

/-- Eight bytes as a lane, the first byte lowest. -/
def lanesOf (l : List (BitVec 8)) (n : Nat) : List (BitVec 64) := (List.range n).map fun i => packBytes 64 ((l.drop (8 * i)).take 8)

/-- Absorb the padded message, 136 bytes a block; the first argument bounds the blocks. -/
def shakeAbsorb : Nat → List (BitVec 64) → List (BitVec 8) → List (BitVec 64)
  | 0, s, _ => s
  | n + 1, s, m =>
    let blk := lanesOf m 17
    let s := permute1600 ((List.range 25).map fun i => s.getD i 0 ^^^ blk.getD i 0)
    if m.length ≤ 136 then s else shakeAbsorb n s (m.drop 136)

/-- SHAKE256 of a message: the first n bytes of its output, at most 136. -/
def shake256 (m : List (BitVec 8)) (n : Nat) : List (BitVec 8) :=
  let q := 136 - m.length % 136
  let pad : List (BitVec 8) := if q = 1 then [0x9F] else [0x1F] ++ List.replicate (q - 2) 0 ++ [0x80]
  let p := m ++ pad
  let s := shakeAbsorb (p.length / 136) (List.replicate 25 0) p
  ((s.take 17).flatMap fun l => leBytes 8 l.toNat).take n

/-! ## Identity (R442) -/

/-- The 1,793 bytes of the Falcon-1024 public key. -/
def pubKey : List (BitVec 8) := (List.range 1793).map Config.publicKey

/-- The device identity: the first 32 bytes of SHAKE256 over the public key (R442). -/
def identity : List (BitVec 8) := shake256 pubKey 32

end Sys2Proof.Machine
end

