-- ==== Sys2Proof/Machine/ParamOps.lean ====
section
/-! DEFINITION. Parameters: the word of a value (R506), staging checks (R331), the sets, the consistency rules of Table 19-7 (R507), and the points at which committed values apply (R333). -/

namespace Sys2Proof.Machine

/-! ## IEEE 754 binary32 (R506) -/

/-- The integer nearest to a / b, ties to even. -/
def divEven (a b : Nat) : Nat :=
  let q := a / b
  let r := a % b
  if 2 * r < b then q else if b < 2 * r then q + 1 else if q % 2 = 0 then q else q + 1

/-- a / b as a binary32 magnitude, rounded to nearest, ties to even; beyond the largest finite value, infinity. -/
def f32Mag (a b : Nat) : Nat :=
  if a = 0 then 0 else
  -- the exponent e with 2^e ≤ a / b < 2^(e+1), held at the subnormal limit
  let g : Int := (Nat.log2 a : Int) - (Nat.log2 b : Int)
  let below : Bool := if 0 ≤ g then decide (a < b * 2 ^ g.toNat) else decide (a * 2 ^ (-g).toNat < b)
  let e : Int := max (if below then g - 1 else g) (-126)
  let shift : Int := 23 - e
  let n := if 0 ≤ shift then divEven (a * 2 ^ shift.toNat) b else divEven a (b * 2 ^ (-shift).toNat)
  let w : Int := (e + 126) * 2 ^ 23 + n
  min w.toNat 0x7F800000

/-- The binary32 word nearest to a number. -/
def toF32 (x : Rat) : BitVec 32 := BitVec.ofNat 32 (f32Mag x.num.natAbs x.den + if x < 0 then 2 ^ 31 else 0)

/-- The number a binary32 word stands for; none for infinities and not-a-number. -/
def fromF32 (w : BitVec 32) : Option Rat :=
  let e := bits w.toNat 30 23
  let m : Nat := w.toNat % 2 ^ 23
  if e = 255 then none else
  let mag : Rat := if e = 0 then (m : Rat) / ((2 ^ 149 : Nat) : Rat)
    else if 150 ≤ e then (((2 ^ 23 + m) * 2 ^ (e - 150) : Nat) : Rat) else ((2 ^ 23 + m : Nat) : Rat) / ((2 ^ (150 - e) : Nat) : Rat)
  some (if w.msb then -mag else mag)

/-! ## Rows and sets -/

/-- Class of an ID (R10). -/
def pClass (id : Nat) : Nat := id / 2 ^ 24
/-- Instance of an ID. -/
def pInst (id : Nat) : Nat := (id / 2 ^ 12) % 2 ^ 12
/-- Item of an ID. -/
def pItem (id : Nat) : Nat := id % 2 ^ 12
/-- The ID of a class, an instance and an item. -/
def pId (cls inst item : Nat) : Nat := cls * 2 ^ 24 + inst * 2 ^ 12 + item

/-- Whether a row lists an item of an instance of a class. -/
def PRow.has (r : PRow) (cls inst item : Nat) : Bool :=
  r.cls == cls && decide (r.inst0 ≤ inst) && decide (inst < r.inst0 + r.insts) &&
    decide (r.item0 ≤ item) && (item - r.item0) % r.stride == 0 && decide ((item - r.item0) / r.stride < r.items)

/-- The row of a parameter ID; none for an unknown ID (R503). -/
def rowOf (id : Nat) : Option PRow := pRows.find? fun r => r.has (pClass id) (pInst id) (pItem id)

/-- The default of an ID. -/
def dfltOf (id : Nat) : Rat :=
  match dfltByIndex (pClass id) (pInst id) (pItem id), rowOf id with
  | some v, _ => v
  | none, some r => r.dflt
  | none, none => 0

/-- The value of an ID in a set. -/
def PSet.at_ (s : PSet) (id : Nat) : Rat := s.val id (dfltOf id)

/-- The IDs of a row, rising. -/
def PRow.ids (r : PRow) : List Nat :=
  (List.range r.insts).flatMap fun n => (List.range r.items).map fun j => pId r.cls (r.inst0 + n) (r.item0 + j * r.stride)

/-- Every parameter ID (R503). -/
def allIds : List Nat := pRows.flatMap PRow.ids

/-- An entry put in its place of a list in rising order, replacing one of the same ID. -/
def putSorted (id : Nat) (v : Rat) : List (Nat × Rat) → List (Nat × Rat)
  | [] => [(id, v)]
  | (k, w) :: r => if id < k then (id, v) :: (k, w) :: r else if id = k then (id, v) :: r else (k, w) :: putSorted id v r

/-- A value put into a set: a value equal to the default is not listed. -/
def PSet.put (s : PSet) (id : Nat) (v : Rat) : PSet :=
  if v = dfltOf id then s.filter fun p => p.1 != id else putSorted id v s

/-! ## Words (R506) -/

/-- The word of a value. -/
def PRow.word (r : PRow) (v : Rat) : BitVec 32 :=
  match r.kind with
  | .int => BitVec.ofInt 32 v.floor
  | .q n => BitVec.ofInt 32 (v * 2 ^ n).floor
  | .real => toF32 v

/-- The word of a committed or default value, 0 for an unknown ID. -/
def wordOf (s : PSet) (id : Nat) : BitVec 32 :=
  match rowOf id with
  | none => 0
  | some r => r.word (s.at_ id)

/-- x as binary32, for the bounds of a real item (assumption log 11). -/
def asF32 (x : Rat) : Rat := (fromF32 (toF32 x)).getD x

/-- Fields inside an item whose row bounds them: length and period of prof[p].tx[q].ctl, width of prof[p].tx[q].counter (Table 6-7). -/
def fieldsOk (id : Nat) (v : Rat) : Bool :=
  let n := v.floor.toNat
  let item := pItem id
  if pClass id = 0x07 && 0x010 ≤ pInst id && pInst id < 0x018 then
    if item = 0x21 || item = 0x29 then
      decide (bits n 3 0 ≤ 8) && bits n 7 4 == 0 && bits n 31 24 == 0 &&
        (bits n 23 8 == 0 || (decide (10 ≤ bits n 23 8) && decide (bits n 23 8 ≤ 10000)))
    else if item = 0x24 || item = 0x2C then decide (bits n 9 6 ≤ 8) && bits n 31 10 == 0
    else true
  else true

/-- The value that a staged word stands for, as the device stores it; none where it is outside range or step, or cannot be taken (R331, R506). -/
def PRow.take (r : PRow) (id : Nat) (w : BitVec 32) : Option Rat :=
  let raw : Option Rat := match r.kind with
    | .int => some (if r.signed then (w.toInt : Rat) else (w.toNat : Rat))
    | .q n => some ((if r.signed then (w.toInt : Rat) else (w.toNat : Rat)) / 2 ^ n)
    | .real => fromF32 w
  match raw with
  | none => none
  | some v =>
    if !r.vals.isEmpty then (if r.vals.contains v then some v else none)
    else if r.orZero && v = 0 then some 0
    else
      let real := r.kind == .real
      let lo := if real then asF32 r.lo else r.lo
      let hi := if real then asF32 r.hi else r.hi
      if v < lo || hi < v then none
      else if r.step = 0 then (if fieldsOk id v then some v else none)
      else
        let k := rround (v / r.step)
        let off := rabs (v - (k : Rat) * r.step)
        if real then (if off ≤ r.step / 1000 then some ((k : Rat) * r.step) else none)
        else if off = 0 then some v else none

/-! ## The safety set's check value (R292) -/

/-- CRC-32C of a byte list (R286). -/
def crc32c (l : List (BitVec 8)) : Nat := crcLsb 0x82F63B78 0xFFFFFFFF l ^^^ 0xFFFFFFFF

/-- The ID of saf.cfg_crc. -/
def cfgCrcId : Nat := 0x0A000004

/-- The check input of a set: the 37 items of class 0x0A other than saf.cfg_crc, in ascending ID. -/
def checkInput (s : PSet) : List (BitVec 8) :=
  let ids := (orderBy (fun a b => decide (a ≤ b)) (pRows0A.flatMap PRow.ids)).filter (· != cfgCrcId)
  ids.flatMap fun id => leBytes 4 id ++ leBytes 4 (wordOf s id).toNat

/-- The check value of a set. -/
def checkValue (s : PSet) : Nat := crc32c (checkInput s)

/-! ## Consistency rules (R507, Table 19-7) -/

/-- The first broken rule of a list of (rule, instance, holds). -/
def firstBroken (l : List (Nat × Nat × Bool)) : Option (Nat × Nat) :=
  (l.find? fun r => !r.2.2).map fun r => (r.1, r.2.1)

/-- One rule over instances: the first instance that breaks it. -/
def ruleOver (rule base : Nat) (l : List Nat) (ok : Nat → Bool) : List (Nat × Nat × Bool) :=
  l.map fun i => (rule, base + i, ok i)

/-- Tc of a set in µs. -/
def tcUs (s : PSet) : Rat := Par.convTc s / 10

/-- Fields of a sequence entry (Table 2-2). -/
def seqMux (w : Nat) : Nat := bits w 1 0
/-- AVG. -/
def seqAvg (w : Nat) : Nat := bits w 7 4
/-- SHIFT. -/
def seqShift (w : Nat) : Nat := bits w 11 8
/-- STREAM. -/
def seqStream (w : Nat) : Nat := bits w 22 16
/-- EN. -/
def seqEn (w : Nat) : Bool := bit w 31

/-- The active prefix of a table of entries: an inactive entry ends the sequence. -/
def activeEntries (l : List Nat) : List Nat := l.takeWhile seqEn

/-- Cycle entries of converter n. -/
def cycTable (s : PSet) (n : Nat) : List Nat := (List.range 4).map (Par.measAdcCycEntry s n)
/-- Auxiliary entries of converter n. -/
def auxTable (s : PSet) (n : Nat) : List Nat := (List.range 16).map (Par.measAdcAuxEntry s n)
/-- Gust entries of converter n. -/
def gustTable (s : PSet) (n : Nat) : List Nat := (List.range 4).map (Par.measAdcGustEntry s n)

/-- No active entry follows an inactive one. -/
def noGap : List Nat → Bool
  | [] => true
  | a :: r => if seqEn a then noGap r else r.all fun b => !seqEn b

/-- Streams the grid-forming law uses (R61, R108). -/
def lawStreams (s : PSet) : List Nat :=
  (List.range 3).map (Par.gfStreamIMain s) ++ (List.range 3).map (Par.gfStreamISec s) ++
  (List.range 3).map (Par.gfStreamVConv s) ++ (List.range 3).map (Par.gfStreamVPcc s) ++
  (if Par.gfSetpPSrc s = 1 || Par.gfSetpQSrc s = 1 then [Par.measSetpAinStream s] else [])

/-- No value occurs twice. -/
def distinct : List Nat → Bool
  | [] => true
  | a :: r => !r.contains a && distinct r

/-- Cluster-0 workload in clocks (Table 3-6). -/
def clusterLoad (s : PSet) : Nat :=
  1140 + (if Par.gfNegseqEn s then 240 else 0) + 150 * Par.gfHarmCount s

/-- Cells expected in all (R105). -/
def cellsTotal (s : PSet) : Nat := ((List.range 12).map (Par.ringCellsExpected s)).sum

/-- A field of a mapping lies within the 8 data bytes (R186). -/
def mapFits (w1 : Nat) : Bool :=
  let start := bits w1 5 0
  let len := bits w1 10 6 + 1
  if bit w1 11 then decide (8 * (start / 8) + (7 - start % 8) + len ≤ 64) else decide (start + len ≤ 64)

/-- TARGET of a mapping. -/
def mapTarget (w1 : Nat) : Nat := bits w1 17 13

/-- Word 1 of the used mappings of profile p. -/
def usedMaps (s : PSet) (p : Nat) : List Nat :=
  ((List.range 16).map fun m => Par.profMapWord s p m 1).filter fun w => mapTarget w != 0

/-- Types of Table 15-4 that suit a kind of source. -/
def trigSuits (type kind : Nat) : Bool :=
  match type with
  | 0 => decide (kind ≤ 4)
  | 1 => decide (kind ≤ 2)
  | 2 => decide (kind ≤ 2)
  | 3 => decide (kind ≤ 1)
  | 4 => decide (kind ≤ 2)
  | 5 => decide (kind ≤ 1)
  | 6 => kind == 3
  | 7 => kind == 4
  | _ => false

/-- The largest index of a kind of source (R418). -/
def trigIndexMax : Nat → Nat
  | 0 => 63
  | 1 => 63
  | 2 => 111
  | 3 => 7
  | 4 => 3
  | _ => 0

/-- Point times of mask m do not decrease, and lo does not exceed hi, over its n points. -/
def maskOk (s : PSet) (m : Nat) : Bool :=
  let n := Par.recMaskN s m
  decide (2 ≤ n) && decide (n ≤ 16) &&
    (List.range (n - 1)).all (fun p => decide (Par.recMaskTime s m p ≤ Par.recMaskTime s m (p + 1))) &&
    (List.range n).all fun p => decide (Par.recMaskLo s m p ≤ Par.recMaskHi s m p)

/-- A set of staged IDs changes an item: its staged value differs from the committed one (R332). -/
def Device.changes (d : Device) (id : Nat) : Bool :=
  match d.par.staged.lookup id with
  | none => false
  | some v => v != PSet.at_ d.par.committed id

/-- The set a commit would leave: staged values over committed ones. -/
def Device.effSet (d : Device) : PSet := d.par.staged ++ d.par.committed

/-- IDs of a class whose staged value differs from the committed one. -/
def Device.changedOf (d : Device) (cls : Nat) : List Nat :=
  (d.par.staged.filter fun p => pClass p.1 == cls && d.changes p.1).map Prod.fst

/-- Instances, from a base, among changed IDs of a class. -/
def Device.changedInsts (d : Device) (cls base n : Nat) : List Nat :=
  let ids := d.changedOf cls
  (List.range n).filter fun i => ids.any fun id => pInst id == base + i

/-- The rules of a class on the set s, in rule-number order: (rule, instance, holds). -/
def Device.rulesOf (d : Device) (s : PSet) (cls : Nat) : List (Nat × Nat × Bool) :=
  let armCells := fun a => ((List.range 12).filter fun r => Par.ringArm s r == a)
  match cls with
  | 0x01 => [(1, 0, !d.straps.twinEn || decide (14 ≤ tcUs s))]
  | 0x02 =>
    [(1, 0, [0, 1, 2].all fun a => (armCells a).any (· < 6) && (armCells a).any (6 ≤ ·)),
     (2, 0, [0, 1, 2].all fun a => decide (((armCells a).map (Par.ringCellsExpected s)).sum ≤ 128))] ++
    ruleOver 3 0 (List.range 12) (fun r => Par.ringArm s r == 3 || decide (1 ≤ Par.ringCellsExpected s r)) ++
    ruleOver 4 0 (List.range 12) (fun r => Par.ringArm s r != 3 || Par.ringCellsExpected s r == 0)
  | 0x03 =>
    let tabs := fun n => [cycTable s n, auxTable s n, gustTable s n]
    let feeding := (List.range 16).flatMap fun n =>
      ((cycTable s n ++ auxTable s n).filter seqEn).map seqStream |>.filter (· != 127)
    ruleOver 1 0x040 (List.range 16) (fun n => ((tabs n).flatMap id).all fun w => decide (seqShift w ≤ seqAvg w)) ++
    [(2, 0, distinct feeding)] ++
    ruleOver 3 0x040 (List.range 16) (fun n => (tabs n).all noGap) ++
    ruleOver 4 0x040 (List.range 16) (fun n => ((tabs n).flatMap id).all fun w =>
      bits w 3 2 == 0 && bits w 15 12 == 0 && bits w 30 23 == 0 && decide (seqAvg w ≤ 8) && (decide (seqStream w ≤ 63) || seqStream w == 127)) ++
    ruleOver 5 0x040 (List.range 16) (fun n =>
      let c := activeEntries (cycTable s n)
      !c.isEmpty && decide ((c.map fun w => 2 ^ seqAvg w).sum ≤ 4)) ++
    ruleOver 6 0x040 (List.range 16) (fun n => ((auxTable s n ++ gustTable s n).filter seqEn).all fun w =>
      decide (((2 ^ seqAvg w : Nat) : Rat) / 10 ≤ tcUs s - 2 / 5)) ++
    ruleOver 7 0x060 (List.range 12) (fun j =>
      decide (Par.measCmpFastLo s j < Par.measCmpFastHi s j) && decide (Par.measCmpHardLo s j ≤ Par.measCmpFastLo s j) &&
        decide (Par.measCmpFastHi s j ≤ Par.measCmpHardHi s j)) ++
    ruleOver 8 0 (List.range 64) (fun x => decide (Par.measStreamRank s x ≤ Par.measStreamRankWin s x)) ++
    ruleOver 9 0x040 (List.range 16) (fun n => decide (Par.measAdcAuxOffset s n ≤ tcUs s - 1 / 10))
  | 0x04 =>
    let h := Par.gfHarmCount s
    [(1, 0, decide (Par.gfFMin s < Par.gfFSet s) && decide (Par.gfFSet s < Par.gfFMax s)),
     (2, 0, decide (Par.gfEMin s < Par.gfVSet s) && decide (Par.gfVSet s < Par.gfEMax s)),
     (3, 0, decide (Par.gfPMin s ≤ Par.gfPSet s) && decide (Par.gfPSet s ≤ Par.gfPMax s) &&
       decide (Par.gfQMin s ≤ Par.gfQSet s) && decide (Par.gfQSet s ≤ Par.gfQMax s)),
     (4, 1, !(Par.gfSetpPSrc s == Par.gfSetpQSrc s && Par.gfSetpPSrc s != 0)),
     (4, 0, distinct ((List.range h).map (Par.gfHarmOrder s))),
     (4, 3, distinct ((List.range 3).map (Par.gfStreamIMain s) ++ (List.range 3).map (Par.gfStreamISec s) ++
         (List.range 3).map (Par.gfStreamVConv s) ++ (List.range 3).map (Par.gfStreamVPcc s))),
     (5, 0, decide (clusterLoad s ≤ 2118)),
     (6, 0, decide ((cellsTotal s : Rat) * (tcUs s / 1000) * 6 ≤ 4 * tcUs s - 44 / 5))]
  | 0x05 =>
    [(1, 0, decide (Par.rtVLoEnter s < Par.rtVLoExit s) && decide (Par.rtVLoExit s ≤ 1) &&
       decide (1 ≤ Par.rtVHiExit s) && decide (Par.rtVHiExit s < Par.rtVHiEnter s)),
     (2, 0, decide (Par.rtVnegExit s < Par.rtVnegEnter s) && decide (Par.rtCviI0 s ≤ Par.rtIMax s)),
     (3, 2, decide (Par.bsDeadV s < Par.bsLiveV s)),
     (4, if Par.brkRole s 0 = 1 then 5 else 4, Par.brkRole s 0 == 1 && Par.brkRole s 1 != 1),
     (5, 0, decide (Par.landRocofMax s ≤ Par.trRocofMax s))]
  | 0x06 =>
    ruleOver 1 0 (List.range 12) (fun r => decide (Par.ringDeadTime s r ≤ Par.ringMinPulse s r)) ++
    ruleOver 2 0 ((List.range 12).filter fun r => Par.ringArm s r != 3) (fun r => decide (Par.ringMinPulse s r ≤ Par.modBsRefresh s)) ++
    [(3, 0, decide (10 * tcUs s ≤ 1000 * Par.modBsWindow s)),
     (4, 0, decide (Par.modVArmMin s < Par.modVArmFull s))]
  | 0x07 =>
    let ps := d.changedInsts 0x07 0x010 8
    ps.flatMap fun p =>
      let maps := usedMaps s p
      let i := 0x010 + p
      [(1, i, maps.any fun w => mapTarget w == 5),
       (2, i, distinct (maps.map mapTarget)),
       (3, i, maps.all mapFits),
       (4, i, decide (Par.profTChgLo s p + 2 * Par.profTHyst s p < Par.profTChgHi s p) &&
         decide (Par.profTDisLo s p + 2 * Par.profTHyst s p < Par.profTDisHi s p)),
       (5, i, decide (Par.profVMin s p < Par.profVMax s p)),
       (6, i, (List.range 16).all fun m =>
         bits (Par.profMapWord s p m 0) 31 30 == 0 && bits (Par.profMapWord s p m 1) 23 18 == 0 &&
           decide (mapTarget (Par.profMapWord s p m 1) ≤ 16))]
  | 0x08 => ruleOver 1 0 (List.range 8) (fun x => (List.range 63).all fun j => decide (Par.chemPoint s x j % 65536 ≤ Par.chemPoint s x (j + 1) % 65536))
  | 0x09 =>
    let busy := fun i => (d.prot.srcs.getD i TripSrc.reset).latch != 0
    [(1, 0, decide (Par.protChopOffRel s < Par.protChopOnRel s)),
     (2, 0, decide (Par.protBlankT s ≤ 1000 * Par.protBlankMax s))] ++
    ruleOver 3 0x010 (List.range 16) (fun i =>
      !(busy i && ((d.changes (pId 0x09 (0x010 + i) 1) && Par.protTinMode s i == 0) || d.changes (pId 0x09 (0x010 + i) 2)))) ++
    ruleOver 4 0x010 (List.range 16) (fun i => Par.protTinArms s i != 0)
  | 0x0A =>
    [(1, 0, (d.par.staged.lookup cfgCrcId).isSome && checkValue s == Par.safCfgCrc s),
     (2, 2, decide (Par.safSlpLimitLo s ≤ Par.safSlpLimitHi s)),
     (3, 1, !Par.safScEnable s || Par.safScCidLo s != 0 || Par.safScCidHi s != 0)] ++
    ruleOver 4 0x010 (List.range 4) (fun n =>
      let f := Par.safSinFunc s n
      !bit f 5 || (f == 32 && (Par.safSinType s n == 1 || Par.safSinType s n == 2)))
  | 0x0E =>
    [(1, 0, decide (Par.clkCyclePhase s < tcUs s))] ++
    ruleOver 2 1 (List.range 2) (fun o => decide (Par.clkoutDelay s o + 1 ≤ Par.clkoutDiv s o))
  | 0x0F => [(1, 0, !(Par.scEnable s 0 && Par.scEnable s 1 && Par.scDomain s 0 == Par.scDomain s 1))]
  | 0x10 =>
    let held := d.recd.state == 1 || d.recd.state == 2
    let fixed := [pId 0x10 0 1, pId 0x10 0 2, pId 0x10 0 3]
    [(1, 0, !(held && (d.changedOf 0x10).any fun id => fixed.contains id || decide (0x030 ≤ pInst id)))] ++
    ruleOver 2 0x010 (List.range 16) (fun x =>
      let src := Par.recTrigSrc s x
      let kind := bits src 15 12
      trigSuits (Par.recTrigType s x) kind && decide (bits src 7 0 ≤ trigIndexMax kind)) ++
    ruleOver 3 0x010 (List.range 16) (fun x => Par.recTrigQual s x != x) ++
    ruleOver 4 0x020 (List.range 4) (fun m => !Par.recMaskEnable s m || maskOk s m) ++
    ruleOver 5 0x030 (List.range 16) (fun c => Par.recRedSrc s c == 0xFFFF || decide (2 ≤ Par.recRedWindow s c))
  | 0x12 => [(1, 0, decide (Par.hkTWarn s < Par.hkTStop s))]
  | _ => []

/-- Whether a class is checked: an item of it is staged, or one of another class that a rule of it names, or Tc (R22, R332). -/
def Device.classChecked (d : Device) (cls : Nat) : Bool :=
  let staged := d.par.staged.map Prod.fst
  let tc := staged.contains (pId 0x01 0 2)
  let ring := fun items => staged.any fun id => pClass id == 0x02 && decide (pInst id < 12) && items.contains (pItem id)
  staged.any (fun id => pClass id == cls) ||
  (match cls with
   | 0x03 => tc
   | 0x04 => tc || ring [2]
   | 0x06 => tc || ring [1, 3, 4]
   | 0x0E => tc
   | _ => false)

/-- A state restriction stands on an item: its Takes effect term is "state", or it shapes a stream the law uses (R21, R61, R75, R141 and the like). -/
def Device.restricted (d : Device) (id : Nat) : Bool :=
  match rowOf id with
  | none => false
  | some r => r.takes == .state ||
    (pClass id == 0x03 && decide (pInst id < 64) && decide (1 ≤ pItem id) && decide (pItem id ≤ 3) &&
      (lawStreams d.effSet).contains (pInst id))

/-- The outcome of a commit's check: the first failure in ascending class order, state restrictions before rules (R332). -/
def Device.commitCheck (d : Device) : Option Ending :=
  (List.range 0x14).findSome? fun cls =>
    if d.classChecked cls then
      if !d.offOrMaint && d.par.staged.any (fun p => pClass p.1 == cls && d.changes p.1 && d.restricted p.1)
      then some (.state d.stateCode cls)
      else (firstBroken (d.rulesOf d.effSet cls)).map fun b => .rule b.1 cls b.2
    else none

/-! ## Application (R11, R333) -/

/-- Bring the committed values of the waiting IDs that satisfy p into force. -/
def Device.applyWaiting (d : Device) (p : Nat → Bool) : Device :=
  let go := d.par.waiting.filter p
  let force := go.foldl (fun f id => PSet.put f id (PSet.at_ d.par.committed id)) d.par.force
  { d with par := { d.par with force := force, waiting := d.par.waiting.filter fun id => !p id } }

/-- Whether an ID takes effect at a point. -/
def takesAt (x : Takes) (id : Nat) : Bool :=
  match rowOf id with
  | none => false
  | some r => r.takes == x

/-- The digest of the committed set (R335): SHAKE256 over a form of the set that the spec does not give (assumption log 12). -/
def setDigest (s : PSet) : List (BitVec 8) := shake256 (Config.setBytes s) 32

/-- A persisted copy passes its ECC and its digest check (R335). -/
def ParamCopy.checks (c : ParamCopy) : Bool := c.good && c.digest == setDigest c.set

/-- The set that a reset loads: the qualifying copy with the higher persistence number, or the defaults (R335). -/
def Device.loadable (d : Device) (c : ParamCopy) : Bool :=
  let probe := { d with par := { ParamState.reset with staged := c.set }, prot := Prot.reset, recd := Rec.reset }
  c.checks && (List.range 0x14).all fun cls => cls == 0x0A || (firstBroken (probe.rulesOf c.set cls)).isNone

/-- R292 on a persisted set, whose saf.cfg_crc counts as carried. -/
def safetySetOk (s : PSet) : Bool := checkValue s == Par.safCfgCrc s

/-- The persisted copy that a reset loads, if one qualifies. -/
def Device.bestCopy (d : Device) : Option ParamCopy :=
  let ok := d.parCopies.filter fun c => d.loadable c && safetySetOk c.set
  ok.foldl (fun best c => match best with
    | none => some c
    | some b => if b.number < c.number then some c else some b) none

/-- Load the persisted parameters at a reset: staging is emptied, and every value is in force (R333, R335). -/
def Device.loadParams (d : Device) : Device :=
  let base := { d.par with staged := [], checking := none, applying := [], waiting := [], persisting := none, persistSet := [] }
  match d.bestCopy with
  | some c => { d with par := { base with committed := c.set, force := c.set, dirty := false, defaults := false } }
  | none =>
    ({ d with par := { base with committed := [], force := [], dirty := true, defaults := true } }).raise "EV_PARAM_DEFAULTS" 0 0 0 []

end Sys2Proof.Machine
end

