-- ==== Sys2Proof/Machine/Filter.lean ====
section
/-! DEFINITION. Numbers of the datapaths: sine, cosine, square root, exponential and arc tangent, quantisers, the response ROM and the rank filter (R59). -/

namespace Sys2Proof.Machine

/-! ## Sine and cosine -/

/-- The scale of the fixed-point sine: 2^80. -/
def fxOne : Int := 2 ^ 80

/-- π at that scale. -/
def fxPi : Int := 3797952473636338580787994

/-- Product of two fixed-point numbers. -/
def fxMul (a b : Int) : Int := (a * b) / fxOne

/-- Terms of the sine series: n terms from the one whose last value is given. -/
def sinSeries (x2 : Int) : Nat → Nat → Int → Int
  | 0, _, _ => 0
  | n + 1, k, term => term + sinSeries x2 n (k + 1) (-(fxMul term x2) / ((2 * k + 2) * (2 * k + 3) : Nat))

/-- sin(2π·x) for x in turns, to within 2^-70. -/
def sinTurn (x : Rat) : Rat :=
  let f := x - ((x + 1 / 2).floor : Rat)
  let a : Int := ((f * (2 * fxPi : Int)).floor)
  (sinSeries (fxMul a a) 24 0 a : Rat) / (fxOne : Rat)

/-- cos(2π·x) for x in turns. -/
def cosTurn (x : Rat) : Rat := sinTurn (x + 1 / 4)

/-- π as a rational, to within 2^-80. -/
def piR : Rat := (fxPi : Rat) / (fxOne : Rat)

/-- √2, to 20 decimals. -/
def sqrt2 : Rat := 141421356237309504880 / 100000000000000000000
/-- √3, to 20 decimals. -/
def sqrt3 : Rat := 173205080756887729353 / 100000000000000000000

/-! ## Square root, exponential and arc tangent -/

/-- The bits below place n of the integer square root of a number, from the bits already found. -/
def isqrtBits (x : Nat) : Nat → Nat → Nat
  | 0, r => r
  | n + 1, r => isqrtBits x n (if (r + 2 ^ n) * (r + 2 ^ n) ≤ x then r + 2 ^ n else r)

/-- The integer part of the square root. -/
def isqrt (x : Nat) : Nat := isqrtBits x (x.log2 / 2 + 1) 0

/-- The square root: the least multiple of 2^-64 whose square reaches the number, 0 below 0. -/
def rsqrt (x : Rat) : Rat :=
  let n := (x * ((2 ^ 128 : Nat) : Rat)).ceil.toNat
  let s := isqrt n
  (((if s * s = n then s else s + 1) : Nat) : Rat) / ((2 ^ 64 : Nat) : Rat)

/-- Terms of the exponential series. -/
def expSeries (x : Int) : Nat → Nat → Int → Int
  | 0, _, _ => 0
  | n + 1, k, term => term + expSeries x n (k + 1) (fxMul term x / (k + 1 : Nat))

/-- A fixed-point number squared n times. -/
def squared : Nat → Int → Int
  | 0, x => x
  | n + 1, x => squared n (fxMul x x)

/-- e^x for x not above 0, to within 2^-70. -/
def rexp (x : Rat) : Rat :=
  if x = 0 then 1 else if x < -64 then 0 else
  (squared 7 (expSeries ((x / 128 * (fxOne : Rat)).floor) 24 0 fxOne) : Rat) / (fxOne : Rat)

/-- Terms of the arc-tangent series. -/
def atanSeries (x2 : Int) : Nat → Nat → Int → Int
  | 0, _, _ => 0
  | n + 1, k, pow => pow / (2 * k + 1 : Nat) + atanSeries x2 n (k + 1) (-(fxMul pow x2))

/-- tan(φ/2) of tan φ, fixed point. -/
def halfTan (t : Int) : Int := t * fxOne / (fxOne + (isqrt (fxOne * fxOne + t * t).toNat : Int))

/-- The arc tangent of a fraction, in turns. -/
def atanTurn (t : Rat) : Rat :=
  let u := halfTan (halfTan ((t * (fxOne : Rat)).floor))
  (4 * atanSeries (fxMul u u) 24 0 u : Int) / (2 * fxPi : Rat)

/-- The angle in turns of the vector with sine part y and cosine part x, between -1/2 and 1/2; 0 for no vector. -/
def ratan2 (y x : Rat) : Rat :=
  let a := if y < 0 then -y else y
  let b := if x < 0 then -x else x
  if a = 0 && b = 0 then 0 else
  let p := if a ≤ b then atanTurn (a / b) else 1 / 4 - atanTurn (b / a)
  let q := if x < 0 then 1 / 2 - p else p
  if y < 0 then -q else q

/-! ## Quantisers -/

/-- A number on a whole grid: itself where it lies on it, otherwise the step below or above, which the spec leaves open (assumption log 13). -/
def Device.quant (d : Device) (x : Rat) : Int × Device :=
  if (x.floor : Rat) = x then (x.floor, d) else
  let (n, d) := d.draw
  (x.floor + (if Config.roundUp n then 1 else 0), d)

/-! ## Response ROM (Table 2-4) -/

/-- Taps of a response code. -/
def respTaps (code : Nat) : Nat :=
  match code with
  | 0 => 1 | 1 => 3 | 2 => 5 | 3 => 8
  | _ => if code ≤ 10 then 2 ^ code else 1

/-- Decimation of a response code. -/
def respDecim (code : Nat) : Nat := if 4 ≤ code ∧ code ≤ 10 then 2 ^ (code - 3) else 1

/-- The unscaled windowed-sinc coefficient j of a code from 4 to 10. -/
def sincRaw (code j : Nat) : Rat :=
  let t := respTaps code
  let d := respDecim code
  let m : Rat := (((2 * j : Nat) : Int) - ((t - 1 : Nat) : Int) : Int)
  let w : Rat := 27 / 50 - 23 / 50 * cosTurn ((j : Rat) / ((t - 1 : Nat) : Rat))
  w * sinTurn (m / ((4 * d : Nat) : Rat)) / (piR * m / 2)

/-- The stored coefficients in units of 2^-22: scaled to a sum of 1, rounded, the residue added to the two centre ones. -/
def sincCoefs (code : Nat) : List Int :=
  let t := respTaps code
  let raw := (List.range t).map (sincRaw code)
  let total := rsum raw
  let q := raw.map fun h => rround (h / total * 4194304)
  let res := 4194304 - q.foldl (· + ·) 0
  let upper := res / 2
  (q.modify (t / 2 - 1) (· + (res - upper))).modify (t / 2) (· + upper)

/-- Coefficients of a response code, in units of 2^-22. -/
def respCoefs (code : Nat) : List Int :=
  match code with
  | 0 => [4194304]
  | 1 => [1048576, 2097152, 1048576]
  | 2 => [262144, 1048576, 1572864, 1048576, 262144]
  | 3 => List.replicate 8 524288
  | _ => if code ≤ 10 then sincCoefs code else [4194304]

/-- The response output for the newest samples, newest first. -/
def respOut (code : Nat) (hist : List Rat) : Rat :=
  rsum (((respCoefs code).zip hist).map fun p => (p.1 : Rat) * p.2) / 4194304

/-! ## Rank filter -/

/-- The sample of a rank among the window's samples: rank 1 is the smallest, rank 0 the median. -/
def rankOf (rank : Nat) (l : List Rat) : Rat :=
  let sorted := orderBy (fun a b => decide (a ≤ b)) l
  let r := if rank = 0 then (l.length + 1) / 2 else rank
  sorted.getD (min r l.length - 1) 0

/-! ## Result words (Table 2-3) -/

/-- Even parity: the number of ones is odd. -/
def oddOnes (w : BitVec 32) : Bool := (List.range 32).foldl (fun p i => p != w.getLsbD i) false

/-- The result word of an entry's samples (R54). -/
def resultWord (shift : Nat) (codes : List Nat) (refns tag : Bool) : BitVec 32 :=
  let value := codes.sum / 2 ^ shift
  let sat := codes.any fun c => c == 0 || c == 65535
  let w := BitVec.ofNat 32 (value % 2 ^ 24 + (if sat then 2 ^ 24 else 0) + (if refns then 2 ^ 25 else 0) + (if tag then 2 ^ 26 else 0))
  if oddOnes w then w ||| (1#32 <<< 31) else w

/-- The sample a result word stands for: VALUE with AVG − SHIFT fraction bits. -/
def sampleOf (w : BitVec 32) (avg shift : Nat) : Sample :=
  { code := ((w.toNat % 2 ^ 24 : Nat) : Rat) / ((2 ^ (avg - shift) : Nat) : Rat), sat := w.getLsbD 24, refns := w.getLsbD 25, tag := w.getLsbD 26 }

end Sys2Proof.Machine
end

