-- ==== Sys2Proof/Machine/Capture.lean ====
section
/-! DEFINITION. What the islands hand to the recorder as they work: parts of the frame in the making, reduction channels (R410, R412), and summaries counted for the round. -/

namespace Sys2Proof.Machine

/-- Raise at the close of the round only, with the round's count (R49, R53): occurrences are counted, and a mask of sources is gathered. -/
def Device.raiseAtClose (d : Device) (name : String) (island kind index : Nat) (mask : Nat) : Device :=
  if d.host.rates.any fun r => d.counts r name island kind index then
    let rates := d.host.rates.map fun r =>
      if d.counts r name island kind index then { r with count := r.count + 1, payload := [((((r.payload.headD 0).toNat ||| mask : Nat)) : Int)] } else r
    { d with host := { d.host with rates := rates } }
  else
    let row := { RateRow.reset with name := name, round := d.roundNow, island := island, kind := kind, index := index, count := 1, payload := [(mask : Int)] }
    { d with host := { d.host with rates := d.host.rates ++ [row] } }

/-- Change the recorder. -/
def Device.setRec (d : Device) (f : Rec → Rec) : Device := { d with recd := f d.recd }

/-- Capture runs in ARMED and POST (R413). -/
def Device.capturing (d : Device) : Bool := d.recd.state == 1 || d.recd.state == 2

/-- A change of the recorder's state signals vector 10 (R413). -/
def Device.recState (d : Device) (st : Nat) : Device :=
  if d.recd.state = st then d else (d.setRec fun r => { r with state := st }).msix 10

/-- Change the last element of a list. -/
def updLast {α : Type} (l : List α) (f : α → α) : List α := upd l (l.length - 1) f

/-- The instant t lies in a frame's cycle, or after it. -/
def RecFrame.from_ (f : RecFrame) (t : Tick) : Bool := decide (f.eK ≤ t)

/-- Change the frame of the cycle that holds an instant. -/
def Device.onFrameAt (d : Device) (t : Tick) (f : RecFrame → RecFrame) : Device :=
  let n := (d.recd.frames.filter fun x => x.from_ t).length
  if n = 0 then d else d.setRec fun r => { r with frames := upd r.frames (n - 1) f }

/-- Change the frame of a cycle, by the low 16 bits of its number. -/
def Device.onFrameOf (d : Device) (seq : BitVec 16) (f : RecFrame → RecFrame) : Device :=
  let one := fun (x : RecFrame) => if BitVec.ofNat 16 x.k = seq then f x else x
  d.setRec fun r => { r with frames := r.frames.map one }

/-- Change the frame of the cycle in progress. -/
def Device.onFrame (d : Device) (f : RecFrame → RecFrame) : Device := d.setRec fun r => { r with frames := updLast r.frames f }

/-! ## Reduction channels (R412) -/

/-- Close a window of channel c: minimum, maximum, mean and RMS, with scale steps to a code. -/
def Device.redClose (d : Device) (c : Nat) (scale : Rat) : Device :=
  let ch := d.recd.reds.getD c RedChan.reset
  let (mean, d) := d.quant (((ch.sum : Rat) / ch.n) * scale)
  let (rms, d) := d.quant (rsqrt ((ch.sq : Rat) / ch.n) * scale)
  let words : List (BitVec 32) := [BitVec.ofInt 32 ch.lo, BitVec.ofInt 32 ch.hi, BitVec.ofInt 32 mean, BitVec.ofInt 32 rms]
  d.setRec fun r => { r with reds := upd r.reds c fun _ => { RedChan.reset with last := words }, redDone := r.redDone ||| (1#16 <<< c) }

/-- One sample into channel c. -/
def Device.redTake (d : Device) (c : Nat) (v : Int) (scale : Rat) : Device :=
  let d := d.setRec fun r => { r with reds := upd r.reds c fun x =>
    { x with n := x.n + 1, lo := if x.n = 0 then v else min x.lo v, hi := if x.n = 0 then v else max x.hi v, sum := x.sum + v, sq := x.sq + v * v } }
  if Par.recRedWindow d.P c ≤ (d.recd.reds.getD c RedChan.reset).n then d.redClose c scale else d

/-- A sample of a source, by its code in rec.red[c].src, into every channel that takes it. -/
def Device.reduceFrom (d : Device) (src : Nat) (v : Int) (scale : Rat) : Device :=
  if !d.capturing then d else
  (idx 16 fun c => Par.recRedSrc d.P c == src).foldl (fun d c => d.redTake c v scale) d

/-- A conversion of a raw input at an instant: its word in the RAW group, its part in the reduction channels, and the triggers on it (Table 15-1, R412, R418). -/
def Device.rawSample (d : Device) (adc mux code : Nat) (at_ : Tick) (refns gust : Bool) : Device :=
  let w := BitVec.ofNat 32 (code + mux * 2 ^ 16 + 2 ^ 18 + (if refns then 2 ^ 19 else 0) + (if gust then 2 ^ 20 else 0))
  let d := d.onFrameAt at_ fun f => { f with raw := f.raw ++ [(adc, (at_ - f.eK) / 80, w)] }
  ((d.reduceFrom (4 * adc + mux) code 65536).trigFeed (4 * adc + mux) at_ code).pmcPulse 5 0 1

/-! ## Start events of the masks (R422) -/

/-- A start event of kind k: every enabled mask with that start, and for a trigger that trigger, runs from the next E; during a run it is ignored. -/
def Device.maskStart (d : Device) (k trig : Nat) : Device :=
  let p := d.P
  let one := fun (m : Nat) (x : MaskRun) =>
    if Par.recMaskEnable p m && Par.recMaskStart p m == k && (k != 1 || Par.recMaskStartTrig p m == trig) && !x.running && x.startAt.isNone
    then { x with startAt := some d.now } else x
  d.setRec fun r => { r with masks := r.masks.mapIdx one }

/-! ## Failure of Soffit (R413) -/

/-- Soffit is declared failed: the recorder is UNAVAILABLE, and a record in progress is lost (R355, R413). -/
def Device.recFail (d : Device) : Device :=
  let d := d.recState 4
  d.setRec fun r => { r with failed := true, cur := none, stopPend := false, stopMask := false, recNum := if r.cur.isSome then (r.recNum + 1) % 2 ^ 32 else r.recNum }

end Sys2Proof.Machine
end

