-- ==== Sys2Proof/Machine/Measurement.lean ====
section
/-! DEFINITION. Thatch: cycle, auxiliary and Gust sequences, result words, references, the filter chain, comparators and set-point inputs (R40 to R69), with the meanings of their commands. -/

namespace Sys2Proof.Machine

/-! ## Parts -/

/-- Stream s. -/
def Device.strm (d : Device) (x : Nat) : Stream := d.meas.streams.getD x Stream.reset
/-- Change stream s. -/
def Device.setStrm (d : Device) (x : Nat) (f : Stream → Stream) : Device := d.setMeas fun m => { m with streams := upd m.streams x f }
/-- Converter n. -/
def Device.adc (d : Device) (n : Nat) : Adc := d.meas.adcs.getD n Adc.reset
/-- Change converter n. -/
def Device.setAdc (d : Device) (n : Nat) (f : Adc → Adc) : Device := d.setMeas fun m => { m with adcs := upd m.adcs n f }
/-- Reference group g. -/
def Device.grp (d : Device) (g : Nat) : RefGroup := d.meas.groups.getD g RefGroup.reset
/-- Change group g. -/
def Device.setGrp (d : Device) (g : Nat) (f : RefGroup → RefGroup) : Device := d.setMeas fun m => { m with groups := upd m.groups g f }
/-- Comparator j. -/
def Device.cmp (d : Device) (j : Nat) : Comparator := d.meas.cmps.getD j Comparator.reset
/-- Change comparator j. -/
def Device.setCmp (d : Device) (j : Nat) (f : Comparator → Comparator) : Device := d.setMeas fun m => { m with cmps := upd m.cmps j f }
/-- Change the set-point inputs. -/
def Device.setSetp (d : Device) (f : Setp → Setp) : Device := d.setMeas fun m => { m with setp := f m.setp }

/-- The auxiliary entries in force of converter n. -/
def Device.auxList (d : Device) (n : Nat) : List Nat := activeEntries ((auxTable d.P n).take (Par.measAdcAuxLen d.P n))
/-- The Gust entries in force of converter n. -/
def Device.gustList (d : Device) (n : Nat) : List Nat := activeEntries ((gustTable d.P n).take (Par.measAdcGustLen d.P n))
/-- Ticks that converter n's cycle sequence takes (R43). -/
def Device.cycLen (d : Device) (n : Nat) : Nat := 80 * ((activeEntries (cycTable d.P n)).map fun w => 2 ^ seqAvg w).sum

/-- A sample at an instant was taken while its reference was not settled (R54). -/
def RefGroup.unsettledAt (g : RefGroup) (t : Tick) : Bool := !g.settled || decide (t < g.since)

/-- Restart a stream's settling: its output is suppressed (R61). -/
def Stream.restart (x : Stream) : Stream := { x with rankHist := [], respHist := [], n := 0, valid := false, satWin := false }

/-! ## Thresholds (R63, R64) -/

/-- A threshold crossing: the sticky bit and EV_STREAM_THRESHOLD, one per stream and round (R64). -/
def Device.crossing (d : Device) (x : Nat) (low : Bool) : Device :=
  let d := (d.setStrm x fun s => { s with thrSet := true }).hwSet (0x4028 + 4 * (x / 32)) (2 ^ (x % 32))
  d.raiseRated "EV_STREAM_THRESHOLD" 6 4 x [(x : Int), if low then 1 else 0, (d.strm x).out]

/-- Threshold evaluation of a new output (R63). -/
def Device.thresholds (d : Device) (x : Nat) : Device :=
  let s := d.strm x
  let y : Rat := (s.out : Rat) / 256
  let hi := Par.measStreamThrHi d.P x
  let lo := Par.measStreamThrLo d.P x
  let hyst := Par.measStreamThrHyst d.P x
  let en := Par.measStreamThrEnable d.P x
  let n := Par.measStreamThrCount d.P x
  let hiRun := if hi < y then s.hiRun + 1 else 0
  let loRun := if y < lo then s.loRun + 1 else 0
  let hiCross := bit en 0 && s.hiArmed && decide (n ≤ hiRun)
  let loCross := bit en 1 && s.loArmed && decide (n ≤ loRun)
  let d := d.setStrm x fun s => { s with
    hiRun := hiRun, loRun := loRun
    hiArmed := (s.hiArmed && !hiCross) || decide (y ≤ hi - hyst)
    loArmed := (s.loArmed && !loCross) || decide (lo + hyst ≤ y) }
  let d := if hiCross then d.crossing x false else d
  if loCross then d.crossing x true else d

/-! ## The filter chain (R54, R55, R59 to R62) -/

/-- AIN_RANGE after an output of the set-point stream (R68). -/
def Device.ainCheck (d : Device) (x : Nat) : Device :=
  if Par.measSetpAinStream d.P ≠ x then d else
  let c := (d.strm x).outCode
  let out := decide (c < (Par.measSetpAinLo d.P : Rat)) || decide ((Par.measSetpAinHi d.P : Rat) < c)
  let p := d.meas.setp
  let run := if out != p.ainRange then p.ainRun + 1 else 0
  if Par.measSetpAinFailCount d.P ≤ run then d.setSetp fun p => { p with ainRange := out, ainRun := 0 }
  else d.setSetp fun p => { p with ainRun := run }

/-- A new output of stream x from the response output c: scaling, saturation, thresholds, reduction, triggers (R59, R63, R68, R412, R418). -/
def Device.newOutput (d : Device) (x : Nat) (c : Rat) (fault : Bool) : Device :=
  let (y, d) := d.quant ((c - Par.measStreamOffset d.P x) * Par.measStreamGain d.P x * 256)
  let top : Int := 2 ^ 31 - 1
  let sat := decide (top < y) || decide (y < -top)
  let y := if top < y then top else if y < -top then -top else y
  let d := d.setStrm x fun s => { s with out := y, outCode := c, outs := (s.outs + 1) % 2 ^ 32, satOut := sat, valid := !fault }
  if fault then d else
  (((d.thresholds x).ainCheck x).reduceFrom (0x1000 + x) y 1).trigFeed (0x1000 + x) d.now y

/-- A sample into the rank filter and the response (R59 to R61). A sample that carries REFNS gives no output: the first sample after the end of REFNS counts as n = 1 (assumption log 118). -/
def Device.feed (d : Device) (x : Nat) (smp : Sample) (fault : Bool) : Device :=
  let win := Par.measStreamRankWin d.P x
  let code := Par.measStreamResp d.P x
  let taps := respTaps code
  let s := d.strm x
  let n := if smp.refns then 0 else s.n + 1
  let rank := (smp :: s.rankHist).take win
  let mid : Sample := { smp with code := rankOf (Par.measStreamRank d.P x) (rank.map Sample.code), sat := rank.any Sample.sat }
  let resp := (mid :: s.respHist).take taps
  let settled := decide (win + taps - 1 ≤ n) && !smp.refns
  let d := d.setStrm x fun s => { s with
    rankHist := rank, respHist := resp, n := n, satWin := resp.any Sample.sat, valid := s.valid && settled && !fault }
  if settled && n % respDecim code == 0 then d.newOutput x (respOut code (resp.map Sample.code)) fault else d

/-- A result word enters the chain of its stream: residue, parity, then the filter (R55, R433). -/
def Device.chainIn (d : Device) (w : RawWord) : Device :=
  if w.stream = 127 then d else
  let x := w.stream
  let fault := (d.grp (w.adc / 4)).fault
  let s := d.strm x
  if !oddOnes w.word then
    let smp := sampleOf w.word w.avg w.shift
    let d := d.setStrm x fun s => { s with parRun := 0, lastGood := smp, residue := w.word.toNat % 15 }
    d.feed x smp fault
  else
    let d := (d.setMeas fun m => { m with parErr := inc32 m.parErr }).pmcPulse 5 2 1
    let d := d.setStrm x fun s => { s with parRun := s.parRun + 1 }
    if s.parRun = 0 then d.feed x s.lastGood fault
    else
      let d := d.setStrm x Stream.restart
      if s.parRun = 1 then d.raise "EV_STREAM_FAULT" 6 4 x [(x : Int)] else d

/-! ## Conversions -/

/-- The conversions of one entry: its raw samples from an instant on, and its result word. -/
def Device.convert (d : Device) (n e : Nat) (entry : Nat) (codes : List Nat) (first : Tick) (tag gust : Bool) : RawWord × Device :=
  let refns := fun (i : Nat) => (d.grp (n / 4)).unsettledAt (first + 80 * i)
  let d := (codes.zip (List.range codes.length)).foldl (fun d p => d.rawSample n (seqMux entry) p.1 (first + 80 * p.2) (refns p.2) gust) d
  ({ adc := n, entry := e, stream := seqStream entry, avg := seqAvg entry, shift := seqShift entry,
     word := resultWord (seqShift entry) codes ((List.range codes.length).any refns) tag }, d)

/-- The codes of entry e among a converter's conversions, in order; a conversion that is not given is code 0. -/
def entryCodes (entries : List Nat) (e : Nat) (codes : List (BitVec 16)) : List Nat :=
  let skip := ((entries.take e).map fun w => 2 ^ seqAvg w).sum
  let cnt := 2 ^ seqAvg (entries.getD e 0)
  (List.range cnt).map fun i => (codes.getD (skip + i) 0).toNat

/-- The cycle sequences of every converter: result words in converter and entry order (R43, R44). -/
def Device.cycleSequences (d : Device) (codes : List (List (BitVec 16))) : Device :=
  let d := d.setMeas fun m => { m with cycleWords := [] }
  (List.range 16).foldl (fun d n =>
    let es := activeEntries (cycTable d.P n)
    (List.range es.length).foldl (fun d e =>
      let ent := es.getD e 0
      let skip := ((es.take e).map fun w => 2 ^ seqAvg w).sum
      let tag := match d.zep.drift.tag with
        | some g => g.cyc == d.cycle.k && g.stream == seqStream ent
        | none => false
      let (w, d) := d.convert n e ent (entryCodes es e (codes.getD n [])) (d.cycle.eK + 80 * skip) tag false
      d.setMeas fun m => { m with cycleWords := m.cycleWords ++ [w] }) d) d

/-- Bits changed on the way to the chain, per stream (R55). -/
def flipOf (flips : List (Nat × BitVec 32)) (x : Nat) : BitVec 32 := (flips.lookup x).getD 0

/-- Stamp j of the drift tag in flight, in ticks after E(k) of its cycle (R463). -/
def Device.stamp (d : Device) (j : Nat) (f : DriftTag → DriftTag) : Device :=
  match d.zep.drift.tag with
  | none => d
  | some g =>
    if g.cyc ≠ d.cycle.k then d else
    let g' := f { g with stamps := upd g.stamps j fun _ => some (d.now - g.eK) }
    { d with zep := { d.zep with drift := { d.zep.drift with tag := some g' } } }

/-- FILTER_CHAIN_OUTPUT: the chain takes the cycle's words, and the outputs are written (R55, R59 to R64). -/
def execFilterChainOutput (t : Tick) (flips : List (Nat × BitVec 32)) (s : State) : Host.Outcome State Fault Refusal :=
  s.on t fun d =>
    let words := d.meas.cycleWords
    let d := d.setMeas fun m => { m with cycleWords := [] }
    let d := words.foldl (fun d w => d.chainIn { w with word := w.word ^^^ flipOf flips w.stream }) d
    let d := d.stamp 1 fun g => { g with v1 := (d.strm g.stream).out }
    d.onFrame fun f => { f with
      streams := d.meas.streams.map Stream.out
      valid := BitVec.ofNat 64 (ofBits (d.meas.streams.map Stream.valid)) }

/-! ## Auxiliary sequences (R47 to R50) -/

/-- Start the auxiliary sequence of converter n, if it has one and it does not run. -/
def Device.auxStart (d : Device) (n : Nat) : Device :=
  if (d.auxList n).isEmpty || (d.adc n).auxRunning then d else
  d.setAdc n fun a => { a with auxRunning := true, auxPos := 0, auxEntryStart := d.now, auxAborted := a.gustRunning }

/-- AUX_SEQUENCE_START: the CTB event, the host start or the continuous restart of converter n; a start whose source the converter does not select has no effect (R47). Which cycles are every n-th the spec does not say: those whose counter n divides (assumption log 119). -/
def execAuxSequenceStart (t : Tick) (n : Fin 16) (s : State) : Host.Outcome State Fault Refusal :=
  s.on t fun d =>
    match Par.measAdcAuxStart d.P n with
    | 1 => if (d.now : Rat) = (d.cycle.eK : Rat) + usT (Par.measAdcAuxOffset d.P n) && d.cycle.k % Par.measAdcAuxEvery d.P n == 0 then d.auxStart n else d
    | 6 => d.auxStart n
    | 7 => d.auxStart n
    | _ => d

/-- An entry of dur ticks that ends now lay after its request and inside the cycle, clear of the cycle sequence (R48). -/
def Device.entryFits (d : Device) (n : Nat) (request : Tick) (dur : Nat) : Bool :=
  decide (request + dur ≤ d.now) && decide (d.cycle.eK + d.cycLen n + dur ≤ d.now) && decide (d.now ≤ d.eNext)

/-- AUX_ENTRY_END: the entry in progress of converter n ends with its codes; its word goes to its stream (R50, R54, R62). An end that R48 excludes has no effect. -/
def execAuxEntryEnd (t : Tick) (n : Fin 16) (codes : List (BitVec 16)) (flip : BitVec 32) (s : State) : Host.Outcome State Fault Refusal :=
  s.on t fun d =>
    let a := d.adc n
    let es := d.auxList n
    match es[a.auxPos]? with
    | none => d
    | some ent =>
      let dur := 80 * 2 ^ seqAvg ent
      if !a.auxRunning || a.auxAborted || !d.entryFits n a.auxEntryStart dur then d else
      let first := d.now - dur
      let (w, d) := d.convert n a.auxPos ent (entryCodes [ent] 0 codes) first false false
      let d := d.setAdc n fun a => { a with
        auxFirst := if a.auxPos = 0 then first else a.auxFirst
        auxPos := a.auxPos + 1
        auxEntryStart := d.now
        auxRunning := decide (a.auxPos + 1 < es.length) }
      d.chainIn { w with word := w.word ^^^ flip }

/-! ## Gust (R51 to R53) -/

/-- A Gust request to converter n: it runs, waits, or is dropped (R52, R53). A converter with an empty Gust list takes no request (assumption log 120). -/
def Device.gustRequest (d : Device) (n : Nat) : Device :=
  let a := d.adc n
  if (d.gustList n).isEmpty then d
  else if !a.gustRunning then
    (d.setAdc n fun a => { a with gustRunning := true, gustFrom := d.now, auxAborted := a.auxRunning }).pmcPulse 5 1 1
  else if !a.gustPending then d.setAdc n fun a => { a with gustPending := true }
  else ((d.setAdc n fun a => { a with gustDrop := true }).hwSet 0x400C (2 ^ n)).raiseAtClose "EV_GUST_DROPPED" 6 8 0 (2 ^ n)

/-- The earliest start, from an instant on, of an entry of dur ticks that neither meets the cycle sequence of converter n nor straddles a cycle start (R48). -/
def Device.entryStart (d : Device) (n : Nat) (from_ : Tick) (dur : Nat) : Tick :=
  let ph := (((from_ : Int) - (d.cycle.eK : Int)) % (d.tc : Int)).toNat
  if ph < d.cycLen n then from_ + (d.cycLen n - ph)
  else if ph + dur ≤ d.tc then from_
  else from_ + (d.tc - ph) + d.cycLen n
/-- The starts of the entries of a Gust from an instant on, each held off by R48, and the end of the last. -/
def Device.gustStarts (d : Device) (n : Nat) (from_ : Tick) : List Nat → List Tick × Tick
  | [] => ([], from_)
  | w :: r =>
    let dur := 80 * 2 ^ seqAvg w
    let a := d.entryStart n from_ dur
    let (l, z) := d.gustStarts n (a + dur) r
    (a :: l, z)

/-- GUST_COMPLETE: the Gust list of converter n is done: results, the next pending Gust, and the auxiliary entry that it interrupted restarts (R52, R53). An end before the last entry can have ended under R48 has no effect. -/
def execGustComplete (t : Tick) (n : Fin 16) (codes : List (List (BitVec 16))) (s : State) : Host.Outcome State Fault Refusal :=
  s.on t fun d =>
    let es := d.gustList n
    let (starts, done) := d.gustStarts n (d.adc n).gustFrom es
    if !(d.adc n).gustRunning || d.now < done then d else
    let first := starts.headD d.now
    let d := (List.range es.length).foldl (fun d e =>
      let ent := es.getD e 0
      let (w, d) := d.convert n e ent (entryCodes [ent] 0 (codes.getD e [])) (starts.getD e first) false true
      let d := d.setAdc n fun a => { a with gustRes := upd a.gustRes e fun _ => w.word }
      d.onFrame fun f => { f with gust := f.gust ++ [(4 * n.val + e, w.word)] }) d
    let again := (d.adc n).gustPending
    let d := d.setAdc n fun a => { a with
      gustRunning := again, gustPending := false, gustFrom := d.now, gustFirst := first
      auxAborted := a.auxAborted && again
      auxEntryStart := if a.auxAborted && !again then d.now else a.auxEntryStart }
    let d := if again then d.pmcPulse 5 1 1 else d
    d.recEvent 5 (d.now - 80)

/-- GUST_REQUEST_WRITE: a 1 requests a Gust on each converter named (R51). -/
def execGustRequestWrite (t : Tick) (v : BitVec 32) (s : State) : Host.Outcome State Fault Refusal :=
  s.on t fun d => (idx 16 fun n => v.getLsbD n).foldl Device.gustRequest (d.reserved v 0xFFFF)

/-- ATRIG_EDGE: a level of an ATRIG pin that persists; shorter than its minimum width it is ignored (R49, R51). -/
def execAtrigEdge (t : Tick) (pin : Fin 4) (rising : Bool) (heldNs : Rat) (s : State) : Host.Outcome State Fault Refusal :=
  s.on t fun d =>
    if heldNs < Par.measAtrigMinWidth d.P pin || d.meas.atrigLevel.getD pin false = rising then d else
    let d := d.setMeas fun m => { m with atrigLevel := upd m.atrigLevel pin fun _ => rising }
    let edge := Par.measAtrigEdge d.P pin
    if !bit edge (if rising then 0 else 1) then d else
    (List.range 16).foldl (fun d n =>
      let d := if Par.measAdcAuxStart d.P n = 2 + pin.val then
          (if (d.adc n).auxRunning then
            (d.setMeas fun m => { m with atrigMiss := upd m.atrigMiss pin inc8 }).raiseAtClose "EV_ATRIG_MISSED" 6 8 pin (2 ^ n)
          else d.auxStart n)
        else d
      if bit (Par.measAdcGustSrc d.P n) pin then d.gustRequest n else d) d

/-! ## References (R56 to R58) -/

/-- Streams fed from a group by an active cycle or auxiliary entry. -/
def Device.groupStreams (d : Device) (g : Nat) : List Nat :=
  (List.range 4).flatMap fun i =>
    let n := 4 * g + i
    ((activeEntries (cycTable d.P n) ++ d.auxList n).map seqStream).filter (· != 127)

/-! ## Comparators (R65 to R67, R234 to R236) -/

/-- Count a blanking window once (R236). -/
def Device.countWindow (d : Device) (j : Nat) : Device :=
  d.setProt fun p => { p with blank := upd p.blank j fun b => if b.counted then b else { b with counted := true, evt := inc16 b.evt } }

/-- The fast level of comparator j, passed through the blanking gate to source 16 + j (R234, R236); a level that stays outside as a window opens is hidden by the gate (`Device.srcActive`). -/
def Device.fastLevel (d : Device) (j : Nat) (was now : Bool) : Device :=
  let d := if d.windowOpen j && (was || now) then d.countWindow j else d
  let on := now && bit (Par.protCmpTrip d.P j) 0
  if on && !d.windowOpen j then d.inputActive (16 + j) { arms := d.srcArms (16 + j) }
  else if on && (d.srcAt (16 + j)).active then d
  else d.inputInactive (16 + j)

/-- The hard level of comparator j to source 28 + j: never gated (R235). -/
def Device.hardLevel (d : Device) (j : Nat) (now : Bool) : Device :=
  d.setInput (28 + j) (now && bit (Par.protCmpTrip d.P j) 1)

/-- A level outside its window, with the hysteresis on return (R65, R66); a threshold at its end of the scale, 0 or 65,520, is never passed. -/
def levelOutside (was : Bool) (lo hi hyst : Nat) (x : Rat) : Bool :=
  let h : Rat := if was then hyst else 0
  let below := lo != 0 && decide (x < (lo : Rat) + h)
  let above := hi != 65520 && decide ((hi : Rat) - h < x)
  below || above

/-- Evaluate comparator j on its input and act on the changes; the hard level is forced by REF_FAULT (R58, R65). A changed hysteresis acts from its boundary on (assumption log 121). -/
def Device.evalCmp (d : Device) (j : Nat) : Device :=
  let c := d.cmp j
  let h := 16 * Par.measCmpHyst d.P j
  let fast := levelOutside c.fastOut c.fastLo c.fastHi h c.input
  let hard := (d.grp (j / 4)).fault || levelOutside c.hardOut c.hardLo c.hardHi h c.input
  let d := d.setCmp j fun c => { c with fastOut := fast, hardOut := hard }
  let d := d.hardLevel j hard
  let d := d.fastLevel j c.fastOut fast
  if fast && !c.fastOut && bit (Par.measAdcGustSrc d.P j) 4 then d.gustRequest j else d

/-- COMPARATOR_LEVEL_CHANGE: the input of comparator j at a new level, in codes (R65). -/
def execComparatorLevelChange (t : Tick) (j : Fin 12) (x : Rat) (s : State) : Host.Outcome State Fault Refusal :=
  s.on t fun d => (d.setCmp j fun c => { c with input := x }).evalCmp j

/-- SPARE_DAC_SWITCH: comparator j takes the thresholds loaded at the boundary (R67). -/
def execSpareDacSwitch (t : Tick) (j : Fin 12) (s : State) : Host.Outcome State Fault Refusal :=
  s.on t fun d =>
    match (d.cmp j).switchFrom with
    | none => d
    | some _ =>
      let p := d.P
      (d.setCmp j fun c => { c with
        fastLo := Par.measCmpFastLo p j, fastHi := Par.measCmpFastHi p j
        hardLo := Par.measCmpHardLo p j, hardHi := Par.measCmpHardHi p j, switchFrom := none }).evalCmp j

/-- REF_FAULT of group g: reported once, its streams invalid, its hard levels forced outside (R58). -/
def Device.refFault (d : Device) (g : Nat) : Device :=
  if (d.grp g).fault then d else
  let d := (d.setGrp g fun x => { x with fault := true, settling := false }).raise "EV_MEAS_REF_FAULT" 6 0 g [(g : Int)]
  let d := (d.groupStreams g).foldl (fun d x => d.setStrm x fun s => { s with valid := false }) d
  (idx 12 fun j => j / 4 == g).foldl Device.evalCmp d

/-- REFERENCE_SETTLE_END: after t_ref_set the monitor's reading, in % from nominal, is inside the window or not (R57). -/
def execReferenceSettleEnd (t : Tick) (g : Fin 4) (reading : Rat) (s : State) : Host.Outcome State Fault Refusal :=
  s.on t fun d =>
    if (d.grp g).settling && decide (rabs reading ≤ Par.measGroupRefWindow d.P g) then
      d.setGrp g fun x => { x with settled := true, settling := false, since := d.now }
    else d

/-- REFERENCE_SETTLE_TIMEOUT: 10 ms after the start of settling without success, REF_FAULT (R57). -/
def execReferenceSettleTimeout (t : Tick) (g : Fin 4) (s : State) : Host.Outcome State Fault Refusal :=
  s.on t fun d => if (d.grp g).settling && d.past (d.grp g).settleStart (msT 10) then d.refFault g else d

/-! ## SETP_PULSE (R69) -/

/-- SETP_PULSE_EDGE: a change of the pin's level; a phase shorter than the minimum is counted as ignored and its edge is not counted. -/
def execSetpPulseEdge (t : Tick) (rising : Bool) (s : State) : Host.Outcome State Fault Refusal :=
  s.on t fun d =>
    let p := d.meas.setp
    if p.level = rising then d else
    let short := !d.past p.phaseStart (nsT (Par.measSetpPulseMin d.P))
    d.setSetp fun p => { p with
      level := rising, phaseStart := d.now
      ignored := if short then inc16 p.ignored else p.ignored
      edges := if rising && !short then d.now :: p.edges else p.edges }

/-- The frequency at E(k), from the edges in the gate (R69). With fewer than two edges PULSE_LOW and PULSE_HIGH read 0 (assumption log 122). -/
def Device.setpFrequency (d : Device) : Device :=
  let eK := d.cycle.eK
  let gate := msT (Par.measSetpPulseGate d.P)
  let kept := d.meas.setp.edges.filter fun (e : Tick) => decide ((eK : Rat) - gate ≤ (e : Rat))
  let inGate := kept.filter fun e => decide (e < eK)
  let d := d.setSetp fun p => { p with edges := kept }
  match inGate.head?, inGate.getLast? with
  | some tn, some t1 =>
    if tn ≤ t1 then d.setSetp fun p => { p with pulseLost := true, pulseLow := false, pulseHigh := false } else
    let f : Rat := ((inGate.length - 1 : Nat) : Rat) * 800000000 / ((tn - t1 : Nat) : Rat)
    let (q, d) := d.quant (f * 256)
    d.setSetp fun p => { p with freq := q, pulseLost := false, pulseLow := decide (f < 1000), pulseHigh := decide (200000 < f) }
  | _, _ => d.setSetp fun p => { p with pulseLost := true, pulseLow := false, pulseHigh := false }

end Sys2Proof.Machine
end

