-- ==== Sys2Proof/Machine/ErrOps.lean ====
section
/-! DEFINITION. Error reports (R436 to R440): codes and classes of Table 16-3, the queue, escalation, the handler fault, and Bailsil safe hold (R266). -/

namespace Sys2Proof.Machine

/-- Change the error handler. -/
def Device.setEh (d : Device) (f : Eh → Eh) : Device := { d with eh := f d.eh }

/-- Class of an error code (Table 16-3); that of 0x0064 follows integ.holdover_action. -/
def Device.codeClass (d : Device) (code : Nat) : Nat :=
  if [0x0001, 0x0020, 0x0072].contains code then 0
  else if [0x0003, 0x0012, 0x0013, 0x0060, 0x0061, 0x0070, 0x0080, 0x0081].contains code then 3
  else if [0x0040, 0x0041, 0x0050, 0x0062, 0x0063, 0x0083].contains code then 2
  else if code = 0x0064 then (if Par.integHoldoverAction d.P = 1 then 3 else 2)
  else 1

/-- Island that reports for a die: its own, with islands 2, 3, 4, 5, 6, 8, 9 for Rafter, Batten, Purlin 0, Purlin 1, Thatch, Bailsil, Soffit, and 0 for Ridge. -/
def islandOfDie (die : Nat) : Nat := [0, 2, 3, 4, 5, 6, 8, 9].getD die 0

/-- The die that carries an island. -/
def islandDie (i : Nat) : Nat := [0, 0, 1, 2, 3, 4, 5, 5, 6, 7].getD i 0

/-- Island of the reporter of an error (R32, R441): PCI Express, the magnetoresistive store and the key store are island 1; second names the other island of a die that is split, 1 of Ridge and 7 of Thatch. -/
def islandOfError (code die : Nat) (second : Bool) : Nat :=
  if [0x0040, 0x0041, 0x0050, 0x0051, 0x0083].contains code || (second && die = 0) then 1
  else if second && die = 5 then 7 else islandOfDie die

/-- Bailsil safe hold (R266): both channels trigger a Squall, every output is de-energised, evaluation stops. -/
def Device.bailsilSafeHold (d : Device) : Device :=
  if d.safety.safeHold then d else
  let d := d.setSaf fun f => { f with safeHold := true, outs := f.outs.map fun o => { o with hs := false, ls := false } }
  let d := d.raise "EV_SAFE_HOLD" 8 0 0 []
  let d := (d.msix 12).inputActive 41 { arms := 7 }
  d.squallTrigger

/-- A handler fault (R440) with its cause: HST_EH_STAT shows it, and Bailsil enters safe hold. -/
def Device.handlerFault (d : Device) (cause : Nat) : Device :=
  if d.eh.cause ≠ 0 || d.eh.stopped then d else
  (d.setEh fun e => { e with cause := cause, stopped := true }).bailsilSafeHold

/-- Entries in handling: queued or taken (R439). -/
def Eh.inHandling (e : Eh) : List ErrEntry := e.handling.toList ++ e.queue

/-- An entry is of the same code and unit (R436). -/
def ErrEntry.same (x : ErrEntry) (code die : Nat) : Bool := x.code == code && x.die == die

/-- The earliest entry of the highest class (R439). -/
def earliestHighest : List ErrEntry → Option ErrEntry
  | [] => none
  | x :: r =>
    match earliestHighest r with
    | none => some x
    | some y => if y.cls < x.cls || (y.cls = x.cls && x.detected ≤ y.detected) then some x else some y

/-- The handler takes the oldest queued entry when it is idle (R436). -/
def Device.takeError (d : Device) : Device :=
  match d.eh.handling, d.eh.queue with
  | none, x :: r => d.setEh fun e => { e with handling := some { x with taken := some d.now }, queue := r }
  | _, _ => d

/-- Count an error in HST_EH_CNT (Table 16-13). -/
def Device.countError (d : Device) (cls : Nat) : Device := d.setEh fun e => { e with cnt := upd e.cnt cls inc32 }

/-- A report reaches the handler: counted, merged, escalated, queued; or it ends in a handler fault (R436, R437, R439, R440). -/
def Device.errReport (d : Device) (code die kind index detail : Nat) (die2 : Option Nat := none) (second : Bool := false) : Device :=
  let d := if code = 0x0010 then d.pmcPulse 1 7 1 else if code = 0x0001 && die == 0 then d.pmcPulse 0 6 1 else d
  let c0 := d.codeClass code
  if c0 = 0 || d.eh.stopped || d.eh.fatal then d.countError c0 else
  let merge := fun (x : ErrEntry) => if x.same code die then { x with merged := x.merged + 1, count := x.count + 1 } else x
  if d.eh.inHandling.any fun x => x.same code die then
    d.setEh fun e => { e with queue := e.queue.map merge, handling := e.handling.map merge, merged := inc32 e.merged }
  else if 32 ≤ d.eh.queue.length then d.handlerFault 2
  else
    let busy := d.eh.inHandling
    let esc := busy.any fun x => decide (x.cls ≤ c0)
    if esc && c0 == 4 then d.handlerFault 5 else
    let cls := if esc then c0 + 1 else c0
    let par := if esc then earliestHighest busy else none
    let x : ErrEntry := { ErrEntry.reset with
      code := code, cls := cls, cls0 := c0, die := die, die2 := die2, island := islandOfError code die second, kind := kind, index := index
      detail := BitVec.ofNat 32 detail, detected := d.now, escalated := esc
      parentOf := par.map fun p => (p.code, p.detected) }
    let d := (d.countError cls).setEh fun e => { e with queue := e.queue ++ [x], esc := if esc then inc32 e.esc else e.esc }
    d.takeError

end Sys2Proof.Machine
end

