-- ==== Sys2Proof/Machine/Flags.lean ====
section
/-! DEFINITION. Flags and fields: register words as the spec lists them bit by bit, how a flag word is shown, and how a 1 clears a flag (R8, R9). -/

namespace Sys2Proof.Machine

/-! ## Words and fields -/

/-- A field of a register word: its lowest bit, its width and the value it shows. -/
structure Fld where
  /-- Lowest bit. -/
  lo : Nat
  /-- Width in bits. -/
  width : Nat
  /-- Value. -/
  value : Nat
  deriving DecidableEq, Repr

/-- A register word: its fields. Bits of no field are reserved and read 0 (R9). -/
abbrev RegWord := List Fld

/-- A field. -/
def fld (lo width value : Nat) : Fld := { lo := lo, width := width, value := value }
/-- A word of 32 bits. -/
def w32 (v : Nat) : RegWord := [fld 0 32 v]
/-- A word of two halves, the low one first. -/
def wHalves (lo hi : Nat) : RegWord := [fld 0 16 lo, fld 16 16 hi]
/-- The bits that a word implements. -/
def RegWord.mask (w : RegWord) : Nat := w.foldl (fun m f => m ||| (2 ^ f.width - 1) * 2 ^ f.lo) 0
/-- What a word shows. -/
def RegWord.value (w : RegWord) : BitVec 32 := BitVec.ofNat 32 ((w.map fun f => f.value % 2 ^ f.width * 2 ^ f.lo).sum)
/-- The field [lo + width − 1 : lo] that shows a list of bits, the first lowest. -/
def flags (lo : Nat) (l : List Bool) : Fld := fld lo l.length (ofBits l)
/-- A number in a field of width bits, in units of 1/scale; a value between two units shows one of the two, which the spec leaves open (assumption log 14). -/
def shown (off width : Nat) (scale x : Rat) : Nat :=
  let y := x * scale
  let n := if (y.floor : Rat) = y || !Config.regUp off x then y.floor else y.floor + 1
  trunc width n
/-- A word that shows a number in units of 1/scale. -/
def wNum (off : Nat) (scale x : Rat) : RegWord := w32 (shown off 32 scale x)
/-- A bit per position of ring r. -/
def ringMask (r : Nat) (p : Nat → Bool) : RegWord := w32 (ofBits ((List.range 32).map fun i => p (32 * r + i)))
/-- Words of adjoining offsets: the first offset and the words. -/
abbrev RegRun := Nat × List RegWord

/-! ## Flags that a write clears (Table 0-2) -/

/-- Bits of a list of flags cleared where a word has a 1. -/
def clearBits {α : Type} (v : BitVec 32) (lo : Nat) (f : α → α) (l : List α) : List α := l.mapIdx fun i x => if v.getLsbD (lo + i) then f x else x

end Sys2Proof.Machine
end

