-- ==== Sys2Proof/Machine/Mardal.lean ====
section
/-! DEFINITION. The blocks that the device sends over the Mardal link (R299, R300): their content, their bytes, their lanes. -/

namespace Sys2Proof.Machine

/-- Content of a block (Table 10-2). -/
inductive MdlBody where
  /-- 0x01: the sender's cycle, state and flags. -/
  | beacon (b : PeerBeacon)
  /-- 0x02: a part of the law's states after stage 7. -/
  | checkpoint (part : Nat) (st : LawStates)
  /-- 0x03: an arm record (Table 5-2). -/
  | record (r : ArmRecord)
  /-- 0x04: a part of V_dc and disposition of every cell. -/
  | inputs (part : Nat) (cells : List (Rat × Nat))
  /-- 0x05: kind, RESUME and the CRC-32 over an arm's slots. -/
  | check (notice resume : Bool) (crc : Nat)
  /-- 0x06: the newest output of every stream, Q24.8. -/
  | streams (vals : List Int)
  /-- 0x07: a ring's status slots as received. -/
  | statuses (bytes : List (BitVec 8))
  /-- 0x08: observer state and cell-table entry of packs. -/
  | observers (packs : List (Nat × Observer × CellRow))
  /-- 0x09: frozen counters, with fractions, and tenancy of a cell. -/
  | meter (cell : Nat) (cnt : PackCounters) (ten : Tenancy)
  /-- 0x0A: digest of the committed set, firmware version. -/
  | digest (set : List (BitVec 8)) (fw : BitVec 32)
  /-- 0x0B: a part of an arm's Batten state: cells by their place in arm order with their gate loops, the arm, the circulating current. -/
  | batten (cells : List (Nat × ModCell × Gate × Gate)) (a : ModArm) (c : Circ)
  /-- 0x0C: a time probe of a CTB instant. -/
  | probe (ctb : Tick)
end Sys2Proof.Machine

namespace Sys2Proof.Config
/-- The payload of a block whose layout Table 10-2 does not give, by its content (assumption log 150). -/
opaque mdlPayload : Machine.MdlBody → List (BitVec 8)
end Sys2Proof.Config

namespace Sys2Proof.Machine

/-- A number as a signed word in units of 1/scale, by the offset of the recorder's word for it. -/
def numBytes (off : Nat) (scale x : Rat) : List (BitVec 8) := leBytes 4 (shown off 32 scale x)
/-- The six words of an arm record (Table 5-2). -/
def ArmRecord.bytes (r : ArmRecord) (arm : Nat) : List (BitVec 8) :=
  let o := 0x600000 + 24 * arm
  numBytes o 4096 r.v0 ++ numBytes (o + 4) (2 ^ 20) r.slope ++ numBytes (o + 8) 4096 r.ip ++
    numBytes (o + 12) 4096 r.i0ref ++ numBytes (o + 16) (2 ^ 20) r.i0slope ++ numBytes (o + 20) 4096 r.i0
/-- The payload's bytes. Arm records are the words of Table 5-2, status slots are sent as received, and stream outputs are words of Q24.8. -/
def MdlBody.payload (b : MdlBody) (sub : Nat) : List (BitVec 8) :=
  match b with
  | .record r => r.bytes sub
  | .streams l => l.flatMap fun x => leBytes 4 (trunc 32 x)
  | .statuses l => l
  | b => Config.mdlPayload b
/-- The first len bytes of a list, zeros where it ends before. -/
def padTo (len : Nat) (l : List (BitVec 8)) : List (BitVec 8) := (l ++ List.replicate len 0).take len
/-- The bytes of a block (Table 10-1). -/
def mdlWire (ty sub len cyc : Nat) (b : MdlBody) : List (BitVec 8) :=
  let x := leBytes 1 ty ++ leBytes 1 sub ++ leBytes 2 len ++ leBytes 4 (cyc % 2 ^ 32) ++ padTo len (b.payload sub)
  x ++ leBytes 4 (crc32 x)

/-! ## Lanes -/

/-- A lane is up. -/
def Device.linkUp (d : Device) : Bool := d.twin.lanes.any id
/-- The lane of the next block: blocks alternate between the lanes that are up. -/
def Twin.nextLane (w : Twin) : Nat := if w.lanes.getD (1 - w.mdlLast) false then 1 - w.mdlLast else w.mdlLast
/-- The block at the head of the queue goes onto its lane, if the lane is free by an instant: at 1.2 GB/s a byte takes two thirds of a tick (R299). -/
def Twin.launchBlock (w : Twin) (now : Tick) : Twin :=
  match w.mdlQ with
  | [] => w
  | b :: rest =>
    let lane := w.nextLane
    let free := w.mdlFree.getD lane 0
    if 3 * now < free || !w.lanes.getD lane false then w else
    { w with mdlQ := rest, mdlOut := w.mdlOut ++ [{ b with lane := lane }], mdlLast := lane
             mdlFree := w.mdlFree.set lane (max free (3 * now) + 2 * b.wire.length) }
/-- The lanes take what they can by now. -/
def Device.mdlDrain (d : Device) : Device :=
  let now := d.now
  d.setTwin fun w => (List.range w.mdlQ.length).foldl (fun w _ => w.launchBlock now) w
/-- A block of types 0x03 and 0x05 (R300). -/
def MdlBlock.urgent (b : MdlBlock) : Bool := b.ty == 3 || b.ty == 5
/-- A block joins the queue; arm records and schedule checks go ahead of every other. -/
def queueBlock (q : List MdlBlock) (b : MdlBlock) : List MdlBlock :=
  if b.urgent then q.takeWhile MdlBlock.urgent ++ b :: q.dropWhile MdlBlock.urgent else q ++ [b]
/-- Send a block of this cycle; none is sent with both lanes down, and nothing is retransmitted (R300). -/
def Device.mdlSend (d : Device) (ty sub len : Nat) (b : MdlBody) : Device :=
  if !d.straps.twinEn || !d.linkUp then d else
  let blk : MdlBlock := { ty := ty, sub := sub, lane := 0, wire := mdlWire ty sub len d.cycle.k b }
  (d.mdlDrain.setTwin fun w => { w with mdlQ := queueBlock w.mdlQ blk }).mdlDrain
/-- Send a block of the Active alone. -/
def Device.activeSend (d : Device) (ty sub len : Nat) (b : MdlBody) : Device :=
  if d.twin.active then d.mdlSend ty sub len b else d

end Sys2Proof.Machine
end

