-- ==== Sys2Proof/Machine/Feedback.lean ====
section
/-! DEFINITION. What the law starts from (chapter 03, stage 1, and R113): per-unit bases, the waveform table, Park and Clarke transforms, the plausibility vote, sequence components of the voltage. -/

namespace Sys2Proof.Machine

/-! ## Bases (R73, Table 3-1) -/

/-- Base of the phase voltage, V. -/
def Device.vBase (d : Device) : Rat := sqrt2 / sqrt3 * Par.gfBaseV d.P * 1000
/-- Base of the line current, A. -/
def Device.iBase (d : Device) : Rat := sqrt2 / sqrt3 * Par.gfBaseS d.P * 1000 / Par.gfBaseV d.P
/-- ω_b, rad/s. -/
def Device.wBase (d : Device) : Rat := 2 * piR * Par.gfFNom d.P
/-- The delta topology. -/
def Device.inDelta (d : Device) : Bool := Par.convTopology d.P == 1
/-- Base of an arm's voltage, V: √3 larger in delta (Table 3-1). -/
def Device.vArmBase (d : Device) : Rat := if d.inDelta then d.vBase * sqrt3 else d.vBase
/-- Base of an arm's current, A. -/
def Device.iArmBase (d : Device) : Rat := if d.inDelta then d.iBase / sqrt3 else d.iBase

/-- The magnitude of a pair. -/
def DQ.mag (x : DQ) : Rat := rsqrt (x.d * x.d + x.q * x.q)
/-- The squared magnitude of a pair. -/
def DQ.sq (x : DQ) : Rat := x.d * x.d + x.q * x.q
/-- Sum of pairs. -/
def DQ.add (x y : DQ) : DQ := { d := x.d + y.d, q := x.q + y.q }
/-- Difference of pairs. -/
def DQ.sub (x y : DQ) : DQ := { d := x.d - y.d, q := x.q - y.q }
/-- A pair scaled. -/
def DQ.smul (k : Rat) (x : DQ) : DQ := { d := k * x.d, q := k * x.q }
/-- The dot product. -/
def DQ.dot (x y : DQ) : Rat := x.d * y.d + x.q * y.q
/-- A pair rotated by an angle in turns. -/
def DQ.rot (x : DQ) (a : Rat) : DQ := { d := x.d * cosTurn a - x.q * sinTurn a, q := x.d * sinTurn a + x.q * cosTurn a }

/-- An angle difference in turns brought to the half turn either side of 0. -/
def wrapTurn (x : Rat) : Rat := x - ((x + 1 / 2).floor : Rat)

/-! ## The waveform table (R126) -/

/-- θ: the upper 32 bits of the phase register; one turn is 2^32. -/
def Device.theta (d : Device) : Nat := d.grid.tr.theta64.toNat / 2 ^ 32
/-- θ in turns. -/
def Device.thetaTurn (d : Device) : Rat := (d.grid.tr.theta64.toNat : Rat) / ((2 ^ 64 : Nat) : Rat)
/-- An angle in turns as a 32-bit θ. -/
def angle32 (a : Rat) : Nat := ((a * ((2 ^ 32 : Nat) : Rat)).floor % 2 ^ 32).toNat
/-- Table entry n: the loaded one, or the default sine, Q2.30. -/
def Device.tableEntry (d : Device) (n : Nat) : Int :=
  match d.grid.tr.table with
  | some l => l.getD (n % 4096) 0
  | none =>
    let m : Nat := n % 4096
    rround (sinTurn ((m : Rat) / 4096) * 1073741824)
/-- The table read at a 32-bit angle, with linear interpolation. -/
def Device.wave (d : Device) (th : Nat) : Rat :=
  let i : Nat := (th / 2 ^ 20) % 4096
  let f : Nat := th % 2 ^ 20
  let a := d.tableEntry i
  let b := d.tableEntry (i + 1)
  ((a : Rat) + ((b - a : Int) : Rat) * (f : Rat) / 1048576) / 1073741824
/-- The angles of the three phases: θ, θ − 0x5555_5555, θ + 0x5555_5555. -/
def phaseAngles (th : Nat) : List Nat := [th, (2 ^ 32 - 0x55555555 + th) % 2 ^ 32, (0x55555555 + th) % 2 ^ 32]
/-- A quarter turn ahead, where the cosine is read. -/
def quarter (th : Nat) : Nat := (th + 0x40000000) % 2 ^ 32
/-- Park transform of three phase values on an angle. -/
def Device.park (d : Device) (th : Nat) (x : List Rat) : DQ :=
  let a := phaseAngles th
  { d := 2 / 3 * rsum ((x.zip a).map fun p => p.1 * d.wave p.2)
    q := 2 / 3 * rsum ((x.zip a).map fun p => p.1 * d.wave (quarter p.2)) }
/-- Three phase values of a pair on an angle. -/
def Device.phases (d : Device) (th : Nat) (u : DQ) : List Rat :=
  (phaseAngles th).map fun a => u.d * d.wave a + u.q * d.wave (quarter a)
/-- Clarke transform: α in d, β in q. -/
def clarke (x : List Rat) : DQ :=
  let a := x.getD 0 0
  let b := x.getD 1 0
  let c := x.getD 2 0
  { d := 2 / 3 * (a - (b + c) / 2), q := (b - c) / sqrt3 }
/-- An αβ pair in the frame at an angle in turns, in which phase L1 reads d·sin + q·cos. -/
def abToDq (x : DQ) (a : Rat) : DQ := { d := x.d * sinTurn a - x.q * cosTurn a, q := x.d * cosTurn a + x.q * sinTurn a }
/-- The angle of an αβ pair in turns, 0 for a phase L1 at a rising zero crossing. -/
def abAngle (x : DQ) : Rat := ratan2 x.d (-x.q)

/-! ## Intake (R75, R85, R99) -/

/-- A stream in pu, and whether it counts: valid and without SAT (R99). -/
def Device.pu (d : Device) (x : Nat) (base : Rat) : Rat × Bool :=
  let s := d.strm x
  ((s.out : Rat) / 256 / base, s.valid && !s.satWin && !s.satOut)
/-- Line values from arm values: in delta i_L1 = i_U − i_W, i_L2 = i_V − i_U, i_L3 = i_W − i_V (R85). -/
def Device.lines (d : Device) (x : List (Rat × Bool)) : List (Rat × Bool) :=
  if !d.inDelta then x else
  let g := fun i => x.getD i (0, false)
  let sub := fun (a b : Rat × Bool) => (a.1 - b.1, a.2 && b.2)
  [sub (g 0) (g 2), sub (g 1) (g 0), sub (g 2) (g 1)]
/-- Three streams of a role in pu. -/
def Device.role (d : Device) (f : Nat → Nat) (base : Rat) : List (Rat × Bool) := (List.range 3).map fun x => d.pu (f x) base
/-- The circulating current (i_U + i_V + i_W)/3 in delta, pu of the line base (R85). -/
def Device.circOf (d : Device) : Rat :=
  if d.inDelta then rsum ((d.role (Par.gfStreamIMain d.P) d.iBase).map Prod.fst) / 3 else 0

/-- Volt-ticks a cell executed in a reported interval of n ticks: its state and edges, times its DC voltage (R98). -/
def execVolt (state0 : Nat) (edges : List Edge) (n : Nat) (vdc : Rat) : Rat :=
  let sgn : Nat → Rat := fun st => if st = 1 then 1 else if st = 2 then -1 else 0
  let used := edges.filter fun e => e.state ≠ 7
  let starts := (0, state0) :: used.map fun e => (min e.off n, e.state)
  let ends := (used.map fun e => min e.off n) ++ [n]
  vdc * rsum ((starts.zip ends).map fun p => sgn p.1.2 * (((p.2 : Rat)) - (p.1.1 : Rat)))
/-- The mean voltage an arm executed, V, from the validated statuses (R98, R39). -/
def Device.armExec (d : Device) (arm : Nat) : Rat :=
  rsum ((d.cellsOf arm).map fun c =>
    match (d.link.nodes.getD c NodeView.reset).last with
    | none => 0
    | some st => execVolt (d.modu.cells.getD c ModCell.reset).state0 st.exec d.tc ((st.vdc : Rat) / 20)) / d.tc
/-- The mean converter voltage executed, per line, pu; from delta arms (U − W)/3 and so on. -/
def Device.uExec (d : Device) : List Rat :=
  let a := (List.range 3).map fun x => d.armExec x / d.vBase
  if !d.inDelta then a else
  let g := fun i => a.getD i 0
  [(g 0 - g 2) / 3, (g 1 - g 0) / 3, (g 2 - g 1) / 3]

/-! ## The vote (R99 to R101) -/

/-- Two readings agree within a threshold; one that is absent disagrees with everything. -/
def agrees (a b : Option Rat) (t : Rat) : Bool :=
  match a, b with
  | some x, some y => decide (rabs (x - y) ≤ t)
  | _, _ => false
/-- Table 3-5: the selection (0 main, 1 second, 2 model) and the condition (0 normal, 1 second suspect, 2 main suspect, 3 model suspect, 4 sensorless). -/
def voteOf (main sec : Option Rat) (model t : Rat) : Nat × Nat :=
  match agrees main sec t, agrees main (some model) t, agrees sec (some model) t with
  | true, true, true => (0, 0)
  | false, true, false => (0, 1)
  | false, false, true => (1, 2)
  | true, false, false => (0, 3)
  | _, _, _ => (2, 4)
/-- The runs of suspect conditions after one more cycle (R100). -/
def Vote.next (v : Vote) (sel cond : Nat) : Vote :=
  { sel := sel
    secSus := if cond = 1 then v.secSus + 1 else 0
    mainSus := if cond = 2 then v.mainSus + 1 else 0
    modSus := if cond = 3 then v.modSus + 1 else 0 }
/-- A sensor's reading as the vote sees it: none while it does not count or is latched faulty (R99, R100). -/
def Device.seen (d : Device) (sensor : Nat) (r : Rat × Bool) : Option Rat :=
  if r.2 && !(d.law.sensors.getD sensor Sensor.reset).faulty then some r.1 else none
/-- The agreeing run of a rearmed sensor after one more cycle (R100). -/
def Device.rearmRun (d : Device) (sensor : Nat) (ok : Bool) : Device :=
  d.setLaw fun l => { l with sensors := upd l.sensors sensor fun s => { s with agree := if s.faulty && s.rearmed && ok then s.agree + 1 else 0 } }
/-- One phase of the vote: sensors a (main) and b (second, absent with the breaker open), the model's value and the threshold. -/
def Device.votePhase (d : Device) (a b : Nat) (main : Rat × Bool) (sec : Option (Rat × Bool)) (model t : Rat) (v : Vote) : Vote × Rat × Device :=
  let raw := fun (r : Rat × Bool) => if r.2 then some r.1 else none
  match sec with
  | none =>
    let ok := agrees (d.seen a main) (some model) t
    let d := (d.rearmRun a (agrees (raw main) (some model) t)).rearmRun b false
    (v.next (if ok then 0 else 2) (if ok then 0 else 4), if ok then main.1 else model, d)
  | some s =>
    let r := voteOf (d.seen a main) (d.seen b s) model t
    let ms := agrees (raw main) (raw s) t
    let d := (d.rearmRun a (ms && agrees (raw main) (some model) t)).rearmRun b (ms && agrees (raw s) (some model) t)
    (v.next r.1 r.2, if r.1 = 0 then main.1 else if r.1 = 1 then s.1 else model, d)

/-- The plausibility model and vote of a cycle: selected line currents and voltages (R98 to R101). -/
def Device.plausibility (d : Device) : List Rat × List Rat × Device :=
  let p := d.P
  let st := d.law.st
  let l := Par.gfLArm p
  let r := Par.gfRArm p
  let k := d.tcS * d.wBase / l
  let ue := d.uExec
  let g := fun (x : List Rat) i => x.getD i 0
  let iM := (List.range 3).map fun x => g st.iEst x + k * (g ue x - g st.vSelPrev x - r * g st.iEst x)
  let main := d.lines (d.role (Par.gfStreamIMain p) d.iBase)
  let sec := d.lines (d.role (Par.gfStreamISec p) d.iBase)
  let gr := fun (x : List (Rat × Bool)) i => x.getD i (0, false)
  let (vi, iSel, d) := (List.range 3).foldl (fun (acc : List Vote × List Rat × Device) x =>
    let (vs, sel, d) := acc
    let t := Par.gfPlausIAbs p + Par.gfPlausIRel p / 100 * rabs (g iM x)
    let (v, y, d) := d.votePhase x (3 + x) (gr main x) (some (gr sec x)) (g iM x) t (d.law.votesI.getD x Vote.reset)
    (vs ++ [v], sel ++ [y], d)) ([], [], d)
  let vM := (List.range 3).map fun x => g ue x - (g iSel x - g st.iSelPrev x) / k - r * g iSel x
  let conv := d.role (Par.gfStreamVConv p) d.vBase
  let pcc := d.role (Par.gfStreamVPcc p) d.vBase
  let closed := !d.mbOpen
  let (vv, vSel, d) := (List.range 3).foldl (fun (acc : List Vote × List Rat × Device) x =>
    let (vs, sel, d) := acc
    let s := if closed then some (gr pcc x) else none
    let (v, y, d) := d.votePhase (6 + x) (9 + x) (gr conv x) s (g vM x) (Par.gfPlausVAbs p) (d.law.votesV.getD x Vote.reset)
    (vs ++ [v], sel ++ [y], d)) ([], [], d)
  let iEst := (List.range 3).map fun x =>
    if (vi.getD x Vote.reset).sel = 2 then g iM x else g iM x + Par.gfPlausGain p * (g iSel x - g iM x)
  let d := d.setLaw fun w => { w with votesI := vi, votesV := vv, st := { w.st with iEst := iEst, iSelPrev := iSel, vSelPrev := vSel } }
  (iSel, vSel, d)

/-- The sensorless state after the vote (R102). -/
def Device.sensorless (d : Device) : Device :=
  if !d.law.running then d else
  let i := d.law.votesI.any fun v => v.sel == 2
  let v := d.law.votesV.any fun v => v.sel == 2
  let w := d.law
  let enter := (i || v) && w.slCnt == 0
  let d := d.setLaw fun w => { w with
    slI := w.slI || i, slV := w.slV || v
    slCnt := if i || v || w.slCnt ≠ 0 then w.slCnt + 1 else 0
    slEntries := if enter then inc16 w.slEntries else w.slEntries
    slGood := if i || v then 0 else if w.slCnt ≠ 0 then w.slGood + 1 else 0 }
  if enter then d.raise "EV_SENSORLESS_ENTER" 2 0 0 [] else d

/-! ## Sequence components (R113) -/

/-- Cycles in a quarter of the nominal period. -/
def Device.quarterCycles (d : Device) : Nat := (rround (1 / (4 * Par.gfFNom d.P * d.tcS))).toNat
/-- Positive- and negative-sequence parts of an αβ voltage and its value a quarter period ago. -/
def dsc (x old : DQ) : DQ × DQ :=
  ({ d := (x.d - old.q) / 2, q := (x.q + old.d) / 2 }, { d := (x.d + old.q) / 2, q := (x.q - old.d) / 2 })
/-- The negative-sequence parts of the selected voltage and current, in the frame at −θ, θ in turns (R83, R113). -/
def Device.negParts (d : Device) (th : Rat) : DQ × DQ :=
  let now := d.law.seqHist.getD 0 (DQ.reset, DQ.reset)
  let old := d.law.seqHist.getD d.quarterCycles (DQ.reset, DQ.reset)
  (abToDq (dsc now.1 old.1).2 (-th), abToDq (dsc now.2 old.2).2 (-th))
/-- The voltage that R113 takes: the selected one, or the PCC streams while the main breaker is open. -/
def Device.pccFeed (d : Device) (vSel : List Rat) : DQ :=
  if d.mbOpen then clarke ((d.role (Par.gfStreamVPcc d.P) d.vBase).map Prod.fst) else clarke vSel
/-- v_pos, v_neg, the PCC angle and the loop, one cycle on; the negative-sequence pair of the frame at −θ. -/
def Device.sequences (d : Device) (vSel : List Rat) : DQ × Rat × Device :=
  let x := d.pccFeed vSel
  let n := d.quarterCycles
  let old := d.grid.ride.abHist.getD (n - 1) DQ.reset
  let (pos, neg) := dsc x old
  let ang := abAngle pos
  let r := d.grid.ride
  let predicted := wrapTurn (ang - r.pccAngle - r.pllFreq * Par.gfFNom d.P * d.tcS)
  let (a, f, rc) := Config.pllNext d.tcS (r.pllAngle, r.pllFreq, r.pllRocof) (Par.gfFNom d.P) ang
  let span := (msT 50 / d.tc).floor.toNat
  let d := d.setRide fun r => { r with
    abHist := (x :: r.abHist).take n, vPos := pos.mag, vNeg := neg.mag, negAngle := abAngle neg, pccAngle := ang
    pllAngle := a, pllFreq := f, pllRocof := rc, vHist := (pos.mag :: r.vHist).take (span + 1) }
  (abToDq neg (-d.thetaTurn), predicted, d)

end Sys2Proof.Machine
end

