-- ==== Sys2Proof/Machine/Trajectory.lean ====
section
/-! DEFINITION. The trajectory engine (R119 to R126): slew-limited tracking, moves of cubic segments, the phase register; with the meanings of MOVE_START, SEGMENT_START and MOVE_END. -/

namespace Sys2Proof.Machine

/-- Axis 0 is the phase axis, 1 the amplitude axis. -/
def Device.axis (d : Device) (amp : Bool) : Axis := if amp then d.grid.tr.amp else d.grid.tr.phase
/-- Change an axis. -/
def Device.setAxis (d : Device) (amp : Bool) (f : Axis → Axis) : Device :=
  d.setTraj fun t => if amp then { t with amp := f t.amp } else { t with phase := f t.phase }

/-! ## Segments (R122, R124) -/

/-- Offset and offset velocity at s seconds of a cubic from (p0, v0) to (p1, v1) in t seconds. -/
def cubicAt (p0 v0 p1 v1 t s : Rat) : Rat × Rat :=
  let h := s / t
  let dp := p1 - p0
  (p0 + dp * (3 * h * h - 2 * h * h * h) + t * v0 * (h - 2 * h * h + h * h * h) + t * v1 * (h * h * h - h * h),
   6 * dp * (h - h * h) / t + v0 * (1 - 4 * h + 3 * h * h) + v1 * (3 * h * h - 2 * h))
/-- The limits of R120 hold on what remains of a segment (R124): vmax is none on the phase axis. -/
def segFits (p0 v0 p1 v1 t amax : Rat) (vmax : Option Rat) : Bool :=
  let a0 := (6 * (p1 - p0) - 2 * t * (2 * v0 + v1)) / (t * t)
  let a1 := (2 * t * (v0 + 2 * v1) - 6 * (p1 - p0)) / (t * t)
  let accel := decide (rabs a0 ≤ amax) && decide (rabs a1 ≤ amax)
  match vmax with
  | none => accel
  | some vm =>
    let turn := -a0 * t / (a1 - a0)
    let inside := a0 != a1 && decide (0 < turn) && decide (turn < t)
    let peak := v0 + a0 * turn + (a1 - a0) * turn * turn / (2 * t)
    accel && decide (rabs v0 ≤ vm) && decide (rabs v1 ≤ vm) && (!inside || decide (rabs peak ≤ vm))
/-- The first length of at least n cycles that passes a check; the first argument bounds the search. -/
def lengthen : Nat → Nat → (Nat → Bool) → Nat
  | 0, n, _ => n
  | b + 1, n, ok => if ok n then n else lengthen b (n + 1) ok
/-- The segment in execution, with its end point. -/
def Axis.segNow (a : Axis) : Option Segment := a.move.bind fun m => m.segs[a.seg]?
/-- Check and lengthen what remains of the segment in execution, from the point the axis holds (R124, R125); the first lengthening of a round is told per axis (DESIGN CHOICE, assumption log 128). -/
def Device.planSegment (d : Device) (amp : Bool) : Device :=
  let a := d.axis amp
  match a.segNow with
  | none => d
  | some sg =>
    let left := max (a.segDur - a.segAt) 1
    let amax := if amp then Par.trVAccel d.P else Par.trRocofMax d.P
    let vmax := if amp then some (Par.trVRate d.P) else none
    let n := lengthen (2 ^ 40) left fun n => segFits a.off a.offVel sg.pos sg.vel ((n : Rat) * d.tcS) amax vmax
    let d := d.setAxis amp fun a => { a with pos0 := a.off, vel0 := a.offVel, segDur := n, segAt := 0, replan := false }
    if n = left then d else
    let d := (d.setTraj fun t => { t with stretch := true, stretchT := sat32 (t.stretchT + (n - left)) }).hwSet 0x5120 0x100
    d.raiseRated "EV_TR_STRETCH" 2 9 amp.toNat [(amp.toNat : Int), ((n - left : Nat) : Int)]
/-- Begin segment i of the executing move. -/
def Device.beginSegment (d : Device) (amp : Bool) (i : Nat) : Device :=
  let dur := (((d.axis amp).move.bind fun m => m.segs[i]?).getD Segment.reset).dur
  (d.setAxis amp fun a => { a with seg := i, segDur := dur, segAt := 0 }).planSegment amp

/-! ## Moves (R121, R123) -/

/-- A move starts on its free axis: a frozen base takes the velocity and E of the moment and its offset starts at 0; a locked one goes on from the offset the axis holds. -/
def Device.startMove (d : Device) (m : Move) : Device :=
  let d := d.applyWaiting (takesAt .nextMove)
  let d := d.setAxis m.amp fun a => { a with
    mode := if m.locked then 2 else 1, move := some m
    off := if m.locked then a.off else 0, offVel := if m.locked then a.offVel else 0
    base := if m.amp then a.pos else 0, baseVel := a.vel }
  (d.setTraj fun t => { t with stretchT := 0 }).beginSegment m.amp 0
/-- MOVE_START: the oldest queued move of an axis starts, once its instant has come and the axis has no move; a host move in RUN and MAINT alone (R119, R123). -/
def execMoveStart (t : Tick) (axis : Fin 2) (s : State) : Host.Outcome State Fault Refusal :=
  s.on t fun d =>
    let amp := axis.val == 1
    match d.grid.tr.queue.find? fun m => m.amp == amp with
    | none => d
    | some m =>
      let due := match m.start with
        | none => true
        | some i => decide (i ≤ d.now)
      let may := !m.host || d.conv.state == stRun || d.conv.state == stMaint
      if !due || !may || (d.axis amp).move.isSome then d else
      (d.setTraj fun t => { t with queue := t.queue.erase m }).startMove m
/-- SEGMENT_START: the segment in execution has run its length and another follows (R122, R124). -/
def execSegmentStart (t : Tick) (axis : Fin 2) (s : State) : Host.Outcome State Fault Refusal :=
  s.on t fun d =>
    let amp := axis.val == 1
    let a := d.axis amp
    match a.move with
    | none => d
    | some m => if a.segDur ≤ a.segAt && a.seg + 1 < m.segs.length then d.beginSegment amp (a.seg + 1) else d
/-- MOVE_END: the last segment has run its length; the axis returns to TRACK, or stays on the final offset of a locked move. The end of the landing ramp begins LAND_TRIM (R123, R138). -/
def execMoveEnd (t : Tick) (axis : Fin 2) (s : State) : Host.Outcome State Fault Refusal :=
  s.on t fun d =>
    let amp := axis.val == 1
    let a := d.axis amp
    match a.move with
    | none => d
    | some m =>
      if a.segAt < a.segDur || a.seg + 1 < m.segs.length then d else
      let d := d.setAxis amp fun a => if m.locked then { a with move := none } else a.toTrack
      if amp && m.locked && d.grid.seq.phase == 6 then d.setSeq fun q => { q with phase := 7, since := d.now, trimAt := d.now }
      else d

/-! ## TRACK (R120) -/

/-- One cycle of an axis whose velocity follows a target under a limit per cycle: the velocity and whether the limit acts. -/
def trackVel (v target lim : Rat) : Rat × Bool :=
  if lim < target - v then (v + lim, true) else if target - v < -lim then (v - lim, true) else (target, false)
/-- The velocity for one cycle of T seconds of a position axis whose target lies e ahead, under rate r and acceleration a: the highest that the limits allow and from which the axis, slowing by a·T each cycle, still stops on the target (R120). With m + 1 cycles to go at c, c − a·T, …, c − m·a·T the axis covers e. -/
def approach (e v r a T : Rat) : Rat :=
  let q := (e / (a * T * T)).floor.toNat
  let m := (isqrt (8 * q + 1) - 1) / 2
  let stop := (e / T + a * T * ((m * (m + 1) / 2 : Nat) : Rat)) / ((m + 1 : Nat) : Rat)
  max (v - a * T) (min (min r (v + a * T)) stop)
/-- One cycle of the amplitude axis in TRACK: position, velocity and whether a limit keeps it from the target. -/
def trackPos (pos v target r a T : Rat) : Rat × Rat × Bool :=
  let e := target - pos
  let c := if e < 0 then -(approach (-e) (-v) r a T) else approach e v r a T
  (pos + c * T, c, pos + c * T != target)

/-! ## Stage 2 (R76, R119) -/

/-- One cycle of an axis in MOVE: the offset and offset velocity at the next cycle start. -/
def Axis.stepMove (a : Axis) (tcS : Rat) : Axis :=
  match a.segNow with
  | none => a
  | some sg =>
    let n := a.segAt + 1
    if a.segDur < n then a else
    let (p, v) := cubicAt a.pos0 a.vel0 sg.pos sg.vel ((a.segDur : Rat) * tcS) ((n : Rat) * tcS)
    { a with segAt := n, off := p, offVel := v }
/-- An abort hold in which both axes hold what they have reached (R139), or a closure after a catch that waits for its transition (R140). -/
def Device.axesHeld (d : Device) : Bool := (d.grid.seq.phase == 10 && !d.grid.seq.rampDown) || d.conv.trigSeq == some (stRun, 5)
/-- PRE_CHARGE of the charge sequence (R359). -/
def Device.preCharging (d : Device) : Bool := d.conv.state == stStandby && d.conv.phase == 7
/-- The target and rate of the amplitude axis in TRACK; none where E is 0 (R119, R120, R139, R362, R363). -/
def Device.ampTarget (d : Device) : Option (Rat × Rat) :=
  let r := Par.trVRate d.P
  if d.law.running then
    if d.conv.mbRamp || d.grid.seq.rampDown then some (0, r)
    else if d.conv.state == stEnergise then some (d.law.e_t, Par.bsVRate d.P)
    else if d.conv.restart && d.conv.restartDead then some (Par.gfVSet d.P, r)
    else some (d.law.e_t, r)
  else if d.preCharging then some (if d.conv.pcStep = 2 then 0 else Par.stPcV d.P, r)
  else if d.conv.state == stMaint then some (0, r)
  else none
/-- The phase axis at the next cycle start, and its advance in turns over the cycle. -/
def Device.stepPhase (d : Device) : Device × Rat :=
  let T := d.tcS
  let fn := Par.gfFNom d.P
  let d := if (d.axis false).replan && (d.axis false).mode ≠ 0 then d.planSegment false else d
  let a := d.axis false
  if a.mode = 0 then
    let lim := Par.trRocofMax d.P / fn * T
    let (v, slew) :=
      if d.axesHeld then (a.vel, false)
      else if d.law.running then trackVel a.vel (if d.conv.state == stEnergise then Par.gfFSet d.P else d.law.st.omega) lim
      else if d.conv.state == stMaint then trackVel a.vel (Par.gfFSet d.P) lim
      else (Par.gfFSet d.P, false)
    (d.setAxis false fun a => { a with vel := v, slew := slew, replan := false }, v * fn * T)
  else
    let b := a.stepMove T
    let locked := a.mode = 2
    let vel := if locked then d.grid.ride.pllFreq + b.offVel / fn else a.baseVel + b.offVel / fn
    let adv := if locked then wrapTurn (d.grid.ride.pccAngle + d.grid.ride.pllFreq * fn * T + b.off - d.thetaTurn)
      else a.baseVel * fn * T + (b.off - a.off)
    (d.setAxis false fun _ => { b with vel := vel, slew := false, base := if locked then b.base else b.base + a.baseVel * fn * T }, adv)
/-- The amplitude axis at the next cycle start. -/
def Device.stepAmp (d : Device) : Device :=
  let T := d.tcS
  let d := if (d.axis true).replan && (d.axis true).mode ≠ 0 then d.planSegment true else d
  let a := d.axis true
  if a.mode = 0 then
    if d.axesHeld then d.setAxis true fun a => { a with vel := 0, slew := false, replan := false } else
    match d.ampTarget with
    | none => d.setAxis true fun a => { a with pos := 0, vel := 0, slew := false, replan := false }
    | some (target, rate) =>
      let (p, v, slew) := trackPos a.pos a.vel target rate (Par.trVAccel d.P) T
      d.setAxis true fun a => { a with pos := p, vel := v, slew := slew, replan := false }
  else
    let b := a.stepMove T
    let pos := if a.mode = 2 then d.grid.ride.vPos * (1 + b.off) else a.base + b.off
    d.setAxis true fun _ => { b with pos := pos, vel := (pos - a.pos) / T, slew := false }
/-- Move the phase register by an angle in turns (R126). -/
def Device.turnTheta (d : Device) (turns : Rat) : Device :=
  let (n, d) := d.quant (turns * ((2 ^ 64 : Nat) : Rat))
  d.setTraj fun t => { t with theta64 := t.theta64 + BitVec.ofInt 64 n }
/-- Stage 2: both axes and θ at the next cycle start, with the step in turns that a phase jump of the cycle before asks for (R117); a PCC-locked axis follows the PCC angle instead. -/
def Device.stage2 (d : Device) (step : Rat) : Device :=
  let locked := (d.axis false).mode = 2
  let (d, adv) := d.stepPhase
  d.stepAmp.turnTheta (if locked then adv else adv + step)

/-- θ, the frequency and E in one step at the PCC angle, the grid frequency and v_pcc times 1 + an offset, both axes on the PCC-locked base (R136, R137). -/
def Device.snapToGrid (d : Device) (off : Rat) : Device :=
  let ahead := if d.law.evaluated then d.grid.ride.pllFreq * Par.gfFNom d.P * d.tcS else 0
  let d := d.turnTheta (wrapTurn (d.grid.ride.pccAngle + ahead - d.thetaTurn))
  let d := d.setAxis false fun a => { a.toTrack with mode := 2, vel := d.grid.ride.pllFreq, off := 0, offVel := 0 }
  d.setAxis true fun a => { a.toTrack with mode := 2, pos := d.grid.ride.vPos * (1 + off), vel := 0, off := off, offVel := 0 }

end Sys2Proof.Machine
end

