-- ==== Sys2Proof/Machine/Law.lean ====
section
/-! DEFINITION. The grid-forming law, stages 3 to 7 (R77 to R118, R167, R168), with what its evaluation detects: set-point faults, RIDE, phase jumps, the landing window. -/

namespace Sys2Proof.Machine

/-! ## Set-points (R93 to R97) -/

/-- What a set-point's source gives: value, failing, flags (AIN_RANGE, stream invalid, PULSE_LOST, PULSE_LOW, PULSE_HIGH, HOST_LOST in bits 0 to 5). -/
def Device.setpSource (d : Device) (src : Nat) (host : Rat) : Rat × Nat :=
  let p := d.P
  let m := d.meas.setp
  match src with
  | 1 =>
    let s := d.strm (Par.measSetpAinStream p)
    ((s.outCode - (Par.gfSetpAinZero p : Rat)) * Par.gfSetpAinScale p, ofBits [m.ainRange, !s.valid])
  | 2 => (((m.freq : Rat) / 256 - Par.gfSetpPulseF0 p) * Par.gfSetpPulseK p / 1000, ofBits [false, false, m.pulseLost, m.pulseLow, m.pulseHigh])
  | _ => (host, if d.host.hostLost && Par.stHostLostAction p == 1 then 32 else 0)
/-- The SLP limit in force (R280): the reduced one while a reduction is demanded. -/
def Device.slpSel (d : Device) : Rat := if d.safety.slpReduced then Par.safSlpLimitLo d.P else Par.safSlpLimitHi d.P
/-- One set-point for a cycle: failure, limits, ramp (R95, R96). The target is 0 for P, 1 for Q. -/
def Device.setpStep (d : Device) (target : Nat) : Device :=
  let p := d.P
  let isQ := target = 1
  let host := if isQ then Par.gfQSet p else Par.gfPSet p
  let src := if isQ then Par.gfSetpQSrc p else Par.gfSetpPSrc p
  let (y, flags) := d.setpSource src host
  let x := if isQ then d.law.st.q else d.law.st.p
  let fresh := flags ≠ 0 && !x.failed
  -- the action of a lost host ends when HOST_LOST clears (R365); other sources are restored by SETP_RECOVERED
  let failed := if src = 0 then flags ≠ 0 else x.failed || flags ≠ 0
  let held := if fresh then x.active else x.held
  let want := if !failed then y else
    match Par.gfSetpFailAction p with
    | 0 => held
    | 1 => if isQ then Par.gfSetpQFail p else Par.gfSetpPFail p
    | _ => host
  let lo := if isQ then Par.gfQMin p else max (Par.gfPMin p) (-d.slpSel)
  let hi := if isQ then Par.gfQMax p else min (Par.gfPMax p) d.slpSel
  let lim := clampR lo hi want
  let rate := (if isQ then Par.gfSetpQRate p else Par.gfSetpPRate p) * d.tcS
  let upTo := if d.conv.stopArmed then 0 else lim
  let active :=
    if d.conv.state = stLanding || d.conv.mbRamp then 0
    else if d.grid.ride.active then x.active
    else if rate < upTo - x.active then x.active + rate
    else if upTo - x.active < -rate then x.active - rate
    else upTo
  let x' : SetSrc := { active := active, failed := failed, held := held, limit := lim != want
                       goodFrom := if failed && flags = 0 then some (x.goodFrom.getD d.now) else none }
  let d := d.setLaw fun w => { w with st := if isQ then { w.st with q := x' } else { w.st with p := x' } }
  if fresh then d.raise "EV_SETP_FAULT" 2 0 target [(target : Int), (flags : Int)] else d

/-- SETP_RECOVERED: a failed source free of every failing condition for gf.setp.recover is restored (R97). -/
def execSetpRecovered (t : Tick) (target : Fin 2) (s : State) : Host.Outcome State Fault Refusal :=
  s.on t fun d =>
    let x := if target.val = 1 then d.law.st.q else d.law.st.p
    if x.failed && d.pastOpt x.goodFrom (msT (Par.gfSetpRecover d.P)) then
      let x' := { x with failed := false, goodFrom := none }
      (d.setLaw fun w => { w with st := if target.val = 1 then { w.st with q := x' } else { w.st with p := x' } }).raise
        "EV_SETP_RECOVERED" 2 0 target [(target.val : Int)]
    else d

/-! ## Clamps (R88, R89) -/

/-- State i of Table 3-3 was brought to its clamp, or still stands there: on reaching it, its bit and EV_GF_CLAMP with its value (R89). -/
def Device.clampNote (d : Device) (i : Nat) (cut stands : Bool) (value : Rat) : Device :=
  let was := d.law.atClamp.getD i false
  let now := cut || (was && stands)
  let d := d.setLaw fun w => { w with atClamp := upd w.atClamp i fun _ => now }
  if now && !was then
    let d := (d.setLaw fun w => { w with clamp := w.clamp ||| (1#8 <<< i) }).hwSet 0x5004 (2 ^ i)
    let (v, d) := d.quant (value * 16777216)
    d.raiseRated "EV_GF_CLAMP" 2 0 i [(i : Int), v]
  else d
/-- A pair held within a magnitude, keeping its direction; whether it was cut. -/
def clampPair (x : DQ) (m : Rat) : DQ × Bool := if m * m < x.sq then (x.smul (m / x.mag), true) else (x, false)
/-- A pair stands at a clamp on its magnitude, to within what the square root resolves. -/
def DQ.standsAt (x : DQ) (m : Rat) : Bool := decide (m - 1 / ((2 ^ 60 : Nat) : Rat) ≤ x.mag)
/-- One cycle of a PI integrator pair under conditional integration (R88). -/
def integrate (x e uFree uLim : DQ) (limited : Bool) (k m : Rat) : DQ × Bool :=
  if limited && decide (0 < e.dot (uFree.sub uLim)) then (x, false) else clampPair (x.add (e.smul k)) m

/-! ## Stage 3 (R77 to R80) -/

/-- Stage 3: filters, the virtual rotor and the EMF target. A filter whose time constant is at or below Tc follows at once, and the rotor takes the p_f of this cycle (DESIGN CHOICE, assumption log 126). -/
def Device.stage3 (d : Device) (v i : DQ) : Device :=
  let p := d.P
  let T := d.tcS
  let st := d.law.st
  let pw := v.d * i.d + v.q * i.q
  let qw := v.q * i.d - v.d * i.q
  let gain := fun (tau : Rat) => if tau ≤ T then (1 : Rat) else T / tau
  let pF := st.pF + gain (Par.gfPTau p / 1000) * (pw - st.pF)
  let qF := st.qF + gain (Par.gfQTau p / 1000) * (qw - st.qF)
  let w := (d.axis false).vel
  let slp := d.slpSel
  let pRef := clampR (-slp) slp (st.p.active + (Par.gfFSet p - w) / (Par.gfDroopP p / 100))
  let w' := w + T / (2 * Par.gfInertiaH p) * (pRef - pF - Par.gfDamping p * (w - st.omegaF))
  let wf := st.omegaF + gain (Par.gfDampTau p) * (w - st.omegaF)
  let wc := clampR (Par.gfFMin p) (Par.gfFMax p) w'
  let E := (d.axis true).pos
  let err := Par.gfVSet p - v.mag
  let ride := d.grid.ride
  let stuck := (E ≥ Par.gfEMax p && 0 < err) || (E ≤ Par.gfEMin p && err < 0)
  let m := Par.gfQvIntMax p
  let xNew := if ride.active then ride.xQvFrozen else if stuck then st.xQv else st.xQv + T * Par.gfQvKi p * err
  let xQv := clampR (-m) m xNew
  let et := if ride.active then ride.eFrozen else if d.conv.state = stEnergise then Par.gfVSet p else Par.gfVSet p - Par.gfDroopQ p / 100 * (qF - st.q.active) + xQv
  let ec := clampR (Par.gfEMin p) (Par.gfEMax p) et
  let d := d.setLaw fun l => { l with e_t := ec, st := { l.st with omega := wc, omegaF := wf, pF := pF, qF := qF, xQv := xQv, e := E } }
  ((d.clampNote 0 (wc != w') (wc == Par.gfFMin p || wc == Par.gfFMax p) wc).clampNote 1 (ec != et) (ec == Par.gfEMin p || ec == Par.gfEMax p) ec).clampNote
    2 (xQv != xNew) (rabs xQv == m) xQv

/-! ## Stage 4: virtual impedance and the voltage loop (R81, R82, R84, R86, R111) -/

/-- One cycle of the 50-step change of Rv and Xv (R81). -/
def Device.rampImpedance (d : Device) : Device :=
  let st := d.law.st
  if st.rampLeft = 0 then d else
  let last := st.rampLeft = 1
  d.setLaw fun l => { l with st := { l.st with
    rv := if last then st.rvTarget else st.rv + st.rvStep
    xv := if last then st.xvTarget else st.xv + st.xvStep
    rampLeft := st.rampLeft - 1 } }
/-- The impedance that R111 adds for a predicted current: resistance and reactance. -/
def Device.cvi (d : Device) (ip : DQ) : Rat × Rat :=
  let p := d.P
  let i0 := Par.rtCviI0 p
  if ip.sq ≤ i0 * i0 then (0, 0) else
  let z := Par.rtCviK p * (ip.mag - i0)
  let xr := Par.rtCviXr p
  let n := rsqrt (1 + xr * xr)
  (z / n, z * xr / n)
/-- The angle in turns between the frame of θ and the frame in which a voltage harmonic of an order stands still: orders 1 more than a multiple of 3 turn forwards, 1 less backwards, multiples of 3 forwards (R84; assumption log 132). -/
def harmAngle (order : Nat) (th : Rat) : Rat :=
  (if order % 3 = 2 then -(order : Rat) - 1 else (order : Rat) - 1) * th
/-- The resonant pairs after a voltage error in the frame at an angle in turns, held while the limit acts, and what they add (R84, R88). A pair integrates the error in its harmonic's own frame, so that only a harmonic of zero leaves it at rest. -/
def Device.resonant (d : Device) (e : DQ) (th : Rat) (held : Bool) : DQ × Device :=
  let p := d.P
  let n := Par.gfHarmCount p
  let sum := (List.range n).foldl (fun (acc : DQ) k =>
    acc.add ((d.law.st.res.getD k DQ.reset).rot (harmAngle (Par.gfHarmOrder p k) th))) DQ.reset
  -- the pairs, whether one was cut, the amplitude of the first cut one, whether one stands at its clamp
  let step := fun (acc : List DQ × Bool × Rat × Bool) k =>
    let (l, cut, amp, at_) := acc
    let x := d.law.st.res.getD k DQ.reset
    if n ≤ k then (l ++ [x], cut, amp, at_) else
    let m := Par.gfHarmIntMax p k
    let y := if held then x else x.add ((e.rot (-(harmAngle (Par.gfHarmOrder p k) th))).smul (Par.gfHarmKi p k * d.tcS))
    let (c, one) := clampPair y m
    (l ++ [c], cut || one, if one && !cut then c.mag else amp, at_ || c.standsAt m)
  let (res, cut, amp, at_) := (List.range 8).foldl step ([], false, 0, false)
  let d := d.setLaw fun l => { l with st := { l.st with res := res } }
  (sum, d.clampNote 6 cut at_ amp)

/-! ## Stage 5: the priority current limit (R112, R116, R117) -/

/-- A current reference after stage 5. -/
structure Limited where
  /-- The limited positive-sequence reference. -/
  i : DQ
  /-- The limited negative-sequence reference. -/
  n : DQ
  /-- Any part was reduced. -/
  any : Bool
  /-- A part was reduced other than by the cap i_a_rec alone. -/
  hard : Bool
  /-- The k-floor acts. -/
  floor : Bool
  /-- i_a_rec after the cycle. -/
  rec_ : Rat
  /-- The reactive component i_r of the limited reference. -/
  ir : Rat
  deriving DecidableEq, Repr
/-- The sign of a number. -/
def rsign (x : Rat) : Rat := if x < 0 then -1 else if 0 < x then 1 else 0
/-- A reference held to a magnitude in proportion. -/
def scaleTo (x : DQ) (m : Rat) : DQ × Bool := clampPair x m
/-- Stage 5 for a reference, a negative-sequence reference and the PCC angle in the frame of the reference, in turns. -/
def Device.stage5 (d : Device) (ref neg : DQ) (a : Rat) : Limited :=
  let p := d.P
  let r := d.grid.ride
  let im := Par.rtIMax p
  -- unit vector of the positive-sequence PCC voltage in the frame of θ
  let u : DQ := { d := cosTurn a, q := sinTurn a }
  let ia := ref.dot u
  let ir := u.q * ref.d - u.d * ref.q
  let join := fun (ia ir : Rat) => ({ d := ia * u.d + ir * u.q, q := ia * u.q - ir * u.d } : DQ)
  if r.active then
    let dv := r.vPre - r.vPos
    let fl := Par.rtKFactor p * rabs dv
    let act := decide (Par.rtKDb p < rabs dv) && decide (0 < Par.rtKFactor p) && !(rsign ir == rsign dv && decide (fl ≤ rabs ir))
    let ir0 := if act then rsign dv * fl else ir
    let ir1 := rsign ir0 * min (rabs ir0) im
    let nm := neg.mag
    let cut := decide (0 < nm) && decide (im - rabs ir1 < nm)
    let n1 := if cut then neg.smul ((im - rabs ir1) / nm) else neg
    let nMag := if cut then im - rabs ir1 else nm
    let room := (im - nMag) * (im - nMag) - ir1 * ir1
    let roomA := if room ≤ 0 then 0 else rsqrt room
    let lim := min roomA r.iARec
    let ia1 := rsign ia * min (rabs ia) lim
    let cutR := ir1 != ir0
    let cutA := ia1 != ia
    { i := join ia1 ir1, n := n1, any := cutR || cut || cutA, hard := cutR || cut || (cutA && roomA ≤ r.iARec), floor := act, rec_ := lim, ir := ir1 }
  else
    let capped := r.recovery && decide (r.iARec < rabs ia)
    let ref1 := if capped then join (rsign ia * r.iARec) ir else ref
    let (ref2, cut) := scaleTo ref1 im
    { i := ref2, n := neg, any := capped || cut, hard := cut, floor := false, rec_ := r.iARec, ir := u.q * ref2.d - u.d * ref2.q }

/-! ## Stage 7: references of the arms (R85, R87, R160, R167, R168) -/

/-- Phase values of the converter voltage at an angle, with the negative-sequence part. -/
def Device.phaseRef (d : Device) (u un : DQ) (th : Nat) : List Rat :=
  ((d.phases th u).zip (d.phases ((2 ^ 32 - th % 2 ^ 32) % 2 ^ 32) un)).map fun p => p.1 + p.2
/-- The zero-sequence voltage of R167 at an angle in turns, and whether V0 is idle or limited. -/
def Device.zeroSeq (d : Device) (i : DQ) (a : Rat) : Rat × Bool × Bool :=
  let p := d.P
  let dp := d.modu.dpAb
  let I := i.mag
  if I < Par.balIMin p then (0, true, false) else
  let v := 2 * dp.mag / I
  let V := min v (Par.balV0Max p)
  let psi := ratan2 (-i.d) i.q - ratan2 dp.q dp.d
  (V * cosTurn (a + psi), false, Par.balV0Max p < v)
/-- The circulating-current reference i0* of R168 at an angle in turns, pu, and whether it is limited. -/
def Device.circRef (d : Device) (u : DQ) (a : Rat) : Rat × Bool :=
  let p := d.P
  let dp := d.modu.dpAb
  -- arm U's voltage: L1 − L2
  let x : DQ := { d := u.d * 3 / 2 - u.q * sqrt3 / 2, q := u.d * sqrt3 / 2 + u.q * 3 / 2 }
  let va := x.mag / sqrt3
  let m := Par.balI0Max p
  let want := 2 * dp.mag
  let ovr := m * va < want
  let I0 := if ovr then m else if va = 0 then 0 else want / va
  let gamma := ratan2 (-x.d) x.q
  (I0 * cosTurn (a + gamma - ratan2 dp.q dp.d), ovr)
/-- The arm's available voltage, V, for a reference and a predicted current (R87, R160). -/
def Device.vAvail (d : Device) (arm : Nat) (ref ip : Rat) : Rat :=
  let p := d.P
  let a := d.modu.arms.getD arm ModArm.reset
  let s := if rabs ip < Par.modIDirDb p * d.iBase then a.sBoth else if 0 < ref * ip then a.sDis else a.sChg
  max 0 (s - Par.modVMargin p - if d.inDelta then Par.balVcMax p * d.vBase * sqrt3 else 0)
/-- Arm values of line values: in delta U = L1 − L2, V = L2 − L3, W = L3 − L1 (R85). -/
def Device.armsOf (d : Device) (x : List Rat) (zero : Rat) : List Rat :=
  let g := fun i => x.getD i 0
  if d.inDelta then [g 0 - g 1, g 1 - g 2, g 2 - g 0] else x.map (· + zero)
/-- Arm currents of line currents: the same in star; in delta (L1 − L2)/3, (L2 − L3)/3, (L3 − L1)/3 with the circulating current (R19, R85). -/
def Device.armCurrents (d : Device) (x : List Rat) (circ : Rat) : List Rat :=
  let g := fun i => x.getD i 0
  if d.inDelta then [(g 0 - g 1) / 3 + circ, (g 1 - g 2) / 3 + circ, (g 2 - g 0) / 3 + circ] else x
/-- The arm records for converter voltages u and un, predicted current ip with its positive-sequence part iz, and the angles at E(k+1) and E(k+2); the saturation flags; what the limit took from the voltage, in dq (R87, R146). -/
def Device.stage7 (d : Device) (u un ip iz : DQ) (adv : Rat) : DQ × Device :=
  let T := d.tcS
  let a1 := d.thetaTurn
  let a2 := a1 + adv
  let (z1, idle, lim1) := if d.inDelta then (0, false, false) else d.zeroSeq iz a1
  let (z2, _, _) := if d.inDelta then (0, false, false) else d.zeroSeq iz a2
  let (c1, lim2) := if d.inDelta then d.circRef u a1 else (0, false)
  let (c2, _) := if d.inDelta then d.circRef u a2 else (0, false)
  let r1 := (d.armsOf (d.phaseRef u un (angle32 a1)) z1).map (· * d.vBase)
  let r2 := (d.armsOf (d.phaseRef u un (angle32 a2)) z2).map (· * d.vBase)
  let li := (d.phases (angle32 a1) ip).map (· * d.iBase)
  let circ := d.law.circ * d.iBase
  let ai := d.armCurrents li circ
  let limOne := fun (x : Nat) (r : Rat) =>
    let va := d.vAvail x r (ai.getD x 0)
    clampR (-va) va r
  let l1 := (List.range 3).map fun x => limOne x (r1.getD x 0)
  let l2 := (List.range 3).map fun x => limOne x (r2.getD x 0)
  let sat := (List.range 3).map fun x => l1.getD x 0 != r1.getD x 0 || l2.getD x 0 != r2.getD x 0
  let word := fun (scale x : Rat) (d : Device) =>
    let (n, d) := d.quant (x * scale)
    ((n : Rat) / scale, d)
  let us := T * 1000000
  let (recs, d) := (List.range 3).foldl (fun (acc : List ArmRecord × Device) x =>
    let (rs, d) := acc
    let (v0, d) := word 4096 (l1.getD x 0) d
    let (sl, d) := word 1048576 ((l2.getD x 0 - l1.getD x 0) / us) d
    let (i, d) := word 4096 (ai.getD x 0) d
    (rs ++ [{ ArmRecord.reset with v0 := v0, slope := sl, ip := i, active := true }], d)) ([], d)
  let (w3, d) := word 4096 (c1 * d.iArmBase) d
  let (w4, d) := word 1048576 ((c2 - c1) * d.iArmBase / us) d
  let (w5, d) := word 4096 circ d
  let recs := recs.map fun r => { r with i0ref := w3, i0slope := w4, i0 := w5 }
  let d := d.setModu fun m => { m with sentRecs := recs, balIdle := idle, balLimited := lim1 || lim2 }
  let d := d.setLaw fun l => { l with sat := sat }
  if sat.any id then
    let g := fun i => (r1.getD i 0 - l1.getD i 0) / d.vBase
    let ph := if d.inDelta then [(g 0 - g 2) / 3, (g 1 - g 0) / 3, (g 2 - g 1) / 3] else [g 0, g 1, g 2]
    (d.park (angle32 a1) ph, d)
  else (DQ.reset, d)

/-! ## The law from stage 4 on (R81 to R90) -/

/-- The negative-sequence reference: in RIDE, k_neg times v_neg lagging the negative-sequence voltage by 90° (R117). -/
def Device.negRef (d : Device) (vn : DQ) : DQ :=
  if d.grid.ride.active && Par.gfNegseqEn d.P && Par.rtNegMode d.P == 1 then
    { d := -Par.rtKNeg d.P * vn.q, q := Par.rtKNeg d.P * vn.d }
  else DQ.reset
/-- The sampled values of a cycle that stages 4 to 7 take, and the frame angle θ(k), in turns, that they stand in. -/
structure Sampled where
  /-- Terminal voltage in the frame of θ(k). -/
  v : DQ
  /-- Line currents in the frame of θ(k). -/
  i : DQ
  /-- Negative-sequence part of the voltage, in the frame at −θ(k). -/
  vn : DQ
  /-- Negative-sequence part of the current, in the frame at −θ(k). -/
  in_ : DQ
  /-- Negative sequence of the voltage of R113, in the frame at −θ(k). -/
  vNeg : DQ
  /-- θ(k) in turns. -/
  th : Rat
  deriving DecidableEq, Repr
/-- One cycle of the current loop of a sequence (R83): current, voltage, error, integrators and the cross term ω·l with its sign. -/
def loopOut (v i e x : DQ) (kp wl : Rat) : DQ := ((v.add (e.smul kp)).add x).add { d := -wl * i.q, q := wl * i.d }
/-- The current a cycle ahead under the voltage sent (R86). -/
def ahead (i v u : DQ) (k r : Rat) : DQ := i.add (((u.sub v).sub (i.smul r)).smul k)
/-- Stages 4 to 7 (R81 to R88). With gf.negseq_en the two loops of stage 6 work each on its own sequence of current and voltage (assumption log 133). -/
def Device.stages4to7 (d : Device) (x : Sampled) : Device :=
  let p := d.P
  let T := d.tcS
  let st := d.law.st
  let w := (d.axis false).vel
  let two := Par.gfNegseqEn p
  let k := T * d.wBase / Par.gfLArm p
  let pr := Par.gfPredict p
  let turn := w * Par.gfFNom p * T
  let r := Par.gfRArm p
  let ip := if pr then ahead x.i x.v st.uPrev k r else x.i
  let vp := if pr then x.v.rot turn else x.v
  let inp := if pr then ahead x.in_ x.vn st.unPrev k r else x.in_
  let vnp := if pr then x.vn.rot (-turn) else x.vn
  -- stage 4
  let (rcl, xcl) := d.cvi ip
  let rv := d.law.st.rv + rcl
  let xv := d.law.st.xv + xcl
  let E := (d.axis true).pos
  let vRef : DQ := { d := E - rv * ip.d + xv * ip.q, q := -rv * ip.q - xv * ip.d }
  let ev := vRef.sub vp
  let (res, d) := d.resonant ev (if pr then x.th + turn else x.th) d.law.limitedAny
  let ref := (((ip.smul (Par.gfVloopIff p)).add (ev.smul (Par.gfVloopKp p))).add st.xV).add res
  -- stage 5
  let neg := d.negRef x.vNeg
  let lim := d.stage5 ref neg (d.grid.ride.pccAngle - x.th)
  let mV := Par.gfVloopIntMax p
  let (xV, cutV) := integrate st.xV ev ref lim.i lim.any (Par.gfVloopKi p * T) mV
  let recv :=
    if d.grid.ride.active then lim.rec_
    else if d.grid.ride.recovery then min (Par.rtIMax p) (d.grid.ride.iARec + Par.rtPRecover p * T) else Par.rtIMax p
  let d := d.setRide fun r => { r with
    cvi := decide (0 < rcl) || decide (0 < xcl), iLimit := lim.any, kFloor := lim.floor
    negInj := r.active && neg != DQ.reset, iARec := recv }
  -- stage 6
  let kp := Par.gfIloopKp p
  let wl := w * Par.gfLArm p
  let iz := ip.sub (inp.rot (-2 * x.th))
  let iPos := if two then iz else ip
  let vPos := if two then vp.sub (vnp.rot (-2 * x.th)) else vp
  let ei := lim.i.sub iPos
  let u := loopOut vPos iPos ei st.xI kp wl
  let en := lim.n.sub inp
  let un := if two then loopOut vnp inp en st.xIneg kp (-wl) else DQ.reset
  -- stage 7
  let (cut, d) := d.stage7 u un ip iz turn
  let a1 := d.thetaTurn
  let sat := d.law.sat.any id
  let ki := Par.gfIloopKi p * T
  let m := Par.gfIloopIntMax p
  let (xI, cutI) := integrate st.xI ei u (u.sub cut) sat ki m
  let (xN, cutN) := if two then integrate st.xIneg en un (un.sub (cut.rot (2 * a1))) sat ki m else (st.xIneg, false)
  let d := d.setLaw fun l => { l with
    limited := lim.hard, limitedAny := lim.any, iR := lim.ir
    st := { l.st with xV := xV, xI := xI, xIneg := xN, uPrev := (u.add (un.rot (-2 * a1))).sub cut, unPrev := un } }
  (((d.clampNote 3 cutV (xV.standsAt mV) xV.mag).clampNote 4 cutI (xI.standsAt m) xI.mag).clampNote 5 cutN (xN.standsAt m) xN.mag).clampNote 7 sat false 0

/-! ## RIDE and the phase jump (R114 to R118) -/

/-- Entry into RIDE by a condition (R114, R115, R123). -/
def Device.rideEntry (d : Device) (cond : Nat) : Device :=
  let r := d.grid.ride
  -- the mean over the 50 ms before the cycle of entry, whose own value is the newest
  let old := r.vHist.drop 1
  let pre := if old.isEmpty then r.vPos else rsum old / (old.length : Rat)
  let d := d.setRide fun r => { r with
    active := true, recovery := false, since := d.now, exitFrom := none, entries := inc16 r.entries, vPre := pre
    eFrozen := d.law.e_t, xQvFrozen := d.law.st.xQv }
  let d := d.flushMoves
  let (v, d) := d.quant (r.vPos * 16777216)
  ((d.raise "EV_RT_ENTER" 2 0 0 [(cond : Int), v]).recEvent 1 d.cycle.eK).maskStart 0 0
/-- A phase jump of an angle in turns: event, HST_RT_JUMP, and the step of θ due beyond rt.jump_max (R117). -/
def Device.phaseJump (d : Device) (jump : Rat) : Device :=
  let deg := jump * 360
  if rabs deg ≤ Par.rtJumpDet d.P then d.setRide fun r => { r with jumpNow := false } else
  let ovr := rabs deg - Par.rtJumpMax d.P
  let step := if ovr ≤ 0 then 0 else rsign deg * ovr
  let (j, d) := d.quant (deg * 100)
  let (sj, d) := d.quant (step * 100)
  (d.setRide fun r => { r with jumpNow := true, jumps := inc16 r.jumps, jump := j, thetaStep := step / 360 }).raise
    "EV_RT_PHASE_JUMP" 2 0 0 [j, sj]
/-- The RIDE conditions of R114 in RUN, the exit conditions of R118 and the slip of R117. -/
def Device.rideCheck (d : Device) (jump : Rat) : Device :=
  if d.conv.state ≠ stRun || !d.law.running then d.setRide fun r => { r with slip := 0, jumpNow := false } else
  let p := d.P
  let d := d.phaseJump jump
  let r := d.grid.ride
  let apart := decide (Par.rtSlipAngle p < rabs (wrapTurn (d.thetaTurn - r.pccAngle)) * 360)
  let d := d.setRide fun r => { r with slip := if apart then r.slip + 1 else 0 }
  if r.active then
    let good := decide (Par.rtVLoExit p ≤ r.vPos) && decide (r.vPos ≤ Par.rtVHiExit p) && decide (r.vNeg < Par.rtVnegExit p) && !d.law.limited
    d.setRide fun r => { r with exitFrom := if good then some (r.exitFrom.getD d.now) else none }
  else if d.law.limited then d.rideEntry 1
  else if r.vPos < Par.rtVLoEnter p || Par.rtVHiEnter p < r.vPos then d.rideEntry 2
  else if Par.rtVnegEnter p < r.vNeg then d.rideEntry 3
  else if r.jumpNow then d.rideEntry 4
  else d

/-- RT_SYNC_LOST: the angle has stayed beyond rt.slip_angle for rt.slip_cycles cycles (R117). -/
def execRtSyncLost (t : Tick) (s : State) : Host.Outcome State Fault Refusal :=
  s.on t fun d =>
    if Par.rtSlipCycles d.P ≤ d.grid.ride.slip && d.grid.ride.slip ≠ 0 then
      ((d.setRide fun r => { r with slip := 0 }).raise "EV_RT_SYNC_LOST" 2 0 0 []).controlTrip 2
    else d
/-- RIDE_EXIT: the exit conditions have held together for rt.exit_time (R118). -/
def execRideExit (t : Tick) (s : State) : Host.Outcome State Fault Refusal :=
  s.on t fun d =>
    if d.grid.ride.active && d.pastOpt d.grid.ride.exitFrom (msT (Par.rtExitTime d.P)) then
      (d.setRide fun r => { r with
        active := false, exitFrom := none, kFloor := false, negInj := false, recovery := decide (r.iARec < Par.rtIMax d.P) }).raise "EV_RT_EXIT" 2 0 0 []
    else d
/-- RIDE_TIMEOUT: RIDE has lasted rt.max_time (R118). -/
def execRideTimeout (t : Tick) (s : State) : Host.Outcome State Fault Refusal :=
  s.on t fun d =>
    if d.grid.ride.active && d.past d.grid.ride.since (sT (Par.rtMaxTime d.P)) then
      (d.raise "EV_RT_TIMEOUT" 2 0 0 []).controlTrip 3
    else d
/-- RECOVERY_END: i_a_rec has reached rt.i_max (R118). -/
def execRecoveryEnd (t : Tick) (s : State) : Host.Outcome State Fault Refusal :=
  s.on t fun d =>
    if d.grid.ride.recovery && !d.grid.ride.active && decide (Par.rtIMax d.P ≤ d.grid.ride.iARec) then
      d.setRide fun r => { r with recovery := false }
    else d

/-! ## Feedback declarations (R100, R102) -/

/-- The suspect runs that have reached gf.plaus.count, in the order of HST_PLAUS_FAULT. -/
def Device.suspects (d : Device) : List Nat :=
  let n := Par.gfPlausCount d.P
  let of := fun (v : List Vote) (base : Nat) => (List.range 3).flatMap fun x =>
    let w := v.getD x Vote.reset
    (if n ≤ w.mainSus then [base + x] else []) ++ (if n ≤ w.secSus then [base + 3 + x] else [])
  (of d.law.votesI 0 ++ of d.law.votesV 6).filter fun x => !(d.law.sensors.getD x Sensor.reset).faulty
/-- FEEDBACK_SENSOR_FAULT: conditions that have persisted gf.plaus.count cycles are declared; MODEL_DEV stands until a reset (R100; DESIGN CHOICE, assumption log 127). -/
def execFeedbackSensorFault (t : Tick) (s : State) : Host.Outcome State Fault Refusal :=
  s.on t fun d =>
    let d := d.suspects.foldl (fun d x =>
      (d.setLaw fun l => { l with sensors := upd l.sensors x fun _ => { faulty := true, rearmed := false, agree := 0 } }).raise
        "EV_FEEDBACK_SENSOR_FAULT" 2 0 x [(x : Int)]) d
    let dev := (d.law.votesI ++ d.law.votesV).any fun v => decide (Par.gfPlausCount d.P ≤ v.modSus)
    if dev && !d.law.modelDev then (d.setLaw fun l => { l with modelDev := true }).raise "EV_FEEDBACK_MODEL_DEV" 2 0 0 [] else d
/-- SENSOR_READMISSION: a rearmed sensor has agreed for gf.plaus.rearm cycles (R100). -/
def execSensorReadmission (t : Tick) (sensor : Fin 12) (s : State) : Host.Outcome State Fault Refusal :=
  s.on t fun d =>
    let x := d.law.sensors.getD sensor Sensor.reset
    if x.faulty && x.rearmed && Par.gfPlausRearm d.P ≤ x.agree then
      d.setLaw fun l => { l with sensors := upd l.sensors sensor fun _ => Sensor.reset }
    else d
/-- SENSORLESS_EXIT: every phase has selected a sensor for gf.plaus.count cycles (R102). -/
def execSensorlessExit (t : Tick) (s : State) : Host.Outcome State Fault Refusal :=
  s.on t fun d =>
    if d.law.slCnt ≠ 0 && Par.gfPlausCount d.P ≤ d.law.slGood then
      (d.setLaw fun l => { l with slI := false, slV := false, slCnt := 0, slGood := 0 }).raise "EV_SENSORLESS_EXIT" 2 0 0 []
    else d
/-- SENSORLESS_TRIP: the consecutive count has reached gf.plaus.sensorless_max (R102). -/
def execSensorlessTrip (t : Tick) (s : State) : Host.Outcome State Fault Refusal :=
  s.on t fun d =>
    if d.law.running && Par.gfPlausSensorlessMax d.P ≤ d.law.slCnt then
      (d.raise "EV_SENSORLESS_TRIP" 2 0 0 []).controlTrip 1
    else d

/-! ## The bus and the landing (R133, R138, R139) -/

/-- The bus band from the squares over one nominal period: 0 dead, 1 indeterminate, 2 live. -/
def Device.busBand (d : Device) : Nat :=
  let p := d.P
  -- (RMS · √2)² of a phase, pu²
  let amp2 := d.grid.seq.pccSq.map fun l => if l.isEmpty then (0 : Rat) else 2 * rsum l / (l.length : Rat)
  let f := d.grid.ride.pllFreq
  if amp2.all fun a => decide (a < Par.bsDeadV p * Par.bsDeadV p) then 0
  else if (amp2.all fun a => decide (Par.bsLiveV p * Par.bsLiveV p < a)) && decide (Par.gfFMin p ≤ f) && decide (f ≤ Par.gfFMax p) then 2
  else 1
/-- The monitor of R133 and the differences of R138, one cycle on; Δf is the change of Δθ over the cycle (DEDUCED, assumption log 130). -/
def Device.monitor (d : Device) : Device :=
  let pcc := d.role (Par.gfStreamVPcc d.P) d.vBase
  let conv := clarke ((d.role (Par.gfStreamVConv d.P) d.vBase).map Prod.fst)
  let n := max 1 (rround (1 / (Par.gfFNom d.P * d.tcS))).toNat
  let q := d.grid.seq
  let sq := (List.range 3).map fun x =>
    let v := (pcc.getD x (0, false)).1
    ((v * v) :: q.pccSq.getD x []).take n
  let qc := d.quarterCycles
  let (pos, _) := dsc conv (q.convHist.getD (qc - 1) DQ.reset)
  let ang := abAngle pos
  let r := d.grid.ride
  let dth := wrapTurn (ang - r.pccAngle)
  let df := wrapTurn (dth - q.dTheta / 360) / d.tcS
  let d := d.setSeq fun q => { q with
    pccSq := sq, convHist := (conv :: q.convHist).take qc, convAngle := ang
    dTheta := dth * 360, dV := pos.mag - r.vPos, dF := df }
  let b := d.busBand
  d.setSeq fun q => { q with
    deadFrom := if b = 0 then some (q.deadFrom.getD d.now) else none
    liveFrom := if b = 2 then some (q.liveFrom.getD d.now) else none }
/-- The differences lie in the close window (R138). -/
def Device.inWindow (d : Device) : Bool :=
  let q := d.grid.seq
  decide (rabs q.dV ≤ Par.landDvMax d.P) && decide (rabs q.dTheta ≤ Par.landDthetaMax d.P) && decide (rabs q.dF ≤ Par.landDfMax d.P)
/-- The landing in a cycle: its aborts by the bus and the grid ROCOF, and the window (R138, R139). -/
def Device.landingCycle (d : Device) : Device :=
  if !d.landing then d
  else if d.busBand ≠ 2 then d.landAbort 3
  else if Par.landRocofMax d.P < rabs d.grid.ride.pllRocof then d.landAbort 4
  else
    let ok := d.inWindow
    match d.grid.seq.phase, ok with
    | 7, true => d.setSeq fun q => { q with phase := 8, since := d.now, dwellFrom := some d.now }
    | 8, false => d.setSeq fun q => { q with phase := 7, since := d.now, trimAt := d.now, dwellFrom := none }
    | 9, false =>
      ((d.withdrawClose 0).setSeq fun q => { q with phase := 7, since := d.now, trimAt := d.now, dwellFrom := none }).raise "EV_LAND_WINDOW_LOST" 2 8 0 []
    | _, _ => d
/-- Completions that the applied E decides: BS_ENERGISE (R134), E at 0 after an abort hold or after MB OPEN (R139, R362), the ends of the ramps of PRE_CHARGE (R359). -/
def Device.emfEnds (d : Device) : Device :=
  let E := (d.axis true).pos
  if d.conv.state = stEnergise && d.grid.seq.phase = 5 && !d.conv.mbRamp && E = d.law.e_t && Par.bsVDone d.P ≤ d.grid.ride.vPos then
    d.setConv fun c => { c with trigSeq := some (stRun, 6) }
  else if d.conv.mbRamp && E = 0 then d.setConv fun c => { c with trigSeq := some (stCharged, 9) }
  else if d.grid.seq.rampDown && E = 0 then d.setConv fun c => { c with trigSeq := some (stCharged, 8) }
  else if d.preCharging && d.conv.pcStep = 0 && E = Par.stPcV d.P then d.setConv fun c => { c with pcStep := 1, phaseFrom := d.now }
  else if d.preCharging && d.conv.pcStep = 2 && E = 0 then d.setConv fun c => { c with trigSeq := some (stCharged, 2) }
  else d

/-! ## Law entry (R90, Table 3-3) -/

/-- Every state takes its value at law entry; the current-loop integrators are preloaded so that the first output is the voltage the trajectory engine requested, and no negative sequence. -/
def Device.lawEntry (d : Device) : Device :=
  let th := d.theta
  let st := d.law.st
  let v := d.park th st.vSelPrev
  let i := d.park th st.iSelPrev
  let u : DQ := { d := (d.axis true).pos, q := 0 }
  let w := (d.axis false).vel
  let two := Par.gfNegseqEn d.P
  let vn := (d.negParts d.thetaTurn).1
  let st' : LawStates := { st with
    omega := w, omegaF := w, pF := v.d * i.d + v.q * i.q, qF := v.q * i.d - v.d * i.q, xQv := 0, e := (d.axis true).pos
    xV := DQ.reset, xI := u.sub (if two then v.sub (vn.rot (-2 * d.thetaTurn)) else v), xIneg := if two then DQ.reset.sub vn else DQ.reset
    res := List.replicate 8 DQ.reset, uPrev := u, unPrev := DQ.reset }
  let d := d.setLaw fun l => { l with running := true, st := st', ckpt := st', e_t := if d.conv.state = stEnergise then Par.gfVSet d.P else (d.axis true).pos, limited := false, limitedAny := false, slCnt := 0, slGood := 0 }
  d.setRide fun r => { r with active := false, recovery := false, exitFrom := none, iARec := Par.rtIMax d.P, slip := 0 }
/-- The law stops: inactive zero references, the residues 0, no current to balance with, RIDE and every move over (R90, R119, R156, R167). -/
def Device.lawStop (d : Device) : Device :=
  let d := d.setLaw fun l => { l with running := false, slI := false, slV := false, slCnt := 0, slGood := 0, limited := false, limitedAny := false, sat := [false, false, false], atClamp := List.replicate 8 false }
  let d := d.setRide fun r => { r with active := false, cvi := false, iLimit := false, kFloor := false, negInj := false, recovery := false, exitFrom := none, iARec := Par.rtIMax d.P, slip := 0 }
  (d.setModu fun m => { m with balIdle := !d.inDelta, balLimited := false, arms := m.arms.map fun a => { a with rho := 0 } }).dropMoves

/-! ## The evaluation -/

/-- Inactive zero references (R90), or the open-loop references of PRE_CHARGE. -/
def Device.idleReference (d : Device) : Device :=
  let d := d.setModu fun m => { m with sentRecs := List.replicate 3 ArmRecord.reset }
  if !d.preCharging then d else
  let u : DQ := { d := (d.axis true).pos, q := 0 }
  (d.stage7 u DQ.reset DQ.reset DQ.reset ((d.axis false).vel * Par.gfFNom d.P * d.tcS)).2
/-- The condition of an earth-current or star-point function in a cycle: its hold time starts, goes on, or ends together with the source's input (R251). -/
def Device.overThreshold (d : Device) (src stream : Nat) (limit : Rat) (from_ : Option Tick) : Option Tick × Device :=
  let s := d.strm stream
  let above := decide (0 < limit) && (if s.valid then decide (limit < rabs ((s.out : Rat) / 256)) else d.law.running)
  if above then (some (from_.getD d.now), d) else (none, d.inputInactive src)
/-- Earth current and star-point voltage in a cycle (R251). -/
def Device.earthStar (d : Device) : Device :=
  let (ef, d) := d.overThreshold 43 56 (Par.protEfI d.P) d.prot.efFrom
  let (sp, d) := d.overThreshold 44 52 (if d.inDelta then 0 else Par.protSpV d.P) d.prot.spFrom
  d.setProt fun p => { p with efFrom := ef, spFrom := sp }
/-- The arm currents that the meter engine takes at this cycle start: of the sensor that the vote selects, ahead of the rank filter and the response, or of the model (R190). -/
def Device.meterSamples (d : Device) : Device :=
  let m := d.armCurrents (d.law.st.iEst.map fun x => x * d.iBase) (d.circOf * d.iBase)
  let one := fun (x : Nat) =>
    let sel := (d.law.votesI.getD x Vote.reset).sel
    if sel = 2 then (m.getD x 0, 2, false) else
    let n := if sel = 0 then Par.gfStreamIMain d.P x else Par.gfStreamISec d.P x
    let g := (d.strm n).lastGood
    ((g.code - Par.measStreamOffset d.P n) * Par.measStreamGain d.P n, sel, g.sat)
  let l := (List.range 3).map one
  d.setPacks fun p => { p with iNow := l.map fun x => x.1, iKind := l.map fun x => x.2.1, iSat := l.map fun x => x.2.2 }
/-- One cycle of Rafter: plausibility, R113, the trajectory step and, while the law runs, its stages (Table 3-2). -/
def Device.lawCycle (d : Device) : Device :=
  let d := d.setLaw fun l => { l with ckpt := l.st, circ := d.circOf }
  let d := d.earthStar
  let (iSel, vSel, d) := d.plausibility
  let d := d.setLaw fun l => { l with seqHist := ((clarke vSel, clarke iSel) :: l.seqHist).take (d.quarterCycles + 1) }
  let d := d.sensorless.meterSamples
  let (vNeg, jump, d) := d.sequences vSel
  let d := (d.setLaw fun l => { l with vPll := clarke vSel }).monitor
  let step := d.grid.ride.thetaStep
  let d := d.landingCycle.setRide fun r => { r with thetaStep := 0 }
  let d := (((d.rideCheck jump).setpStep 0).setpStep 1).rampImpedance
  let th := d.theta
  let (vn, in_) := d.negParts d.thetaTurn
  let x : Sampled := { v := d.park th vSel, i := d.park th iSel, vn := vn, in_ := in_, vNeg := vNeg, th := d.thetaTurn }
  let d := d.stage2 step
  let d := if d.law.running then (d.stage3 x.v x.i).stages4to7 x else d.idleReference
  d.emfEnds

/-- The Active sends the checkpoint after stage 7, in two parts (Table 10-2). -/
def Device.sendCheckpoint (d : Device) : Device := [0, 1].foldl (fun (d : Device) n => d.activeSend 2 n 512 (.checkpoint n d.law.st)) d
/-- RAFTER_LAW_EVALUATION: Rafter evaluates the law; a failing stage restores the checkpoint, sends no reference and is reported, while the meter engine, which is apart from the law, takes its samples (R76, R91, R107, R190). -/
def execRafterLawEvaluation (t : Tick) (clocks : Nat) (fail : Fin 3) (s : State) : Host.Outcome State Fault Refusal :=
  s.on t fun d =>
    if d.law.evaluated then d else
    let d := d.setLaw fun l => { l with loadMax := max l.loadMax (min clocks 4095) }
    match fail.val with
    | 0 => ((d.lawCycle.setLaw fun l => { l with evaluated := true }).stamp 2 fun g => { g with v2 := g.v1 }).sendCheckpoint
    | 1 => d.meterSamples.errReport 0x0010 1 0 0 0
    | _ => d.meterSamples.errReport 0x0011 1 0 0 0

end Sys2Proof.Machine
end

