-- ==== Sys2Proof/Machine/Breakers.lean ====
section
/-! DEFINITION. Breaker position inputs (R127 to R131), black start (R132 to R136) and the landing move (R137 to R140), with the meanings of their commands. -/

namespace Sys2Proof.Machine

/-- Cycles that a span in ms takes, at least one. -/
def Device.cyclesOf (d : Device) (ms : Rat) : Nat := max 1 (msT ms / d.tc).ceil.toNat
/-- A signed Q8.24 payload of a number. -/
def Device.q24 (d : Device) (x : Rat) : Int × Device := d.quant (x * 16777216)

/-! ## Consequences of a position (R130, R139, R140, R362) -/

/-- The sequence completes on the closed main breaker: axes to TRACK, RUN requested, EV_LAND_CLOSED (R140). -/
def Device.landClosed (d : Device) : Device :=
  let q := d.grid.seq
  let late := q.phase == 10 || q.withdrawn
  let (a, d) := d.quant (q.dTheta * 100)
  let (v, d) := d.quant (q.dV * 10000)
  let (f, d) := d.quant (q.dF * 1000)
  let d := d.setTraj fun t => { t with phase := t.phase.toTrack, amp := t.amp.toTrack, queue := t.queue.filter Move.host }
  let no := if d.conv.state = stLanding then 7 else 5
  let d := d.setConv fun c => { c with trigSeq := some (stRun, no) }
  let d := d.setSeq fun q => { q with phase := 0, rampDown := false, caught := false, dwellFrom := none }
  d.raise "EV_LAND_CLOSED" 2 8 0 [a, v, f, (late.toNat : Int)]
/-- The main breaker open in RUN or ENERGISE: set-points 0 at once, sequences end, E ramps to 0 (R362). -/
def Device.mbOpened (d : Device) : Device :=
  if d.conv.state ≠ stRun && d.conv.state ≠ stEnergise then d else
  let d := d.raise "EV_MB_OPENED" 0 6 0 []
  let zero := fun (x : SetSrc) => { x with active := 0 }
  let d := d.setLaw fun l => { l with st := { l.st with p := zero l.st.p, q := zero l.st.q } }
  let d := d.setSeq fun q => { q with phase := 0, rampDown := false, caught := false, dwellFrom := none }
  let d := d.setTraj fun t => { t with phase := t.phase.toTrack, amp := t.amp.toTrack, queue := [] }
  d.setConv fun c => { c with mbRamp := true, trigMb := true }
/-- What a new position of breaker b brings. A change of the main breaker after a close command was withdrawn counts as one before the close command (DEDUCED, assumption log 131). -/
def Device.brkMoved (d : Device) (b pos : Nat) : Device :=
  let d := if pos = 1 then
      let x := d.brkAt b
      d.setBrk b fun y => { y with closePend := false, closeReq := false, release := x.closeOut }
    else d
  let ph := d.grid.seq.phase
  let abort := d.brkUsed b && d.landing && (pos == 3 || ph ≠ 9 || Par.brkRole d.P b == 2)
  if b = 0 && pos = 1 && (d.landing || ph = 10 || (ph = 4 && d.grid.seq.caught)) && !abort then d.landClosed
  else if abort then d.landAbort 2
  else if b = 0 && pos = 1 && ph = 4 then d.setConv fun c => { c with trigSeq := some (stEnergise, 3) }
  else if b = 0 && pos = 0 then d.mbOpened
  else d
/-- The position after a change of contacts or latches: a change is counted, raised and acted on (R128, R130). -/
def Device.brkSettle (d : Device) (b : Nat) : Device :=
  let x := d.brkAt b
  let travel := match x.a.deb, x.b.deb with
    | some p, some q => p == q
    | _, _ => false
  let d := d.setBrk b fun x => { x with travelFrom := if travel then some (x.travelFrom.getD d.now) else none }
  let pos := x.position
  if pos = x.pos then d else
  let d := d.setBrk b fun x => { x with pos := pos, changes := inc16 x.changes }
  (d.raise "EV_BRK_POS_CHANGE" 3 6 b [(b : Int), (x.pos : Int), (pos : Int)]).brkMoved b pos

/-! ## Contacts (R127 to R130) -/

/-- A contact of a breaker: 0 the a-contact, 1 the b-contact. -/
def Breaker.contact (x : Breaker) (c : Nat) : Contact := if c = 0 then x.a else x.b
/-- Change a contact. -/
def Breaker.setContact (x : Breaker) (c : Nat) (f : Contact → Contact) : Breaker := if c = 0 then { x with a := f x.a } else { x with b := f x.b }
/-- BREAKER_CONTACT_CHANGE: a contact's input has held a new level for a number of samples; past the filter of prot.brk_filt the debounce starts anew and the chatter detector takes the transition (R127, R130, R233). -/
def execBreakerContactChange (t : Tick) (b : Fin 2) (c : Fin 2) (level : Bool × Nat) (s : State) : Host.Outcome State Fault Refusal :=
  s.on t fun d =>
    let x := (d.brkAt b).contact c
    if x.filt = level.1 || level.2 < Par.protBrkFilt d.P then d else
    let n := Par.brkChatterN d.P b
    let trans := noteTransition x.trans d.now n
    let d := d.setBrk b fun y => y.setContact c fun x => { x with filt := level.1, filtFrom := some d.now, trans := trans }
    if !chatters trans n (msT (Par.brkChatterWin d.P b)) then d else
    let d := d.setProt fun p => { p with contactChat := p.contactChat ||| (1#4 <<< (2 * b.val + c.val)) }
    if (d.brkAt b).chatFault then d else
    ((d.setBrk b fun y => { y with chatFault := true }).raise "EV_BRK_POS_FAULT" 3 6 b [(b.val : Int), 1]).brkSettle b
/-- BREAKER_DEBOUNCE_DONE: a filtered level held for brk[b].debounce becomes the debounced state (R127, R129). -/
def execBreakerDebounceDone (t : Tick) (b : Fin 2) (c : Fin 2) (s : State) : Host.Outcome State Fault Refusal :=
  s.on t fun d =>
    let x := (d.brkAt b).contact c
    if x.deb = some x.filt || !d.past (x.filtFrom.getD 0) (msT (Par.brkDebounce d.P b)) then d else
    (d.setBrk b fun y => y.setContact c fun x => { x with deb := some x.filt }).brkSettle b
/-- BREAKER_DISCREPANCY: TRAVEL for more than brk[b].disc_time makes the breaker FAULTY (R128, R130). -/
def execBreakerDiscrepancy (t : Tick) (b : Fin 2) (s : State) : Host.Outcome State Fault Refusal :=
  s.on t fun d =>
    let x := d.brkAt b
    match x.travelFrom with
    | none => d
    | some f =>
      if x.discFault || !d.pastBeyond f (msT (Par.brkDiscTime d.P b)) then d else
      ((d.setBrk b fun y => { y with discFault := true }).raise "EV_BRK_POS_FAULT" 3 6 b [(b.val : Int), 0]).brkSettle b

/-! ## Close outputs (R131) -/

/-- The close outputs at a cycle boundary; a Standby releases them (R314). -/
def Device.closeBoundary (d : Device) : Device :=
  let off := d.standby
  let step := fun (x : Breaker) =>
    if off then { x with closeReq := false, closeOut := false, closePend := false, release := false }
    else if x.closeReq then
      -- a breaker that already stands CLOSED has reached it: the output lasts to the next boundary
      { x with closeReq := false, closeOut := true, closeFrom := d.now, closePend := x.position != 1, release := x.position == 1 }
    else if x.release then { x with closeOut := false, release := false }
    else x
  { d with grid := { d.grid with brk := d.grid.brk.map step } }
/-- CLOSE_PULSE_EXPIRY: brk[b].close_pulse after assertion the output is released at the next boundary. -/
def execClosePulseExpiry (t : Tick) (b : Fin 2) (s : State) : Host.Outcome State Fault Refusal :=
  s.on t fun d =>
    let x := d.brkAt b
    if x.closeOut && d.past x.closeFrom (msT (Par.brkClosePulse d.P b)) then d.setBrk b fun x => { x with release := true } else d
/-- CLOSE_MAX_EXPIRY: CLOSED not reached within brk[b].close_max of assertion (R131, R139). -/
def execCloseMaxExpiry (t : Tick) (b : Fin 2) (s : State) : Host.Outcome State Fault Refusal :=
  s.on t fun d =>
    let x := d.brkAt b
    if !x.closePend || !d.past x.closeFrom (msT (Par.brkCloseMax d.P b)) then d else
    ((d.setBrk b fun x => { x with closePend := false }).raise "EV_BRK_CLOSE_FAIL" 3 6 b [(b.val : Int)]).landAbort 6

/-! ## Black start (R132 to R136) -/

/-- The first condition of R132 that does not hold, numbered from 1; without a breaker of role tie its condition is met (DEDUCED, assumption log 129). -/
def Device.bsRefusal (d : Device) : Option Nat :=
  let tieShut := (List.range 2).any fun b => Par.brkRole d.P b == 2 && (d.brkAt b).position != 0
  if !Par.bsEnable d.P then some 1
  else if d.conv.state ≠ stCharged then some 2
  else if !d.mbOpen then some 3
  else if tieShut then some 4
  else if d.anyBrkFaulty then some 5
  else none
/-- A phase of the black start begins. -/
def Device.seqPhase (d : Device) (ph : Nat) : Device := d.setSeq fun q => { q with phase := ph, since := d.now }
/-- The black-start sequence begins with BS_CONFIRM (R134). -/
def Device.bsBegin (d : Device) : Device := (d.setSeq fun q => { q with withdrawn := false, caught := false, band := d.busBand }).seqPhase 1
/-- The hold-off in ms for an attempt (R135). -/
def Device.holdoffMs (d : Device) (attempt : Nat) : Rat :=
  let n := leVal (shake256 (identity ++ leBytes 2 attempt) 2)
  Par.bsHoldoffMin d.P + ((n % Par.bsHoldoffSlots d.P : Nat) : Rat) * Par.bsHoldoffSlot d.P
/-- The later of two instants of which one may be missing. -/
def laterOf (a : Option Tick) (b : Tick) : Option Tick := a.map fun x => max x b
/-- BS_DEAD_CONFIRMED: in BS_CONFIRM the hold-off is drawn; in BS_WAIT_LIVE BS_CONFIRM restarts with a further attempt (R134, R135). -/
def execBsDeadConfirmed (t : Tick) (s : State) : Host.Outcome State Fault Refusal :=
  s.on t fun d =>
    let q := d.grid.seq
    if !d.pastOpt (laterOf q.deadFrom q.since) (msT (Par.bsDeadTime d.P)) then d
    else if q.phase = 1 then
      let h := d.holdoffMs q.attempts.toNat
      let (ms, d) := d.quant h
      ((d.setSeq fun q => { q with holdoff := h }).seqPhase 2).raise "EV_BS_HOLDOFF" 2 8 0 [ms, (q.attempts.toNat : Int)]
    else if q.phase = 3 then (d.setSeq fun q => { q with attempts := q.attempts + 1 }).seqPhase 1
    else d
/-- The late-live catch: θ, the frequency and E at the grid's in one step (R136). -/
def Device.lateLive (d : Device) : Device :=
  ((d.snapToGrid 0).setSeq fun q => { q with caught := true }).raise "EV_BS_LATE_LIVE" 2 8 0 []
/-- BS_HOLDOFF_END: the last look (R136). -/
def execBsHoldoffEnd (t : Tick) (s : State) : Host.Outcome State Fault Refusal :=
  s.on t fun d =>
    let q := d.grid.seq
    if q.phase ≠ 2 || !d.past q.since (msT q.holdoff) then d
    else if d.busBand = 0 then (d.closeCommand 0).seqPhase 4
    else d.seqPhase 3
/-- BS_BUS_BAND_CHANGE: the band of R133 moves the sequence (R134, R136). -/
def execBsBusBandChange (t : Tick) (s : State) : Host.Outcome State Fault Refusal :=
  s.on t fun d =>
    let band := d.busBand
    let d := d.setSeq fun q => { q with band := band }
    let q := d.grid.seq
    if (q.phase = 1 || q.phase = 2) && band ≠ 0 then d.seqPhase 3
    else if q.phase = 4 && band = 2 && !q.caught && !d.mbClosed then d.lateLive
    else d
/-- BS_LIVE_CONFIRMED: the bus has been live for bs.live_time; LANDING is requested (R134). -/
def execBsLiveConfirmed (t : Tick) (s : State) : Host.Outcome State Fault Refusal :=
  s.on t fun d =>
    let q := d.grid.seq
    if q.phase = 3 && d.pastOpt (laterOf q.liveFrom q.since) (msT (Par.bsLiveTime d.P)) then d.setConv fun c => { c with trigSeq := some (stLanding, 4) } else d
/-- BS_CONFIRM_TIMEOUT: BS_WAIT_LIVE has not reached live within bs.confirm_max (R134). -/
def execBsConfirmTimeout (t : Tick) (s : State) : Host.Outcome State Fault Refusal :=
  s.on t fun d =>
    let q := d.grid.seq
    if q.phase = 3 && q.liveFrom.isNone && d.past q.since (sT (Par.bsConfirmMax d.P)) then d.endSequence 3 else d
/-- BS_ENERGISE_TIMEOUT: BS_ENERGISE longer than bs.energise_max (R134). -/
def execBsEnergiseTimeout (t : Tick) (s : State) : Host.Outcome State Fault Refusal :=
  s.on t fun d =>
    let q := d.grid.seq
    if q.phase = 5 && d.pastBeyond q.since (sT (Par.bsEnergiseMax d.P)) then (d.endSequence 5).controlTrip 4 else d

/-! ## The landing move (R137 to R139) -/

/-- CMD_LAND and transition 4 stand on these (R137): the first that does not hold, numbered from 1. -/
def Device.landRefusal (d : Device) : Option Nat :=
  if d.conv.state ≠ stCharged then some 1
  else if !d.mbOpen then some 2
  else if d.busBand ≠ 2 then some 3
  else if d.anyBrkFaulty then some 4
  else none
/-- Entry into LANDING (R137): θ and the frequency at the grid's, PCC-locked bases, the law starts, and the ramp of LAND_RAMP. -/
def Device.landEntry (d : Device) : Device :=
  let d := ((d.applyWaiting (takesAt .nextMove)).snapToGrid (-1)).lawEntry
  let zero := fun (x : SetSrc) => { x with active := 0 }
  let d := d.setLaw fun l => { l with st := { l.st with p := zero l.st.p, q := zero l.st.q } }
  let d := d.setSeq fun q => { q with phase := 6, since := d.now, entry := d.now, withdrawn := false, rampDown := false, caught := false, dwellFrom := none }
  let ramp : Move := { amp := true, locked := true, host := false, start := none, tag := 0
                       segs := [{ dur := d.cyclesOf (Par.landRampTime d.P), pos := 0, vel := 0 }] }
  (d.startMove ramp).raise "EV_LAND_START" 2 8 0 []
/-- LAND_TRIM_STEP: every land.trim_time the differences are taken, and where Δθ or Δv lies outside the window one offset segment per axis is queued (R138). -/
def execLandTrimStep (t : Tick) (s : State) : Host.Outcome State Fault Refusal :=
  s.on t fun d =>
    let q := d.grid.seq
    if q.phase ≠ 7 || d.now < q.trimAt then d else
    let inside := rabs q.dV ≤ Par.landDvMax d.P && rabs q.dTheta ≤ Par.landDthetaMax d.P
    -- a segment that is queued is the next move, at which land.trim_time takes force (R141)
    let d := if inside then d else d.applyWaiting (takesAt .nextMove)
    let n := d.cyclesOf (Par.landTrimTime d.P)
    let d := d.setSeq fun q => { q with trimAt := d.now + n * d.tc }
    if inside then d else
    let move := fun (amp : Bool) (pos : Rat) => ({ amp := amp, locked := true, host := false, start := none, tag := 0, segs := [{ dur := n, pos := pos, vel := 0 }] } : Move)
    let v := d.grid.ride.vPos
    let mv := [move false ((d.axis false).off - q.dTheta / 360), move true ((d.axis true).off - if v = 0 then 0 else q.dV / v)]
    d.setTraj fun t => { t with queue := t.queue ++ mv }
/-- LAND_DWELL_COMPLETE: land.dwell in the window without a break; the close command is issued (R138). -/
def execLandDwellComplete (t : Tick) (s : State) : Host.Outcome State Fault Refusal :=
  s.on t fun d =>
    if d.grid.seq.phase = 8 && d.pastOpt d.grid.seq.dwellFrom (msT (Par.landDwell d.P)) then (d.closeCommand 0).seqPhase 9 else d
/-- LAND_TIMEOUT: no close command within land.time_max of entry (R139). -/
def execLandTimeout (t : Tick) (s : State) : Host.Outcome State Fault Refusal :=
  s.on t fun d =>
    let q := d.grid.seq
    if 6 ≤ q.phase && q.phase ≤ 8 && d.past q.entry (sT (Par.landTimeMax d.P)) then d.landAbort 5 else d
/-- LAND_ABORT_HOLD_END: after land.abort_hold E ramps to 0, and CHARGED is requested (R139). -/
def execLandAbortHoldEnd (t : Tick) (s : State) : Host.Outcome State Fault Refusal :=
  s.on t fun d =>
    let q := d.grid.seq
    if q.phase = 10 && !q.rampDown && d.past q.since (msT (Par.landAbortHold d.P)) then d.setSeq fun q => { q with rampDown := true } else d

end Sys2Proof.Machine
end

