-- ==== Sys2Proof/Machine/Gate.lean ====
section
/-! DEFINITION. Adaptive gate strength (R254 to R257). -/

namespace Sys2Proof.Machine

/-- A cell's report as the device holds it. -/
def Device.node (d : Device) (c : Nat) : NodeView := d.link.nodes.getD c NodeView.reset
/-- Change a node's view. -/
def Device.setNode (d : Device) (c : Nat) (f : NodeView → NodeView) : Device := d.setLink fun l => { l with nodes := upd l.nodes c f }
/-- Modulation state of a cell. -/
def Device.mcell (d : Device) (c : Nat) : ModCell := d.modu.cells.getD c ModCell.reset
/-- Change a cell. -/
def Device.setCell (d : Device) (c : Nat) (f : ModCell → ModCell) : Device := d.setModu fun m => { m with cells := upd m.cells c f }
/-- Modulation state of an arm. -/
def Device.marm (d : Device) (a : Nat) : ModArm := d.modu.arms.getD a ModArm.reset
/-- Change an arm. -/
def Device.setArm (d : Device) (a : Nat) (f : ModArm → ModArm) : Device := d.setModu fun m => { m with arms := upd m.arms a f }

/-- The arm current in A at an offset in ticks into an interval, between its samples (R190). -/
def interpolate (i0 i1 : Rat) (off n : Nat) : Rat := i0 + (i1 - i0) * (off : Rat) / (n : Rat)

/-- One direction of a cell's loop. -/
def Device.gate (d : Device) (c : Nat) (off : Bool) : Gate :=
  let g := d.prot.gates.getD c (Gate.reset, Gate.reset)
  if off then g.2 else g.1
/-- Change one direction of a cell's loop. -/
def Device.setGate (d : Device) (c : Nat) (off : Bool) (f : Gate → Gate) : Device :=
  d.setProt fun p => { p with gates := upd p.gates c fun g => if off then (g.1, f g.2) else (f g.1, g.2) }

/-- The drift from the baseline, 0 without one (R257). -/
def Gate.drift (g : Gate) : Rat :=
  match g.base with
  | none => 0
  | some b => g.mean - b

/-- An accepted measurement of one direction (R255 to R257). -/
def Device.gateTake (d : Device) (c : Nat) (off : Bool) (tsw : Nat) : Device :=
  let p := d.P
  let g := d.gate c off
  let err : Rat := (tsw : Rat) - (if off then Par.gdTswOffTarget p else Par.gdTswOnTarget p)
  let db := Par.gdDb p
  let code := if db < err && g.code < 31 then g.code + 1 else if err < -db && 0 < g.code then g.code - 1 else g.code
  let atEnd := (g.code == 31 && decide (db < err)) || (g.code == 0 && decide (err < -db))
  let run := if atEnd then g.satRun + 1 else 0
  let sat := (g.sat && (code == 31 || code == 0)) || (atEnd && decide (Par.gdSatCount p ≤ run))
  let mean := g.mean + ((code : Rat) - g.mean) * d.tcS / (Par.gdAgeTau p * 3600)
  let first := sat && !g.satRaised
  let g' : Gate := { g with code := code, satRun := run, sat := sat, satRaised := g.satRaised || sat, tsw := tsw, mean := mean }
  let age := g'.base.isSome && decide ((Par.gdAgeWarn p : Rat) ≤ rabs g'.drift) && !g.aged
  let d := d.setGate c off fun _ => { g' with aged := g.aged || age }
  let d := if first then d.raise "EV_GATE_SAT" 3 3 c [(c : Int), (off.toNat : Int), (tsw : Int)] else d
  if age then d.raise "EV_GATE_AGEING" 3 3 c [(c : Int), (off.toNat : Int)] else d

/-- The loop of one cell on its validated status: the TSW fields, the capabilities and the current at the reported edge decide whether a measurement is accepted (R255). -/
def Device.gateCell (d : Device) (arm c : Nat) : Device :=
  let nv := d.node c
  match nv.last with
  | none => d
  | some st =>
    if nv.aged then d else
    let edge := ((st.exec.filter fun e => e.state ≠ 7).getLast?.getD Edge.reset).off
    let i := interpolate (d.packs.iOld.getD arm 0) (d.packs.iPrev.getD arm 0) edge d.tc
    let ok := nv.info.caps.getLsbD 2 && nv.info.caps.getLsbD 3 && decide (Par.gdIMin d.P * d.iBase ≤ rabs i)
    if !ok then d else
    let d := if st.tswOn ≠ 0 then d.gateTake c false st.tswOn else d
    if st.tswOff ≠ 0 then d.gateTake c true st.tswOff else d
/-- The gate-strength loop of an arm's cells in a cycle, frozen under R255; with gd.enable = 0 every code is gd.code_init. -/
def Device.gateLoop (d : Device) (arm : Nat) (cells : List Nat) : Device :=
  if !Par.gdEnable d.P then
    let init := Par.gdCodeInit d.P
    let put := fun (g : Gate) => if g.code = init then g else { g with code := init, sat := false, satRun := 0 }
    cells.foldl (fun d c => (d.setGate c false put).setGate c true put) d
  else if d.prot.gateFrozen || (d.marm arm).centre then d
  else cells.foldl (fun d c => d.gateCell arm c) d

/-- GATE_AGEING_PERSIST: every 60 s the means and baselines are persisted (R257). -/
def execGateAgeingPersist (t : Tick) (s : State) : Host.Outcome State Fault Refusal :=
  s.on t fun d =>
    if d.past d.prot.gateSaved (sT 60) then
      let keep := fun (g : Gate) => ({ mean := g.mean, base := g.base } : GateStore)
      d.setProt fun p => { p with gateStore := p.gates.map fun g => (keep g.1, keep g.2), gateSaved := d.now }
    else d

/-- TRP_GATE_CODE of cell c. -/
def Device.gateCodeWord (d : Device) (c : Nat) : BitVec 32 :=
  let a := d.gate c false
  let b := d.gate c true
  BitVec.ofNat 32 (a.code + 256 * b.code + 65536 * (a.sat.toNat + 2 * b.sat.toNat))
/-- GATE_SELECT_WRITE: the selected cell's gate registers are latched and READY is set (R263). -/
def execGateSelectWrite (t : Tick) (v : BitVec 32) (s : State) : Host.Outcome State Fault Refusal :=
  s.on t fun d =>
    let d := d.reserved v 0x800001FF
    let c := v.toNat % 2 ^ 9
    let a := d.gate c false
    let b := d.gate c true
    let (da, d) := d.quant (a.drift * 256)
    let (db, d) := d.quant (b.drift * 256)
    let (ba, d) := d.quant (a.base.getD 0 * 256)
    let (bb, d) := d.quant (b.base.getD 0 * 256)
    let pair := fun (x y : Int) => BitVec.ofNat 32 (trunc 16 x + 65536 * trunc 16 y)
    let code := d.gateCodeWord c
    d.setProt fun p => { p with gateSel := c, gateReady := true, gateRegs := [code, pair a.tsw b.tsw, pair da db, pair ba bb] }

end Sys2Proof.Machine
end

