-- ==== Sys2Proof/Machine/Schedule.lean ====
section
/-! DEFINITION. The scheduler's rules on one arm (R149 to R157, R162): ranking, roles, bootstrap, pulse rules, dead time, centre mode. -/

namespace Sys2Proof.Machine

/-! ## Dispositions and eligibility (R148, R149) -/

/-- A cell that no cause of Table 5-3 rests or bypasses. -/
def ModCell.available (m : ModCell) : Bool :=
  !m.bypassed && m.restPack.isNone && m.restBs.isNone && m.restRot.isNone && m.restMiss.isNone && m.restReturn.isNone
/-- A RESTED cell. -/
def ModCell.rested (m : ModCell) : Bool := !m.bypassed && !m.available
/-- The cells that belong to an arm: of rings not excluded, found and not absent, in arm order (R24, R358). -/
def Device.armCells (d : Device) (arm : Nat) : List Nat :=
  (d.cellsOf arm).filter fun c => (d.node c).info.present && !(d.link.rings.getD (c / 32) Ring.reset).excluded
/-- The AVAILABLE cells of an arm. -/
def Device.availCells (d : Device) (arm : Nat) : List Nat := (d.armCells arm).filter fun c => (d.mcell c).available
/-- Eligibility in a direction (discharge true), or in both where the current is not trusted (R149). -/
def Device.eligible (d : Device) (c : Nat) (discharge trusted : Bool) : Bool :=
  let r := (d.mcell c).row
  if trusted then (if discharge then r.disWin else r.chgWin) else r.disWin && r.chgWin
/-- The sign of the predicted current is trusted (R149). -/
def Device.trusted (d : Device) (ip : Rat) : Bool := decide (Par.modIDirDb d.P * d.iBase ≤ rabs ip)

/-! ## Ranking (R150, R151) -/

/-- A cell stands at its switching budget (R151). -/
def Device.limited (d : Device) (c : Nat) : Bool := decide ((Par.modBudgetN d.P : Rat) ≤ (d.mcell c).budget)
/-- The mean soc of an arm's AVAILABLE cells, weighted by estimated capacity (R150). -/
def Device.socArm (d : Device) (arm : Nat) : Rat :=
  let l := (d.availCells arm).map fun c => (d.mcell c).row
  let w := rsum (l.map fun r => 1 / r.qInv)
  if w = 0 then 0 else rsum (l.map fun r => r.soc / r.qInv) / w
/-- The key of a cell before its rounding to Q4.12, in LSB (R150). -/
def Device.keyOf (d : Device) (c : Nat) (discharge : Bool) (soc : Rat) : Rat :=
  let p := d.P
  let m := d.mcell c
  let del : Rat := if discharge then 1 else -1
  let k := del * Par.modKwSoc p * (m.row.soc - soc) + Par.modKwSoh p * (m.row.soh - 1) - Par.modKwRs p * (m.row.rsRel - 1)
    + (if m.cmdState = 1 || m.cmdState = 2 then Par.modSortHyst p else 0)
  k * 4096 - if d.limited c then 32768 else 0
/-- The eligible cells of an arm in rank order: key falling, equal keys in arm order (R150). -/
def Device.rank (d : Device) (arm : Nat) (discharge trusted : Bool) : List Nat × Device :=
  let soc := d.socArm arm
  let cs := (d.availCells arm).filter fun c => d.eligible c discharge trusted && (d.mcell c).cmdState != 0
  let (keys, d) := cs.foldl (fun (acc : List (Int × Nat) × Device) c =>
    let (k, d) := acc.2.quant (acc.2.keyOf c discharge soc)
    (acc.1 ++ [(max (-32768) (min 32767 k), c)], d)) ([], d)
  ((orderBy (fun a b => decide (b.1 ≤ a.1)) keys).map Prod.snd, d)

/-! ## Roles (R152, R153): times in µs from E(k+1), voltages in V -/

/-- An insertion of a cell. -/
structure Insert where
  /-- Cell. -/
  cell : Nat
  /-- Start, µs. -/
  a : Rat
  /-- End, µs. -/
  b : Rat
  /-- State: 1 POS, 2 NEG. -/
  st : Nat
  deriving DecidableEq, Repr
/-- One part of a cycle: from |v| = a0 at t0 to a1 at t1, in the state of its sign, for the volt-microseconds wanted. -/
structure Part where
  /-- Start, µs. -/
  t0 : Rat
  /-- End, µs. -/
  t1 : Rat
  /-- |v| at the start. -/
  a0 : Rat
  /-- |v| at the end. -/
  a1 : Rat
  /-- State of the polarity. -/
  st : Nat
  /-- Mean of the reference over the part, with its sign, which gives the direction (R149). -/
  mean : Rat
  /-- |A| of the part. -/
  want : Rat
  deriving DecidableEq, Repr
/-- The voltage of a cell, V. -/
def Device.vCell (d : Device) (c : Nat) : Rat := (d.mcell c).row.vdc
/-- S_n: the sum of the first n voltages of the ranking. -/
def prefixSum (v : List Rat) (n : Nat) : Rat := rsum (v.take n)
/-- n(x): the largest n with S_n ≤ x. -/
def levelOf (v : List Rat) (x : Rat) : Nat := nmax ((List.range (v.length + 1)).filter fun n => decide (prefixSum v n ≤ x))
/-- The cell of a fractional role from rank n on: the first that is not budget-limited, or else the first (R151). -/
def fracCell (ranked : List Nat) (n : Nat) (lim : Nat → Bool) : Option Nat :=
  let l := ranked.drop n
  match l.find? fun c => !lim c with
  | some c => some c
  | none => l.head?
/-- The insertions of a part for a ranking (R152): base, step and fractional cells; an even cycle's single fraction ends at the end of the part. -/
def partRoles (ranked : List Nat) (volt : Nat → Rat) (lim : Nat → Bool) (even : Bool) (p : Part) : List Insert :=
  let v := ranked.map volt
  let L := p.t1 - p.t0
  let full := prefixSum v v.length
  let ins := fun (c : Nat) (x y : Rat) => ({ cell := c, a := p.t0 + max 0 x, b := p.t0 + min L y, st := p.st } : Insert)
  if full * L < p.want then ranked.map fun c => ins c 0 L else
  let nLo := levelOf v (min p.a0 p.a1)
  let nHi := levelOf v (max p.a0 p.a1)
  let base := (ranked.take nLo).map fun c => ins c 0 L
  let frac := fun (c : Nat) (dur : Rat) (atEnd : Bool) =>
    let w := clampR 0 L dur
    if atEnd then ins c (L - w) L else ins c 0 w
  if nHi = nLo then
    match fracCell ranked nLo lim with
    | none => base
    | some c => base ++ [frac c ((p.want - prefixSum v nLo * L) / volt c) even]
  else
    let rising := decide (p.a0 < p.a1)
    let cross := fun (j : Nat) => (prefixSum v j - p.a0) / (p.a1 - p.a0) * L
    let steps := (List.range (nHi - nLo)).map fun k =>
      let j := nLo + k + 1
      let c := ranked.getD (j - 1) 0
      let x := cross j
      -- rank nLo + 1 is also F1: its interval is extended by R_low / V at the crossing side
      let low := if rising then ((p.a0 + prefixSum v j) / 2 - prefixSum v nLo) * x else ((prefixSum v j + p.a1) / 2 - prefixSum v nLo) * (L - x)
      let ext := if k = 0 then low / volt c else 0
      if rising then ins c (x - ext) L else ins c 0 (x + ext)
    let done := rsum ((base ++ steps).map fun i => (i.b - i.a) * volt i.cell)
    match fracCell ranked nHi lim with
    | none => base ++ steps
    | some c => base ++ steps ++ [frac c ((p.want - done) / volt c) rising]
/-- The parts of a cycle of T µs: one, or two at the zero crossing, ρ in the second (R152, R153). A reference that is 0 throughout takes the polarity of ρ. -/
def partsOf (v0 v1 rho T : Rat) : List Part :=
  let st := fun (x : Rat) => if x < 0 then 2 else 1
  if (v0 < 0 && 0 < v1) || (0 < v0 && v1 < 0) then
    let z := v0 / (v0 - v1) * T
    [{ t0 := 0, t1 := z, a0 := rabs v0, a1 := 0, st := st v0, mean := v0 / 2, want := rabs v0 / 2 * z },
     { t0 := z, t1 := T, a0 := 0, a1 := rabs v1, st := st v1, mean := v1 / 2, want := rabs (v1 / 2 * (T - z) + rho) }]
  else
    [{ t0 := 0, t1 := T, a0 := rabs v0, a1 := rabs v1, st := st (if v0 + v1 = 0 then rho else v0 + v1), mean := (v0 + v1) / 2
       want := rabs ((v0 + v1) / 2 * T + rho) }]

/-! ## Pulse rules (R154) -/

/-- A pulse of one state, in µs from E(k+1); it may start in an earlier cycle. -/
structure Pulse where
  /-- State. -/
  st : Nat
  /-- Start. -/
  a : Rat
  /-- End. -/
  b : Rat
  deriving DecidableEq, Repr
/-- Join neighbours of one state. -/
def joinPulses : List Pulse → List Pulse
  | [] => []
  | p :: r =>
    match joinPulses r with
    | [] => [p]
    | q :: r' => if p.st = q.st then { p with b := q.b } :: r' else p :: q :: r'
/-- The pulses of a cell in a cycle of T µs: what it held since its last edge, its insertions in time order, ZL between them. -/
def pulsesOf (st0 : Nat) (since T : Rat) (ins : List Insert) : List Pulse :=
  let sorted := orderBy (fun x y => decide (x.a ≤ y.a)) (ins.filter fun i => decide (i.a < i.b))
  let (body, last) := sorted.foldl (fun (acc : List Pulse × Rat) i =>
    (acc.1 ++ [{ st := 4, a := acc.2, b := i.a }, { st := i.st, a := i.a, b := i.b }], i.b)) ([], 0)
  let all := ({ st := st0, a := min since 0, b := 0 } : Pulse) :: body ++ [{ st := 4, a := last, b := T }]
  -- an empty ZL stays only between POS and NEG, where R144 needs it
  let keep := (List.range all.length).filter fun i =>
    let p := all.getD i ⟨4, 0, 0⟩
    let l := all.getD (i - 1) ⟨4, 0, 0⟩
    let r := all.getD (i + 1) ⟨4, 0, 0⟩
    i == 0 || decide (p.a < p.b) || (p.st == 4 && ((l.st == 1 && r.st == 2) || (l.st == 2 && r.st == 1)))
  joinPulses (keep.map fun i => all.getD i ⟨4, 0, 0⟩)
/-- Counters of R154. -/
structure PulseCount where
  /-- Pulses removed. -/
  drop : Nat
  /-- Pulses extended. -/
  ext : Nat
  deriving DecidableEq, Repr
/-- The pulses after an instant: those that end by it are gone, the next starts there. -/
def cutBefore (t : Rat) : List Pulse → List Pulse
  | [] => []
  | p :: r => if p.b ≤ t then cutBefore t r else { p with a := t } :: r
/-- The pulse rules from left to right: done pulses (last first), those to judge; the first argument bounds the work (R154). -/
def judge : Nat → Rat → Rat → Rat → Bool → List Pulse → List Pulse → PulseCount → List Pulse × PulseCount
  | 0, _, _, _, _, done, rest, n => (done.reverse ++ rest, n)
  | f + 1, T, d, m, extend, done, rest, n =>
    match rest with
    | [] => (done.reverse, n)
    | p :: r =>
      let len := p.b - p.a
      let prev := (done.head?.map Pulse.st).getD 7
      let next := (r.head?.map Pulse.st).getD 7
      let between := p.st == 4 && ((prev == 1 && next == 2) || (prev == 2 && next == 1))
      let keepOn := judge f T d m extend (p :: done) r n
      let lengthen := fun (e : Rat) (n : PulseCount) =>
        if T ≤ e then judge f T d m extend ({ p with b := T } :: done) [] n
        else judge f T d m extend ({ p with b := e } :: done) (joinPulses (cutBefore e r)) n
      let remove := fun (n : PulseCount) =>
        match done with
        | [] => keepOn
        | q :: done' => judge f T d m extend done' (joinPulses ({ q with b := p.b } :: r)) n
      if m ≤ len then keepOn
      else if p.a < 0 || between then
        if r.isEmpty then keepOn else lengthen (p.a + m) { n with ext := n.ext + 1 }
      else if len < d || !extend then remove { n with drop := n.drop + 1 }
      else if p.b = T || (0 < p.a && p.a < T - p.b) then
        -- the start edge moves earlier, where there is room
        let a := p.b - m
        let room := match done with
          | [] => false
          | q :: _ => decide (0 ≤ a) && decide (q.a + m ≤ a)
        if room then
          match done with
          | q :: done' => judge f T d m extend ({ p with a := a } :: { q with b := a } :: done') r { n with ext := n.ext + 1 }
          | [] => keepOn
        else remove { n with drop := n.drop + 1 }
      else lengthen (p.a + m) { n with ext := n.ext + 1 }

/-! ## Dead time and rounding (R155, R156) -/

/-- The advance of a change, µs, for a predicted current of sign i; small currents advance by half the dead time (Table 5-4). -/
def advanceOf (st st' : Nat) (ip dt : Rat) (small : Bool) : Rat :=
  if small then dt / 2 else
  match st, st' with
  | 4, 1 => if 0 < ip then dt else 0
  | 1, 4 => if ip < 0 then dt else 0
  | 4, 2 => if ip < 0 then dt else 0
  | 2, 4 => if 0 < ip then dt else 0
  | _, _ => 0
/-- Sign of the output of a state. -/
def outSign (st : Nat) : Rat := if st = 1 then 1 else if st = 2 then -1 else 0
/-- A commanded edge with the µs after E(k+1) at which the output changes. -/
structure Change where
  /-- The edge. -/
  edge : Edge
  /-- State before it. -/
  from_ : Nat
  /-- When the output changes, µs. -/
  eff : Rat
  deriving DecidableEq, Repr
/-- The edges of a list of pulses, advanced, rounded to ticks and held inside the cycle of n ticks. -/
def changesOf (ps : List Pulse) (ip dt : Rat) (small : Bool) (n : Nat) : List Change :=
  (ps.zip (ps.drop 1)).map fun pq =>
    let adv := advanceOf pq.1.st pq.2.st ip dt small
    let x := max 0 (pq.2.a - adv)
    let tick := min (rround (x * 800)).toNat (n - 1)
    { edge := { off := tick, state := pq.2.st }, from_ := pq.1.st, eff := (tick : Rat) / 800 + adv }
/-- Volt-microseconds of a cell over T µs from its state at the start and its changes. -/
def voltSeconds (st0 : Nat) (T v : Rat) (cs : List Change) : Rat :=
  v * (outSign st0 * T + rsum (cs.map fun c => (outSign c.edge.state - outSign c.from_) * (T - c.eff)))

/-! ## Bootstrap (R157) -/

/-- The off time in µs that runs on after a list of pulses of a high-side switch (on: the state that closes it, 1 for S1, 2 for S3; ZU closes both), from the off time that ran before them, and where the last off interval of at least r ends. -/
def runOff (on : Nat) (r run : Rat) (ps : List Pulse) : Rat × Option Rat :=
  ps.foldl (fun (acc : Rat × Option Rat) p =>
    let len := p.b - max 0 p.a
    if len ≤ 0 then acc
    else if p.st = on || p.st = 3 then (0, acc.2)
    else
      let run := min r (acc.1 + len)
      (run, if r ≤ run then some p.b else acc.2)) (min r run, none)
/-- The pulses of a schedule of edges from a state, over T µs. -/
def schedPulses (st0 : Nat) (edges : List Edge) (T : Rat) : List Pulse :=
  let at_ := fun (e : Edge) => (e.off : Rat) / 800
  let starts := (st0, (0 : Rat)) :: edges.map fun e => (e.state, at_ e)
  let ends := edges.map at_ ++ [T]
  (starts.zip ends).map fun p => { st := p.1.1, a := p.1.2, b := p.2 }
/-- A cell whose S1 or S3 age would exceed mod.bs_window − 2 × Tc by E(k+2), for the pulses planned from E(k+1) (R157). -/
def Device.bsDue (d : Device) (c : Nat) (ps : List Pulse) : Bool :=
  let m := d.mcell c
  let lim := msT (Par.modBsWindow d.P) - 2 * d.tc
  let r := Par.modBsRefresh d.P
  let aged := fun (on : Nat) (run : Rat) (off : Tick) =>
    let last := match (runOff on r run ps).2 with
      | some x => (d.eNext : Rat) + x * 800
      | none => (off : Rat)
    decide (lim < ((d.eNext + d.tc : Nat) : Rat) - last)
  aged 1 m.runS1 m.offS1 || aged 2 m.runS3 m.offS3
/-- A cell whose schedule has left at a load-all, for the cycle that begins at e: its budget decays and counts the edges (R151), and the ages of S1 and S3 follow the states that it will take, BLK or BYP while the arms are blocked (R157). -/
def ModCell.launched (m : ModCell) (e : Tick) (T fade refresh : Rat) (blocked : Bool) : ModCell :=
  let stand := if m.bypStep = 3 then 5 else 0
  let ps := if blocked then [{ st := stand, a := 0, b := T }] else schedPulses m.endState m.sched T
  let off := fun (on : Nat) (run : Rat) (last : Tick) =>
    let r := runOff on refresh run ps
    (r.1, match r.2 with | some x => e + (x * 800).floor.toNat | none => last)
  let s1 := off 1 m.runS1 m.offS1
  let s3 := off 2 m.runS3 m.offS3
  { m with
    budget := max 0 (m.budget - fade) + (m.sched.length : Rat)
    endState := if blocked then stand else (m.sched.getLast?.map Edge.state).getD m.endState
    runS1 := s1.1, offS1 := s1.2, runS3 := s3.1, offS3 := s3.2 }
/-- An insertion split by a ZL gap of r µs centred in the cycle (R157). -/
def gapCentred (T r : Rat) (i : Insert) : List Insert :=
  let g0 := (T - r) / 2
  let g1 := (T + r) / 2
  [{ i with b := min i.b g0 }, { i with a := max i.a g1 }].filter fun x => decide (x.a < x.b)

/-! ## Centre mode (R162) -/

/-- Where in a cycle a cell's carrier is crossed: the insertions of cell j of n, for the duty d0 + (d1 − d0)·t/T and a carrier of period P whose phase at the start of the cycle is ph µs. -/
def centreInserts (cell : Nat) (d0 d1 T P ph : Rat) : List Insert :=
  -- carrier segments: rising on [0, P/2], falling on [P/2, P]
  let h := P / 2
  let k0 := (ph / h).floor
  let count := ((T / h).ceil).toNat + 1
  let segs := (List.range count).filterMap fun (n : Nat) =>
    let k : Int := k0 + n
    let x := max 0 ((k : Rat) * h - ph)
    let y := min T (((k : Rat) + 1) * h - ph)
    if x < y then some (k, x, y) else none
  let duty := fun (t : Rat) => d0 + (d1 - d0) * t / T
  let carrier := fun (k : Int) (t : Rat) =>
    let u := (t + ph - (k : Rat) * h) / h
    if k % 2 = 0 then u else 1 - u
  -- pieces of a segment on which |d| exceeds the carrier, for one sign
  let piece := fun (st : Nat) (s : Rat) (g : Int × Rat × Rat) =>
    let k := g.1
    let f := fun (t : Rat) => s * duty t - carrier k t
    let fx := f g.2.1
    let fy := f g.2.2
    let z := if fx = fy then g.2.2 else g.2.1 + (g.2.2 - g.2.1) * fx / (fx - fy)
    if 0 < fx && 0 < fy then [({ cell := cell, a := g.2.1, b := g.2.2, st := st } : Insert)]
    else if 0 < fx then [{ cell := cell, a := g.2.1, b := z, st := st }]
    else if 0 < fy then [{ cell := cell, a := z, b := g.2.2, st := st }]
    else []
  segs.flatMap fun g => piece 1 1 g ++ piece 2 (-1) g

end Sys2Proof.Machine
end

