-- ==== Sys2Proof/Machine/Modulation.lean ====
section
/-! DEFINITION. Batten's cycle (R146 to R171): the circulating-current loop, the schedule of an arm, overruns, bypass and rest, the availability record, with the meanings of their commands. -/

namespace Sys2Proof.Machine

/-! ## Bypass (R163, Table 5-5) -/

/-- A cell becomes BYPASSED for a cause: step 1 uses ZL where the cell reports S2 and S4 serviceable, otherwise BLK; EV_CELL_BYPASS. -/
def Device.bypass (d : Device) (c cause : Nat) : Device :=
  if (d.mcell c).bypassed then d else
  let zl := ((d.node c).last.map fun s => s.flags.getLsbD 8).getD false
  (d.setCell c fun m => { m with bypassed := true, bypStep := 1, bypZl := zl, bypCause := cause, bypFailed := false }).raise
    "EV_CELL_BYPASS" 3 3 c [(c : Int), (cause : Int), if zl then 0 else 1]
/-- The edges of a bypassed cell's slot: step 1 to ZL or BLK, BLK where BP has not closed in time, step 3 to BYP. -/
def ModCell.bypassEdges (m : ModCell) : List Edge :=
  if m.bypStep = 2 && m.bypFailed then (if m.cmdState = 0 then [] else [{ off := 0, state := 0 }])
  else if m.bypStep = 1 then [{ off := 0, state := if m.bypZl then 4 else 0 }]
  else if m.bypStep = 3 && m.cmdState ≠ 5 then [{ off := 0, state := 5 }]
  else []
/-- Source 45's input: cells whose bypass failed and that do not report BP_CLOSED (R252). -/
def Device.bypassInput (d : Device) : Device :=
  let l := d.prot.bypFailed
  if l.isEmpty || !Par.protBypfailTrip d.P then d.inputInactive 45 else
  let arms := l.foldl (fun m c => if d.armOf c < 3 then m ||| 2 ^ d.armOf c else m) 0
  (d.inputActive 45 { arms := arms }).setSrc 45 fun s => { s with arms := arms }
/-- BYPASS_CLOSE_TIMEOUT: BP is not reported closed within mod.bp_close_max; the cell stays in BLK (R163, R252). -/
def execBypassCloseTimeout (t : Tick) (cell : Fin 384) (s : State) : Host.Outcome State Fault Refusal :=
  s.on t fun d =>
    let m := d.mcell cell
    if m.bypStep ≠ 2 || m.bypFailed || !d.past m.bypFrom (msT (Par.modBpCloseMax d.P)) then d else
    let d := (d.setCell cell fun m => { m with bypFailed := true, bypZl := false }).raise "EV_CELL_BYPASS_FAIL" 3 3 cell [(cell.val : Int)]
    (d.setProt fun p => { p with bypFailed := p.bypFailed ++ [cell.val] }).bypassInput
/-- The cell reports BP closed: step 3, or complete at once in BLK while blocked; a failed bypass goes on as if step 2 had ended (R163). -/
def Device.bpClosed (d : Device) (c : Nat) : Device :=
  let m := d.mcell c
  let d := if d.prot.bypFailed.contains c then (d.setProt fun p => { p with bypFailed := p.bypFailed.erase c }).bypassInput else d
  if m.bypStep = 2 || (m.bypStep = 1 && d.prot.blocked) then
    d.setCell c fun m => { m with bypStep := 3, cmdState := if d.prot.blocked then 5 else m.cmdState }
  else d

/-! ## Rest (R148, R157, R158) -/

/-- CELL_REST_END: the rest causes of a cell that have been absent for their count of cycles end (Table 5-3). -/
def execCellRestEnd (t : Tick) (cell : Fin 384) (s : State) : Host.Outcome State Fault Refusal :=
  s.on t fun d =>
    let p := d.P
    let gone := fun (x : Option Nat) (n : Nat) => match x with
      | some k => if n ≤ k then none else x
      | none => none
    d.setCell cell fun m => { m with
      restPack := gone m.restPack (Par.modRestMin p)
      restMiss := gone m.restMiss (Par.modRestMin p)
      restBs := if m.bsLow then m.restBs else gone m.restBs (Par.modBsRest p)
      restRot := if m.restRot = some 0 then none else m.restRot
      restReturn := if m.restReturn = some 0 then none else m.restReturn }
/-- The cycles of every rest, one on: those that a standing cause holds start again from 0. -/
def Device.countRests (d : Device) : Device :=
  let step := fun (m : ModCell) => { m with
    restPack := m.restPack.map (· + 1), restMiss := m.restMiss.map (· + 1), restBs := m.restBs.map (· + 1)
    restRot := m.restRot.map (· - 1), restReturn := m.restReturn.map (· - 1) }
  d.setModu fun m => { m with cells := m.cells.map step }

/-! ## The circulating-current loop (R168) -/

/-- One cycle of the loop for i0* and i0 in A; with no record x_c is held. -/
def Device.circLoop (d : Device) (i0ref i0 : Rat) (held : Bool) : Device :=
  let p := d.P
  let e := (i0ref - i0) / d.iArmBase
  let m := Par.balVcMax p
  let free := Par.balIcKp p * e + d.modu.xC
  let vc := clampR (-m) m free
  let stuck := vc != free && decide (0 < e * (free - vc))
  let x := if held || stuck then d.modu.xC else d.modu.xC + Par.balIcKi p * d.tcS * e
  let volt := vc * d.vBase * sqrt3
  d.setModu fun u => { u with xC := x, xCclamp := vc != free, vcStep := volt - u.vcNow, vcNow := volt }

/-! ## The schedule of an arm -/

/-- The carrier mode an arm's next schedule has: centre in PRE_CHARGE, in the cell test and in the recovery after a resume (R161, R360). -/
def Device.centreWanted (d : Device) (arm : Nat) : Bool :=
  (d.conv.state == stStandby && (d.conv.phase == 6 || d.conv.phase == 7)) || decide (0 < (d.marm arm).recoverLeft)
/-- Command slots are empty (R360): OFF and STANDBY outside the charge sequence. -/
def Device.slotsEmpty (d : Device) : Bool := (d.conv.state == stOff || d.conv.state == stStandby) && (decide (d.conv.phase < 5) || d.conv.resumeDue)
/-- Give a cell its edges for the next cycle, with the state and the last edge that they leave behind (R145, R154). The first budget-limited cell moved in a cycle counts the cycle (R151). -/
def Device.commit (d : Device) (c : Nat) (edges : List Edge) : Device :=
  let moved := d.limited c && !edges.isEmpty && !(d.mcell c).bypassed && !d.modu.budgetNow
  let d := d.setCell c fun m => { m with
    sched := edges
    cmdState := (edges.getLast?.map Edge.state).getD m.cmdState
    lastEdge := match edges.getLast? with
      | some e => ((d.eNext + e.off : Nat) : Int)
      | none => m.lastEdge }
  if moved then d.setModu fun u => { u with budgetNow := true, budgetCnt := inc32 u.budgetCnt } else d
/-- The load-all's part in the cells' budgets and ages, on the device's cells and on a Standby's copies (R151, R157). -/
def Device.launchedCells (d : Device) : Device :=
  let p := d.P
  let fade := (Par.modBudgetN p : Rat) / (Par.modBudgetWin p / 1000) * d.tcS
  let one := fun (m : ModCell) => m.launched d.eNext (d.tcS * 1000000) fade (Par.modBsRefresh p) d.prot.blocked
  (d.setModu fun u => { u with cells := u.cells.map one }).setTwin fun w => { w with arms := w.arms.map fun a => { a with copy_ := a.copy_.map one } }
/-- The pulses and changes of a cell for its insertions, under its ring's dead time and pulse rules (R154, R155). -/
def Device.cellPulses (d : Device) (c : Nat) (ip : Rat) (ins : List Insert) : List Pulse × List Change × PulseCount :=
  let T := d.tcS * 1000000
  let m := d.mcell c
  let r := c / 32
  let dt := Par.ringDeadTime d.P r
  let since := ((m.lastEdge - (d.eNext : Int) : Int) : Rat) / 800
  let ps := pulsesOf m.cmdState since T ins
  let (ps, n) := judge (4 * ps.length + 8) T dt (Par.ringMinPulse d.P r) (Par.ringShortPolicy d.P r == 1) [] ps { drop := 0, ext := 0 }
  let small := decide (rabs ip < Par.modDtcI0 d.P * d.iBase)
  (ps, changesOf ps ip dt small d.tc, n)
/-- Change ρ of an arm, limited to mod.residue_max (R156). -/
def Device.setRho (d : Device) (arm : Nat) (rho : Rat) : Device :=
  let m := Par.modResidueMax d.P
  let r := clampR (-m) m rho
  let d := d.setArm arm fun a => { a with rho := r, resPend := a.resPend || r != rho }
  if r = rho then d else
  let d := d.setModu fun u => { u with resCnt := inc32 u.resCnt }
  let (q, d) := d.quant (r * 256)
  d.raiseRated "EV_RESIDUE_CLAMP" 3 1 arm [(arm : Int), q]
/-- The insertions of a cycle's parts for their rankings: a cell used in the first part is not used in the second (R152, R153). -/
def Device.rolesOf (d : Device) (parts : List Part) (ranks : List (List Nat)) : List Insert :=
  (parts.zip ranks).foldl (fun (acc : List Insert) pr =>
    let used := acc.map Insert.cell
    acc ++ partRoles (pr.2.filter fun c => !used.contains c) d.vCell d.limited (d.cycle.k % 2 == 0) pr.1) []
/-- EV_BS_FORCED and HST_BS_FORCED for a forced refresh (R157). -/
def Device.bsForced (d : Device) (arm c : Nat) : Device :=
  (d.setModu fun u => { u with forced := inc32 u.forced }).raiseRated "EV_BS_FORCED" 3 1 arm [(arm : Int), (c : Int)]
/-- The bootstrap pass of R157, one due cell a round, the first argument bounding the rounds: a rotation puts the first substitute in a due cell's place and rests the cell, a forced refresh opens a gap. -/
def bootstrap : Nat → Device → Nat → List Part → List (List Nat) → List Nat → List Insert × Device
  | 0, d, _, parts, ranks, _ => (d.rolesOf parts ranks, d)
  | f + 1, d, arm, parts, ranks, forced =>
    let T := d.tcS * 1000000
    let r := Par.modBsRefresh d.P
    let ins := d.rolesOf parts ranks
    let used := (ins.map Insert.cell).eraseDups
    match used.find? fun c => !forced.contains c && d.bsDue c (pulsesOf (d.mcell c).cmdState (-1) T (ins.filter fun i => i.cell == c)) with
    | none => (ins.flatMap fun i => if forced.contains i.cell then gapCentred T r i else [i], d)
    | some c =>
      let own := (ranks.find? fun l => l.contains c).getD []
      match own.find? fun x => !used.contains x && !d.limited x with
      | some x =>
        let d := (d.setCell c fun m => { m with restRot := some (max 1 (r / T).ceil.toNat) }).setModu fun u => { u with rot := inc32 u.rot }
        -- the substitute takes the cell's place; no part uses the cell
        bootstrap f d arm parts (ranks.map fun l => if l.contains c && l.contains x then (l.filter (· != x)).map fun y => if y = c then x else y else l.filter (· != c)) forced
      | none => bootstrap f (d.bsForced arm c) arm parts ranks (forced ++ [c])
/-- The cell's last status shows soft block (Table 7-5). -/
def Device.softBlocked (d : Device) (c : Nat) : Bool := (d.node c).last.any fun x => x.flags.getLsbD 10
/-- The edges that hold a cell in ZL: none where it stands there, and ZL at offset 0 alone for one in soft block, which leaves it so (R212). -/
def Device.zeroEdges (d : Device) (c : Nat) : List Edge :=
  if (d.mcell c).cmdState = 4 && !d.softBlocked c then [] else [{ off := 0, state := 4 }]
/-- Edge mode: the whole of R149 to R157 for an arm. A demand beyond all eligible cells inserts them for the whole cycle, sets SAT and discards the rest (R153). -/
def Device.edgeSchedule (d : Device) (arm : Nat) (v0 v1 ip : Rat) : Device :=
  let T := d.tcS * 1000000
  let rho := (d.marm arm).rho
  let trusted := d.trusted ip
  let parts := partsOf v0 v1 rho T
  let (ranks, d) := parts.foldl (fun (acc : List (List Nat) × Device) p =>
    let (l, d) := acc.2.rank arm (decide (0 < p.mean * ip)) trusted
    (acc.1 ++ [l], d)) ([], d)
  let total := (v0 + v1) / 2 * T + rho
  -- the part whose polarity the whole demand has
  let i := if (parts.getD 0 ⟨0, 0, 0, 0, 1, 0, 0⟩).st = (if total < 0 then 2 else 1) || parts.length = 1 then 0 else 1
  let p := parts.getD i ⟨0, 0, 0, 0, 1, 0, 0⟩
  let S := rsum ((ranks.getD i []).map d.vCell)
  let sat := decide (S * T < rabs total)
  let parts := if sat then [{ p with t0 := 0, t1 := T, want := rabs total }] else parts
  let ranks := if sat then [ranks.getD i []] else ranks
  let (ins, d) := bootstrap (2 * (d.armCells arm).length) d arm parts ranks []
  let want := if sat then outSign p.st * S * T else total
  let cells := (d.armCells arm).filter fun c => !(d.mcell c).bypassed && (d.mcell c).cmdState != 0
  let (done, d) := cells.foldl (fun (acc : Rat × Device) c =>
    let (sum, d) := acc
    let m := d.mcell c
    if !m.available && d.softBlocked c then (sum, d.commit c (d.zeroEdges c)) else
    let (_, ch, n) := d.cellPulses c ip (if m.available then ins.filter fun i => i.cell == c else [])
    let vs := voltSeconds m.cmdState T m.row.vdc ch
    let d := (d.commit c ((ch.map Change.edge).take 4)).setModu fun u => { u with drop := sat32 (u.drop + n.drop), extend := sat32 (u.extend + n.ext) }
    (sum + vs, d)) (0, d)
  let d := d.setModu fun u => { u with satCnt := if sat then inc32 u.satCnt else u.satCnt }
  let d := d.setArm arm fun a => { a with sat := sat }
  (d.setRho arm (want - done)).setProt fun p => { p with gateFrozen := false }
/-- Centre mode: every AVAILABLE cell eligible in both directions against its carrier; ρ stays 0 (R161, R162). The resume gives ZL at offset 0 first (R247). -/
def Device.centreSchedule (d : Device) (arm : Nat) (v0 v1 ip : Rat) (resume : Bool) : Device :=
  let T := d.tcS * 1000000
  let P := Par.modCarPeriod d.P
  let avail := d.availCells arm
  let part := avail.filter fun c => d.eligible c true false
  let S := rsum (part.map d.vCell)
  let n : Rat := part.length
  let d0 := if S = 0 then 0 else v0 / S
  let d1 := if S = 0 then 0 else v1 / S
  -- |d| > 1: also any reference that no cell can carry
  let ovr := decide (S < rabs v0) || decide (S < rabs v1)
  let base : Rat := (((d.eNext - (d.marm arm).centreFrom : Nat) : Rat)) / 800
  let d := (d.armCells arm).foldl (fun (d : Device) c =>
    let m := d.mcell c
    if m.bypassed then d
    else if !m.available then d.commit c (if resume then [{ off := 0, state := 4 }] else d.zeroEdges c)
    else if m.cmdState = 0 && !resume then d.commit c [{ off := 0, state := 4 }]
    else
      let d := if resume then d.setCell c fun m => { m with cmdState := 4, lastEdge := ((d.eNext : Nat) : Int) } else d
      let j := part.idxOf c
      let x := base - (j : Rat) * P / n
      let ph := x - ((x / P).floor : Rat) * P
      let ins := if part.contains c then centreInserts c d0 d1 T P ph else []
      -- every eligible cell takes part, so a due cell has no substitute (R157)
      let force := !resume && !ins.isEmpty && d.bsDue c (pulsesOf m.cmdState (-1) T ins)
      let d := if force then d.bsForced arm c else d
      let ins := if force then ins.flatMap fun i => gapCentred T (Par.modBsRefresh d.P) i else ins
      let (_, ch, k) := d.cellPulses c ip ins
      let es := ch.map Change.edge
      let es := if resume then ({ off := 0, state := 4 } :: es.filter fun e => e.off ≠ 0).take 4 else es.take 4
      (d.commit c es).setModu fun u => { u with drop := sat32 (u.drop + k.drop), extend := sat32 (u.extend + k.ext) }) d
  let d := d.setModu fun u => { u with satCnt := if ovr then inc32 u.satCnt else u.satCnt }
  d.setArm arm fun a => { a with sat := ovr, rho := 0 }
/-- No switching: every cell that is inserted goes to ZL and stays there (R145, R360). -/
def Device.quietSchedule (d : Device) (arm : Nat) : Device :=
  let d := (d.armCells arm).foldl (fun (d : Device) c =>
    let m := d.mcell c
    if m.bypassed then d else d.commit c (d.zeroEdges c)) d
  d.setArm arm fun a => { a with sat := false, rho := 0 }
/-- The test edges of CELL_TEST: ZL to ZU at offset 0 and back at half the cycle (R359). -/
def Device.testSchedule (d : Device) (arm : Nat) : Device :=
  (d.availCells arm).foldl (fun d c =>
    (d.commit c [{ off := 0, state := 3 }, { off := d.tc / 2, state := 4 }]).setCell c fun m => { m with cellTest := true }) d
/-- The schedule of an arm from the record in use, on the cell table as it stands. -/
def Device.scheduleCore (d : Device) (arm : Nat) : Device :=
  let a := d.marm arm
  let cells := d.armCells arm
  let d := d.setModu fun u => { u with cells := u.cells.mapIdx fun i m => if cells.contains i then { m with sched := [], cellTest := false } else m }
  let d := if d.slotsEmpty || d.prot.blocked then d.setArm arm fun a => { a with sat := false, rho := 0 } else
    let want := d.centreWanted arm
    let d := if want != a.centre then d.setArm arm fun a => { a with centre := want, centreFrom := d.eNext, rho := 0 } else d
    let r := a.record
    let vc := if d.inDelta && r.active then d.modu.vcNow else 0
    let step := if d.inDelta && r.active then d.modu.vcStep else 0
    let v0 := r.v0 + vc
    let v1 := v0 + r.slope * (d.tcS * 1000000) + step
    let d := d.setArm arm fun a => { a with vcApplied := vc }
    if d.conv.state = stStandby && d.conv.phase = 6 && d.conv.phaseCyc = 1 then d.testSchedule arm
    else if want then d.centreSchedule arm v0 v1 r.ip false
    else if r.active then d.edgeSchedule arm v0 v1 r.ip
    else d.quietSchedule arm
  let d := if d.slotsEmpty || d.prot.blocked then d else
    cells.foldl (fun d c => if (d.mcell c).bypassed then d.commit c (d.mcell c).bypassEdges else d) d
  (d.gateLoop arm cells).setArm arm fun a => { a with scheduled := true }

/-- The resume of an arm: its slots for the first centre-mode cycle, counted from the next cycle start, and the cycles of centre mode that follow it (R247). -/
def Device.resumeArm (d : Device) (arm : Nat) : Device :=
  let cells := d.armCells arm
  let r := (d.marm arm).record
  let left := Par.modRecoverCycles d.P - 1
  let d := d.setModu fun u => { u with cells := u.cells.mapIdx fun i m => if cells.contains i then { m with sched := [], cellTest := false } else m }
  let d := d.setArm arm fun a => { a with centre := true, centreFrom := d.eNext, rho := 0, recoverLeft := left, vcApplied := 0 }
  (d.centreSchedule arm r.v0 (r.v0 + r.slope * (d.tcS * 1000000)) r.ip true).setArm arm fun a => { a with scheduled := true }

/-- Cell-table rows for the cells, in their order. -/
def Device.withRows (d : Device) (rows : List CellRow) : Device :=
  d.setModu fun u => { u with cells := u.cells.mapIdx fun i m => { m with row := rows.getD i m.row } }
/-- The schedule of an arm: in a twin pair the sorter uses the cell table as it stood at E(k) (R302). -/
def Device.scheduleArm (d : Device) (arm : Nat) : Device :=
  let live := d.modu.cells.map ModCell.row
  let d := if d.straps.twinEn then ((d.withRows d.twin.tableAtE).scheduleCore arm).withRows live else d.scheduleCore arm
  (d.pmcPulse 2 3 ((d.cellsOf arm).map fun c => (d.mcell c).sched.length).sum).stamp 4 id

/-! ## Command slots (Table 7-4) -/

/-- A 20-bit edge word: OFFSET in [16:0], STATE in [19:17]; 7 for no edge. -/
def edgeBits (e : Option Edge) : Nat :=
  match e with
  | none => 7 * 2 ^ 17
  | some e => e.off % 2 ^ 17 + (e.state % 8) * 2 ^ 17
/-- Four edge words. -/
def edgeBytes (l : List Edge) : Nat := (List.range 4).foldl (fun v i => v + edgeBits l[i]? * 2 ^ (20 * i)) 0
/-- Bytes 0 to 17 of a command slot: four edges, gate codes, BP_CLOSE, CHOP_EN, CELL_TEST. -/
def slotWord (edges : List Edge) (gateOn gateOff : Nat) (bpClose chopEn cellTest : Bool) : BitVec 144 :=
  BitVec.ofNat 144 (edgeBytes edges + (gateOn % 32) * 2 ^ 80 + (gateOff % 32) * 2 ^ 88 + (ofBits [bpClose, chopEn, cellTest]) * 2 ^ 96)
/-- Enumeration's discovery frames are being sent (R222). -/
def Device.discovering (d : Device) : Bool := decide (0 < d.link.discLeft)
/-- The slot of a cell's schedule; empty in OFF and STANDBY and in discovery (R222, R360). -/
def Device.cellSlot (d : Device) (c : Nat) : BitVec 144 :=
  let m := d.mcell c
  if d.slotsEmpty || d.discovering then 0 else
  slotWord m.sched (d.gate c false).code (d.gate c true).code (decide (2 ≤ m.bypStep)) (Par.protChopEn d.P) m.cellTest
/-- The slots of an arm, in arm order. -/
def Device.armSlots (d : Device) (arm : Nat) : List (BitVec 144) := (d.armCells arm).map d.cellSlot
/-- CRC-32 over an arm's slots in arm order (type 0x05 of Table 10-2). -/
def slotsCrc (l : List (BitVec 144)) : Nat := crc32 (l.flatMap fun w => leBytes 18 w.toNat)

/-! ## When a resume is due (R247, R360, R361) -/

/-- The converter state permits a resume: in OFF and STANDBY only for the charge sequence, in SAFE-HOLD never. -/
def Device.resumePermitted (d : Device) : Bool :=
  d.conv.level != 2 && !d.conv.trigSquall && ((d.conv.state != stOff && d.conv.state != stStandby) || d.conv.resumeDue)
/-- The conditions of R247 at a load-all. The charge sequence launches its resume also where no Squall has blocked the arms (R359). -/
def Device.resumeNow (d : Device) : Bool :=
  (d.prot.blocked || d.conv.resumeDue) && d.noLatchSet && !d.prot.burst && d.prot.echoFrom.isNone && !d.safety.fns.getD 0 true &&
    d.bslRuns && d.prot.resumeEdge.isNone && d.resumePermitted

/-! ## The Active's checks (R302, R303, Table 10-2) -/

/-- The serving Active sends the check of an arm's complete schedule; while a resume is due the check is that of the resume's slots (assumption log 149). -/
def Device.sendCheck (d : Device) (arm : Nat) : Device :=
  if !d.twin.active || !d.twin.serving then d else
  let resume := d.resumeNow
  let e := if resume then d.resumeArm arm else d
  (d.mdlSend 5 arm 8 (.check false resume (slotsCrc (e.armSlots arm)))).setTwin fun w => { w with arms := upd w.arms arm fun a => { a with checkSaid := some resume } }
/-- The serving Active sends an arm's record as it goes to Batten (Table 10-2). -/
def Device.sendRecord (d : Device) (arm : Nat) (r : ArmRecord) : Device := if d.twin.serving then d.activeSend 3 arm 24 (.record r) else d

/-! ## Records and overruns (R38, R146, R168) -/

/-- ARM_RECORD_ARRIVAL: an arm record reaches Batten by 4.455 µs after E(k) and its schedule is computed. In delta the first record's common words drive the circulating-current loop; a differing copy is reported and its arm is handled as a late schedule. -/
def execArmRecordArrival (t : Tick) (arm : Fin 3) (differs : Bool) (s : State) : Host.Outcome State Fault Refusal :=
  s.on t fun d =>
    if !d.law.evaluated || (d.marm arm).arrived || d.cycle.eK + 3564 < d.now then d else
    let r := d.modu.sentRecs.getD arm ArmRecord.reset
    let d := ((d.setArm arm fun a => { a with record := r, arrived := true }).stamp 3 id).sendRecord arm r
    let first := d.modu.first.isNone
    let d := if first then d.setModu fun u => { u with first := some r } else d
    let d := if first && d.inDelta && r.active then d.circLoop r.i0ref r.i0 false else d
    if differs && !first && d.inDelta then d.errReport 0x0014 2 1 arm 0 else (d.scheduleArm arm).sendCheck arm
/-- An overrun of an arm: EV_CYCLE_OVERRUN, and the control-overrun error at the third consecutive cycle (R38); a longer run does not report it again (DESIGN CHOICE, assumption log 124). -/
def Device.overrun (d : Device) (arm kind : Nat) : Device :=
  let o := d.cycle.overrun.getD arm OverrunArm.reset
  let run := if o.inCycle then o.run else o.run + 1
  let d := { d with cycle := { d.cycle with overrun := upd d.cycle.overrun arm fun _ => { run := run, inCycle := true } } }
  let d := d.raise "EV_CYCLE_OVERRUN" 3 1 arm [(arm : Int), (kind : Int)]
  if run = 3 && !o.inCycle then
    if kind = 0 then d.errReport 0x0012 1 1 arm 0 else d.errReport 0x0013 2 1 arm 0
  else d
/-- REFERENCE_OVERRUN: an arm's reference is missing at 4.455 µs; the previous one goes on along its slope (R38). In delta with no record at all i0* goes on along its slope and x_c is held (R168). -/
def execReferenceOverrun (t : Tick) (arm : Fin 3) (s : State) : Host.Outcome State Fault Refusal :=
  s.on t fun d =>
    if (d.marm arm).arrived || d.now < d.cycle.eK + 3564 then d else
    let T := d.tcS * 1000000
    let ext := fun (r : ArmRecord) => { r with v0 := r.v0 + r.slope * T, i0ref := r.i0ref + r.i0slope * T }
    let d := d.setArm arm fun a => { a with record := ext a.record, arrived := true }
    let r := (d.marm arm).record
    let d := if d.modu.first.isNone && d.inDelta && r.active then (d.circLoop r.i0ref r.i0 true).setModu fun u => { u with first := some r } else d
    let d := d.setModu fun u => { u with refOverruns := inc32 u.refOverruns }
    ((d.overrun arm 0).scheduleArm arm).sendCheck arm
/-- The load-all instant of the cycle: Tc − 6.4 µs after E(k) (R36). -/
def Device.tLoad (d : Device) : Tick := d.eNext - 5120
/-- An arm's schedule is not complete: the edges of the last cycle are sent again, shifted by Tc, and the overrun is counted (R38). -/
def Device.reuseSchedule (d : Device) (arm : Nat) : Device :=
  let cells := d.armCells arm
  let d := cells.foldl (fun d c => d.setCell c fun m => { m with sched := m.sent, cmdState := (m.sent.getLast?.map Edge.state).getD m.cmdState }) d
  let d := d.setModu fun u => { u with schedOverruns := inc32 u.schedOverruns }
  (d.overrun arm 1).setArm arm fun a => { a with scheduled := true }
/-- SCHEDULE_OVERRUN: an arm's schedule is not complete at t_load (R38). -/
def execScheduleOverrun (t : Tick) (arm : Fin 3) (s : State) : Host.Outcome State Fault Refusal :=
  s.on t fun d => if (d.marm arm).scheduled || d.modu.loaded || d.now < d.tLoad then d else d.reuseSchedule arm

/-! ## Availability and redundancy (R160, R165) -/

/-- The availability record of an arm, its shown residue and the band its smaller sum stands in. -/
def Device.availability (d : Device) (arm : Nat) : Device :=
  let cs := d.armCells arm
  let av := d.availCells arm
  let sum := fun (p : Nat → Bool) => rsum ((av.filter p).map d.vCell)
  let sd := sum fun c => d.eligible c true true
  let sc := sum fun c => d.eligible c false true
  let sm := min sd sc / 1000
  let band := if Par.modVArmFull d.P ≤ sm then 0 else if Par.modVArmMin d.P ≤ sm then 1 else 2
  d.setArm arm fun a => { a with
    sDis := sd, sChg := sc, sBoth := sum fun c => d.eligible c true false
    nAvail := av.length
    nRest := (cs.filter fun c => (d.mcell c).rested).length
    nByp := (cs.filter fun c => (d.mcell c).bypassed).length
    rhoShown := a.rho
    redRun := if band = a.redund then 0 else if band = a.redNew then a.redRun + 1 else 1
    redNew := band }
/-- ARM_REDUNDANCY_CHANGE: an arm's sum has stood in a new band for 50 load-alls (R165). -/
def execArmRedundancyChange (t : Tick) (arm : Fin 3) (s : State) : Host.Outcome State Fault Refusal :=
  s.on t fun d =>
    let a := d.marm arm
    if a.redRun < 50 then d else
    let d := d.setArm arm fun a => { a with redund := a.redNew, redRun := 0 }
    let (v, d) := d.quant (min a.sDis a.sChg * 256)
    if a.redNew = 2 then d.raise "EV_ARM_UNDERVOLTAGE" 3 1 arm [(arm.val : Int), v]
    else if a.redNew = 1 && a.redund = 0 then d.raise "EV_ARM_REDUNDANCY_LOST" 3 1 arm [(arm.val : Int), v]
    else d
/-- An arm stands in undervoltage. -/
def Device.anyUndervoltage (d : Device) : Bool := d.modu.arms.any fun a => a.redund == 2

end Sys2Proof.Machine
end

