-- ==== Sys2Proof/Machine/Clocks.lean ====
section
/-! DEFINITION. Clocks: the reference, the PLLs, holdover, the margin, CLKOUT, and the converter timebase as the host reads it (R368 to R385). -/

namespace Sys2Proof.Machine

/-- Change the clocks. -/
def Device.setClk (d : Device) (f : Clk → Clk) : Device := { d with clk := f d.clk }
/-- PLL n: 0 SYS, 1 CTB, 2 LINK, 3 MDL. -/
def Device.pll (d : Device) (n : Nat) : Pll := d.clk.plls.getD n Pll.reset
/-- Change PLL n. -/
def Device.setPll (d : Device) (n : Nat) (f : Pll → Pll) : Device := d.setClk fun c => { c with plls := upd c.plls n f }
/-- Change station clock x: 0 SC-A, 1 SC-B. -/
def Device.setSc (d : Device) (x : Nat) (f : StClock → StClock) : Device := { d with net := { d.net with clocks := upd d.net.clocks x f } }
/-- Station clock x. -/
def Device.sc (d : Device) (x : Nat) : StClock := d.net.clocks.getD x StClock.reset
/-- Change both station clocks. -/
def Device.setScs (d : Device) (f : StClock → StClock) : Device :=
  let l := d.net.clocks.map f
  { d with net := { d.net with clocks := l } }
/-- Data returned to the host by a read. -/
def Device.answer (d : Device) (v : Nat) : Device := { d with host := { d.host with reply := BitVec.ofNat 64 v } }
/-- Number n in w-bit pieces: its word i. -/
def word32 (n i : Nat) : BitVec 32 := BitVec.ofNat 32 (n / 2 ^ (32 * i))

/-! ## Reference and lock -/

/-- The reference path of Table 13-1 for a measured frequency in MHz, within ±2 %. -/
def refPath (mhz : Rat) : Option Nat :=
  let near := fun (f : Rat) => decide (rabs (mhz - f) * 50 ≤ f)
  if near 25 then some 0 else if near 50 then some 1 else if near 20 then some 2 else if near 10 then some 3 else none
/-- The nominal feedback value of a PLL at the phase-detector frequency of a path: 25 MHz with paths 0 and 1, 20 MHz with 2 and 3 (Tables 13-1 and 13-2). -/
def nominalFeedback (path n : Nat) : Rat :=
  let at25 : Rat := match n with
    | 0 => 120
    | 1 => 192
    | 2 => 200
    | _ => 825 / 2
  if path < 2 then at25 else at25 * 5 / 4
/-- The feedback values in force: the margin shifts the SYS PLL, the pull the CTB and LINK PLLs together (R369, R372, R374). A PLL runs in fractional mode while its value has a fractional part. -/
def Device.feedbacks (d : Device) : Device :=
  match d.clk.path with
  | none => d
  | some path =>
    let scale := fun (n : Nat) => if n = 0 then 1 + d.clk.margin / 100 else if n < 3 then 1 + d.clk.pull / 1000000 else 1
    d.setClk fun c => { c with plls := c.plls.mapIdx fun n p => { p with feedback := nominalFeedback path n * scale n } }
/-- REFERENCE_DETECTION: the path is selected once per device reset; with none the PLLs are not started and the ROM does not run (R368). -/
def execReferenceDetection (t : Tick) (mhz : Rat) (s : State) : Host.Outcome State Fault Refusal :=
  s.on t fun d => if d.clk.detected || d.conv.devReset then d else (d.setClk fun c => { c with detected := true, path := refPath mhz }).feedbacks
/-- The dither seed of a PLL (R371): 23 bits of SHAKE256 over the identity and the PLL number, or clk.dither_seed. -/
def Device.ditherSeed (d : Device) (n : Nat) : BitVec 23 :=
  if Par.clkDitherSeed d.P = 0 then BitVec.ofNat 23 (leVal (shake256 (identity ++ [BitVec.ofNat 8 n]) 3)) else BitVec.ofNat 23 (Par.clkDitherSeed d.P)
/-- A PLL locks: the LFSR is loaded, unless the seed is 0 (R371), and the outputs leave bypass, those of a CTB PLL that lost lock excepted (R373). -/
def Device.pllLocked (d : Device) (n : Nat) : Device :=
  let seed := d.ditherSeed n
  d.setPll n fun p => { p with locked := true, bypass := p.dead, relock := none, lfsr := if seed = 0 then p.lfsr else seed }
/-- Instants of island 8, which runs on through a device reset, seen from a timebase that is set to 0 now. -/
def Safety.rebase (f : Safety) (now : Tick) : Safety :=
  let g := fun (x : Tick) => x - now
  { f with
    ins := f.ins.map fun i => { i with transA := i.transA.map g, transB := i.transB.map g, discFrom := i.discFrom.map g, lastTrans := g i.lastTrans,
                                       resetFrom := i.resetFrom.map g, fellA := i.fellA.map g, fellB := i.fellB.map g, roseA := i.roseA.map g, roseB := i.roseB.map g }
    tpa := f.tpa.map g, tpb := f.tpb.map g
    outs := f.outs.map fun o => { o with testFrom := g o.testFrom, onFrom := g o.onFrom, checkFrom := o.checkFrom.map g }
    demands := f.demands.map fun x => { x with since := g x.since }
    hbAt := g f.hbAt, pDiffFrom := f.pDiffFrom.map g, sciFrom := f.sciFrom.map g, sciOffAt := f.sciOffAt.map g, slpFrom := f.slpFrom.map g
    sc := { f.sc with lastAt := g f.sc.lastAt } }
/-- The CTB starts at 0, at the first lock of the CTB PLL (R377). -/
def Device.ctbStart (d : Device) : Device :=
  if d.clk.ctbOn then d else
  { d with
    now := 0
    safety := d.safety.rebase d.now
    conv := { d.conv with bootAt := d.conv.bootAt - d.now }
    cycle := { d.cycle with k := 0, eK := 0 }
    clk := { d.clk with ctbOn := true } }
/-- HOLDOVER clears once the reference is back and every PLL is locked (R375). -/
def Device.holdoverEnd (d : Device) : Device :=
  if d.clk.holdover && !d.clk.refLost && d.clk.plls.all Pll.locked then d.setClk fun c => { c with holdover := false, refBack := none } else d
/-- PLL_LOCK: a PLL's phase error has stayed within ±1 ns for 2,048 cycles (R373). -/
def execPllLock (t : Tick) (pll : Fin 4) (s : State) : Host.Outcome State Fault Refusal :=
  s.on t fun d =>
    if d.clk.path.isNone || (d.pll pll).locked || (d.pll pll).relock.isSome then d else
    let d := d.pllLocked pll
    (if pll.val = 1 then d.ctbStart else d).holdoverEnd
/-- Both ports go down, with the LINK PLL or with net.mode = 0 (Table 13-3, R389, R392). -/
def Device.portsDown (d : Device) : Device :=
  (List.range 2).foldl (fun (d : Device) p =>
    if !d.net.links.getD p false then d
    else ({ d with net := { d.net with links := upd d.net.links p fun _ => false } } : Device).raiseRated "EV_NET_PORT" 4 0 (p + 1) [((p : Int) + 1), 0]) d
/-- Code, die and second die of a loss of lock (Table 16-3). -/
def lockError (n : Nat) : Nat × Nat × Option Nat :=
  match n with
  | 0 => (0x0062, 1, none)
  | 1 => (0x0060, 2, none)
  | 2 => (0x0061, 3, some 4)
  | _ => (0x0063, 4, none)
/-- PLL_LOSS_OF_LOCK: the islands go to bypass, the loss is counted, raised and reported; the CTB outputs never return (R373). -/
def execPllLossOfLock (t : Tick) (pll : Fin 4) (s : State) : Host.Outcome State Fault Refusal :=
  s.on t fun d =>
    if !(d.pll pll).locked then d else
    let d := d.setPll pll fun p => { p with locked := false, bypass := true, lol := inc8 p.lol, dead := p.dead || pll.val == 1 }
    let d := d.raise "EV_CLK_LOCK_LOST" 1 0 pll [(pll.val : Int)]
    let d := if pll.val = 2 then d.portsDown else d
    let (code, die, die2) := lockError pll
    d.errReport code die 0 pll pll die2

/-! ## Holdover (R375) -/

/-- REFERENCE_LOST: every PLL holds its last tuning word. -/
def execReferenceLost (t : Tick) (s : State) : Host.Outcome State Fault Refusal :=
  s.on t fun d =>
    if d.clk.refLost || d.clk.path.isNone then d else
    (d.setClk fun c => { c with refLost := true, holdover := true, holdFrom := d.now, holdReported := false, refBack := none, holdCnt := inc16 c.holdCnt }).raise "EV_REF_LOST" 1 0 0 []
/-- REFERENCE_RESTORED: the reference has returned within clk.holdover_max and passed 1 ms of measurement. -/
def execReferenceRestored (t : Tick) (s : State) : Host.Outcome State Fault Refusal :=
  s.on t fun d =>
    if !d.clk.refLost || d.clk.holdReported || d.pastBeyond d.clk.holdFrom (sT (Par.clkHoldoverMax d.P)) then d else
    let len := (((d.now - d.clk.holdFrom : Nat) : Rat) / sT 1).floor.toNat
    let d := d.setClk fun c => { c with refLost := false, refBack := some d.now, holdMax := max c.holdMax (min len 0xFFFF) }
    (d.raise "EV_REF_RESTORED" 1 0 0 []).holdoverEnd
/-- HOLDOVER_MAX_EXPIRY: a clock error goes to the handler; holdover continues. -/
def execHoldoverMaxExpiry (t : Tick) (s : State) : Host.Outcome State Fault Refusal :=
  s.on t fun d =>
    if !d.clk.refLost || d.clk.holdReported || !d.past d.clk.holdFrom (sT (Par.clkHoldoverMax d.P)) then d else
    let len := (((d.now - d.clk.holdFrom : Nat) : Rat) / sT 1).floor.toNat
    (d.setClk fun c => { c with holdReported := true, holdMax := max c.holdMax (min len 0xFFFF) }).errReport 0x0064 2 0 0 0

/-! ## Synchronisation of a station clock, lost (R400), and the margin (R374) -/

/-- A station clock loses synchronisation; without a step it enters holdover. A source of the CTB that is lost holds the pull (R379), and its return is counted anew (R402). -/
def Device.scLose (d : Device) (x : Nat) (stepped : Bool) : Device :=
  let c := d.sc x
  if !c.sync then d else
  let d := d.setSc x fun c => { c with sync := false, holdover := c.holdover || !stepped, goodRun := 0, losses := inc16 c.losses }
  let d := d.raise "EV_SC_SYNC_LOST" 4 0 x [(x : Int)]
  let d := if d.clk.srcCommit = x + 1 then d.setClk fun c => { c with returnFrom := none } else d
  if d.clk.src = x + 1 then (d.setClk fun c => { c with srcLost := true, rateRun := 0, alignRun := 0 }).raise "EV_CTB_SOURCE_LOST" 3 0 0 [((x : Int) + 1)] else d
/-- A relock of the SYS PLL for a margin: islands 0 to 2 go to their bypass source and both station clocks stop being synchronised (R372, R374). -/
def Device.marginRelock (d : Device) (pct : Rat) : Device :=
  let d := d.setPll 0 fun p => { p with locked := false, bypass := true, relock := some d.now }
  let d := d.setClk fun c => { c with marginBusy := true, marginNext := pct, relocks := inc16 c.relocks }
  let d := (d.scLose 0 false).scLose 1 false
  d.setScs fun c => { c with marginBlock := true, marginUntil := none, goodRun := 0 }
/-- The margin at a change of the converter state: applied on entry into MAINT, removed on leaving it. -/
def Device.marginOnState (d : Device) (old new : Nat) : Device :=
  let pct := Par.clkMarginPct d.P
  if new = stMaint && old ≠ stMaint && pct ≠ 0 then d.marginRelock pct
  else if old = stMaint && new ≠ stMaint && (d.clk.margin ≠ 0 || (d.clk.marginBusy && d.clk.marginNext ≠ 0)) then d.marginRelock 0
  else d
/-- PLL_RELOCK_DONE: the SYS PLL has relocked; its outputs return with the new feedback, and the relock's length is recorded (R372). -/
def execPllRelockDone (t : Tick) (s : State) : Host.Outcome State Fault Refusal :=
  s.on t fun d =>
    match (d.pll 0).relock with
    | none => d
    | some f =>
      let us := min ((d.now - f) / 800) 0xFFFF
      let last := d.clk.marginNext = 0
      let d := ((d.pllLocked 0).setClk fun c => { c with margin := c.marginNext, marginBusy := false, relockUs := us }).feedbacks
      if last then
        (d.setScs fun c => { c with marginBlock := false, marginUntil := some (d.now + 800000000) }).holdoverEnd
      else d.holdoverEnd

/-! ## CLKOUT (R376) -/

/-- The first edge at or after n of the grid of a divider and a delay, in VCO periods. -/
def gridEdge (n div delay : Nat) : Nat :=
  let div := max div 1
  n + (delay % div + div - n % div) % div
/-- The VCO period of the old output's first rising edge at or after the applying boundary; of an output that does not run, the first edge of the new grid. -/
def ClkOut.oldEdge (o : ClkOut) (new : Bool × Nat × Nat) : Nat :=
  if o.enable then gridEdge (6 * o.changeFrom) o.div o.delay else gridEdge (6 * o.changeFrom) new.2.1 new.2.2
/-- CLKOUT_CHANGE_APPLY: the new divider, delay and enable, and the first edge of the new grid at least the shorter period later. -/
def execClkoutChangeApply (t : Tick) (o : Fin 2) (s : State) : Host.Outcome State Fault Refusal :=
  s.on t fun d =>
    let c := d.clk.outs.getD o ClkOut.reset
    match c.change with
    | none => d
    | some n =>
      let edge := c.oldEdge n
      if d.now < edge / 6 then d else
      let first := if c.enable then gridEdge (edge + min c.div n.2.1) n.2.1 n.2.2 else edge
      d.setClk fun k => { k with outs := upd k.outs o fun c => { c with enable := n.1, div := n.2.1, delay := n.2.2, change := none, firstEdge := first } }
/-- A commit has changed the parameters of a clock output: the change waits for its edge. -/
def Device.clkoutCommit (d : Device) : Device :=
  (List.range 2).foldl (fun (d : Device) o =>
    let c := d.clk.outs.getD o ClkOut.reset
    let n := (Par.clkoutEnable d.P o, Par.clkoutDiv d.P o, Par.clkoutDelay d.P o)
    let was := c.change.getD (c.enable, c.div, c.delay)
    if n = was then d else d.setClk fun k => { k with outs := upd k.outs o fun c => { c with change := some n, changeFrom := d.now } }) d

/-! ## The timebase as the host reads it (R382, R385) -/

/-- The CTB as registers show it: 0 until it is set at the first lock (R377). -/
def Device.ctb (d : Device) : Tick := if d.clk.ctbOn then d.now else 0
/-- CTB_NOW_READ: a read of CTB_NOW_L latches CTB_NOW_H. -/
def execCtbNowRead (t : Tick) (s : State) : Host.Outcome State Fault Refusal :=
  s.on t fun d => (d.setClk fun c => { c with nowH := word32 d.ctb 1 }).answer (d.ctb % 2 ^ 32)
/-- CTB_CYC_READ: a read of CTB_CYC_L latches CTB_CYC_H and E(k). -/
def execCtbCycRead (t : Tick) (s : State) : Host.Outcome State Fault Refusal :=
  s.on t fun d => (d.setClk fun c => { c with cycH := BitVec.ofNat 32 (d.cycle.k / 2 ^ 32 % 2 ^ 16), ekL := word32 d.cycle.eK 0, ekH := word32 d.cycle.eK 1 }).answer (d.cycle.k % 2 ^ 32)
/-- The difference of the station clocks in whole ns, saturating at ±(2^31 − 1). -/
def Device.scDiff (d : Device) : Rat := (d.sc 0).timeNs - (d.sc 1).timeNs
/-- A correlation sample: the CTB, SC-A and SC-B at one instant; while both clocks are synchronised they are compared (R382, R401). -/
def Device.correlate (d : Device) : Device :=
  let a := d.sc 0
  let b := d.sc 1
  let x : Corr := { ctb := d.now, aS := a.s, aNs := a.ns, bS := b.s, bNs := b.ns }
  let d := d.setClk fun c => { c with xs := x, xsReady := true, xsBusy := false }
  if !(a.sync && b.sync) then d else
  let diff := d.scDiff
  let d := { d with net := { d.net with diff := diff } }
  if Par.netDomDiffMax d.P < rabs diff then
    let first := !d.net.domDiff
    let d := { d with net := { d.net with domDiff := true, domOkRound := false } }
    if first then
      let (v, d) := d.quant diff
      d.raise "EV_SC_DOMAIN_DIFF" 4 0 0 [v]
    else d
  else d
/-- CORRELATION_SAMPLE_REQUEST: a write of 1 to CTB_XS_CTRL [0]. -/
def execCorrelationSampleRequest (w : Tick × BitVec 32) (s : State) : Host.Outcome State Fault Refusal :=
  s.on w.1 fun d =>
    let d := d.reserved w.2 0x80000001
    if w.2.getLsbD 0 then d.correlate else d

/-! ## Steering (R378 to R380, R402) -/

/-- The source in force shows a time: in ns, of SC-A, SC-B or the twin's master. -/
def Device.sourceNs (d : Device) : Option Rat :=
  let up := fun (x : Nat) => if (d.sc x).sync then some (d.sc x).timeNs else none
  match d.clk.src with
  | 1 => up 0
  | 2 => up 1
  | 3 => if d.twin.lanesDownFrom.isNone then some ((d.now : Rat) * 5 / 4 - d.twin.ctbOfs) else none
  | _ => none
/-- Tc divides 1 s exactly (R380). -/
def Device.tcDivides (d : Device) : Bool := 10000000 % (d.tc / 80) == 0
/-- A value reduced to (−m/2, m/2]. -/
def reduceTo (x m : Rat) : Rat :=
  let r := x - ((x / m).floor : Rat) * m
  if m / 2 < r then r - m else r
/-- The phase error e of the cycle grid in ns; none where R378 or R380 gives no phase target. -/
def Device.gridError (d : Device) (source : Rat) : Option Rat :=
  if d.clk.src = 3 then some (-d.twin.ctbOfs)
  else if !Par.clkCycleAlign d.P || !d.tcDivides then none
  else
    let atE := source - (((d.now : Int) - (d.cycle.eK : Int) : Int) : Rat) * 5 / 4
    some (reduceTo (atE - Par.clkCyclePhase d.P * 1000) ((d.tc : Rat) * 5 / 4))
/-- The source in force for the next round: the committed source, or the other station clock after a failover (R378, R402). -/
def Device.takeSource (d : Device) : Device :=
  let commit := Par.clkCtbSource d.P
  let slave := d.clk.src = 3
  if slave then d.setClk fun c => { c with srcCommit := commit }
  else if d.clk.srcCommit ≠ commit then d.setClk fun c => { c with srcCommit := commit, src := commit, lastRound := none, srcLost := false, returnFrom := none, rateRun := 0, alignRun := 0, aligned := false }
  else
    let x := d.clk.src
    if x = 0 || (d.sc (x - 1)).sync then d else
    let other := 3 - x
    if Par.netCtbFailover d.P && (d.sc (other - 1)).sync && !d.net.domDiff then
      (d.setClk fun c => { c with src := other, lastRound := none, srcLost := false, returnFrom := none }).raise "EV_CTB_SOURCE_SWITCH" 3 0 0 [(x : Int), (other : Int)]
    else d
/-- The pull's update once per Zephyr round (R379). -/
def Device.pullUpdate (d : Device) : Device :=
  let d := d.takeSource
  let d := d.setClk fun c => { c with noPhase := (c.src == 1 || c.src == 2) && Par.clkCycleAlign d.P && !d.tcDivides }
  if d.clk.holdover then d.setClk fun c => { c with lastRound := none } else
  match d.sourceNs with
  | none =>
    if d.clk.src = 0 then d.setClk fun c => { c with lastRound := none, rateLocked := false, aligned := false, slewing := false, srcLost := false, phaseErr := 0, rateRun := 0, alignRun := 0 }
    else d.setClk fun c => { c with lastRound := none, rateLocked := false, rateRun := 0, alignRun := 0, aligned := false, slewing := false, srcLost := true }
  | some src =>
    let target := d.gridError src
    let e := target.getD 0
    let d := d.setClk fun c => { c with srcLost := false, phaseErr := e }
    match d.clk.lastRound with
    | none => d.setClk fun c => { c with lastRound := some (d.now, src) }
    | some (t0, s0) =>
      if src = s0 then d else
      let a := Par.clkPullRate d.P
      let m := Par.clkPullMax d.P
      let r := ((((d.now - t0 : Nat) : Rat) * 5 / 4) / (src - s0) - 1) * 1000000
      let p := d.clk.pull
      let brake := rsqrt (2 * a * (rabs e / 1000))
      let goal := clampR (-m) m ((p - r) + (if e < 0 then -brake else if e = 0 then 0 else brake))
      let p' := p + clampR (-(a / 100)) (a / 100) (goal - p)
      let rateRun := if rabs (r - p) * 20 ≤ 1 then min (d.clk.rateRun + 1) 10 else 0
      let alignRun := if target.isSome && decide (rabs e ≤ 10) then min (d.clk.alignRun + 1) 10 else 0
      let aligned := alignRun = 10
      let first := aligned && !d.clk.alignSeen
      let d := d.setClk fun c => { c with
        pull := p', lastRound := some (d.now, src), slewing := decide (1 < rabs (goal - (p - r)) * 20)
        rateRun := rateRun, rateLocked := rateRun == 10, alignRun := alignRun, aligned := aligned, alignSeen := c.alignSeen || aligned }
      let d := d.feedbacks
      if first then d.raise "EV_CTB_ALIGNED" 3 0 0 [] else d
/-- CTB_SOURCE_RETURN: the committed source has been synchronised for 60 s without a break and takes the CTB back (R402). -/
def execCtbSourceReturn (t : Tick) (s : State) : Host.Outcome State Fault Refusal :=
  s.on t fun d =>
    let c := d.clk.srcCommit
    if d.clk.src = c || d.clk.src = 3 || c = 0 || !d.pastOpt d.clk.returnFrom (sT 60) then d else
    let old := d.clk.src
    (d.setClk fun k => { k with src := c, lastRound := none, returnFrom := none, srcLost := false }).raise "EV_CTB_SOURCE_SWITCH" 3 0 0 [(old : Int), (c : Int)]

end Sys2Proof.Machine
end

