-- ==== Sys2Proof/Machine/Net.lean ====
section
/-! DEFINITION. Station network, redundancy and network time (R386 to R406): the ports, PRP and HSR, the safe-channel carrier, PTP and the station clocks. -/

namespace Sys2Proof.Machine

/-- Change the network. -/
def Device.setNet (d : Device) (f : Net → Net) : Device := { d with net := f d.net }
/-- Link of port p, 0 or 1 for port 1 or 2. -/
def Device.portUp (d : Device) (p : Nat) : Bool := d.net.links.getD p false
/-- The MAC address of both ports (R387). -/
def Device.mac (d : Device) : BitVec 48 :=
  let lo := Par.netMacLo d.P
  let hi := Par.netMacHi d.P
  if lo = 0 && hi = 0 then BitVec.ofNat 48 (beVal (0x02#8 :: shake256 (identity ++ [0x4E#8]) 5)) else BitVec.ofNat 48 (hi * 2 ^ 32 + lo)
/-- The ports with a link. -/
def Device.portsUp (d : Device) : List Nat := idx 2 d.portUp
/-- The 802.1Q tag with net.vlan_id and a PCP, with net.vlan_en = 1 (R393, R394). -/
def Device.vlanTag (d : Device) (pcp : Nat) : Option (Nat × Nat) := if Par.netVlanEn d.P then some (Par.netVlanId d.P, pcp) else none
/-- The priority queue of a PCP: the top queue takes 6 and 7, the lowest untagged frames (R391). -/
def queueOf (pcp : Option Nat) : Nat :=
  match pcp with
  | none => 3
  | some p => 3 - p / 2
/-- Send a frame on every port with a link, both copies with one sequence number, in PRP each with its port's LAN (R390, R391). -/
def Device.ethSend (d : Device) (x : EthTx) : Device :=
  if Par.netMode d.P = 0 then d else
  let l := d.portsUp.map fun p => { x with port := p, lan := p, seq := d.net.seq, src := d.mac, queue := queueOf (x.vlan.map Prod.snd) }
  d.setNet fun n => { n with tx := l ++ n.tx, seq := (n.seq + 1) % 65536 }

/-! ## Ports -/

/-- ETH_PORT_LINK_CHANGE: a link comes up only with a partner at 1,000 Mbit/s and while the network is on; each change raises EV_NET_PORT (R386, R389, R392). -/
def execEthPortLinkChange (t : Tick) (port : Fin 2) (up gigabit : Bool) (s : State) : Host.Outcome State Fault Refusal :=
  s.on t fun d =>
    let now := up && gigabit && Par.netMode d.P != 0 && (d.pll 2).locked
    if d.portUp port = now then d else
    (d.setNet fun n => { n with links := upd n.links port fun _ => now }).raiseRated "EV_NET_PORT" 4 0 (port + 1) [((port.val : Int) + 1), (now.toNat : Int)]

/-! ## Redundancy (R390, R391) -/

/-- Entries of the duplicate table that are not forgotten after 400 ms. -/
def Device.liveDups (d : Device) : List DupEntry := d.net.dups.filter fun e => decide (((d.now : Rat) - (e.at_ : Rat)) < msT 400)
/-- A copy with this source, sequence number and direction stands in the duplicate table. -/
def Device.seenFrame (d : Device) (src : BitVec 48) (seq dir : Nat) : Bool := d.liveDups.any fun e => e.src == src && e.seq == seq && e.dir == dir
/-- Enter a frame into the duplicate table of 512 entries. -/
def Device.enterFrame (d : Device) (src : BitVec 48) (seq dir : Nat) : Device :=
  let l := (({ src := src, seq := seq, dir := dir, at_ := d.now } : DupEntry) :: d.liveDups).take 512
  d.setNet fun n => { n with dups := l }
/-- A supervision frame of another node fills the node table of 64 entries (R390). -/
def Device.nodeSeen (d : Device) (src : BitVec 48) : Device :=
  if d.net.nodes.contains src then d
  else if d.net.nodes.length < 64 then d.setNet fun n => { n with nodes := n.nodes ++ [src] }
  else d.setNet fun n => { n with nodeFull := true }
/-- The own supervision frames have returned on both ports within 6 s (R391). -/
def Device.ringIsClosed (d : Device) : Bool :=
  d.net.ownBack.length == 2 && d.net.ownBack.all fun x => match x with
    | some t => decide (((d.now : Rat) - (t : Rat)) ≤ sT 6)
    | none => false
/-- An own frame comes back in the ring: it is removed; a supervision frame shows the ring closed. -/
def Device.ownReturned (d : Device) (port : Nat) (supervision : Bool) : Device :=
  if !supervision then d else
  let d := d.setNet fun n => { n with ownBack := upd n.ownBack port fun _ => some d.now }
  d.setNet fun n => { n with ringClosed := d.ringIsClosed }
/-- ETH_FRAME_RECEIVED: a frame arrives at a port. Kinds: 0 PTP, 1 safe channel, 2 supervision, 3 pause, 4 any other. tag is the RCT or HSR tag: LAN and sequence number; mine, that the frame is addressed to the device or to a group it uses (R386, R388, R390, R391). -/
def execEthFrameReceived (t : Tick) (port : Fin 2) (len : Nat) (src : BitVec 48) (kind : Fin 5) (tag : Option (Nat × Nat)) (mine : Bool) (s : State) : Host.Outcome State Fault Refusal :=
  s.on t fun d =>
    let mode := Par.netMode d.P
    let discard := fun (d : Device) => d.setNet fun n => { n with disc := inc32 n.disc }
    if mode = 0 || !d.portUp port then d else
    let d := d.pmcPulse 3 6 1
    if 1528 < len || kind.val = 3 then discard d
    else if mode = 2 && src = d.mac then d.ownReturned port (kind.val == 2)
    else
      let wrong := mode = 1 && (match tag with
        | some (lan, _) => lan != port.val
        | none => false)
      let d := if wrong then
          (d.setNet fun n => { n with wrong := upd n.wrong port inc16 }).raiseRated "EV_NET_WRONG_LAN" 4 0 (port + 1) [((port.val : Int) + 1)]
        else d
      let copy := if mode = 2 && kind.val = 0 then none else tag.map Prod.snd
      let dup := match copy with
        | some q => d.seenFrame src q 0
        | none => false
      if dup then d.setNet fun n => { n with dup := inc32 n.dup } else
      let d := match copy with
        | some q => d.enterFrame src q 0
        | none => d
      if kind.val = 2 then d.nodeSeen src
      else if kind.val = 4 || !mine then (if mode = 2 && !mine then d else discard d)
      else d
/-- HSR_FORWARD: a frame for another node is forwarded to the other port. event: 0 no PTP event message, 1 one that takes its residence at once, 2 a two-step Sync, whose residence is held for its Follow_Up (R391, R395). -/
def execHsrForward (t : Tick) (port : Fin 2) (src dst : BitVec 48) (seq : Nat) (pcp : Option (Fin 8)) (event : Fin 3) (dom ptpSeq : Nat) (ptpSrc : BitVec 80) (corr resid : Rat) (s : State) : Host.Outcome State Fault Refusal :=
  s.on t fun d =>
    let out := 1 - port.val
    if Par.netMode d.P ≠ 2 || !d.portUp port || !d.portUp out || src = d.mac || dst = d.mac then d
    else if event.val = 0 && d.seenFrame src seq (out + 1) then d
    else
      let d := if event.val = 0 then d.enterFrame src seq (out + 1) else d
      let add := resid + d.net.pdelay.getD port 0
      let x : EthTx := { EthTx.reset with port := out, kind := if event.val = 0 then 2 else 5, seq := seq, dst := dst, src := src, queue := queueOf (pcp.map Fin.val)
                                          corr := if event.val = 1 then corr + add else corr }
      let d := d.setNet fun n => { n with fwd := inc32 n.fwd, tx := x :: n.tx }
      if event.val = 2 then
        let h : TwoStep := { TwoStep.reset with dom := dom, port := port, seq := ptpSeq, src := ptpSrc, resid := add, corr := corr, at_ := d.now, own := false }
        d.setNet fun n => { n with held := n.held ++ [h] }
      else d
/-- SUPERVISION_FRAME_SEND: every 2 s on both ports (R390, R391). -/
def execSupervisionFrameSend (t : Tick) (s : State) : Host.Outcome State Fault Refusal :=
  s.on t fun d =>
    if Par.netMode d.P = 0 || !d.past d.net.supAt (sT 2) then d else
    (d.ethSend EthTx.reset).setNet fun n => { n with supAt := d.now }
/-- RING_CLOSED_TIMEOUT: the own supervision frames have not returned on both ports within 6 s (R391). -/
def execRingClosedTimeout (t : Tick) (s : State) : Host.Outcome State Fault Refusal :=
  s.on t fun d => if d.ringIsClosed then d else d.setNet fun n => { n with ringClosed := false }

/-! ## Safe-channel carrier (R393) -/

/-- SAFE_CHANNEL_FRAME: an accepted command frame passes its PDU to channels A, B and P and names the peer of the status PDUs; any other frame of its EtherType is discarded and counted. -/
def execSafeChannelFrame (t : Tick) (src : BitVec 48) (mine : Bool) (etherType version : BitVec 16) (pdu : BitVec 192) (s : State) : Host.Outcome State Fault Refusal :=
  s.on t fun d =>
    if Par.netMode d.P = 0 then d
    else if etherType.toNat ≠ Par.netScEthertype d.P then d.setNet fun n => { n with disc := inc32 n.disc }
    else if mine && version = 1 then d.setNet fun n => { n with scPeer := some src, scRx := n.scRx ++ [pdu] }
    else d.setNet fun n => { n with scDisc := inc32 n.scDisc }

/-- The bytes of a safe-channel frame (Table 14-1), with the 802.1Q tag after byte 11 where there is one; what redundancy adds follows IEC 62439-3. -/
def safeFrame (dst src : BitVec 48) (vlan : Option (Nat × Nat)) (etherType : Nat) (pdu : BitVec 192) : List (BitVec 8) :=
  let tag := match vlan with
    | some (vid, pcp) => beBytes 2 0x8100 ++ beBytes 2 (pcp * 2 ^ 13 + vid)
    | none => []
  beBytes 6 dst.toNat ++ beBytes 6 src.toNat ++ tag ++ beBytes 2 etherType ++ beBytes 2 1 ++ leBytes 24 pdu.toNat ++ List.replicate 20 0
/-- Send a status PDU to the source of the last accepted command frame (R393). -/
def Device.safeSend (d : Device) (pdu : BitVec 192) : Device :=
  let dst := d.net.scPeer.getD 0
  let tag := d.vlanTag (Par.netPcpSc d.P)
  d.ethSend { EthTx.reset with kind := 1, dst := dst, pdu := pdu, vlan := tag, wire := safeFrame dst d.mac tag (Par.netScEthertype d.P) pdu }

/-! ## Station clocks (R397 to R400) -/

/-- Add ns to a station clock. -/
def StClock.shift (c : StClock) (ns : Rat) : StClock :=
  let total := (((c.s * 1000000000 + c.ns) * 2 ^ 32 + c.frac : Nat) : Int) + (ns * ((2 ^ 32 : Nat) : Rat)).floor
  let u := total.toNat
  { c with frac := u % 2 ^ 32, ns := (u / 2 ^ 32) % 1000000000, s := ((u / 2 ^ 32) / 1000000000) % 2 ^ 48 }
/-- A step of a station clock: counted, raised, and SYNC cleared (R399, R400). -/
def Device.scStep (d : Device) (x : Nat) (step : Rat) (f : StClock → StClock) : Device :=
  let d := (d.setSc x fun c => { f c with stepped := true, steps := inc16 c.steps, goodRun := 0, stepRun := 0 }).hwSet (0x400100 + 0x100 * x) 0x10
  let (v, d) := d.quant step
  let d := d.raise "EV_SC_STEP" 4 0 x [(x : Int), v]
  d.scLose x true
/-- An increment in 2^-32 ns is applied, unless it lies more than sc[x].slew_max from 8.0 ns (R398). -/
def Device.scIncrement (d : Device) (x : Nat) (inc : Nat) : Device :=
  let nom : Rat := ((8 * 2 ^ 32 : Nat) : Rat)
  if Par.scSlewMax d.P x / 1000000 * nom < rabs ((inc : Rat) - nom) then (d.setSc x fun c => { c with incRej := true }).hwSet (0x400100 + 0x100 * x) 0x40
  else d.setSc x fun c => { c with incNs := inc / 2 ^ 32, incFrac := inc % 2 ^ 32 }
/-- The firmware servo on a Sync: it steps the clock or writes its increment (R398, R399). -/
def Device.servo (d : Device) (x : Nat) (offset : Rat) : Device :=
  let c := d.sc x
  let beyond := decide (Par.scStepThr d.P x * 1000 < rabs offset)
  let run := if beyond then c.stepRun + 1 else 0
  let d := d.setSc x fun c => { c with stepRun := run }
  if Par.scServo d.P x ≠ 0 then d
  else if (!c.everSync && beyond) || (c.everSync && Par.scStepEn d.P x && decide (4 ≤ run)) then d.scStep x (-offset) fun c => c.shift (-offset)
  else
    let (i, rate) := Config.servo (Par.scServoBw d.P x) c.servoRate offset
    let inc := (rround ((1 + rate / 1000000) * ((8 * 2 ^ 32 : Nat) : Rat))).toNat
    let d := d.setSc x fun c => { c with servoRate := i, incNsW := BitVec.ofNat 32 (inc / 2 ^ 32 % 16), incFracW := BitVec.ofNat 32 inc }
    d.scIncrement x inc
/-- A station clock becomes synchronised (R400). -/
def Device.scGain (d : Device) (x : Nat) : Device :=
  let d := d.setSc x fun c => { c with sync := true, everSync := true, holdover := false, marginUntil := none }
  let d := d.raise "EV_SC_SYNC" 4 0 x [(x : Int)]
  if d.clk.srcCommit = x + 1 && d.clk.src ≠ x + 1 then d.setClk fun c => { c with returnFrom := some d.now } else d
/-- An offset of the selected port reaches its clock: the servo, then the runs that decide synchronisation. -/
def Device.scOffset (d : Device) (x : Nat) (offset : Rat) : Device :=
  let d := d.setSc x fun c => { c with offset := offset }
  let steps := (d.sc x).steps
  let d := d.servo x offset
  if (d.sc x).steps ≠ steps then d else
  let good := decide (rabs offset ≤ Par.scSyncThr d.P x)
  let d := d.setSc x fun c => { c with goodRun := if good then c.goodRun + 1 else 0, badRun := if good then 0 else c.badRun + 1 }
  let c := d.sc x
  let blocked := c.marginBlock || (match c.marginUntil with
    | some u => decide (d.now < u)
    | none => false)
  if !c.sync && 8 ≤ c.goodRun && !blocked then d.scGain x
  else if c.sync && 4 ≤ c.badRun then d.scLose x false
  else d

/-! ## PTP (R394 to R396) -/

/-- The best master heard on a port by a clock. -/
def Device.bestOf (d : Device) (x port : Nat) : BestMaster := (d.net.best.getD x []).getD port BestMaster.reset
/-- Change it. -/
def Device.setBest (d : Device) (x port : Nat) (f : BestMaster → BestMaster) : Device := d.setNet fun n => { n with best := upd n.best x fun l => upd l port f }
/-- One data set is better: its first differing value is lower. -/
def rankLess : List Nat → List Nat → Bool
  | a :: as, b :: bs => if a = b then rankLess as bs else decide (a < b)
  | _, _ => false
/-- The clocks that track a domain. -/
def Device.tracking (d : Device) (dom : Nat) : List Nat := idx 2 fun x => Par.scEnable d.P x && Par.scDomain d.P x == dom
/-- The port that the best master clock algorithm selects, 0 for none; of equal data sets port 1. -/
def Device.choosePort (d : Device) (x : Nat) : Nat :=
  let a := d.bestOf x 0
  let b := d.bestOf x 1
  if a.heard && b.heard then (if rankLess b.rank a.rank then 2 else 1) else if a.heard then 1 else if b.heard then 2 else 0
/-- The selection is taken up: a change of port or grandmaster is raised; the clock goes on from its time and rate. -/
def Device.selectPort (d : Device) (x : Nat) : Device :=
  let p := d.choosePort x
  let c := d.sc x
  let b := d.bestOf x (p - 1)
  let gm := if p = 0 then c.gm else b.gm
  let d := if gm = (d.sc x).gm then d else d.hwSet (0x400100 + 0x100 * x) 0x20
  let d := d.setSc x fun c => { c with port := p, gm := gm, gmChanged := c.gmChanged || gm != c.gm, utc := if p = 0 then c.utc else b.utc }
  if p = c.port && gm = c.gm then d else d.raise "EV_SC_PORT_SWITCH" 4 0 x [(Par.scDomain d.P x : Int), (p : Int), (gm.toNat : Int)]
/-- PTP_ANNOUNCE: an Announce on a port feeds the best master clock algorithm of the clock that tracks its domain. rank holds the data set values in the order of comparison; utc, the UTC offset and its valid bit. -/
def execPtpAnnounce (t : Tick) (dom : Nat) (port : Fin 2) (src : BitVec 80) (gm : BitVec 64) (rank : List Nat) (interval : Rat) (utc : BitVec 17) (s : State) : Host.Outcome State Fault Refusal :=
  s.on t fun d =>
    if !d.portUp port then d else
    (d.tracking dom).foldl (fun d x =>
      let b := d.bestOf x port
      if b.heard && b.src ≠ src && !rankLess rank b.rank then d else
      let d := (d.setBest x port fun _ => { gm := gm, src := src, rank := rank, at_ := d.now, heard := true, utc := utc }).selectPort x
      if (d.sc x).port = port.val + 1 then d.setSc x fun c => { c with announceAt := d.now, announceInt := interval } else d) d
/-- DOMAIN_SILENT: no Announce from the selected master within 3 announce intervals: the domain is silent, its clock loses synchronisation, and the ports are judged anew (R396, R400). -/
def execDomainSilent (t : Tick) (x : Fin 2) (s : State) : Host.Outcome State Fault Refusal :=
  s.on t fun d =>
    let c := d.sc x
    if c.port = 0 || !d.pastBeyond c.announceAt (sT (3 * c.announceInt)) then d else
    let d := (d.setBest x (c.port - 1) fun b => { b with heard := false }).scLose x false
    let d := d.selectPort x
    d.setSc x fun c => { c with announceAt := d.now }
/-- The offset from the master that a Sync gives: ingress time less origin, correction, asymmetry and peer delay (R394). -/
def Device.syncOffset (d : Device) (port : Nat) (ts origin corr : Rat) : Rat :=
  ts - origin - corr - Par.portDelayAsym d.P (port + 1) - d.net.pdelay.getD port 0
/-- An offset measured on a port: the selected port feeds its clock, the passive one is kept. -/
def Device.takeOffset (d : Device) (x port : Nat) (offset : Rat) : Device :=
  if (d.sc x).port = port + 1 then d.scOffset x offset
  else d.setNet fun n => { n with passive := upd n.passive x fun l => upd l port fun _ => offset }
/-- PTP_SYNC: a Sync of the best master of a port; err is the error of the hardware timestamp. A two-step Sync is held for its Follow_Up (R394, R400). -/
def execPtpSync (t : Tick) (dom : Nat) (port : Fin 2) (src : BitVec 80) (seq : Nat) (twoStep : Bool) (origin corr err : Rat) (s : State) : Host.Outcome State Fault Refusal :=
  s.on t fun d =>
    (d.tracking dom).foldl (fun d x =>
      let b := d.bestOf x port
      if !d.portUp port || !b.heard || b.src ≠ src then d else
      let ts := (d.sc x).timeNs + err
      if twoStep then
        let h : TwoStep := { TwoStep.reset with dom := dom, port := port, seq := seq, src := src, ts := ts, corr := corr, at_ := d.now, own := true }
        d.setNet fun n => { n with held := n.held ++ [h] }
      else d.takeOffset x port (d.syncOffset port ts origin corr)) d
/-- A held Sync that a Follow_Up matches, within 1 s. -/
def Device.heldFor (d : Device) (own : Bool) (dom port seq : Nat) (src : BitVec 80) : Option TwoStep :=
  d.net.held.find? fun h => h.own == own && h.dom == dom && h.port == port && h.seq == seq && h.src == src && decide (((d.now : Rat) - (h.at_ : Rat)) ≤ sT 1)
/-- PTP_FOLLOW_UP: a Follow_Up completes the slave's two-step Sync, and in HSR mode passes on with the held residence added; one that matches no held Sync passes unchanged (R394, R395). -/
def execPtpFollowUp (t : Tick) (dom : Nat) (port : Fin 2) (src : BitVec 80) (seq : Nat) (mac : BitVec 48) (origin corr : Rat) (s : State) : Host.Outcome State Fault Refusal :=
  s.on t fun d =>
    if !d.portUp port then d else
    let fwd := d.heldFor false dom port seq src
    let mine := d.heldFor true dom port seq src
    let out := 1 - port.val
    let d := if Par.netMode d.P = 2 && d.portUp out && mac ≠ d.mac then
        let c := match fwd with
          | some h => corr + h.resid
          | none => corr
        let x : EthTx := { EthTx.reset with port := out, kind := 6, seq := seq, src := mac, corr := c }
        d.setNet fun n => { n with fwd := inc32 n.fwd, tx := x :: n.tx }
      else d
    let d := d.setNet fun n => { n with held := n.held.filter fun h => !(h.dom == dom && h.port == port.val && h.seq == seq && h.src == src) }
    match mine with
    | none => d
    | some h => (d.tracking dom).foldl (fun d x => d.takeOffset x port (d.syncOffset port h.ts origin (h.corr + corr))) d
/-- PDELAY_REQ: a Pdelay_Req is answered one-step with the turnaround time in the correctionField (R394). -/
def execPdelayReq (t : Tick) (port : Fin 2) (src : BitVec 48) (seq : Nat) (corr turn : Rat) (s : State) : Host.Outcome State Fault Refusal :=
  s.on t fun d =>
    if Par.netMode d.P = 0 || !d.portUp port then d else
    let x : EthTx := { EthTx.reset with port := port, kind := 4, seq := seq, dst := src, src := d.mac, corr := corr + turn, vlan := d.vlanTag (Par.netPcpPtp d.P), queue := queueOf ((d.vlanTag (Par.netPcpPtp d.P)).map Prod.snd) }
    d.setNet fun n => { n with tx := x :: n.tx }
/-- PDELAY_REQ_INTERVAL: the device's own Pdelay_Req on each port, the passive one included (R394, R396). -/
def execPdelayReqInterval (t : Tick) (s : State) : Host.Outcome State Fault Refusal :=
  s.on t fun d =>
    if Par.netMode d.P = 0 then d else
    let q := d.net.pdSeq
    let l := d.portsUp.map fun p => { EthTx.reset with port := p, kind := 3, seq := q, src := d.mac, vlan := d.vlanTag (Par.netPcpPtp d.P), queue := queueOf ((d.vlanTag (Par.netPcpPtp d.P)).map Prod.snd) }
    d.setNet fun n => { n with pdReq := n.pdReq.mapIdx fun p r => if d.portUp p then some (q, d.now) else r
                               pdSeq := (q + 1) % 65536, tx := l ++ n.tx }
/-- PDELAY_RESP_RECEIVED: the answer to the device's own Pdelay_Req gives the peer delay of its port: half of the turn less the correction; err is the error of the two timestamps (R394, R396). -/
def execPdelayRespReceived (t : Tick) (port : Fin 2) (seq : Nat) (corr err : Rat) (s : State) : Host.Outcome State Fault Refusal :=
  s.on t fun d =>
    match d.net.pdReq.getD port none with
    | none => d
    | some (q, at_) =>
      if q ≠ seq then d else
      let turn := ((d.now - at_ : Nat) : Rat) * 5 / 4 + err
      d.setNet fun n => { n with pdReq := upd n.pdReq port fun _ => none, pdelay := upd n.pdelay port fun _ => (turn - corr) / 2 }

/-! ## Host access to the station clocks (R398, R399, R406) -/

/-- SC_TIME_READ: a read of SCx_TIME_NS latches the seconds words. -/
def execScTimeRead (t : Tick) (x : Fin 2) (s : State) : Host.Outcome State Fault Refusal :=
  s.on t fun d => (d.setSc x fun c => { c with timeSL := word32 c.s 0, timeSH := BitVec.ofNat 32 (c.s / 2 ^ 32 % 2 ^ 16) }).answer (d.sc x).ns
/-- A host write to SCx_INC_, SCx_SET_ or SCx_CTRL: with the firmware servo it is ignored and counted (R398). -/
def Device.scHost (d : Device) (x : Nat) (f : Device → Device) : Device := if Par.scServo d.P x = 1 then f d else d.hostErr
/-- SC_INCREMENT_WRITE: a write to SCx_INC_FRAC applies both words at the next tick. -/
def execScIncrementWrite (t : Tick) (x : Fin 2) (frac : BitVec 32) (s : State) : Host.Outcome State Fault Refusal :=
  s.on t fun d => d.scHost x fun d =>
    let d := d.setSc x fun c => { c with incFracW := frac }
    d.scIncrement x (((d.sc x).incNsW.toNat % 16) * 2 ^ 32 + frac.toNat)
/-- SC_APPLY_SET: SCx_CTRL bit 0 sets the time to the SCx_SET_ words, with the fraction 0; with both bits set only the set is applied. -/
def execScApplySet (t : Tick) (w : Fin 2 × BitVec 32) (s : State) : Host.Outcome State Fault Refusal :=
  s.on t fun d => (d.reserved w.2 3).scHost w.1 fun d =>
    let c := d.sc w.1
    let sec := (c.setSH.toNat % 2 ^ 16) * 2 ^ 32 + c.setSL.toNat
    let ns := c.setNs.toNat % 2 ^ 30
    let step : Rat := ((sec * 1000000000 + ns : Nat) : Rat) - c.timeNs
    d.scStep w.1 step fun c => { c with s := sec + ns / 1000000000, ns := ns % 1000000000, frac := 0 }
/-- SC_APPLY_STEP: SCx_CTRL bit 1, with bit 0 clear, adds the signed nanoseconds of SCx_ADJ. -/
def execScApplyStep (t : Tick) (w : Fin 2 × BitVec 32) (s : State) : Host.Outcome State Fault Refusal :=
  s.on t fun d => (d.reserved w.2 3).scHost w.1 fun d =>
    if !w.2.getLsbD 1 then d else
    let n := (d.sc w.1).adj.toInt
    d.scStep w.1 (n : Rat) fun c => c.shift (n : Rat)

end Sys2Proof.Machine
end

