-- ==== Sys2Proof/Machine/Recorder.lean ====
section
/-! DEFINITION. The disturbance recorder (R407 to R432): Soffit, frames, records, triggers' registration, stops and arms, with the meanings of their commands. -/

namespace Sys2Proof.Machine

/-! ## Sizes (R410, R415) -/

/-- Bytes of a capture group, for the 100 ns steps of a cycle (Table 15-1). -/
def groupSize (ts : Nat) : Nat → Nat
  | 0 => 256
  | 1 => 256
  | 2 => 128
  | 3 => 9280
  | 4 => 7680
  | 5 => 64 * ts
  | 6 => (16 * ts + 63) / 64 * 64
  | 7 => 256
  | 8 => 256
  | _ => 0

/-- The frame size F. -/
def frameSize (groups ts : Nat) : Nat := 64 + (((List.range 9).filter fun b => bit groups b).map fun b => groupSize ts b).sum

/-- Frames a segment holds, fps. -/
def framesPerSegment (f : Nat) : Nat := 1048576 / f

/-- 100 ns steps of a cycle, TC_STEPS. -/
def Device.ts (d : Device) : Nat := d.tc / 80

/-- F of the configuration in force. -/
def Device.recF (d : Device) : Nat := frameSize (Par.recGroups d.P) d.ts

/-- The most frames a record may hold: C − S. -/
def recLimit (f : Nat) : Nat := 2046 * framesPerSegment f

/-- The lengths in force P and Q, with POST_CLAMPED and PRE_CUT (R415). -/
def recLengths (lim pre post : Nat) : Nat × Nat × Bool × Bool :=
  if lim < post then (0, lim, true, false)
  else if lim < pre + post then (lim - post, post, false, true)
  else (pre, post, false, false)

/-- Where the frame at slot position j lies in Soffit (R411). -/
def frameAddr (f j : Nat) : Nat :=
  let fps := framesPerSegment f
  (1 + j / fps % 2047) * 2 ^ 20 + j % fps * f

/-! ## Frames (Tables 15-1 and 15-2) -/

/-- The first n words of a list as bytes, zeros where it ends. -/
def wordBytes (n : Nat) (l : List (BitVec 32)) : List (BitVec 8) := (List.range n).flatMap fun i => leBytes 4 (l.getD i 0).toNat

/-- Every state of the DIGITAL word in a span: the one it begins with, and the changes after. -/
def digStates (log : List (Tick × BitVec 128)) (t0 t1 : Tick) : List (BitVec 128) :=
  let start := (log.find? fun x => decide (x.1 ≤ t0)).map fun x => x.2
  start.toList ++ (log.filter fun x => decide (t0 < x.1) && decide (x.1 < t1)).map fun x => x.2

/-- The bits that were 1 at any sample of a span. -/
def digOr (log : List (Tick × BitVec 128)) (t0 t1 : Tick) : BitVec 128 := (digStates log t0 t1).foldl (· ||| ·) 0

/-- A cell that exists in the configuration. -/
def Device.cellUsed (d : Device) (c : Nat) : Bool := Par.ringArm d.P (c / 32) != 3 && decide (c % 32 < Par.ringCellsExpected d.P (c / 32))

/-- The cells whose status slot is missing in a frame. -/
def Device.missingOf (d : Device) (f : RecFrame) : List Nat := idx 384 fun c => d.cellUsed c && !(f.status.any fun x => x.1 == c)

/-- A command slot with its CRC-16, as launched in cycle k; an empty one carries the inverse (R303). -/
def schedSlot (k c : Nat) (w : BitVec 144) : List (BitVec 8) :=
  let b := leBytes 18 w.toNat
  let crc := crc16 (recPrefix (k % 65536) (c / 32) ++ leBytes 1 (c % 32) ++ b)
  b ++ leBytes 2 (if w = 0 then 0xFFFF - crc else crc)

/-- The bytes of a capture group of a frame. -/
def Device.groupBytes (d : Device) (f : RecFrame) : Nat → List (BitVec 8)
  | 0 => (List.range 64).flatMap fun x => leBytes 4 (trunc 32 (f.streams.getD x 0))
  | 1 => wordBytes 64 f.law
  | 2 => wordBytes 32 f.arms
  | 3 => leBytes 48 (ofBits ((List.range 384).map fun c => (d.missingOf f).contains c)) ++ List.replicate 16 (0 : BitVec 8) ++
      (List.range 384).flatMap fun c => match f.status.lookup c with
        | some w => leBytes 24 w.toNat
        | none => List.replicate 24 0
  | 4 => (List.range 384).flatMap fun c => match f.sched.lookup c with
        | some w => schedSlot f.k c w
        | none => List.replicate 20 0
  | 5 => (List.range 16).flatMap fun n => (List.range d.ts).flatMap fun i =>
      leBytes 4 (((f.raw.find? fun (x : Nat × Nat × BitVec 32) => x.1 == n && x.2.1 == i).map fun (x : Nat × Nat × BitVec 32) => x.2.2).getD 0).toNat
  | 6 =>
    let l := (List.range d.ts).flatMap fun i => leBytes 16 (digOr d.recd.digLog (f.eK + 80 * i) (f.eK + 80 * i + 80)).toNat
    l ++ List.replicate (groupSize d.ts 6 - l.length) 0
  | 7 => (List.range 64).flatMap fun i => leBytes 4 ((f.gust.lookup i).getD 0xFFFFFFFF).toNat
  | 8 => wordBytes 64 f.reduce
  | _ => []

/-- The triggers met in a cycle, bit x for trigger x. -/
def Device.trigsIn (d : Device) (t0 t1 : Tick) : Nat :=
  ofBits ((List.range 17).map fun x => d.recd.regd.any fun h => h.trig == x && decide (t0 ≤ h.ctb) && decide (h.ctb < t1))

/-- A frame's bytes: header and the selected groups in ascending bit order (R410). -/
def Device.frameBytes (d : Device) (f : RecFrame) (trigger : Bool) : List (BitVec 8) :=
  let groups := Par.recGroups d.P
  let w := digOr d.recd.digLog f.eK (f.eK + d.tc)
  let missing := bit groups 3 && !(d.missingOf f).isEmpty
  let flags := ofBits [trigger, missing, w.getLsbD 58, w.getLsbD 59, f.maskViol, !f.gust.isEmpty]
  leBytes 8 f.eK ++ leBytes 6 f.k ++ leBytes 1 f.state ++ leBytes 1 flags ++ leBytes 8 f.valid.toNat ++
    leBytes 4 (d.trigsIn f.eK (f.eK + d.tc)) ++ leBytes 2 f.redDone.toNat ++ leBytes 2 groups ++ leBytes 4 d.recF ++ List.replicate 28 0 ++
    ((List.range 9).filter fun b => bit groups b).flatMap fun b => d.groupBytes f b

/-! ## A record's header (R424, R425, Table 15-6) -/

/-- Flag bit of a header. -/
def RecHdr.flag (r : RecHdr) (i : Nat) : Bool := r.flags.getLsbD i
/-- A header with a flag at a value. -/
def RecHdr.setFlag (r : RecHdr) (i : Nat) (b : Bool) : RecHdr :=
  { r with flags := if b then r.flags ||| (1#32 <<< i) else r.flags &&& ~~~(1#32 <<< i) }
/-- Conditions in the trigger sample. -/
def RecHdr.inSample (r : RecHdr) : List TrigHit := r.hits.filter fun h => sampleStart h.ctb == r.sample
/-- Conditions after the trigger sample. -/
def RecHdr.later (r : RecHdr) : List TrigHit := r.hits.filter fun h => decide (r.sample < sampleStart h.ctb)
/-- The primary: the lowest-numbered trigger of action 1 in the trigger sample (R420). -/
def RecHdr.primary (r : RecHdr) : Nat := ((r.inSample.filter TrigHit.opens).map TrigHit.trig).foldl min 16
/-- The mask of a list of conditions. -/
def hitMask (l : List TrigHit) : Nat := ofBits ((List.range 17).map fun x => l.any fun h => h.trig == x)
/-- The trigger list: the primary, the rest of its sample by number, then later conditions by sample; at most 8. -/
def RecHdr.list (r : RecHdr) : List (TrigHit × Bool × Bool) :=
  let p := r.primary
  let s := orderBy (fun a b => decide (a.trig ≤ b.trig)) r.inSample
  let first := (s.filter fun h => h.trig == p) ++ s.filter fun h => h.trig != p
  ((first.map fun h => (h, true, h.trig == p)) ++ (orderBy (fun a b => decide (sampleStart a.ctb ≤ sampleStart b.ctb)) r.later).map fun h => (h, false, false)).take 8
/-- One entry of the trigger list. -/
def hitBytes (x : TrigHit × Bool × Bool) : List (BitVec 8) :=
  leBytes 2 x.1.trig ++ leBytes 1 x.1.kind ++ leBytes 1 (ofBits [x.2.1, x.2.2]) ++ leBytes 8 x.1.ctb ++ leBytes 4 (trunc 32 x.1.value)
/-- The header's 256 bytes. -/
def RecHdr.bytes (r : RecHdr) : List (BitVec 8) :=
  let lastJ := max r.firstJ (r.trigJ + r.post - 1)
  let list := r.list.flatMap hitBytes
  let b : List (BitVec 8) := [0x47, 0x58, 0x52, 0x44] ++ leBytes 2 1 ++ leBytes 2 256 ++ leBytes 4 r.num ++ leBytes 4 r.flags.toNat ++
    leBytes 8 r.sample ++ leBytes 6 r.cyc ++ leBytes 2 r.primary ++ leBytes 4 (hitMask r.inSample) ++ leBytes 4 (hitMask r.later) ++
    leBytes 4 r.later.length ++ leBytes 4 r.pre ++ leBytes 4 r.post ++ leBytes 4 r.preCfg ++ leBytes 4 r.postCfg ++ leBytes 4 r.f ++
    leBytes 2 r.fps ++ leBytes 2 r.tc ++ leBytes 2 r.groups ++ leBytes 2 0 ++
    leBytes 4 (1 + r.firstJ / r.fps % 2047) ++ leBytes 2 (r.firstJ % r.fps) ++ leBytes 2 0 ++ leBytes 4 (lastJ / r.fps - r.firstJ / r.fps + 1) ++
    leBytes 8 r.eFirst ++ leBytes 8 r.eLast ++ leBytes 6 r.scS ++ leBytes 4 r.scNs ++ leBytes 1 r.scSync.toNat ++ leBytes 1 0 ++
    list ++ List.replicate (128 - list.length) 0 ++ leBytes 8 r.digest.toNat ++ leBytes 4 r.gen
  b ++ leBytes 4 (crc32 b)
/-- The number of the newest record opened. -/
def Rec.newest (r : Rec) : Nat := if r.cur.isSome then r.recNum else (2 ^ 32 - 1 + r.recNum) % 2 ^ 32
/-- Write a header into its index entry, its generation risen; an entry that a newer record has taken stays (R424). -/
def Device.writeHeader (d : Device) (r : RecHdr) : RecHdr × Device :=
  let r := { r with gen := (r.gen + 1) % 2 ^ 32 }
  if 256 ≤ (2 ^ 32 + d.recd.newest - r.num) % 2 ^ 32 then (r, d)
  else (r, d.soffitWrite (r.num % 256 * 4096) (r.bytes ++ List.replicate 3840 0))

/-! ## Opening and following a record (R414, R416, R420) -/

/-- Cycles from the oldest frame in the making to the cycle that holds an instant. -/
def Device.cycleOff (d : Device) (t : Tick) : Int :=
  match d.recd.frames.head? with
  | some f => ((t : Int) - (f.eK : Int)) / (max d.tc 1 : Nat)
  | none => 0
/-- The slot position of the frame of the cycle that holds an instant. -/
def Device.frameJ (d : Device) (t : Tick) : Nat := ((d.recd.wrJ : Int) + d.cycleOff t).toNat
/-- The time of SC-A at an instant, in whole ns. -/
def Device.scAt (d : Device) (t : Tick) : Nat :=
  let c := d.net.clocks.getD 0 StClock.reset
  ((c.timeNs - (((d.now : Rat) - (t : Rat)) * 5 / 4)).floor).toNat
/-- The part of a record that follows from its conditions: trigger sample and frame, pre-trigger frames, and the post-trigger frames with every extension (R414, R416). -/
def Device.recLayout (d : Device) (r : RecHdr) : RecHdr :=
  let opening := r.hits.filter fun h => h.opens && decide (d.recd.armedAt ≤ h.ctb)
  match opening with
  | [] => r
  | h :: t =>
    let ctb := t.foldl (fun m x => min m x.ctb) h.ctb
    let trigJ := max (d.frameJ ctb) d.recd.armAt
    let pre := min d.recd.p (trigJ - d.recd.armAt)
    let most := recLimit r.f - d.recd.p
    let want := opening.foldl (fun m x => max m (d.frameJ x.ctb - trigJ + d.recd.q)) d.recd.q
    let ext := Par.recRetrig d.P == 1
    let e0 : Int := (((d.recd.frames.head?).map RecFrame.eK).getD d.now : Nat)
    let eTrig : Int := e0 + d.cycleOff ctb * (d.tc : Int)
    let k0 : Int := (((d.recd.frames.head?).map RecFrame.k).getD d.cycle.k : Nat)
    let sc := d.scAt (sampleStart ctb)
    let r := { r with
      sample := sampleStart ctb, cyc := (k0 + d.cycleOff ctb).toNat, trigJ := trigJ, pre := pre, firstJ := trigJ - pre
      target := if ext then min want most else d.recd.q
      eFirst := (eTrig - (pre * d.tc : Nat)).toNat, scS := sc / 1000000000, scNs := sc % 1000000000 }
    (r.setFlag 4 (decide (pre < d.recd.p))).setFlag 5 (ext && decide (most < want))
/-- The count and the last E of the post-trigger frames recorded. -/
def Device.recPost (d : Device) (r : RecHdr) : RecHdr :=
  let post := min r.target (d.recd.wrJ - r.trigJ)
  { r with post := post, eLast := r.eFirst + (r.pre + post - 1) * d.tc }
/-- A record opens with the conditions of its trigger sample (R413, R420). -/
def Device.openRecord (d : Device) (h : TrigHit) : Device :=
  let s := sampleStart h.ctb
  let f := d.recF
  let r0 : RecHdr := { RecHdr.reset with
    num := d.recd.recNum, hits := d.recd.regd.filter fun x => sampleStart x.ctb == s
    preCfg := PSet.nat d.par.committed 0x10000002 2500, postCfg := PSet.nat d.par.committed 0x10000003 25000
    f := f, fps := framesPerSegment f, tc := d.ts, groups := Par.recGroups d.P
    scSync := (d.net.clocks.getD 0 StClock.reset).sync
    digest := packBytes 64 (shake256 (Config.setBytes (d.par.committed.filter fun x => x.1 / 2 ^ 24 == 0x10)) 8) }
  let r := d.recPost (((((d.recLayout r0).setFlag 1 true).setFlag 2 d.recd.postClamped).setFlag 3 d.recd.preCut))
  let d := d.setRec fun x => { x with cur := some r, preShort := r.flag 4 }
  let (r, d) := d.writeHeader r
  let d := (d.setRec fun x => { x with cur := some r }).recState 2
  d.raise "EV_REC_START" 9 0 0 [(r.num : Int), (r.primary : Int)]
/-- A further condition in POST: the record follows it (R416, R425). -/
def Device.followRecord (d : Device) (h : TrigHit) : Device :=
  match d.recd.cur with
  | none => d
  | some r =>
    let r := d.recLayout { r with hits := r.hits ++ [h] }
    d.setRec fun x => { x with cur := some r, preShort := r.flag 4 }

/-! ## Registration (R417, R419, R420) -/

/-- A condition counts: its qualifier was met in the same sample or within qual_win before it (R419). -/
def Device.qualified (d : Device) (x : Nat) (at_ : Tick) : Bool :=
  let q := Par.recTrigQual d.P x
  if x = 16 || q = 255 then true else
  (d.recd.lastMet.getD q []).any fun (s : Tick) =>
    sampleStart s == sampleStart at_ || (decide (s ≤ at_) && decide (((at_ : Rat) - (s : Rat)) ≤ usT (Par.recTrigQualWin d.P x)))
/-- A condition is registered: REC_TRIG_MET, the masks it starts, and the record that it opens or that follows it. -/
def Device.register (d : Device) (x : Nat) (at_ : Tick) (v : Int) : Device :=
  if !d.qualified x at_ then d else
  let h : TrigHit := { trig := x, kind := if x = 16 then 0 else Par.recTrigType d.P x, opens := x == 16 || Par.recTrigAction d.P x == 1, ctb := at_, value := v }
  let again := d.recd.regd.any fun y => y.trig == x && sampleStart y.ctb == sampleStart at_
  let d := ((d.setRec fun r => { r with trigMet := r.trigMet ||| (1#17 <<< x) }).hwSet 0x300024 (2 ^ x)).maskStart 1 x
  if again then d else
  let d := d.setRec fun r => { r with regd := r.regd ++ [h] }
  if d.recd.state = 1 && h.opens && d.recd.armedAt ≤ at_ then d.openRecord h
  else if d.recd.state = 2 then d.followRecord h
  else d
/-- The earliest condition that waits and whose instant has come. -/
def earliestCond (l : List (Nat × Tick × Int)) (now : Tick) : Option (Nat × Tick × Int) :=
  (l.filter fun c => decide (c.2.1 ≤ now)).foldl (fun (best : Option (Nat × Tick × Int)) c => match best with
    | none => some c
    | some b => if c.2.1 < b.2.1 then some c else best) none
/-- TRIGGER_CONDITION: the earliest condition that waits is registered (R420); timeouts that have come due are met first. -/
def execTriggerCondition (t : Tick) (s : State) : Host.Outcome State Fault Refusal :=
  s.on t fun d =>
    let d := d.trigTimeouts
    match earliestCond d.recd.conds d.now with
    | none => d
    | some c => (d.setRec fun r => { r with conds := r.conds.erase c }).register c.1 c.2.1 c.2.2

/-! ## Arming and stopping (R413, R415) -/

/-- The frame of the cycle in progress alone is kept. -/
def lastFrame (l : List RecFrame) : List RecFrame := l.drop (l.length - 1)
/-- Lengths in force and new windows, at every arm. -/
def Device.recArm (d : Device) : Device :=
  let (p, q, clamped, cut) := recLengths (recLimit d.recF) (Par.recPreFrames d.P) (Par.recPostFrames d.P)
  let d := d.setRec fun r => { r with
    p := p, q := q, postClamped := clamped, preCut := cut, preShort := false, armedAt := d.now, stopPend := false, stopMask := false
    reds := r.reds.map fun x => { RedChan.reset with last := x.last } }
  let d := d.recState 1
  if clamped || cut then d.raise "EV_REC_CLAMP" 9 0 0 [(p : Int), (q : Int)] else d
/-- The arm that starts continuous capture: it begins at the slot after the last frame written, in a new segment where F changed (R411). -/
def Device.recArmAfresh (d : Device) : Device :=
  let f := d.recF
  let place := fun (r : Rec) =>
    if r.fInForce = f then r.wrJ else
    let fps := framesPerSegment r.fInForce
    (r.wrJ + fps - 1) / fps * framesPerSegment f
  (d.setRec fun r => { r with armAt := place r, wrJ := place r, fInForce := f, frames := lastFrame r.frames, missJ := [] }).recArm
/-- Close the record in progress, ABORTED (R413). -/
def Device.recAbort (d : Device) : Device :=
  match d.recd.cur with
  | none => d
  | some r =>
    let (_, d) := d.writeHeader (((d.recPost r).setFlag 1 false).setFlag 7 true)
    (d.setRec fun x => { x with cur := none, recNum := (x.recNum + 1) % 2 ^ 32 }).raise "EV_REC_ABORT" 9 0 0 [(r.num : Int)]
/-- Capture stops: a record in progress is aborted, and the recorder goes to IDLE (0) or STOPPED (3). -/
def Device.recStop (d : Device) (st : Nat) : Device :=
  let d := d.recAbort.setRec fun r => { r with stopPend := false, stopMask := false, frames := lastFrame r.frames }
  d.recState st

/-! ## Writing a frame, completing a record (R410, R413, R424, R431) -/

/-- The last post-trigger frame of the record in progress has been written: it completes, and the recorder goes on, rests or stops. -/
def Device.recComplete (d : Device) : Device :=
  match d.recd.cur with
  | none => d
  | some r =>
    if d.recd.wrJ < r.trigJ + r.target then d else
    let some_ := d.recd.missJ.any fun j => decide (r.firstJ ≤ j) && decide (j < r.trigJ + r.target)
    let (r, d) := d.writeHeader (((((d.recPost r).setFlag 1 false).setFlag 0 true).setFlag 6 d.recd.stopMask).setFlag 9 some_)
    let d := d.setRec fun x => { x with cur := none, recNum := (x.recNum + 1) % 2 ^ 32, records := inc32 x.records, past := r :: x.past }
    let d := d.raise "EV_REC_DONE" 9 0 0 [(r.num : Int)]
    if d.recd.stopPend then d.recStop 3 else if Par.recAutoRearm d.P then d.recArm else d.recStop 0
/-- Completed records whose first segment capture reuses with the frame now written: each is marked OVERWRITTEN and reported. -/
def Device.recOverwrite (d : Device) : Device :=
  let seg := d.recd.wrJ / framesPerSegment d.recd.fInForce
  let gone := d.recd.past.filter fun r => decide (r.firstJ / r.fps + 2047 ≤ seg)
  gone.foldl (fun d r =>
    let (_, d) := d.writeHeader (r.setFlag 8 true)
    (d.setRec fun x => { x with past := x.past.erase r }).raiseRated "EV_REC_OVERWRITTEN" 9 0 0 [(r.num : Int)]) d
/-- Write the oldest frame. -/
def Device.recWrite (d : Device) (f : RecFrame) : Device :=
  let j := d.recd.wrJ
  let trigger := (d.recd.cur.map fun r => r.trigJ == j).getD false
  let missing := bit (Par.recGroups d.P) 3 && !(d.missingOf f).isEmpty
  let d := (d.recOverwrite.soffitWrite (frameAddr d.recd.fInForce j) (d.frameBytes f trigger)).setRec fun r => { r with
    frames := r.frames.drop 1, wrJ := j + 1
    missing := if missing then inc32 r.missing else r.missing
    missJ := if missing then j :: r.missJ.filter (fun x => decide (j < x + 2047 * framesPerSegment r.fInForce)) else r.missJ }
  (d.pmcPulse 6 3 1).recComplete
/-- RECORDER_FRAME_WRITE: frame k is written after E(k + 2); a capture write check that fails is reported (R410, code 0x0070). -/
def execRecorderFrameWrite (t : Tick) (bad : Bool) (s : State) : Host.Outcome State Fault Refusal :=
  s.on t fun d =>
    match d.capturing, d.recd.frames with
    | true, f :: _ =>
      if d.cycle.k < f.k + 2 then d
      else if bad then d.errReport 0x0070 7 0 0 0
      else d.recWrite f
    | _, _ => d
/-- SOFFIT_MEMORY_TEST_DONE: the background test ends; a failing one is reported (R413, R354, code 0x0070). -/
def execSoffitMemoryTestDone (t : Tick) (pass : Bool) (s : State) : Host.Outcome State Fault Refusal :=
  s.on t fun d =>
    if d.recd.state ≠ 4 || d.recd.failed || d.recd.memTested || !d.conv.booted || d.conv.devReset then d
    else if !pass then (d.raise "EV_SELFTEST_FAIL" 0 0 7 [7, 0]).errReport 0x0070 7 0 0 0
    else
      let d := (d.setConv fun c => { c with dies := c.dies ||| 0x80 }).setRec fun r => { r with memTested := true }
      if Par.recArmAtStart d.P then d.recArmAfresh else d.recState 0

/-! ## Commands (R428) -/

/-- CMD_REC_ARM. -/
def execCmdRecArm (t : Tick) (h : CmdHdr) (a : Args) (s : State) : Host.Outcome State Fault Refusal :=
  s.on t fun d => d.cmd h a [] fun d =>
    if d.recd.state = 4 then ends d (if d.recd.failed then .refused 1 else .busy)
    else if d.capturing then ends d .busy
    else
      let d := d.recArmAfresh
      ends d (.ok (d.recd.p + 2 ^ 32 * d.recd.q))
/-- CMD_REC_STOP: now, or after the record in progress. -/
def execCmdRecStop (t : Tick) (h : CmdHdr) (a : Args) (s : State) : Host.Outcome State Fault Refusal :=
  s.on t fun d =>
    let mode := arg a 8 1
    d.cmdIf h a [(8, 1)] (firstBad [(8, decide (1 < mode))]) fun d =>
      let num := match d.recd.cur with
        | some r => r.num
        | none => 0xFFFFFFFF
      if mode = 0 then ends (if d.capturing then d.recStop 3 else d) (.ok num)
      else ends (if d.recd.state = 2 then d.setRec fun r => { r with stopPend := true } else d) (.ok num)
/-- CMD_REC_TRIGGER: the condition of trigger 16 is met now. -/
def execCmdRecTrigger (t : Tick) (h : CmdHdr) (a : Args) (s : State) : Host.Outcome State Fault Refusal :=
  s.on t fun d => d.cmd h a [] fun d =>
    let armed := d.recd.state == 1
    let num := d.recd.recNum
    let d := d.setRec fun r => { r with lastMet := upd r.lastMet 16 fun l => noteMet l d.now }
    let d := d.register 16 d.now 0
    ends d (.ok (if armed && d.recd.state == 2 then num else 0xFFFFFFFF))
/-- CMD_REC_MASK_START: REFUSED when the mask is off; a run of a mask with host start begins at the next E (R422). -/
def execCmdRecMaskStart (t : Tick) (h : CmdHdr) (a : Args) (s : State) : Host.Outcome State Fault Refusal :=
  s.on t fun d =>
    let m := arg a 8 1
    d.cmdIf h a [(8, 1)] (firstBad [(8, decide (3 < m))]) fun d =>
      if !Par.recMaskEnable d.P m then ends d (.refused 1) else
      let one := fun (x : MaskRun) => if Par.recMaskStart d.P m = 2 && !x.running && x.startAt.isNone then { x with startAt := some d.now } else x
      ends (d.setRec fun r => { r with masks := upd r.masks m one }) (.ok 0)

/-! ## Readout (R409, R426) -/

/-- BAR2_READOUT: Soffit bytes through the window; ce words were corrected, ue were not, and then the completion is poisoned. A write is ignored and counted. -/
def execBar2Readout (t : Tick) (write : Bool) (offset : BitVec 30) (len : Nat) (ce ue : Nat) (s : State) : Host.Outcome State Fault Refusal :=
  s.on t fun d =>
    if write then d.hostErr else
    let bytes := d.soffit (d.recd.win * 2 ^ 20 + offset.toNat) len
    let d := d.setHost fun h => { h with replyBytes := bytes, poisoned := ue != 0 }
    let d := d.pmcPulse 6 2 ce
    let d := d.setRec fun r => { r with ecCe := sat32 (r.ecCe + ce), ecUe := sat32 (r.ecUe + ue) }
    let d := (List.range ce).foldl (fun d _ => d.errReport 0x0072 7 0 0 0) d
    (List.range ue).foldl (fun d _ => d.errReport 0x0071 7 0 0 0) d

end Sys2Proof.Machine
end

