-- ==== Sys2Proof/Machine/Converter.lean ====
section
/-! DEFINITION. Converter states and service levels (R355 to R365): the level, the transitions of Table 12-5, their priority at a boundary, the starts of enumeration and of the charge sequence. -/

namespace Sys2Proof.Machine

/-! ## Service levels (R356) -/

/-- Dies 0 to 6 of which one has failed its bring-up or in operation. -/
def Device.coreFailed (d : Device) : Bool :=
  (List.range 7).any fun i => !d.conv.dies.getLsbD i || d.conv.failed.getLsbD i
/-- The level that holds and its cause: 1 die failed, 2 fall-back, 3 Bailsil safe hold, 4 fatal error, 5 arm redundancy, 6 ring excluded, 0 none. -/
def Device.levelNow (d : Device) : Nat × Nat :=
  if d.coreFailed then (2, 1)
  else if d.safety.fallback then (2, 2)
  else if d.safety.safeHold then (2, 3)
  else if d.conv.fatal then (2, 4)
  else if d.modu.arms.any fun a => a.redund != 0 then (1, 5)
  else if d.conv.ringx != 0 then (1, 6)
  else (0, 0)
/-- The level at a boundary; a change raises EV_SERVICE_LEVEL. -/
def Device.levelUpdate (d : Device) : Device :=
  if !d.conv.up then d else
  let (new, cause) := d.levelNow
  let old := d.conv.level
  if new = old then d else (d.setConv fun c => { c with level := new }).raise "EV_SERVICE_LEVEL" 0 8 0 [(old : Int), (new : Int), (cause : Int)]

/-! ## The charge sequence's end (R359) -/

/-- The charge sequence runs, from the request that started it. -/
def Device.charging (d : Device) : Bool := d.conv.state == stStandby && decide (5 ≤ d.conv.phase)
/-- The charge sequence fails: back to STANDBY. Causes: 1 arm undervoltage, 2 a voltage outside st.pc_tol, 3 a Squall, 4 a change of the MB position. -/
def Device.chargeFail (d : Device) (cause : Nat) : Device :=
  if !d.charging then d else
  let ph := d.conv.phase
  (d.setConv fun c => { c with phase := 0, failPhase := ph, resumeDue := false, pcStep := 0, phaseCyc := 0 }).raise "EV_CHARGE_FAIL" 0 8 0 [(ph : Int), (cause : Int)]

/-! ## Transitions (R361) -/

/-- The active entries that feed a stream in the cycle and auxiliary sequences of a set: converter, table and place. -/
def feedsOf (ps : PSet) (x : Nat) : List (Nat × Nat × Nat) :=
  (List.range 16).flatMap fun n =>
    let pos := fun (tbl : Nat) (l : List Nat) => ((List.range l.length).filter fun e => seqStream (l.getD e 0) == x).map fun e => (n, tbl, e)
    pos 0 (activeEntries (cycTable ps n)) ++ pos 1 (activeEntries ((auxTable ps n).take (Par.measAdcAuxLen ps n)))
/-- What new values in force bring to the measurement chain: streams settle again whose filter or feeding entry changed, groups whose reference changed, comparators load their spare DACs (R57, R61, R67). -/
def Device.newForce (d : Device) (old : PSet) : Device :=
  let new := d.P
  if new = old then d else
  let d := d.trigRestart old
  let shape := fun (ps : PSet) (x : Nat) => (Par.measStreamRankWin ps x, Par.measStreamRank ps x, Par.measStreamResp ps x)
  let d := (List.range 64).foldl (fun (d : Device) x =>
    if shape new x != shape old x || (feedsOf new x).any (fun e => !(feedsOf old x).contains e) then d.setStrm x Stream.restart else d) d
  let d := (List.range 4).foldl (fun (d : Device) g =>
    if Par.measGroupRefSel new g = Par.measGroupRefSel old g then d
    else (idx 12 fun j => j / 4 == g).foldl Device.evalCmp (d.setGrp g fun x => { x with settled := false, settling := true, settleStart := d.now, fault := false })) d
  let thr := fun (ps : PSet) (j : Nat) => [Par.measCmpFastLo ps j, Par.measCmpFastHi ps j, Par.measCmpHardLo ps j, Par.measCmpHardHi ps j]
  (List.range 12).foldl (fun (d : Device) j => if thr new j = thr old j then d else d.setCmp j fun c => { c with switchFrom := some d.now }) d
/-- Items that take effect at a transition, Tc among them; a recorder that captures goes to IDLE when Tc changes (R11, R22, R413). -/
def Device.applyState (d : Device) : Device :=
  let tc := d.tc
  let old := d.P
  let d := (d.applyWaiting (takesAt .state)).newForce old
  let d := if Par.netMode d.P = 0 then d.portsDown else d
  if d.tc ≠ tc && d.capturing then d.recStop 0 else d
/-- The law at a transition: entered on ENERGISE, LANDING and RUN where it does not run, stopped elsewhere (R90, R137, R140). -/
def Device.lawOnState (d : Device) (new no : Nat) : Device :=
  let zero := fun (x : SetSrc) => { x with active := 0 }
  let fromZero := fun (d : Device) => d.setLaw fun l => { l with st := { l.st with p := zero l.st.p, q := zero l.st.q } }
  if new = stEnergise then (d.lawEntry.setSeq fun q => { q with phase := 5, since := d.now })
  else if new = stLanding then d.landEntry
  else if new = stRun then
    let d := if d.law.running then d else d.lawEntry
    if no = 5 || no = 7 then fromZero d else d
  else (if d.law.running then d.lawStop else d).dropMoves
/-- A sequence that a transition leaves behind ends; a close command of it is withdrawn. -/
def Device.seqOnState (d : Device) (new : Nat) : Device :=
  if d.grid.seq.phase = 0 || new = stEnergise || new = stLanding then d else
  ((d.withdrawClose 0).setTraj fun t => (t.drop fun m => !m.host).free).setSeq
    fun q => { q with phase := 0, caught := false, rampDown := false, dwellFrom := none }
/-- A transition takes effect. -/
def Device.transition (d : Device) (new no : Nat) : Device :=
  let old := d.conv.state
  let d := d.applyState
  let d := (d.seqOnState new).setConv fun c => { c with
    state := new
    origin := if new = stHold then old else 0
    trans := inc32 c.trans
    holds := if new = stHold then inc16 c.holds else c.holds
    restarts := if no = 11 then inc16 c.restarts else c.restarts
    restart := no == 11
    phase := 0, phaseCyc := 0, pcStep := 0, resumeDue := false
    mbRamp := c.mbRamp && (new == stRun || new == stEnergise)
    stopArmed := c.stopArmed && (new == stRun || new == stHold)
    trigSeq := none, trigMb := false, tcSaid := false }
  let d := d.lawOnState new no
  let d := if no = 10 then d.recEvent 2 d.now else d
  (d.marginOnState old new).raise "EV_STATE" 0 8 0 [(old : Int), (new : Int), (no : Int)]

/-! ## State requests -/

/-- The row of Table 12-5 that accepts a target from the present state, with its guards in order; row 0 is the controlled stop of R362. In SAFE-HOLD a row whose guards do not name the level accepts only OFF (R357). -/
def Device.stateRow (d : Device) (target : Nat) : Option (Nat × List Bool) :=
  let s := d.conv.state
  let hold := d.inSafeHold
  let mb := d.mbOpen
  let margin := PSet.at_ d.par.committed 0x0E000009 != 0 && (d.clk.refLost || d.clk.holdover)
  if s = stOff && target = stStandby then some (1, [!hold, d.par.checking.isNone, mb])
  else if s = stStandby && target = stCharged then
    if hold then none else some (2, [d.noLatchSet, !d.safety.resetRequired && !d.safety.fns.getD 3 true, mb, !d.anyUndervoltage])
  else if s = stRun && target = stCharged then (if hold then none else some (0, []))
  else if s = stHold && (target = stOff || target = stStandby) then some (13, [mb, !hold || target == stOff])
  else if (s = stStandby || s = stCharged) && (target = stOff || target = stStandby) then (if hold && target ≠ stOff then none else some (13, [mb]))
  else if (s = stOff || s = stStandby || s = stCharged) && target = stMaint then (if hold then none else some (14, [mb, !margin]))
  else if s = stMaint && target = stOff then some (15, [mb])
  else none
/-- The outcome of a request that is turned away: STATE when no row accepts it, REFUSED with the first guard that fails. -/
def Device.stateRefusal (d : Device) (target : Nat) : Option Ending :=
  match d.stateRow target with
  | none => some (.state d.stateCode 0)
  | some (_, guards) =>
    let i := guards.idxOf false
    if i < guards.length then some (.refused (i + 1)) else none
/-- Enumeration begins with DISCOVER (R358). -/
def Device.startEnum (d : Device) : Device :=
  if d.conv.phase ≠ 0 then d else
  let d := d.setConv fun c => { c with phase := 1, phaseFrom := d.now, phaseCyc := 0, ringx := 0, ringFew := 0 }
  d.setLink fun l => { l with
    discLeft := Par.linkDiscCycles d.P
    rings := l.rings.map fun g => { g with excluded := false, discDone := false, discFault := false, found := 0, timingFail := 0, hopRetP := none, hopRetQ := none, preStep := 0, preTry := 0, preMiss := 0 }
    nodes := l.nodes.map fun n => { n with info := NodeInfo.reset } }
/-- The charge sequence begins with its resume (R359). -/
def Device.startCharge (d : Device) : Device :=
  if d.charging then d else
  d.setConv fun c => { c with phase := 5, phaseFrom := d.now, phaseCyc := 0, pcStep := 0, resumeDue := true }
/-- A transition that would change Tc waits for a load-all whose frames carry the new TC_STEPS (R22). -/
def Device.tcHold (d : Device) : Bool := d.par.waiting.contains 0x01000002 && !d.conv.tcSaid
/-- A state request at its boundary: refused, waiting, or acted on. -/
def Device.actRequest (d : Device) (h : CmdHdr) (target : Nat) : Device :=
  match d.stateRefusal target, d.stateRow target with
  | some e, _ => d.complete h e
  | none, none => d
  | none, some (no, _) =>
    match no with
    | 0 => (d.setConv fun c => { c with stopArmed := true }).complete h (.ok 0)
    | 1 => d.startEnum.complete h (.ok 0)
    | 2 => d.startCharge.complete h (.ok 0)
    | _ =>
      if d.tcHold then d.setConv fun c => { c with reqs := c.reqs ++ [(h, target)] }
      else (d.transition target no).complete h (.ok 0)

/-! ## The boundary (R363) -/

/-- Rank 1: a Squall takes an active state to HOLD and fails a charge sequence. -/
def Device.boundarySquall (d : Device) : Device × Bool :=
  let sq := d.conv.trigSquall
  let d := d.setConv fun c => { c with trigSquall := false }
  if !sq then (d, false) else
  let s := d.conv.state
  if s = stCharged || s = stEnergise || s = stLanding || s = stRun then (d.transition stHold 10, true) else (d.chargeFail 3, d.charging)
/-- Rank 4: the completion of a sequence, where its guard still holds. -/
def Device.boundarySeq (d : Device) : Device × Bool :=
  match d.conv.trigSeq with
  | none => (d, false)
  | some (target, no) =>
    if no = 1 && d.tcHold then (d, false) else
    let d := d.setConv fun c => { c with trigSeq := none }
    if no = 4 && (d.landRefusal.isSome || d.anyUndervoltage) then (d, false)
    else if no = 1 && d.inSafeHold then (d, false)
    else (d.transition target no, true)
/-- Rank 5: host requests in order; one that loses completes with STATE. -/
def Device.boundaryHost (d : Device) (moved : Bool) : Device :=
  let reqs := d.conv.reqs
  let d := d.setConv fun c => { c with reqs := [] }
  (reqs.foldl (fun (a : Device × Bool) r =>
    let (d, moved) := a
    if moved then (d.complete r.1 (.state d.stateCode 0), true) else
    let n := d.conv.trans
    let d := d.actRequest r.1 r.2
    (d, n != d.conv.trans)) (d, moved)).1
/-- What falls due at a cycle boundary, in the order of R363, and the controlled stop of R362. -/
def Device.boundary (d : Device) : Device :=
  let d := if d.charging && !d.mbOpen then d.chargeFail 4 else d
  let (d, moved) := d.boundarySquall
  let was := d.inSafeHold
  let d := d.levelUpdate
  let entered := d.inSafeHold && !was && d.conv.up
  let moved := moved || entered
  let mb := d.conv.trigMb && !moved
  let done9 := d.conv.trigSeq == some (stCharged, 9)
  let d := d.setConv fun c => { c with trigMb := false, trigSeq := if moved || (mb && !done9) then none else c.trigSeq }
  let (d, moved) := if moved || (mb && !done9) then (d, true) else d.boundarySeq
  let d := d.boundaryHost moved
  let lost := d.host.hostLost && Par.stHostLostAction d.P == 2
  if d.conv.state = stRun && (d.anyUndervoltage || lost) then d.setConv fun c => { c with stopArmed := true } else d

end Sys2Proof.Machine
end

