-- ==== Sys2Proof/Machine/Protection.lean ====
section
/-! DEFINITION. Trip inputs, blanking, the Squall's end, the trip record, auto-clear, the resume edge (R231 to R253). -/

namespace Sys2Proof.Machine

/-! ## Trip inputs (R233) -/

/-- Trip input i as the state holds it. -/
def Device.tin (d : Device) (i : Nat) : TripIn := d.prot.tins.getD i TripIn.reset
/-- Source i of a pin: active while the input is enabled and at its polarity or FAULTY (Table 8-1). -/
def Device.refreshTin (d : Device) (i : Nat) : Device := d.setInput i (Par.protTinMode d.P i == 1 && (d.tinActive i || (d.tin i).faulty))
/-- A new filtered level of trip input i. -/
def Device.tinLevel (d : Device) (i : Nat) (level : Bool) : Device :=
  if (d.tin i).level = level then d else
  let n := Par.protTinChatterN d.P i
  let trans := noteTransition (d.tin i).trans d.now n
  let d := d.setProt fun p => { p with tins := upd p.tins i fun x => { x with level := level, trans := trans } }
  let d := if chatters trans n (msT (Par.protTinChatterWin d.P i)) && !(d.tin i).faulty then
      (d.setProt fun p => { p with tins := upd p.tins i fun x => { x with faulty := true } }).raise "EV_TRIP_INPUT_CHATTER" 3 5 i [(i : Int)]
    else d
  d.refreshTin i
/-- TRIP_INPUT_CHANGE: TRIP_INi has shown a level for so many samples; from prot.tin[i].filt on it is the filtered level. -/
def execTripInputChange (t : Tick) (i : Fin 16) (level : Bool) (held : Nat) (s : State) : Host.Outcome State Fault Refusal :=
  s.on t fun d => if held < Par.protTinFilt d.P i then d else d.tinLevel i level

/-! ## Blanking (R234, R236) -/

/-- Windows of a comparator in the making: those built, rising, and the end of a cut one after which edges within prot.blank_t open none. -/
structure Windows where
  /-- The windows. -/
  list : List (Tick × Tick)
  /-- End of the last cut window. -/
  cut : Option Tick
  deriving DecidableEq, Repr
/-- One edge's window, merged into the last where they overlap or touch, and cut at the longest (R234). -/
def Windows.add (w : Windows) (at_ len longest : Nat) : Windows :=
  let dead := match w.cut with
    | some c => decide (c ≤ at_) && decide (at_ < c + len)
    | none => false
  match w.list.getLast? with
  | some (a, b) =>
    if at_ ≤ b && w.cut ≠ some b then
      let stop := at_ + len
      if a + longest < stop then { list := w.list.dropLast ++ [(a, a + longest)], cut := some (a + longest) }
      else { w with list := w.list.dropLast ++ [(a, max b stop)] }
    else if dead || at_ < b then w else { list := w.list ++ [(at_, at_ + len)], cut := none }
  | none => if dead then w else { list := [(at_, at_ + len)], cut := none }
/-- Insert an instant into a rising list. -/
def insertTick (x : Tick) : List Tick → List Tick
  | [] => [x]
  | y :: r => if x ≤ y then x :: y :: r else y :: insertTick x r
/-- The instants of the edges that the schedules command in an arm for the next cycle. -/
def Device.edgeTimes (d : Device) (arm : Nat) : List Tick :=
  (d.armCells arm).flatMap fun c => ((d.mcell c).sched.filter fun e => e.state ≠ 7).map fun e => d.eNext + e.off
/-- The blanking windows of the schedules just loaded, after those that still run (R234). -/
def Device.buildWindows (d : Device) : Device :=
  let times := (List.range 3).map d.edgeTimes
  let len := (nsT (Par.protBlankT d.P)).floor.toNat
  let longest := (nsT (Par.protBlankMax d.P)).floor.toNat
  let build := fun (j : Nat) (b : BlankCmp) =>
    let arms := Par.protCmpBlankArms d.P j
    let ts := ((List.range 3).flatMap fun a => if bit arms a then times.getD a [] else []).foldl (fun l x => insertTick x l) []
    let w := if len = 0 then ({ list := b.windows, cut := b.cut } : Windows)
      else ts.foldl (fun (w : Windows) x => w.add x len longest) { list := b.windows, cut := b.cut }
    { b with windows := w.list, cut := w.cut }
  d.setProt fun p => { p with blank := p.blank.mapIdx build }
/-- BLANKING_WINDOW_END: the gate of comparator j opens; a fast level still outside asserts, with AFTER_BLANK (R236). -/
def execBlankingWindowEnd (t : Tick) (j : Fin 12) (s : State) : Host.Outcome State Fault Refusal :=
  s.on t fun d =>
    let b := d.prot.blank.getD j BlankCmp.reset
    if !(b.windows.any fun w => w.2 ≤ d.now) then d else
    let out := (d.cmp j).fastOut
    let d := if out then d.countWindow j else d
    let d := d.setProt fun p => { p with blank := upd p.blank j fun b => { b with windows := b.windows.filter fun w => d.now < w.2, counted := false } }
    if out && !d.windowOpen j && bit (Par.protCmpTrip d.P j) 0 then
      (d.inputInactive (16 + j)).inputActive (16 + j) { arms := d.srcArms (16 + j), afterBlank := true }
    else d

/-! ## Incoming Squall, burst and echo (R237, R238) -/

/-- INCOMING_SQUALL: a K28.3 pair is recognised on a receive lane: echo while the own burst runs or its echo window lasts, otherwise source 40's input becomes active and a Squall is triggered, whatever its latch (R237, R238). -/
def execIncomingSquall (t : Tick) (ring : Fin 12) (s : State) : Host.Outcome State Fault Refusal :=
  s.on t fun d =>
    if d.ringNone ring then d else
    let d := (d.setLink fun l => { l with rings := upd l.rings ring fun r => { r with squall := true } }).hwSet 0x8184 (2 ^ ring.val)
    let d := d.pmcPulse (3 + ring.val / 6) 5 1
    let echo := d.prot.burst || d.prot.echoFrom.isSome
    let x := d.srcAt 40
    let d := if echo then d.setProt fun p => { p with echoCnt := inc32 p.echoCnt } else d
    let d := if x.active || !echo then d.setProt fun p => { p with rxPair := some d.now } else d
    if x.active || echo then d
    else
      let d := d.inputActive 40 { arms := 7 }
      if x.latch = 1 then d.squallTrigger else d
/-- SQUALL_HOLD_END: no K28.3 pair for t_sq_hold, 100 ns: the input of source 40 becomes inactive. -/
def execSquallHoldEnd (t : Tick) (s : State) : Host.Outcome State Fault Refusal :=
  s.on t fun d => if d.pastOpt d.prot.rxPair (nsT 100) then (d.setProt fun p => { p with rxPair := none }).inputInactive 40 else d
/-- BURST_END: prot.squall_burst after the last trigger the lanes return to idle and the echo window begins. -/
def execBurstEnd (t : Tick) (s : State) : Host.Outcome State Fault Refusal :=
  s.on t fun d =>
    if d.prot.burst && d.past d.prot.lastTrigger (usT (Par.protSquallBurst d.P)) then d.setProt fun p => { p with burst := false, echoFrom := some d.now } else d
/-- ECHO_WINDOW_END: t_echo, 8 µs, after the burst. -/
def execEchoWindowEnd (t : Tick) (s : State) : Host.Outcome State Fault Refusal :=
  s.on t fun d => if d.pastOpt d.prot.echoFrom (usT 8) then d.setProt fun p => { p with echoFrom := none } else d

/-! ## The trip record (R241) -/

/-- MULTI_WIN_ELAPSED: the record is complete; EV_SQUALL is raised, after EV_TRIP_MULTI_ARM when it is multi-arm, whose latches take no auto-clear (R249). -/
def execMultiWinElapsed (t : Tick) (s : State) : Host.Outcome State Fault Refusal :=
  s.on t fun d =>
    let r := d.prot.record
    if !r.open_ || !d.past r.ctb (usT (Par.protMultiWin d.P)) then d else
    let d := d.setProt fun p => { p with record := { r with open_ := false } }
    let d := if r.multiArm then
        (d.setProt fun p => { p with srcs := p.srcs.mapIdx fun i x => if r.srcs.getLsbD i && x.latch != 0 then { x with noAuto := true } else x }).raise "EV_TRIP_MULTI_ARM" 3 5 r.primary [(r.arms.toNat : Int)]
      else d
    let flags := r.multiArm.toNat + 2 * r.afterBlank.toNat + 4 * r.rejectEdge.toNat
    d.raise "EV_SQUALL" 3 5 r.primary [(r.srcs.toNat : Int), (r.primary : Int), (r.arms.toNat : Int), (flags : Int), (r.ctlCause : Int), (r.ctb : Int)]

/-! ## Clearing (R246 to R249) -/

/-- A clear request for source i, by auto-clear or by the host (Table 8-4). -/
def Device.clearRequest (d : Device) (i : Nat) (auto : Bool) : Device :=
  let x := d.srcAt i
  if x.latch ≠ 1 then d
  else if d.srcActive i then d.rejectClear i 1
  else d.setSrc i fun s => { s with latch := 2, autoReq := auto }
/-- A bit of the auto masks. -/
def Device.autoMask (d : Device) (i : Nat) : Bool := if i < 32 then bit (Par.protAutoMaskL d.P) i else bit (Par.protAutoMaskH d.P) (i - 32)
/-- AUTO_CLEAR_REQUEST: a SET latch in the auto masks whose input has been inactive for prot.auto_delay, once its record is complete (R249). -/
def execAutoClearRequest (t : Tick) (i : Fin 48) (s : State) : Host.Outcome State Fault Refusal :=
  s.on t fun d =>
    let x := d.srcAt i
    if i.val = 41 || x.latch ≠ 1 || x.active || x.noAuto || d.prot.autoDisabled || !d.autoMask i then d
    else if d.prot.record.open_ || !d.past d.prot.sqFrom (usT (Par.protMultiWin d.P)) || !d.pastOpt x.quietFrom (usT (Par.protAutoDelay d.P)) then d
    else d.clearRequest i true
/-- TRIP_REMIND: every 10 s of an active input on a SET latch (R248). -/
def execTripRemind (t : Tick) (i : Fin 48) (s : State) : Host.Outcome State Fault Refusal :=
  s.on t fun d =>
    let x := d.srcAt i
    let n := x.reminded + 1
    if x.latch ≠ 1 || !x.active || !d.past x.activeFrom (sT (10 * (n : Rat))) then d else
    (d.setSrc i fun s => { s with reminded := n }).reminder "EV_TRIP_REMIND" 3 5 i [(i.val : Int), ((10 * n : Nat) : Int)]
/-- A clear that the resume edge rejects: SET again, a Squall at that instant, REJECT_EDGE in its record (Table 8-4, stage 3). -/
def Device.rejectAtEdge (d : Device) (i : Nat) : Device :=
  let d := d.rejectClear i 3
  let d := d.recordTrip i { arms := (d.srcAt i).arms, rejectEdge := true }
  (d.setSrc i fun s => { s with latch := 1, autoReq := false }).squallTrigger
/-- PENDING latches at the resume edge: those with an inactive input clear; a resume with one by auto-clear is noted, one with one by the host ends AUTO_DISABLED (R246, R249). -/
def Device.decideLatches (d : Device) : Device :=
  let pend := idx 48 fun i => (d.srcAt i).latch == 2
  let go := pend.filter fun i => !d.srcActive i
  let bad := pend.filter d.srcActive
  let auto := go.any fun i => (d.srcAt i).autoReq
  let host := go.any fun i => !(d.srcAt i).autoReq
  let d := go.foldl (fun d i => (d.setSrc i fun s => { s with latch := 0, autoReq := false, noAuto := false, quietFrom := none }).raise "EV_TRIP_CLEARED" 3 5 i [(i : Int)]) d
  let d := d.setProt fun p => { p with autoResumes := if auto then d.now :: p.autoResumes else p.autoResumes, autoDisabled := p.autoDisabled && !host }
  bad.foldl Device.rejectAtEdge d
/-- CENTRE_MODE_RECOVERY_END: after mod.recover_cycles of centre mode edge mode resumes (R247). -/
def execCentreModeRecoveryEnd (t : Tick) (s : State) : Host.Outcome State Fault Refusal :=
  s.on t fun d =>
    match d.prot.recoverUntil with
    | none => d
    | some u =>
      if d.now < u then d else
      (d.setProt fun p => { p with recoverUntil := none }).setConv fun c => { c with restart := false, restartDead := false }

/-! ## Earth current and star-point voltage (R251) -/

/-- EARTH_CURRENT_TRIP: |stream 56| has stood above prot.ef_i for prot.ef_time. -/
def execEarthCurrentTrip (t : Tick) (s : State) : Host.Outcome State Fault Refusal :=
  s.on t fun d => if d.pastOpt d.prot.efFrom (msT (Par.protEfTime d.P)) then d.inputActive 43 { arms := 7 } else d
/-- STAR_POINT_TRIP: |stream 52| has stood above prot.sp_v for prot.sp_time, in star. -/
def execStarPointTrip (t : Tick) (s : State) : Host.Outcome State Fault Refusal :=
  s.on t fun d => if !d.inDelta && d.pastOpt d.prot.spFrom (msT (Par.protSpTime d.P)) then d.inputActive 44 { arms := 7 } else d

end Sys2Proof.Machine
end

