-- ==== Sys2Proof/Machine/Packs.lean ====
section
/-! DEFINITION. Pack care (R173 to R189, R198): chemistry tables, profiles and BMS frames, causes of PACK_OK = 0, cross-checks, identities and tenancies. -/

namespace Sys2Proof.Machine

/-- Pack c. -/
def Device.pack (d : Device) (c : Nat) : Pack := d.packs.packs.getD c Pack.reset
/-- Change pack c. -/
def Device.setPack (d : Device) (c : Nat) (f : Pack → Pack) : Device := d.setPacks fun p => { p with packs := upd p.packs c f }
/-- Change the metering persistence. -/
def Device.setMeter (d : Device) (f : Meter → Meter) : Device := { d with meter := f d.meter }

/-! ## The open-circuit voltage (R174) -/

/-- Point j of a chemistry table at a temperature: the cell voltage in V. -/
def chemVolt (ps : PSet) (tbl j : Nat) (temp : Rat) : Rat :=
  let w := Par.chemPoint ps tbl j
  ((bits w 15 0 : Nat) : Rat) / 10000 + (sext 16 (bits w 31 16) : Rat) / 1000000 * (temp - 25)
/-- The segment of a state of charge. -/
def chemSeg (soc : Rat) : Nat := min 62 (soc * 63).floor.toNat
/-- The slope dOCV/dsoc in V per pu. -/
def ocvSlope (ps : PSet) (tbl : Nat) (soc temp : Rat) : Rat :=
  let j := chemSeg soc
  (chemVolt ps tbl (j + 1) temp - chemVolt ps tbl j temp) * 63
/-- The open-circuit voltage of a cell: linear between points. -/
def ocv (ps : PSet) (tbl : Nat) (soc temp : Rat) : Rat :=
  let j := chemSeg soc
  chemVolt ps tbl j temp + ocvSlope ps tbl soc temp * (soc - (j : Rat) / 63)
/-- The state of charge of an open-circuit voltage; on a level segment, which gives none, a free value of the segment (assumption log 45). -/
def Device.ocvInverse (d : Device) (tbl : Nat) (v temp : Rat) : Rat × Device :=
  let g := fun j => chemVolt d.P tbl j temp
  if v ≤ g 0 then (0, d) else
  match (List.range 63).find? fun j => decide (v ≤ g (j + 1)) with
  | none => (1, d)
  | some j =>
    let lo := (j : Rat) / 63
    if g (j + 1) = g j then
      let (n, d) := d.draw
      (clampR lo (lo + 1 / 63) (Config.freeReal n), d)
    else (lo + (v - g j) / (g (j + 1) - g j) / 63, d)

/-! ## Profiles and mappings (R186, Table 6-2) -/

/-- One used field mapping. -/
structure Mapping where
  /-- CANID and IDE, word 0 [29:0]. -/
  id : Nat
  /-- START. -/
  start : Nat
  /-- Length in bits. -/
  len : Nat
  /-- Big-endian order. -/
  big : Bool
  /-- Two's complement. -/
  signed : Bool
  /-- Target of Table 6-3. -/
  target : Nat
  /-- Freshness limit in 100 ms steps, 0 for none. -/
  timeout : Nat
  /-- SCALE. -/
  scale : Rat
  /-- OFFSET. -/
  offset : Rat
  deriving DecidableEq, Repr
/-- Mapping m of profile p. -/
def mappingAt (ps : PSet) (p m : Nat) : Mapping :=
  let w := Par.profMapWord ps p m
  { id := bits (w 0) 29 0, start := bits (w 1) 5 0, len := bits (w 1) 10 6 + 1, big := bit (w 1) 11, signed := bit (w 1) 12
    target := bits (w 1) 17 13, timeout := bits (w 1) 31 24
    scale := (sext 32 (w 2) : Rat) / ((2 ^ 24 : Nat) : Rat), offset := (sext 32 (w 3) : Rat) / ((2 ^ 16 : Nat) : Rat) }
/-- The used mappings of profile p. -/
def mappings (ps : PSet) (p : Nat) : List Mapping := ((List.range 16).map (mappingAt ps p)).filter fun m => m.target != 0
/-- The mapping of a target in a pack's profile. -/
def Device.mapOf (d : Device) (c target : Nat) : Option Mapping :=
  match (d.pack c).profile with
  | none => none
  | some p => (mappings d.P p).find? fun m => m.target == target
/-- The raw number of a field in the data bytes, byte 0 in the low byte: little-endian from its least significant bit up, big-endian from its most significant bit down and on into the next byte. -/
def Mapping.raw (m : Mapping) (data : BitVec 64) : Nat :=
  if m.big then
    let s0 := (m.start / 8) * 8 + (7 - m.start % 8)
    (List.range m.len).foldl (fun v j =>
      let s := s0 + j
      v * 2 + (data.getLsbD ((s / 8) * 8 + (7 - s % 8))).toNat) 0
  else bits data.toNat (m.start + m.len - 1) m.start
/-- The value of a field in its target's unit. -/
def Mapping.value (m : Mapping) (data : BitVec 64) : Rat :=
  let r : Int := if m.signed then sext m.len (m.raw data) else (m.raw data : Int)
  (r : Rat) * m.scale + m.offset
/-- The newest value of a target. -/
def Pack.field (p : Pack) (target : Nat) : Option BmsField := (p.fields.getD target none)
/-- A mapped field is older than its timeout, or has never arrived. -/
def Device.stale (d : Device) (c : Nat) (m : Mapping) : Bool :=
  m.timeout != 0 && match (d.pack c).field m.target with
    | none => true
    | some f => d.pastBeyond f.stamp (msT (100 * m.timeout))
/-- The value of a target that is mapped and fresh. -/
def Device.freshField (d : Device) (c target : Nat) : Option Rat :=
  match d.mapOf c target with
  | none => none
  | some m => if d.stale c m then none else ((d.pack c).field target).map fun f => f.value

/-! ## Causes of PACK_OK = 0 (Table 6-1) -/

/-- The cause bits that follow from the newest values: BMS_FAULT, BMS_SILENT, CONTACTOR, EOL, INIT. -/
def Device.causeNow (d : Device) (c : Nat) : Nat :=
  let p := d.pack c
  let num := fun (target : Nat) => ((d.mapOf c target).bind fun _ => p.field target).map fun f => f.value
  let maps : List Mapping := match p.profile with
    | none => []
    | some q => mappings d.P q
  let alive := match d.mapOf c 11 with
    | none => false
    | some m => m.timeout != 0 && d.pastBeyond p.aliveAt (msT (100 * m.timeout))
  let eol := match p.profile with
    | none => false
    | some q => p.obs.init && decide (p.obs.soh < Par.profSohFloor d.P q)
  ofBits [!p.obs.init, false, false, (num 9).any fun x => decide (x ≠ 0), alive || maps.any (d.stale c), (num 14).any fun x => decide (x = 0), false, false, eol, false]
/-- The causes that are held: NOPROF, TSENS, XCHK, DIVERGE, ID. -/
def heldCauses : Nat := 0x2C6
/-- PACK_OK. -/
def Pack.ok (p : Pack) : Bool := p.causes == 0
/-- Set a pack's cause mask: each change raises EV_PACK_STATE with the cell and the mask, rate-limited per cell (R182). -/
def Device.setCauses (d : Device) (c mask : Nat) : Device :=
  if (d.pack c).causes.toNat = mask then d else
  (d.setPack c fun p => { p with causes := BitVec.ofNat 10 mask }).raiseRated "EV_PACK_STATE" 2 3 c [(c : Int), (mask : Int)]
/-- Bring a pack's cause mask up to date, with held causes added and removed. -/
def Device.refreshCauses (d : Device) (c : Nat) (add : Nat := 0) (remove : Nat := 0) : Device :=
  let m := (d.pack c).causes.toNat
  d.setCauses c ((((m ||| add) &&& heldCauses) &&& (1023 - remove)) ||| d.causeNow c)
/-- The cell's V_dc lies outside its profile's limits (Table 5-3). -/
def Device.vdcOutside (d : Device) (c : Nat) : Bool :=
  match (d.pack c).profile with
  | none => false
  | some q =>
    let v := (d.mcell c).row.vdc
    (d.node c).last.isSome && (decide (v < Par.profVMin d.P q) || decide (Par.profVMax d.P q < v))
/-- The rest for PACK_OK = 0 or V_dc starts, or stays at 0 cycles while its cause stands (Table 5-3). -/
def Device.restPack (d : Device) (c : Nat) : Device :=
  if !(d.mcell c).row.packOk || d.vdcOutside c then d.setCell c fun m => { m with restPack := some 0 } else d

/-! ## Cross-checks (R189) -/

/-- One comparison of check q (0 V, 1 I, 2 SOC, 3 SOH): obs.x_count failures in a row trip it; XCHK_V and XCHK_I latch the cause. -/
def Device.xCheck (d : Device) (c q : Nat) (dev bms tol : Rat) : Device :=
  let run := if tol < rabs (dev - bms) then min ((d.pack c).xRuns.getD q 0 + 1) 256 else 0
  let mine : BitVec 4 := BitVec.ofNat 4 (2 ^ q)
  let was := (d.pack c).xTripped &&& mine != 0
  let d := d.setPack c fun p => { p with xRuns := p.xRuns.set q run, xTripped := if run = 0 then p.xTripped &&& ~~~mine else p.xTripped }
  if run = 0 || run < Par.obsXCount d.P || was then d else
  let d := d.setPack c fun p => { p with xchk := p.xchk ||| mine, xTripped := p.xTripped ||| mine }
  let (x, d) := d.quant (dev * 65536)
  let (y, d) := d.quant (bms * 65536)
  let d := d.raise "EV_PACK_XCHECK" 2 3 c [(c : Int), (q : Int), x, y]
  if q < 2 then d.refreshCauses c (add := 64) else d
/-- XCHK_V on a BMS voltage frame: the mean V_dc of the 100 ms before its timestamp. -/
def Device.xCheckV (d : Device) (c : Nat) (bms : Rat) (stamp : Tick) : Device :=
  let l := ((d.pack c).vHist.filter fun x => decide (x.1 ≤ stamp) && decide (((stamp : Rat) - (x.1 : Rat)) < msT 100)).map Prod.snd
  if l.isEmpty then d else
  let v := rsum l / (l.length : Rat)
  d.xCheck c 0 v bms (Par.obsXvAbs d.P + Par.obsXvRel d.P / 100 * v)
/-- XCHK_I of a CTB second that ended: the pack's mean current against the mean of the BMS values stamped in it, of which there must be two. -/
def Device.xCheckI (d : Device) (c : Nat) (sec : Nat) : Device :=
  let from_ := (sec - 1) * 800000000
  let l := ((d.pack c).iBms.filter fun x => decide (from_ ≤ x.1) && decide (x.1 < from_ + 800000000)).map Prod.snd
  if l.length < 2 || (d.freshField c 2).isNone then d else
  let i := (d.pack c).qSec
  d.xCheck c 1 i (rsum l / (l.length : Rat)) (Par.obsXiAbs d.P + Par.obsXiRel d.P / 100 * rabs i)
/-- XCHK_SOC, each Zephyr round, and XCHK_SOH, every 60 s. -/
def Device.xCheckRound (d : Device) (c : Nat) (soh : Bool) : Device :=
  let o := (d.pack c).obs
  if !o.init then d else
  let d := match d.freshField c 3 with
    | none => d
    | some x => d.xCheck c 2 o.soc (x / 100) (Par.obsXsocTol d.P)
  if !soh then d else
  match d.freshField c 4 with
  | none => d
  | some x => d.xCheck c 3 o.soh (x / 100) (Par.obsXsohTol d.P)

/-! ## Identities and tenancies (R191) -/

/-- A new tenancy begins: its number rises, the counters become its start values. -/
def Device.newTenancy (d : Device) (c : Nat) (ident : BitVec 64) : Device :=
  let d := d.setPack c fun p => { p with ten := { number := (p.ten.number + 1) % 2 ^ 32, ident := ident, start := p.cnt } }
  d.raise "EV_PACK_TENANCY" 2 3 c [(c : Int), ((d.pack c).ten.number : Int)]
/-- An identity report of a pack's BMS is compared with the stored identity (R191); the identity 0 starts no tenancy (assumption log 140), and a Standby starts none (R309). -/
def Device.identReport (d : Device) (c : Nat) (ident : BitVec 64) : Device :=
  let d := d.setPack c fun p => { p with identSeen := true, identLast := ident }
  if (d.pack c).ten.ident = ident then d.refreshCauses c (remove := 512)
  else if d.offOrMaint then (if ident = 0 || d.standby then d else d.newTenancy c ident)
  else (d.refreshCauses c (add := 512)).raise "EV_PACK_ID_MISMATCH" 2 3 c [(c : Int)]
/-- The halves of an identity that a frame brought: the report is complete when every mapped half has come since the last one (assumption log 46). -/
def Device.identHalves (d : Device) (c : Nat) : Device :=
  let p := d.pack c
  let part := fun (target : Nat) (x : Option (BitVec 32)) => if (d.mapOf c target).isSome then x else some 0
  if p.identLo.isNone && p.identHi.isNone then d else
  match part 12 p.identLo, part 13 p.identHi with
  | some lo, some hi => (d.setPack c fun p => { p with identLo := none, identHi := none }).identReport c (hi ++ lo)
  | _, _ => d

/-! ## BMS frames (R183 to R188, R224) -/

/-- The tap record of a frame (R330): it goes to slot j mod 2^n, and vector 11 is signalled. -/
def Device.tapRecord (d : Device) (c : Nat) (fr : TunRec) (stamp : Tick) (matched down : Bool) : Device :=
  match d.packs.tap with
  | none => d
  | some (cell, addr, n) =>
    if cell ≠ c then d else
    let j := d.packs.tapIdx
    let id := fr.canId.toNat + 2 ^ 29 * fr.ide.toNat + 2 ^ 30 * matched.toNat + 2 ^ 31 * down.toNat
    let bytes := leBytes 8 stamp ++ leBytes 4 id ++ leBytes 4 fr.dlc ++ leBytes 8 fr.data.toNat ++ leBytes 4 j ++ leBytes 4 0
    let d := d.post { HostWrite.reset with kind := 6, addr := addr + 32 * (j % 2 ^ n), bytes := bytes }
    (d.setPacks fun p => { p with tapIdx := (j + 1) % 2 ^ 32 }).msix 11
/-- A frame matches profile p: identifier and format equal the non-zero match_id, the masked data equal the match value (R188). -/
def frameMatches (ps : PSet) (fr : TunRec) (p : Nat) : Bool :=
  let w := Par.profMatch ps p
  let val := w 0 + 2 ^ 32 * w 1
  let mask := w 2 + 2 ^ 32 * w 3
  let id := Par.profMatchId ps p
  id != 0 && bits id 29 0 == fr.canId.toNat + 2 ^ 29 * fr.ide.toNat && (fr.data.toNat &&& mask) == val
/-- Automatic matching, while it runs: the cell takes the lowest profile matched by its frames so far (R188). -/
def Device.profileMatch (d : Device) (c : Nat) (fr : TunRec) : Device :=
  if d.conv.phase ≠ 4 || Par.packProfile d.P c ≠ 8 || (d.pack c).assigned.isSome then d else
  let l := (List.range 8).filter (frameMatches d.P fr)
  match l.head? with
  | none => d
  | some p => d.setPack c fun x => { x with matched := x.matched ++ l, assigned := some p }
/-- Store one decoded field, with what depends on it: the alive counter, identity halves, the current values of XCHK_I. -/
def Device.takeField (d : Device) (c : Nat) (m : Mapping) (data : BitVec 64) (stamp : Tick) : Device :=
  let v := m.value data
  let raw := BitVec.ofNat 32 (m.raw data)
  d.setPack c fun p =>
    let p := { p with fields := p.fields.set m.target (some { value := v, stamp := stamp }) }
    match m.target with
    | 11 => if p.alivePrev = some v then p else { p with alivePrev := some v, aliveAt := stamp }
    | 12 => { p with identLo := some raw }
    | 13 => { p with identHi := some raw }
    | 2 => { p with iBms := p.iBms ++ [(stamp, v)] }
    | _ => p
/-- A frame from a pack's BMS: tapped, matched to a profile, decoded into every mapped field or else discarded and counted (R184, R186). -/
def Device.bmsFrame (d : Device) (c : Nat) (fr : TunRec) (stamp : Tick) : Device :=
  let id := fr.canId.toNat + 2 ^ 29 * fr.ide.toNat
  let maps : List Mapping := match (d.pack c).profile with
    | none => []
    | some q => (mappings d.P q).filter fun m => m.id == id
  let d := d.tapRecord c fr stamp (!maps.isEmpty) false
  let d := d.profileMatch c fr
  if maps.isEmpty then d.setPacks fun p => { p with discard := inc32 p.discard } else
  let d := maps.foldl (fun d m => d.takeField c m fr.data stamp) d
  let d := if maps.any fun m => m.target == 12 || m.target == 13 then d.identHalves c else d
  let d := match maps.find? fun m => m.target == 1 with
    | none => d
    | some m => d.xCheckV c (m.value fr.data) stamp
  d.refreshCauses c
/-- A frame for a pack joins its queue of 16; a periodic frame that finds it full replaces the oldest queued copy of the same frame (R224). -/
def Device.queueDown (d : Device) (c : Nat) (f : DownFrame) : Device :=
  let q := (d.node c).down
  if q.length < 16 then d.setNode c fun n => { n with down := n.down ++ [f] } else
  let i := q.findIdx fun x => x.tx == f.tx
  if i < q.length then d.setNode c fun n => { n with down := n.down.eraseIdx i ++ [f] } else d
/-- The data of a transmit frame with its rolling counter in place (R185, Table 6-7). -/
def txData (lo hi ctl roll : Nat) : BitVec 64 :=
  let w := bits ctl 9 6
  let st := bits ctl 5 0
  let base := lo + 2 ^ 32 * hi
  if w = 0 then BitVec.ofNat 64 base else
  let mask := (2 ^ w - 1) * 2 ^ st
  BitVec.ofNat 64 ((base &&& (2 ^ 64 - 1 - mask % 2 ^ 64)) ||| (roll % 2 ^ w) * 2 ^ st)
/-- BMS_TRANSMIT_FRAME: the period of transmit frame q of a pack has elapsed, and the frame is queued (R185). -/
def execBmsTransmitFrame (t : Tick) (cell : Fin 384) (q : Fin 2) (s : State) : Host.Outcome State Fault Refusal :=
  s.on t fun d =>
    let pk := d.pack cell
    match pk.profile with
    | none => d
    | some p =>
      let ctl := Par.profTxCtl d.P p q
      let period := bits ctl 23 8
      if period = 0 || d.now < pk.txNext.getD q 0 then d else
      let cnt := Par.profTxCounter d.P p q
      let roll := pk.txRoll.getD q 0
      let id := Par.profTxId d.P p q
      let fr : TunRec := { owner := cell.val % 32, up := false, ide := bit id 29, dlc := min 8 (bits ctl 3 0), canId := BitVec.ofNat 29 id
                           data := txData (Par.profTxDataLo d.P p q) (Par.profTxDataHi d.P p q) cnt roll, stamp := 0 }
      let d := d.setPack cell fun x => { x with
        txNext := x.txNext.set q.val (d.now + period * 800000)
        txRoll := x.txRoll.set q.val ((roll + 1) % 2 ^ (bits cnt 9 6)) }
      d.queueDown cell { fr := fr, tx := q.val }

/-! ## Assignment (R188) -/

/-- The profile a pack's assignment gives: fixed, matched, or none. -/
def Device.profileFor (d : Device) (c : Nat) : Option Nat :=
  let a := Par.packProfile d.P c
  if a < 8 then some a else if a = 8 then (d.pack c).assigned else none
/-- Assignments and profiles take effect at a converter state transition (R188): a pack whose profile changes forgets the values of the old one, PACK_ID_UNKNOWN follows the mapped targets (R187), and 9 gives NOPROF (Table 6-1). -/
def Device.applyProfiles (d : Device) : Device :=
  (List.range 384).foldl (fun d c =>
    let new := d.profileFor c
    let d := if (d.pack c).profile = new then d else
      d.setPack c fun p => { p with profile := new, fields := List.replicate 17 none, alivePrev := none, aliveAt := d.now, txNext := [d.now, d.now] }
    let unknown := (d.mapOf c 12).isNone && (d.mapOf c 13).isNone && new.isSome
    let d := d.setPack c fun p => { p with identUnknown := unknown }
    d.refreshCauses c (add := if Par.packProfile d.P c = 9 then 2 else 0)) d
/-- Cause NOPROF at the end of matching: cells set to none, and cells of the automatic setting that found no profile (Table 6-1). -/
def Device.noProfiles (d : Device) : Device :=
  (List.range 384).foldl (fun d c => if (d.profileFor c).isNone then d.refreshCauses c (add := 2) else d) d
/-- A commit in OFF or MAINT ends the cause NOPROF, but for cells that are set to none and stay so (Table 6-1). -/
def Device.commitProfiles (d : Device) : Device :=
  if !d.offOrMaint then d else
  (List.range 384).foldl (fun d c =>
    if Par.packProfile d.P c = 9 && Par.packProfile d.par.committed c = 9 then d.refreshCauses c (add := 2) else d.refreshCauses c (remove := 2)) d

/-! ## Selection (R198) -/

/-- PACK_SELECT_WRITE: the registers of the selected cell are latched and READY is set (R198). -/
def execPackSelectWrite (t : Tick) (v : BitVec 32) (s : State) : Host.Outcome State Fault Refusal :=
  s.on t fun d =>
    let d := d.reserved v 0x800001FF
    let c := v.toNat % 2 ^ 9
    let p := d.pack c
    let (soc, d) := d.quant (p.obs.soc * 2 ^ 24)
    let (soh, d) := d.quant (p.obs.soh * 2 ^ 24)
    let (rs, d) := d.quant (p.obs.rs * 1000 * 65536)
    let (hi, d) := d.quant (p.tMax * 10)
    let (lo, d) := d.quant (p.tMin * 10)
    let flags := ofBits [p.chgWin, p.disWin, p.ok, p.identUnknown] + 16 * p.causes.toNat + 2 ^ 14 * p.xchk.toNat + 2 ^ 20 * (p.profile.getD 15)
    let l : List (BitVec 32) := [BitVec.ofNat 32 (trunc 32 soc), BitVec.ofNat 32 (trunc 32 soh), BitVec.ofNat 32 (trunc 32 rs)
      , BitVec.ofNat 32 (trunc 16 hi + 65536 * trunc 16 lo), BitVec.ofNat 32 flags, BitVec.ofNat 32 p.ten.number]
    d.setPacks fun k => { k with sel := c, selReady := true, selRegs := l }

end Sys2Proof.Machine
end

