-- ==== Sys2Proof/Machine/Meter.lean ====
section
/-! DEFINITION. The meter engine, persistence, the meter snapshot, the pack observers and the outer balance loop (R166, R173 to R196). -/

namespace Sys2Proof.Machine

/-! ## The output sign over an interval (R190, Table 5-4) -/

/-- A piece of an interval: from and to in ticks after its start, and the output sign for a positive and for a negative arm current. -/
structure Piece where
  /-- Start. -/
  a : Nat
  /-- End. -/
  b : Nat
  /-- Sign where the arm current is positive. -/
  up : Int
  /-- Sign where it is negative. -/
  dn : Int
  deriving DecidableEq, Repr
/-- The signs of a state: POS, NEG, BLK (the diodes charge the pack), and 0 in ZL, ZU and BYP. -/
def signsOf (st : Nat) : Int × Int := if st = 1 then (1, 1) else if st = 2 then (-1, -1) else if st = 0 then (-1, 1) else (0, 0)
/-- The signs in the dead time of a change between ZL and POS (leg A) or NEG (leg B): where Table 5-4 shows the output following the current, −sign(i); otherwise 0. -/
def deadSigns (st st' : Nat) : Option (Int × Int) :=
  if (st = 4 && st' = 1) || (st = 1 && st' = 4) then some (0, 1)
  else if (st = 4 && st' = 2) || (st = 2 && st' = 4) then some (-1, 0)
  else none
/-- The pieces of an interval of n ticks from a state at its start and its edges, with dead times of dt ticks. -/
def piecesFrom (dt n : Nat) : Nat → Nat → List Edge → List Piece
  | a, st, [] => [{ a := a, b := n, up := (signsOf st).1, dn := (signsOf st).2 }]
  | a, st, e :: r =>
    let x := min (max e.off a) n
    let p : Piece := { a := a, b := x, up := (signsOf st).1, dn := (signsOf st).2 }
    let stop := match r with
      | [] => n
      | f :: _ => min (max f.off x) n
    match deadSigns st e.state with
    | some g =>
      let y := min (x + dt) stop
      p :: { a := x, b := y, up := g.1, dn := g.2 } :: piecesFrom dt n y e.state r
    | none => p :: piecesFrom dt n x e.state r
/-- From a tick on, a piece counts as BLK. -/
def Piece.blockFrom (cut : Nat) (p : Piece) : List Piece :=
  let blk := signsOf 0
  if cut ≤ p.a then [{ p with up := blk.1, dn := blk.2 }]
  else if p.b ≤ cut then [p]
  else [{ p with b := cut }, { p with a := cut, up := blk.1, dn := blk.2 }]
/-- Split a piece at a tick. -/
def Piece.split (cut : Nat) (p : Piece) : List Piece :=
  if cut ≤ p.a || p.b ≤ cut then [p] else [{ p with b := cut }, { p with a := cut }]
/-- The area of the positive part of a linear current from x to y over len ticks; its zero crossing splits it. -/
def posArea (x y len : Rat) : Rat :=
  if 0 ≤ x && 0 ≤ y then (x + y) / 2 * len
  else if x ≤ 0 && y ≤ 0 then 0
  else if 0 < x then x * x / (2 * (x - y)) * len
  else y * y / (2 * (y - x)) * len
/-- The charges in µC that leave and enter a pack in a piece, for an arm current linear over n ticks. -/
def Piece.charge (i0 i1 : Rat) (n : Nat) (p : Piece) : Rat × Rat :=
  let x := interpolate i0 i1 p.a n
  let y := interpolate i0 i1 p.b n
  let len : Rat := ((p.b - p.a : Nat) : Rat)
  let plus := posArea x y len / 800
  let minus := posArea (-x) (-y) len / 800
  let take := fun (s : Int) (area : Rat) (sg : Int) => if s * sg = 1 then area else 0
  (take p.up plus 1 + take p.dn minus (-1), take p.up plus (-1) + take p.dn minus 1)

/-! ## Integration (R190, R191) -/

/-- End of the round window that an observer accumulates: T of the next round (R178). -/
def Device.windowEnd (d : Device) : Tick := (d.packs.roundN + 1) * 800000
/-- End of the CTB second that the engine accumulates. -/
def Device.secondEnd (d : Device) : Tick := (d.packs.secN + 1) * 800000000
/-- Add a piece of a cell's interval that starts at from_ to its counters and to the charges of its window and second. -/
def Device.meterPiece (d : Device) (c : Nat) (from_ : Tick) (i0 i1 v : Rat) (n : Nat) (p : Piece) : Device :=
  let q := p.charge i0 i1 n
  let k : Rat := ((2 ^ 32 : Nat) : Rat)
  let (qd, d) := d.quant (q.1 * k)
  let (qc, d) := d.quant (q.2 * k)
  let (ed, d) := d.quant (q.1 * v / 1000 * k)
  let (ec, d) := d.quant (q.2 * v / 1000 * k)
  let net := ((qd - qc : Int) : Rat) / k / 1000000
  let late := decide (d.windowEnd ≤ from_ + p.a)
  let lateS := decide (d.secondEnd ≤ from_ + p.a)
  d.setPack c fun x => { x with
    cnt := { qDis := x.cnt.qDis + qd.toNat, qChg := x.cnt.qChg + qc.toNat, eDis := x.cnt.eDis + ed.toNat, eChg := x.cnt.eChg + ec.toNat }
    qWin := if late then x.qWin else x.qWin + net
    qNext := if late then x.qNext + net else x.qNext
    qSec := if lateS then x.qSec else x.qSec + net
    qSecN := if lateS then x.qSecN + net else x.qSecN }
/-- The cycle-start currents of an arm around the interval in flight: the last two before a load-all, shifted by one after it. -/
def Device.ivCurrents (d : Device) (arm : Nat) : Rat × Rat :=
  if d.modu.loaded then (d.packs.iPrev.getD arm 0, d.packs.iNow.getD arm 0) else (d.packs.iOld.getD arm 0, d.packs.iPrev.getD arm 0)
/-- The V_dc of an interval joins the observer windows that it overlaps; a value that is not validated keeps the window from initialising (R175, R176). -/
def Device.windowV (d : Device) (c : Nat) (from_ upTo : Tick) (v : Rat) (ok : Bool) : Device :=
  let e := d.windowEnd
  let inNow := decide (from_ < e) && decide (e < upTo + 800000)
  let inNext := decide (e < upTo)
  d.setPack c fun x => { x with
    vSum := if inNow then x.vSum + v else x.vSum
    vCnt := if inNow then x.vCnt + 1 else x.vCnt
    vWinOk := x.vWinOk && (ok || !inNow)
    vSumN := if inNext then x.vSumN + v else x.vSumN
    vCntN := if inNext then x.vCntN + 1 else x.vCntN
    vWinOkN := x.vWinOkN && (ok || !inNext)
    vHist := if ok then ((upTo, v) :: x.vHist).filter fun h => decide (((upTo : Rat) - (h.1 : Rat)) ≤ msT 1000) else x.vHist }
/-- The meter engine integrates the interval in flight of a cell, once, from the executed or, under STATUS_EST, the commanded edges (R190). -/
def Device.meterCell (d : Device) (c : Nat) (edges : List Edge) (v : Rat) (est : Bool) : Device :=
  let x := d.pack c
  let arm := d.armOf c
  let from_ := d.packs.ivFrom
  let upTo := d.packs.ivTo
  if x.metered || 3 ≤ arm || upTo ≤ from_ then d else
  let n := upTo - from_
  let i := d.ivCurrents arm
  let dt := (rround (Par.ringDeadTime d.P (c / 32) * 800)).toNat
  let used := edges.filter fun e => e.state != 7
  let blk := if d.prot.blocked && decide (d.prot.record.ctb < upTo) then d.prot.record.ctb - from_ else n
  let ps := ((((piecesFrom dt n 0 x.meterState used).flatMap (Piece.blockFrom blk)).flatMap (Piece.split (d.windowEnd - from_))).flatMap
    (Piece.split (d.secondEnd - from_))).filter fun p => decide (p.a < p.b)
  let d := ps.foldl (fun d p => d.meterPiece c from_ i.1 i.2 v n p) d
  let d := d.windowV c from_ upTo v (!est)
  let kind := d.packs.iKind.getD arm 0
  let f := ofBits [kind == 2, kind == 1, est, d.packs.iSat.getD arm false]
  let last := ((used.getLast?).map Edge.state).getD x.meterState
  d.setPack c fun x => { x with metered := true, meterState := if blk < n then 0 else last, snapFlags := x.snapFlags ||| BitVec.ofNat 8 f }
/-- Before a load-all the interval in flight is closed: cells with no validated report of it take the commanded edges (R190, R39). -/
def Device.meterClose (d : Device) : Device :=
  (List.range 384).foldl (fun d c =>
    if (d.node c).info.present && !(d.pack c).metered then d.meterCell c (d.mcell c).sentOld (d.mcell c).row.vdc true else d) d
/-- The interval that the frames of this load-all report: the cycle that ended at this cycle's start (R205). -/
def Device.meterOpen (d : Device) : Device :=
  d.setPacks fun p => { p with ivFrom := p.ivTo, ivTo := d.cycle.eK, packs := p.packs.map fun x => { x with metered := false, cntOpen := x.cnt } }
/-- The currents of the last cycle start become the older ones (R190). -/
def Device.shiftSamples (d : Device) : Device := d.setPacks fun p => { p with iOld := p.iPrev, iPrev := p.iNow }
/-- Every pack has been integrated over the interval in flight. -/
def Device.allMetered (d : Device) : Bool := (List.range 384).all fun c => !(d.node c).info.present || (d.pack c).metered
/-- A pack's counters at the newest cycle boundary to which every pack has been integrated, where they are frozen (R193, R195). -/
def Device.cntFrozen (d : Device) (c : Nat) : PackCounters := if d.allMetered then (d.pack c).cnt else (d.pack c).cntOpen
/-- Every pack has been integrated up to an instant. -/
def Device.meteredTo (d : Device) (t : Tick) : Bool :=
  decide (t ≤ d.packs.ivFrom) ||
    (decide (t ≤ d.packs.ivTo) && d.allMetered)

/-- VALIDATION_MARKER: VALID commits the provisional results of a ring's frame (12: of a Mardal block), INVALID discards them (R435). -/
def execValidationMarker (t : Tick) (ring : Fin 13) (id : BitVec 16) (valid : Bool) (s : State) : Host.Outcome State Fault Refusal :=
  s.on t fun d =>
    let mine := fun (r : ProvResult) => r.ring == ring.val && r.id == id.toNat
    let take := d.prov.filter mine
    let d := { d with prov := d.prov.filter fun r => !mine r }
    if !valid then d else
    take.foldl (fun d r => r.slots.foldl (fun d x => d.meterCell x.1 x.2.exec ((x.2.vdc : Rat) / 20) false) d) d

/-! ## Persistence (R193, R194) -/

/-- What a bank takes of a cell position. -/
def Device.bankRow (d : Device) (c : Nat) : BankRow :=
  let p := d.pack c
  let rel := match p.profile with
    | some q => if p.obs.init then p.obs.rs * 1000 / Par.profRsRef d.P q else (p.kept.map Prod.snd).getD 0
    | none => (p.kept.map Prod.snd).getD 0
  { cnt := d.cntFrozen c, ten := p.ten, soh := if p.obs.init then p.obs.soh else (p.kept.map Prod.fst).getD 0, rsRel := rel }
/-- The SHAKE256 digest of a bank's contents, over a layout that the spec does not give (R193, assumption log 141). -/
def Bank.contentDigest (b : Bank) : List (BitVec 8) :=
  let counters := fun (x : PackCounters) => [x.qDis, x.qChg, x.eDis, x.eChg]
  let row := fun (r : BankRow) => counters r.cnt ++ [r.ten.number, r.ten.ident.toNat] ++ counters r.ten.start
  shake256 (Config.bankBytes ([b.seq, b.epoch, b.snapSeq] ++ b.rows.flatMap row) (b.rows.flatMap fun r => [r.soh, r.rsRel])) 32
/-- A bank's ECC and its digest check (R194). -/
def Bank.checks (b : Bank) : Bool := b.good && b.digest == b.contentDigest
/-- A bank write begins: the bank does not check until it ends. -/
def Device.bankWrite (d : Device) : Device :=
  let m := d.meter
  let b : Bank := { Bank.reset with good := true, seq := (m.pseq + 1) % 2 ^ 32, epoch := m.epoch, snapSeq := m.snapSeq, rows := (List.range 384).map d.bankRow }
  let b := { b with digest := b.contentDigest }
  d.setMeter fun m => { m with writing := some b, pseq := (m.pseq + 1) % 2 ^ 32, banks := upd m.banks m.next fun x => { x with good := false } }
/-- CTB_SECOND: the counters, tenancies, soh and Rs are frozen once the engine has integrated the second, XCHK_I is made, and the next bank is written (R193, R189). -/
def Device.ctbSecond (d : Device) : Device :=
  let n := d.packs.secN + 1
  if !d.meteredTo (n * 800000000) then d else
  let d := (List.range 384).foldl (fun d c => d.xCheckI c n) d
  let frozen := (List.range 384).map d.cntFrozen
  let d := d.setMeter fun m => { m with frozen := frozen }
  let roll := fun (x : Pack) => { x with qSec := x.qSecN, qSecN := 0, iBms := x.iBms.filter fun v => decide (n * 800000000 ≤ v.1) }
  let d := d.setPacks fun p => { p with secN := n, packs := p.packs.map roll }
  d.bankWrite
/-- METER_BANK_WRITE_DONE: a bank write ends; one that fails its read-back is counted and raises EV_METER_PERSIST_FAIL, the second in a row is reported (R193). -/
def execMeterBankWriteDone (t : Tick) (ok : Bool) (s : State) : Host.Outcome State Fault Refusal :=
  s.on t fun d =>
    match d.meter.writing with
    | none => d
    | some b =>
      let i := d.meter.next
      let d := d.setMeter fun m => { m with writing := none, next := 1 - m.next }
      if ok then d.setMeter fun m => { m with banks := m.banks.set i b, last := i, failRun := 0 } else
      let d := d.setMeter fun m => { m with failSince := true, pfail := inc32 m.pfail, failRun := m.failRun + 1 }
      let d := d.raise "EV_METER_PERSIST_FAIL" 1 0 0 [(i : Int)]
      if d.meter.failRun = 2 then d.errReport 0x0050 0 0 0 0 else d
/-- At reset: restore from the bank with the higher sequence number that checks, raise the epoch and persist it; with none, METER_RESET (R194). -/
def Device.meterRestore (d : Device) : Device :=
  let good := (List.range 2).filter fun i => (d.meter.banks.getD i Bank.reset).checks
  let best := good.foldl (fun (a : Option Nat) i => match a with
    | none => some i
    | some j => if (d.meter.banks.getD j Bank.reset).seq < (d.meter.banks.getD i Bank.reset).seq then some i else some j) none
  match best with
  | none =>
    let d := d.setMeter fun m => { m with meterReset := true, epoch := (m.epoch + 1) % 2 ^ 32 }
    (d.raise "EV_METER_RESET" 1 0 0 []).bankWrite
  | some i =>
    let b := d.meter.banks.getD i Bank.reset
    let d := d.setMeter fun m => { m with pseq := b.seq, epoch := (b.epoch + 1) % 2 ^ 32, snapSeq := b.snapSeq, last := i, next := 1 - i }
    let put := fun (c : Nat) (x : Pack) =>
      let r := b.rows.getD c BankRow.reset
      { x with cnt := r.cnt, ten := r.ten, kept := if r.soh = 0 then none else some (r.soh, r.rsRel) }
    (d.setPacks fun p => { p with packs := p.packs.mapIdx put }).bankWrite

/-! ## The snapshot (R195, Tables 6-5a to 6-5c) -/

/-- The integer parts of the four counters, 32 bytes. -/
def PackCounters.bytes (c : PackCounters) : List (BitVec 8) :=
  [c.qDis, c.qChg, c.eDis, c.eChg].flatMap fun x => leBytes 8 (x / 2 ^ 32)
/-- The entry of a cell. -/
def Device.snapEntry (d : Device) (c : Nat) : List (BitVec 8) :=
  let p := d.pack c
  let f := (p.snapFlags.toNat % 16) + 16 * p.identUnknown.toNat + 32 * (d.mcell c).bypassed.toNat + 64 * p.ok.toNat
  leBytes 2 c ++ leBytes 1 (p.profile.getD 0xFF) ++ leBytes 1 f ++ leBytes 4 p.ten.number ++ leBytes 8 p.ten.ident.toNat ++
    (d.cntFrozen c).bytes ++ p.ten.start.bytes
/-- The header. -/
def Device.snapHeader (d : Device) (x : Snapshot) : List (BitVec 8) :=
  let m := d.meter
  let sc := d.sc 0
  [0x47, 0x58, 0x4D, 0x53] ++ leBytes 2 1 ++ leBytes 2 x.count ++ leBytes 4 m.epoch ++ leBytes 4 m.snapSeq ++ leBytes 8 d.now ++
    leBytes 8 (d.cycle.k % 2 ^ 48) ++ leBytes 6 sc.s ++ leBytes 4 sc.ns ++
    leBytes 2 (ofBits [m.meterReset, !sc.sync, m.failSince]) ++ leBytes 16 x.nonce.toNat ++ leBytes 2 x.first ++ leBytes 2 0
/-- The counters of the named cells are frozen at a cycle boundary: the record is formed, and the flags since the previous snapshot end. -/
def Device.freezeSnapshot (d : Device) : Device :=
  match d.meter.snap with
  | none => d
  | some x =>
    if x.frozen then d else
    let d := d.setMeter fun m => { m with snapSeq := (m.snapSeq + 1) % 2 ^ 32 }
    let cells := (List.range x.count).map (· + x.first)
    let rec_ := d.snapHeader x ++ cells.flatMap d.snapEntry
    let d := cells.foldl (fun d c => d.setPack c fun p => { p with snapFlags := 0 }) d
    d.setMeter fun m => { m with failSince := false, snap := some { x with frozen := true, record := rec_ } }
/-- A signature of the device key over a domain byte and bytes: its length and its zero-padded 1,280-byte field (R448). -/
def Device.sign (d : Device) (domain : Nat) (l : List (BitVec 8)) : List (BitVec 8) × List (BitVec 8) × Device :=
  let (n, d) := d.draw
  let msg := BitVec.ofNat 8 domain :: l
  let len := min (Config.signLen n msg).toNat 1280
  (leBytes 4 len, (List.range 1280).map fun i => if i < len then Config.signByte n msg i else 0, d)
/-- SNAPSHOT_SIGNED: the signed record is written and the command completes with its length and the sequence number; with a bad key store it ends with AUTH, check 6 (R195, R438). -/
def execSnapshotSigned (t : Tick) (dmaOk : Bool) (s : State) : Host.Outcome State Fault Refusal :=
  s.on t fun d =>
    match d.meter.snap with
    | none => d
    | some x =>
      if !x.frozen then d else
      let d := d.setMeter fun m => { m with snap := none }
      if d.sec.keyBad then d.complete x.hdr (.auth 6)
      else if !dmaOk then d.dmaFail.complete x.hdr (.dma 0)
      else
        let (len, sig, d) := d.sign 0x4D x.record
        let r := x.record ++ len ++ sig
        let d := d.post { HostWrite.reset with kind := 4, addr := x.addr, bytes := r }
        d.complete x.hdr (.ok (r.length + 2 ^ 32 * d.meter.snapSeq))

/-! ## Temperatures (R180, R181) -/

/-- A broken-sensor condition holds for a pack's newest temperatures. -/
def Device.tempBroken (d : Device) (c : Nat) : Bool :=
  let p := d.pack c
  let val := fun (target : Nat) => (p.field target).map fun f => f.value
  let hi := val 5
  let lo := if (d.mapOf c 6).isSome then val 6 else hi
  let out := fun (x : Option Rat) => match x with
    | none => true
    | some v => decide (v < -40) || decide (125 < v)
  let old := fun (target : Nat) => (d.mapOf c target).any fun m => d.stale c m
  ((d.mapOf c 10).isSome && (val 10).any fun x => decide (x ≠ 0)) || out hi || out lo ||
    (match hi, lo with
      | some x, some y => decide (x < y)
      | _, _ => true) || old 5 || old 6
/-- A window flag with its hysteresis. -/
def windowFlag (was : Bool) (tMax tMin lo hi hyst : Rat) : Bool :=
  if hi < tMax || tMin < lo then false else if tMax ≤ hi - hyst && lo + hyst ≤ tMin then true else was
/-- The temperature windows and the sensor check of a pack in a round; the cause TSENS ends after one full round without a condition. -/
def Device.temperatures (d : Device) (c : Nat) : Device :=
  let p := d.pack c
  match p.profile with
  | none => d
  | some q =>
    if d.tempBroken c then
      let onset := !bit p.causes.toNat 2
      let d := d.setPack c fun x => { x with chgWin := false, disWin := false, tGood := false }
      let d := d.refreshCauses c (add := 4)
      if onset then d.raise "EV_PACK_TSENSOR" 2 3 c [(c : Int)] else d
    else
      let hi := ((p.field 5).map fun f => f.value).getD 0
      let lo := if (d.mapOf c 6).isSome then ((p.field 6).map fun f => f.value).getD hi else hi
      let s := d.P
      let h := Par.profTHyst s q
      let d := d.setPack c fun x => { x with
        tMax := hi, tMin := lo, tGood := true
        chgWin := windowFlag x.chgWin hi lo (Par.profTChgLo s q) (Par.profTChgHi s q) h
        disWin := windowFlag x.disWin hi lo (Par.profTDisLo s q) (Par.profTDisHi s q) h }
      if p.tGood then d.refreshCauses c (remove := 4) else d

/-! ## The observer (R175 to R177) -/

/-- Product of two 5 × 5 matrices, or of shapes that fit. -/
def matMul (a b : List (List Rat)) : List (List Rat) :=
  let n := (b.headD []).length
  a.map fun row => (List.range n).map fun j => rsum ((row.zip b).map fun x => x.1 * x.2.getD j 0)
/-- The transpose. -/
def transpose (a : List (List Rat)) : List (List Rat) := (List.range (a.headD []).length).map fun j => a.map fun r => r.getD j 0
/-- Entry by entry. -/
def matAdd (a b : List (List Rat)) : List (List Rat) := (a.zip b).map fun r => (r.1.zip r.2).map fun x => x.1 + x.2
/-- A diagonal matrix. -/
def diag (v : List Rat) : List (List Rat) := v.mapIdx fun i x => (List.range v.length).map fun j => if i = j then x else 0
/-- exp(−dt/τ), 0 for τ = 0. -/
def decay (dt tau : Rat) : Rat := if tau = 0 then 0 else rexp (-dt / tau)
/-- The covariance an observer starts from: values that the spec does not give. -/
def startCov : List (List Rat) := (List.range 5).map fun i => (List.range 5).map fun j => Config.obsP0 i j
/-- One update of an observer (R175): profile, temperature, mean current, mean voltage, step in s; the new state and whether it counted an outlier. -/
def Observer.update (o : Observer) (ps : PSet) (q : Nat) (temp i y dt : Rat) : Observer × Bool :=
  let ra := Par.profRa ps q / 1000
  let rb := Par.profRb ps q / 1000
  let aa := decay dt (ra * Par.profCa ps q)
  let ab := decay dt (rb * Par.profCb ps q)
  let n : Rat := (Par.profNSeries ps q : Rat)
  let tbl := Par.profChem ps q
  let soc := o.soc - o.qInv * i * dt / 3600
  let va := aa * o.va + ra * (1 - aa) * i
  let vb := ab * o.vb + rb * (1 - ab) * i
  let f : List (List Rat) := [[1, 0, 0, 0, -i * dt / 3600], [0, aa, 0, 0, 0], [0, 0, ab, 0, 0], [0, 0, 0, 1, 0], [0, 0, 0, 0, 1]]
  let p := matAdd (matMul (matMul f o.p) (transpose f)) (diag [Par.obsQSoc ps, Par.obsQVa ps, Par.obsQVa ps, Par.obsQRs ps, Par.obsQCap ps])
  let socT := clampR 0 1 soc
  let yHat := n * ocv ps tbl socT temp - o.rs * i - va - vb
  let h : List Rat := [n * ocvSlope ps tbl socT temp, -1, -1, -i, 0]
  let hp := matMul [h] p
  let sv := rsum (((hp.headD []).zip h).map fun x => x.1 * x.2) + Par.obsRV ps
  let e := y - yHat
  let good := decide (e * e / sv ≤ Par.obsNisMax ps)
  let k := (matMul p (transpose [h])).map fun r => r.headD 0 / sv
  let g := fun j => k.getD j 0 * e
  let kh := k.map fun a => h.map fun b => -(a * b)
  let x : List Rat := if good then [soc + g 0, va + g 1, vb + g 2, o.rs + g 3, o.qInv + g 4] else [soc, va, vb, o.rs, o.qInv]
  let p := if good then matMul (matAdd (diag [1, 1, 1, 1, 1]) kh) p else p
  let at_ := fun j => x.getD j 0
  let ref := Par.profRsRef ps q / 1000
  let qn := Par.profQNom ps q
  let soh := 1 / (at_ 4 * qn)
  let sohC := if at_ 4 ≤ 0 then 3 / 2 else clampR (1 / 5) (3 / 2) soh
  ({ o with soc := clampR 0 1 (at_ 0), va := at_ 1, vb := at_ 2, rs := clampR (ref / 2) (4 * ref) (at_ 3)
            qInv := if sohC = soh then at_ 4 else 1 / (sohC * qn), soh := sohC, p := p }, !good)
/-- Initialise an observer where its pack has a profile and its window is complete (R176); a reinitialisation keeps Rs and the capacity. -/
def Device.obsInit (d : Device) (c : Nat) (keep : Bool) : Device :=
  let x := d.pack c
  match x.profile with
  | none => d
  | some q =>
    if !x.vWinOk || x.vCnt = 0 then d else
    let s := d.P
    let temp := (x.tMax + x.tMin) / 2
    let v := x.vSum / (x.vCnt : Rat) / (Par.profNSeries s q : Rat)
    let (soc, d) := match d.freshField c 3 with
      | some y => (y / 100, d)
      | none => d.ocvInverse (Par.profChem s q) v temp
    let ref := Par.profRsRef s q / 1000
    let qn := Par.profQNom s q
    let o := x.obs
    let start : Rat × Rat := match x.kept with
      | some k => (k.2 * ref, 1 / (k.1 * qn))
      | none => (ref, 1 / qn)
    let rs := if keep then o.rs else start.1
    let qi := if keep then o.qInv else start.2
    d.setPack c fun p => { p with obs := { p.obs with
      init := true, soc := clampR 0 1 soc, va := 0, vb := 0, rs := rs, qInv := qi, p := startCov, outliers := 0, soh := 1 / (qi * qn), skipped := false } }
/-- Divergence: the observer starts again, keeping Rs and the capacity; a second one within obs.reinit_win latches DIVERGE (R177). -/
def Device.obsDiverge (d : Device) (c : Nat) : Device :=
  let x := d.pack c
  let again := match x.obs.lastDiv with
    | none => false
    | some (t : Tick) => decide (((d.now : Rat) - (t : Rat)) ≤ sT (Par.obsReinitWin d.P))
  let d := d.setPack c fun p => { p with obs := { p.obs with init := false, outliers := 0, lastDiv := some d.now } }
  let d := d.setPacks fun p => { p with reinit := inc32 p.reinit }
  let d := d.raise "EV_OBS_REINIT" 2 3 c [(c : Int)]
  let d := if again then d.refreshCauses c (add := 128) else d
  d.obsInit c true
/-- The entry that a finished update writes into Batten's cell table, as one unit (R147, R178). -/
def Device.writeRow (d : Device) (c : Nat) : Device :=
  let p := d.pack c
  let ref := match p.profile with
    | some q => Par.profRsRef d.P q / 1000
    | none => 1
  (d.setCell c fun m => { m with row := { m.row with
    soc := p.obs.soc, soh := p.obs.soh, rsRel := p.obs.rs / ref, chgWin := p.chgWin, disWin := p.disWin, packOk := p.ok, qInv := p.obs.qInv } }).restPack c
/-- The window of an updated pack ends; that of a pack left outstanding goes on over the next (R179). -/
def Pack.rollWindow (x : Pack) (done : Bool) : Pack :=
  if done then
    { x with qWin := x.qNext, vSum := x.vSumN, vCnt := x.vCntN, vWinOk := x.vWinOkN, qNext := 0, vSumN := 0, vCntN := 0, vWinOkN := true }
  else
    { x with qWin := x.qWin + x.qNext, vSum := x.vSum + x.vSumN, vCnt := x.vCnt + x.vCntN, vWinOk := x.vWinOk && x.vWinOkN
             qNext := 0, vSumN := 0, vCntN := 0, vWinOkN := true }
/-- One pack's part of a round: temperatures, the update or initialisation, its causes and its table entry. -/
def Device.roundPack (d : Device) (c : Nat) : Device :=
  let d := d.temperatures c
  let x := d.pack c
  let d := match x.profile with
    | none => d
    | some q =>
      if !x.obs.init then d.obsInit c (x.obs.lastDiv.isSome && x.obs.rs != 0) else
      let dt : Rat := if x.obs.skipped then 2 / 1000 else 1 / 1000
      let y := if x.vCnt = 0 then (d.mcell c).row.vdc else x.vSum / (x.vCnt : Rat)
      let (o, out) := x.obs.update d.P q ((x.tMax + x.tMin) / 2) (x.qWin / dt) y dt
      let run := if out then x.obs.outliers + 1 else 0
      let d := d.setPack c fun p => { p with obs := { o with outliers := run, skipped := false } }
      if out && Par.obsNisCount d.P ≤ run then d.obsDiverge c else d
  (d.refreshCauses c).writeRow c

/-! ## The outer balance loop (R166) -/

/-- The balance loop at 1 kHz on the arm means. -/
def Device.balanceLoop (d : Device) : Device :=
  let s := (List.range 3).map d.socArm
  let mean := rsum s / 3
  let db := Par.balDb d.P
  let e := s.map fun x => if rabs (x - mean) < db then 0 else x - mean
  let g := fun i => e.getD i 0
  let eab : DQ := { d := 2 / 3 * (g 0 - (g 1 + g 2) / 2), q := (g 1 - g 2) / sqrt3 }
  let kp := Par.balKp d.P
  let m := d.modu
  let held := m.balIdle || (m.balLimited && decide (0 < eab.dot m.dpAb))
  let x := if held then m.xAb else (clampPair (m.xAb.add (eab.smul (Par.balKi d.P / 1000))) kp).1
  d.setModu fun m => { m with xAb := x, dpAb := (eab.smul kp).add x }

/-! ## Rounds (R178, R179) -/

/-- The packs that a round updates: those with a profile, in ascending cell index. -/
def Device.roundCells (d : Device) : List Nat := idx 384 fun c => (d.pack c).profile.isSome
/-- The packs still outstanding skip their round: each is counted and its next update runs over two windows; EV_OBS_ROUND_LATE, once per Zephyr round, carries the count (R179). -/
def Device.roundLate (d : Device) : Device :=
  let l := d.packs.outstanding
  if l.isEmpty then d else
  let d := l.foldl (fun d c => d.setPack c fun p => { p with obs := { p.obs with skipped := true } }) d
  let d := (d.setPacks fun p => { p with outstanding := [], obsSkipped := true, skip := sat32 (p.skip + l.length) }).hwSet 0x7000 1
  if d.host.rates.any fun r => d.counts r "EV_OBS_ROUND_LATE" 2 0 0 then d
  else d.raiseRated "EV_OBS_ROUND_LATE" 2 0 0 [(l.length : Int)]
/-- The Active sends what the observers have updated, nine packs a block (Table 10-2). -/
def Device.sendObservers (d : Device) (done : List Nat) : Device :=
  (List.range ((done.length + 8) / 9)).foldl (fun (d : Device) i =>
    let l := (done.drop (9 * i)).take 9
    d.activeSend 8 0 (80 * l.length) (.observers (l.map fun c => (c, (d.pack c).obs, (d.mcell c).row)))) d
/-- OBSERVER_ROUND_START: the next round updates every pack with a profile; stalls leave the last of them outstanding (R178, R179). us is the round's measured length. -/
def execObserverRoundStart (t : Tick) (left : Fin 385) (us : BitVec 16) (s : State) : Host.Outcome State Fault Refusal :=
  s.on t fun d =>
    let n := d.packs.roundN + 1
    if !d.meteredTo (n * 800000) then d else
    let d := d.roundLate
    -- a Standby's observers do not run while the Active's observer blocks arrive (R301)
    let adopts := d.straps.twinEn && !d.twin.active && d.twin.obsArriving
    let d := d.setTwin fun w => { w with obsArriving := false }
    let cells := if adopts then [] else d.roundCells
    let done := cells.take (cells.length - left.val)
    let rest := cells.drop (cells.length - left.val)
    let d := ((done.foldl (fun d c => d.roundPack c) d).pmcPulse 1 6 done.length).sendObservers done
    let d := ((List.range 384).filter fun c => !adopts && !cells.contains c).foldl (fun d c => d.writeRow c) d
    let roll := fun (c : Nat) (x : Pack) => x.rollWindow (!rest.contains c)
    let d := d.setPacks fun p => { p with roundN := n, outstanding := rest, roundMax := max p.roundMax us.toNat, packs := p.packs.mapIdx roll }
    d.balanceLoop
/-- OBSERVER_ROUND_LATE: the packs still outstanding skip the round; each is counted, and its next update runs over two windows (R179). -/
def execObserverRoundLate (t : Tick) (s : State) : Host.Outcome State Fault Refusal :=
  s.on t fun d =>
    if d.now < (d.packs.roundN + 1) * 800000 then d else d.roundLate

end Sys2Proof.Machine
end

