-- ==== Sys2Proof/Machine/Link.lean ====
section
/-! DEFINITION. Dunrylink as the device receives it (R201 to R230): frames, status slots, ring breaks, tunnel records, slow-channel answers, probes and lane lock. -/

namespace Sys2Proof.Machine

/-- Ring r. -/
def Device.ring (d : Device) (r : Nat) : Ring := d.link.rings.getD r Ring.reset
/-- Change ring r. -/
def Device.setRing (d : Device) (r : Nat) (f : Ring → Ring) : Device := d.setLink fun l => { l with rings := upd l.rings r f }

/-- The receivers at which a frame of each cycle is expected: both in standalone, in a pair the one of the peer's direction (R28). -/
def Device.expectsAt (d : Device) (q : Bool) : Bool := !d.straps.twinEn || d.straps.twinId != q
/-- The cells that discovery counts on a ring: the returning HOP that both directions agree on; of a pair's member, the one of the direction that it receives (R222, assumption log 144). -/
def Device.hopCount (d : Device) (r : Nat) : Option Nat :=
  let g := d.ring r
  if d.straps.twinEn then (if d.straps.twinId then g.hopRetP else g.hopRetQ)
  else if g.hopRetP = g.hopRetQ then g.hopRetP else none

/-! ## Check sums and fields (R201 to R206) -/

/-- Edge word e of ten bytes: 20 bits each, OFFSET in [16:0], STATE in [19:17]. -/
def edgeWord (bytes : List (BitVec 8)) (e : Nat) : Edge :=
  let w := bits (leVal bytes) (20 * e + 19) (20 * e)
  { off := bits w 16 0, state := bits w 19 17 }
/-- Bytes 0 to 21 of a status slot (Table 7-5). -/
def Slot.word (s : Slot) : BitVec 176 :=
  packBytes 176 (leBytes 2 s.flags.toNat ++ leBytes 2 s.vdc ++ leBytes 10 (edgeBytes s.exec) ++ leBytes 2 s.tswOn ++ leBytes 2 s.tswOff ++
    leBytes 2 (trunc 16 s.timeDiff) ++ leBytes 1 (trunc 8 s.temp) ++ leBytes 1 s.execSeq.toNat)
/-- The status fields of 24 bytes (Table 7-5). -/
def statusOf (b : List (BitVec 8)) : Slot :=
  let x := (b.drop 4).take 10
  { flags := BitVec.ofNat 16 (leField b 0 2), vdc := leField b 2 2
    exec := ((List.range 4).map (edgeWord x)).filter fun e => e.state != 7
    tswOn := leField b 14 2, tswOff := leField b 16 2, timeDiff := sext 16 (leField b 18 2), temp := sext 8 (leField b 20 1)
    execSeq := BitVec.ofNat 8 (leField b 21 1) }
/-- A slot as its sender filled it: zeros, with the inverse of the correct CRC (R206). -/
def slotEmpty (pre b : List (BitVec 8)) : Bool :=
  leVal (b.take 22) == 0 && leField b 22 2 == 0xFFFF - crc16 (pre ++ b.take 22)

/-! ## What a validated status does (R208, Table 5-3) -/

/-- EV_LINK_ERR of a ring: kinds 0 frame CRC, 1 slot CRC, 2 late frame, 3 discard (R229). -/
def Device.linkErr (d : Device) (r kind lane : Nat) : Device := d.raiseRated "EV_LINK_ERR" (4 + r / 6) 2 r [(r : Int), (kind : Int), (lane : Int)]
/-- A DESAT onset of a cell: counted; enough in one arm, or in two arms, in one reported interval trip (R245). -/
def Device.desatOnset (d : Device) (c : Nat) (seq : BitVec 16) : Device :=
  let p := d.prot
  let base := if p.desatSeq = seq then p.desatArms else [0, 0, 0]
  let l := upd base (d.armOf c) (· + 1)
  let d := d.setProt fun p => { p with desatCnt := inc32 p.desatCnt, desatArms := l, desatSeq := seq }
  let arms := ofBits (l.map fun n => n != 0)
  if l.any fun n => decide (Par.protDesatArmMax d.P ≤ n) then d.desatTrip arms
  else if !oneArm arms && arms != 0 then d.desatTrip arms else d
/-- TIME_DIFF of a status: the largest of the round is kept, one beyond link.time_diff_max raises EV_CELL_TIME_DIFF (R229). -/
def Device.timeDiff (d : Device) (c : Nat) (v : Int) : Device :=
  let a := v.natAbs
  let d := if d.link.tdMaxNow < a then d.setLink fun l => { l with tdMaxNow := a, tdCellNow := c } else d
  if Par.linkTimeDiffMax d.P * 100 < (a : Rat) then d.raiseRated "EV_CELL_TIME_DIFF" (4 + c / 32 / 6) 2 (c / 32) [(c : Int), v] else d
/-- The first bypass cause in a status: 1 MISMATCH, 2 DESAT, 3 DRV_FAULT, 4 CHOP_ESC, 6 S24_OK = 0 in the cell test (Table 5-3, R359). -/
def bypassCause (flags : BitVec 16) (test : Bool) : Option Nat :=
  if flags.getLsbD 5 then some 2 else if flags.getLsbD 6 then some 3 else if flags.getLsbD 7 then some 4
  else if flags.getLsbD 9 then some 1 else if test && !flags.getLsbD 8 then some 6 else none
/-- Two validated copies of one status: bytes 2 to 21 and the state now from the P copy, the other flags from both (R208). -/
def mergeSlots (old new : Slot) (newIsP : Bool) : Slot :=
  let base := if newIsP then new else old
  { base with flags := (base.flags &&& 7) ||| ((old.flags ||| new.flags) &&& 0xFFF8) }
/-- A status's V_dc and BS_LOW in the cell table, with the rests that they start (R147, Table 5-3). -/
def Device.tableStatus (d : Device) (c vdc : Nat) (low : Bool) : Device :=
  (d.setCell c fun m => { m with
    bsLow := low
    restBs := if low && m.restBs.isNone then some 0 else m.restBs
    row := { m.row with vdc := (vdc : Rat) / 20 } }).restPack c
/-- A validated status of a cell is used (R208): merged with the copy of the other direction, cell voltage, rests, onsets, bypass, TIME_DIFF. -/
def Device.useStatus (d : Device) (c : Nat) (seq : BitVec 16) (slot : Slot) (isP late : Bool) : Device :=
  let nv := d.node c
  let again := match nv.last with
    | some old => if nv.lastSeq = seq then some old else none
    | none => none
  let x := match again with
    | some old => mergeSlots old slot isP
    | none => slot
  let bits3 : BitVec 3 := BitVec.ofNat 3 (bits x.flags.toNat 7 5)
  let onset : BitVec 3 := bits3 &&& ~~~nv.latched
  let d := d.setNode c fun n => { n with last := some x, lastSeq := seq, fromP := isP || (again.isSome && n.fromP), fresh := n.fresh || !late, latched := bits3 }
  let d := d.onFrameOf seq fun f => { f with status := (c, x.word) :: f.status.filter fun y => y.1 != c }
  let st := (d.pack c).meterState
  let low := x.flags.getLsbD 4
  let d := d.setCell c fun m => { m with
    state0 := if again.isNone && !(d.pack c).metered then st else m.state0
    missRun := 0 }
  -- one validated after E(k + 1) serves from the next cycle on (R220)
  let d := if late then d.setNode c fun n => { n with lateRow := some (x.vdc, low) } else d.tableStatus c x.vdc low
  let d := if onset.getLsbD 0 then d.desatOnset c seq else d
  let d := if onset.getLsbD 2 then d.setProt fun p => { p with chopCnt := inc32 p.chopCnt } else d
  let d := match bypassCause x.flags (d.conv.state == stStandby && d.conv.phase == 6) with
    | some k => d.bypass c k
    | none => d
  let d := if x.flags.getLsbD 3 then d.bpClosed c else d
  d.timeDiff c x.timeDiff

/-! ## Tunnel records and slow-channel answers (R223 to R225) -/

/-- A tunnel record of a frame whose CRC holds. -/
def tunnelOf (seq ring : Nat) (b : List (BitVec 8)) : Option TunRec :=
  let f := leField b 1 1
  let id := leField b 2 4
  if leField b 0 1 = 0xFF || leField b 18 2 ≠ crc16 (recPrefix seq ring ++ b.take 18) then none else
  some { owner := leField b 0 1, up := bit f 0, ide := bit f 1, dlc := bits f 7 4, canId := BitVec.ofNat 29 id, data := packBytes 64 ((b.drop 6).take 8)
         stamp := BitVec.ofNat 32 (leField b 14 4) }
/-- The full CTB of a STAMP: the last instant up to the frame's arrival with those low bits (R224). -/
def Device.fullStamp (d : Device) (stamp : BitVec 32) : Tick := d.now - (2 ^ 32 + d.now - stamp.toNat) % 2 ^ 32
/-- An uplink record: the second copy is discarded by position and STAMP, the first is decoded (R224). -/
def Device.uplink (d : Device) (r : Nat) (x : TunRec) : Device :=
  let c := 32 * r + x.owner
  if !x.up || 32 ≤ x.owner || (d.node c).stamps.contains x.stamp then d else
  let d := d.setNode c fun n => { n with stamps := (x.stamp :: n.stamps).take 128 }
  d.bmsFrame c x (d.fullStamp x.stamp)
/-- The slow channel of a frame, where its CRC holds. -/
def slowOf (seq ring : Nat) (b : List (BitVec 8)) : Option SlowReq :=
  if leField b 62 2 ≠ crc16 (recPrefix seq ring ++ b.take 62) then none else
  some { target := leField b 0 1, op := leField b 1 1, addr := leField b 2 2, len := leField b 4 1, tag := leField b 5 1, data := packBytes 384 ((b.drop 6).take 48) }
/-- Bytes of an answer's data. -/
def SlowReq.bytes (x : SlowReq) : List (BitVec 8) := (leBytes 48 x.data.toNat).take (min x.len 48)
/-- An answer belongs to a request: the same node, address, length and tag, with a response code. -/
def SlowReq.answers (x req : SlowReq) : Bool :=
  x.target == req.target && x.addr == req.addr && x.len == req.len && x.tag == req.tag && decide (0x80 ≤ x.op)
/-- A slow-channel request. -/
def slowReq (target op addr len : Nat) (data : List (BitVec 8)) : SlowReq :=
  { target := target, op := op, addr := addr, len := len, tag := 0, data := packBytes 384 data }
/-- The values that preload writes to 0x0020 to 0x0029 of a node (R225, R258): CHOP_ON and CHOP_OFF keep the protocol value while the cell has no profile (assumption log 47). -/
def Device.preloadBytes (d : Device) (c : Nat) : List (BitVec 8) :=
  let p := d.P
  let dt := (rround (Par.ringDeadTime p (c / 32) * 800)).toNat
  let t1 := (rround (Par.protStoT1 p * 800)).toNat
  let volts := fun (rel : Rat) => match d.profileFor c with
    | none => 0xFFFF
    | some q => (rround (Par.profVMax p q * 20 * rel)).toNat
  leBytes 2 dt ++ leBytes 2 t1 ++ leBytes 2 (Par.protStoLevel p) ++ leBytes 2 (volts (Par.protChopOnRel p)) ++ leBytes 2 (volts (Par.protChopOffRel p))
/-- PRELOAD_CRC of the bytes written: CRC-16 over 0x0020 to 0x002F, the rest 0. -/
def preloadCrc (l : List (BitVec 8)) : Nat := crc16 (l ++ List.replicate (16 - l.length) 0)
/-- The transaction of a ring in discovery and preload (R222, R358): in DISCOVER one register read per position; in PRELOAD RUN_EN = 0 for all, then per node the reads, the writes, PRELOAD_CRC and RUN_EN = 1. -/
def Device.enumReq (d : Device) (r : Nat) : Option SlowReq :=
  let g := d.ring r
  if d.conv.phase = 1 then
    if g.preStep < (d.hopCount r).getD 0 && g.preStep < 32 then some (slowReq g.preStep 1 0 32 []) else none
  else if d.conv.phase = 3 && !g.excluded then
    if g.preStep = 0 then some (slowReq 0xFE 2 0x32 1 [0]) else
    let pos := (g.preStep - 1) / 4
    if g.found ≤ pos then none else
    match (g.preStep - 1) % 4 with
    | 0 => some (slowReq pos 1 0 32 [])
    | 1 => some (slowReq pos 2 0x20 10 (d.preloadBytes (32 * r + pos)))
    | 2 => some (slowReq pos 1 0x30 2 [])
    | _ => some (slowReq pos 2 0x32 1 [1])
  else none
/-- The registers 0x0000 to 0x001F of a node as read (Table 7-8). -/
def Device.takeInfo (d : Device) (c : Nat) (b : List (BitVec 8)) : Device :=
  let q := fun (off : Nat) => ((leField b off 4 : Nat) : Rat) / 65536
  d.setNode c fun n => { n with info := { n.info with
    caps := BitVec.ofNat 16 (leField b 10 2), resP := q 0x10, resQ := q 0x14, hopP := q 0x18, hopQ := q 0x1C } }
/-- A node that is absent (R358): it belongs to no arm. -/
def Device.nodeAbsent (d : Device) (r pos : Nat) : Device :=
  let d := d.setNode (32 * r + pos) fun n => { n with info := { n.info with present := false, runEn := false } }
  d.setRing r fun g => { g with preStep := 4 * (pos + 1) + 1, preTry := 0, preMiss := 0 }
/-- A node's answer shows that it holds what preload writes to cell c (R225). -/
def Device.preloadHeld (d : Device) (c : Nat) (x : SlowReq) : Bool := x.op == 0x81 && leVal x.bytes == preloadCrc (d.preloadBytes c)
/-- An answer to the ring's enumeration transaction: the next one follows; a wrong version, an error or a second PRELOAD_CRC mismatch makes the node absent. -/
def Device.enumAnswer (d : Device) (r : Nat) (x : SlowReq) : Device :=
  let g := d.ring r
  let next := fun (d : Device) => d.setRing r fun g => { g with preStep := g.preStep + 1, preMiss := 0 }
  if d.conv.phase = 1 then
    next (if x.op = 0x81 then d.takeInfo (32 * r + g.preStep) x.bytes else d)
  else
    let pos := (g.preStep - 1) / 4
    let c := 32 * r + pos
    match (g.preStep - 1) % 4 with
    | 0 =>
      if x.op ≠ 0x81 || leField x.bytes 8 2 ≠ 1 then d.nodeAbsent r pos else next (d.takeInfo c x.bytes)
    | 1 => if x.op = 0x82 then next d else d.nodeAbsent r pos
    | 2 =>
      if d.preloadHeld c x then next (d.setNode c fun n => { n with info := { n.info with preloaded := true } })
      else if g.preTry = 0 then d.setRing r fun g => { g with preTry := 1, preStep := 4 * pos + 2, preMiss := 0 }
      else d.nodeAbsent r pos
    | _ =>
      if x.op ≠ 0x82 then d.nodeAbsent r pos else
      next ((d.setNode c fun n => { n with info := { n.info with runEn := true } }).setRing r fun g => { g with preTry := 0 })
/-- A host transaction ends on its node's answer: data to the host buffer and the bytes read, 0 for a write; an address error is refused with 1, an access error with 2 (R225, R329). -/
def Device.txnAnswer (d : Device) (t : NodeTxn) (x : SlowReq) : Device :=
  let d := d.setLink fun l => { l with txns := l.txns.erase t }
  if x.op = 0x81 then
    (d.post { HostWrite.reset with kind := 4, addr := t.addr, bytes := x.bytes }).complete t.hdr (.ok x.bytes.length)
  else if x.op = 0x82 then d.complete t.hdr (.ok 0)
  else d.complete t.hdr (.refused (if x.op = 0xC0 then 1 else 2))
/-- The slow channel of a returned frame: it answers the enumeration, the verification of PRELOAD_CRC or a host transaction, whichever the frame carried. The device keeps what the verification found; the spec gives it no further effect (assumption log 143). -/
def Device.slowAnswer (d : Device) (r : Nat) (sent x : SlowReq) : Device :=
  if !x.answers sent then d else
  match d.enumReq r with
  | some q => if x.answers q then d.enumAnswer r x else d
  | none =>
    if d.link.crcVerify == some (r, x.target) && x.addr == 0x30 then
      let c := 32 * r + x.target
      let held := d.preloadHeld c x
      (d.setLink fun l => { l with crcVerify := none }).setNode c fun n => { n with info := { n.info with preloaded := held } }
    else
      match d.link.txns.find? fun t => t.ring == r && t.sentSeq.isSome && x.answers t.req with
      | some t => d.txnAnswer t x
      | none => d

/-! ## Ring breaks (R220) -/

/-- What the direction of a returned frame shows: a carried-back frame begins a break; every direction that the device receives, returning, ends it. -/
def Device.ringReturn (d : Device) (r : Nat) (dir lane : Bool) (filled : List Nat) : Device :=
  if dir ≠ lane then
    let d := d.setRing r fun g => { g with gotP := g.gotP || !lane, gotQ := g.gotQ || lane }
    if (d.ring r).wrap then d else
    let last := if !dir then filled.getLast? else match filled.head? with
      | some p => if p = 0 then none else some (p - 1)
      | none => none
    let d := d.setRing r fun g => { g with wrap := true, breakPos := last }
    d.raise "EV_RING_WRAP" (4 + r / 6) 2 r [(r : Int), ((last.getD 255 : Nat) : Int)]
  else
    let d := d.setRing r fun g => { g with
      gotP := g.gotP || !lane, gotQ := g.gotQ || lane, dirP := g.dirP || !lane, dirQ := g.dirQ || lane
      pRet := g.pRet || !lane, qRet := g.qRet || lane }
    let g := d.ring r
    if g.wrap && (g.dirP || !d.expectsAt false) && (g.dirQ || !d.expectsAt true) then
      (d.setRing r fun g => { g with wrap := false, breakPos := none }).raise "EV_RING_HEAL" (4 + r / 6) 2 r [(r : Int)]
    else d

/-! ## A returning frame (R208) -/

/-- Everything a frame whose check sums hold brings: return time, ring state, statuses, tunnel records, the slow channel. -/
def Device.takeFrame (d : Device) (r : Nat) (lane : Bool) (sent : TxFrame) (b : List (BitVec 8)) : Device :=
  let f1 := leField b 1 1
  let dir := bit f1 4
  let seqN := leField b 2 2
  let seq := BitVec.ofNat 16 seqN
  let late := !d.modu.loaded
  let laneN := lane.toNat
  let slots := (List.range 32).map fun p => (p, (b.drop (672 + 24 * p)).take 24)
  let pre := fun (p : Nat) => recPrefix seqN r ++ leBytes 1 p
  let good := slots.filter fun x => leField x.2 22 2 == crc16 (pre x.1 ++ x.2.take 22)
  let bad := slots.filter fun x => leField x.2 22 2 != crc16 (pre x.1 ++ x.2.take 22) && !slotEmpty (pre x.1) x.2
  let (ns, d) := d.quant (((d.now - sent.tTx : Nat) : Rat) * 5 / 4)
  let ret := min ns.toNat 65535
  let d := (d.setRing r fun g => { g with ret := ret }).setLink fun l => { l with retMax := max l.retMax ret }
  let d := (d.ringReturn r dir lane (good.map Prod.fst)).stamp 6 id
  let d := (d.pmcPulse (3 + r / 6) 1 1).pmcPulse (3 + r / 6) 3 bad.length
  let d := if late then (d.setRing r fun g => { g with late := inc16 g.late }).linkErr r 2 laneN else d
  let d := bad.foldl (fun d _ => (d.setRing r fun g => if lane then { g with scrcQ := inc16 g.scrcQ } else { g with scrcP := inc16 g.scrcP }).linkErr r 1 laneN) d
  let d := if leField b 0 1 = 2 && dir = lane then
      let hop := leField b 24 1
      d.setRing r fun g => if lane then { g with hopRetQ := some hop } else { g with hopRetP := some hop }
    else d
  let use := (good.filter fun x => (d.node (32 * r + x.1)).info.present && !(d.ring r).excluded).map fun x => (32 * r + x.1, statusOf x.2)
  let d := use.foldl (fun d x => d.useStatus x.1 seq x.2 (!dir) late) d
  let d := d.mdlSend 7 r 768 (.statuses ((b.drop 672).take 768))
  let held := use.map fun x => (x.1, ((d.node x.1).last).getD x.2)
  let d := if held.isEmpty then d else { d with prov := d.prov ++ [{ ring := r, id := seqN, slots := held }] }
  let tun := (List.range 6).filterMap fun j => tunnelOf seqN r ((b.drop (1440 + 20 * j)).take 20)
  let d := (tun.foldl (fun d x => d.uplink r x) d).pmcPulse (3 + r / 6) 7 tun.length
  match slowOf seqN r ((b.drop 1560).take 64) with
  | some x => d.slowAnswer r sent.slow x
  | none => d
/-- A command frame that the peer launched at the previous load-all: a valid HCRC, ACTIVE = 1 and a non-empty slot (R304). -/
def Device.peerLaunched (d : Device) (r : Nat) (frame : List (BitVec 8)) : Bool :=
  let f1 := leField frame 1 1
  d.straps.twinEn && leField frame 30 2 == crc16 (frame.take 24) && bits f1 3 0 == r && bit f1 5 != d.straps.twinId && bit f1 6 && leField frame 0 1 == 1 &&
    (d.link.tx.any fun x => x.seq.toNat == leField frame 2 2) && (List.range 32).any fun p => leVal ((frame.drop (32 + 20 * p)).take 18) != 0
/-- RETURNING_FRAME: the 1,628 bytes of a frame at a ring's P or Q receiver. A failing frame CRC is counted and the frame contributes nothing; a header that fails, or a SEQ that is not the last launched, is discarded (R203, R208, R229). -/
def execReturningFrame (t : Tick) (ring : Fin 12) (lane : Bool) (frame : List (BitVec 8)) (s : State) : Host.Outcome State Fault Refusal :=
  s.on t fun d =>
    let r := ring.val
    let laneN := lane.toNat
    if d.ringNone r then d else
    let d := if d.peerLaunched r frame then d.setTwin fun w => { w with peerFrame := true } else d
    if frame.length ≠ 1628 || leField frame 1624 4 ≠ crc32 (frame.take 1624) then
      (d.setRing r fun g => if lane then { g with fcrcQ := inc16 g.fcrcQ } else { g with fcrcP := inc16 g.fcrcP }).linkErr r 0 laneN |>.pmcPulse (3 + r / 6) 2 1
    else
      let f1 := leField frame 1 1
      let head := leField frame 30 2 == crc16 (frame.take 24) && bits f1 3 0 == r && (leField frame 0 1 == 1 || leField frame 0 1 == 2)
      match d.link.tx.find? fun x => x.ring == r && x.seq.toNat == leField frame 2 2 with
      | some sent =>
        if !head then d.linkErr r 3 laneN else d.takeFrame r lane sent frame
      | none => d.linkErr r 3 laneN
/-- PRQ_RECEIVED: the device answers a hop-delay probe with a PRS of the same tag exactly t_turn (512 ns) later, on the out-lane towards the prober (R214). -/
def execPrqReceived (t : Tick) (ring : Fin 12) (lane : Bool) (tag : BitVec 8) (s : State) : Host.Outcome State Fault Refusal :=
  s.on t fun d => if d.ringNone ring then d else d.setLink fun l => { l with prsTag := some (ring.val, lane, tag.toNat, d.now) }
/-- RING_LANE_LOCK_CHANGE: a receive lane gains or loses symbol lock (R230); the lanes of a ring set to none are powered down (R25). -/
def execRingLaneLockChange (t : Tick) (ring : Fin 12) (lane : Bool) (lock : Bool) (s : State) : Host.Outcome State Fault Refusal :=
  s.on t fun d => if d.ringNone ring then d else d.setRing ring fun g => if lane then { g with qLock := lock } else { g with pLock := lock }

end Sys2Proof.Machine
end

