-- ==== Sys2Proof/Machine/Startup.lean ====
section
/-! DEFINITION. Resets, boot and bring-up, enumeration and the charge sequence (R346 to R360, R444, R445, R484, R499). -/

namespace Sys2Proof.Machine

/-! ## Firmware images (R444, R445) -/

/-- The number of the first check of R445 that an image fails, 0 if it passes, for a set of revoked key indices and an anti-rollback counter. -/
def imageCheck (revoked : BitVec 4) (rbc : Nat) (b : List (BitVec 8)) : Nat :=
  let len := leField b 16 4
  let key := leField b 6 2
  let pub := (b.drop 96).take 1793
  let sigLen := leField b 1892 4
  let body := (b.drop 4096).take len
  if leField b 0 4 ≠ 0x57465847 || leField b 4 2 ≠ 1 || len = 0 || 12 * 2 ^ 20 - 4096 < len || b.length < 4096 + len then 1
  else if 4 ≤ key || bit revoked.toNat key || shake256 pub 32 ≠ Config.romDigest key then 2
  else if shake256 body 64 ≠ (b.drop 24).take 64 then 3
  else if 1280 < sigLen || !Config.vendorVerify pub (b.take 96) ((b.drop 1896).take sigLen) then 4
  else if leField b 12 2 < rbc then 5
  else 0
/-- What a slot keeps of an image. -/
def imageHdr (b : List (BitVec 8)) (pass : Bool) : ImageHdr :=
  { written := true, pass := pass, keyIdx := leField b 6 2, version := BitVec.ofNat 32 (leField b 8 4), rollback := leField b 12 2, header := b.take 96 }
/-- A slot passes now: its image passed when it was written, its key is not revoked and its rollback index is high enough. -/
def Sec.slotPasses (s : Sec) (x : ImageHdr) : Bool := x.written && x.pass && !bit s.revoked.toNat x.keyIdx && decide (s.rbc ≤ x.rollback)
/-- Slot i, 0 for A and 1 for B. -/
def Device.slot (d : Device) (i : Nat) : ImageHdr := d.sec.slots.getD i ImageHdr.reset

/-! ## Device reset and boot (R350 to R353) -/

/-- Run the image of a slot. -/
def Device.bootImage (d : Device) (i : Nat) (other : Bool) : Device :=
  let x := d.slot i
  let d := d.setConv fun c => { c with booted := true, bootSlot := i == 1, otherPass := other, recovery := none, bootAt := d.now }
  { d with sec := { d.sec with imgKey := x.keyIdx, imgRollback := x.rollback, imgVersion := x.version } }
/-- ROM_BOOT: the boot source of the straps; of the slots that pass the one with the higher version, A at equal versions; with none, recovery over PCI Express (R351, R352). skip excludes a slot (R353). -/
def Device.romBoot (d : Device) (skip : Option Nat) : Device :=
  let ok := fun (i : Nat) => d.sec.slotPasses (d.slot i) && skip != some i
  let none_ := d.setConv fun c => { c with recovery := some 0, booted := false }
  match d.straps.bootSel.toNat with
  | 0 =>
    match ok 0, ok 1 with
    | true, true => if (d.slot 0).version < (d.slot 1).version then d.bootImage 1 true else d.bootImage 0 true
    | true, false => d.bootImage 0 false
    | false, true => d.bootImage 1 false
    | false, false => none_
  | 1 => if ok 0 then d.bootImage 0 (d.sec.slotPasses (d.slot 1)) else none_
  | 2 => none_
  | _ => d.setConv fun c => { c with recovery := some 1, booted := false }
/-- Islands 0 to 7 and 9 at their reset values. Kept: island 8, the magnetoresistive store, the instants of the timebase, the rails, what has been posted to the host, the count of fall-backs (Table 12-1). Fall-back ends (R268). -/
def Device.cleared (d : Device) : Device :=
  let z := Device.reset
  let f := d.safety
  { z with
    now := d.now
    fresh := d.fresh
    straps := d.straps
    safety := { f with
      fallback := false, fbCause := 0, pVector := 0, pDiffFrom := none, hbAt := f.hbAt
      demands := f.demands.filter fun x => x.src != 6 && x.src != 7 && x.src != 9 && x.src != 11
      slpReduced := false, slpLimit := 0, slpTarget := 0, slpStep := 0, slpPower := 0, slpDemand := false, slpFrom := none, slpSum := [], pvHold := false
      sciOffAt := none, sciCells := [], sciConf := 0, sciUncf := 0, sciMask := Safety.reset.sciMask }
    parCopies := d.parCopies
    meter := { z.meter with banks := d.meter.banks, meterReset := d.meter.meterReset }
    prot := { z.prot with gateStore := d.prot.gateStore }
    eh := { z.eh with store := d.eh.store, storeSeq := d.eh.storeSeq }
    sec := { z.sec with slots := d.sec.slots, revoked := d.sec.revoked, rbc := d.sec.rbc, dbgCnt := d.sec.dbgCnt, disabled := d.sec.disabled }
    conv := { z.conv with bootFalls := d.conv.bootFalls, bslReset := d.conv.bslReset }
    host := { z.host with outbox := d.host.outbox }
    recd := { z.recd with wiped := true }
    zep := { z.zep with drift := { z.zep.drift with lfsr := BitVec.ofNat 32 (leVal (shake256 (identity ++ [0x44]) 4)) } }
    rails := d.rails }
/-- Bailsil waits for the heartbeats that a boot begins anew (Table 12-3). -/
def Device.awaitBeats (d : Device) : Device := { d with safety := { d.safety with hbOn := false } }
/-- A device reset and the boot that follows it. -/
def Device.deviceReset (d : Device) (skip : Option Nat) : Device := d.cleared.awaitBeats.romBoot skip
/-- DEVICE_RESET: power-on of the core rails (power), or RESET_N low; the straps are read at its release (R350, R351, R496). -/
def execDeviceReset (t : Tick) (power : Bool) (twinId twinEn : Bool) (bootSel : BitVec 2) (s : State) : Host.Outcome State Fault Refusal :=
  s.on t fun d =>
    let d := { d with straps := { twinId := twinId, twinEn := twinEn, bootSel := bootSel } }
    let d := if power then ({ d with rails := Rails.reset } : Device).setConv fun c => { c with bootFalls := 0, devReset := false } else d
    -- a supervisor that holds the reset keeps it (R484)
    if d.conv.devReset then d.cleared.setConv fun c => { c with devReset := true, booted := false } else d.deviceReset none
/-- BOOT_WATCHDOG_EXPIRY: OFF is not reached in 2 s; once per power-on the ROM resets the device and boots the other passing slot, a second expiry leaves it in recovery over PCI Express (R353). -/
def execBootWatchdogExpiry (t : Tick) (s : State) : Host.Outcome State Fault Refusal :=
  s.on t fun d =>
    if !d.conv.booted || d.conv.up || d.conv.devReset || !d.past d.conv.bootAt (sT 2) then d else
    let was := if d.conv.bootSlot then 1 else 0
    let falls := d.conv.bootFalls
    let other := d.sec.slotPasses (d.slot (1 - was)) && d.straps.bootSel == 0
    let d := (d.cleared.awaitBeats).setConv fun c => { c with bootFalls := falls + 1 }
    if falls = 0 && other then
      let d := d.romBoot (some was)
      { d with conv := { d.conv with fallbackTaken := true }, sec := { d.sec with fallImage := true } }
    else d.setConv fun c => { c with recovery := some 0, booted := false }
/-- Boot an image that recovery brought, after the reset that follows it; one that fails a check leaves the ROM in recovery (R351, R352, R499). -/
def Device.recover (d : Device) (b : List (BitVec 8)) : Device :=
  if imageCheck d.sec.revoked d.sec.rbc b ≠ 0 then d else
  let x := imageHdr b true
  let d := d.cleared.awaitBeats.setConv fun c => { c with booted := true, bootAt := d.now }
  { d with sec := { d.sec with recImage := true, imgKey := x.keyIdx, imgRollback := x.rollback, imgVersion := x.version } }
/-- RECOVERY_IMAGE_LENGTH_WRITE: the write of the length starts the checks on the image in the window, which Soffit segment 1 on backs; a length of 0 or above 12 MiB is ignored (R499). -/
def execRecoveryImageLengthWrite (t : Tick) (len : BitVec 32) (s : State) : Host.Outcome State Fault Refusal :=
  s.on t fun d =>
    if d.conv.recovery ≠ some 0 || len = 0 || 12 * 2 ^ 20 < len.toNat then d else d.recover (d.soffit (2 ^ 20) len.toNat)
/-- MANAGEMENT_UART_RECOVERY: an image received over the management UART (R351). -/
def execManagementUartRecovery (t : Tick) (image : List (BitVec 8)) (s : State) : Host.Outcome State Fault Refusal :=
  s.on t fun d => if d.conv.recovery ≠ some 1 then d else d.recover image

/-! ## Bring-up (R354, Table 12-3) -/

/-- The dies that a bring-up step tests. -/
def stepDies (step : Nat) : List Nat := [[6], [0], [1, 2], [5], [3, 4], [], []].getD step []
/-- Bailsil takes the safety set that is in force on Ridge (R293, assumption log 145). -/
def Device.safetyCopy (d : Device) : Device :=
  let set := d.P.filter fun x => pClass x.1 == 0x0A
  { d with safety := { d.safety with par := set } }
/-- Restore the gate-strength means and baselines (R257); a code starts at its baseline, rounded to the nearest step (R255), which TRP_GATE_CODE then shows (R263). -/
def Device.gateRestore (d : Device) : Device :=
  let start := fun (k : GateStore) => match k.base with
    | some b => (min 31 (max 0 (rround b))).toNat
    | none => Par.gdCodeInit d.P
  let one := fun (g : Gate) (k : GateStore) => { g with mean := k.mean, base := k.base, code := start k }
  let l := (d.prot.gates.zip d.prot.gateStore).map fun x => (one x.1.1 x.2.1, one x.1.2 x.2.2)
  let d := d.setProt fun p => { p with gates := l }
  d.setProt fun p => { p with gateRegs := upd p.gateRegs 0 fun _ => d.gateCodeWord p.gateSel }
/-- Restore the error log: the sequence continues from the highest number restored (R441). -/
def Device.logRestore (d : Device) : Device :=
  d.setEh fun e => { e with log := e.store, restored := !e.store.isEmpty, logNext := match e.storeSeq with
    | some n => n + 1
    | none => e.logNext }
/-- OFF is entered: the firmware runs, a boot fall-back is reported, and the level is evaluated at the next boundary. -/
def Device.enterOff (d : Device) : Device :=
  let d := d.setConv fun c => { c with up := true, state := stOff }
  let d := d.setHost fun h => { h with fwRunning := true }
  if d.conv.fallbackTaken then d.raise "EV_BOOT_FALLBACK" 0 0 0 [] else d
/-- What a step does beside its tests: the heartbeats begin, Batten's sources take the SPI input (R276), parameters, meters, gate baselines and the log are restored, then OFF is entered. -/
def Device.stepWork (d : Device) (step : Nat) : Device :=
  if step = 5 then
    let d := d.loadParams.safetyCopy.meterRestore.gateRestore.logRestore.newForce []
    let d := d.clkoutCommit.setLaw fun l => { l with st := { l.st with rv := Par.gfRv d.P, xv := Par.gfXv d.P, rampLeft := 0 } }
    let d := { d with sec := { d.sec with storeRead := true, debug := if d.sec.disabled then 2 else d.sec.debug } }
    (List.range 16).foldl (fun d i => d.refreshTin i) d
  else if step = 1 then { d with safety := { d.safety with hbOn := true, hbAt := d.now } }
  else if step = 2 && (d.safety.fns.getD 0 false || d.safety.safeHold || d.safety.inReset || d.conv.bslReset) then d.inputActive 41 { arms := 7 }
  else if step = 6 then d.enterOff
  else d
/-- BRING_UP_STEP_DONE: the next step of Table 12-3 completes its self-tests; each failing die raises EV_SELFTEST_FAIL with its test number and is reported (R354, code 0x0081). The first step waits for the PLLs. -/
def execBringUpStepDone (t : Tick) (fail : BitVec 8) (test : BitVec 8) (s : State) : Host.Outcome State Fault Refusal :=
  s.on t fun d =>
    let n := d.conv.upStep
    if !d.conv.booted || d.conv.up || d.conv.devReset || (n == 0 && !(d.clk.plls.all Pll.locked)) then d else
    let d := (stepDies n).foldl (fun d die =>
      if fail.getLsbD die then (d.raise "EV_SELFTEST_FAIL" 0 0 die [(die : Int), (test.toNat : Int)]).errReport 0x0081 die 0 0 test.toNat
      else d.setConv fun c => { c with dies := c.dies ||| BitVec.ofNat 8 (2 ^ die) }) d
    (d.stepWork n).setConv fun c => { c with upStep := n + 1 }

/-! ## Rail supervisors (R484) -/

/-- The rails whose supervisor holds a device reset: VDD_CORE, VDD_SRAM, VDD_SD, VDD_SOF, VDDIO, VDD33, in the order of R471. -/
def coreRails : List Nat := [0, 1, 2, 3, 5, 6]
/-- AVDD5 below its threshold declares REF_FAULT on every group. -/
def Device.refFaultAll (d : Device) : Device := (List.range 4).foldl (fun d g => d.refFault g) d
/-- A rail stands below its threshold, or has recovered. -/
def Device.setLow (d : Device) (v : Nat) (low : Bool) : Device := { d with rails := { d.rails with low := upd d.rails.low v fun _ => low } }

/-! ## Enumeration (R222, R358) -/

/-- A ring's budget of R221 with the values its nodes reported: the number of the first failing condition, and D_f in ns. -/
def Device.ringTiming (d : Device) (r n : Nat) : Nat × Rat :=
  let ns := (List.range n).map fun p => (d.node (32 * r + p)).info
  let fwd := ns.foldl (fun m x => max m (max x.resP x.resQ)) 0
  let last := match ns.getLast? with
    | some x => x.hopQ
    | none => 0
  let df := rsum (ns.map fun x => x.hopP) + last
  let N : Rat := (n : Rat)
  if 3600 < (33 + 20 * N) * 2 + (N - 1) * fwd + df then (1, df)
  else if 6200 < 3260 + N * fwd + df then (2, df) else (0, df)
/-- COMPARE of one ring: cells found, DISC_FAULT, the timing, use with fewer cells or exclusion (reasons 1 more cells, 2 DISC_FAULT, 3 TIMING_FAIL). -/
def Device.compareRing (d : Device) (r : Nat) : Device :=
  let expect := Par.ringCellsExpected d.P r
  let g := d.ring r
  if Par.ringArm d.P r = 3 then d else
  let fault := (d.hopCount r).isNone || decide (32 < (d.hopCount r).getD 0)
  let n := min ((d.hopCount r).getD (g.hopRetP.getD (g.hopRetQ.getD 0))) 33
  let (cond, df) := d.ringTiming r (min n 32)
  let d := d.setRing r fun g => { g with discDone := true, discFault := fault, found := n, timingFail := if fault then 0 else cond, df := df, preStep := 0, preTry := 0, preMiss := 0 }
  let d := if !fault && cond ≠ 0 then d.raise "EV_RING_TIMING" (4 + r / 6) 2 r [(r : Int), (cond : Int)] else d
  let reason := if fault then 2 else if cond ≠ 0 then 3 else if expect < n then 1 else 0
  if reason ≠ 0 then
    ((d.setRing r fun g => { g with excluded := true }).setConv fun c => { c with ringx := c.ringx ||| BitVec.ofNat 12 (2 ^ r) }).raise
      "EV_RING_EXCLUDED" 0 2 r [(r : Int), (reason : Int)]
  else
    let d := (List.range n).foldl (fun d p => d.setNode (32 * r + p) fun x => { x with info := { x.info with present := true } }) d
    if n < expect then
      (d.setConv fun c => { c with ringFew := c.ringFew ||| BitVec.ofNat 12 (2 ^ r) }).raise "EV_ENUM_MISMATCH" 0 2 r [(r : Int), (n : Int), (expect : Int)]
    else d
/-- ENUM_DISCOVER_DONE: after link.disc_cycles discovery frames every ring is compared (phase 2), and PRELOAD begins (R358). -/
def execEnumDiscoverDone (t : Tick) (s : State) : Host.Outcome State Fault Refusal :=
  s.on t fun d =>
    if d.conv.phase ≠ 1 || d.link.discLeft ≠ 0 then d else
    let d := d.setConv fun c => { c with phase := 2 }
    let d := (List.range 12).foldl (fun d r => d.compareRing r) d
    d.setConv fun c => { c with phase := 3, phaseFrom := d.now, phaseCyc := 0 }
/-- PRELOAD is complete on every ring in use. -/
def Device.preloadDone (d : Device) : Bool :=
  (List.range 12).all fun r =>
    let g := d.ring r
    Par.ringArm d.P r == 3 || g.excluded || decide (4 * g.found < g.preStep)
/-- ENUM_PRELOAD_DONE: preload of the nodes ends and MATCH begins: cells under automatic assignment wait for their frames (R188, R358). -/
def execEnumPreloadDone (t : Tick) (s : State) : Host.Outcome State Fault Refusal :=
  s.on t fun d =>
    if d.conv.phase ≠ 3 || !d.preloadDone then d else
    let d := d.setPacks fun p => { p with packs := p.packs.map fun x => { x with assigned := none, matched := [] } }
    d.setConv fun c => { c with phase := 4, phaseFrom := d.now, phaseCyc := 0 }
/-- ENUM_MATCH_END: every cell under automatic assignment is assigned, or st.match_time has passed; cells without a profile have cause NOPROF, and STANDBY follows at the boundary (R358). -/
def execEnumMatchEnd (t : Tick) (s : State) : Host.Outcome State Fault Refusal :=
  s.on t fun d =>
    let open_ := (List.range 384).any fun c => (d.node c).info.present && Par.packProfile d.P c == 8 && (d.pack c).assigned.isNone
    if d.conv.phase ≠ 4 || (open_ && !d.past d.conv.phaseFrom (sT (Par.stMatchTime d.P))) then d
    else d.noProfiles.setConv fun c => { c with trigSeq := some (stStandby, 1) }

/-! ## The charge sequence (R359) -/

/-- The cells of the used rings. -/
def Device.usedCells (d : Device) : List Nat := (List.range 3).flatMap d.armCells
/-- A cell is ready for the test: PACK_OK, and V_dc within its profile's limits. -/
def Device.cellReady (d : Device) (c : Nat) : Bool := (d.mcell c).row.packOk && (d.node c).last.isSome && !d.vdcOutside c
/-- PRE_CHARGE begins, or is skipped with st.pc_v = 0. -/
def Device.preChargeStart (d : Device) : Device :=
  if Par.stPcV d.P = 0 then d.setConv fun c => { c with trigSeq := some (stCharged, 2) }
  else d.setConv fun c => { c with phase := 7, phaseFrom := d.now, phaseCyc := 0, pcStep := 0 }
/-- CHARGE_CONTACT_END: every cell of the used rings is ready, or st.contact_max has passed (R359). -/
def execChargeContactEnd (t : Tick) (s : State) : Host.Outcome State Fault Refusal :=
  s.on t fun d =>
    let ready := d.usedCells.all d.cellReady
    if d.conv.state ≠ stStandby || d.conv.phase ≠ 5 || d.conv.resumeDue || (!ready && !d.past d.conv.phaseFrom (sT (Par.stContactMax d.P))) then d
    else if d.anyUndervoltage then d.chargeFail 1
    else if Par.stTestEn d.P then d.setConv fun c => { c with phase := 6, phaseFrom := d.now, phaseCyc := 0 }
    else d.preChargeStart
/-- CHARGE_CELL_TEST_END: after the 4 cycles of the test (R359). -/
def execChargeCellTestEnd (t : Tick) (s : State) : Host.Outcome State Fault Refusal :=
  s.on t fun d =>
    if d.conv.state ≠ stStandby || d.conv.phase ≠ 6 || d.conv.phaseCyc < 5 then d
    else if d.anyUndervoltage then d.chargeFail 1
    else d.preChargeStart
/-- Every converter-side voltage stream lies within st.pc_tol of the commanded phase voltage. -/
def Device.preChargeOk (d : Device) : Bool :=
  let E := (d.axis true).pos
  let v := d.role (Par.gfStreamVConv d.P) d.vBase
  let want := (phaseAngles d.grid.tr.thetaK.toNat).map fun th => E * d.wave th
  (List.range 3).all fun x =>
    let m := v.getD x (0, false)
    m.2 && decide (rabs (m.1 - want.getD x 0) ≤ Par.stPcTol d.P)
/-- PRE_CHARGE_DWELL_END: after st.pc_dwell at st.pc_v the voltages are checked, and E ramps back to 0 (R359). -/
def execPreChargeDwellEnd (t : Tick) (s : State) : Host.Outcome State Fault Refusal :=
  s.on t fun d =>
    if !d.preCharging || d.conv.pcStep ≠ 1 || !d.past d.conv.phaseFrom (msT (Par.stPcDwell d.P)) then d
    else if !d.preChargeOk then d.chargeFail 2
    else d.setConv fun c => { c with pcStep := 2 }

end Sys2Proof.Machine
end

