-- ==== Sys2Proof/Machine/Bailsil.lean ====
section
/-! DEFINITION. The safety functions on Bailsil and channel P (R264 to R289): inputs, demands, latches, resets, outputs and their tests, fall-back, SCI, SLP, the safe channel. -/

namespace Sys2Proof.Machine

/-- Safety input n. -/
def Device.sin (d : Device) (n : Nat) : SafeIn := d.safety.ins.getD n SafeIn.reset
/-- Change safety input n. -/
def Device.setSin (d : Device) (n : Nat) (f : SafeIn → SafeIn) : Device := d.setSaf fun s => { s with ins := upd s.ins n f }
/-- Safety output n. -/
def Device.sout (d : Device) (n : Nat) : SafeOut := d.safety.outs.getD n SafeOut.reset
/-- Change safety output n. -/
def Device.setSout (d : Device) (n : Nat) (f : SafeOut → SafeOut) : Device := d.setSaf fun s => { s with outs := upd s.outs n f }
/-- Change the safe channel. -/
def Device.setSafe (d : Device) (f : SafeConn → SafeConn) : Device := d.setSaf fun s => { s with sc := f s.sc }
/-- The latch of a function: 0 SPI, 1 SBT0, 2 SBT1, 3 SCI. -/
def Safety.latched (s : Safety) (fn : Nat) : Bool := s.fns.getD fn false

/-! ## Outputs (R265, R273) -/

/-- An output's role lets it be energised (Table 9-2). -/
def Device.roleOn (d : Device) (n : Nat) : Bool :=
  let f := d.safety
  match Par.safSoutFunc d.safety.par n with
  | 1 => !f.latched 1
  | 2 => !f.latched 2
  | 3 => !f.sciDone
  | 4 => !(f.fns.any id) && !f.fallback
  | _ => false
/-- A switch check that is due begins: its output has a role and Bailsil runs (R273, R274). -/
def Device.startChecks (d : Device) : Device :=
  (List.range 6).foldl (fun (d : Device) n =>
    let x := d.sout n
    if x.checking && x.checkFrom.isNone && !x.faulty && d.bslRuns && Par.safSoutFunc d.safety.par n != 0 then d.setSout n fun x => { x with checkFrom := some d.now } else d) d
/-- The switches that a running check holds on: HS alone for saf.test_w, then LS alone for saf.test_w (R274). -/
def Device.checkSwitches (d : Device) (x : SafeOut) : Bool × Bool :=
  match x.checkFrom with
  | none => (false, false)
  | some f =>
    let w := usT (Par.safTestW d.safety.par)
    let e : Rat := (d.now : Rat) - (f : Rat)
    (decide (e < w), decide (w ≤ e) && decide (e < 2 * w))
/-- The switches of every output after a change: on where the role, FAULTY, the switch check and a running test allow; a demand in a test voids it (R275). -/
def Device.driveOutputs (d : Device) : Device :=
  (List.range 6).foldl (fun (d : Device) n =>
    let x := d.sout n
    let on := d.bslRuns && d.roleOn n && !x.faulty && x.checked
    let chk := d.checkSwitches x
    let hs := (on && !(x.testing && !x.testLs)) || (d.bslRuns && chk.1)
    let ls := (on && !(x.testing && x.testLs)) || (d.bslRuns && chk.2)
    let rose := hs && ls && !(x.hs && x.ls)
    d.setSout n fun x => { x with hs := hs, ls := ls, testVoid := x.testVoid || (x.testing && !on), onFrom := if rose then d.now else x.onFrom }) d.startChecks

/-! ## Demands and latches (R276, R279, R281) -/

/-- A demand source of a function is active. -/
def Device.hasDemand (d : Device) (fn src : Nat) : Bool := d.safety.demands.any fun x => x.fn == fn && x.src == src
/-- A function is latched by a source: EV_SAFE_DEMAND once per latch set. -/
def Device.latchFn (d : Device) (fn src : Nat) : Device :=
  if d.safety.latched fn then d else
  let d := d.setSaf fun s => { s with fns := upd s.fns fn fun _ => true, demandCnt := inc32 s.demandCnt }
  d.raise "EV_SAFE_DEMAND" 8 7 fn [(fn : Int), (src : Int)]
/-- One demand, without what SCI adds: the latch; of SPI also a Squall and the input of source 41. -/
def Device.demandOne (d : Device) (fn src : Nat) : Device :=
  if d.hasDemand fn src then d else
  let d := d.setSaf fun s => { s with demands := s.demands ++ [{ DemandSrc.reset with fn := fn, src := src, since := d.now }] }
  let d := d.latchFn fn src
  if fn = 0 then
    if (d.srcAt 41).active then d.squallTrigger else d.inputActive 41 { arms := 7 }
  else d
/-- A demand of a function by a source becomes active; SCI first latches SPI and starts its delay (R279). -/
def Device.demandOn (d : Device) (fn src : Nat) : Device :=
  if d.hasDemand fn src then d else
  if fn = 3 then
    let was := d.safety.latched 3
    let d := (d.demandOne 0 8).demandOne 3 src
    let d := if was then d else d.setSaf fun s => { s with sciFrom := some d.now }
    d.driveOutputs
  else (d.demandOne fn src).driveOutputs
/-- A demand source ends; with the last SCI demand the SPI demand that it made. -/
def Device.demandOff (d : Device) (fn src : Nat) : Device :=
  let d := d.setSaf fun s => { s with demands := s.demands.filter fun x => !(x.fn == fn && x.src == src) }
  if fn = 3 && !(d.safety.demands.any fun x => x.fn == 3) then d.setSaf fun s => { s with demands := s.demands.filter fun x => !(x.fn == 0 && x.src == 8) } else d
/-- A demand source at a level. -/
def Device.demandSet (d : Device) (fn src : Nat) (on : Bool) : Device := if on then d.demandOn fn src else d.demandOff fn src
/-- A reset (R281): rejected while a demand source of a latched function is active, otherwise every latch clears at once. Answers whether it was rejected. -/
def Device.safetyReset (d : Device) : Device × Bool :=
  let f := d.safety
  if !(f.fns.any id) && !f.resetRequired then (d, false)
  else if f.demands.any fun x => f.latched x.fn then
    ((d.setSaf fun s => { s with rej := inc32 s.rej }).raiseRated "EV_SAFE_RESET_REJECTED" 8 7 0 [], true)
  else
    let d := d.setSaf fun s => { s with fns := s.fns.map fun _ => false, resetRequired := false, sciFrom := none, sciDone := false }
    let d := d.raise "EV_SAFE_RESET" 8 7 0 []
    let d := (d.inputInactive 41).setSrc 41 fun s => { s with latch := 0 }
    (d.driveOutputs, false)

/-! ## Inputs (R269 to R272) -/

/-- TPA, or TPB, shows a pulse that began no longer ago than so many µs. -/
def Device.testPulse (d : Device) (tpb : Bool) (us : Rat) : Bool :=
  (if tpb then d.safety.tpb else d.safety.tpa).any fun (t : Tick) => decide (((d.now : Rat) - (t : Rat)) < usT us)
/-- The level of pin TPA, or TPB: high while Bailsil runs, but for the 50 µs of its pulse (R272, R487). -/
def Device.testPin (d : Device) (tpb : Bool) : Bool := d.bslRuns && !d.testPulse tpb 50
/-- The levels of an input as its evaluation takes them: the low level of a pulsed channel is masked in its own source's pulse and for 5 µs after it (R272). -/
def Device.sinLevels (d : Device) (n : Nat) : Bool × Bool :=
  let x := d.sin n
  if Par.safSinType d.safety.par n = 3 then (x.a || d.testPulse false 55, x.b || d.testPulse true 55) else (x.a, x.b)
/-- A channel of an input demands, by its type. -/
def Device.sinChannels (d : Device) (n : Nat) : Bool :=
  let (a, b) := d.sinLevels n
  match Par.safSinType d.safety.par n with
  | 0 => false
  | 2 => !a || b
  | _ => !a || !b
/-- The two channels of an input agree. -/
def Device.sinAgree (d : Device) (n : Nat) : Bool :=
  let (a, b) := d.sinLevels n
  match Par.safSinType d.safety.par n with
  | 0 => true
  | 2 => a != b
  | _ => a == b
/-- An input demands: a channel does, it is FAULTY, or its channels have not agreed since the Bailsil reset (R269, R271). -/
def Device.sinDemands (d : Device) (n : Nat) : Bool :=
  Par.safSinType d.safety.par n != 0 && (d.sinChannels n || (d.sin n).faulty || !(d.sin n).settled)
/-- The limit of SLP that an input or the safe channel asks for: reduced or not (R280). -/
def Device.slpWanted (d : Device) : Bool :=
  ((List.range 4).any fun n => bit (Par.safSinFunc d.safety.par n) 4 && d.sinDemands n) || (Par.safScEnable d.safety.par && !d.safety.sc.permit.getLsbD 4)
/-- An input becomes FAULTY, once. Causes: 0 discrepancy, 1 chatter, 2 own pulse missing, 3 cross-circuit. -/
def Device.sinFault (d : Device) (n cause : Nat) : Device :=
  if (d.sin n).faulty then d else
  (d.setSin n fun x => { x with faulty := true }).raise "EV_SIN_FAULT" 8 7 n [(n : Int), (cause : Int)]
/-- The reset function of an input: held while the input demands; its release after 50 ms to 3 s is a reset (R281). -/
def Device.sinReset (d : Device) (n : Nat) : Device :=
  let x := d.sin n
  if !bit (Par.safSinFunc d.safety.par n) 5 || x.faulty || !x.settled then d.setSin n fun x => { x with resetFrom := none } else
  match x.resetFrom, d.sinChannels n with
  | none, true => d.setSin n fun x => { x with resetFrom := some d.now }
  | some f, false =>
    let d := d.setSin n fun x => { x with resetFrom := none }
    let held : Rat := (d.now : Rat) - (f : Rat)
    if msT 50 ≤ held && held ≤ sT 3 then d.safetyReset.1 else d
  | _, _ => d
/-- Transitions of an input's evaluated levels are noted, and 16 of a channel within 100 ms make it FAULTY; a low that is masked is no transition (R271, R272). -/
def Device.sinTransitions (d : Device) (n : Nat) : Device :=
  let x := d.sin n
  let (a, b) := d.sinLevels n
  if a = x.seenA && b = x.seenB then d else
  let note := fun (moved : Bool) (l : List Tick) => if moved then noteTransition l d.now 16 else l
  let ta := note (a != x.seenA) x.transA
  let tb := note (b != x.seenB) x.transB
  let d := d.setSin n fun x => { x with seenA := a, seenB := b, transA := ta, transB := tb, lastTrans := d.now }
  let full := fun (moved : Bool) (l : List Tick) => moved && chatters l 16 (msT 100)
  if Par.safSinType d.safety.par n ≠ 0 && (full (a != x.seenA) ta || full (b != x.seenB) tb) then d.sinFault n 1 else d
/-- The inputs are evaluated: transitions, agreement after a Bailsil reset, discrepancy's start, demands, SLP reduction, resets. -/
def Device.evalInputs (d : Device) : Device :=
  if !d.bslRuns then d else
  let d := (List.range 4).foldl (fun (d : Device) n =>
    let d := d.sinTransitions n
    let agree := d.sinAgree n
    let span := msT (Par.safSinDiscTime d.safety.par n)
    let d := d.setSin n fun x => { x with
      discFrom := if agree then none else some (x.discFrom.getD d.now)
      settled := x.settled || (agree && d.past x.lastTrans span) }
    let on := d.sinDemands n
    let d := (List.range 4).foldl (fun d fn => d.demandSet fn n (on && bit (Par.safSinFunc d.safety.par n) fn)) d
    d.sinReset n) d
  d.setSaf fun s => { s with slpReduced := d.slpWanted }
/-- The threshold of a channel's filter in ns (R270). -/
def Device.sinFilter (d : Device) (n : Nat) (chB : Bool) : Rat :=
  let frac := clampR 0 1 (Config.sinThreshold (2 * n + chB.toNat))
  match Par.safSinFilt d.safety.par n with
  | 0 => 0
  | 1 => 200 + 50 * frac
  | _ => 800 + 200 * frac
/-- SAFETY_INPUT_CHANGE: a channel's pin shows a level that it has held, or will hold, for so many ns; from its filter's threshold on, it is the filtered level (R269 to R271). -/
def execSafetyInputChange (t : Tick) (n : Fin 4) (chB level : Bool) (heldNs : Rat) (s : State) : Host.Outcome State Fault Refusal :=
  s.on t fun d =>
    let d := d.setSaf fun f => if chB then { f with pinsB := upd f.pinsB n fun _ => level } else { f with pinsA := upd f.pinsA n fun _ => level }
    let x := d.sin n
    if heldNs < d.sinFilter n chB || !d.bslRuns || (if chB then x.b else x.a) = level then d else
    let edge := fun (want : Bool) (old : Option Tick) => if level = want then some d.now else old
    (d.setSin n fun x =>
      if chB then { x with b := level, fellB := edge false x.fellB, roseB := edge true x.roseB }
      else { x with a := level, fellA := edge false x.fellA, roseA := edge true x.roseA }).evalInputs
/-- SIN_DISCREPANCY: the channels have disagreed for longer than saf.sin[n].disc_time (R271). -/
def execSinDiscrepancy (t : Tick) (n : Fin 4) (s : State) : Host.Outcome State Fault Refusal :=
  s.on t fun d =>
    match (d.sin n).discFrom with
    | none => d
    | some f => if d.bslRuns && d.pastBeyond f (msT (Par.safSinDiscTime d.safety.par n)) then (d.sinFault n 0).evalInputs else d
/-- TPA_TPB_TEST_PULSE: every 10 ms TPA, and 5 ms after it TPB, drops low for 50 µs; the channels it feeds mask their low level (R272). -/
def execTpaTpbTestPulse (t : Tick) (tpb : Bool) (s : State) : Host.Outcome State Fault Refusal :=
  s.on t fun d =>
    let f := d.safety
    let due := fun (last : Option Tick) => last.isNone || d.pastOpt last (msT 10)
    if !d.bslRuns || !due (if tpb then f.tpb else f.tpa) || (tpb && !d.pastOpt f.tpa (msT 5)) then d else
    (d.setSaf fun f => if tpb then { f with tpb := some d.now } else { f with tpa := some d.now }).evalInputs
/-- A channel has missed a pulse that began at p: the pulse is over, and the channel stands high without having fallen since (R272). -/
def Device.pulseMissed (d : Device) (p : Tick) (level : Bool) (fell : Option Tick) : Bool :=
  d.past p (usT 50) && level && !(fell.any fun (f : Tick) => decide (p ≤ f))
/-- A channel shows a low of less than 60 µs inside a pulse that began at p. -/
def crossLow (p : Tick) (level : Bool) (fell rose : Option Tick) : Bool :=
  match fell, rose with
  | some f, some r => level && decide (p ≤ f) && decide (((f : Rat) - (p : Rat)) < usT 50) && decide (f ≤ r) && decide (((r : Rat) - (f : Rat)) < usT 60)
  | _, _ => false
/-- SIN_PULSE_MISSED: a channel of a pulsed input is looked at for its own pulse, or for a cross-circuit in the other source's; where it missed the one or shows the other, the input is FAULTY (R272). -/
def execSinPulseMissed (t : Tick) (n : Fin 4) (chB cross : Bool) (s : State) : Host.Outcome State Fault Refusal :=
  s.on t fun d =>
    let x := d.sin n
    let level := if chB then x.b else x.a
    let fell := if chB then x.fellB else x.fellA
    let rose := if chB then x.roseB else x.roseA
    match if chB != cross then d.safety.tpb else d.safety.tpa with
    | none => d
    | some p =>
      if !d.bslRuns || Par.safSinType d.safety.par n ≠ 3 then d
      else if cross then (if crossLow p level fell rose then (d.sinFault n 3).evalInputs else d)
      else if d.pulseMissed p level fell then (d.sinFault n 2).evalInputs else d

/-! ## Output tests (R274, R275) -/

/-- A fault of an output: both switches off, FAULTY, EV_SOUT_FAULT with 0 HS, 1 LS or 2 open. -/
def Device.soutFault (d : Device) (n sw : Nat) : Device :=
  let d := d.setSout n fun x => { x with faulty := true, testing := false, checking := false, checkFrom := none, checked := false, repeat_ := false }
  d.driveOutputs.raise "EV_SOUT_FAULT" 8 7 n [(n : Int), (sw : Int)]
/-- TEST_PULSE_START: n × 16 ms after a CTB multiple of 100 ms an energised output has one switch turned off (R274). -/
def execTestPulseStart (t : Tick) (n : Fin 6) (s : State) : Host.Outcome State Fault Refusal :=
  s.on t fun d =>
    let x := d.sout n
    if !d.bslRuns || !(x.hs && x.ls) || x.testing || d.now % 80000000 ≠ n * 12800000 then d else
    (d.setSout n fun x => { x with testing := true, testFrom := d.now, testVoid := false, repeat_ := false }).driveOutputs
/-- TEST_PULSE_END: after saf.test_w the switch turns on again, unless a demand fell into the test, whose result is then discarded and the test repeated (R274, R275). -/
def execTestPulseEnd (t : Tick) (n : Fin 6) (pass : Bool) (s : State) : Host.Outcome State Fault Refusal :=
  s.on t fun d =>
    let x := d.sout n
    if !d.bslRuns || !x.testing || !d.past x.testFrom (usT (Par.safTestW d.safety.par)) then d else
    let d := d.setSout n fun x => { x with testing := false, testVoid := false }
    if x.testVoid then ((d.setSout n fun x => { x with repeat_ := true }).setSaf fun f => { f with tdisc := inc16 f.tdisc }).driveOutputs
    else if pass then ((d.setSout n fun x => { x with testLs := !x.testLs }).setSaf fun f => { f with tests := inc32 f.tests }).driveOutputs
    else (d.setSaf fun f => { f with tfail := inc16 f.tfail }).soutFault n x.testLs.toNat
/-- SOUT_READBACK_MISMATCH: an output read on while it is commanded off, with the switch that it shows, or read off for longer than saf.test_w while commanded on (R274). -/
def execSoutReadbackMismatch (t : Tick) (n : Fin 6) (on ls : Bool) (s : State) : Host.Outcome State Fault Refusal :=
  s.on t fun d =>
    let x := d.sout n
    let cmd := x.hs && x.ls
    if !d.bslRuns || x.faulty || Par.safSoutFunc d.safety.par n = 0 || cmd = on then d
    else if on then d.soutFault n ls.toNat
    else if d.pastBeyond x.onFrom (usT (Par.safTestW d.safety.par)) then d.soutFault n 2 else d
/-- SWITCH_CHECK_DONE: HS alone and then LS alone have been on for saf.test_w; a passing check lets the output energise, and a switch whose turn is over or running fails it (R274). -/
def execSwitchCheckDone (t : Tick) (n : Fin 6) (pass ls : Bool) (s : State) : Host.Outcome State Fault Refusal :=
  s.on t fun d =>
    let x := d.sout n
    let w := usT (Par.safTestW d.safety.par)
    if !d.bslRuns || !x.checking || x.faulty then d
    else if pass then
      (if d.pastOpt x.checkFrom (2 * w) then (d.setSout n fun x => { x with checking := false, checkFrom := none, checked := true }).driveOutputs else d)
    else if d.pastOpt x.checkFrom (if ls then w else 0) then d.soutFault n ls.toNat else d

/-! ## Comparison, heartbeat, fall-back (R266 to R268) -/

/-- The connection under a new saf.sc_enable: DISABLED, without a demand of the channel, or from DISABLED to START (R287, R288). -/
def Device.scFollow (d : Device) : Device :=
  if !Par.safScEnable d.safety.par then
    if d.safety.sc.state = 0 then d else
    let d := d.setSafe fun c => { c with state := 0, expired := 0, permit := SafeConn.reset.permit, resetBit := false }
    (List.range 4).foldl (fun d fn => (d.demandOff fn 4).demandOff fn 5) d
  else if d.safety.sc.state = 0 then d.setSafe fun c => { c with state := 1 }
  else d
/-- An expired connection returns to START (R287, R288); it shows EXPIRED until the next comparison of A and B (assumption log 148). -/
def Device.scReturn (d : Device) : Device := if d.safety.sc.state = 3 then d.setSafe fun c => { c with state := 1 } else d
/-- CHANNEL_COMPARISON: every 1 µs A and B compare their images and B checks the oscillator; the second failure in a row of either puts Bailsil into safe hold (R266). -/
def execChannelComparison (t : Tick) (differs oscBad : Bool) (s : State) : Host.Outcome State Fault Refusal :=
  s.on t fun d =>
    if !d.bslRuns then d else
    let d := d.setSaf fun f => { f with abDiff := if differs then f.abDiff + 1 else 0, oscBad := if oscBad then f.oscBad + 1 else 0 }
    if 2 ≤ d.safety.abDiff || 2 ≤ d.safety.oscBad then d.bailsilSafeHold else (d.scReturn.scFollow.evalInputs).driveOutputs
/-- Fall-back with its cause: 1 heartbeat, 2 lockstep, 3 disagreement (R268); a device held in reset reports nothing. -/
def Device.fallBack (d : Device) (cause : Nat) : Device :=
  if d.safety.fallback || !d.bslRuns then d else
  let d := d.setSaf fun f => { f with fallback := true, fbCause := cause, pDiffFrom := none, demands := f.demands.filter fun x => x.src != 11 }
  let d := if d.conv.devReset then d else ((d.setEh fun e => { e with stopped := true }).raise "EV_SAFE_FALLBACK" 8 7 0 [(cause : Int)]).msix 12
  let d := d.demandOn 0 6
  (List.range 2).foldl (fun d b => if bit (Par.safFbSbt d.safety.par) b then d.demandOn (1 + b) 6 else d) d
/-- The functions that P demands where it evaluates as A and B do, from its copy of the inputs and of the safe channel, its SLP monitor and SAFE-HOLD (Table 9-1). -/
def Device.ownVector (d : Device) : BitVec 4 :=
  BitVec.ofNat 4 (ofBits ((List.range 4).map fun fn => d.safety.demands.any fun x => x.fn == fn && x.src != 11))
/-- HEARTBEAT: P's demand vector and a sequence number; a number that does not move on is no valid heartbeat (R267). flip: the functions in which P's evaluation differs from that of A and B; what P alone demands acts as a demand while it lasts. P demands SPI for SLP and, from the next heartbeat on, where a failed die gives SAFE-HOLD (R280, R437). -/
def execHeartbeat (t : Tick) (flip : BitVec 4) (seq : Nat) (s : State) : Host.Outcome State Fault Refusal :=
  s.on t fun d =>
    if d.safety.fallback || !d.bslRuns || seq = d.safety.hbSeq then d else
    let d := d.demandSet 0 9 d.safety.pvHold
    let own := d.ownVector
    let p := own ^^^ flip
    let d := d.setSaf fun f => { f with hbSeq := seq, hbAt := d.now, pVector := p, pDiffFrom := if flip = 0 then none else some (f.pDiffFrom.getD d.now) }
    (List.range 4).foldl (fun d fn => d.demandSet fn 11 (p.getLsbD fn && !own.getLsbD fn)) d
/-- HEARTBEAT_TIMEOUT: no valid heartbeat for 50 µs, once P has begun to send them (Table 12-3), also while a supervisor holds the device in reset (R485). -/
def execHeartbeatTimeout (t : Tick) (s : State) : Host.Outcome State Fault Refusal :=
  s.on t fun d => if d.safety.hbOn && d.past d.safety.hbAt (usT 50) then d.fallBack 1 else d
/-- LOCKSTEP_MISMATCH: a lockstep mismatch in the safety pair. -/
def execLockstepMismatch (t : Tick) (s : State) : Host.Outcome State Fault Refusal := s.on t fun d => d.fallBack 2
/-- CHANNEL_DISAGREEMENT_TIMEOUT: P has differed from both A and B for 1 ms without a break. -/
def execChannelDisagreementTimeout (t : Tick) (s : State) : Host.Outcome State Fault Refusal :=
  s.on t fun d => if d.pastOpt d.safety.pDiffFrom (msT 1) then d.fallBack 3 else d

/-! ## SCI and SLP (R279, R280) -/

/-- SCI_DELAY_EXPIRY: saf.sci.delay after the demand the role-3 outputs are de-energised, and the cells to confirm are counted. -/
def execSciDelayExpiry (t : Tick) (s : State) : Host.Outcome State Fault Refusal :=
  s.on t fun d =>
    if !d.bslRuns || !d.pastOpt d.safety.sciFrom (msT (Par.safSciDelay d.safety.par)) then d else
    let cells := d.usedCells
    (d.setSaf fun f => { f with sciFrom := none, sciDone := true, sciOffAt := some d.now, sciCells := cells }).driveOutputs
/-- The class of a counted cell at the end of the confirmation: 0 confirmed, 1 unconfirmed, 2 unconfirmable. -/
def Device.sciClass (d : Device) (c : Nat) (off : Tick) : Nat :=
  if d.safety.fallback then 1 else
  match d.mapOf c 14 with
  | none => 2
  | some m =>
    match (d.pack c).field 14 with
    | none => 1
    | some f => if f.value = 0 && decide (off < f.stamp) && !d.stale c m then 0 else 1
/-- SCI_CONFIRM_EXPIRY: saf.sci.confirm after the de-energisation the cells are counted: EV_SCI_DONE, and EV_SCI_UNCONFIRMED for each unconfirmed one. -/
def execSciConfirmExpiry (t : Tick) (s : State) : Host.Outcome State Fault Refusal :=
  s.on t fun d =>
    match d.safety.sciOffAt with
    | none => d
    | some off =>
      if !d.past off (sT (Par.safSciConfirm d.P)) then d else
      let cls := d.safety.sciCells.map fun c => (c, d.sciClass c off)
      let of := fun (k : Nat) => (cls.filter fun x => x.2 == k).map Prod.fst
      let un := of 1
      let mask := (List.range 12).map fun r => BitVec.ofNat 32 (ofBits ((List.range 32).map fun p => un.contains (32 * r + p)))
      let d := d.setSaf fun f => { f with sciOffAt := none, sciConf := (of 0).length, sciUncf := (of 2).length, sciMask := mask }
      let d := d.raise "EV_SCI_DONE" 0 7 0 [((of 0).length : Int), (un.length : Int), ((of 2).length : Int)]
      un.foldl (fun d c => d.raise "EV_SCI_UNCONFIRMED" 0 3 c [(c : Int)]) d
/-- The powers of a cycle that channel P averages, of the line currents: with the main and with the second current sensors, in pu, and whether every stream is valid. -/
def Device.slpSample (d : Device) : Device :=
  let v := d.role (Par.gfStreamVPcc d.P) d.vBase
  let a := d.lines (d.role (Par.gfStreamIMain d.P) d.iBase)
  let b := d.lines (d.role (Par.gfStreamISec d.P) d.iBase)
  let p := fun (i : List (Rat × Bool)) => rsum ((v.zip i).map fun x => x.1.1 * x.2.1) * 2 / 3
  let ok := v.all Prod.snd && a.all Prod.snd && b.all Prod.snd
  d.setSaf fun s => { s with slpSum := (p a, p b, ok) :: s.slpSum }
/-- SLP_MONITOR: every 1 ms the monitor's limit and the mean power of the last 1 ms are evaluated; beyond the limit for saf.slp.time channel P demands SPI (R280). -/
def execSlpMonitor (t : Tick) (s : State) : Host.Outcome State Fault Refusal :=
  s.on t fun d =>
    if d.safety.fallback || !d.conv.up then d else
    let f := d.safety
    let target := if f.slpReduced then Par.safSlpLimitLo d.P else Par.safSlpLimitHi d.P
    let ramp := Par.safSlpRamp d.P
    let step := if target = f.slpTarget then f.slpStep else if target < f.slpLimit && ramp ≠ 0 then (f.slpLimit - target) / ramp else 0
    let limit := if f.slpLimit ≤ target || step = 0 then target else max target (f.slpLimit - step)
    let n : Rat := f.slpSum.length
    let mean := fun (g : Rat × Rat × Bool → Rat) => if n = 0 then 0 else rsum (f.slpSum.map g) / n
    let a := mean fun x => x.1
    let b := mean fun x => x.2.1
    let p := if rabs a < rabs b then b else a
    let ovr := n = 0 || (f.slpSum.any fun x => !x.2.2) || decide (limit < rabs p)
    let d := d.setSaf fun f => { f with
      slpLimit := limit, slpTarget := target, slpStep := step, slpPower := p, slpSum := []
      slpFrom := if ovr then some (f.slpFrom.getD d.now) else none }
    if d.pastOpt d.safety.slpFrom (msT (Par.safSlpTime d.P)) then
      if d.safety.slpDemand then d else
      let (v, d) := d.quant (p * 1000)
      ((d.setSaf fun f => { f with slpDemand := true }).raise "EV_SLP_EXCEEDED" 0 7 0 [v]).demandOn 0 7
    else if d.safety.slpDemand && !ovr then (d.setSaf fun f => { f with slpDemand := false }).demandOff 0 7
    else d
/-- SAFE_REMIND: every 10 s of an active demand source (R282). -/
def execSafeRemind (t : Tick) (fn : Fin 4) (src : Fin 12) (s : State) : Host.Outcome State Fault Refusal :=
  s.on t fun d =>
    match d.safety.demands.find? fun x => x.fn == fn.val && x.src == src.val with
    | none => d
    | some x =>
      let n := x.reminded + 1
      if !d.past x.since (sT (10 * (n : Rat))) then d else
      (d.setSaf fun f => { f with demands := f.demands.map fun y => if y = x then { y with reminded := n } else y }).reminder
        "EV_SAFE_REMIND" 8 7 fn [(fn.val : Int), (src.val : Int), ((10 * n : Nat) : Int)]

/-! ## The safe channel (R285 to R288) -/

/-- The bytes of a PDU, byte 0 first. -/
def pduBytes (p : BitVec 192) : List (BitVec 8) := leBytes 24 p.toNat
/-- CHECK of a PDU's bytes 0 to 19 for a full CN under the connection identity (R286). -/
def Device.pduCheck (d : Device) (cn : Nat) (b : List (BitVec 8)) : Nat :=
  crc32c (leBytes 4 (Par.safScCidLo d.safety.par) ++ leBytes 4 (Par.safScCidHi d.safety.par) ++ leBytes 4 cn ++ b.take 20)
/-- The status PDU that answers the command just accepted (Table 9-7); the first of a connection carries START and CN = 1. -/
def Device.statusPdu (d : Device) (start : Bool) : Device :=
  let f := d.safety
  let cn : BitVec 32 := if start then 1 else f.sc.cnTx + 1
  let (p, d) := d.quant (f.slpPower * 1000)
  let power := if f.fallback then 0x8000 else trunc 16 p
  let b4 := ofBits ((List.range 4).map f.latched ++ [f.slpReduced, f.fallback, f.resetRequired])
  let b5 := ofBits ((List.range 4).map d.sinDemands ++ (List.range 4).map fun n => (d.sin n).faulty)
  let b6 := ofBits ((List.range 6).map fun n => (d.sout n).hs && (d.sout n).ls)
  let b7 := ofBits ((List.range 6).map fun n => (d.sout n).faulty)
  let head := leBytes 1 0x32 ++ leBytes 1 start.toNat ++ leBytes 2 cn.toNat ++ leBytes 1 b4 ++ leBytes 1 b5 ++ leBytes 1 b6 ++ leBytes 1 b7 ++
    leBytes 4 f.sc.cnRx.toNat ++ leBytes 2 power ++ leBytes 6 0
  let pdu : BitVec 192 := packBytes 192 (head ++ leBytes 4 (d.pduCheck cn.toNat head))
  let d := d.setSafe fun c => { c with cnTx := cn, sent := pdu :: c.sent }
  d.safeSend pdu
/-- A command PDU is accepted: demands by its PERMIT bits, the end of an expiry's demand, a reset on the RESET bit's rise, the answer (R288). -/
def Device.pduAccept (d : Device) (cn : Nat) (b : List (BitVec 8)) (start : Bool) : Device :=
  let permit : BitVec 5 := BitVec.ofNat 5 (leField b 4 1)
  let reset := bit (leField b 5 1) 0
  let rise := !start && reset && !d.safety.sc.resetBit
  let ends := d.safety.sc.expired != 0 && d.safety.sc.expired &&& permit.setWidth 4 == d.safety.sc.expired
  let d := d.setSafe fun c => { c with state := 2, cnRx := BitVec.ofNat 32 cn, lastAt := d.now, permit := permit, resetBit := reset, rx := inc32 c.rx,
                                       expired := if ends then 0 else c.expired }
  let d := (List.range 4).foldl (fun d fn => d.demandSet fn 4 (!permit.getLsbD fn)) d
  let d := if ends then (List.range 4).foldl (fun d fn => d.demandOff fn 5) d else d
  let d := d.setSaf fun s => { s with slpReduced := d.slpWanted }
  let d := if rise then d.safetyReset.1 else d
  d.statusPdu start
/-- A PDU is discarded: by its check (bad) or by its number, its type or START. -/
def Device.pduDiscard (d : Device) (bad : Bool) : Device :=
  d.setSafe fun c => if bad then { c with badCheck := inc16 c.badCheck } else { c with discards := inc16 c.discards }
/-- SAFE_CHANNEL_PDU: the oldest PDU that the carrier has passed is checked under its connection state (R287). -/
def execSafeChannelPdu (t : Tick) (s : State) : Host.Outcome State Fault Refusal :=
  s.on t fun d =>
    match d.net.scRx with
    | [] => d
    | pdu :: rest =>
      let d := d.setNet fun n => { n with scRx := rest }
      if !d.bslRuns || !Par.safScEnable d.safety.par then d else
      let b := pduBytes pdu
      let start := bit (leField b 1 1) 0
      let check := leField b 20 4
      if leField b 0 1 ≠ 0x31 then d.pduDiscard false
      else if d.safety.sc.state = 2 then
        let l := d.safety.sc.cnRx.toNat
        let gap := (leField b 2 2 + 65536 - l % 65536) % 65536
        let cn := (l + gap) % 2 ^ 32
        if start then d.pduDiscard false
        else if gap = 0 then d
        else if Par.safScWindow d.safety.par < gap then d.pduDiscard false
        else if d.pduCheck cn b ≠ check then d.pduDiscard true
        else d.pduAccept cn b false
      else if !start || leField b 2 2 ≠ 1 then d.pduDiscard false
      else if d.pduCheck 1 b ≠ check then d.pduDiscard true
      else d.pduAccept 1 b true
/-- SAFE_CHANNEL_WATCHDOG_EXPIRY: no PDU accepted for saf.sc_watchdog in RUN: the connection expires, its functions are demanded, and it returns to START (R288). -/
def execSafeChannelWatchdogExpiry (t : Tick) (s : State) : Host.Outcome State Fault Refusal :=
  s.on t fun d =>
    if !d.bslRuns || !Par.safScEnable d.safety.par || d.safety.sc.state ≠ 2 || !d.past d.safety.sc.lastAt (msT (Par.safScWatchdog d.safety.par)) then d else
    let act := Par.safScTmoAction d.safety.par
    let d := d.setSafe fun c => { c with state := 3, expired := c.expired ||| BitVec.ofNat 4 act, expiries := inc16 c.expiries }
    let d := d.raise "EV_SC_EXPIRED" 8 7 0 []
    (List.range 4).foldl (fun d fn => if bit act fn then d.demandOn fn 5 else d) d

/-! ## The Bailsil reset (Table 12-1) -/

/-- Island 8 restarts: every function latched, RESET_REQUIRED, safe hold ended, FAULTY cleared, outputs off until their switch check; what channel P and fall-back hold stays. -/
def Device.bailsilReset (d : Device) : Device :=
  let f := d.safety
  let fresh := (List.range 4).map fun n => { SafeIn.reset with
    a := f.pinsA.getD n false, b := f.pinsB.getD n false, seenA := f.pinsA.getD n false, seenB := f.pinsB.getD n false, lastTrans := d.now }
  let d := (List.range 4).foldl (fun d fn => d.latchFn fn 10) d
  let d := d.setSaf fun g => { g with
    ins := fresh, outs := List.replicate 6 SafeOut.reset, fns := List.replicate 4 true, resetRequired := true, safeHold := false, inReset := false
    demands := g.demands.filter fun x => x.src == 6 || x.src == 7 || x.src == 9
    abDiff := 0, oscBad := 0, pDiffFrom := none, sciFrom := none, sciDone := true, tpa := none, tpb := none
    tests := 0, tdisc := 0, tfail := 0, rej := 0, demandCnt := 0
    sc := SafeConn.reset }
  (d.safetyCopy.scFollow.inputActive 41 { arms := 7 }).evalInputs.driveOutputs
/-- BAILSIL_RESET: power-on of VDD_BSL, or BSL_RESET_N low for at least 1 µs. -/
def execBailsilReset (t : Tick) (s : State) : Host.Outcome State Fault Refusal := s.on t fun d => d.bailsilReset

/-! ## After a transition -/

/-- What a converter state transition brings beside the converter, when the count of transitions has moved from n: profiles are assigned, and the safety functions see the new values in force (R11, R188). -/
def Device.afterMove (d : Device) (n : Nat) : Device := if d.conv.trans = n then d else d.applyProfiles.safetyCopy.scFollow.evalInputs.driveOutputs

end Sys2Proof.Machine
end

