-- ==== Sys2Proof/Machine/Frames.lean ====
section
/-! DEFINITION. What the device launches on Dunrylink (R202 to R206, R222 to R225, R240, R247): command slots, tunnel records, the slow channel, frames. -/

namespace Sys2Proof.Machine

/-! ## Which frames leave -/

/-- The lanes on which the device sends: both in standalone, P as Member 0, Q as Member 1. -/
def Device.sendsOn (d : Device) (q : Bool) : Bool := !d.straps.twinEn || d.straps.twinId == q
/-- Frames are sent at a load-all: the firmware runs, no burst holds the lanes, and the pair is no pair of equal identities (R237, R296). -/
def Device.sendsFrames (d : Device) : Bool := d.conv.up && !d.prot.burst && !d.twin.idConflict
/-- The slots of a ring: empty where the sender does not serve, in OFF and STANDBY, in discovery, and for a position without a cell (R303, R360). -/
def Device.ringSlots (d : Device) (r : Nat) (serves : Bool) : List (BitVec 144) :=
  (List.range 32).map fun p =>
    let c := 32 * r + p
    if !serves || (d.ring r).excluded || !(d.node c).info.present then 0 else d.cellSlot c

/-! ## Tunnel records (R223, R224) -/

/-- Position p lies in the window of a SEQ. -/
def inTunWindow (p seq : Nat) : Bool := (p + 32 * 6 - 6 * (seq % 32)) % 32 < 6
/-- The downlink records of a ring's frame: the oldest frame of every window position, which leaves its queue and is copied to the tap. -/
def Device.downlink (d : Device) (r seq : Nat) : List TunRec × Device :=
  ((List.range 32).filter fun p => inTunWindow p seq).foldl (fun (acc : List TunRec × Device) p =>
    let c := 32 * r + p
    match (acc.2.node c).down with
    | [] => acc
    | f :: rest =>
      let d := acc.2.setNode c fun n => { n with down := rest }
      (acc.1 ++ [{ f.fr with owner := p }], d.tapRecord c f.fr d.now false true)) ([], d)

/-! ## The slow channel (R225) -/

/-- No request. -/
def slowNone : SlowReq := { target := 0xFF, op := 0, addr := 0, len := 0, tag := 0, data := 0 }
/-- A host transaction is put into a frame; a broadcast, which nobody answers, completes with its launch. -/
def Device.txnSent (d : Device) (t : NodeTxn) (seq : BitVec 16) : Device :=
  if t.req.target = 0xFE then (d.setLink fun l => { l with txns := l.txns.erase t }).complete t.hdr (.ok 0)
  else d.setLink fun l => { l with txns := l.txns.map fun x => if x = t then { t with sentSeq := some seq } else x }
/-- The transaction of a ring's frames: enumeration first, then the verification of PRELOAD_CRC, then the host's oldest. -/
def Device.slowPick (d : Device) (r : Nat) (seq : BitVec 16) : SlowReq × Device :=
  match d.enumReq r with
  | some q => (q, if q.target = 0xFE then d.setRing r fun g => { g with preStep := g.preStep + 1 } else d)
  | none =>
    let host := fun (d : Device) => match d.link.txns.find? fun t => t.ring == r with
      | some t => (t.req, d.txnSent t seq)
      | none => (slowNone, d)
    match d.link.crcVerify with
    | some (vr, vp) => if vr = r then (slowReq vp 1 0x30 2 [], d) else host d
    | none => host d
/-- What the last load-all's transactions have left unanswered: enumeration counts towards an absent node, host transactions towards REFUSED (R329, R358). -/
def Device.slowMissed (d : Device) : Device :=
  let lim := Par.linkDiscCycles d.P
  let d := (List.range 12).foldl (fun (d : Device) r =>
    let g := d.ring r
    let open_ := (d.conv.phase = 1 || d.conv.phase = 3) && g.preStep ≠ 0 && (d.enumReq r).isSome
    if !open_ then d else
    let d := d.setRing r fun g => { g with preMiss := g.preMiss + 1 }
    if d.conv.phase = 3 && lim < (d.ring r).preMiss then d.nodeAbsent r ((g.preStep - 1) / 4) else d) d
  d.setLink fun l => { l with txns := l.txns.map fun t => if t.sentSeq.isSome then { t with missed := t.missed + 1 } else t }

/-! ## Frames of a ring (Tables 7-2 and 7-3) -/

/-- A tunnel record's 20 bytes (R223); `TunRec.reset` is the empty record. -/
def TunRec.bytes (x : TunRec) (seq ring : Nat) : List (BitVec 8) :=
  let b := leBytes 1 x.owner ++ leBytes 1 (x.up.toNat + 2 * x.ide.toNat + 16 * x.dlc) ++ leBytes 4 x.canId.toNat ++ leBytes 8 x.data.toNat ++ leBytes 4 x.stamp.toNat
  b ++ leBytes 2 (crc16 (recPrefix seq ring ++ b))
/-- The slow channel's 64 bytes (R225). -/
def SlowReq.channel (x : SlowReq) (seq ring : Nat) : List (BitVec 8) :=
  let b := leBytes 1 x.target ++ leBytes 1 x.op ++ leBytes 2 x.addr ++ leBytes 1 x.len ++ leBytes 1 x.tag ++ leBytes 48 x.data.toNat ++ leBytes 8 0
  b ++ leBytes 2 (crc16 (recPrefix seq ring ++ b))
/-- Bytes of a slot with its CRC, whose prefix names the cycle and the position; an empty one is zeros with the inverse of the correct CRC (R204, R206, R303). -/
def slotBytes (seq ring p : Nat) (b : List (BitVec 8)) (empty : Bool) : List (BitVec 8) :=
  let c := crc16 (recPrefix seq ring ++ leBytes 1 p ++ b)
  b ++ leBytes 2 (if empty then 0xFFFF - c else c)
/-- Bytes 0 to 23 of the header (Table 7-3). -/
def TxFrame.header (f : TxFrame) : List (BitVec 8) :=
  leBytes 1 f.ftype ++ leBytes 1 (f.ring + 16 * f.q.toNat + 32 * f.member.toNat + 64 * f.active.toNat) ++ leBytes 2 f.seq.toNat ++
    leBytes 1 (ofBits [f.resume, f.hdm, f.relayed]) ++ leBytes 1 0 ++ leBytes 2 (f.tcSteps % 1024) ++ leBytes 8 f.eNext ++ leBytes 8 f.tTx
/-- The frame as it is sent (Table 7-2). A command slot of zeros is an empty one: a filled slot marks its unused edges. -/
def TxFrame.bytes (f : TxFrame) : List (BitVec 8) :=
  let seq := f.seq.toNat
  let cmds := (List.range 32).flatMap fun p =>
    let w := f.slots.getD p 0
    slotBytes seq f.ring p (leBytes 18 w.toNat) (w == 0)
  let stats := (List.range 32).flatMap fun p => slotBytes seq f.ring p (leBytes 22 0) true
  let tuns := (List.range 6).flatMap fun i => (f.tun.getD i TunRec.reset).bytes seq f.ring
  let b := f.header ++ leBytes 6 f.corr ++ leBytes 2 (crc16 f.header) ++ cmds ++ stats ++ tuns ++ f.slow.channel seq f.ring
  b ++ leBytes 4 (crc32 b)
/-- The fraction of a tick that the sender writes into CORR: below 1.25 ns, and open, since the model's instants are whole ticks (R213, assumption log 142). -/
def Device.corrOf (d : Device) (disc : Bool) : Nat × Device :=
  if disc then (0, d) else
  let (n, d) := d.draw
  ((clampR 0 81919 (Config.freeReal n)).floor.toNat, d)

/-- TC_STEPS: the control cycle in force, or the committed one where a transition at the next boundary will apply it (R22). -/
def Device.tcSteps (d : Device) : Nat := if d.conv.tcSaid then (PSet.at_ d.par.committed 0x01000002).floor.toNat else d.tc / 80

/-- Launch the frames of one ring. -/
def Device.launchRing (d : Device) (serves resume relayed : Bool) (r : Nat) : Device :=
  if Par.ringArm d.P r = 3 then d else
  let seqN := d.cycle.k % 65536
  let seq := BitVec.ofNat 16 seqN
  let disc := d.discovering
  let (slow, d) := d.slowPick r seq
  let (tun, d) := if d.straps.twinEn && !d.twin.active then ([], d) else d.downlink r seqN
  let slots := d.ringSlots r serves
  let mk := fun (q : Bool) (corr : Nat) => ({ TxFrame.reset with
    ring := r, q := q, member := d.straps.twinEn && d.straps.twinId, corr := corr, ftype := if disc then 2 else 1, active := d.twin.active || !d.straps.twinEn, seq := seq, resume := resume, hdm := disc || seqN % 64 == 0
    relayed := relayed, tcSteps := d.tcSteps, eNext := d.eNext, tTx := d.now, slots := slots
    tun := if q && !d.straps.twinEn then [] else tun, slow := slow } : TxFrame)
  ([false, true].filter d.sendsOn).foldl (fun d q =>
    let (corr, d) := d.corrOf disc
    let f := mk q corr
    d.setLink fun l => { l with tx := l.tx ++ [{ f with wire := f.bytes }] }) d

end Sys2Proof.Machine
end

