-- ==== Sys2Proof/Machine/Twinning.lean ====
section
/-! DEFINITION. Twin operation over the Mardal link (R296 to R314): lanes, blocks, mirrors, the Standby's decision, READY, HEALTH, roles. -/

namespace Sys2Proof.Machine

/-- Change the Standby's view of an arm. -/
def Device.setTArm (d : Device) (a : Nat) (f : TwinArm → TwinArm) : Device := d.setTwin fun w => { w with arms := upd w.arms a f }
/-- The Standby's view of an arm. -/
def Device.tArm (d : Device) (a : Nat) : TwinArm := d.twin.arms.getD a TwinArm.reset
/-- The peer's last beacon shows it Active. -/
def Device.peerActive (d : Device) : Bool := (d.twin.beacon.map PeerBeacon.active).getD false

/-! ## READY (R310, Table 10-4) -/

/-- Condition 20: the dies that power service needs, none of them degraded, no fall-back, no safe hold. -/
def Device.diesServe (d : Device) : Bool := d.conv.up && !d.coreFailed && d.eh.degraded == 0 && !d.safety.fallback && !d.safety.safeHold
/-- Condition 21: no latch other than source 40's that stays, by its input or because nothing will clear it. -/
def Device.latchesServe (d : Device) : Bool :=
  let delay := usT (Par.protAutoDelay d.P)
  (List.range 48).all fun i =>
    let x := d.srcAt i
    i == 40 || x.latch != 1 || !d.pastBeyond x.activeFrom delay ||
      (!x.active && d.autoMask i && !d.prot.autoDisabled && !x.noAuto)
/-- Able to serve: conditions 20 and 21. -/
def Device.ableToServe (d : Device) : Bool := d.diesServe && d.latchesServe
/-- The Active is evidently serving: its beacon of this cycle said so, or the link has been down for two cycles and its frames still arrive (R304). -/
def Device.evidentByFrames (d : Device) : Bool := d.pastOpt d.twin.lanesDownFrom (2 * d.tc) && d.twin.peerFrame
/-- The Active is evidently serving. -/
def Device.evidentlyServing (d : Device) : Bool := (d.twin.beaconNow && (d.twin.beacon.map PeerBeacon.serving).getD false) || d.evidentByFrames
/-- The full mirror of condition 19, with no check mismatch outstanding; with no Active to mirror it holds. -/
def Device.mirrorDone (d : Device) : Bool :=
  let w := d.twin
  !d.peerActive ||
    (w.ckptSeen && w.meterSec && (w.arms.all fun a => a.mirrored && !a.matchDue) &&
      (List.range 384).all fun c => !(d.node c).info.present || w.obsMirrored.contains c)
/-- Condition 16: a lane is up and the mirror has been full since both were down for more than 2 cycles; with both down it goes on for a READY Standby while its permission holds and no frame shows the Active serving. -/
def Device.linkServes (d : Device) : Bool :=
  let w := d.twin
  if d.linkUp then !w.linkLost || d.mirrorDone else w.ready && w.permission && !d.evidentByFrames
/-- The failed conditions 16 to 23, in bits 0 to 7. -/
def Device.readyFails (d : Device) : BitVec 8 :=
  let w := d.twin
  let state := match w.beacon with
    | some b => !b.active || (b.state == d.stateCode && b.level == d.conv.level)
    | none => true
  let agree := (lawStreams d.P).all fun x => !(w.streams.getD x TwinStream.reset).dev
  BitVec.ofNat 8 (ofBits [!d.linkServes, !w.aligned, !w.digestEqual, !d.mirrorDone, !d.diesServe, !d.latchesServe, !agree, !state])
/-- A member that is READY or serves takes the time mastership that the peer does not hold; where both got there in one Zephyr round, Member 0 takes it (R297). -/
def Device.claimsTime (d : Device) (first : Option Nat) : Bool :=
  if first.isSome && first == d.twin.peerRound then !d.straps.twinId else !((d.twin.beacon.map PeerBeacon.timeMaster).getD false)
/-- READY, the shadow permission, serving and HEALTH as the conditions now stand; a change of READY raises its event. A spent shadow permission comes back with READY (R310, R311). -/
def Device.twinStatus (d : Device) : Device :=
  if !d.straps.twinEn then d else
  let fails := d.readyFails
  let w := d.twin
  let ready := !w.active && fails == 0 && !w.idConflict && !w.split
  let able := d.ableToServe && !w.idConflict
  let expired := w.shadowExpired && !(ready && !w.ready)
  let permission := Par.twinShadowEn d.P && ready && !expired
  let serving := able && (w.active || (w.shadow && permission))
  let on := ready || serving
  let first := if on && w.firstRound.isNone then some (d.now / 8000000) else w.firstRound
  let claims := on && d.claimsTime first
  let lost := w.linkLost && !(d.linkUp && d.mirrorDone)
  let d := d.setTwin fun w => { w with
    failed := fails, ready := ready, permission := permission, serving := serving, healthOn := on, shadowExpired := expired
    health := w.health && on, linkLost := lost, firstRound := first
    timeMaster := w.timeMaster || claims, aligned := w.aligned || claims
    everReady := w.everReady || on }
  if ready = w.ready then d
  else d.raise (if ready then "EV_TWIN_READY" else "EV_TWIN_NOT_READY") 3 0 0 [(fails.toNat : Int)]
/-- The full mirror is lost: everything is to be mirrored anew (R306, R308, Table 10-4). -/
def Twin.loseMirror (w : Twin) : Twin :=
  { w with linkLost := true, ckptSeen := false, meterSec := false, meterCells := [], obsMirrored := []
           arms := w.arms.map fun a => { a with mirrored := false, parts := [] } }

/-! ## Lanes (R299) -/

/-- MARDAL_LANE_DOWN: four invalid blocks in a row, or loss of signal. With both lanes down a slave becomes time master and runs free (R297). -/
def execMardalLaneDown (t : Tick) (lane : Fin 2) (s : State) : Host.Outcome State Fault Refusal :=
  s.on t fun d =>
    if !d.twin.lanes.getD lane false then d else
    let d := d.mdlDrain.setTwin fun w => { w with lanes := w.lanes.set lane.val false }
    let d := d.raiseRated "EV_TWIN_LANE" 5 0 lane [(lane.val : Int), 0]
    if d.linkUp then d else
    let d := d.setTwin fun w => { w with
      lanesDownFrom := some d.now, upFrom := none, timeMaster := w.timeMaster || w.everReady, aligned := w.aligned || w.everReady, peerRound := none, mdlQ := [] }
    (if d.clk.src = 3 then d.setClk fun c => { c with src := Par.clkCtbSource d.P, srcCommit := Par.clkCtbSource d.P, lastRound := none } else d).twinStatus
/-- MARDAL_LANE_UP: 1 ms of valid blocks; the lanes are driven while the MDL PLL is locked. -/
def execMardalLaneUp (t : Tick) (lane : Fin 2) (s : State) : Host.Outcome State Fault Refusal :=
  s.on t fun d =>
    if !d.straps.twinEn || !(d.pll 3).locked || d.twin.lanes.getD lane false then d else
    let was := d.linkUp
    let now := d.now
    let d := d.mdlDrain
    let d := if d.pastBeyond (d.twin.lanesDownFrom.getD now) (2 * d.tc) then d.setTwin Twin.loseMirror else d
    let d := d.setTwin fun w => { w with lanes := w.lanes.set lane.val true, lanesDownFrom := none, upFrom := if was then w.upFrom else some now }
    (d.raiseRated "EV_TWIN_LANE" 5 0 lane [(lane.val : Int), 1]).twinStatus

/-! ## Blocks (R300, Table 10-2) -/

/-- A block arrives: one whose CRC fails is discarded and counted; none arrives with both lanes down (R300). Two members of one identity never pair: after the conflict no block acts (R296). What a block changes shows in READY at once (R310). -/
def Device.block (d : Device) (good : Bool) (f : Device → Device) : Device :=
  if !d.straps.twinEn || !d.linkUp then d
  else
    let d := d.pmcPulse 4 6 1
    if !good then d.setTwin fun w => { w with crc := inc32 w.crc } else if d.twin.idConflict then d else (f d).twinStatus
/-- Two time masters meet: Member 1 yields where both got there in one Zephyr round; otherwise the one that does not serve yields, and of two alike Member 1; a yielding member whose cycle counter differs never aligns (R297, R381). -/
def Device.yieldMaster (d : Device) (b : PeerBeacon) : Device :=
  if !(d.twin.timeMaster && b.timeMaster) then d else
  let same := d.twin.firstRound.isSome && d.twin.firstRound == d.twin.peerRound
  let yields := if same || d.twin.serving = b.serving then d.straps.twinId else !d.twin.serving
  if !yields then d else
  let d := d.setTwin fun w => { w with timeMaster := false, aligned := false }
  if b.cyc = d.cycle.k || d.clk.alignFail then d
  else (d.setClk fun c => { c with alignFail := true }).raise "EV_CTB_ALIGN_FAIL" 3 0 0 []
/-- The Standby follows the Active's converter state as its beacon shows it, in its own device's MAINT and SAFE-HOLD excepted (R364). Cells it has not enumerated itself are taken as expected. -/
def Device.followState (d : Device) (b : PeerBeacon) : Device :=
  let upTo := if b.state = 6 then stRun else b.state
  if !d.standby || !b.active || !d.conv.up || d.conv.level == 2 || d.conv.state == stMaint || upTo == d.conv.state || upTo == stMaint then d else
  let fresh := d.conv.state = stOff
  let n := d.conv.trans
  let d := (d.transition upTo 0).afterMove n
  if !fresh then d else
  (List.range 12).foldl (fun (d : Device) r =>
    let n := Par.ringCellsExpected d.P r
    if Par.ringArm d.P r = 3 || (d.ring r).discDone then d else
    let d := d.setRing r fun g => { g with found := n }
    (List.range n).foldl (fun d p => d.setNode (32 * r + p) fun x => { x with info := { x.info with present := true } }) d) d
/-- Cells in a part of type 0x0B (assumption log 150). -/
def partCells : Nat := 8
/-- The Active sends the next part of each arm's Batten state that the Standby's beacon asks for (R308). -/
def Device.answerAsks (d : Device) (b : PeerBeacon) : Device :=
  (List.range 3).foldl (fun (d : Device) arm =>
    if !b.asks.getD arm false then d.setTArm arm fun a => { a with partNext := 0 } else
    let cells := d.armCells arm
    let n := (d.tArm arm).partNext
    let part := ((cells.mapIdx fun i c => (i, d.mcell c, d.gate c false, d.gate c true)).drop (partCells * n)).take partCells
    let m := d.modu
    let d := d.activeSend 11 arm 768 (.batten part (d.marm arm) { xC := m.xC, clamp := m.xCclamp, now := m.vcNow, step := m.vcStep, first := m.first })
    d.setTArm arm fun a => { a with partNext := if cells.length ≤ partCells * (n + 1) then 0 else n + 1 }) d
/-- BEACON: the peer's role, state, level and flags; two Actives for two beacons make Member 1 Standby (R296, R312). -/
def execBeacon (t : Tick) (good : Bool) (b : PeerBeacon) (s : State) : Host.Outcome State Fault Refusal :=
  s.on t fun d => d.block good fun d =>
    if b.twinId = d.straps.twinId then
      (d.setTwin fun w => { w with idConflict := true }).raise "EV_TWIN_ID_CONFLICT" 3 0 0 []
    else
      let round := if d.twin.peerRound.isNone && (b.ready || b.serving) then some (d.now / 8000000) else d.twin.peerRound
      let d := d.setTwin fun w => { w with beacon := some b, beaconNow := true, peerRound := round, dualRun := if w.active && b.active then w.dualRun + 1 else 0 }
      let d := if d.twin.dualRun ≠ 2 then d else
        (d.setTwin fun w => { w with arbFault := true, dualCnt := inc16 w.dualCnt, demote := d.straps.twinId }).raise "EV_TWIN_DUAL_ACTIVE" 3 0 0 []
      let d := d.yieldMaster b
      let d := if !d.twin.timeMaster && b.timeMaster then d.setClk fun c => { c with src := 3 } else d
      (d.followState b).answerAsks b
/-- TIME_PROBE: the one-way delay and the own CTB minus the master's, in ns. A slave before its first load-all sets its CTB and cycle counter to the master's, once; from then on it is aligned within ±1.0 ns (R297, R381). -/
def execTimeProbe (t : Tick) (good : Bool) (delay ofs : Rat) (cyc : Nat) (s : State) : Host.Outcome State Fault Refusal :=
  s.on t fun d => d.block good fun d =>
    let d := d.setTwin fun w => { w with delay := delay, ctbOfs := ofs }
    if d.twin.timeMaster then d.setTwin fun w => { w with aligned := true, ctbOfs := 0 }
    else if !((d.twin.beacon.map PeerBeacon.timeMaster).getD false) then d.setTwin fun w => { w with aligned := true }
    else if !d.twin.timeSet && !d.twin.everReady && d.link.tx.isEmpty then
      let (n, d) := d.quant (ofs * 4 / 5)
      let ctb := ((d.now : Int) - n).toNat
      let eK := ((d.cycle.eK : Int) - n).toNat
      let d : Device := { d with cycle := { d.cycle with k := cyc, eK := eK } }
      ({ d with now := ctb } : Device).setTwin fun w => { w with timeSet := true, aligned := true, ctbOfs := 0 }
    else d.setTwin fun w => { w with timeSet := true, aligned := !d.clk.alignFail && decide (rabs ofs ≤ 1) }
/-- LAW_CHECKPOINT: the Active's checkpoint after stage 7 of a cycle (R301). -/
def execLawCheckpoint (t : Tick) (good : Bool) (cyc : Nat) (st : LawStates) (s : State) : Host.Outcome State Fault Refusal :=
  s.on t fun d => d.block good fun d => if d.standby then d.setTwin fun w => { w with ckpt := some (cyc, st), ckptSeen := true } else d
/-- BATTEN_INPUTS: V_dc and disposition (0 AVAILABLE, 1 RESTED, 2 BYPASSED) of every cell as the Active took them at E(k) (R301). -/
def execBattenInputs (t : Tick) (good : Bool) (cyc : Nat) (cells : List (Rat × Nat)) (s : State) : Host.Outcome State Fault Refusal :=
  s.on t fun d => d.block good fun d => if d.standby then d.setTwin fun w => { w with inputs := some (cyc, cells) } else d
/-- A cell of the copy with the Active's V_dc and disposition. -/
def ModCell.asInput (m : ModCell) (row : CellRow) (x : Rat × Nat) : ModCell :=
  let m := { m with row := { row with vdc := x.1 } }
  match x.2 with
  | 0 => { m with bypassed := false, restPack := none, restBs := none, restRot := none, restMiss := none, restReturn := none }
  | 1 => { m with bypassed := false, restPack := some 0 }
  | _ => { m with bypassed := true }
/-- The device with the Standby's copy of an arm's Batten state in place of its own: cells as an input makes them, gate loops, the arm, the circulating current (R301). -/
def Device.withCopy (d : Device) (arm : Nat) (r : ArmRecord) (ins : List (Rat × Nat)) : Device :=
  let x := d.tArm arm
  let c := d.twin.circ
  let cells := d.armCells arm
  let put := fun (i : Nat) (m : ModCell) =>
    if cells.contains i then (x.copy_.getD (cells.idxOf i) m).asInput (d.twin.tableAtE.getD i m.row) (ins.getD i (m.row.vdc, 0)) else m
  let gput := fun (i : Nat) (g : Gate × Gate) => if cells.contains i then x.gates.getD (cells.idxOf i) g else g
  (d.setModu fun u => { u with
    cells := u.cells.mapIdx put, arms := upd u.arms arm fun _ => { x.copyArm with record := r }
    xC := c.xC, xCclamp := c.clamp, vcNow := c.now, vcStep := c.step, first := c.first }).setProt fun p => { p with gates := p.gates.mapIdx gput }
/-- The relayed schedule of an arm: the Active's record and inputs applied to the copy of its Batten state (R301). -/
def Device.relaySchedule (d : Device) (arm : Nat) (resume : Bool) : Device :=
  let x := d.tArm arm
  match x.record, d.twin.inputs with
  | some r, some (_, ins) =>
    if !x.mirrored then d else
    let e := d.withCopy arm r ins
    let first := e.modu.first.isNone
    let e := if first then e.setModu fun u => { u with first := some r } else e
    let e := if first && e.inDelta && r.active then e.circLoop r.i0ref r.i0 false else e
    let e := if resume then e.resumeArm arm else e.scheduleCore arm
    let cells := d.armCells arm
    let m := e.modu
    ({ d with fresh := e.fresh }.setTArm arm fun a => { a with
      relayed := cells.map fun c => (e.mcell c).sched, slots := e.armSlots arm, copy_ := cells.map e.mcell
      gates := cells.map fun c => (e.gate c false, e.gate c true), copyArm := e.marm arm }).setTwin fun w => { w with
      circ := { xC := m.xC, clamp := m.xCclamp, now := m.vcNow, step := m.vcStep, first := m.first } }
  | _, _ => d
/-- A block of the cycle in progress, by its CYC (Table 10-1). -/
def Device.ofCycle (d : Device) (cyc : Option Nat) : Bool := cyc == some (d.cycle.k % 2 ^ 32)
/-- MARDAL_ARM_RECORD: an arm record of the Active; the Standby computes the arm's relayed schedule (R301). -/
def execMardalArmRecord (t : Tick) (cyc : Option Nat) (arm : Fin 3) (r : ArmRecord) (s : State) : Host.Outcome State Fault Refusal :=
  s.on t fun d => d.block cyc.isSome fun d =>
    if d.standby && d.ofCycle cyc then (d.setTArm arm fun a => { a with record := some r }).relaySchedule arm false else d
/-- SCHEDULE_CHECK: an arm's check (RESUME and CRC-32 over its slots), or the notice of an overrun (R302, R304). With RESUME the relayed slots are those of a resume. -/
def execScheduleCheck (t : Tick) (cyc : Option Nat) (arm : Fin 3) (notice resume : Bool) (crc : BitVec 32) (s : State) : Host.Outcome State Fault Refusal :=
  s.on t fun d => d.block cyc.isSome fun d =>
    if !d.standby || !d.ofCycle cyc then d else
    let d := d.setTArm arm fun a => { a with check := some (notice, resume, crc) }
    if resume && !notice then d.relaySchedule arm true else d
/-- The base of a stream: I_b for the current roles and the earth current, V_b otherwise (R75, R108). -/
def Device.streamBase (d : Device) (x : Nat) : Rat :=
  if x = 56 || (List.range 3).any fun i => Par.gfStreamIMain d.P i == x || Par.gfStreamISec d.P i == x then d.iBase else d.vBase
/-- One stream's newest output against the peer's (R307); a stream without a new output since the last comparison is not compared. -/
def Device.compareStream (d : Device) (x : Nat) (peer : Int) : Device :=
  if (d.strm x).outs = (d.twin.streams.getD x TwinStream.reset).seen then d else
  let own := (d.strm x).out
  let n := Par.twinMeasCount d.P
  let far := decide (Par.twinMeasTol d.P * d.streamBase x < rabs (((own - peer : Int) : Rat) / 256))
  let s := d.twin.streams.getD x TwinStream.reset
  let s' : TwinStream := { s with peer := peer, seen := (d.strm x).outs, differ := if far then s.differ + 1 else 0, agree := if far then 0 else s.agree + 1 }
  let s' := { s' with dev := if far && decide (n ≤ s'.differ) then true else if n ≤ s'.agree then false else s'.dev }
  let d := d.setTwin fun w => { w with streams := upd w.streams x fun _ => s' }
  if s'.dev && !s.dev then d.raiseRated "EV_TWIN_MEAS_DEV" 3 4 x [(x : Int)] else d
/-- STREAM_BLOCK: the newest output of all 64 streams of the peer (R307). -/
def execStreamBlock (t : Tick) (good : Bool) (vals : List Int) (s : State) : Host.Outcome State Fault Refusal :=
  s.on t fun d => d.block good fun d => (vals.zip (List.range 64)).foldl (fun d x => d.compareStream x.2 x.1) d
/-- STATUS_BLOCK: the peer's validated slots of one ring for a SEQ; each is used where the own receivers did not validate it (R308). -/
def execStatusBlock (t : Tick) (good : Bool) (ring : Fin 12) (seq : BitVec 16) (bytes : List (BitVec 8)) (s : State) : Host.Outcome State Fault Refusal :=
  s.on t fun d => d.block good fun d =>
    let r := ring.val
    let late := !d.modu.loaded
    let slot := fun (p : Nat) => (bytes.drop (24 * p)).take 24
    let valid := (List.range 32).filter fun p =>
      leField (slot p) 22 2 == crc16 (recPrefix seq.toNat r ++ leBytes 1 p ++ (slot p).take 22) &&
        (d.node (32 * r + p)).info.present && ((d.node (32 * r + p)).lastSeq != seq || (d.node (32 * r + p)).last.isNone)
    let use := valid.map fun p => (32 * r + p, statusOf (slot p))
    let d := use.foldl (fun d x => d.useStatus x.1 seq x.2 true late) d
    if use.isEmpty then d else { d with prov := d.prov ++ [{ ring := 12, id := 7, slots := use }] }
/-- OBSERVER_BLOCK: the Standby adopts the Active's observer state and cell-table entry of a pack (R301). -/
def execObserverBlock (t : Tick) (good : Bool) (cell : Fin 384) (obs : Observer) (row : CellRow) (s : State) : Host.Outcome State Fault Refusal :=
  s.on t fun d => d.block good fun d =>
    if !d.standby then d else
    let d := (d.setPack cell fun p => { p with obs := obs }).setCell cell fun m => { m with row := { row with vdc := m.row.vdc } }
    d.setTwin fun w => { w with obsArriving := true, obsMirrored := if w.obsMirrored.contains cell.val then w.obsMirrored else cell.val :: w.obsMirrored }
/-- The deviation of an increment from the Active's in ppm. -/
def meterDev (own peer before : Nat) : Nat :=
  let inc := peer - before
  if inc = 0 then 0 else ((max own peer - min own peer) * 1000000) / inc
/-- METER_BLOCK: the Standby adopts a cell's counters as the Active froze them at the CTB second, plus its own integration since (R309). -/
def execMeterBlock (t : Tick) (good : Bool) (cell : Fin 384) (cnt : PackCounters) (ten : Tenancy) (s : State) : Host.Outcome State Fault Refusal :=
  s.on t fun d => d.block good fun d =>
    if !d.standby then d else
    let c := cell.val
    let own := d.twin.ownAtSec.getD c PackCounters.reset
    let was := d.twin.peerAtSec.getD c PackCounters.reset
    let dev := nmax [meterDev own.qDis cnt.qDis was.qDis, meterDev own.qChg cnt.qChg was.qChg, meterDev own.eDis cnt.eDis was.eDis, meterDev own.eChg cnt.eChg was.eChg]
    let d := d.setPack c fun p => { p with
      cnt := { qDis := cnt.qDis + (p.cnt.qDis - own.qDis), qChg := cnt.qChg + (p.cnt.qChg - own.qChg)
               eDis := cnt.eDis + (p.cnt.eDis - own.eDis), eChg := cnt.eChg + (p.cnt.eChg - own.eChg) }
      ten := ten }
    let d := d.setTwin fun w => { w with
      peerAtSec := upd w.peerAtSec c fun _ => cnt, ownAtSec := upd w.ownAtSec c fun _ => cnt, meterDev := max w.meterDev dev
      meterCells := if w.meterCells.contains c then w.meterCells else c :: w.meterCells }
    if Par.twinMeterTol d.P * 10000 < (dev : Rat) then d.raiseRated "EV_TWIN_METER_DEV" 3 3 c [(c : Int), (dev : Int)] else d
/-- DIGEST_BLOCK: the peer's digest of the committed set and its firmware version; a difference raises EV_TWIN_MISMATCH with cause 0 parameters or 1 firmware (R308). -/
def execDigestBlock (t : Tick) (good : Bool) (set : BitVec 256) (fw : BitVec 32) (s : State) : Host.Outcome State Fault Refusal :=
  s.on t fun d => d.block good fun d =>
    let same := packBytes 256 (setDigest d.par.committed) == set
    let sameFw := d.sec.imgVersion == fw
    let d := d.setTwin fun w => { w with digestEqual := same && sameFw }
    if same && sameFw then d else
    let cause := if same then 1 else 0
    (d.setTwin fun w => { w with digCnt := inc16 w.digCnt }).raiseRated "EV_TWIN_MISMATCH" 3 0 cause [(cause : Int)]
/-- BATTEN_STATE_BLOCK: a part of the Active's Batten state of an arm: cells by their place in arm order with their gate loops, the arm's state, the circulating current; the copy is complete with the last cell (R308). -/
def execBattenStateBlock (t : Tick) (good : Bool) (arm : Fin 3) (cells : List (Nat × ModCell × Gate × Gate)) (a : ModArm × Circ) (s : State) : Host.Outcome State Fault Refusal :=
  s.on t fun d => d.block good fun d =>
    if !d.standby then d else
    let own := d.armCells arm
    let x := d.tArm arm
    let base := (List.range own.length).map fun i => x.copy_.getD i ModCell.reset
    let gbase := (List.range own.length).map fun i => x.gates.getD i (Gate.reset, Gate.reset)
    let copy := cells.foldl (fun l p => upd l p.1 fun _ => p.2.1) base
    let gates := cells.foldl (fun l p => upd l p.1 fun _ => p.2.2) gbase
    let parts := x.parts ++ (cells.map Prod.fst).filter fun i => !x.parts.contains i
    let all := (List.range own.length).all parts.contains
    (d.setTArm arm fun y => { y with copy_ := copy, gates := gates, copyArm := a.1, parts := parts, mirrored := y.mirrored || all }).setTwin fun w => { w with circ := a.2 }

/-! ## The Standby's decision (R302 to R306) -/

/-- TWIN_DEADLINE: 1.7 µs before t_load the Active's arms that are not complete are handled as overruns, with a notice to the Standby; a check that a resume has overtaken is sent anew (R302). -/
def execTwinDeadline (t : Tick) (s : State) : Host.Outcome State Fault Refusal :=
  s.on t fun d =>
    if !d.straps.twinEn || !d.twin.active || d.modu.loaded || d.now + 1360 < d.tLoad then d else
    (List.range 3).foldl (fun (d : Device) arm =>
      if (d.marm arm).scheduled then (if (d.tArm arm).checkSaid == some d.resumeNow then d else d.sendCheck arm)
      else
        let d := d.reuseSchedule arm
        if d.twin.serving then d.mdlSend 5 arm 8 (.check true false 0) else d) d
/-- A check that differs is counted; twin.mis_max in a row for an arm end its mirror (R308). -/
def Device.mismatch (d : Device) (arm : Nat) : Device :=
  let run := (d.tArm arm).misRun + 1
  let lost := decide (Par.twinMisMax d.P ≤ run)
  (d.setTArm arm fun a => { a with
    misRun := run, matchDue := a.matchDue || lost, mirrored := a.mirrored && !lost, parts := if lost then [] else a.parts }).setTwin
    fun w => { w with misCnt := inc16 w.misCnt }
/-- The slots of an arm: 0 empty, 1 relayed, 2 relayed shifted, 3 shadow (R304). -/
def Device.decideArm (d : Device) (arm : Nat) : Device :=
  let x := d.tArm arm
  let choose := fun (d : Device) (k : Nat) => d.setTArm arm fun a => { a with choice := k }
  match x.check with
  | some (true, _, _) => choose d 2
  | some (false, _, crc) =>
    if x.record.isSome && x.mirrored && slotsCrc x.slots == crc.toNat then (choose d 1).setTArm arm fun a => { a with misRun := 0, matchDue := false }
    else (choose d 0).mismatch arm
  | none => choose d (if !d.evidentlyServing && d.twin.permission then 3 else 0)
/-- TWIN_DECISION: at t_dec, 0.2 µs before t_load, the Standby chooses each arm's slots (R304). One that is not READY, not aligned or without its permission sends status-only frames; its checks are compared all the same (R305, R308). An Active that serves ends the spent permission of a shadow run (R311). -/
def execTwinDecision (t : Tick) (s : State) : Host.Outcome State Fault Refusal :=
  s.on t fun d =>
    if !d.standby || d.modu.loaded || d.now + 160 < d.tLoad then d else
    let served := d.evidentlyServing || d.twin.arms.any fun a => a.check.isSome
    let d := (if served then d.setTwin fun w => { w with shadowExpired := false } else d).twinStatus
    let ok := d.twin.ready && d.twin.aligned && !d.twin.shadowExpired
    let d := (List.range 3).foldl (fun (d : Device) arm =>
      let d := (d.setTArm arm fun a => { a with shadow := (d.armCells arm).map fun c => (d.mcell c).sched }).decideArm arm
      if ok then d else d.setTArm arm fun a => { a with choice := 0 }) d
    let sh := d.twin.arms.any fun a => a.choice == 3
    let first := sh && !d.twin.shadow
    let d := d.setTwin fun w => { w with shadow := sh, shadowRun := if sh then w.shadowRun + 1 else 0, shadowCnt := if sh then inc32 w.shadowCnt else w.shadowCnt }
    let d := if first then d.raise "EV_TWIN_SHADOW" 3 0 0 [] else d
    d.twinStatus
/-- SHADOW_EXPIRED: twin.shadow_max shadow cycles in a row and no grant: the shadow permission ends (R311). -/
def execShadowExpired (t : Tick) (s : State) : Host.Outcome State Fault Refusal :=
  s.on t fun d =>
    if !d.standby || d.twin.grant || d.twin.shadowExpired || d.twin.shadowRun < Par.twinShadowMax d.P then d else
    let d := d.setTwin fun w => { w with shadowExpired := true, shadow := false, shadowRun := 0 }
    (d.raise "EV_TWIN_SHADOW_EXPIRED" 3 0 0 []).twinStatus
/-- HEALTH_TOGGLE: every 10.0 µs while the member is READY, or able to serve while serving, as the conditions stand at the toggle (R311). -/
def execHealthToggle (t : Tick) (s : State) : Host.Outcome State Fault Refusal :=
  s.on t fun d =>
    let d := d.twinStatus
    if !d.twin.healthOn || !d.past d.twin.healthAt (usT 10) then d else
    d.setTwin fun w => { w with health := !w.health, healthAt := d.now }

/-! ## Roles (R312) -/

/-- ARB_GRANT_CHANGE: ARB_GRANT has stood at a level for so many ns; beyond 1.0 µs it is the filtered grant. -/
def execArbGrantChange (t : Tick) (level : Bool) (heldNs : Rat) (s : State) : Host.Outcome State Fault Refusal :=
  s.on t fun d =>
    if !d.straps.twinEn || heldNs < 1000 || d.twin.grant = level then d else
    d.setTwin fun w => { w with grant := level, grantAt := d.now, refused := false }
/-- An arm's own Batten state becomes its copy of the Active's, where it was relayed; after a cycle of shadow slots its own stands (R304, R312). -/
def Device.takeCopy (d : Device) (arm : Nat) : Device :=
  let x := d.tArm arm
  if !x.mirrored || (x.choice = 0 && x.last = 3) then d else
  let c := d.twin.circ
  let cells := d.armCells arm
  let live := fun (i : Nat) (m : ModCell) =>
    if cells.contains i then { (x.copy_.getD (cells.idxOf i) m) with row := m.row, sent := m.sent, sentPrev := m.sentPrev, sentOld := m.sentOld } else m
  let loops := fun (i : Nat) (g : Gate × Gate) => if cells.contains i then x.gates.getD (cells.idxOf i) g else g
  ((d.setModu fun u => { u with cells := u.cells.mapIdx live, xC := c.xC, xCclamp := c.clamp, vcNow := c.now, vcStep := c.step }).setArm arm fun a =>
    { x.copyArm with sDis := a.sDis, sChg := a.sChg, sBoth := a.sBoth, arrived := a.arrived, scheduled := a.scheduled }).setProt fun p =>
    { p with gates := p.gates.mapIdx loops }
/-- A role change: EV_TWIN_ROLE, counted; a new Standby withdraws its close commands (R312, R314). -/
def Device.roleChange (d : Device) (active : Bool) : Device :=
  let d := d.setTwin fun w => { w with active := active, roleChg := inc16 w.roleChg, demote := false, shadow := false, shadowRun := 0, shadowExpired := false, dualRun := 0 }
  let d := if active then d else (d.withdrawClose 0).withdrawClose 1
  (d.raise "EV_TWIN_ROLE" 3 0 0 [(active.toNat : Int)]).twinStatus
/-- TWIN_ROLE_CHANGE: at a cycle boundary, and nowhere else, a member that is READY or shadowing becomes Active 0.5 µs after its grant; a grant once refused stays refused until it falls. An Active without grant whose peer shows ACTIVE, or that must give way, becomes Standby (R312). -/
def execTwinRoleChange (t : Tick) (s : State) : Host.Outcome State Fault Refusal :=
  s.on t fun d =>
    if !d.straps.twinEn || d.now ≠ d.cycle.eK then d else
    let w := d.twin
    if !w.active then
      if !w.grant || w.refused || d.cycle.eK < w.grantAt + 400 then d
      else if w.ready || w.serving then ((List.range 3).foldl (fun d a => d.takeCopy a) d).roleChange true
      else (d.setTwin fun w => { w with refused := true }).raise "EV_TWIN_GRANT_REFUSED" 3 0 0 []
    else if w.demote || (!w.grant && d.peerActive) then d.roleChange false
    else d

/-! ## The pair at a cycle boundary -/

/-- Split brain: the link is down, and the Active's frames still arrive (R306); it ends after 1 ms of link with the mirror complete. -/
def Device.splitCheck (d : Device) : Device :=
  if d.standby && d.evidentByFrames && !d.twin.split then
    (d.setTwin fun w => { w with split := true }).raise "EV_TWIN_SPLIT" 3 0 0 []
  else if d.twin.split && d.pastOpt d.twin.upFrom (msT 1) && d.mirrorDone then d.setTwin fun w => { w with split := false }
  else d
/-- The beacon that the device sends (Table 10-2); a Standby whose copy of an arm is not complete asks for the Active's Batten state (R308, assumption log 150). -/
def Device.ownBeacon (d : Device) : PeerBeacon :=
  let w := d.twin
  { cyc := d.cycle.k, state := d.stateCode, level := d.conv.level, active := w.active, serving := w.serving, ready := w.ready
    spi := d.safety.fns.getD 0 false, blocked := d.prot.blocked, timeMaster := w.timeMaster, twinId := d.straps.twinId
    asks := w.arms.map fun a => d.standby && d.peerActive && !a.mirrored }
/-- V_dc and disposition of every cell: 0 AVAILABLE, 1 RESTED, 2 BYPASSED (Table 10-2). -/
def Device.battenInputs (d : Device) : List (Rat × Nat) :=
  d.modu.cells.map fun m => (m.row.vdc, if m.bypassed then 2 else if m.rested then 1 else 0)
/-- The frozen counters of the next cell go out, one cell a cycle, until every cell's have (Table 10-2, assumption log 150). -/
def Device.sendMeter (d : Device) : Device :=
  match (List.range 384).find? fun c => decide (d.twin.meterNext ≤ c) && (d.node c).info.present with
  | none => d
  | some c => (d.activeSend 9 0 48 (.meter c (d.meter.frozen.getD c PackCounters.reset) (d.pack c).ten)).setTwin fun w => { w with meterNext := c + 1 }
/-- The blocks of E(k): the beacon, Batten's inputs, a cell's counters; a time probe every 1 ms and the digest each Zephyr round (Table 10-2). -/
def Device.cycleBlocks (d : Device) : Device :=
  let d := d.mdlSend 1 0 24 (.beacon d.ownBeacon)
  let d := [0, 1].foldl (fun (d : Device) n => d.activeSend 4 n 576 (.inputs n ((d.battenInputs.drop (192 * n)).take 192))) d
  let d := d.sendMeter
  let e := d.cycle.eK
  let since := fun (span : Nat) => e / span ≠ (e - d.tc) / span
  let d := if since 800000 then d.mdlSend 12 0 16 (.probe d.now) else d
  if since 8000000 then d.mdlSend 10 0 96 (.digest (setDigest d.par.committed) d.sec.imgVersion) else d
/-- The newest outputs of all 64 streams go to the peer (Table 10-2). -/
def Device.sendStreams (d : Device) : Device := d.mdlSend 6 0 256 (.streams ((List.range 64).map fun x => (d.strm x).out))
/-- What E(k) does in a pair: the mirror is lost with the link, the Standby's law starts from the Active's checkpoint, the cell table is kept for the sorter, the bytes of the last cycle are counted and the cycle's blocks begin anew. An arm that was sent shifted keeps the schedule that was sent (R302). -/
def Device.twinCycle (d : Device) : Device :=
  if !d.straps.twinEn then d else
  let d := d.splitCheck.mdlDrain
  let lost := !d.linkServes && !d.linkUp && d.pastOpt d.twin.lanesDownFrom (2 * d.tc)
  let d := if lost then d.setTwin Twin.loseMirror else d
  let d := match d.twin.ckpt with
    | some (k, st) => if d.standby && k + 1 = d.cycle.k then d.setLaw fun l => { l with st := st } else d
    | none => d
  let d := d.twinStatus
  let rows := d.modu.cells.map ModCell.row
  let d := d.setTwin fun w => { w with
    beaconNow := false, load := min ((w.mdlOut.map fun b => b.wire.length).sum) 0xFFFF, mdlOut := [], tableAtE := rows, inputs := none
    circ := { w.circ with first := none }
    arms := w.arms.map fun a => { a with
      record := none, check := none, checkSaid := none, prev := if a.choice = 2 then a.prev else a.relayed, last := a.choice, choice := 0 } }
  d.cycleBlocks
/-- The CTB second in a pair: the own frozen counters are kept, and a second in which every cell's counters arrived completes the meter mirror (R309). -/
def Device.twinSecond (d : Device) : Device :=
  if !d.straps.twinEn then d else
  let full := (List.range 384).all fun c => !(d.node c).info.present || d.twin.meterCells.contains c
  let frozen := d.meter.frozen
  d.setTwin fun w => { w with meterNext := 0, ownAtSec := frozen, meterSec := w.meterSec || (full && !w.meterCells.isEmpty), meterCells := [] }
/-- CTB_SECOND: at each CTB second the meter engine freezes the counters and the next persistence bank is written (R193, R309). -/
def execCtbSecond (t : Tick) (s : State) : Host.Outcome State Fault Refusal :=
  s.on t fun d =>
    let n := d.packs.secN
    let d := d.ctbSecond
    if d.packs.secN = n then d else d.twinSecond

end Sys2Proof.Machine
end

