-- ==== Sys2Proof/Machine/LoadAll.lean ====
section
/-! DEFINITION. The load-all (R36, R159, R160, R247): what the last one left unanswered, the resume, the schedules launched, the availability record. -/

namespace Sys2Proof.Machine

/-! ## The frames of the last load-all -/

/-- A ring's frames that have not come back are counted missing, and its directions are looked at anew (R229, R230). -/
def Device.ringMissing (d : Device) (r : Nat) : Device :=
  let g := d.ring r
  let sent := d.link.tx.any fun x => x.ring == r
  let lost := if !sent then 0 else ((([(false, g.gotP), (true, g.gotQ)] : List (Bool × Bool)).filter fun x => d.expectsAt x.1 && !x.2).length)
  d.setRing r fun g => { g with missing := min (g.missing + lost) 0xFFFF, pRet := g.dirP, qRet := g.dirQ, gotP := false, gotQ := false, dirP := false, dirQ := false }
/-- Before the launch the last cycle's frames are closed: missing frames, unanswered transactions, the meter interval, provisional results without a marker (R435, R39). -/
def Device.closeFrames (d : Device) : Device :=
  let d := (List.range 12).foldl (fun d r => d.ringMissing r) d
  { d.slowMissed.meterClose with prov := [] }

/-! ## Rests and bypasses at a load-all -/

/-- The rests count on, those with a standing cause from 0 (Table 5-3). -/
def Device.restCycle (d : Device) : Device :=
  (List.range 384).foldl (fun (d : Device) c => if (d.node c).info.present then d.restPack c else d) d.countRests
/-- Step 1 of a bypass ends with the slots that carry its edge, and counts as done while the arms are blocked (R163). -/
def ModCell.stepDone (m : ModCell) (now : Tick) (blocked : Bool) : ModCell :=
  if m.bypStep = 1 && (blocked || m.sched == m.bypassEdges) then { m with bypStep := 2, bypFrom := now } else m
/-- Step 1 ends in every cell whose slot just launched carries its edge, or at once while blocked (R163). -/
def Device.bypassSteps (d : Device) : Device :=
  let now := d.now
  let blocked := d.prot.blocked
  (d.setModu fun u => { u with cells := u.cells.map fun m => m.stepDone now blocked }).setTwin fun w =>
    { w with arms := w.arms.map fun a => { a with copy_ := a.copy_.map fun m => m.stepDone now blocked } }

/-! ## The resume (R247, R360, R361) -/

/-- The restart into RUN: the law is entered before the load-all that launches the resume of transition 11, at the grid's angle, frequency and voltage on a live bus, and from E = 0 otherwise (R363). -/
def Device.restartLaw (d : Device) : Device :=
  if d.conv.state ≠ stHold || d.conv.origin ≠ stRun || !d.mbClosed then d
  else if d.busBand = 2 then
    let d := (d.snapToGrid 0).setTraj Traj.free
    d.lawEntry.setConv fun c => { c with restartDead := false }
  else
    let f := Par.gfFSet d.P
    let d := (d.setAxis false fun a => { a.toTrack with vel := f }).setAxis true fun a => { a.toTrack with pos := 0, vel := 0 }
    d.lawEntry.setConv fun c => { c with restartDead := true }
/-- A resume is launched: the slots of the first centre-mode cycle, and the resume edge at the next cycle start (R247). -/
def Device.launchResume (d : Device) : Device :=
  let e := d.eNext
  let d := d.restartLaw
  let d := (List.range 3).foldl (fun d a => d.resumeArm a) d
  d.setProt fun p => { p with resumed := true, resumeEdge := some e }

/-! ## What each arm sends -/

/-- The Standby's arm takes the schedule that its decision chose (R304). -/
def Device.chooseArm (d : Device) (arm : Nat) : Device :=
  let x := d.tArm arm
  let own := d.armCells arm
  let give := fun (d : Device) (edges : List (List Edge)) =>
    let one := fun (i : Nat) (m : ModCell) =>
      let es := edges.getD (own.idxOf i) []
      if own.contains i then { m with sched := es, cmdState := (es.getLast?.map Edge.state).getD m.cmdState } else m
    d.setModu fun u => { u with cells := u.cells.mapIdx one }
  match x.choice with
  | 1 => give (d.takeCopy arm) x.relayed
  | 2 => give (d.takeCopy arm) x.prev
  | _ => d
/-- The Standby's frames carry RESUME: its relayed arms' checks said so, or it shadows and the conditions of R247 hold for it (R304). -/
def Device.standbyResume (d : Device) : Bool :=
  (d.twin.arms.any fun a => a.choice == 1 && (a.check.map fun c => c.2.1).getD false) || ((d.twin.arms.any fun a => a.choice == 3) && d.resumeNow)
/-- The schedules that leave, and whether they are a resume's. -/
def Device.arms (d : Device) : Device × Bool :=
  let none_ := fun (d : Device) => if d.prot.blocked then d.setModu fun u => { u with cells := u.cells.map fun m => { m with sched := [] } } else d
  if d.standby then
    let resume := d.standbyResume
    let d := if resume then (if d.twin.arms.any fun a => a.choice == 3 then d.launchResume else d.setProt fun p => { p with resumed := true, resumeEdge := some d.eNext }) else none_ d
    ((List.range 3).foldl (fun d a => d.chooseArm a) d, resume)
  else if d.resumeNow then (d.launchResume, true)
  else (none_ d, false)
/-- A ring's command slots are filled: of a member that serves, of a Standby in the arms that it decided to send (R303). -/
def Device.servesRing (d : Device) (r : Nat) : Bool :=
  if !d.straps.twinEn then true
  else if d.twin.active then d.twin.serving
  else (d.tArm (Par.ringArm d.P r)).choice != 0
/-- Launch the frames of every ring (R203). -/
def Device.launch (d : Device) (resume : Bool) : Device :=
  let relayed := d.standby && d.twin.arms.all fun a => a.choice == 1 || a.choice == 2
  let d := d.setLink fun l => { l with tx := [] }
  if !d.sendsFrames then d else
  let d := (List.range 12).foldl (fun (d : Device) r => d.launchRing (d.servesRing r) resume relayed r) d
  let count := fun (d : Device) (p : Nat) =>
    let fs := d.link.tx.filter fun x => x.ring / 6 == p
    (d.pmcPulse (3 + p) 0 fs.length).pmcPulse (3 + p) 7 ((fs.map fun x => x.tun.length).sum)
  (count (count d 0) 1).setLink fun l => { l with discLeft := l.discLeft - 1 }
/-- The slots launched become the newest that were sent. -/
def Device.sentOn (d : Device) : Device :=
  d.setModu fun u => { u with cells := u.cells.map fun m => { m with sent := m.sched, sentPrev := m.sent, sentOld := m.sentPrev } }
/-- Bailsil watches the resume strobe: a resume while SPI is latched triggers a Squall at once (R277). -/
def Device.strobeWatch (d : Device) (resume : Bool) : Device :=
  if resume && d.safety.fns.getD 0 false then d.squallTrigger else d

/-- Table 5-9 as this load-all leaves it (R172). -/
def Device.modShow (d : Device) : Device :=
  let m := d.modu
  let a := fun (i : Nat) => m.arms.getD i ModArm.reset
  let three := List.range 3
  let cell := fun (c : Nat) => m.cells.getD c ModCell.reset
  let masks := fun (p : Nat → Bool) => (List.range 12).map fun r => (ringMask r p).value.toNat
  let stat := ofBits (three.map fun i => (a i).sat) + 256 * ofBits (three.map fun i => (a i).centre) + 2 ^ 18 * m.balIdle.toNat
  let words := stat :: (three.map fun i => shown (0x6004 + 4 * i) 32 256 (a i).rhoShown) ++
    (three.map fun i => (RegWord.value [fld 0 8 (a i).nAvail, fld 8 8 (a i).nRest, fld 16 8 (a i).nByp]).toNat) ++
    (three.map fun i => shown (0x601C + 4 * i) 32 256 (min (a i).sDis (a i).sChg)) ++
    [m.drop, m.extend, m.satCnt, m.resCnt, m.rot, m.forced, m.budgetCnt] ++
    masks (fun c => (cell c).bypassed) ++ masks (fun c => (cell c).rested)
  let d := d.hwSet 0x6000 (16 * ofBits (three.map fun i => (a i).resPend))
  d.setModu fun u => { u with shown := words, arms := u.arms.map fun a => { a with resClamp := a.resClamp || a.resPend, resPend := false } }

/-- LOAD_ALL: at t_load the schedules and frames leave, and each arm's availability record is taken (R36, R159, R160). A change of Tc that waits for a transition is announced in the frames (R22). -/
def execLoadAll (t : Tick) (s : State) : Host.Outcome State Fault Refusal :=
  s.on t fun d =>
    if d.modu.loaded || d.now < d.tLoad || !d.clk.ctbOn then d else
    let d := d.closeFrames.restCycle
    let d := if d.prot.blocked then d.bypassSteps else d
    let due := !d.conv.reqs.isEmpty || d.conv.trigSeq.isSome || d.conv.trigMb || d.conv.trigSquall || d.prot.resumeEdge.isSome
    let d := d.setConv fun c => { c with tcSaid := due && d.par.waiting.contains 0x01000002 }
    let d := d.setProt fun p => { p with resumed := false }
    let (d, resume) := d.arms
    let d := (d.launch resume).sentOn.launchedCells.bypassSteps.buildWindows
    let d := if resume then d else d.setModu fun u => { u with arms := u.arms.map fun a => { a with recoverLeft := a.recoverLeft - 1 } }
    let d := (List.range 3).foldl (fun d a => d.availability a) d
    let d := ((d.setModu fun u => { u with loaded := true }).modShow).meterOpen.setTwin fun w => { w with peerFrame := false }
    ((d.stamp 5 id).pmcPulse 2 4 1).strobeWatch resume
/-- NODE_ANSWER_MISSED: host transactions whose answer has been missed in link.disc_cycles consecutive frames complete with REFUSED, condition 3 (R329). -/
def execNodeAnswerMissed (t : Tick) (s : State) : Host.Outcome State Fault Refusal :=
  s.on t fun d =>
    let gone := d.link.txns.filter fun x => Par.linkDiscCycles d.P ≤ x.missed
    gone.foldl (fun (d : Device) x => (d.setLink fun l => { l with txns := l.txns.erase x }).complete x.hdr (.refused 3)) d

end Sys2Proof.Machine
end

