-- ==== Sys2Proof/Machine/Errors.lean ====
section
/-! DEFINITION. The error handler and its log, firmware images, signed records and the debug lock (R433 to R454), with the meanings of their commands. -/

namespace Sys2Proof.Machine

/-- Change the security engine. -/
def Device.setSec (d : Device) (f : Sec → Sec) : Device := { d with sec := f d.sec }
/-- The STATE ending in the present state. -/
def Device.stateEnd (d : Device) : Ending := .state d.stateCode 0

/-! ## Reports (R434, R436, R438) -/

/-- A corrected SRAM word: code 0x0001, and code 0x0002 where the same word was corrected within integ.ce_win before (Table 16-3). -/
def Device.corrected (d : Device) (die word : Nat) : Device :=
  let near := d.eh.ceWords.filter fun x => !d.pastBeyond x.2.2 (msT (Par.integCeWin d.P))
  let again := near.any fun x => x.1 == die && x.2.1 == word
  let d := d.setEh fun e => { e with ceWords := (die, word, d.now) :: near }
  let d := d.errReport 0x0001 die 0 0 word
  if again then d.errReport 0x0002 die 0 0 word else d
/-- SCRUB_PASS: words of the SRAMs of Ridge (0), Rafter (1) and Batten (2) that were corrected, and words that could not be (R434). -/
def execScrubPass (t : Tick) (fixed bad : List (Fin 3 × BitVec 32)) (s : State) : Host.Outcome State Fault Refusal :=
  s.on t fun d =>
    let d := d.setEh fun e => { e with scrub := sat32 (e.scrub + fixed.length) }
    let d := fixed.foldl (fun (d : Device) x => d.corrected x.1 x.2.toNat) d
    bad.foldl (fun (d : Device) x => d.errReport ([0x0003, 0x0011, 0x0014].getD x.1 0) x.1 0 0 x.2.toNat) d
/-- The command slot of a cell is sent empty in the frames launched last (R206, code 0x0031). -/
def Device.slotSentEmpty (d : Device) (cell : Nat) : Device :=
  let blank := fun (f : TxFrame) => let f := { f with slots := upd f.slots (cell % 32) fun _ => 0 }; { f with wire := f.bytes }
  d.setLink fun l => { l with tx := l.tx.map fun f => if f.ring = cell / 32 then blank f else f }
/-- ERROR_REPORT: a reporter's error (Table 16-3). An arm of 0x0014 is handled as a late schedule, a field of 0x0030 as missing, a slot of 0x0031 is sent empty, and a bad key store stays bad. -/
def execErrorReport (t : Tick) (code : BitVec 16) (island : Fin 10) (kind : Fin 10) (index : BitVec 16) (detail : BitVec 32) (s : State) : Host.Outcome State Fault Refusal :=
  s.on t fun d =>
    let c := code.toNat
    let i := index.toNat
    let die := islandDie island
    let d := if c = 0x0083 then d.setSec fun x => { x with keyBad := true }
      else if c = 0x0014 && kind = 1 && !d.modu.loaded then d.setArm i fun a => { a with scheduled := false }
      else if c = 0x0030 && kind = 3 then d.setNode i fun n => { n with fresh := false }
      else if c = 0x0031 && kind = 3 then d.slotSentEmpty i
      else d
    if c = 0x0001 then d.corrected die detail.toNat else d.errReport c die kind i detail.toNat (if c = 0x0061 then some 4 else none) (island = 1 || island = 7)

/-! ## The class actions (Table 16-2) -/

/-- A die is declared failed; where that gives SAFE-HOLD, channel P demands SPI in its next heartbeat (R355, R437). -/
def Device.dieFail (d : Device) (die : Nat) : Device :=
  let d := d.setConv fun c => { c with failed := c.failed ||| BitVec.ofNat 8 (2 ^ die) }
  if die < 7 then d.setSaf fun f => { f with pvHold := true } else d.recFail
/-- The log persists (R441). -/
def Device.logPersist (d : Device) : Device :=
  d.setEh fun e => { e with store := e.log, storeSeq := (e.log.getLast?.map LogEntry.seq), changed := false }
/-- FATAL: the dies of Ridge, Rafter, Batten, Thatch and both Purlins fail together, vector 12 is signalled and the host-pair firmware stops. -/
def Device.goFatal (d : Device) : Device :=
  let d := ([0, 1, 2, 5, 3, 4] : List Nat).foldl (fun d i => d.dieFail i) d
  let d := (d.setEh fun e => { e with fatal := true }).setConv fun c => { c with fatal := true }
  (d.msix 12).setHost fun h => { h with fwRunning := false }
/-- The action of an entry's class. EV_ERROR of class 1 is rate-limited per code. -/
def Device.classAction (d : Device) (x : ErrEntry) : Device :=
  let load := [(x.code : Int), (x.cls : Int), (x.die : Int)]
  match x.cls with
  | 1 => d.raiseRated "EV_ERROR" x.island 0 x.code load
  | 2 =>
    let d := (d.raise "EV_ERROR" x.island x.kind x.index load).setEh fun e => { e with degraded := e.degraded ||| BitVec.ofNat 8 (2 ^ x.die) }
    d.raise "EV_DIE_DEGRADED" 0 0 x.die [(x.die : Int)]
  | 3 =>
    let d := d.dieFail x.die
    let d := match x.die2 with
      | some y => d.dieFail y
      | none => d
    d.raise "EV_ERROR" x.island x.kind x.index load
  | _ => d.goFatal.raise "EV_ERROR" x.island x.kind x.index load

/-! ## The log (R441) -/

/-- The oldest entry of the lowest class present. -/
def lowestEntry : List LogEntry → Option LogEntry
  | [] => none
  | x :: r =>
    match lowestEntry r with
    | none => some x
    | some y => if x.cls ≤ y.cls then some x else some y
/-- Put an entry into a log of at most 64: a full log gives up the oldest entry of the lowest class, if that is not above the new one's. The second part says whether an entry was overwritten, the third whether the new one was stored. -/
def logPut (l : List LogEntry) (x : LogEntry) : List LogEntry × Bool × Bool :=
  if l.length < 64 then (l ++ [x], false, true) else
  match lowestEntry l with
  | none => (l ++ [x], false, true)
  | some y => if y.cls ≤ x.cls then (l.erase y ++ [x], true, true) else (l, false, false)
/-- The log entry of a handled error; entries that wait for it as their parent take its number. -/
def Device.logError (d : Device) (x : ErrEntry) : Device :=
  let n := d.eh.logNext
  let span := d.now - x.detected
  let e : LogEntry := { seq := n, ctb := x.detected, code := x.code, cls := x.cls, cls0 := x.cls0, escalated := x.escalated, done := true
                        island := x.island, kind := x.kind, index := x.index, merged := x.merged, detail := x.detail, time := min (span / 8) 65535, parent := x.parent }
  let (log, ovr, stored) := logPut d.eh.log e
  let adopt := fun (q : ErrEntry) => if q.parentOf = some (x.code, x.detected) then { q with parent := n % 65536, parentOf := none } else q
  let (ns, d) := d.quant ((span : Rat) * 5 / 4)
  let d := d.setEh fun h => { h with
    log := log, overwrite := h.overwrite || ovr, logNext := (n + 1) % 2 ^ 32, lost := if stored then h.lost else inc32 h.lost
    logSeq := if stored then n else h.logSeq, lastCode := if stored then x.code else h.lastCode, lastCls := if stored then x.cls else h.lastCls
    changed := h.changed || stored, handleMax := max h.handleMax (sat32 ns.toNat), queue := h.queue.map adopt }
  if 3 ≤ x.cls then d.logPersist else d
/-- ERROR_HANDLING_DONE: the action and the log entry of the error in handling are complete, and the handler takes the next (R437, R439, R441). -/
def execErrorHandlingDone (t : Tick) (s : State) : Host.Outcome State Fault Refusal :=
  s.on t fun d =>
    if d.eh.stopped || d.eh.fatal then d else
    match d.eh.handling with
    | none => d
    | some x => ((d.classAction x).logError x |>.setEh fun e => { e with handling := none }).takeError
/-- HANDLER_FAULT: 0 a handling longer than t_eh_max (100 µs), 2 an uncorrectable word in the handler's region, 3 a failed log write; causes 1 and 4, the full queue and the escalation beyond class 4, are found at the report (R440). -/
def execHandlerFault (t : Tick) (cause : Fin 5) (s : State) : Host.Outcome State Fault Refusal :=
  s.on t fun d =>
    match cause.val with
    | 0 => if d.eh.inHandling.any fun x => d.pastBeyond x.detected (usT 100) then d.handlerFault 1 else d
    | 2 => d.handlerFault 3
    | 3 => d.handlerFault 4
    | _ => d
/-- A log entry as 32 bytes (Table 16-4). -/
def LogEntry.bytes (x : LogEntry) : List (BitVec 8) :=
  leBytes 4 x.seq ++ leBytes 8 x.ctb ++ leBytes 2 x.code ++ leBytes 1 (x.cls + 8 * x.cls0 + 64 * x.escalated.toNat + 128 * x.done.toNat) ++ leBytes 1 x.island ++
    leBytes 4 (x.kind + 65536 * x.index) ++ leBytes 4 x.merged ++ leBytes 4 x.detail.toNat ++ leBytes 2 x.time ++ leBytes 2 x.parent
/-- CMD_EH_LOG_READ: entries to host memory, oldest first. -/
def execCmdEhLogRead (t : Tick) (h : CmdHdr) (a : Args) (dmaOk : Bool) (s : State) : Host.Outcome State Fault Refusal :=
  s.on t fun d => 
    let n := arg a 17 1
    d.cmdIf h a [(8, 8), (16, 1), (17, 1)] (firstBad [(16, decide (64 ≤ arg a 16 1)), (17, n == 0 || decide (64 < n))]) fun d =>
      let l := (d.eh.log.drop (arg a 16 1)).take n
      if !dmaOk then ends d.dmaFail (.dma 0)
      else ends (d.post { HostWrite.reset with kind := 4, addr := arg a 8 8, bytes := l.flatMap LogEntry.bytes }) (.ok l.length)
/-- CMD_EH_ACK: the degraded bits of the mask clear. -/
def execCmdEhAck (t : Tick) (h : CmdHdr) (a : Args) (s : State) : Host.Outcome State Fault Refusal :=
  s.on t fun d => d.cmd h a [(8, 1)] fun d => ends (d.setEh fun e => { e with degraded := e.degraded &&& ~~~(BitVec.ofNat 8 (arg a 8 1)) }) (.ok 0)
/-- CMD_EH_LOG_CLEAR: the log is emptied, in SRAM and in the store; MAINT only. -/
def execCmdEhLogClear (t : Tick) (h : CmdHdr) (a : Args) (s : State) : Host.Outcome State Fault Refusal :=
  s.on t fun d => d.cmd h a [] fun d =>
    if d.conv.state ≠ stMaint then ends d d.stateEnd else
    ends (d.setEh fun e => { e with log := [], store := [], storeSeq := none, changed := false }) (.ok d.eh.log.length)

/-! ## Firmware (R446, R447) -/

/-- The host interface's registers at their reset values; kept are the backlog with its run of lost events, the rate accounts and what has been posted. The completions of commands in flight are discarded (R346). -/
def HostPort.ifReset (h : HostPort) (now : Tick) : HostPort :=
  { HostPort.reset with
    backlog := h.backlog, lostRun := h.lostRun, lostFirst := h.lostFirst, lostLast := h.lostLast, rates := h.rates, outbox := h.outbox
    fwRunning := h.fwRunning, wdAt := now, cmdEvents := h.cmdEvents, discarding := h.discarding ++ h.outstanding }
/-- The firmware restart of the host pair (Table 12-1): the registers of islands 0 and 1, the staging area, the committed set reloaded. Kept of island 0: the converter state with what bring-up and enumeration found, and the degraded dies (R437); of island 1: the debug lock (R450) and the values of the store and the image. -/
def Device.fwRestart (d : Device) : Device :=
  let d := d.setHost fun h => h.ifReset d.now
  let d := d.setConv fun c => { c with reqs := [], trans := 0, holds := 0, restarts := 0, phase := 0, phaseCyc := 0, trigSeq := none, failPhase := 0, level := 2 }
  let d := d.setLink fun l => { l with discLeft := 0 }
  let d := d.setClk fun c => { c with plls := c.plls.map fun (p : Pll) => { p with lol := 0 }, holdCnt := 0, holdMax := 0, relockUs := 0, relocks := 0 }
  let d := d.setEh fun e => { e with cnt := Eh.reset.cnt, esc := 0, lost := 0, logSeq := 0, lastCode := 0, lastCls := 0, handleMax := 0, merged := 0, scrub := 0, restored := false, overwrite := false }
  let d := d.setSaf fun f => { f with sciConf := 0, sciUncf := 0, sciMask := Safety.reset.sciMask, slpLimit := 0, slpPower := 0 }
  let d := { d with zep := { d.zep with pmc := Zephyr.reset.pmc, hk := { d.zep.hk with late := 0 }, drift := { d.zep.drift with cnt := 0, inc := 0, max := 0 } }, par := { d.par with commits := 0, last := 0 } }
  let d := d.setSec fun x => { x with challenge := none, fw := none, attest := none, attestNext := none }
  (d.setMeter fun m => { m with snap := none, pfail := 0 }).loadParams.safetyCopy
/-- CMD_FW_RESTART: in OFF and MAINT; the completion is written before the restart. -/
def execCmdFwRestart (t : Tick) (h : CmdHdr) (a : Args) (s : State) : Host.Outcome State Fault Refusal :=
  s.on t fun d => d.cmd h a [] fun d => if !d.offOrMaint then ends d d.stateEnd else ((d.complete h (.ok 0)).fwRestart, none)
/-- CMD_FW_WRITE: the slot that is not running takes an image from host memory; its magic is cleared first. -/
def execCmdFwWrite (t : Tick) (h : CmdHdr) (a : Args) (image : Option (List (BitVec 8))) (s : State) : Host.Outcome State Fault Refusal :=
  s.on t fun d => 
    let len := arg a 16 4
    d.cmdIf h a [(8, 8), (16, 4)] (firstBad [(16, len == 0 || decide (12 * 2 ^ 20 < len))]) fun d =>
    let k := if d.conv.bootSlot then 0 else 1
    if d.sec.fw.isSome then ends d .busy
    else
      let d := d.setSec fun x => { x with slots := upd x.slots k fun _ => ImageHdr.reset }
      match image with
      | none => ends d.dmaFail (.dma 0)
      | some b =>
        let b := b.take len
        let f := imageCheck d.sec.revoked d.sec.rbc b
        (d.setSec fun x => { x with fw := some { hdr := h, image := imageHdr b (f == 0), fail := f } }, none)
/-- FW_WRITE_DONE: the image stands in the slot, is read back and checked; the first check that fails is reported with AUTH. -/
def execFwWriteDone (t : Tick) (s : State) : Host.Outcome State Fault Refusal :=
  s.on t fun d =>
    match d.sec.fw with
    | none => d
    | some w =>
      let k := if d.conv.bootSlot then 0 else 1
      let d := d.setSec fun x => { x with fw := none, slots := upd x.slots k fun _ => { w.image with written := w.fail != 1 } }
      d.complete w.hdr (if w.fail = 0 then .ok k else .auth w.fail)
/-- CMD_FW_COMMIT: the anti-rollback counter rises to the running image's index, and lower keys are revoked; refused for an image booted by fall-back (1) or by recovery (2). -/
def execCmdFwCommit (t : Tick) (h : CmdHdr) (a : Args) (s : State) : Host.Outcome State Fault Refusal :=
  s.on t fun d => d.cmd h a [] fun d =>
    if d.sec.fallImage then ends d (.refused 1)
    else if d.sec.recImage then ends d (.refused 2)
    else
      let c := min (max d.sec.rbc d.sec.imgRollback) 65535
      ends (d.setSec fun x => { x with rbc := c, revoked := x.revoked ||| BitVec.ofNat 4 (2 ^ x.imgKey - 1) }) (.ok c)

/-! ## Signed records (R442, R448, R449) -/

/-- The device certificate (Table 16-6). -/
def certificate : List (BitVec 8) :=
  let n := min Config.certSigLen.toNat 1280
  [0x47, 0x58, 0x44, 0x43] ++ leBytes 2 1 ++ leBytes 2 0 ++ identity ++ pubKey ++ List.replicate 7 0 ++ leBytes 4 Config.certDay.toNat ++ leBytes 4 Config.certKey.toNat ++
    leBytes 4 n ++ (List.range 1280).map fun i => if i < n then Config.certSig i else 0
/-- CMD_SEC_IDENTITY: the certificate to host memory. -/
def execCmdSecIdentity (t : Tick) (h : CmdHdr) (a : Args) (dmaOk : Bool) (s : State) : Host.Outcome State Fault Refusal :=
  s.on t fun d => d.cmd h a [(8, 8)] fun d =>
    if !dmaOk then ends d.dmaFail (.dma 0)
    else ends (d.post { HostWrite.reset with kind := 4, addr := arg a 8 8, bytes := certificate }) (.ok 3132)
/-- The engine signs a snapshot. -/
def Device.snapSigning (d : Device) : Bool := (d.meter.snap.map fun x => x.frozen).getD false
/-- Signing in progress (HST_SEC_STAT [3]). -/
def Device.signing (d : Device) : Bool := d.snapSigning || d.sec.attest.isSome
/-- The first 32 bytes of SHAKE256 over bytes 0 to 95 of a slot's header. -/
def Device.slotDigest (d : Device) (i : Nat) : List (BitVec 8) := shake256 (d.slot i).header 32
/-- The 256 signed bytes of the attestation report (Table 16-9). -/
def Device.attestBytes (d : Device) (nonce : BitVec 128) : List (BitVec 8) :=
  let x := d.sec
  let sc := d.sc 0
  [0x47, 0x58, 0x41, 0x54] ++ leBytes 2 1 ++ leBytes 2 256 ++ leBytes 16 nonce.toNat ++ identity ++ leBytes 8 d.now ++ leBytes 6 sc.s ++ leBytes 4 sc.ns ++
    leBytes 1 sc.sync.toNat ++ leBytes 1 (ofBits [d.conv.bootSlot, x.fallImage, x.recImage]) ++ leBytes 4 x.imgVersion.toNat ++ leBytes 2 x.imgRollback ++ leBytes 2 x.rbc ++
    leBytes 1 x.imgKey ++ leBytes 1 x.revoked.toNat ++ leBytes 1 (x.debug + 4 * x.unlockedOnce.toNat) ++ leBytes 1 0 ++ leBytes 4 x.dbgCnt ++
    d.slotDigest 0 ++ d.slotDigest 1 ++ (setDigest d.par.committed).take 32 ++ leBytes 4 (checkValue d.safety.par) ++
    ((List.range 5).flatMap fun c => leBytes 4 (d.eh.cnt.getD c 0)) ++ leBytes 1 d.conv.level ++ leBytes 1 d.stateCode ++ leBytes 1 d.conv.dies.toNat ++ leBytes 1 d.conv.failed.toNat ++
    List.replicate 40 0
/-- CMD_SEC_ATTEST: one report is signed at a time; a request that finds another one waiting is BUSY. -/
def execCmdSecAttest (t : Tick) (h : CmdHdr) (a : Args) (s : State) : Host.Outcome State Fault Refusal :=
  s.on t fun d => d.cmd h a [(8, 8), (24, 16)] fun d =>
    let x : Attest := { hdr := h, addr := arg a 8 8, nonce := BitVec.ofNat 128 (arg a 24 16) }
    if d.sec.keyBad then ends d (.auth 6) else
    match d.sec.attest with
    | none => (d.setSec fun q => { q with attest := some x }, none)
    | some _ => if d.snapSigning || d.sec.attestNext.isSome then ends d .busy else (d.setSec fun q => { q with attestNext := some x }, none)
/-- ATTEST_SIGNED: the report is formed, signed and written; it waits while a snapshot is being signed. -/
def execAttestSigned (t : Tick) (dmaOk : Bool) (s : State) : Host.Outcome State Fault Refusal :=
  s.on t fun d =>
    match d.sec.attest with
    | none => d
    | some x =>
      if d.snapSigning then d else
      let d := d.setSec fun q => { q with attest := q.attestNext, attestNext := none }
      if d.sec.keyBad then d.complete x.hdr (.auth 6)
      else if !dmaOk then d.dmaFail.complete x.hdr (.dma 0)
      else
        let body := d.attestBytes x.nonce
        let (len, sig, d) := d.sign 0x41 body
        (d.post { HostWrite.reset with kind := 4, addr := x.addr, bytes := body ++ len ++ sig }).complete x.hdr (.ok 1540)

/-! ## The debug lock (R450) -/

/-- CMD_DBG_CHALLENGE: a new challenge, valid for 10 min or until the next challenge or unlock. -/
def execCmdDbgChallenge (t : Tick) (h : CmdHdr) (a : Args) (dmaOk : Bool) (s : State) : Host.Outcome State Fault Refusal :=
  s.on t fun d => d.cmd h a [(8, 8)] fun d =>
    let (n, d) := d.draw
    let c := shake256 (identity ++ leBytes 4 d.sec.dbgCnt ++ leBytes 16 (Config.random n).toNat) 32
    let d := d.setSec fun x => { x with challenge := some (packBytes 256 c, d.now) }
    if !dmaOk then ends d.dmaFail (.dma 0)
    else ends (d.post { HostWrite.reset with kind := 4, addr := arg a 8 8, bytes := c }) (.ok 32)
/-- CMD_DBG_UNLOCK: length and signature stand in host memory; the signature is over 0x44, the challenge and the scope. -/
def execCmdDbgUnlock (t : Tick) (h : CmdHdr) (a : Args) (mem : Option (List (BitVec 8))) (s : State) : Host.Outcome State Fault Refusal :=
  s.on t fun d => 
    let scope := arg a 8 1
    d.cmdIf h a [(8, 1), (16, 8)] (firstBad [(8, decide (4 ≤ scope))]) fun d =>
    if !d.offOrMaint then ends d d.stateEnd
    else if d.sec.debug = 2 then ends d (.refused 1)
    else match mem with
      | none => ends d.dmaFail (.dma 0)
      | some m =>
        let sig := (m.drop 4).take (leField m 0 4)
        let ok := match d.sec.challenge with
          | none => false
          | some (c, at_) => !d.pastBeyond at_ (sT 600) && Config.vendorVerify [] ([0x44] ++ leBytes 32 c.toNat ++ leBytes 1 scope) sig
        if !ok then ends d (.auth 4) else
        let d := d.setSec fun x => { x with dbgCnt := inc32 x.dbgCnt, debug := 1, scope := BitVec.ofNat 8 scope, unlockedOnce := true, challenge := none }
        ends (d.raise "EV_DEBUG_UNLOCKED" 1 0 0 [(scope : Int), (d.sec.dbgCnt : Int)]) (.ok 0)
/-- CMD_DBG_LOCK: 0 relocks the port; 1 disables it for good, in MAINT only. -/
def execCmdDbgLock (t : Tick) (h : CmdHdr) (a : Args) (s : State) : Host.Outcome State Fault Refusal :=
  s.on t fun d => d.cmdIf h a [(8, 1)] (firstBad [(8, decide (2 ≤ arg a 8 1))]) fun d =>
    match arg a 8 1 with
    | 0 => ends (if d.sec.debug = 1 then d.setSec fun x => { x with debug := 0, scope := 0 } else d) (.ok 0)
    | _ => if d.conv.state ≠ stMaint then ends d d.stateEnd else ends (d.setSec fun x => { x with debug := 2, scope := 0, disabled := true }) (.ok 0)

end Sys2Proof.Machine
end

