-- ==== Sys2Proof/Machine/Mailbox.lean ====
section
/-! DEFINITION. The mailbox channels, the event queue, fences, the host watchdog, MSI-X (R323 to R346), and the parameter commands with their commit, application and persistence (R331 to R335). -/

namespace Sys2Proof.Machine

/-- Change the parameter state. -/
def Device.setPar (d : Device) (f : ParamState → ParamState) : Device := { d with par := f d.par }
/-- Mailbox channel c. -/
def Device.chan (d : Device) (c : Nat) : Channel := d.host.chans.getD c Channel.reset
/-- Change a channel. -/
def Device.setChan (d : Device) (c : Nat) (f : Channel → Channel) : Device := d.setHost fun h => { h with chans := upd h.chans c f }

/-! ## Channels (R324 to R327) -/

/-- CHANNEL_ENABLE_WRITE: a channel that becomes enabled starts with its counts at 0; the completions of a channel that is disabled are discarded. -/
def execChannelEnableWrite (t : Tick) (v : BitVec 32) (s : State) : Host.Outcome State Fault Refusal :=
  s.on t fun d =>
    let d := d.reserved v 0xFF00
    (List.range 8).foldl (fun (d : Device) c =>
      let on := v.getLsbD (8 + c)
      if (d.chan c).enabled = on then d
      else if on then (d.setChan c fun x => { x with enabled := true, producer := 0, fetch := 0, completed := 0, inflight := 0 }).setHost fun h => { h with dmaErr := false }
      else
        let gone := d.host.outstanding.filter fun x => x.chan == c
        (d.setChan c fun x => { x with enabled := false, inflight := 0 }).setHost fun h =>
          { h with outstanding := h.outstanding.filter fun x => x.chan != c, discarding := h.discarding ++ gone }) d
/-- COMMAND_DOORBELL: the producer count, unless it would put more than 16 commands between the completion count and itself (R325). -/
def execCommandDoorbell (t : Tick) (ch : Fin 8) (v : BitVec 32) (s : State) : Host.Outcome State Fault Refusal :=
  s.on t fun d =>
    let d := d.reserved v 0x1F
    let n := v.toNat % 32
    if 16 < (n + 32 - (d.chan ch).completed) % 32 then d.hostErr else d.setChan ch fun x => { x with producer := n }
/-- A channel has commands that are not fetched. -/
def Channel.unfetched (c : Channel) : Bool := c.enabled && c.fetch != c.producer
/-- The channel whose command is fetched next: channel 0 first below its 8, then channels 1 to 7 in turn within their 56 (R326). -/
def Device.nextFetch (d : Device) : Option Nat :=
  let all := (d.host.chans.map Channel.inflight).sum
  let own := (d.chan 0).inflight
  if 64 ≤ all then none
  else if (d.chan 0).unfetched && own < 8 then some 0
  else if 56 ≤ all - own then none
  else ((List.range 7).map fun i => (d.host.rr - 1 + i) % 7 + 1).find? fun c => (d.chan c).unfetched
/-- The opcodes that this manual defines (R330). -/
def opcodes : List Nat := [0x01, 0x10, 0x11, 0x12, 0x13, 0x14, 0x15, 0x16, 0x20, 0x30, 0x31, 0x32, 0x38, 0x39, 0x3A, 0x3C, 0x3D, 0x40, 0x50, 0x51, 0x58, 0x59, 0x5A, 0x5B,
  0x60, 0x61, 0x68, 0x69, 0x70, 0x71, 0x72, 0x73, 0x78, 0x79, 0x80, 0x81, 0x82, 0x83, 0x90, 0x91, 0x92, 0x93, 0x94, 0x95, 0x96, 0x97, 0x98, 0x99, 0x9A, 0xA0, 0xA1, 0xA2, 0xA3]
/-- How an entry's header ends its command at once: an opcode that is not defined, a reserved bit of FLAGS, byte 3. -/
def headerBad (b : List (BitVec 8)) : Option Ending :=
  if !opcodes.contains (leField b 0 2) then some .unknown
  else if 4 ≤ leField b 2 1 then some (.malformed 2)
  else if leField b 3 1 ≠ 0 then some (.malformed 3)
  else none
/-- The header of the command whose slot holds these bytes, the count-th fetched on channel c (Table 11-3). -/
def headerOf (c count : Nat) (b : List (BitVec 8)) : CmdHdr :=
  { chan := c, count, tag := BitVec.ofNat 32 (leField b 4 4), opcode := leField b 0 2, fence := bit (leField b 2 1) 0, noirq := bit (leField b 2 1) 1 }
/-- COMMAND_FETCH: the next command in turn is read from its slot and is in flight; one with a bad header completes at once. An access that fails leaves the command where it is (R326, R327). -/
def execCommandFetch (t : Tick) (entry : Option (BitVec 512)) (s : State) : Host.Outcome State Fault Refusal :=
  s.on t fun d =>
    match d.nextFetch, d.host.fwRunning with
    | some c, true =>
      match entry with
      | none => d.dmaFail
      | some e =>
        let b := leBytes 64 e.toNat
        let h := headerOf c (d.chan c).fetch b
        let bad := headerBad b
        if bad.isSome && d.fenced h then d else
        let d := d.setChan c fun x => { x with fetch := (x.fetch + 1) % 32, inflight := x.inflight + 1 }
        let d := d.setHost fun x => { x with outstanding := x.outstanding ++ [h], rr := if c = 0 then x.rr else c % 7 + 1 }
        match bad with
        | some e => d.complete h e
        | none => d
    | _, _ => d

/-! ## The event queue (R337 to R342) -/

/-- EVQ_ENABLE_WRITE: enabling sets the tail and the head to 0; while the queue is off, records wait in the backlog. -/
def execEvqEnableWrite (t : Tick) (v : BitVec 32) (s : State) : Host.Outcome State Fault Refusal :=
  s.on t fun d =>
    let d := d.reserved v 1
    let on := v.getLsbD 0
    if d.host.evqOn = on then d
    else if on then (d.setHost fun h => { h with evqOn := true, evqTail := 0, evqHead := 0, unreported := 0, visFrom := none }).drain
    else d.setHost fun h => { h with evqOn := false }
/-- EVQ_HEAD_WRITE: the count consumed, unless it lies beyond the tail or more than the queue behind it; the space it frees takes the backlog. -/
def execEvqHeadWrite (t : Tick) (v : BitVec 32) (s : State) : Host.Outcome State Fault Refusal :=
  s.on t fun d =>
    if 2 ^ d.host.evqSize.toNat < (d.host.evqTail - v).toNat then d.hostErr else (d.setHost fun h => { h with evqHead := v }).drain
/-- EVENT_RECORD_WRITE: what waits is written, with the tail shadow; a write that fails disables the queue and is reported (R342). -/
def execEventRecordWrite (t : Tick) (ok : Bool) (s : State) : Host.Outcome State Fault Refusal :=
  s.on t fun d =>
    if ok then d.drain
    else if d.evqSpace = 0 || d.host.backlog.isEmpty then d
    else (d.setHost fun h => { h with evqOn := false, evqErr := true }).errReport 0x0040 0 0 0 0
/-- EVQ_IRQ_DELAY_EXPIRY: EVQ_IRQ [31:16] µs since the first unreported record became visible (R340). -/
def execEvqIrqDelayExpiry (t : Tick) (s : State) : Host.Outcome State Fault Refusal :=
  s.on t fun d =>
    let delay := d.host.evqIrq.toNat / 65536
    if delay ≠ 0 && d.pastOpt d.host.visFrom (usT (delay : Rat)) then d.evqSignal else d

/-! ## Fences, watchdog, MSI-X, resets (R323, R343, R345, R346) -/

/-- FENCE_WRITE: a fence starts. -/
def execFenceWrite (t : Tick) (s : State) : Host.Outcome State Fault Refusal := s.on t fun d => d.setHost fun h => { h with fencePend := true }
/-- FENCE_READ: the fence that was started has completed; the read returns the number of fences completed. -/
def execFenceRead (t : Tick) (s : State) : Host.Outcome State Fault Refusal :=
  s.on t fun d =>
    let d := if d.host.fencePend then d.setHost fun h => { h with fencePend := false, fences := (h.fences + 1) % 2 ^ 32 } else d
    d.answer d.host.fences
/-- HOST_WATCHDOG_WRITE: the watchdog is retriggered, and HOST_LOST clears. -/
def execHostWatchdogWrite (t : Tick) (s : State) : Host.Outcome State Fault Refusal := s.on t fun d => d.setHost fun h => { h with wdAt := d.now, hostLost := false }
/-- HOST_WATCHDOG_EXPIRY: no write for host.wd_time (R345); what follows is R365's. -/
def execHostWatchdogExpiry (t : Tick) (s : State) : Host.Outcome State Fault Refusal :=
  s.on t fun d =>
    let w := Par.hostWdTime d.P
    if w = 0 || d.host.hostLost || !d.conv.up || !d.past d.host.wdAt (msT w) then d
    else (d.setHost fun h => { h with hostLost := true }).raise "EV_HOST_LOST" 1 0 0 []
/-- The mask bit of a vector clears, and a pending message is sent (R323). -/
def Device.msixUnmask (d : Device) (v : Nat) : Device :=
  let e := d.host.msix.getD v MsixEntry.reset
  let d := d.setHost fun h => { h with msix := upd h.msix v fun x => { x with masked := false, pend := false } }
  if e.pend then d.msix v else d
/-- MSIX_VECTOR_UNMASK: the mask bit clears, and a pending message is sent (R323). -/
def execMsixVectorUnmask (t : Tick) (v : Fin 32) (s : State) : Host.Outcome State Fault Refusal := s.on t fun d => d.msixUnmask v
/-- HOST_INTERFACE_RESET: function-level reset, hot reset, loss of the link, PERST_N (R346). -/
def execHostInterfaceReset (t : Tick) (s : State) : Host.Outcome State Fault Refusal := s.on t fun d => d.setHost fun h => h.ifReset d.now

/-! ## Parameters (R331 to R335) -/

/-- Check pairs in order and stage them into a set; the first bad pair ends the check (R331). -/
def stagePairs (i : Nat) : List (Nat × BitVec 32) → List (Nat × Rat) → Option Ending × List (Nat × Rat)
  | [], acc => (none, acc)
  | (id, w) :: r, acc =>
    match rowOf id with
    | none => (some (.noId i), acc)
    | some row =>
      match row.take id w with
      | none => (some (.range i), acc)
      | some v => stagePairs (i + 1) r (putSorted id v acc)
/-- Stage pairs, all or nothing. -/
def Device.stage (d : Device) (pairs : List (Nat × BitVec 32)) : Device × Option Ending :=
  if d.par.checking.isSome then ends d .busy else
  match stagePairs 0 pairs d.par.staged with
  | (some e, _) => ends d e
  | (none, l) => ends (d.setPar fun p => { p with staged := l }) (.ok 0)
/-- Pair i of a byte list. -/
def pairAt (b : List (BitVec 8)) (i : Nat) : Nat × BitVec 32 := (leField b (8 * i) 4, BitVec.ofNat 32 (leField b (8 * i + 4) 4))
/-- CMD_PARAM_STAGE. -/
def execCmdParamStage (t : Tick) (h : CmdHdr) (a : Args) (s : State) : Host.Outcome State Fault Refusal :=
  s.on t fun d =>
    let n := arg a 8 1
    d.cmdIf h a [(8, 1), (16, 8 * n)] (firstBad [(8, n == 0 || decide (6 < n))]) fun d =>
      d.stage ((List.range n).map fun i => (arg a (16 + 8 * i) 4, BitVec.ofNat 32 (arg a (20 + 8 * i) 4)))
/-- CMD_PARAM_STAGE_LIST: the pairs stand in host memory. -/
def execCmdParamStageList (t : Tick) (h : CmdHdr) (a : Args) (mem : Option (List (BitVec 8))) (s : State) : Host.Outcome State Fault Refusal :=
  s.on t fun d =>
    let n := arg a 16 4
    d.cmdIf h a [(8, 8), (16, 4)] (firstBad [(16, n == 0 || decide (7488 < n))]) fun d =>
      if d.par.checking.isSome then ends d .busy else
      match mem with
      | none => ends d.dmaFail (.dma 0)
      | some b => d.stage ((List.range n).map (pairAt b))
/-- The value that CMD_PARAM_STAGE_DEFAULTS stages: the default, but 5 % for the window of a group on the supply reference (R56). -/
def Device.defaultFor (d : Device) (id : Nat) : Rat :=
  if pClass id = 0x03 && 0x050 ≤ pInst id && pInst id < 0x054 && pItem id = 2 && Par.measGroupRefSel d.effSet (pInst id - 0x050) = 2 then 5 else dfltOf id
/-- CMD_PARAM_STAGE_DEFAULTS: the defaults of one class, or of all. -/
def execCmdParamStageDefaults (t : Tick) (h : CmdHdr) (a : Args) (s : State) : Host.Outcome State Fault Refusal :=
  s.on t fun d => d.cmd h a [(8, 1)] fun d =>
    if d.par.checking.isSome then ends d .busy else
    let c := arg a 8 1
    let ids := allIds.filter fun id => c == 0xFF || pClass id == c
    let l := ids.foldl (fun l id => putSorted id (d.defaultFor id) l) d.par.staged
    ends (d.setPar fun p => { p with staged := l }) (.ok ids.length)
/-- CMD_PARAM_DISCARD: the staging area is emptied. -/
def execCmdParamDiscard (t : Tick) (h : CmdHdr) (a : Args) (s : State) : Host.Outcome State Fault Refusal :=
  s.on t fun d => d.cmd h a [] fun d =>
    if d.par.checking.isSome then ends d .busy else ends (d.setPar fun p => { p with staged := [] }) (.ok d.par.staged.length)
/-- CMD_PARAM_COMMIT: the check begins (R332). -/
def execCmdParamCommit (t : Tick) (h : CmdHdr) (a : Args) (s : State) : Host.Outcome State Fault Refusal :=
  s.on t fun d => d.cmd h a [] fun d =>
    if d.par.checking.isSome then ends d .busy else (d.setPar fun p => { p with checking := some (h, d.now) }, none)
/-- The set of the last persisted copy (R335). -/
def Device.persisted (d : Device) : Option ParamCopy :=
  (d.parCopies.filter ParamCopy.checks).foldl (fun best c => match best with
    | none => some c
    | some b => if b.number < c.number then some c else some b) none
/-- HST_PARAM_STAT [2]: whether the committed set differs from the last persisted copy. -/
def Device.setDirty (d : Device) : Device :=
  d.setPar fun p => { p with dirty := match d.persisted with
    | none => true
    | some c => c.set != p.committed }
/-- COMMIT_CHECK_DONE: a failure completes the command and keeps the staging area; otherwise the staged values are committed, and wait for their points (R332, R333). -/
def execCommitCheckDone (t : Tick) (s : State) : Host.Outcome State Fault Refusal :=
  s.on t fun d =>
    match d.par.checking with
    | none => d
    | some (h, _) =>
      match d.commitCheck with
      | some e => (d.setPar fun p => { p with checking := none, last := BitVec.ofNat 32 e.detail }).complete h e
      | none =>
        let ids := (d.par.staged.map Prod.fst).filter d.changes
        let cyc := ids.filter (takesAt .cycle)
        (d.setPar fun p => { p with
          checking := none, staged := []
          committed := p.staged.foldl (fun c x => PSet.put c x.1 x.2) p.committed
          waiting := p.waiting ++ ids.filter fun id => !p.waiting.contains id
          applying := (p.applying.map fun x => (x.1, x.2.1, x.2.2.filter fun id => !cyc.contains id)) ++ [(h, d.now, cyc)]
          commits := inc32 p.commits }).setDirty
/-- What new values in force bring at a cycle boundary, beside the measurement chain: the 50 steps of gf.rv and gf.xv (R81), a new plan under new slew limits (R125), trip inputs, comparators and source 45 under new enables, clock outputs, NOPROF (Table 6-1), the host watchdog. -/
def Device.commitEffects (d : Device) (old : PSet) : Device :=
  let d := d.newForce old
  let new := d.P
  let d := if Par.gfRv new = Par.gfRv old && Par.gfXv new = Par.gfXv old then d else
    d.setLaw fun l => { l with st := { l.st with
      rvTarget := Par.gfRv new, xvTarget := Par.gfXv new, rampLeft := 50
      rvStep := (Par.gfRv new - l.st.rv) / 50, xvStep := (Par.gfXv new - l.st.xv) / 50 } }
  let lims := fun (ps : PSet) => [Par.trRocofMax ps, Par.trVRate ps, Par.trVAccel ps]
  let d := if lims new = lims old then d else d.setTraj fun t => { t with phase := { t.phase with replan := true }, amp := { t.amp with replan := true } }
  let d := (List.range 16).foldl Device.refreshTin d
  let d := (List.range 12).foldl Device.evalCmp d
  let d := d.bypassInput.clkoutCommit.commitProfiles
  if Par.hostWdTime old = 0 && Par.hostWdTime new ≠ 0 then d.setHost fun h => { h with wdAt := d.now } else d
/-- COMMIT_APPLY: at a boundary, the cycle items of every commit whose check ended at least t_apply before it; the commands complete with the boundary's cycle counter. It stands before the SAMPLE_TRIGGER of the boundary (R333). -/
def execCommitApply (t : Tick) (s : State) : Host.Outcome State Fault Refusal :=
  s.on t fun d =>
    let e := d.eNext
    let due := d.par.applying.filter fun x => decide ((x.2.1 : Rat) + usT 50 ≤ (e : Rat))
    if d.now < e || due.isEmpty then d else
    let old := d.P
    let ids := due.flatMap fun x => x.2.2
    let d := (d.applyWaiting ids.contains).setPar fun p => { p with applying := p.applying.filter fun x => !due.contains x }
    due.foldl (fun d x => d.complete x.1 (.ok (d.cycle.k + 1))) (d.commitEffects old)
/-- CMD_PARAM_READ (R334). -/
def execCmdParamRead (t : Tick) (h : CmdHdr) (a : Args) (s : State) : Host.Outcome State Fault Refusal :=
  s.on t fun d => d.cmdIf h a [(8, 4), (12, 1)] (firstBad [(12, decide (2 ≤ arg a 12 1))]) fun d =>
    let id := arg a 8 4
    match rowOf id with
    | none => ends d (.noId 0)
    | some row =>
      match d.par.staged.lookup id, arg a 12 1 with
      | some v, 1 => ends d (.ok (2 ^ 32 + (row.word v).toNat))
      | _, _ => ends d (.ok (wordOf d.par.committed id).toNat)
/-- The number that the next persisted copy takes. -/
def Device.persistNumber (d : Device) : Nat :=
  match d.persisted with
  | none => 1
  | some c => (c.number + 1) % 2 ^ 32
/-- CMD_PARAM_PERSIST: the write of the committed set begins (R335). -/
def execCmdParamPersist (t : Tick) (h : CmdHdr) (a : Args) (s : State) : Host.Outcome State Fault Refusal :=
  s.on t fun d => d.cmd h a [] fun d =>
    if d.par.persisting.isSome then ends d .busy else (d.setPar fun p => { p with persisting := some h, persistSet := p.committed }, none)
/-- PARAM_PERSIST_DONE: the copy that is not the last persisted one holds the set, or fails its read-back (R335). -/
def execParamPersistDone (t : Tick) (ok : Bool) (s : State) : Host.Outcome State Fault Refusal :=
  s.on t fun d =>
    match d.par.persisting with
    | none => d
    | some h =>
      let n := d.persistNumber
      let last := match d.persisted with
        | none => 1
        | some c => d.parCopies.idxOf c
      let set := d.par.persistSet
      let d := { d with parCopies := upd d.parCopies (1 - last) fun _ => { good := ok, number := n, set := set, digest := setDigest set } }
      let d := (d.setPar fun p => { p with persisting := none, persistSet := [] }).setDirty
      d.complete h (if ok then .ok n else .dma 1)

end Sys2Proof.Machine
end

