-- ==== Sys2Proof/Machine/Commands.lean ====
section
/-! DEFINITION. The mailbox commands of Table 11-6 that act on the converter: states, trajectories, sequences, breakers, feedback, cells, packs, meters, cell nodes, trips, gate baselines, safety. -/

namespace Sys2Proof.Machine

/-- CMD_NOP: bytes 8 to 15 are echoed. -/
def execCmdNop (t : Tick) (h : CmdHdr) (a : Args) (s : State) : Host.Outcome State Fault Refusal :=
  s.on t fun d => d.cmd h a [(8, 8)] fun d => ends d (.ok (arg a 8 8))
/-- CMD_STATE_REQ: the request is decided at the next cycle boundary; a Standby takes OFF and MAINT alone (R361, R364). -/
def execCmdStateReq (t : Tick) (h : CmdHdr) (a : Args) (s : State) : Host.Outcome State Fault Refusal :=
  s.on t fun d => d.cmd h a [(8, 1)] fun d =>
    let target := arg a 8 1
    if d.standby && target ≠ stOff && target ≠ stMaint then ends d .role
    else (d.setConv fun c => { c with reqs := c.reqs ++ [(h, target)] }, none)

/-! ## Trajectories (R121 to R126) -/

/-- Segment i of a list in host memory, on the phase or the amplitude axis (Table 4-2). -/
def segmentAt (b : List (BitVec 8)) (i : Nat) : Segment :=
  let q := fun (off : Nat) => ((sext 32 (leField b (16 * i + off) 4) : Int) : Rat) / 16777216
  { dur := leField b (16 * i) 4, pos := q 4, vel := q 8 }
/-- A list of n segments is well-formed: durations from 1 to 50,000,000, reserved flags 0, the last-segment flag on the final segment alone. -/
def segmentsOk (b : List (BitVec 8)) (n : Nat) : Bool :=
  (List.range n).all fun i =>
    let dur := leField b (16 * i) 4
    decide (1 ≤ dur) && decide (dur ≤ 50000000) && leField b (16 * i + 12) 4 == (if i + 1 = n then 1 else 0)
/-- CMD_TR_MOVE: a host move is queued (R121 to R123). -/
def execCmdTrMove (t : Tick) (h : CmdHdr) (a : Args) (mem : Option (List (BitVec 8))) (s : State) : Host.Outcome State Fault Refusal :=
  s.on t fun d =>
    let n := arg a 12 2
    let bad := firstBad [(8, decide (2 ≤ arg a 8 1)), (9, decide (2 ≤ arg a 9 1)), (10, decide (2 ≤ arg a 10 1)), (12, n == 0 || decide (256 < n))]
    d.cmdIf h a [(8, 1), (9, 1), (10, 1), (12, 2), (16, 8), (24, 8)] bad fun d =>
      if d.standby then ends d .role
      else if arg a 9 1 = 1 then ends d (.refused 1)
      else if d.conv.state ≠ stRun && d.conv.state ≠ stMaint then ends d d.stateEnd
      else if 16 ≤ d.grid.tr.queue.length || 256 < d.grid.tr.slotsUsed + n then ends d .queueFull
      else match mem with
        | none => ends d.dmaFail (.dma 0)
        | some b =>
          if !segmentsOk b n then ends d (.malformed 24) else
          let m : Move := { amp := arg a 8 1 == 1, locked := false, host := true, tag := h.tag.toNat
                            start := if arg a 10 1 = 1 then some (arg a 16 8) else none
                            segs := (List.range n).map (segmentAt b) }
          let d := d.setTraj fun t => { t with queue := t.queue ++ [m], moveNo := (t.moveNo + 1) % 2 ^ 32 }
          ends d (.ok d.grid.tr.moveNo)
/-- CMD_TR_FLUSH (R123). -/
def execCmdTrFlush (t : Tick) (h : CmdHdr) (a : Args) (s : State) : Host.Outcome State Fault Refusal :=
  s.on t fun d => d.cmd h a [] fun d => if d.standby then ends d .role else ends d.flushMoves (.ok (d.grid.tr.countMoves Move.host))
/-- Entry i of a waveform table in host memory, signed Q2.30. -/
def tableAt (b : List (BitVec 8)) (i : Nat) : Int := sext 32 (leField b (4 * i) 4)
/-- CMD_TR_TABLE_LOAD: an entry beyond ±1.5 rejects the table (R126). -/
def execCmdTrTableLoad (t : Tick) (h : CmdHdr) (a : Args) (mem : Option (List (BitVec 8))) (s : State) : Host.Outcome State Fault Refusal :=
  s.on t fun d => d.cmd h a [(8, 8)] fun d =>
    if !d.offOrMaint then ends d d.stateEnd else
    match mem with
    | none => ends d.dmaFail (.dma 0)
    | some b =>
      let l := (List.range 4096).map (tableAt b)
      let i := l.findIdx fun x => decide (3 * 2 ^ 29 < x.natAbs)
      if i < 4096 then ends d (.range i) else ends (d.setTraj fun t => { t with table := some l }) (.ok 0)

/-! ## Sequences and breakers (R130 to R139) -/

/-- CMD_BLACK_START: the sequence begins, or EV_BS_REFUSED carries the first condition broken (R132). -/
def execCmdBlackStart (t : Tick) (h : CmdHdr) (a : Args) (s : State) : Host.Outcome State Fault Refusal :=
  s.on t fun d => d.cmd h a [] fun d =>
    if d.standby then ends d .role else
    match d.bsRefusal with
    | some n => ends (d.raise "EV_BS_REFUSED" 2 8 0 [(n : Int)]) (.refused n)
    | none => if d.grid.seq.phase ≠ 0 then ends d .busy else ends d.bsBegin (.ok 0)
/-- CMD_LAND: LANDING is requested (R137). -/
def execCmdLand (t : Tick) (h : CmdHdr) (a : Args) (s : State) : Host.Outcome State Fault Refusal :=
  s.on t fun d => d.cmd h a [] fun d =>
    if d.standby then ends d .role else
    match d.landRefusal with
    | some n => ends d (.refused n)
    | none => if d.anyUndervoltage then ends d (.refused 5) else ends (d.setConv fun c => { c with trigSeq := some (stLanding, 4) }) (.ok 0)
/-- CMD_LAND_ABORT: reason 1; outside a landing it is not accepted (R139). -/
def execCmdLandAbort (t : Tick) (h : CmdHdr) (a : Args) (s : State) : Host.Outcome State Fault Refusal :=
  s.on t fun d => d.cmd h a [] fun d =>
    if d.standby then ends d .role else if !d.landing then ends d d.stateEnd else ends (d.landAbort 1) (.ok 0)
/-- CMD_BRK_CLOSE: the main breaker in OFF and MAINT alone; no FAULTY breaker (R131). -/
def execCmdBrkClose (t : Tick) (h : CmdHdr) (a : Args) (s : State) : Host.Outcome State Fault Refusal :=
  s.on t fun d =>
    let b := arg a 8 1
    d.cmdIf h a [(8, 1)] (firstBad [(8, decide (2 ≤ b))]) fun d =>
      if d.standby then ends d .role
      else if Par.brkRole d.P b = 1 && !d.offOrMaint then ends d d.stateEnd
      else if (d.brkAt b).faulty then ends d (.refused 1)
      else ends (d.closeCommand b) (.ok 0)
/-- A contact is chattering: a filtered transition within the chatter window that ends now (R130). -/
def Device.contactChatters (d : Device) (b c : Nat) : Bool :=
  match ((d.brkAt b).contact c).trans.head? with
  | none => false
  | some x => !d.pastBeyond x (msT (Par.brkChatterWin d.P b))
/-- CMD_BRK_REARM: with the debounced pair at OPEN or CLOSED and no contact chattering, both causes clear (R130). -/
def execCmdBrkRearm (t : Tick) (h : CmdHdr) (a : Args) (s : State) : Host.Outcome State Fault Refusal :=
  s.on t fun d =>
    let b := arg a 8 1
    d.cmdIf h a [(8, 1)] (firstBad [(8, decide (2 ≤ b))]) fun d =>
      let x : Breaker := { d.brkAt b with discFault := false, chatFault := false }
      if 2 ≤ x.position then ends d (.refused 1)
      else if d.contactChatters b 0 || d.contactChatters b 1 then ends d (.refused 2)
      else
        let d := d.setProt fun p => { p with contactChat := p.contactChat &&& ~~~(3#4 <<< (2 * b)) }
        ends ((d.setBrk b fun x => { x with discFault := false, chatFault := false }).brkSettle b) (.ok 0)

/-! ## Feedback and cells (R100, R171) -/

/-- CMD_FEEDBACK_REARM: latched sensors of the mask may be admitted again (R100). -/
def execCmdFeedbackRearm (t : Tick) (h : CmdHdr) (a : Args) (s : State) : Host.Outcome State Fault Refusal :=
  s.on t fun d =>
    let m := arg a 8 2
    d.cmdIf h a [(8, 2)] (firstBad [(8, decide (4096 ≤ m))]) fun d =>
      ends (d.setLaw fun l => { l with sensors := l.sensors.mapIdx fun i x => if bit m i && x.faulty then { x with rearmed := true, agree := 0 } else x }) (.ok 0)
/-- A command whose bytes 8 to 9 name a cell. -/
def Device.cellCmd (d : Device) (h : CmdHdr) (a : Args) (body : Nat → Device → Device × Option Ending) : Device :=
  d.cmdIf h a [(8, 2)] (firstBad [(8, decide (384 ≤ arg a 8 2))]) (body (arg a 8 2))
/-- CMD_CELL_BYPASS (R171). -/
def execCmdCellBypass (t : Tick) (h : CmdHdr) (a : Args) (s : State) : Host.Outcome State Fault Refusal :=
  s.on t fun d => d.cellCmd h a fun c d => ends (d.bypass c 5) (.ok 0)
/-- CMD_CELL_RETURN: in MAINT, for a BYPASSED cell whose node reports BP open and no fault flag; the cell rests for mod.rest_min cycles (R171). -/
def execCmdCellReturn (t : Tick) (h : CmdHdr) (a : Args) (s : State) : Host.Outcome State Fault Refusal :=
  s.on t fun d => d.cellCmd h a fun c d =>
    let flags := ((d.node c).last.map Slot.flags).getD 0xFFFF
    if d.conv.state ≠ stMaint then ends d d.stateEnd
    else if !(d.mcell c).bypassed then ends d (.refused 1)
    else if flags.getLsbD 3 then ends d (.refused 2)
    else if flags.getLsbD 5 || flags.getLsbD 6 || flags.getLsbD 7 then ends d (.refused 3)
    else
      let d := d.setCell c fun m => { m with bypassed := false, bypStep := 0, bypFailed := false, cmdState := 0, restReturn := some (Par.modRestMin d.P) }
      ends ((d.setProt fun p => { p with bypFailed := p.bypFailed.erase c }).bypassInput) (.ok 0)

/-! ## Packs and meters (R177, R184, R189, R191, R194, R195) -/

/-- CMD_PACK_REARM: causes XCHK and DIVERGE clear, with the flags and counts of the checks that latch (R177, R189). -/
def execCmdPackRearm (t : Tick) (h : CmdHdr) (a : Args) (s : State) : Host.Outcome State Fault Refusal :=
  s.on t fun d => d.cellCmd h a fun c d =>
    let d := d.setPack c fun p => { p with xchk := p.xchk &&& 12, xTripped := p.xTripped &&& 12, xRuns := (p.xRuns.set 0 0).set 1 0 }
    ends (d.refreshCauses c (remove := 0xC0)) (.ok 0)
/-- The identity that a new tenancy takes: the one last reported, the stored one before a report, 0 for a pack without one. -/
def Device.identNow (d : Device) (c : Nat) : BitVec 64 :=
  if (d.mapOf c 12).isNone && (d.mapOf c 13).isNone then 0 else if (d.pack c).identSeen then (d.pack c).identLast else (d.pack c).ten.ident
/-- CMD_PACK_TENANCY: MAINT only (R191). -/
def execCmdPackTenancy (t : Tick) (h : CmdHdr) (a : Args) (s : State) : Host.Outcome State Fault Refusal :=
  s.on t fun d => d.cellCmd h a fun c d =>
    if d.standby then ends d .role else
    if d.conv.state ≠ stMaint then ends d d.stateEnd else
    let d := (d.newTenancy c (d.identNow c)).refreshCauses c (remove := 512)
    ends d (.ok (d.pack c).ten.number)
/-- CMD_BMS_TAP: the tap moves to a cell and a buffer, or stops (R184, R330). -/
def execCmdBmsTap (t : Tick) (h : CmdHdr) (a : Args) (s : State) : Host.Outcome State Fault Refusal :=
  s.on t fun d =>
    let c := arg a 8 2
    let n := arg a 12 1
    let stop := c = 0xFFFF
    d.cmdIf h a [(8, 2), (12, 1), (16, 8)] (firstBad [(8, decide (384 ≤ c) && !decide stop), (12, !decide stop && (decide (n < 4) || decide (12 < n)))]) fun d =>
      ends (d.setPacks fun p => { p with tap := if stop then none else some (c, arg a 16 8, n), tapIdx := 0 }) (.ok 0)
/-- CMD_BMS_SEND: one raw frame joins the cell's queue, in OFF and MAINT; BUSY while 16 frames wait (R184, R224). -/
def execCmdBmsSend (t : Tick) (h : CmdHdr) (a : Args) (s : State) : Host.Outcome State Fault Refusal :=
  s.on t fun d =>
    let c := arg a 8 2
    let id := arg a 12 4
    d.cmdIf h a [(8, 2), (12, 4), (16, 1), (24, 8)] (firstBad [(8, decide (384 ≤ c)), (12, decide (2 ^ 30 ≤ id)), (16, decide (8 < arg a 16 1))]) fun d =>
      if !d.offOrMaint then ends d d.stateEnd
      else if 16 ≤ (d.node c).down.length then ends d .busy
      else
        let fr : TunRec := { owner := c % 32, up := false, ide := bit id 29, dlc := arg a 16 1, canId := BitVec.ofNat 29 id, data := BitVec.ofNat 64 (arg a 24 8), stamp := 0 }
        ends (d.queueDown c { fr := fr, tx := 2 }) (.ok 0)
/-- CMD_METER_SNAPSHOT: the counters of the named cells are frozen at the next boundary; one snapshot at a time (R195). -/
def execCmdMeterSnapshot (t : Tick) (h : CmdHdr) (a : Args) (s : State) : Host.Outcome State Fault Refusal :=
  s.on t fun d =>
    let first := arg a 20 2
    let n := arg a 22 2
    let bad := firstBad [(16, decide (arg a 16 4 < 64 + 80 * n + 1284)), (20, decide (384 < first + n)), (22, n == 0 || decide (384 < n))]
    d.cmdIf h a [(8, 8), (16, 4), (20, 2), (22, 2), (24, 16)] bad fun d =>
      if d.standby then ends d .role
      else if d.meter.snap.isSome then ends d .busy
      else (d.setMeter fun m => { m with snap := some { hdr := h, addr := arg a 8 8, first := first, count := n, nonce := BitVec.ofNat 128 (arg a 24 16), frozen := false, record := [] } }, none)
/-- CMD_METER_ACK: METER_RESET clears (R194). -/
def execCmdMeterAck (t : Tick) (h : CmdHdr) (a : Args) (s : State) : Host.Outcome State Fault Refusal :=
  s.on t fun d => d.cmd h a [] fun d => ends (d.setMeter fun m => { m with meterReset := false }) (.ok 0)

/-! ## Cell nodes (R225) -/

/-- A transaction of the host waits for a frame of its ring; a ring set to none carries no frames, and refuses it as one whose answers are missed. -/
def Device.queueTxn (d : Device) (h : CmdHdr) (ring addr : Nat) (q : SlowReq) : Device × Option Ending :=
  if Par.ringArm d.P ring = 3 then ends d (.refused 3) else
  (d.setLink fun l => { l with txns := l.txns ++ [{ ring := ring, req := q, hdr := h, addr := addr, missed := 0, sentSeq := none }] }, none)
/-- CMD_NODE_READ. -/
def execCmdNodeRead (t : Tick) (h : CmdHdr) (a : Args) (s : State) : Host.Outcome State Fault Refusal :=
  s.on t fun d =>
    let n := arg a 12 1
    let bad := firstBad [(8, decide (12 ≤ arg a 8 1)), (9, decide (32 ≤ arg a 9 1)), (12, n == 0 || decide (48 < n))]
    d.cmdIf h a [(8, 1), (9, 1), (10, 2), (12, 1), (16, 8)] bad fun d =>
      d.queueTxn h (arg a 8 1) (arg a 16 8) (slowReq (arg a 9 1) 1 (arg a 10 2) n [])
/-- CMD_NODE_WRITE: a write that touches 0x0020 to 0x0033 is rejected; one that touches 0x0080 and above needs MAINT. -/
def execCmdNodeWrite (t : Tick) (h : CmdHdr) (a : Args) (s : State) : Host.Outcome State Fault Refusal :=
  s.on t fun d =>
    let n := arg a 12 1
    let pos := arg a 9 1
    let adr := arg a 10 2
    let bad := firstBad [(8, decide (12 ≤ arg a 8 1)), (9, decide (32 ≤ pos) && pos != 0xFE), (12, n == 0 || decide (48 < n))]
    d.cmdIf h a [(8, 1), (9, 1), (10, 2), (12, 1), (16, 48)] bad fun d =>
      if adr ≤ 0x33 && 0x20 < adr + n then ends d (.refused 1)
      else if 0x80 < adr + n && d.conv.state ≠ stMaint then ends d d.stateEnd
      else d.queueTxn h (arg a 8 1) 0 (slowReq pos 2 adr n ((leBytes 48 (arg a 16 48)).take n))

/-! ## Trips and gates (R232, R233, R246, R253, R257) -/

/-- A clear request of the host for source i; whether it is rejected (R232, Table 8-4). -/
def Device.hostClear (d : Device) (i : Nat) : Device × Bool :=
  if i = 41 then (if (d.srcAt 41).active then (d.rejectClear 41 0, true) else (d, false))
  else (d.clearRequest i false, (d.srcAt i).latch == 1 && d.srcActive i)
/-- Act on each index of a list; the mask of those refused. -/
def refusedOver (f : Device → Nat → Device × Bool) : List Nat → Device → Device × Nat
  | [], d => (d, 0)
  | i :: r, d =>
    let (d, no) := f d i
    let (d, m) := refusedOver f r d
    (d, if no then m + 2 ^ i else m)
/-- The end of a command that acts on each source of its mask on its own (R328). -/
def endsMask (x : Device × Nat) : Device × Option Ending := ends x.1 (if x.2 = 0 then .ok 0 else .refusedMask x.2)
/-- CMD_TRIP_CLEAR. -/
def execCmdTripClear (t : Tick) (h : CmdHdr) (a : Args) (s : State) : Host.Outcome State Fault Refusal :=
  s.on t fun d => d.cmd h a [(8, 6)] fun d => endsMask (refusedOver Device.hostClear (idx 48 (bit (arg a 8 6))) d)
/-- The rearm of trip input i: its filtered level has been inactive without a transition for a full chatter window (R233). -/
def Device.tripRearm (d : Device) (i : Nat) : Device × Bool :=
  let quiet := match (d.tin i).trans.head? with
    | none => true
    | some x => d.past x (msT (Par.protTinChatterWin d.P i))
  if d.tinActive i || !quiet then (d, true)
  else ((d.setProt fun p => { p with tins := upd p.tins i fun x => { x with faulty := false } }).refreshTin i, false)
/-- CMD_TRIP_REARM. -/
def execCmdTripRearm (t : Tick) (h : CmdHdr) (a : Args) (s : State) : Host.Outcome State Fault Refusal :=
  s.on t fun d => d.cmd h a [(8, 2)] fun d => endsMask (refusedOver Device.tripRearm (idx 16 (bit (arg a 8 2))) d)
/-- CMD_TRIP_FORCE: source 46 is active for one sample (R253). -/
def execCmdTripForce (t : Tick) (h : CmdHdr) (a : Args) (s : State) : Host.Outcome State Fault Refusal :=
  s.on t fun d => d.cmd h a [] fun d => ends ((((d.setProt fun p => { p with hostTripUntil := some (d.now + 1) }).inputActive 46 { arms := d.srcArms 46 }).setSrc 46 fun s => { s with active := false, quietFrom := some (d.now + 1) })) (.ok 0)
/-- CMD_GATE_BASELINE: the baseline of each direction becomes the code mean, of one cell or of all (R257). -/
def execCmdGateBaseline (t : Tick) (h : CmdHdr) (a : Args) (s : State) : Host.Outcome State Fault Refusal :=
  s.on t fun d =>
    let c := arg a 8 2
    d.cmdIf h a [(8, 2)] (firstBad [(8, decide (384 ≤ c) && c != 0xFFFF)]) fun d =>
      let set := fun (g : Gate) => { g with base := some g.mean, aged := false }
      ends (d.setProt fun p => { p with gates := p.gates.mapIdx fun i g => if c = 0xFFFF || i = c then (set g.1, set g.2) else g }) (.ok 0)

/-! ## Safety (R271, R274, R281) -/

/-- CMD_SAFE_RESET. -/
def execCmdSafeReset (t : Tick) (h : CmdHdr) (a : Args) (s : State) : Host.Outcome State Fault Refusal :=
  s.on t fun d => d.cmd h a [] fun d =>
    if !Par.safHostReset d.safety.par then ends d (.refused 1)
    else if !d.bslRuns then ends d (.refused 2)
    else
      let (d, rejected) := d.safetyReset
      ends d (if rejected then .refused 2 else .ok 0)
/-- The rearm of safety input n: its channels have agreed without a transition for saf.sin[n].disc_time and 100 ms (R271). -/
def Device.sinRearm (d : Device) (n : Nat) : Device × Bool :=
  let x := d.sin n
  if d.sinAgree n && d.past x.lastTrans (msT (Par.safSinDiscTime d.safety.par n)) && d.past x.lastTrans (msT 100) then
    ((d.setSin n fun x => { x with faulty := false }).evalInputs, false)
  else (d, true)
/-- The rearm of safety output n: FAULTY clears, the output stays de-energised, and the switch check runs (R274). -/
def Device.soutRearm (d : Device) (n : Nat) : Device × Bool :=
  if !(d.sout n).faulty then (d, false) else ((d.setSout n fun x => { x with faulty := false, checking := true, checkFrom := none, checked := false }).driveOutputs, false)
/-- CMD_SAFE_REARM: inputs in any state, outputs in MAINT. -/
def execCmdSafeRearm (t : Tick) (h : CmdHdr) (a : Args) (s : State) : Host.Outcome State Fault Refusal :=
  s.on t fun d =>
    let m := arg a 9 1
    let outs := arg a 8 1 = 1
    d.cmdIf h a [(8, 1), (9, 1)] (firstBad [(8, decide (2 ≤ arg a 8 1)), (9, decide (2 ^ (if outs then 6 else 4) ≤ m))]) fun d =>
      if outs then (if d.conv.state ≠ stMaint then ends d d.stateEnd else endsMask (refusedOver Device.soutRearm (idx 6 (bit m)) d))
      else endsMask (refusedOver Device.sinRearm (idx 4 (bit m)) d)

end Sys2Proof.Machine
end

