-- ==== Sys2Proof/Machine/Masks.lean ====
section
/-! DEFINITION. Envelope masks of the recorder (R421 to R423), with the meaning of MASK_PASS. -/

namespace Sys2Proof.Machine

/-- Change mask m. -/
def Device.setMask (d : Device) (m : Nat) (f : MaskRun → MaskRun) : Device := d.setRec fun r => { r with masks := upd r.masks m f }

/-- The quantity of mask m in the cycle in progress; sources 0 to 3 exist only while the law runs (R421). -/
def Device.maskValue (d : Device) (m : Nat) : Option Rat :=
  let law := fun (x : Rat) => if d.law.running then some x else none
  match Par.recMaskSource d.P m with
  | 0 => law d.grid.ride.vPos
  | 1 => law d.grid.ride.vNeg
  | 2 => law d.grid.ride.pllFreq
  | 3 => law d.law.iR
  | _ =>
    let x := Par.recMaskStream d.P m
    some (((d.strm x).out : Rat) / 256 / d.streamBase x)

/-- Time of the last point of mask m, ms. -/
def Device.maskEnd (d : Device) (m : Nat) : Rat := Par.recMaskTime d.P m (Par.recMaskN d.P m - 1)

/-- The envelope of mask m at a time in ms: lo and hi on the line between the points around it, the later of two points at one time from that time on; none before the first point (R422). -/
def Device.maskLimits (d : Device) (m : Nat) (t : Rat) : Option (Rat × Rat) :=
  let p := d.P
  match (idx (Par.recMaskN p m) fun i => decide (Par.recMaskTime p m i ≤ t)).getLast? with
  | none => none
  | some i =>
    let lo := Par.recMaskLo p m i
    let hi := Par.recMaskHi p m i
    if Par.recMaskN p m ≤ i + 1 then some (lo, hi) else
    let t0 := Par.recMaskTime p m i
    let f := (t - t0) / (Par.recMaskTime p m (i + 1) - t0)
    some (lo + (Par.recMaskLo p m (i + 1) - lo) * f, hi + (Par.recMaskHi p m (i + 1) - hi) * f)

/-- A violation of mask m in the cycle in progress (R423). -/
def Device.maskViolation (d : Device) (m : Nat) (t : Tick) (value : Rat) : Device :=
  let (v, d) := d.quant (value * 16777216)
  let d := (d.setMask m fun x => { x with running := false, bad := 0, violated := true }).hwSet 0x300028 (2 ^ (8 + m))
  let d := (d.onFrame fun f => { f with maskViol := true }).raise "EV_REC_MASK" 9 0 0 [(m : Int), 1, (t : Int), v]
  let hit := idx 16 fun x => Par.recTrigType d.P x == 7 && Par.recTrigSrc d.P x == 0x4000 + m
  let d := hit.foldl (fun d x => d.condMet x d.cycle.eK 0) d
  if !Par.recMaskStop d.P m then d else
  let opens := d.recd.state == 1 && hit.any fun x => Par.recTrigAction d.P x == 1 && d.qualified x d.cycle.eK && decide (d.recd.armedAt ≤ d.cycle.eK)
  if d.recd.state = 2 || opens then d.setRec fun r => { r with stopPend := true, stopMask := true }
  else if d.recd.state = 1 then d.recStop 3
  else d

/-- The comparison of mask m for the cycle in progress: a value outside for count consecutive cycles is a violation; the run of a mask that is off, or whose source does not exist, ends without a result. -/
def Device.maskCycle (d : Device) (m : Nat) : Device :=
  let x := d.recd.masks.getD m MaskRun.reset
  if !x.running then d else
  if !Par.recMaskEnable d.P m then d.setMask m fun x => { x with running := false, bad := 0 } else
  match d.maskValue m with
  | none => d.setMask m fun x => { x with running := false, bad := 0 }
  | some v =>
    if d.cycle.eK < x.t0 then d else
    let t := d.cycle.eK - x.t0
    let ms : Rat := (t : Rat) / 800000
    if d.maskEnd m ≤ ms then d else
    let out := match d.maskLimits m ms with
      | some (lo, hi) => decide (v < lo) || decide (hi < v)
      | none => false
    let n := if out then x.bad + 1 else 0
    if Par.recMaskCount d.P m ≤ n && out then d.maskViolation m t v
    else d.setMask m fun x => { x with bad := n }

/-- Every mask's comparison at the end of a cycle. -/
def Device.maskChecks (d : Device) : Device := (List.range 4).foldl (fun d m => d.maskCycle m) d

/-- At a cycle start the runs begin whose start event has been seen (R422). -/
def Device.maskStarts (d : Device) : Device :=
  let now := d.now
  let one := fun (x : MaskRun) => if x.startAt.isSome then { x with running := true, startAt := none, t0 := now, bad := 0 } else x
  d.setRec fun r => { r with masks := r.masks.map one }

/-- MASK_PASS: each run that has reached the time of its last point ends with pass, after the comparison of the cycle in progress (R422). -/
def execMaskPass (t : Tick) (s : State) : Host.Outcome State Fault Refusal :=
  s.on t fun d =>
    let ovr := fun (d : Device) (m : Nat) =>
      let x := d.recd.masks.getD m MaskRun.reset
      x.running && d.past x.t0 (msT (d.maskEnd m))
    (idx 4 fun m => ovr d m).foldl (fun d m =>
      let d := d.maskCycle m
      if !ovr d m then d else
      let x := d.recd.masks.getD m MaskRun.reset
      (d.setMask m fun x => { x with running := false, bad := 0 }).raise "EV_REC_MASK" 9 0 0 [(m : Int), 0, ((d.now - x.t0 : Nat) : Int), 0]) d

end Sys2Proof.Machine
end

