-- ==== Sys2Proof/Machine/Counters.lean ====
section
/-! DEFINITION. Counter blocks, the counter page, Anemometer dumps and drift tags (R455 to R464), with the meanings of their commands. -/

namespace Sys2Proof.Machine

/-- Change the counters. -/
def Device.setPmc (d : Device) (f : Pmc → Pmc) : Device := { d with zep := { d.zep with pmc := f d.zep.pmc } }
/-- Change the drift tags. -/
def Device.setDrift (d : Device) (f : Drift → Drift) : Device := { d with zep := { d.zep with drift := f d.zep.drift } }

/-! ## Configuration and reads (R456, R458, R459) -/

/-- PMC_CONFIG_WRITE: the counter and its overflow bit go to 0, and the configuration applies from the next tick; a 1 in a reserved bit is counted (R9). -/
def execPmcConfigWrite (t : Tick) (b : Fin 7) (i : Fin 16) (v : BitVec 32) (s : State) : Host.Outcome State Fault Refusal :=
  s.on t fun d =>
    let now := d.now
    let d := d.setCtrs b fun l => upd l i fun _ => { value := 0, cfg := BitVec.ofNat 11 v.toNat, ovf := false, wrote := some now }
    d.reserved v 0x7FF
/-- COUNTER_WRAP: a signal outside the model counts on a counter that stands at 2^48 − 1: it wraps into its chained counter, or sets its overflow bit (R458). -/
def execCounterWrap (t : Tick) (b : Fin 7) (i : Fin 16) (s : State) : Host.Outcome State Fault Refusal :=
  s.on t fun d => if (d.ctr b i).value = 2 ^ 48 - 1 && (d.ctr b i).en then d.ctrAdd b i 1 else d
/-- The 64-bit words of the user page (Table 17-2). -/
def Device.pageWord (d : Device) (offset : Nat) : Nat :=
  if offset = 0 then d.ctb % 2 ^ 64
  else if offset = 8 then d.cycle.k % 2 ^ 48
  else if offset = 0x10 then d.zep.pmc.lastSeq.toNat + 2 ^ 32 * (d.zep.hk.round % 2 ^ 32)
  else if 0x40 ≤ offset && offset < 0x3C0 then (d.ctr ((offset - 0x40) / 0x80) ((offset - 0x40) % 0x80 / 8)).value
  else 0
/-- COUNTER_PAGE_LOW_READ: a 4-byte read of a lower word, of a counter, the CTB or the cycle counter; the one latch of the page takes the upper word. -/
def execCounterPageLowRead (t : Tick) (offset : BitVec 12) (s : State) : Host.Outcome State Fault Refusal :=
  s.on t fun d =>
    let o := offset.toNat
    let w := d.pageWord (o / 8 * 8)
    if o % 8 ≠ 0 then d.hostErr.answer 0
    else if o < 0x10 || (0x40 ≤ o && o < 0x3C0) then (d.setPmc fun p => { p with upper := BitVec.ofNat 32 (w / 2 ^ 32) }).answer (w % 2 ^ 32)
    else d.answer (w % 2 ^ 32)

/-! ## Dumps (R460, R461) -/

/-- DUMP_RING_ENABLE_WRITE: setting PMC_DUMP_CTRL [0] enables the ring and makes the next sequence number 0; clearing it disables the ring. -/
def execDumpRingEnableWrite (t : Tick) (v : BitVec 32) (s : State) : Host.Outcome State Fault Refusal :=
  s.on t fun d =>
    let on := v.getLsbD 0
    let d := if on && !d.zep.pmc.on then d.setPmc fun p => { p with on := true, seq := 0 } else d.setPmc fun p => { p with on := on }
    d.reserved v 1
/-- A dump of the rounds is due: now is the first tick, within ±2 ticks, of a round whose number is a multiple of anem.period, and its dump has not fallen due yet. -/
def Device.dumpRoundDue (d : Device) : Bool :=
  let n := Par.anemPeriod d.P
  n != 0 && d.roundNow % 2 ^ 32 % n == 0 && d.zep.pmc.dumped != some d.roundNow && decide (d.now % 8000000 ≤ 2)
/-- A dump by command is due: the first CTB multiple of 800 ticks after its start has come. -/
def Device.dumpCmdDue (d : Device) : Bool := d.zep.pmc.cmd.isSome && decide ((d.zep.pmc.cmdFrom / 800 + 1) * 800 ≤ d.now)
/-- The entry of a freeze now (Table 17-3). -/
def Device.dumpEntry (d : Device) (byCmd : Bool) : List (BitVec 8) :=
  let p := d.zep.pmc
  let blocks := Par.anemBlocks d.P
  let ctrs := fun (b : Nat) => (List.range 16).map fun i => if bit blocks b then d.ctr b i else PmcCounter.reset
  let ovf := (List.range 7).flatMap fun b => leBytes 2 (ofBits ((ctrs b).map PmcCounter.ovf))
  [0x47, 0x58, 0x41, 0x4E] ++ leBytes 2 1 ++ leBytes 2 blocks ++ leBytes 4 p.seq.toNat ++ leBytes 4 d.roundNow ++ leBytes 8 d.now ++
    leBytes 6 d.cycle.k ++ leBytes 1 byCmd.toNat ++ leBytes 1 0 ++ ovf ++ List.replicate 14 0 ++ leBytes 4 p.seq.toNat ++
    ((List.range 7).flatMap fun b => (ctrs b).flatMap fun c => leBytes 8 c.value) ++ List.replicate 64 0
/-- ANEMOMETER_DUMP: at a due tick every block is frozen and the dump's write begins; while one is being written the dump is skipped and counted, and a command that asked for it is refused. -/
def execAnemometerDump (t : Tick) (s : State) : Host.Outcome State Fault Refusal :=
  s.on t fun d =>
    let p := d.zep.pmc
    let byCmd := d.dumpCmdDue
    let due := byCmd || (p.on && d.dumpRoundDue)
    if !due then d else
    let d := d.setPmc fun p => { p with dumped := if byCmd then p.dumped else some d.roundNow, cmd := if byCmd then none else p.cmd }
    let fail := fun (d : Device) => match byCmd, p.cmd with
      | true, some h => d.complete h (.refused (if p.on then 2 else 1))
      | _, _ => d
    if !p.on then fail d
    else if p.writing.isSome then fail (d.setPmc fun p => { p with skip := inc32 p.skip })
    else
      let base := p.baseH.toNat * 2 ^ 32 + p.baseL.toNat / 4096 * 4096
      let w : Dump := { seq := p.seq.toNat, hdr := if byCmd then p.cmd else none, bytes := d.dumpEntry byCmd, addr := base + 1024 * (p.seq.toNat % 2 ^ p.size.toNat) }
      d.setPmc fun p => { p with writing := some w, seq := p.seq + 1 }
/-- DUMP_WRITE_DONE: the write of a dump completes and signals vector 9, or fails: the ring is disabled and the failure reported, code 0x0040. -/
def execDumpWriteDone (t : Tick) (ok : Bool) (s : State) : Host.Outcome State Fault Refusal :=
  s.on t fun d =>
    match d.zep.pmc.writing with
    | none => d
    | some w =>
      let finish := fun (d : Device) (e : Ending) => match w.hdr with
        | some h => d.complete h e
        | none => d
      if ok then
        let d := d.post { HostWrite.reset with kind := 5, addr := w.addr, bytes := w.bytes }
        let d := (d.setPmc fun p => { p with writing := none, lastSeq := BitVec.ofNat 32 w.seq }).msix 9
        finish d (.ok w.seq)
      else
        let d := (d.setPmc fun p => { p with writing := none, on := false, err := true }).dmaFail
        (finish d (.dma 0)).errReport 0x0040 0 0 0 0
/-- CMD_PMC_DUMP: a dump at the next CTB multiple of 800 ticks; REFUSED while the ring is disabled. -/
def execCmdPmcDump (t : Tick) (h : CmdHdr) (a : Args) (s : State) : Host.Outcome State Fault Refusal :=
  s.on t fun d => d.cmd h a [] fun d =>
    if !d.zep.pmc.on then ends d (.refused 1)
    else if d.zep.pmc.cmd.isSome then ends d .busy
    else (d.setPmc fun p => { p with cmd := some h, cmdFrom := d.now }, none)
/-- CMD_PMC_CLEAR: the selected counters of the selected blocks and their overflow bits go to 0. -/
def execCmdPmcClear (t : Tick) (h : CmdHdr) (a : Args) (s : State) : Host.Outcome State Fault Refusal :=
  s.on t fun d =>
    let blocks := arg a 8 1
    d.cmdIf h a [(8, 1), (12, 2)] (firstBad [(8, bit blocks 7)]) fun d =>
      let sel := arg a 12 2
      let one := fun (i : Nat) (c : PmcCounter) => if bit sel i then { c with value := 0, ovf := false } else c
      ends ((idx 7 fun b => bit blocks b).foldl (fun d b => d.setCtrs b fun l => l.mapIdx one) d) (.ok 0)

/-! ## Drift tags (R462 to R464) -/

/-- The streams fed by an active cycle-sequence entry. -/
def Device.cycleStreams (d : Device) : List Nat :=
  (((List.range 16).flatMap fun n => activeEntries (cycTable d.P n)).map seqStream).filter fun x => decide (x < 64)
/-- At a cycle start with no tag in flight Thatch draws; a tagged cycle's tag is held with its entry within 0.005 µs (R462). -/
def Device.driftDraw (d : Device) : Device :=
  if d.zep.drift.tag.isSome then d else
  let r := Config.driftNext d.zep.drift.lfsr
  let d := d.setDrift fun x => { x with lfsr := r }
  let n := Par.hkDriftPeriod d.P
  let l := d.cycleStreams
  if n = 0 || r.toNat % n ≠ 0 || l.isEmpty then d else
  let (k, d) := d.draw
  let t0 := (Config.freeReal k).floor.toNat % 5
  let g : DriftTag := { DriftTag.reset with
    num := d.zep.drift.next, stream := l.getD (Config.driftPick r l.length % l.length) 0, cyc := d.cycle.k, eK := d.cycle.eK
    stamps := upd (List.replicate 7 none) 0 fun _ => some t0 }
  d.setDrift fun x => { x with tag := some g, next := x.next + 1 }
/-- DRIFT_TAG_END: the tag in flight ends at T6, or incomplete at E(k + 2); flip holds the bits in which the acknowledged value differs from the one written. Its record enters the trace. -/
def execDriftTagEnd (t : Tick) (flip : BitVec 32) (s : State) : Host.Outcome State Fault Refusal :=
  s.on t fun d =>
    match d.zep.drift.tag with
    | none => d
    | some g =>
      let ovr := decide (g.cyc + 2 ≤ d.cycle.k)
      if !ovr && (g.stamps.getD 6 none).isNone then d else
      let incomplete := g.stamps.any Option.isNone
      let acked := (g.stamps.getD 2 none).isSome
      let v2 : Int := if acked then (BitVec.ofInt 32 g.v2 ^^^ flip).toInt else g.v2
      let mismatch := acked && v2 != g.v1
      let g := { g with incomplete := incomplete, v2 := v2, mismatch := mismatch }
      let d := d.setDrift fun x => { x with
        tag := none, trace := (g :: x.trace).take 64, cnt := inc32 x.cnt, inc := if incomplete then inc32 x.inc else x.inc
        max := max x.max ((g.stamps.getD 4 none).getD 0) }
      if mismatch then d.raise "EV_DRIFT_MISMATCH" 0 4 g.stream [(g.stream : Int), g.v1, v2] else d
/-- A drift record (Table 17-5). -/
def DriftTag.bytes (g : DriftTag) : List (BitVec 8) :=
  leBytes 2 g.num.toNat ++ leBytes 1 g.stream ++ leBytes 1 (ofBits [g.incomplete, g.mismatch]) ++ leBytes 6 g.cyc ++ leBytes 2 0 ++
    ((List.range 7).flatMap fun j => leBytes 4 ((g.stamps.getD j none).getD 0xFFFFFFFF)) ++
    leBytes 4 (trunc 32 g.v1) ++ leBytes 4 (trunc 32 g.v2) ++ List.replicate 16 0
/-- CMD_DRIFT_READ: records to host memory, newest first. -/
def execCmdDriftRead (t : Tick) (h : CmdHdr) (a : Args) (dmaOk : Bool) (s : State) : Host.Outcome State Fault Refusal :=
  s.on t fun d =>
    let n := arg a 16 1
    d.cmdIf h a [(8, 8), (16, 1)] (firstBad [(16, n == 0 || decide (64 < n))]) fun d =>
      let l := d.zep.drift.trace.take n
      if !dmaOk then ends d.dmaFail (.dma 0)
      else ends (d.post { HostWrite.reset with kind := 4, addr := arg a 8 8, bytes := l.flatMap DriftTag.bytes }) (.ok l.length)

end Sys2Proof.Machine
end

