-- ==== Sys2Proof/Machine/Housekeeping.lean ====
section
/-! DEFINITION. The Zephyr round (R465, R466), die temperatures (R467 to R470) and supplies (R471), with the meanings of their commands. -/

namespace Sys2Proof.Machine

/-- Change housekeeping. -/
def Device.setHk (d : Device) (f : Hk → Hk) : Device := { d with zep := { d.zep with hk := f d.zep.hk } }
/-- Temperature sensor i. -/
def Device.sensor (d : Device) (i : Nat) : HkSensor := d.zep.hk.sensors.getD i HkSensor.reset
/-- Change temperature sensor i. -/
def Device.setSensor (d : Device) (i : Nat) (f : HkSensor → HkSensor) : Device := d.setHk fun h => { h with sensors := upd h.sensors i f }
/-- Change supply monitor v. -/
def Device.setRail (d : Device) (v : Nat) (f : HkSensor → HkSensor) : Device := d.setHk fun h => { h with rails := upd h.rails v f }
/-- Change die n. -/
def Device.setHkDie (d : Device) (n : Nat) (f : HkDie → HkDie) : Device := d.setHk fun h => { h with dies := upd h.dies n f }

/-! ## Sensors (R467, R468) -/

/-- A reading of a sensor that is good or bad: the third consecutive bad one makes the sensor broken. The second part says whether it breaks now. -/
def HkSensor.take (x : HkSensor) (v : Int) (bad : Bool) : HkSensor × Bool :=
  let badRun := if bad then x.badRun + 1 else 0
  let breaks := !x.broken && decide (3 ≤ badRun)
  ({ x with last := v, good := if bad then x.good else some v, badRun := badRun, goodRun := if bad then 0 else x.goodRun + 1, broken := x.broken || breaks }, breaks)
/-- The readings of one die's two sensors, in 0.1 °C (R468). -/
def Device.dieReadings (d : Device) (die : Nat) (v0 v1 : Int) : Device :=
  let p := d.P
  let s0 := d.sensor (2 * die)
  let s1 := d.sensor (2 * die + 1)
  let apart := decide (Par.hkTPair p * 10 < (((v0 - v1).natAbs : Nat) : Rat))
  let bad := fun (s other : HkSensor) (v : Int) =>
    decide (v < -600) || decide (1600 < v) ||
    (match s.good with
     | some g => decide (Par.hkTJump p * 10 < (((v - g).natAbs : Nat) : Rat))
     | none => false) || (apart && !other.broken)
  let (n0, b0) := s0.take v0 (bad s0 s1 v0)
  let (n1, b1) := s1.take v1 (bad s1 s0 v1)
  let d := (d.setSensor (2 * die) fun _ => n0).setSensor (2 * die + 1) fun _ => n1
  let tell := fun (d : Device) (b : Bool) (i : Nat) => if b then d.raise "EV_HK_SENSOR" 7 0 i [(i : Int)] else d
  tell (tell d b0 (2 * die)) b1 (2 * die + 1)
/-- A die's temperature in 0.1 °C: the higher of its sensors that are not broken; with both broken, hk.t_stop (R467, R468). -/
def Device.dieTemp (d : Device) (die : Nat) : Int :=
  let a := d.sensor (2 * die)
  let b := d.sensor (2 * die + 1)
  match a.broken, b.broken with
  | false, false => max a.last b.last
  | false, true => a.last
  | true, false => b.last
  | true, true => (Par.hkTStop d.P * 10).floor
/-- WARN, STOP and RATE of a die from its temperature (R469, R470). -/
def Device.dieLimits (d : Device) (die : Nat) : Device :=
  let p := d.P
  let x := d.zep.hk.dies.getD die HkDie.reset
  let v := d.dieTemp die
  let T : Rat := v
  let hyst := Par.hkTHyst p * 10
  let warn := if x.warn then decide (Par.hkTWarn p * 10 - hyst ≤ T) else decide (Par.hkTWarn p * 10 ≤ T)
  let stop := if x.stop then decide (Par.hkTStop p * 10 - hyst ≤ T) else decide (Par.hkTStop p * 10 ≤ T)
  let n := (Par.hkTRateWin p * 100).floor.toNat
  let lim := Par.hkTRate p * Par.hkTRateWin p * 10
  let rise : Rat := (((x.hist[n - 1]?).map fun (old : Int) => ((v - old : Int) : Rat)).getD 0)
  let rate := if x.rate then decide (lim / 2 ≤ rise) else decide (lim < rise)
  let d := d.setHkDie die fun x => { x with temp := v, warn := warn, stop := stop, rate := rate, tmax := max x.tmax v, hist := (v :: x.hist).take 60000 }
  let d := if warn && !x.warn then d.raise "EV_HK_TEMP" 7 0 die [(die : Int), v, 0] else d
  let d := if stop && !x.stop then d.raise "EV_HK_TEMP" 7 0 die [(die : Int), v, 1] else d
  if rate && !x.rate then d.raise "EV_HK_TEMP_RATE" 7 0 die [(die : Int), v] else d
/-- The temperature readings of a round: 16 sensors in 0.1 °C; one that is not given reads as before. -/
def Device.dieRound (d : Device) (temps : List Int) : Device :=
  (List.range 8).foldl (fun d die =>
    let v := fun (i : Nat) => (temps[i]?).getD (d.sensor i).last
    (d.dieReadings die (v (2 * die)) (v (2 * die + 1))).dieLimits die) d

/-! ## Supplies (R471, R482) -/

/-- Nominal values of the rails in mV (Table 18-6). -/
def railNominal : List Nat := [750, 850, 900, 1100, 1200, 1800, 3300, 5000]
/-- The reading of one rail in mV. -/
def Device.railReading (d : Device) (v : Nat) (mv : Nat) : Device :=
  let x := d.zep.hk.rails.getD v HkSensor.reset
  let nom : Rat := (railNominal.getD v 0 : Nat)
  let (x', breaks) := x.take mv (mv == 0 || mv == 0xFFFF)
  let inside := !x'.broken && decide (rabs ((mv : Rat) - nom) ≤ nom * Par.hkVTol d.P / 100)
  let outRun := if inside then 0 else x.outRun + 1
  let inRun := if inside then x.inRun + 1 else 0
  let out := if x.out then decide (inRun < 3) else decide (3 ≤ outRun) || x'.broken
  let d := d.setRail v fun _ => { x' with outRun := outRun, inRun := inRun, out := out }
  let d := if breaks then d.raise "EV_HK_SENSOR" 7 0 (16 + v) [((16 + v : Nat) : Int)] else d
  if out && !x.out then d.raise "EV_HK_SUPPLY" 7 0 v [(v : Int), (mv : Int)] else d
/-- The supply readings of a round; a rail that is not given reads its nominal value. -/
def Device.supplies (d : Device) (rails : List Nat) : Device :=
  (List.range 8).foldl (fun d v => d.railReading v ((rails[v]?).getD (railNominal.getD v 0))) d
/-- The reference readings of a round: the groups outside their window that are not settling declare REF_FAULT (R58). -/
def Device.references (d : Device) (readings : List Rat) : Device :=
  (idx 4 fun g => !(d.grp g).settling && decide (Par.measGroupRefWindow d.P g < rabs (readings.getD g 0))).foldl Device.refFault d

/-! ## The round (R465, R466) -/

/-- The summary event of an account: with SUMMARY, the CTB of its round's boundary and the count (R338, R465). -/
def Device.summary (d : Device) (r : RateRow) : Device :=
  if r.count = 0 then d else
  let d := d.setHost fun h => { h with cmdEvents := true }
  d.enqueue { Event.reset with
    name := r.name, ctb := (r.round + 1) * 8000000, summary := true, island := r.island, kind := r.kind, index := r.index, payload := r.payload, count := r.count }
/-- Close the round whose close is due: its summary events are raised. -/
def Device.closeRound (d : Device) : Device :=
  match d.zep.hk.closeAt with
  | none => d
  | some _ =>
    let rows := d.host.closing
    let d := (d.setHk fun h => { h with closeAt := none }).setHost fun h => { h with closing := [] }
    rows.foldl Device.summary d
/-- One PRELOAD_CRC verification: the next cell in use (R225). -/
def Device.verifyNext (d : Device) : Device :=
  let use := idx 384 fun c => (d.node c).info.present && (d.node c).info.runEn && !(d.ring (c / 32)).excluded
  let next := match use.find? fun c => decide (d.zep.hk.crcCell ≤ c) with
    | some c => some c
    | none => use.head?
  match next with
  | none => d
  | some c => (d.setHk fun h => { h with crcCell := c + 1 }).setLink fun l => { l with crcVerify := some (c / 32, c % 32) }
/-- DOM_DIFF clears once the difference has been within the limit for one full round (R401). -/
def Device.correlateRound (d : Device) : Device :=
  let quiet := d.net.domOkRound
  let d := { d with net := { d.net with domOkRound := true } }
  let d := d.correlate
  if quiet && d.net.domOkRound && (d.sc 0).sync && (d.sc 1).sync then { d with net := { d.net with domDiff := false } } else d
/-- ZEPHYR_ROUND: at a round's boundary its tasks run in the order of R466; a close or dump of their own instants follows by its own command. A round whose predecessor is not closed yet finishes that first, and is counted late. -/
def execZephyrRound (t : Tick) (temps : List Int) (rails : List Nat) (refs : List Rat) (s : State) : Host.Outcome State Fault Refusal :=
  s.on t fun d =>
    let r := d.roundNow % 2 ^ 32
    if !d.conv.booted || d.conv.devReset || d.zep.hk.round = r then d else
    let late := d.zep.hk.closeAt.isSome
    let d := d.closeRound
    let n := d.roundNow
    let d := d.setHost fun h => { h with rates := h.rates.filter fun x => n ≤ x.round, closing := h.rates.filter fun x => x.round < n }
    let d := d.setHk fun h => { h with round := r, closeAt := some (n * 8000000), late := if late then inc32 h.late else h.late }
    let d := d.setLink fun l => { l with tdMax := l.tdMaxNow, tdCell := l.tdCellNow, tdMaxNow := 0, tdCellNow := 0 }
    let d := d.correlateRound
    let d := ((d.dieRound temps).supplies rails).references refs
    let d := d.pullUpdate.verifyNext
    let d := (List.range 384).foldl (fun d c => d.xCheckRound c (r % 6000 == 0)) d
    if d.eh.changed then d.logPersist else d
/-- ZEPHYR_ROUND_CLOSE: t_zclose, 100 µs, after the boundary the round before is closed (R465). -/
def execZephyrRoundClose (t : Tick) (s : State) : Host.Outcome State Fault Refusal :=
  s.on t fun d => if d.pastOpt d.zep.hk.closeAt (usT 100) then d.closeRound else d
/-- CMD_HK_REARM: broken sensors and monitors of the mask that have read good for 100 consecutive rounds are rearmed (R468). -/
def execCmdHkRearm (t : Tick) (h : CmdHdr) (a : Args) (s : State) : Host.Outcome State Fault Refusal :=
  s.on t fun d => d.cmd h a [(8, 3)] fun d =>
    let mask := arg a 8 3
    let get := fun (d : Device) (i : Nat) => if i < 16 then d.sensor i else d.zep.hk.rails.getD (i - 16) HkSensor.reset
    let want := idx 24 fun i => bit mask i && (get d i).broken
    let ready := fun (i : Nat) => decide (100 ≤ (get d i).goodRun)
    let fix := fun (x : HkSensor) => { x with broken := false, badRun := 0 }
    let d' := (want.filter ready).foldl (fun d i => if i < 16 then d.setSensor i fix else d.setRail (i - 16) fix) d
    let refused := ((want.filter fun i => !ready i).map fun i => 2 ^ i).sum
    ends d' (if refused = 0 then .ok 0 else .refusedMask refused)

end Sys2Proof.Machine
end

