-- ==== Sys2Proof/Machine/Rails.lean ====
section
/-! DEFINITION. Rail supervisors (R484, R485), with the meanings of their commands. -/

namespace Sys2Proof.Machine

/-- RAIL_SUPERVISOR_UNDERVOLTAGE: a rail, in the order of R471, stands below 90 % of nominal for more than 2 µs. A core rail holds a device reset, VDD_BSL a Bailsil reset; AVDD5 declares REF_FAULT on every group. -/
def execRailSupervisorUndervoltage (t : Tick) (rail : Fin 8) (s : State) : Host.Outcome State Fault Refusal :=
  s.on t fun d =>
    if rail.val = 7 then d.refFaultAll
    else
      let d := d.setLow rail.val true
      if rail.val = 4 then (if d.conv.bslReset then d else d.bailsilReset.setConv fun c => { c with bslReset := true })
      else if d.conv.devReset then d
      else d.cleared.setConv fun c => { c with devReset := true, booted := false }
/-- RAIL_SUPERVISOR_RELEASE: 1 ms after the last rail of a supervisor has risen above 93 %, with RESET_N high, its reset is released: the device reads its straps and boots, or Bailsil starts with every function latched. -/
def execRailSupervisorRelease (t : Tick) (bsl : Bool) (twinId twinEn : Bool) (bootSel : BitVec 2) (s : State) : Host.Outcome State Fault Refusal :=
  s.on t fun d =>
    if bsl then
      if !d.conv.bslReset && !d.safety.inReset then d
      else ((d.setLow 4 false).setConv fun c => { c with bslReset := false }).bailsilReset
    else
      if !d.conv.devReset then d
      else
        let d := coreRails.foldl (fun d v => d.setLow v false) d
        ({ d with straps := { twinId := twinId, twinEn := twinEn, bootSel := bootSel } } : Device).deviceReset none

end Sys2Proof.Machine
end

