-- ==== Sys2Proof/Machine/Registers.lean ====
section
/-! DEFINITION. The register words of BAR0 (chapter 19): every word of Tables 19-2 and 19-3 with its fields, island by island, and what a host read returns. -/

namespace Sys2Proof.Machine

/-! ## Island 0: parameters, states, safety part 2, error handler, rounds -/

/-- HST_PARAM_ (Table 11-10) and HST_ST_ (Table 12-9). -/
def Device.stateWords (d : Device) : List RegRun :=
  let p := d.par
  let c := d.conv
  [(0x300, [[flags 0 [p.checking.isSome, p.waiting.any (fun id => !takesAt .cycle id), p.dirty, p.defaults], fld 16 13 p.staged.length],
      w32 p.last.toNat, w32 p.commits]),
   (0x400, [[fld 0 4 d.stateCode, fld 4 4 c.origin, fld 8 2 c.level, flags 10 [c.stopArmed, c.restart]],
      [fld 0 4 c.phase, fld 8 8 c.failPhase],
      [fld 0 8 c.dies.toNat, fld 8 8 c.failed.toNat],
      [fld 0 12 c.ringx.toNat, fld 16 12 c.ringFew.toNat],
      [flags 0 [c.bootSlot, c.otherPass], fld 2 2 d.straps.bootSel.toNat, flags 4 [c.fallbackTaken]],
      w32 c.trans, wHalves c.holds c.restarts])]
/-- HST_SAF_SLP to HST_SAF_SCI_MASK (Table 9-10), HST_EH_ (Table 16-13), HK_ROUND to HK_DRIFT_MAX (Table 17-9). -/
def Device.ridgeWords (d : Device) : List RegRun :=
  let f := d.safety
  let e := d.eh
  let k := d.zep
  [(0xA040, [wHalves (shown 0xA040 16 1000 f.slpLimit) (shown 0xA041 16 1000 f.slpPower), [fld 0 9 f.sciConf, fld 16 9 f.sciUncf]]),
   (0xA080, (List.range 12).map fun r => w32 (f.sciMask.getD r 0).toNat),
   (0xD000, [[flags 0 [e.handling.isSome, e.fatal, e.restored, e.overwrite], fld 8 6 e.queue.length, fld 16 4 e.cause], [fld 0 8 e.degraded.toNat]] ++
      ((List.range 5).map fun c => w32 (e.cnt.getD c 0)) ++
      [w32 e.esc, w32 e.logSeq, w32 e.lost, [fld 0 16 e.lastCode, fld 16 3 e.lastCls], w32 e.handleMax, w32 e.merged, w32 e.scrub]),
   (0x500100, [w32 k.hk.round, w32 k.hk.late, w32 k.drift.cnt, w32 k.drift.inc, w32 k.drift.max])]

/-! ## Island 1: host interface, clocks, metering, security, counters -/

/-- The host interface (Table 11-10). HST_FENCE shows the fence count; HST_HOST_WD reads 0. -/
def Device.hostWords (d : Device) : List RegRun :=
  let h := d.host
  let ch := fun (i : Nat) => h.chans.getD i Channel.reset
  [(0x000, [[fld 0 16 d.host.pci.device.toNat, fld 16 8 Config.stepping.toNat, fld 24 8 1], w32 d.sec.imgVersion.toNat,
      [flags 8 ((List.range 8).map fun i => (ch i).enabled)],
      [flags 0 [h.fwRunning, h.chans.any Channel.enabled, h.dmaErr, h.hostLost, !h.backlog.isEmpty]],
      w32 h.errCnt, w32 h.fences, [fld 0 7 (h.chans.map Channel.inflight).sum], w32 0]),
   (0x040, (List.range 8).flatMap fun i => [[fld 10 22 ((ch i).cmdL.toNat / 2 ^ 10)], w32 (ch i).cmdH.toNat, [fld 9 23 ((ch i).cplL.toNat / 2 ^ 9)], w32 (ch i).cplH.toNat]),
   (0x100, ((List.range 8).map fun i => [fld 0 5 (ch i).producer]) ++ (List.range 8).map fun i => [fld 0 5 (ch i).fetch, fld 8 5 (ch i).completed, fld 16 5 (ch i).inflight]),
   (0x200, [[fld 12 20 (h.evqBaseL.toNat / 2 ^ 12)], w32 h.evqBaseH.toNat, [fld 0 5 h.evqSize.toNat], [flags 0 [h.evqOn]],
      w32 h.evqHead.toNat, w32 h.evqTail.toNat, w32 h.evqSeq.toNat, w32 h.evqLost, [fld 3 29 (h.shadowL.toNat / 8)], w32 h.shadowH.toNat, w32 h.evqIrq.toNat,
      [flags 0 [h.evqOn && d.evqSpace == 0, h.evqErr], fld 16 9 h.backlog.length]])]
/-- HST_CLK_ (Table 13-7), HST_METER_ (Table 6-8), HST_SEC_ (Table 16-13). -/
def Device.secWords (d : Device) : List RegRun :=
  let c := d.clk
  let m := d.meter
  let x := d.sec
  let other := x.slots.getD (if d.conv.bootSlot then 0 else 1) ImageHdr.reset
  let store := fun (v : Nat) => if x.storeRead then v else 0
  [(0x500, [[flags 0 (c.plls.map Pll.locked), flags 4 (c.plls.map Pll.bypass), fld 8 2 (c.path.getD 0), flags 10 [c.refLost, c.holdover, c.margin != 0, c.src != 0]],
      (List.range 4).map fun i => fld (8 * i) 8 (c.plls.getD i Pll.reset).lol,
      wHalves c.holdCnt c.holdMax, wHalves c.relockUs c.relocks]),
   (0x7300, [[fld 0 1 m.last, flags 1 [m.meterReset, m.failSince, m.snap.isSome]], w32 m.pseq, w32 m.epoch, w32 m.snapSeq, w32 m.pfail]),
   (0xD100, [[fld 0 2 x.debug, flags 2 [x.unlockedOnce, d.signing], fld 4 4 (store x.revoked.toNat), fld 8 2 x.imgKey],
      wHalves (store x.rbc) x.imgRollback, w32 (store x.dbgCnt), w32 (store (if x.slotPasses other then other.version.toNat else 0))] ++
      (List.range 8).map fun w => w32 (store (leField identity (4 * w) 4)))]
/-- The counter configuration (Table 17-9). -/
def Device.pmcWords (d : Device) : List RegRun :=
  let p := d.zep.pmc
  [(0x201000, (List.range 7).flatMap fun b => (List.range 16).map fun i => [fld 0 11 (d.ctr b i).cfg.toNat]),
   (0x201200, (List.range 7).map fun b => [flags 0 ((List.range 16).map fun i => (d.ctr b i).ovf)]),
   (0x201220, [[fld 12 20 (p.baseL.toNat / 2 ^ 12)], w32 p.baseH.toNat, [fld 0 5 p.size.toNat], [flags 0 [p.on]], w32 p.seq.toNat, w32 p.skip, [flags 0 [p.writing.isSome, p.err]]])]

/-! ## Island 2: law, ride-through, trajectory, sequences, observers -/

/-- HST_GF_, HST_PLAUS_, HST_SENSORLESS_CNT (Table 3-8); pu in Q8.24 (R110). -/
def Device.lawWords (d : Device) : List RegRun :=
  let w := d.law
  let vote := fun (l : List Vote) => (List.range 3).foldl (fun n i => n + 4 ^ i * (l.getD i Vote.reset).sel) 0
  let pu := fun (off : Nat) (x : Rat) => wNum off (2 ^ 24) x
  [(0x5000, [[flags 0 [w.running, w.slI, w.slV, w.modelDev, w.st.p.limit, w.st.q.limit, w.st.p.failed, w.st.q.failed]], [fld 0 8 w.clamp.toNat],
      pu 0x5008 w.st.omega, pu 0x500C w.st.pF, pu 0x5010 w.st.qF, pu 0x5014 d.grid.tr.amp.pos, pu 0x5018 w.st.p.active, pu 0x501C w.st.q.active,
      [fld 0 6 (vote w.votesI), fld 8 6 (vote w.votesV)],
      [flags 0 ((List.range 12).map fun i => (w.sensors.getD i Sensor.reset).faulty)],
      wHalves w.slCnt w.slEntries, [fld 0 12 (clusterLoad d.P)], [fld 0 12 w.loadMax]])]
/-- HST_RT_, HST_TR_, HST_SEQ_STAT, HST_BS_HOLDOFF, HST_LAND_ (Table 4-9). -/
def Device.rideWords (d : Device) : List RegRun :=
  let r := d.grid.ride
  let t := d.grid.tr
  let q := d.grid.seq
  [(0x5100, [[flags 0 [r.active, r.cvi, r.iLimit, r.kFloor, r.negInj, r.recovery]], wNum 0x5104 (2 ^ 24) r.vPos, wNum 0x5108 (2 ^ 24) r.vNeg,
      wHalves r.entries r.jumps, [fld 0 16 (trunc 16 r.jump)]]),
   (0x5120, [[fld 0 2 t.phase.mode, fld 2 2 t.amp.mode, flags 8 [t.stretch, t.phase.slew, t.amp.slew]], w32 t.thetaK.toNat,
      [fld 0 5 t.queue.length, fld 8 9 (256 - t.slotsUsed)], w32 t.stretchT]),
   (0x5140, [[fld 0 4 q.phase, fld 8 4 q.abort, fld 16 16 q.attempts.toNat], wNum 0x5144 1 q.holdoff,
      [fld 0 16 (shown 0x5148 16 100 q.dTheta)], [fld 0 16 (shown 0x514C 16 10000 q.dV)], [fld 0 16 (shown 0x5150 16 1000 q.dF)]])]
/-- The observer registers (Table 6-8). -/
def Device.packWords (d : Device) : List RegRun :=
  let k := d.packs
  let of := fun (p : Nat → Bool) => (List.range 12).map fun r => ringMask r p
  [(0x7000, [[flags 0 [k.obsSkipped]], w32 k.skip, [fld 0 16 k.roundMax], w32 k.reinit, w32 k.discard]),
   (0x7020, [[fld 0 9 k.sel, flags 31 [k.selReady]]] ++ ((List.range 4).map fun i => w32 (k.selRegs.getD i 0).toNat) ++
      [[fld 0 18 (k.selRegs.getD 4 0).toNat, fld 20 4 ((k.selRegs.getD 4 0).toNat / 2 ^ 20)], w32 (k.selRegs.getD 5 0).toNat]),
   (0x7100, of fun c => (d.pack c).ok), (0x7140, of fun c => (d.pack c).causes.getLsbD 2), (0x7180, of fun c => (d.pack c).causes.getLsbD 6)]

/-! ## Island 3: breakers, modulation, protection, twin, timebase -/

/-- HST_BRK_ (Table 4-9) and the modulation registers as the last load-all left them (Table 5-9, R172); RES_CLAMP clears when it is written. -/
def Device.modWords (d : Device) : List RegRun :=
  let b := fun (i : Nat) => d.grid.brk.getD i Breaker.reset
  let a := fun (i : Nat) => d.modu.arms.getD i ModArm.reset
  let three := List.range 3
  let w := fun (i : Nat) => d.modu.shown.getD i 0
  [(0x5180, [[fld 0 2 (b 0).pos, fld 2 2 (b 1).pos, flags 4 [d.closePin 0, d.closePin 1],
        flags 8 ((List.range 2).flatMap fun i => [(b i).a.deb.getD false, (b i).b.deb.getD false])],
      [flags 0 ((List.range 2).flatMap fun i => [(b i).discFault, (b i).chatFault])], wHalves (b 0).changes (b 1).changes]),
   (0x6000, ([fld 0 3 (w 0), flags 4 (three.map fun i => (a i).resClamp), fld 8 3 (w 0 / 256),
        fld 12 2 (a 0).redund, fld 14 2 (a 1).redund, fld 16 2 (a 2).redund, fld 18 1 (w 0 / 2 ^ 18)] :: (three.map fun i => w32 (w (1 + i))) ++
      (three.map fun i => [fld 0 24 (w (4 + i))]) ++ (List.range 10).map fun i => w32 (w (7 + i)))),
   (0x6100, (List.range 12).map fun r => w32 (w (17 + r))), (0x6140, (List.range 12).map fun r => w32 (w (29 + r)))]
/-- TRP_ (Table 8-8). -/
def Device.tripWords (d : Device) : List RegRun :=
  let p := d.prot
  let r := p.record
  let latch := d.srcMask fun s => s.latch == 1
  let pend := d.srcMask fun s => s.latch == 2
  let act := ofBits ((List.range 48).map d.srcActive)
  let pair := fun (m : Nat) => [w32 m, [fld 0 16 (m / 2 ^ 32)]]
  let tin := fun (i : Nat) => p.tins.getD i TripIn.reset
  let of := fun (q : Gate × Gate → Bool) => (List.range 12).map fun r => ringMask r fun c => q (p.gates.getD c (Gate.reset, Gate.reset))
  let g := fun (i : Nat) => (p.gateRegs.getD i 0).toNat
  [(0x9000, [[flags 0 [p.burst, p.echoFrom.isSome, p.blocked, p.resumed, p.autoDisabled, p.recoverUntil.isSome], fld 8 8 (min 255 d.autoCount)]] ++
      pair latch ++ pair pend ++ pair act ++
      [[flags 0 ((List.range 16).map fun i => (tin i).faulty), fld 16 4 p.contactChat.toNat], [flags 0 ((List.range 16).map fun i => (tin i).level)],
       w32 r.ctb, w32 (r.ctb / 2 ^ 32), w32 r.srcs.toNat, [fld 0 16 (r.srcs.toNat / 2 ^ 32)],
       [fld 0 6 r.primary, fld 8 3 r.arms.toNat, flags 16 [r.multiArm, r.afterBlank, r.rejectEdge], fld 24 3 r.ctlCause],
       w32 p.sqCnt, w32 p.rejCnt, w32 p.echoCnt, w32 p.desatCnt, w32 p.chopCnt]),
   (0x9080, (List.range 12).map fun j => [fld 0 16 (p.blank.getD j BlankCmp.reset).evt]),
   (0x9100, [[fld 0 9 p.gateSel, flags 31 [p.gateReady]], [fld 0 5 (g 0), fld 8 5 (g 0 / 256), fld 16 2 (g 0 / 65536)], w32 (g 1), w32 (g 2), w32 (g 3)]),
   (0x9140, of fun x => x.1.aged || x.2.aged), (0x9180, of fun x => x.1.sat || x.2.sat)]
/-- HST_TWIN_ (Table 10-9). -/
def Device.twinWords (d : Device) : List RegRun :=
  let x := d.twin
  let dev := ofBits (x.streams.map TwinStream.dev)
  [(0xB000, [[flags 0 [x.active, x.ready, x.serving, x.shadow, x.split, x.arbFault, x.grant, x.healthOn, x.timeMaster, x.aligned, x.permission], fld 16 8 x.failed.toNat],
      [flags 0 [d.straps.twinId, d.straps.twinEn]], w32 x.shadowCnt, wHalves x.misCnt x.digCnt, wHalves x.roleChg x.dualCnt, w32 dev, w32 (dev / 2 ^ 32), w32 x.meterDev])]
/-- CTB_ (Table 13-7). In the mirror the words that a read would latch are taken live (R502). -/
def Device.ctbWords (d : Device) (mir : Bool) : List RegRun :=
  let c := d.clk
  let x := c.xs
  let pairS := fun (s : Nat) => [w32 s, [fld 0 16 (s / 2 ^ 32)]]
  [(0x400000, [w32 d.ctb, w32 (if mir then d.ctb / 2 ^ 32 else c.nowH.toNat), w32 d.cycle.k, [fld 0 16 (if mir then d.cycle.k / 2 ^ 32 else c.cycH.toNat)],
      w32 (if mir then d.cycle.eK else c.ekL.toNat), w32 (if mir then d.cycle.eK / 2 ^ 32 else c.ekH.toNat),
      [fld 0 2 c.src, flags 2 [c.rateLocked, c.aligned, c.slewing, c.srcLost, c.noPhase]],
      wNum 0x40001C 1000 c.pull, wNum 0x400020 256 c.phaseErr, [fld 0 1 0, flags 31 [c.xsReady]], w32 x.ctb, w32 (x.ctb / 2 ^ 32)] ++
      pairS x.aS ++ [[fld 0 30 x.aNs]] ++ pairS x.bS ++ [[fld 0 30 x.bNs]])]

/-! ## Islands 4 and 5: links, network, station clocks, Mardal -/

/-- HST_LNK_ of six rings from ring r0 on (Table 7-11). -/
def Device.ringWords (d : Device) (r0 : Nat) : List RegRun :=
  let of := fun (off : Nat) (f : Nat → Ring → RegWord) => (off + 4 * r0, (List.range 6).map fun i => f (r0 + i) (d.ring (r0 + i)))
  [of 0x8000 fun r x => [flags 0 [x.pLock && !d.ringNone r, x.qLock && !d.ringNone r, x.pRet, x.qRet, x.wrap, x.timingFail != 0, x.discDone, x.discFault], fld 8 6 x.found, fld 16 8 (x.breakPos.getD 255), fld 24 2 x.timingFail],
   of 0x8040 fun _ x => wHalves x.fcrcP x.fcrcQ, of 0x8080 fun _ x => wHalves x.scrcP x.scrcQ, of 0x80C0 fun _ x => wHalves x.late x.missing,
   of 0x8100 fun r x => wNum (0x8100 + 4 * r) 256 x.df, of 0x8140 fun _ x => [fld 0 16 x.ret]]
/-- The three HST_LNK_ words of all rings, and HST_NET_ (Tables 7-11 and 14-5). -/
def Device.netWords (d : Device) : List RegRun :=
  let l := d.link
  let n := d.net
  [(0x8180, [[fld 0 16 l.retMax], [flags 0 ((List.range 12).map fun r => (d.ring r).squall)], [fld 0 16 l.tdMax, fld 16 9 l.tdCell]]),
   (0xC000, [[flags 0 [n.links.getD 0 false, n.links.getD 1 false, d.conv.up && Par.netMode d.P == 1, d.conv.up && Par.netMode d.P == 2, n.ringClosed, n.domDiff, n.nodeFull]],
      w32 n.dup, wHalves (n.wrong.getD 0 0) (n.wrong.getD 1 0), w32 n.disc, w32 n.scDisc, w32 n.fwd, [fld 0 7 n.nodes.length]])]
/-- The registers of station clock x from base b on (Table 14-5). -/
def Device.scWords (d : Device) (mir : Bool) (x : Nat) : RegRun :=
  let b := 0x400100 + 0x100 * x
  let c := d.sc x
  let delay := if c.port = 0 then 0 else d.net.pdelay.getD (c.port - 1) 0
  (b, [[flags 0 [c.sync, c.holdover], fld 2 2 c.port, flags 4 [c.stepped, c.gmChanged, c.incRej]],
    w32 (if mir then c.s else c.timeSL.toNat), [fld 0 16 (if mir then c.s / 2 ^ 32 else c.timeSH.toNat)], [fld 0 30 c.ns],
    [fld 0 4 c.incNsW.toNat], w32 c.incFracW.toNat, w32 c.setSL.toNat, [fld 0 16 c.setSH.toNat], [fld 0 30 c.setNs.toNat], w32 c.adj.toNat, [fld 0 2 0],
    wNum (b + 0x2C) 256 c.offset, wNum (b + 0x30) 256 delay, w32 c.gm.toNat, w32 (c.gm.toNat / 2 ^ 32), [fld 0 17 c.utc.toNat], wHalves c.steps c.losses])
/-- SCA_DIFF_B, saturating at ±(2^31 − 1) (Table 14-5). -/
def Device.diffWord (d : Device) : RegRun := (0x400300, [wNum 0x400300 1 (clampR (-(2 ^ 31 - 1)) (2 ^ 31 - 1) d.net.diff)])
/-- HST_MDL_ (Table 10-9). -/
def Device.mdlWords (d : Device) : List RegRun :=
  let x := d.twin
  [(0xB040, [[flags 0 [x.lanes.getD 0 false, x.lanes.getD 1 false, x.beaconNow]], wNum 0xB044 65536 x.delay, [fld 0 16 (shown 0xB048 16 100 x.ctbOfs)], w32 x.crc, [fld 0 16 x.load]])]

/-! ## Islands 6 to 9: measurement, housekeeping, Bailsil, recorder -/

/-- The measurement registers (Table 2-6). -/
def Device.measWords (d : Device) : List RegRun :=
  let m := d.meas
  let st := fun (i : Nat) => m.streams.getD i Stream.reset
  let bits64 := fun (p : Stream → Bool) => ofBits ((List.range 64).map fun i => p (st i))
  let two := fun (n : Nat) => [w32 n, w32 (n / 2 ^ 32)]
  let adc := fun (n : Nat) => m.adcs.getD n Adc.reset
  let cmp := fun (j : Nat) => m.cmps.getD j Comparator.reset
  [(0x4000, [[flags 0 ((List.range 4).map fun i => (m.groups.getD i RefGroup.reset).settled), flags 4 ((List.range 4).map fun i => (m.groups.getD i RefGroup.reset).fault)],
      [fld 0 16 0], [flags 0 ((List.range 16).map fun n => (adc n).gustRunning || (adc n).gustPending)], [flags 0 ((List.range 16).map fun n => (adc n).gustDrop)],
      (List.range 4).map fun i => fld (8 * i) 8 (m.atrigMiss.getD i 0), w32 m.parErr] ++
      two (bits64 Stream.valid) ++ two (bits64 fun x => x.satWin || x.satOut) ++ two (bits64 Stream.thrSet) ++
      [[flags 0 [m.setp.pulseLost, m.setp.pulseLow, m.setp.pulseHigh, m.setp.ainRange], fld 16 16 m.setp.ignored], w32 (trunc 32 m.setp.freq),
       [flags 0 ((List.range 12).map fun j => (cmp j).fastOut), flags 16 ((List.range 12).map fun j => (cmp j).hardOut)]]),
   (0x4100, (List.range 64).map fun i => w32 (trunc 32 (st i).out)),
   (0x4200, (List.range 16).flatMap fun n => (List.range 4).map fun e => w32 ((adc n).gustRes.getD e 0).toNat)]
/-- HK_STAT to HK_SUPPLY (Table 17-9). -/
def Device.hkWords (d : Device) : List RegRun :=
  let k := d.zep.hk
  let die := fun (i : Nat) => k.dies.getD i HkDie.reset
  let eight := List.range 8
  let sen := fun (i : Nat) => k.sensors.getD i HkSensor.reset
  let rail := fun (i : Nat) => k.rails.getD i HkSensor.reset
  [(0x500000, [[flags 0 (eight.map fun i => (die i).warn), flags 8 (eight.map fun i => (die i).stop), flags 16 (eight.map fun i => (die i).rate)],
      [flags 0 ((List.range 16).map fun i => (sen i).broken), flags 16 (eight.map fun i => (rail i).broken)], [flags 0 (eight.map fun i => (rail i).out)]]),
   (0x500010, eight.map fun i => wHalves (trunc 16 (sen (2 * i)).last) (trunc 16 (sen (2 * i + 1)).last)),
   (0x500030, eight.map fun i => [fld 0 16 (trunc 16 (die i).tmax)]),
   (0x500050, eight.map fun i => [fld 0 16 (trunc 16 (rail i).last)])]
/-- HST_SAF_STAT to HST_SAF_CFG_CRC (Table 9-10). -/
def Device.safWords (d : Device) : List RegRun :=
  let f := d.safety
  let c := f.sc
  let four := List.range 4
  let out := fun (i : Nat) => f.outs.getD i SafeOut.reset
  let six := List.range 6
  [(0xA000, [[flags 0 (f.fns ++ [f.slpReduced, f.fallback, f.safeHold, f.resetRequired]), fld 8 4 f.fbCause],
      [flags 0 (four.map fun n => d.bslRuns && d.sinDemands n), flags 4 (four.map fun n => (d.sin n).faulty), flags 8 (four.map fun n => (d.sin n).a), flags 12 (four.map fun n => (d.sin n).b)],
      [flags 0 (six.map fun i => (out i).hs && (out i).ls), flags 8 (six.map fun i => (out i).faulty), flags 16 (six.map fun i => (out i).testing)],
      w32 f.tests, wHalves f.tdisc f.tfail, [fld 0 2 c.state, fld 16 16 c.expiries], w32 c.rx, wHalves c.badCheck c.discards, w32 c.cnRx.toNat, w32 c.cnTx.toNat,
      w32 f.rej, w32 f.demandCnt, w32 (checkValue d.safety.par)])]
/-- The capture rate in MB/s; a rate that is not whole is shown as the next lower whole number, or from one half up as either neighbour (assumption log 15). -/
def Device.recRate (d : Device) : Nat :=
  let x : Rat := ((d.recF * 10 : Nat) : Rat) / (d.ts : Rat)
  if x - (x.floor : Rat) < 1 / 2 then trunc 16 x.floor else shown 0x300038 16 1 x
/-- REC_ (Table 15-10). -/
def Device.recWords (d : Device) : List RegRun :=
  let r := d.recd
  let f := d.recF
  let fps := framesPerSegment f
  let mask := fun (i : Nat) => r.masks.getD i MaskRun.reset
  [(0x300000, [[fld 0 3 r.state, flags 8 [r.postClamped, r.preCut, r.preShort, r.stopPend]], w32 r.recNum, [fld 0 20 f], [fld 0 16 fps], w32 (2047 * fps),
      [fld 0 24 r.p], [fld 0 24 r.q], [fld 0 11 (1 + r.wrJ / framesPerSegment r.fInForce % 2047)], [fld 0 11 r.win], [fld 0 17 r.trigMet.toNat],
      [flags 0 ((List.range 4).map fun i => (mask i).running), flags 8 ((List.range 4).map fun i => (mask i).violated)],
      w32 r.records, w32 r.ecCe, w32 r.ecUe, [fld 0 16 d.recRate], w32 r.missing])]

/-! ## Pages and words (R500 to R502) -/

/-- The registers of an island, in ascending BAR0 offset: as a register read returns them, or as the mirror shows them (R501, R502). -/
def Device.pageRuns (d : Device) (mir : Bool) (island : Nat) : List RegRun :=
  match island with
  | 0 => d.stateWords ++ d.ridgeWords
  | 1 => d.hostWords ++ d.secWords ++ d.pmcWords
  | 2 => d.lawWords ++ d.rideWords ++ d.packWords
  | 3 => d.modWords ++ d.tripWords ++ d.twinWords ++ d.ctbWords mir
  | 4 => d.ringWords 0 ++ d.netWords ++ [d.scWords mir 0, d.scWords mir 1, d.diffWord]
  | 5 => d.ringWords 6 ++ d.mdlWords
  | 6 => d.measWords
  | 7 => d.hkWords
  | 8 => d.safWords
  | 9 => d.recWords
  | _ => []
/-- The words of an island's mirror page as they stand now. -/
def Device.pageWords (d : Device) (island : Nat) : List (BitVec 32) := ((d.pageRuns true island).flatMap fun r => r.2).map RegWord.value
/-- The fields of the word at a BAR0 offset; none where no register stands. -/
def Device.regFields (d : Device) (off : Nat) : Option RegWord :=
  ((List.range 10).flatMap (d.pageRuns false)).findSome? fun r => if r.1 ≤ off && off % 4 = 0 then r.2[(off - r.1) / 4]? else none

/-! ## Reads of BAR0 (R322, R323, R334, R336, R459, R497 to R499) -/

/-- The header of a mirror page (Table 11-7). -/
def Device.pageHeader (d : Device) (island : Nat) : List (BitVec 8) :=
  let m := d.mirrors.getD island MirrorPage.reset
  leBytes 2 island ++ leBytes 2 1 ++ leBytes 4 m.gen.toNat ++ leBytes 8 m.stamp ++ [if 2 ≤ island && island ≤ 6 then 0 else 1, 0, 0, 0] ++ leBytes 4 m.words.length ++ leBytes 8 m.ctb
/-- The word of a mirror page at a byte of the page. -/
def Device.mirrorWord (d : Device) (island byte_ : Nat) : BitVec 32 :=
  if byte_ < 32 then packBytes 32 ((d.pageHeader island).drop byte_)
  else ((d.mirrors.getD island MirrorPage.reset).words).getD ((byte_ - 32) / 4) 0
/-- The word of the MSI-X table or of the pending-bit array at an offset (R323). -/
def Device.msixWord (d : Device) (off : Nat) : BitVec 32 :=
  if off < 0xF200 then
    let e := d.host.msix.getD ((off - 0xF000) / 16) MsixEntry.reset
    match off % 16 / 4 with
    | 0 => BitVec.ofNat 32 e.addr.toNat
    | 1 => BitVec.ofNat 32 (e.addr.toNat / 2 ^ 32)
    | 2 => e.data
    | _ => BitVec.ofNat 32 e.masked.toNat
  else if off = 0xF800 then BitVec.ofNat 32 (ofBits (d.host.msix.map MsixEntry.pend))
  else 0
/-- The word of the parameter view at an offset (R334). -/
def Device.viewWord (d : Device) (off : Nat) : BitVec 32 :=
  let v := off - 0x1000000
  wordOf d.par.committed (pId (v / 0x80000) (v % 0x80000 / 0x200) (v % 0x200 / 4))
/-- What a 4-byte read of BAR0 returns at an offset divisible by 4. A read that latches has a command of its own; the upper word of a counter shows the page's latch. -/
def Device.bar0 (d : Device) (off : Nat) : BitVec 32 :=
  if d.conv.recovery = some 0 then
    if off = 0 || off = 0xC || off = 0x410 then ((d.regFields off).map RegWord.value).getD 0
    else if 0x500000 ≤ off && off < 0x1500000 then packBytes 32 (d.soffit (2 ^ 20 + (off - 0x500000)) 4)
    else 0
  else if 0x1000000 ≤ off then (if off < 0x4000000 then d.viewWord off else 0)
  else if 0x100000 ≤ off && off < 0x10A000 then d.mirrorWord ((off - 0x100000) / 0x1000) (off % 0x1000)
  else if 0x200000 ≤ off && off < 0x201000 then
    let o := off - 0x200000
    let w := d.pageWord (o / 8 * 8)
    if o % 8 = 0 then BitVec.ofNat 32 w else if o = 0x14 then BitVec.ofNat 32 (w / 2 ^ 32) else if o < 0x10 || (0x40 ≤ o && o < 0x3C0) then d.zep.pmc.upper else 0
  else if 0xF000 ≤ off && off < 0xF808 then d.msixWord off
  else ((d.regFields off).map RegWord.value).getD 0

/-! ## Updates of the mirror (R34, R336) -/

/-- An island updates its page: its words, GEN, and the stamp; a failed die's page keeps its content (R34, R336, R502). -/
def Device.mirrorUpdate (d : Device) (island : Nat) : Device :=
  if d.conv.failed.getLsbD (islandDie island) then d else
  let stamp := if 2 ≤ island && island ≤ 6 then d.cycle.k % 2 ^ 48 else d.ctb
  { d with mirrors := upd d.mirrors island fun m => { gen := m.gen + 1, stamp := stamp, ctb := d.ctb, words := d.pageWords island } }

/-! ## Writes (R8, R9, R322, R324, R337) -/

/-- A write to a base register of a mailbox channel, accepted while the channel is disabled (R324). -/
def Device.chanBase (d : Device) (off : Nat) (v : BitVec 32) : Device :=
  let ch := (off - 0x40) / 16
  if (d.host.chans.getD ch Channel.reset).enabled then d.hostErr else
  let one := fun (x : Channel) => match off % 16 / 4 with
    | 0 => { x with cmdL := v &&& 0xFFFFFC00 }
    | 1 => { x with cmdH := v }
    | 2 => { x with cplL := v &&& 0xFFFFFE00 }
    | _ => { x with cplH := v }
  d.setHost fun h => { h with chans := upd h.chans ch one }
/-- A write to EVQ_BASE, EVQ_SIZE or EVQ_SHADOW, accepted while the queue is disabled (R337). -/
def Device.evqBase (d : Device) (f : HostPort → HostPort) : Device := if d.host.evqOn then d.hostErr else d.setHost f
/-- A write to PMC_DUMP_BASE or PMC_DUMP_SIZE, accepted while the dump ring is disabled (R460). -/
def Device.dumpBase (d : Device) (f : Pmc → Pmc) : Device := if d.zep.pmc.on then d.hostErr else d.setPmc f
/-- A write to a word of a station clock (R398, R399, R8). -/
def Device.scStore (d : Device) (x o : Nat) (v : BitVec 32) : Device :=
  match o with
  | 0x00 => d.setSc x fun c => { c with stepped := c.stepped && !v.getLsbD 4, gmChanged := c.gmChanged && !v.getLsbD 5, incRej := c.incRej && !v.getLsbD 6 }
  | 0x10 => d.scHost x fun d => d.setSc x fun c => { c with incNsW := v &&& 0xF }
  | 0x18 => d.scHost x fun d => d.setSc x fun c => { c with setSL := v }
  | 0x1C => d.scHost x fun d => d.setSc x fun c => { c with setSH := v &&& 0xFFFF }
  | 0x20 => d.scHost x fun d => d.setSc x fun c => { c with setNs := v &&& 0x3FFFFFFF }
  | 0x24 => d.setSc x fun c => { c with adj := v }
  | _ => d
/-- What a write stores or clears in a register without a command of its own: RW bits store, a 1 clears a W1C bit, RO bits stay (R8). -/
def Device.regStore (d : Device) (off : Nat) (v : BitVec 32) : Device :=
  let n := v.toNat
  if 0x40 ≤ off && off < 0xC0 then d.chanBase off v
  else if 0x201200 ≤ off && off < 0x20121C then d.setCtrs ((off - 0x201200) / 4) (clearBits v 0 fun c => { c with ovf := false })
  else if 0x500030 ≤ off && off < 0x500050 then d.setHk fun k => { k with dies := upd k.dies ((off - 0x500030) / 4) fun x => { x with tmax := sext 16 (n % 2 ^ 16) } }
  else if 0x400100 ≤ off && off < 0x400144 then d.scStore 0 (off - 0x400100) v
  else if 0x400200 ≤ off && off < 0x400244 then d.scStore 1 (off - 0x400200) v
  else match off with
  | 0x200 => d.evqBase fun h => { h with evqBaseL := v &&& 0xFFFFF000 }
  | 0x204 => d.evqBase fun h => { h with evqBaseH := v }
  | 0x208 => d.evqBase fun h => { h with evqSize := v &&& 0x1F }
  | 0x220 => d.evqBase fun h => { h with shadowL := v &&& 0xFFFFFFF8 }
  | 0x224 => d.evqBase fun h => { h with shadowH := v }
  | 0x228 => d.setHost fun h => { h with evqIrq := v }
  | 0x400C => { d with meas := { d.meas with adcs := clearBits v 0 (fun a => { a with gustDrop := false }) d.meas.adcs } }
  | 0x4028 => { d with meas := { d.meas with streams := clearBits v 0 (fun x => { x with thrSet := false }) (d.meas.streams.take 32) ++ d.meas.streams.drop 32 } }
  | 0x402C => { d with meas := { d.meas with streams := d.meas.streams.take 32 ++ clearBits v 0 (fun x => { x with thrSet := false }) (d.meas.streams.drop 32) } }
  | 0x5004 => d.setLaw fun w => { w with clamp := w.clamp &&& ~~~(BitVec.ofNat 8 n) }
  | 0x5030 => d.setLaw fun w => { w with loadMax := n % 2 ^ 12 }
  | 0x5120 => d.setTraj fun t => { t with stretch := t.stretch && !v.getLsbD 8 }
  | 0x6000 => d.setModu fun m => { m with arms := clearBits v 4 (fun a => { a with resClamp := false }) m.arms }
  | 0x7000 => d.setPacks fun k => { k with obsSkipped := k.obsSkipped && !v.getLsbD 0 }
  | 0x7008 => d.setPacks fun k => { k with roundMax := n % 2 ^ 16 }
  | 0x8180 => d.setLink fun l => { l with retMax := n % 2 ^ 16 }
  | 0x8184 => d.setLink fun l => { l with rings := clearBits v 0 (fun r => { r with squall := false }) l.rings }
  | 0xB01C => { d with twin := { d.twin with meterDev := n } }
  | 0xD02C => d.setEh fun e => { e with handleMax := n }
  | 0x201220 => d.dumpBase fun p => { p with baseL := v &&& 0xFFFFF000 }
  | 0x201224 => d.dumpBase fun p => { p with baseH := v }
  | 0x201228 => d.dumpBase fun p => { p with size := v &&& 0x1F }
  | 0x300020 => d.setRec fun r => { r with win := n % 2 ^ 11 }
  | 0x300024 => d.setRec fun r => { r with trigMet := r.trigMet &&& ~~~(BitVec.ofNat 17 n) }
  | 0x300028 => d.setRec fun r => { r with masks := clearBits v 8 (fun m => { m with violated := false }) r.masks }
  | 0x500110 => d.setDrift fun f => { f with max := n }
  | _ => d
/-- A write to a word of the MSI-X table; clearing the mask bit sends a pending message, and the pending-bit array ignores writes (R323, R498). -/
def Device.msixStore (d : Device) (off : Nat) (v : BitVec 32) : Device :=
  if 0xF200 ≤ off then d else
  let i := (off - 0xF000) / 16
  let set := fun (f : MsixEntry → MsixEntry) => d.setHost fun h => { h with msix := upd h.msix i f }
  match off % 16 / 4 with
  | 0 => set fun e => { e with addr := BitVec.ofNat 64 (e.addr.toNat / 2 ^ 32 * 2 ^ 32 + v.toNat) }
  | 1 => set fun e => { e with addr := BitVec.ofNat 64 (v.toNat * 2 ^ 32 + e.addr.toNat % 2 ^ 32) }
  | 2 => set fun e => { e with data := v }
  | _ => if v.getLsbD 0 then set fun e => { e with masked := true } else d.msixUnmask i
/-- REGISTER_WRITE: an aligned 4-byte write to a BAR0 word without a command of its own; a W1C bit that hardware sets at the same instant stays 1 (R8). Non-zero reserved bits, and writes to words that are not listed, to the mirror, to the parameter view and to the user page, are ignored and counted (R9, R322, R459, R498); during recovery over PCI Express the window alone takes writes (R499). -/
def execRegisterWrite (t : Tick) (offset : BitVec 26) (v : BitVec 32) (s : State) : Host.Outcome State Fault Refusal :=
  s.on t fun d =>
    let off := offset.toNat
    if d.conv.recovery = some 0 then
      (if 0x500000 ≤ off && off < 0x14FFFFC then d.soffitWrite (2 ^ 20 + (off - 0x500000)) (leBytes 4 v.toNat) else d)
    else if ownRow off then d
    else if 0xF000 ≤ off && off < 0xF200 || 0xF800 ≤ off && off < 0xF808 then d.msixStore off v
    else match d.regFields off with
      | none => d.hostErr
      | some w => (d.reserved v (RegWord.mask w)).regStore off (v &&& ~~~(BitVec.ofNat 32 (d.setNow off)))
/-- MISALIGNED_ACCESS: a register access of wrong size or alignment completes: a read returns 0, a write is ignored, and HST_ERR_CNT counts one (R322). -/
def execMisalignedAccess (t : Tick) (write : Bool) (s : State) : Host.Outcome State Fault Refusal :=
  s.on t fun d => if write then d.hostErr else d.hostErr.answer 0

end Sys2Proof.Machine
end

