-- ==== Sys2Proof/Machine/Sample.lean ====
section
/-! DEFINITION. The cycle start E(k) (R36, R43): what ends with a cycle, the boundary, what begins with one; and the resume edge. -/

namespace Sys2Proof.Machine

/-! ## The recorder's frame of the cycle (R410, R412, Table 15-1) -/

/-- The arm records as the recorder takes them: six words an arm, then ρ and the smaller sum of each arm. -/
def Device.armWords (d : Device) : List (BitVec 32) :=
  let num := fun (off : Nat) (scale x : Rat) => RegWord.value (wNum off scale x)
  let rec_ := fun (i : Nat) =>
    let r := (d.marm i).record
    let o := 0x600000 + 24 * i
    [num o 4096 r.v0, num (o + 4) (2 ^ 20) r.slope, num (o + 8) 4096 r.ip, num (o + 12) 4096 r.i0ref, num (o + 16) (2 ^ 20) r.i0slope, num (o + 20) 4096 r.i0]
  (List.range 3).flatMap rec_ ++ ((List.range 3).map fun i => num (0x6004 + 4 * i) 256 (d.marm i).rhoShown) ++
    (List.range 3).map fun i => num (0x601C + 4 * i) 256 (min (d.marm i).sDis (d.marm i).sChg)
/-- The command slots launched in the cycle, by cell; none where no load-all has come. -/
def Device.slotsLaunched (d : Device) : List (Nat × BitVec 144) :=
  if !d.modu.loaded then [] else
  (List.range 12).flatMap fun r => match d.link.tx.find? fun f => f.ring == r with
    | some f => f.slots.mapIdx fun p w => (32 * r + p, w)
    | none => []
/-- The frame of the cycle that ends takes its parts; the island-2 page is the one just frozen for the cycle. -/
def Device.frameClose (d : Device) : Device :=
  let law := ((d.mirrors.getD 2 MirrorPage.reset).words).take 64
  let arms := d.armWords
  let sched := d.slotsLaunched
  let done := d.recd.redDone
  let reduce := d.recd.reds.flatMap fun r => (List.range 4).map fun i => r.last.getD i 0
  (d.onFrame fun f => { f with law := law, arms := arms, sched := sched, reduce := reduce, redDone := done }).setRec fun r => { r with redDone := 0 }
/-- The new cycle's frame; while the recorder does not capture, it is the only one kept. Conditions and DIGITAL words too old for any frame are forgotten. -/
def Device.frameOpen (d : Device) : Device :=
  let f : RecFrame := { RecFrame.reset with k := d.cycle.k, eK := d.cycle.eK, state := d.stateCode }
  let frames := if d.capturing then d.recd.frames ++ [f] else [f]
  let oldest := ((frames.head?).map RecFrame.eK).getD 0
  let now := d.now
  d.setRec fun r => { r with
    frames := frames
    regd := r.regd.filter fun h => decide (oldest ≤ h.ctb) || decide (now ≤ h.ctb + 80000)
    digLog := (r.digLog.takeWhile fun x => decide (oldest < x.1)) ++ (r.digLog.dropWhile fun x => decide (oldest < x.1)).take 1 }

/-! ## What ends with a cycle -/

/-- A cell's status at the end of a cycle: one that came late enters the cell table (R220); without a validated one the last is one cycle old, and the third such cycle in a row rests the cell (R39, Table 5-3). -/
def Device.statusEnd (d : Device) (c : Nat) : Device :=
  let n := d.node c
  if !n.info.present then d else
  let got := n.fresh
  let d := match n.lateRow with
    | some (v, low) => d.tableStatus c v low
    | none => d
  let d := d.setNode c fun n => { n with fresh := false, aged := !got, lateRow := none }
  if got then d else
  d.setCell c fun m => { m with
    missRun := m.missRun + 1
    restMiss := if 2 ≤ m.missRun || m.restMiss.isSome then some 0 else m.restMiss }
/-- An arm without an overrun in the cycle counts anew (R38). -/
def OverrunArm.next (o : OverrunArm) : OverrunArm := { run := if o.inCycle then o.run else 0, inCycle := false }
/-- The cycle ends: masks are compared, the control trip's input ends, every page of the mirror is frozen, the recorder takes its parts, statuses age (R34, R250, R423). The pages of the islands with a cadence of their own are frozen then too (assumption log 16). -/
def Device.cycleEnd (d : Device) : Device :=
  let d := (d.maskChecks).inputInactive 42
  let d := (List.range 10).foldl Device.mirrorUpdate d
  let d := (List.range 384).foldl Device.statusEnd d.frameClose
  { d with cycle := { d.cycle with overrun := d.cycle.overrun.map OverrunArm.next } }

/-! ## What begins with a cycle -/

/-- The cycle counter, E(k) and θ at E(k); nothing of the cycle has been done (R36, R126, R377). -/
def Device.cycleBegin (d : Device) : Device :=
  let e := d.eNext
  let d := { d with cycle := { d.cycle with k := (d.cycle.k + 1) % 2 ^ 48, eK := e } }
  let d := d.setTraj fun t => { t with thetaK := BitVec.ofNat 32 (t.theta64.toNat / 2 ^ 32) }
  let d := d.setLaw fun l => { l with evaluated := false }
  d.setModu fun u => { u with loaded := false, first := none, budgetNow := false, arms := u.arms.map fun a => { a with arrived := false, scheduled := false } }
/-- Items that wait for an observer round take effect at its first cycle boundary (R11, R178). -/
def Device.roundItems (d : Device) (before : Tick) : Device :=
  if d.cycle.eK / 800000 = before / 800000 then d else
  let old := d.P
  (d.applyWaiting (takesAt .round)).newForce old
/-- The boundary: the close outputs, what falls due in the order of R363, what a transition brings; a law that was entered for a resume that did not come stops. -/
def Device.boundaryAll (d : Device) : Device :=
  let n := d.conv.trans
  let d := (d.closeBoundary.boundary).afterMove n
  let d := d.setConv fun c => { c with phaseCyc := if c.phase = 0 then 0 else c.phaseCyc + 1 }
  if d.conv.state = stHold && d.law.running && d.prot.resumeEdge.isNone then d.lawStop else d
/-- SAMPLE_TRIGGER: the cycle start E(k + 1). The cycle in progress ends, the boundary is acted on, and the new cycle begins: the SETP_PULSE frequency, the samples, the pair, snapshots, the drift draw, mask runs. Before the CTB is set nothing happens. -/
def execSampleTrigger (codes : List (List (BitVec 16))) (s : State) : Host.Outcome State Fault Refusal :=
  s.on s.dev.eNext fun d =>
    if !d.clk.ctbOn then d else
    let before := d.cycle.eK
    let d := (d.cycleEnd.cycleBegin.roundItems before).boundaryAll
    let d := (d.setProt fun p => { p with resumed := false }).frameOpen.maskStarts.setpFrequency.shiftSamples
    let d := d.freezeSnapshot.slpSample.twinCycle
    (d.driftDraw.cycleSequences codes).sendStreams

/-! ## The resume edge (R246, R247, R361) -/

/-- RESUME_EDGE: the arms are no longer blocked, each PENDING latch is decided, and with no latch SET the resume stands: centre mode for mod.recover_cycles, CONTACT of a charge sequence, transition 11 or 12 from HOLD (R246, R247, R361, R363). -/
def execResumeEdge (t : Tick) (s : State) : Host.Outcome State Fault Refusal :=
  s.on t fun d =>
    match d.prot.resumeEdge with
    | none => d
    | some e =>
      if d.now < e then d else
      let d := d.setProt fun p => { p with resumeEdge := none, blocked := false }
      let d := d.decideLatches
      if !d.noLatchSet then d else
      let d := d.setProt fun p => { p with recoverUntil := some (d.now + Par.modRecoverCycles d.P * d.tc) }
      let d := if d.charging && d.conv.resumeDue then d.setConv fun c => { c with resumeDue := false, phaseFrom := d.now } else d
      let n := d.conv.trans
      let d := if d.conv.state ≠ stHold then d
        else if d.conv.origin = stRun && d.mbClosed then d.transition stRun 11
        else d.transition stCharged 12
      d.afterMove n
end Sys2Proof.Machine
end

