-- ==== Sys2Proof/Machine/Dispatch.lean ====
section
/-! DEFINITION. The dispatch: one arm per row of the table, each one call of the row's meaning. -/

namespace Sys2Proof.Machine

def exec (i : Instr) (s : State) : Host.Outcome State Fault Refusal :=
  match i with
  | .deviceReset t power twinId twinEn bootSel => Sys2Proof.Machine.execDeviceReset t power twinId twinEn bootSel s
  | .bailsilReset t => Sys2Proof.Machine.execBailsilReset t s
  | .hostInterfaceReset t => Sys2Proof.Machine.execHostInterfaceReset t s
  | .railSupervisorUndervoltage t rail => Sys2Proof.Machine.execRailSupervisorUndervoltage t rail s
  | .railSupervisorRelease t bsl twinId twinEn bootSel => Sys2Proof.Machine.execRailSupervisorRelease t bsl twinId twinEn bootSel s
  | .referenceDetection t mhz => Sys2Proof.Machine.execReferenceDetection t mhz s
  | .pllLock t pll => Sys2Proof.Machine.execPllLock t pll s
  | .pllLossOfLock t pll => Sys2Proof.Machine.execPllLossOfLock t pll s
  | .referenceLost t => Sys2Proof.Machine.execReferenceLost t s
  | .referenceRestored t => Sys2Proof.Machine.execReferenceRestored t s
  | .holdoverMaxExpiry t => Sys2Proof.Machine.execHoldoverMaxExpiry t s
  | .pllRelockDone t => Sys2Proof.Machine.execPllRelockDone t s
  | .clkoutChangeApply t o => Sys2Proof.Machine.execClkoutChangeApply t o s
  | .bootWatchdogExpiry t => Sys2Proof.Machine.execBootWatchdogExpiry t s
  | .recoveryImageLengthWrite t len => Sys2Proof.Machine.execRecoveryImageLengthWrite t len s
  | .bringUpStepDone t fail test => Sys2Proof.Machine.execBringUpStepDone t fail test s
  | .soffitMemoryTestDone t pass => Sys2Proof.Machine.execSoffitMemoryTestDone t pass s
  | .sampleTrigger codes => Sys2Proof.Machine.execSampleTrigger codes s
  | .driftTagEnd t flip => Sys2Proof.Machine.execDriftTagEnd t flip s
  | .maskPass t => Sys2Proof.Machine.execMaskPass t s
  | .filterChainOutput t flips => Sys2Proof.Machine.execFilterChainOutput t flips s
  | .auxSequenceStart t n => Sys2Proof.Machine.execAuxSequenceStart t n s
  | .atrigEdge t pin rising heldNs => Sys2Proof.Machine.execAtrigEdge t pin rising heldNs s
  | .auxEntryEnd t n codes flip => Sys2Proof.Machine.execAuxEntryEnd t n codes flip s
  | .gustComplete t n codes => Sys2Proof.Machine.execGustComplete t n codes s
  | .referenceSettleEnd t g reading => Sys2Proof.Machine.execReferenceSettleEnd t g reading s
  | .referenceSettleTimeout t g => Sys2Proof.Machine.execReferenceSettleTimeout t g s
  | .comparatorLevelChange t j x => Sys2Proof.Machine.execComparatorLevelChange t j x s
  | .spareDacSwitch t j => Sys2Proof.Machine.execSpareDacSwitch t j s
  | .setpPulseEdge t rising => Sys2Proof.Machine.execSetpPulseEdge t rising s
  | .rafterLawEvaluation t clocks fail => Sys2Proof.Machine.execRafterLawEvaluation t clocks fail s
  | .setpRecovered t target => Sys2Proof.Machine.execSetpRecovered t target s
  | .feedbackSensorFault t => Sys2Proof.Machine.execFeedbackSensorFault t s
  | .sensorReadmission t sensor => Sys2Proof.Machine.execSensorReadmission t sensor s
  | .sensorlessExit t => Sys2Proof.Machine.execSensorlessExit t s
  | .sensorlessTrip t => Sys2Proof.Machine.execSensorlessTrip t s
  | .rtSyncLost t => Sys2Proof.Machine.execRtSyncLost t s
  | .rideExit t => Sys2Proof.Machine.execRideExit t s
  | .rideTimeout t => Sys2Proof.Machine.execRideTimeout t s
  | .recoveryEnd t => Sys2Proof.Machine.execRecoveryEnd t s
  | .referenceOverrun t arm => Sys2Proof.Machine.execReferenceOverrun t arm s
  | .scheduleOverrun t arm => Sys2Proof.Machine.execScheduleOverrun t arm s
  | .armRecordArrival t arm differs => Sys2Proof.Machine.execArmRecordArrival t arm differs s
  | .loadAll t => Sys2Proof.Machine.execLoadAll t s
  | .armRedundancyChange t arm => Sys2Proof.Machine.execArmRedundancyChange t arm s
  | .resumeEdge t => Sys2Proof.Machine.execResumeEdge t s
  | .centreModeRecoveryEnd t => Sys2Proof.Machine.execCentreModeRecoveryEnd t s
  | .returningFrame t ring lane frame => Sys2Proof.Machine.execReturningFrame t ring lane frame s
  | .validationMarker t ring id valid => Sys2Proof.Machine.execValidationMarker t ring id valid s
  | .bypassCloseTimeout t cell => Sys2Proof.Machine.execBypassCloseTimeout t cell s
  | .cellRestEnd t cell => Sys2Proof.Machine.execCellRestEnd t cell s
  | .nodeAnswerMissed t => Sys2Proof.Machine.execNodeAnswerMissed t s
  | .prqReceived t ring lane tag => Sys2Proof.Machine.execPrqReceived t ring lane tag s
  | .bmsTransmitFrame t cell q => Sys2Proof.Machine.execBmsTransmitFrame t cell q s
  | .ctbSecond t => Sys2Proof.Machine.execCtbSecond t s
  | .meterBankWriteDone t ok => Sys2Proof.Machine.execMeterBankWriteDone t ok s
  | .observerRoundStart t left us => Sys2Proof.Machine.execObserverRoundStart t left us s
  | .observerRoundLate t => Sys2Proof.Machine.execObserverRoundLate t s
  | .tripInputChange t inp level held => Sys2Proof.Machine.execTripInputChange t inp level held s
  | .blankingWindowEnd t j => Sys2Proof.Machine.execBlankingWindowEnd t j s
  | .incomingSquall t ring => Sys2Proof.Machine.execIncomingSquall t ring s
  | .squallHoldEnd t => Sys2Proof.Machine.execSquallHoldEnd t s
  | .burstEnd t => Sys2Proof.Machine.execBurstEnd t s
  | .echoWindowEnd t => Sys2Proof.Machine.execEchoWindowEnd t s
  | .multiWinElapsed t => Sys2Proof.Machine.execMultiWinElapsed t s
  | .autoClearRequest t src => Sys2Proof.Machine.execAutoClearRequest t src s
  | .tripRemind t src => Sys2Proof.Machine.execTripRemind t src s
  | .earthCurrentTrip t => Sys2Proof.Machine.execEarthCurrentTrip t s
  | .starPointTrip t => Sys2Proof.Machine.execStarPointTrip t s
  | .gateAgeingPersist t => Sys2Proof.Machine.execGateAgeingPersist t s
  | .safetyInputChange t n chB level heldNs => Sys2Proof.Machine.execSafetyInputChange t n chB level heldNs s
  | .sinDiscrepancy t n => Sys2Proof.Machine.execSinDiscrepancy t n s
  | .sinPulseMissed t n chB cross => Sys2Proof.Machine.execSinPulseMissed t n chB cross s
  | .testPulseStart t n => Sys2Proof.Machine.execTestPulseStart t n s
  | .testPulseEnd t n pass => Sys2Proof.Machine.execTestPulseEnd t n pass s
  | .soutReadbackMismatch t n on ls => Sys2Proof.Machine.execSoutReadbackMismatch t n on ls s
  | .switchCheckDone t n pass ls => Sys2Proof.Machine.execSwitchCheckDone t n pass ls s
  | .channelComparison t differs oscBad => Sys2Proof.Machine.execChannelComparison t differs oscBad s
  | .heartbeat t flip seq => Sys2Proof.Machine.execHeartbeat t flip seq s
  | .heartbeatTimeout t => Sys2Proof.Machine.execHeartbeatTimeout t s
  | .lockstepMismatch t => Sys2Proof.Machine.execLockstepMismatch t s
  | .channelDisagreementTimeout t => Sys2Proof.Machine.execChannelDisagreementTimeout t s
  | .sciDelayExpiry t => Sys2Proof.Machine.execSciDelayExpiry t s
  | .sciConfirmExpiry t => Sys2Proof.Machine.execSciConfirmExpiry t s
  | .slpMonitor t => Sys2Proof.Machine.execSlpMonitor t s
  | .safeRemind t fn src => Sys2Proof.Machine.execSafeRemind t fn src s
  | .safeChannelPdu t => Sys2Proof.Machine.execSafeChannelPdu t s
  | .safeChannelWatchdogExpiry t => Sys2Proof.Machine.execSafeChannelWatchdogExpiry t s
  | .mardalLaneDown t lane => Sys2Proof.Machine.execMardalLaneDown t lane s
  | .mardalLaneUp t lane => Sys2Proof.Machine.execMardalLaneUp t lane s
  | .beacon t good b => Sys2Proof.Machine.execBeacon t good b s
  | .lawCheckpoint t good cyc st => Sys2Proof.Machine.execLawCheckpoint t good cyc st s
  | .mardalArmRecord t cyc arm r => Sys2Proof.Machine.execMardalArmRecord t cyc arm r s
  | .battenInputs t good cyc cells => Sys2Proof.Machine.execBattenInputs t good cyc cells s
  | .scheduleCheck t cyc arm notice resume crc => Sys2Proof.Machine.execScheduleCheck t cyc arm notice resume crc s
  | .streamBlock t good vals => Sys2Proof.Machine.execStreamBlock t good vals s
  | .statusBlock t good ring seq bytes => Sys2Proof.Machine.execStatusBlock t good ring seq bytes s
  | .observerBlock t good cell obs row => Sys2Proof.Machine.execObserverBlock t good cell obs row s
  | .meterBlock t good cell cnt ten => Sys2Proof.Machine.execMeterBlock t good cell cnt ten s
  | .digestBlock t good set fw => Sys2Proof.Machine.execDigestBlock t good set fw s
  | .battenStateBlock t good arm cells a => Sys2Proof.Machine.execBattenStateBlock t good arm cells a s
  | .timeProbe t good delay ofs cyc => Sys2Proof.Machine.execTimeProbe t good delay ofs cyc s
  | .twinDeadline t => Sys2Proof.Machine.execTwinDeadline t s
  | .twinDecision t => Sys2Proof.Machine.execTwinDecision t s
  | .shadowExpired t => Sys2Proof.Machine.execShadowExpired t s
  | .healthToggle t => Sys2Proof.Machine.execHealthToggle t s
  | .arbGrantChange t level heldNs => Sys2Proof.Machine.execArbGrantChange t level heldNs s
  | .twinRoleChange t => Sys2Proof.Machine.execTwinRoleChange t s
  | .breakerContactChange t b c level => Sys2Proof.Machine.execBreakerContactChange t b c level s
  | .breakerDebounceDone t b c => Sys2Proof.Machine.execBreakerDebounceDone t b c s
  | .breakerDiscrepancy t b => Sys2Proof.Machine.execBreakerDiscrepancy t b s
  | .closePulseExpiry t b => Sys2Proof.Machine.execClosePulseExpiry t b s
  | .closeMaxExpiry t b => Sys2Proof.Machine.execCloseMaxExpiry t b s
  | .bsDeadConfirmed t => Sys2Proof.Machine.execBsDeadConfirmed t s
  | .bsHoldoffEnd t => Sys2Proof.Machine.execBsHoldoffEnd t s
  | .bsBusBandChange t => Sys2Proof.Machine.execBsBusBandChange t s
  | .bsLiveConfirmed t => Sys2Proof.Machine.execBsLiveConfirmed t s
  | .bsConfirmTimeout t => Sys2Proof.Machine.execBsConfirmTimeout t s
  | .bsEnergiseTimeout t => Sys2Proof.Machine.execBsEnergiseTimeout t s
  | .landTrimStep t => Sys2Proof.Machine.execLandTrimStep t s
  | .landDwellComplete t => Sys2Proof.Machine.execLandDwellComplete t s
  | .landTimeout t => Sys2Proof.Machine.execLandTimeout t s
  | .landAbortHoldEnd t => Sys2Proof.Machine.execLandAbortHoldEnd t s
  | .moveStart t axis => Sys2Proof.Machine.execMoveStart t axis s
  | .segmentStart t axis => Sys2Proof.Machine.execSegmentStart t axis s
  | .moveEnd t axis => Sys2Proof.Machine.execMoveEnd t axis s
  | .enumDiscoverDone t => Sys2Proof.Machine.execEnumDiscoverDone t s
  | .enumPreloadDone t => Sys2Proof.Machine.execEnumPreloadDone t s
  | .enumMatchEnd t => Sys2Proof.Machine.execEnumMatchEnd t s
  | .chargeContactEnd t => Sys2Proof.Machine.execChargeContactEnd t s
  | .chargeCellTestEnd t => Sys2Proof.Machine.execChargeCellTestEnd t s
  | .preChargeDwellEnd t => Sys2Proof.Machine.execPreChargeDwellEnd t s
  | .hostWatchdogExpiry t => Sys2Proof.Machine.execHostWatchdogExpiry t s
  | .zephyrRound t temps rails refs => Sys2Proof.Machine.execZephyrRound t temps rails refs s
  | .zephyrRoundClose t => Sys2Proof.Machine.execZephyrRoundClose t s
  | .ctbSourceReturn t => Sys2Proof.Machine.execCtbSourceReturn t s
  | .anemometerDump t => Sys2Proof.Machine.execAnemometerDump t s
  | .dumpWriteDone t ok => Sys2Proof.Machine.execDumpWriteDone t ok s
  | .counterWrap t b idx => Sys2Proof.Machine.execCounterWrap t b idx s
  | .scrubPass t fixed bad => Sys2Proof.Machine.execScrubPass t fixed bad s
  | .recorderFrameWrite t bad => Sys2Proof.Machine.execRecorderFrameWrite t bad s
  | .triggerCondition t => Sys2Proof.Machine.execTriggerCondition t s
  | .ethPortLinkChange t port up gigabit => Sys2Proof.Machine.execEthPortLinkChange t port up gigabit s
  | .ethFrameReceived t port len src kind tag mine => Sys2Proof.Machine.execEthFrameReceived t port len src kind tag mine s
  | .safeChannelFrame t src mine etherType version pdu => Sys2Proof.Machine.execSafeChannelFrame t src mine etherType version pdu s
  | .hsrForward t port src dst seq pcp event dom ptpSeq ptpSrc corr resid => Sys2Proof.Machine.execHsrForward t port src dst seq pcp event dom ptpSeq ptpSrc corr resid s
  | .supervisionFrameSend t => Sys2Proof.Machine.execSupervisionFrameSend t s
  | .ptpSync t dom port src seq twoStep origin corr err => Sys2Proof.Machine.execPtpSync t dom port src seq twoStep origin corr err s
  | .ptpFollowUp t dom port src seq mac origin corr => Sys2Proof.Machine.execPtpFollowUp t dom port src seq mac origin corr s
  | .ptpAnnounce t dom port src gm rank interval utc => Sys2Proof.Machine.execPtpAnnounce t dom port src gm rank interval utc s
  | .pdelayReq t port src seq corr turn => Sys2Proof.Machine.execPdelayReq t port src seq corr turn s
  | .domainSilent t x => Sys2Proof.Machine.execDomainSilent t x s
  | .errorReport t code island kind index detail => Sys2Proof.Machine.execErrorReport t code island kind index detail s
  | .errorHandlingDone t => Sys2Proof.Machine.execErrorHandlingDone t s
  | .handlerFault t cause => Sys2Proof.Machine.execHandlerFault t cause s
  | .commandDoorbell t ch v => Sys2Proof.Machine.execCommandDoorbell t ch v s
  | .commandFetch t entry => Sys2Proof.Machine.execCommandFetch t entry s
  | .cmdNop t h a => Sys2Proof.Machine.execCmdNop t h a s
  | .cmdParamStage t h a => Sys2Proof.Machine.execCmdParamStage t h a s
  | .cmdParamStageList t h a mem => Sys2Proof.Machine.execCmdParamStageList t h a mem s
  | .cmdParamStageDefaults t h a => Sys2Proof.Machine.execCmdParamStageDefaults t h a s
  | .cmdParamDiscard t h a => Sys2Proof.Machine.execCmdParamDiscard t h a s
  | .cmdParamCommit t h a => Sys2Proof.Machine.execCmdParamCommit t h a s
  | .commitCheckDone t => Sys2Proof.Machine.execCommitCheckDone t s
  | .commitApply t => Sys2Proof.Machine.execCommitApply t s
  | .cmdParamRead t h a => Sys2Proof.Machine.execCmdParamRead t h a s
  | .cmdParamPersist t h a => Sys2Proof.Machine.execCmdParamPersist t h a s
  | .cmdStateReq t h a => Sys2Proof.Machine.execCmdStateReq t h a s
  | .cmdTrMove t h a mem => Sys2Proof.Machine.execCmdTrMove t h a mem s
  | .cmdTrFlush t h a => Sys2Proof.Machine.execCmdTrFlush t h a s
  | .cmdTrTableLoad t h a mem => Sys2Proof.Machine.execCmdTrTableLoad t h a mem s
  | .cmdBlackStart t h a => Sys2Proof.Machine.execCmdBlackStart t h a s
  | .cmdLand t h a => Sys2Proof.Machine.execCmdLand t h a s
  | .cmdLandAbort t h a => Sys2Proof.Machine.execCmdLandAbort t h a s
  | .cmdBrkClose t h a => Sys2Proof.Machine.execCmdBrkClose t h a s
  | .cmdBrkRearm t h a => Sys2Proof.Machine.execCmdBrkRearm t h a s
  | .cmdFeedbackRearm t h a => Sys2Proof.Machine.execCmdFeedbackRearm t h a s
  | .cmdCellBypass t h a => Sys2Proof.Machine.execCmdCellBypass t h a s
  | .cmdCellReturn t h a => Sys2Proof.Machine.execCmdCellReturn t h a s
  | .cmdPackRearm t h a => Sys2Proof.Machine.execCmdPackRearm t h a s
  | .cmdPackTenancy t h a => Sys2Proof.Machine.execCmdPackTenancy t h a s
  | .cmdBmsTap t h a => Sys2Proof.Machine.execCmdBmsTap t h a s
  | .cmdBmsSend t h a => Sys2Proof.Machine.execCmdBmsSend t h a s
  | .cmdMeterSnapshot t h a => Sys2Proof.Machine.execCmdMeterSnapshot t h a s
  | .snapshotSigned t dmaOk => Sys2Proof.Machine.execSnapshotSigned t dmaOk s
  | .cmdMeterAck t h a => Sys2Proof.Machine.execCmdMeterAck t h a s
  | .cmdNodeRead t h a => Sys2Proof.Machine.execCmdNodeRead t h a s
  | .cmdNodeWrite t h a => Sys2Proof.Machine.execCmdNodeWrite t h a s
  | .cmdTripClear t h a => Sys2Proof.Machine.execCmdTripClear t h a s
  | .cmdTripRearm t h a => Sys2Proof.Machine.execCmdTripRearm t h a s
  | .cmdTripForce t h a => Sys2Proof.Machine.execCmdTripForce t h a s
  | .cmdGateBaseline t h a => Sys2Proof.Machine.execCmdGateBaseline t h a s
  | .cmdSafeReset t h a => Sys2Proof.Machine.execCmdSafeReset t h a s
  | .cmdSafeRearm t h a => Sys2Proof.Machine.execCmdSafeRearm t h a s
  | .cmdRecArm t h a => Sys2Proof.Machine.execCmdRecArm t h a s
  | .cmdRecStop t h a => Sys2Proof.Machine.execCmdRecStop t h a s
  | .cmdRecTrigger t h a => Sys2Proof.Machine.execCmdRecTrigger t h a s
  | .cmdRecMaskStart t h a => Sys2Proof.Machine.execCmdRecMaskStart t h a s
  | .cmdEhLogRead t h a dmaOk => Sys2Proof.Machine.execCmdEhLogRead t h a dmaOk s
  | .cmdEhAck t h a => Sys2Proof.Machine.execCmdEhAck t h a s
  | .cmdEhLogClear t h a => Sys2Proof.Machine.execCmdEhLogClear t h a s
  | .cmdFwRestart t h a => Sys2Proof.Machine.execCmdFwRestart t h a s
  | .cmdFwWrite t h a image => Sys2Proof.Machine.execCmdFwWrite t h a image s
  | .fwWriteDone t => Sys2Proof.Machine.execFwWriteDone t s
  | .cmdFwCommit t h a => Sys2Proof.Machine.execCmdFwCommit t h a s
  | .cmdSecIdentity t h a dmaOk => Sys2Proof.Machine.execCmdSecIdentity t h a dmaOk s
  | .cmdSecAttest t h a => Sys2Proof.Machine.execCmdSecAttest t h a s
  | .attestSigned t dmaOk => Sys2Proof.Machine.execAttestSigned t dmaOk s
  | .cmdDbgChallenge t h a dmaOk => Sys2Proof.Machine.execCmdDbgChallenge t h a dmaOk s
  | .cmdDbgUnlock t h a mem => Sys2Proof.Machine.execCmdDbgUnlock t h a mem s
  | .cmdDbgLock t h a => Sys2Proof.Machine.execCmdDbgLock t h a s
  | .cmdPmcDump t h a => Sys2Proof.Machine.execCmdPmcDump t h a s
  | .cmdPmcClear t h a => Sys2Proof.Machine.execCmdPmcClear t h a s
  | .cmdDriftRead t h a dmaOk => Sys2Proof.Machine.execCmdDriftRead t h a dmaOk s
  | .cmdHkRearm t h a => Sys2Proof.Machine.execCmdHkRearm t h a s
  | .channelEnableWrite t v => Sys2Proof.Machine.execChannelEnableWrite t v s
  | .evqEnableWrite t v => Sys2Proof.Machine.execEvqEnableWrite t v s
  | .evqHeadWrite t v => Sys2Proof.Machine.execEvqHeadWrite t v s
  | .eventRecordWrite t ok => Sys2Proof.Machine.execEventRecordWrite t ok s
  | .evqIrqDelayExpiry t => Sys2Proof.Machine.execEvqIrqDelayExpiry t s
  | .fenceWrite t => Sys2Proof.Machine.execFenceWrite t s
  | .fenceRead t => Sys2Proof.Machine.execFenceRead t s
  | .hostWatchdogWrite t => Sys2Proof.Machine.execHostWatchdogWrite t s
  | .gustRequestWrite t v => Sys2Proof.Machine.execGustRequestWrite t v s
  | .packSelectWrite t v => Sys2Proof.Machine.execPackSelectWrite t v s
  | .gateSelectWrite t v => Sys2Proof.Machine.execGateSelectWrite t v s
  | .ctbNowRead t => Sys2Proof.Machine.execCtbNowRead t s
  | .ctbCycRead t => Sys2Proof.Machine.execCtbCycRead t s
  | .correlationSampleRequest w => Sys2Proof.Machine.execCorrelationSampleRequest w s
  | .scTimeRead t x => Sys2Proof.Machine.execScTimeRead t x s
  | .scIncrementWrite t x frac => Sys2Proof.Machine.execScIncrementWrite t x frac s
  | .scApplySet t w => Sys2Proof.Machine.execScApplySet t w s
  | .scApplyStep t w => Sys2Proof.Machine.execScApplyStep t w s
  | .pmcConfigWrite t b idx v => Sys2Proof.Machine.execPmcConfigWrite t b idx v s
  | .dumpRingEnableWrite t v => Sys2Proof.Machine.execDumpRingEnableWrite t v s
  | .counterPageLowRead t offset => Sys2Proof.Machine.execCounterPageLowRead t offset s
  | .bar2Readout t write offset len ce ue => Sys2Proof.Machine.execBar2Readout t write offset len ce ue s
  | .misalignedAccess t write => Sys2Proof.Machine.execMisalignedAccess t write s
  | .registerWrite t offset v => Sys2Proof.Machine.execRegisterWrite t offset v s
  | .paramPersistDone t ok => Sys2Proof.Machine.execParamPersistDone t ok s
  | .msixVectorUnmask t v => Sys2Proof.Machine.execMsixVectorUnmask t v s
  | .managementUartRecovery t image => Sys2Proof.Machine.execManagementUartRecovery t image s
  | .tpaTpbTestPulse t tpb => Sys2Proof.Machine.execTpaTpbTestPulse t tpb s
  | .ringLaneLockChange t ring lane lock => Sys2Proof.Machine.execRingLaneLockChange t ring lane lock s
  | .ringClosedTimeout t => Sys2Proof.Machine.execRingClosedTimeout t s
  | .pdelayRespReceived t port seq corr err => Sys2Proof.Machine.execPdelayRespReceived t port seq corr err s
  | .pdelayReqInterval t => Sys2Proof.Machine.execPdelayReqInterval t s

end Sys2Proof.Machine
end

