-- ==== Sys2Proof/Machine/Step.lean ====
section
/-! DEFINITION. One step: the command at the front of the queue takes effect; on an empty queue one tick of the timebase passes. -/

namespace Sys2Proof.Machine

/-- One step: the front command runs with the queue's rest. With no command waiting the timebase moves on by one tick, and with it the station clocks and the counters (assumption logs 1 and 7). -/
def step (s : State) : Host.Outcome State Fault Refusal :=
  match s.pending with
  | [] => s.on (s.dev.now + 1) id
  | i :: rest => exec i { s with pending := rest }

/-- The command that a word spells, put at the front of the queue. The table gives no row bits, so no word spells one, and the state stays as it is (assumption log 1). -/
def State.withFetchWord (s : State) (nbits w : Nat) : State :=
  match decodeTableWord nbits w with
  | some i => { s with pending := i :: s.pending }
  | none => s

end Sys2Proof.Machine
end

