-- ==== Sys2Proof/Safety.lean ====
section
/-! DEFINITION. The terms in which claims speak: the parts of the device, what it is for two devices to agree in a part, and the outcome of a command. -/

namespace Sys2Proof.Machine

/-! ## Outcomes -/

/-- The outcome is a next state, in which the queue stands as given and the device satisfies p. -/
def Gives (o : Host.Outcome State Fault Refusal) (queue : List Instr) (p : Device → Prop) : Prop :=
  ∃ s', o = .next s' ∧ s'.pending = queue ∧ p s'.dev

/-- Commands run one after the other, each with the same queue behind it. -/
def execAll : List Instr → State → Host.Outcome State Fault Refusal
  | [], s => .next s
  | c :: rest, s =>
    match exec c s with
    | .next s' => execAll rest s'
    | o => o

/-! ## Parts of the device -/

/-- The mailbox: channels, their counts, commands in flight, the fence. -/
abbrev HostPort.mail (h : HostPort) : List Channel × Nat × List CmdHdr × List CmdHdr × Nat × Bool := (h.chans, h.rr, h.outstanding, h.discarding, h.fences, h.fencePend)
/-- The event queue's registers. -/
abbrev HostPort.queueRegs (h : HostPort) : BitVec 32 × BitVec 32 × BitVec 32 × Bool × BitVec 32 × BitVec 32 × BitVec 32 × BitVec 32 × Bool :=
  (h.evqBaseL, h.evqBaseH, h.evqSize, h.evqOn, h.evqHead, h.shadowL, h.shadowH, h.evqIrq, h.evqErr)
/-- What the device has written and signalled to the host, and the queue's tail. -/
abbrev HostPort.posts (h : HostPort) : List HostWrite × BitVec 32 × BitVec 32 × Nat × Option Tick × List MsixEntry :=
  (h.outbox, h.evqTail, h.evqSeq, h.unreported, h.visFrom, h.msix)
/-- The other host registers: restart, DMA and watchdog state, the error count, what a read returns, the configuration header. -/
abbrev HostPort.regs (h : HostPort) : Bool × Bool × Bool × Nat × Tick × BitVec 64 × List (BitVec 8) × Bool × PciHeader :=
  (h.fwRunning, h.dmaErr, h.hostLost, h.errCnt, h.wdAt, h.reply, h.replyBytes, h.poisoned, h.pci)
/-- The station clocks. -/
abbrev Net.stations (n : Net) : List StClock × Rat := (n.clocks, n.stPhase)
/-- The network without the station clocks. -/
abbrev Net.still (n : Net) : Net := { n with clocks := [], stPhase := 0 }
/-- The counter blocks' dump registers. -/
abbrev Pmc.dump (p : Pmc) : Pmc := { p with ctrs := [], levels := [] }
/-- Soffit's bytes and what waits to be written to them. -/
abbrev Rec.store (r : Rec) : List Host.Cell × List (Nat × List (BitVec 8)) × Bool := (r.mem, r.posted, r.wiped)
/-- The recorder without Soffit and without the evaluation of its triggers. -/
abbrev Rec.still (r : Rec) : Rec := { r with mem := [], posted := [], wiped := false, lastMet := [], conds := [], trigs := [], digLog := [] }
/-- Gate records and their registers. -/
abbrev Prot.gatePart (p : Prot) : List (Gate × Gate) × List (GateStore × GateStore) × Tick × Nat × Bool × List (BitVec 32) :=
  (p.gates, p.gateStore, p.gateSaved, p.gateSel, p.gateReady, p.gateRegs)
/-- Protection without the gate records. -/
abbrev Prot.tripPart (p : Prot) : Prot := { p with gates := [], gateStore := [], gateSaved := 0, gateSel := 0, gateReady := false, gateRegs := [] }

/-- The device that a command's effect starts from: time has moved on to the command's instant, never back, and with it the station clocks and the counters. -/
def Device.ready (d : Device) (t : Tick) : Device :=
  let d := d.advance t
  { d with host := { d.host with cmdEvents := false } }

/-- Parts of the device that a command may leave as they are. Not among them is what any command moves: the performance counters, the free-value counter, the note of bits that hardware has just set (R8), events on their way to the queue, and the evaluation of the recorder's triggers. -/
inductive Region where
  /-- The timebase (chapter 13). -/
  | time
  /-- The station clocks (chapter 14). -/
  | stations
  /-- Straps. -/
  | straps
  /-- The control cycle. -/
  | cycle
  /-- Measurement (chapter 2). -/
  | meas
  /-- The control law (chapter 3). -/
  | law
  /-- Ride-through (chapter 4). -/
  | ride
  /-- The trajectory engine (chapter 4). -/
  | traj
  /-- Breakers (chapter 4). -/
  | brk
  /-- Black start and landing (chapter 4). -/
  | seq
  /-- Modulation (chapter 5). -/
  | modu
  /-- Packs (chapter 6). -/
  | packs
  /-- Metering (chapter 6). -/
  | meter
  /-- Cell links (chapter 7). -/
  | link
  /-- Protection without the gate records (chapter 8). -/
  | prot
  /-- Gate records (chapter 8). -/
  | gates
  /-- Safety (chapter 9). -/
  | safety
  /-- Twin operation (chapter 10). -/
  | twin
  /-- Parameters in force, committed and staged (chapter 11). -/
  | par
  /-- Persisted parameter copies (chapter 11). -/
  | copies
  /-- The mailbox (chapter 11). -/
  | mail
  /-- The event queue's registers (chapter 11). -/
  | queue
  /-- Writes and messages to the host (chapter 11). -/
  | posts
  /-- Other host registers (chapter 11). -/
  | regs
  /-- The status mirror (chapter 11). -/
  | mirror
  /-- Converter states and start-up (chapter 12). -/
  | conv
  /-- Clocks (chapter 13). -/
  | clk
  /-- The network without the station clocks (chapter 14). -/
  | net
  /-- Soffit's bytes (chapter 15). -/
  | soffit
  /-- The recorder without Soffit and trigger evaluation (chapter 15). -/
  | recd
  /-- The error handler (chapter 16). -/
  | eh
  /-- Provisional results (chapter 16). -/
  | prov
  /-- Security and firmware (chapter 16). -/
  | sec
  /-- The counters' dump ring (chapter 17). -/
  | dump
  /-- Drift tags (chapter 17). -/
  | drift
  /-- Housekeeping (chapter 17). -/
  | hk
  /-- Rails (chapter 18). -/
  | rails
  deriving DecidableEq, Repr

/-- Two devices agree in a part. -/
def Region.same (p : Region) (a b : Device) : Prop :=
  match p with
  | .time => a.now = b.now
  | .stations => a.net.stations = b.net.stations
  | .straps => a.straps = b.straps
  | .cycle => a.cycle = b.cycle
  | .meas => a.meas = b.meas
  | .law => a.law = b.law
  | .ride => a.grid.ride = b.grid.ride
  | .traj => a.grid.tr = b.grid.tr
  | .brk => a.grid.brk = b.grid.brk
  | .seq => a.grid.seq = b.grid.seq
  | .modu => a.modu = b.modu
  | .packs => a.packs = b.packs
  | .meter => a.meter = b.meter
  | .link => a.link = b.link
  | .prot => a.prot.tripPart = b.prot.tripPart
  | .gates => a.prot.gatePart = b.prot.gatePart
  | .safety => a.safety = b.safety
  | .twin => a.twin = b.twin
  | .par => a.par = b.par
  | .copies => a.parCopies = b.parCopies
  | .mail => a.host.mail = b.host.mail
  | .queue => a.host.queueRegs = b.host.queueRegs
  | .posts => a.host.posts = b.host.posts
  | .regs => a.host.regs = b.host.regs
  | .mirror => a.mirrors = b.mirrors
  | .conv => a.conv = b.conv
  | .clk => a.clk = b.clk
  | .net => a.net.still = b.net.still
  | .soffit => a.recd.store = b.recd.store
  | .recd => a.recd.still = b.recd.still
  | .eh => a.eh = b.eh
  | .prov => a.prov = b.prov
  | .sec => a.sec = b.sec
  | .dump => a.zep.pmc.dump = b.zep.pmc.dump
  | .drift => a.zep.drift = b.zep.drift
  | .hk => a.zep.hk = b.zep.hk
  | .rails => a.rails = b.rails

/-- The second device differs from the first in the listed parts alone. -/
structure Only (k : List Region) (a b : Device) : Prop where
  /-- Every other part is the same. -/
  same : ∀ p, p ∉ k → p.same a b

/-- No write to Soffit waits: as between any two commands. -/
abbrev State.Quiet (s : State) : Prop := s.dev.recd.posted = [] ∧ s.dev.recd.wiped = false

/-! ## What each command may change -/

/-- Every part. -/
abbrev Region.all : List Region :=
  [.time, .stations, .straps, .cycle, .meas, .law, .ride, .traj, .brk, .seq, .modu, .packs, .meter, .link, .prot, .gates, .safety, .twin, .par,
   .copies, .mail, .queue, .posts, .regs, .mirror, .conv, .clk, .net, .soffit, .recd, .eh, .prov, .sec, .dump, .drift, .hk, .rails]
/-- What a trip source's assertion may change: the arms are blocked, and sequences end. -/
abbrev Region.trip : List Region := [.traj, .brk, .seq, .modu, .prot, .conv]
/-- What a report to the error handler may change: a handler fault puts Bailsil into safe hold. -/
abbrev Region.errs : List Region := Region.trip ++ [.safety, .posts, .eh]
/-- What a completion changes. -/
abbrev Region.answer : List Region := [.mail, .posts]

/-- The parts that a command may change, beside the passage of time up to its instant. -/
def touches (c : Instr) : List Region :=
  match c with
  | .deviceReset .. | .railSupervisorUndervoltage .. | .railSupervisorRelease .. | .bootWatchdogExpiry .. | .recoveryImageLengthWrite .. | .managementUartRecovery .. => Region.all
  | .bailsilReset .. | .safetyInputChange .. | .sinDiscrepancy .. | .sinPulseMissed .. | .heartbeat .. | .slpMonitor .. | .safeChannelWatchdogExpiry .. | .tpaTpbTestPulse .. => Region.trip ++ [.safety]
  | .hostInterfaceReset .. => Region.answer ++ [.queue, .regs]
  | .referenceDetection .. | .referenceLost .. | .referenceRestored .. | .clkoutChangeApply .. | .ctbSourceReturn .. => [.clk]
  | .pllLock .. => [.time, .cycle, .safety, .conv, .clk]
  | .pllLossOfLock .. => Region.errs ++ [.clk, .net]
  | .holdoverMaxExpiry .. => Region.errs ++ [.clk]
  | .pllRelockDone .. => [.stations, .clk]
  | .bringUpStepDone .. => Region.errs ++ [.meas, .law, .packs, .meter, .gates, .par, .regs, .clk, .sec]
  | .soffitMemoryTestDone .. => Region.errs ++ [.recd]
  | .sampleTrigger .. => Region.trip ++ Region.answer ++ [.stations, .cycle, .meas, .law, .ride, .packs, .meter, .link, .safety, .twin, .par, .mirror, .clk, .net, .soffit, .recd, .drift]
  | .driftTagEnd .. => [.drift]
  | .maskPass .. | .triggerCondition .. => [.posts, .soffit, .recd]
  | .filterChainOutput .. => [.meas, .recd, .drift]
  | .auxSequenceStart .. | .atrigEdge .. | .referenceSettleEnd .. | .setpPulseEdge .. => [.meas]
  | .auxEntryEnd .. | .gustComplete .. => [.meas, .recd]
  | .referenceSettleTimeout .. | .comparatorLevelChange .. | .spareDacSwitch .. => Region.trip ++ [.meas]
  | .rafterLawEvaluation .. => Region.errs ++ [.law, .ride, .packs, .twin, .recd, .drift]
  | .setpRecovered .. | .feedbackSensorFault .. | .sensorReadmission .. | .sensorlessExit .. => [.law]
  | .sensorlessTrip .. | .rideTimeout .. | .bypassCloseTimeout .. | .tripInputChange .. | .blankingWindowEnd .. | .earthCurrentTrip .. | .starPointTrip .. | .bsEnergiseTimeout .. => Region.trip
  | .rtSyncLost .. => Region.trip ++ [.ride]
  | .rideExit .. | .recoveryEnd .. => [.ride]
  | .referenceOverrun .. => Region.errs ++ [.cycle, .gates, .twin, .drift]
  | .scheduleOverrun .. => Region.errs ++ [.cycle]
  | .armRecordArrival .. => Region.errs ++ [.gates, .twin, .drift]
  | .loadAll .. => Region.trip ++ Region.answer ++ [.law, .ride, .packs, .link, .gates, .twin, .prov, .drift]
  | .armRedundancyChange .. | .cellRestEnd .. => [.modu]
  | .resumeEdge .. => Region.trip ++ [.stations, .meas, .law, .ride, .packs, .safety, .par, .posts, .clk, .net, .soffit, .recd]
  | .centreModeRecoveryEnd .. => [.prot, .conv]
  | .returningFrame .. => Region.trip ++ Region.answer ++ [.packs, .link, .twin, .recd, .prov, .drift]
  | .validationMarker .. => [.packs, .prov]
  | .nodeAnswerMissed .. | .cmdBmsSend .. | .cmdNodeRead .. | .cmdNodeWrite .. => Region.answer ++ [.link]
  | .prqReceived .. | .ringLaneLockChange .. => [.link]
  | .bmsTransmitFrame .. => [.packs, .link]
  | .ctbSecond .. => [.packs, .meter, .twin]
  | .meterBankWriteDone .. => Region.errs ++ [.meter]
  | .observerRoundStart .. | .observerBlock .. => [.modu, .packs, .twin]
  | .observerRoundLate .. => [.packs]
  | .incomingSquall .. => Region.trip ++ [.link]
  | .squallHoldEnd .. | .burstEnd .. | .echoWindowEnd .. | .multiWinElapsed .. | .autoClearRequest .. | .tripRemind .. => [.prot]
  | .gateAgeingPersist .. => [.gates]
  | .testPulseStart .. | .testPulseEnd .. | .soutReadbackMismatch .. | .switchCheckDone .. | .sciDelayExpiry .. | .sciConfirmExpiry .. | .safeRemind .. => [.safety]
  | .channelComparison .. => Region.trip ++ [.safety, .posts]
  | .heartbeatTimeout .. | .lockstepMismatch .. | .channelDisagreementTimeout .. | .scrubPass .. | .handlerFault .. => Region.errs
  | .safeChannelPdu .. => Region.trip ++ [.safety, .net]
  | .mardalLaneDown .. => [.twin, .clk]
  | .mardalLaneUp .. | .lawCheckpoint .. | .battenInputs .. | .streamBlock .. | .digestBlock .. | .battenStateBlock .. | .twinDecision .. | .shadowExpired .. | .healthToggle .. | .arbGrantChange .. => [.twin]
  | .beacon .. => Region.trip ++ [.stations, .meas, .law, .ride, .packs, .link, .safety, .twin, .par, .posts, .clk, .net, .soffit, .recd]
  | .mardalArmRecord .. | .scheduleCheck .. => [.modu, .prot, .gates, .twin]
  | .statusBlock .. => Region.trip ++ [.link, .twin, .recd, .prov]
  | .meterBlock .. => [.packs, .twin]
  | .timeProbe .. => [.time, .cycle, .twin]
  | .twinDeadline .. => Region.errs ++ [.cycle, .twin]
  | .twinRoleChange .. => [.brk, .seq, .modu, .gates, .twin]
  | .breakerContactChange .. => [.law, .traj, .brk, .seq, .prot, .conv]
  | .breakerDebounceDone .. | .breakerDiscrepancy .. => [.law, .traj, .brk, .seq, .conv]
  | .closePulseExpiry .. => [.brk]
  | .closeMaxExpiry .. | .bsConfirmTimeout .. | .landTimeout .. => [.traj, .brk, .seq]
  | .bsDeadConfirmed .. | .landAbortHoldEnd .. => [.seq]
  | .bsHoldoffEnd .. | .landDwellComplete .. => [.brk, .seq]
  | .bsBusBandChange .. | .moveEnd .. => [.traj, .seq]
  | .bsLiveConfirmed .. | .chargeContactEnd .. | .chargeCellTestEnd .. | .preChargeDwellEnd .. => [.conv]
  | .landTrimStep .. => [.traj, .seq, .par]
  | .moveStart .. => [.traj, .par]
  | .segmentStart .. => [.traj]
  | .enumDiscoverDone .. => [.link, .conv]
  | .enumPreloadDone .. | .enumMatchEnd .. => [.packs, .conv]
  | .hostWatchdogExpiry .. | .hostWatchdogWrite .. | .pmcConfigWrite .. | .misalignedAccess .. => [.regs]
  | .zephyrRound .. => Region.trip ++ [.meas, .packs, .link, .clk, .net, .eh, .hk]
  | .zephyrRoundClose .. => [.hk]
  | .anemometerDump .. | .cmdPmcDump .. => Region.answer ++ [.dump]
  | .dumpWriteDone .. => Region.errs ++ [.mail, .regs, .dump]
  | .counterWrap .. => []
  | .recorderFrameWrite .. => Region.errs ++ [.soffit, .recd]
  | .ethPortLinkChange .. | .ethFrameReceived .. | .safeChannelFrame .. | .hsrForward .. | .supervisionFrameSend .. | .pdelayReq .. | .ringClosedTimeout .. | .pdelayRespReceived .. | .pdelayReqInterval .. => [.net]
  | .ptpSync .. | .ptpFollowUp .. | .domainSilent .. => [.stations, .clk, .net]
  | .ptpAnnounce .. => [.stations, .net]
  | .errorReport .. => Region.errs ++ [.link, .sec]
  | .errorHandlingDone .. => [.safety, .posts, .regs, .conv, .recd, .eh]
  | .commandDoorbell .. | .channelEnableWrite .. | .fenceRead .. => [.mail, .regs]
  | .commandFetch .. | .cmdEhLogRead .. | .cmdSecIdentity .. | .cmdDriftRead .. => Region.answer ++ [.regs]
  | .cmdNop .. | .cmdParamRead .. | .cmdPmcClear .. => Region.answer
  | .cmdParamStage .. | .cmdParamStageDefaults .. | .cmdParamDiscard .. | .cmdParamCommit .. | .commitCheckDone .. | .cmdParamPersist .. => Region.answer ++ [.par]
  | .cmdParamStageList .. => Region.answer ++ [.par, .regs]
  | .commitApply .. => Region.trip ++ Region.answer ++ [.meas, .law, .packs, .par, .regs, .clk]
  | .cmdStateReq .. | .cmdLand .. => Region.answer ++ [.conv]
  | .cmdTrMove .. | .cmdTrTableLoad .. => Region.answer ++ [.traj, .regs]
  | .cmdTrFlush .. => Region.answer ++ [.traj]
  | .cmdBlackStart .. => Region.answer ++ [.seq]
  | .cmdLandAbort .. => Region.answer ++ [.traj, .brk, .seq]
  | .cmdBrkClose .. => Region.answer ++ [.brk]
  | .cmdBrkRearm .. => Region.answer ++ [.law, .traj, .brk, .seq, .prot, .conv]
  | .cmdFeedbackRearm .. => Region.answer ++ [.law]
  | .cmdCellBypass .. => Region.answer ++ [.modu]
  | .cmdCellReturn .. | .cmdTripRearm .. | .cmdTripForce .. => Region.trip ++ Region.answer
  | .cmdPackRearm .. | .cmdPackTenancy .. | .cmdBmsTap .. => Region.answer ++ [.packs]
  | .cmdMeterSnapshot .. | .cmdMeterAck .. => Region.answer ++ [.meter]
  | .snapshotSigned .. => Region.answer ++ [.meter, .regs]
  | .cmdTripClear .. => Region.answer ++ [.prot]
  | .cmdGateBaseline .. => Region.answer ++ [.gates]
  | .cmdSafeReset .. => Region.answer ++ [.prot, .safety]
  | .cmdSafeRearm .. => Region.trip ++ Region.answer ++ [.safety]
  | .cmdRecArm .. | .cmdRecMaskStart .. => Region.answer ++ [.recd]
  | .cmdRecStop .. | .cmdRecTrigger .. => Region.answer ++ [.soffit, .recd]
  | .cmdEhAck .. | .cmdEhLogClear .. => Region.answer ++ [.eh]
  | .cmdFwRestart .. => Region.answer ++ [.meter, .link, .safety, .par, .queue, .regs, .conv, .clk, .eh, .sec, .dump, .drift, .hk]
  | .cmdFwWrite .. | .attestSigned .. | .cmdDbgChallenge .. | .cmdDbgUnlock .. => Region.answer ++ [.regs, .sec]
  | .fwWriteDone .. | .cmdFwCommit .. | .cmdSecAttest .. | .cmdDbgLock .. => Region.answer ++ [.sec]
  | .cmdHkRearm .. => Region.answer ++ [.hk]
  | .evqEnableWrite .. | .evqHeadWrite .. => [.queue, .posts, .regs]
  | .eventRecordWrite .. => Region.errs ++ [.queue]
  | .evqIrqDelayExpiry .. | .msixVectorUnmask .. => [.posts]
  | .fenceWrite .. => [.mail]
  | .gustRequestWrite .. => [.meas, .regs]
  | .packSelectWrite .. => [.packs, .regs]
  | .gateSelectWrite .. => [.gates, .regs]
  | .ctbNowRead .. | .ctbCycRead .. => [.regs, .clk]
  | .correlationSampleRequest .. => [.regs, .clk, .net]
  | .scTimeRead .. | .scIncrementWrite .. => [.stations, .regs]
  | .scApplySet .. | .scApplyStep .. => [.stations, .regs, .clk]
  | .dumpRingEnableWrite .. | .counterPageLowRead .. => [.regs, .dump]
  | .bar2Readout .. => Region.errs ++ [.regs, .recd]
  | .registerWrite .. => Region.answer ++ [.stations, .meas, .law, .traj, .modu, .packs, .link, .twin, .queue, .regs, .soffit, .recd, .eh, .dump, .drift, .hk]
  | .paramPersistDone .. => Region.answer ++ [.par, .copies]

/-- The instant up to which time moves on for a command: its operand; a SAMPLE_TRIGGER comes at E(k + 1). -/
def instant (c : Instr) (s : State) : Tick :=
  match c with
  | .sampleTrigger .. => s.dev.eNext
  | .correlationSampleRequest w => w.1
  | .deviceReset t .. | .bailsilReset t .. | .hostInterfaceReset t .. | .railSupervisorUndervoltage t .. | .railSupervisorRelease t .. | .referenceDetection t ..
  | .pllLock t .. | .pllLossOfLock t .. | .referenceLost t .. | .referenceRestored t .. | .holdoverMaxExpiry t .. | .pllRelockDone t ..
  | .clkoutChangeApply t .. | .bootWatchdogExpiry t .. | .recoveryImageLengthWrite t .. | .bringUpStepDone t .. | .soffitMemoryTestDone t .. | .driftTagEnd t ..
  | .maskPass t .. | .filterChainOutput t .. | .auxSequenceStart t .. | .atrigEdge t .. | .auxEntryEnd t .. | .gustComplete t ..
  | .referenceSettleEnd t .. | .referenceSettleTimeout t .. | .comparatorLevelChange t .. | .spareDacSwitch t .. | .setpPulseEdge t .. | .rafterLawEvaluation t ..
  | .setpRecovered t .. | .feedbackSensorFault t .. | .sensorReadmission t .. | .sensorlessExit t .. | .sensorlessTrip t .. | .rtSyncLost t ..
  | .rideExit t .. | .rideTimeout t .. | .recoveryEnd t .. | .referenceOverrun t .. | .scheduleOverrun t .. | .armRecordArrival t ..
  | .loadAll t .. | .armRedundancyChange t .. | .resumeEdge t .. | .centreModeRecoveryEnd t .. | .returningFrame t .. | .validationMarker t ..
  | .bypassCloseTimeout t .. | .cellRestEnd t .. | .nodeAnswerMissed t .. | .prqReceived t .. | .bmsTransmitFrame t .. | .ctbSecond t ..
  | .meterBankWriteDone t .. | .observerRoundStart t .. | .observerRoundLate t .. | .tripInputChange t .. | .blankingWindowEnd t .. | .incomingSquall t ..
  | .squallHoldEnd t .. | .burstEnd t .. | .echoWindowEnd t .. | .multiWinElapsed t .. | .autoClearRequest t .. | .tripRemind t ..
  | .earthCurrentTrip t .. | .starPointTrip t .. | .gateAgeingPersist t .. | .safetyInputChange t .. | .sinDiscrepancy t .. | .sinPulseMissed t ..
  | .testPulseStart t .. | .testPulseEnd t .. | .soutReadbackMismatch t .. | .switchCheckDone t .. | .channelComparison t .. | .heartbeat t ..
  | .heartbeatTimeout t .. | .lockstepMismatch t .. | .channelDisagreementTimeout t .. | .sciDelayExpiry t .. | .sciConfirmExpiry t .. | .slpMonitor t ..
  | .safeRemind t .. | .safeChannelPdu t .. | .safeChannelWatchdogExpiry t .. | .mardalLaneDown t .. | .mardalLaneUp t .. | .beacon t ..
  | .lawCheckpoint t .. | .mardalArmRecord t .. | .battenInputs t .. | .scheduleCheck t .. | .streamBlock t .. | .statusBlock t ..
  | .observerBlock t .. | .meterBlock t .. | .digestBlock t .. | .battenStateBlock t .. | .timeProbe t .. | .twinDeadline t ..
  | .twinDecision t .. | .shadowExpired t .. | .healthToggle t .. | .arbGrantChange t .. | .twinRoleChange t .. | .breakerContactChange t ..
  | .breakerDebounceDone t .. | .breakerDiscrepancy t .. | .closePulseExpiry t .. | .closeMaxExpiry t .. | .bsDeadConfirmed t .. | .bsHoldoffEnd t ..
  | .bsBusBandChange t .. | .bsLiveConfirmed t .. | .bsConfirmTimeout t .. | .bsEnergiseTimeout t .. | .landTrimStep t .. | .landDwellComplete t ..
  | .landTimeout t .. | .landAbortHoldEnd t .. | .moveStart t .. | .segmentStart t .. | .moveEnd t .. | .enumDiscoverDone t ..
  | .enumPreloadDone t .. | .enumMatchEnd t .. | .chargeContactEnd t .. | .chargeCellTestEnd t .. | .preChargeDwellEnd t .. | .hostWatchdogExpiry t ..
  | .zephyrRound t .. | .zephyrRoundClose t .. | .ctbSourceReturn t .. | .anemometerDump t .. | .dumpWriteDone t .. | .counterWrap t ..
  | .scrubPass t .. | .recorderFrameWrite t .. | .triggerCondition t .. | .ethPortLinkChange t .. | .ethFrameReceived t .. | .safeChannelFrame t ..
  | .hsrForward t .. | .supervisionFrameSend t .. | .ptpSync t .. | .ptpFollowUp t .. | .ptpAnnounce t .. | .pdelayReq t ..
  | .domainSilent t .. | .errorReport t .. | .errorHandlingDone t .. | .handlerFault t .. | .commandDoorbell t .. | .commandFetch t ..
  | .cmdNop t .. | .cmdParamStage t .. | .cmdParamStageList t .. | .cmdParamStageDefaults t .. | .cmdParamDiscard t .. | .cmdParamCommit t ..
  | .commitCheckDone t .. | .commitApply t .. | .cmdParamRead t .. | .cmdParamPersist t .. | .cmdStateReq t .. | .cmdTrMove t ..
  | .cmdTrFlush t .. | .cmdTrTableLoad t .. | .cmdBlackStart t .. | .cmdLand t .. | .cmdLandAbort t .. | .cmdBrkClose t ..
  | .cmdBrkRearm t .. | .cmdFeedbackRearm t .. | .cmdCellBypass t .. | .cmdCellReturn t .. | .cmdPackRearm t .. | .cmdPackTenancy t ..
  | .cmdBmsTap t .. | .cmdBmsSend t .. | .cmdMeterSnapshot t .. | .snapshotSigned t .. | .cmdMeterAck t .. | .cmdNodeRead t ..
  | .cmdNodeWrite t .. | .cmdTripClear t .. | .cmdTripRearm t .. | .cmdTripForce t .. | .cmdGateBaseline t .. | .cmdSafeReset t ..
  | .cmdSafeRearm t .. | .cmdRecArm t .. | .cmdRecStop t .. | .cmdRecTrigger t .. | .cmdRecMaskStart t .. | .cmdEhLogRead t ..
  | .cmdEhAck t .. | .cmdEhLogClear t .. | .cmdFwRestart t .. | .cmdFwWrite t .. | .fwWriteDone t .. | .cmdFwCommit t ..
  | .cmdSecIdentity t .. | .cmdSecAttest t .. | .attestSigned t .. | .cmdDbgChallenge t .. | .cmdDbgUnlock t .. | .cmdDbgLock t ..
  | .cmdPmcDump t .. | .cmdPmcClear t .. | .cmdDriftRead t .. | .cmdHkRearm t .. | .channelEnableWrite t .. | .evqEnableWrite t ..
  | .evqHeadWrite t .. | .eventRecordWrite t .. | .evqIrqDelayExpiry t .. | .fenceWrite t .. | .fenceRead t .. | .hostWatchdogWrite t ..
  | .gustRequestWrite t .. | .packSelectWrite t .. | .gateSelectWrite t .. | .ctbNowRead t .. | .ctbCycRead t .. | .scTimeRead t ..
  | .scIncrementWrite t .. | .scApplySet t .. | .scApplyStep t .. | .pmcConfigWrite t .. | .dumpRingEnableWrite t .. | .counterPageLowRead t ..
  | .bar2Readout t .. | .misalignedAccess t .. | .registerWrite t .. | .paramPersistDone t .. | .msixVectorUnmask t .. | .managementUartRecovery t ..
  | .tpaTpbTestPulse t .. | .ringLaneLockChange t .. | .ringClosedTimeout t .. | .pdelayRespReceived t .. | .pdelayReqInterval t .. => t

/-! ## How many of each thing there are -/

/-- Four clock multipliers and two clock outputs (chapter 13). -/
abbrev Clk.Shaped (c : Clk) : Prop := c.plls.length = 4 ∧ c.outs.length = 2
/-- Eight command channels and 32 message vectors (chapter 11). -/
abbrev HostPort.Shaped (h : HostPort) : Prop := h.chans.length = 8 ∧ h.msix.length = 32
/-- Three arms and 384 cells (chapter 5). -/
abbrev Modu.Shaped (m : Modu) : Prop := m.arms.length = 3 ∧ m.cells.length = 384
/-- 384 packs (chapter 6). -/
abbrev Packs.Shaped (p : Packs) : Prop := p.packs.length = 384
/-- Two banks of the meter's store (chapter 6). -/
abbrev Meter.Shaped (m : Meter) : Prop := m.banks.length = 2
/-- Twelve rings and 384 nodes (chapter 7). -/
abbrev Link.Shaped (l : Link) : Prop := l.rings.length = 12 ∧ l.nodes.length = 384
/-- 48 trip sources, 16 trip inputs, twelve comparators that blanking may silence (chapter 8). -/
abbrev Prot.Shaped (p : Prot) : Prop := p.srcs.length = 48 ∧ p.tins.length = 16 ∧ p.blank.length = 12
/-- Four safety inputs with two pins each, six outputs, four functions (chapter 9). -/
abbrev Safety.Shaped (f : Safety) : Prop := f.ins.length = 4 ∧ f.pinsA.length = 4 ∧ f.pinsB.length = 4 ∧ f.outs.length = 6 ∧ f.fns.length = 4
/-- Three arms, 64 streams and two lanes between twins (chapter 10). -/
abbrev Twin.Shaped (w : Twin) : Prop := w.arms.length = 3 ∧ w.streams.length = 64 ∧ w.lanes.length = 2
/-- 64 streams, 16 converters, four reference groups, twelve comparators, four asynchronous triggers (chapter 2). -/
abbrev Meas.Shaped (m : Meas) : Prop := m.streams.length = 64 ∧ m.adcs.length = 16 ∧ m.groups.length = 4 ∧ m.cmps.length = 12 ∧ m.atrigLevel.length = 4
/-- Twelve feedback sensors (chapter 3). -/
abbrev Law.Shaped (l : Law) : Prop := l.sensors.length = 12
/-- Four masks (chapter 15). -/
abbrev Rec.Shaped (r : Rec) : Prop := r.masks.length = 4
/-- Seven counter blocks of sixteen counters (chapter 17). -/
abbrev Pmc.Shaped (p : Pmc) : Prop := p.ctrs.length = 7 ∧ ∀ l ∈ p.ctrs, l.length = 16
/-- Two ports, two station clocks, two peer delays; a best master for each clock and port (chapter 14). -/
abbrev Net.Shaped (n : Net) : Prop :=
  n.links.length = 2 ∧ n.ownBack.length = 2 ∧ n.clocks.length = 2 ∧ n.pdelay.length = 2 ∧ n.pdReq.length = 2 ∧ n.best.length = 2 ∧ ∀ l ∈ n.best, l.length = 2

/-- The device has as many of each thing as the spec gives it. -/
structure Device.Shaped (d : Device) : Prop where
  /-- Clocks. -/
  clk : d.clk.Shaped
  /-- Host port. -/
  host : d.host.Shaped
  /-- Two copies of the persisted parameters (chapter 11). -/
  parCopies : d.parCopies.length = 2
  /-- Two breakers (chapter 4). -/
  brk : d.grid.brk.length = 2
  /-- Modulation. -/
  modu : d.modu.Shaped
  /-- Packs. -/
  packs : d.packs.Shaped
  /-- Metering. -/
  meter : d.meter.Shaped
  /-- Cell links. -/
  link : d.link.Shaped
  /-- Protection. -/
  prot : d.prot.Shaped
  /-- Safety. -/
  safety : d.safety.Shaped
  /-- Twin operation. -/
  twin : d.twin.Shaped
  /-- Measurement. -/
  meas : d.meas.Shaped
  /-- The control law. -/
  law : d.law.Shaped
  /-- The recorder. -/
  recd : d.recd.Shaped
  /-- Performance counters. -/
  pmc : d.zep.pmc.Shaped
  /-- The network. -/
  net : d.net.Shaped

/-! ## What a command leaves behind -/

/-- The backlog takes n more events. -/
abbrev Device.roomFor (d : Device) (n : Nat) : Prop := (d.host.backlog.filter fun b => b.ev.isSome).length + n ≤ 255

/-- Among the events on their way to the queue is one of this name and payload, stamped with the present instant. -/
def Device.EventWaits (d : Device) (name : String) (payload : List Int) : Prop :=
  ∃ e, { ev := some e } ∈ d.host.backlog ∧ e.name = name ∧ e.payload = payload ∧ e.ctb = d.now

/-- Between device a and device b an event of this name and payload, stamped with the instant of b, has come up: it waits for the queue, or its record has been posted. -/
def Device.EventOut (a b : Device) (name : String) (payload : List Int) : Prop :=
  b.EventWaits name payload ∨
    ∃ before after w e, b.host.outbox = a.host.outbox ++ (before ++ w :: after) ∧ w.ev = some e ∧ e.name = name ∧ e.payload = payload ∧ e.ctb = b.now

/-- A command of this header can be completed: its channel is enabled, and no host-interface reset has discarded it. -/
abbrev Device.Answers (d : Device) (h : CmdHdr) : Prop :=
  d.host.discarding.contains h = false ∧ (d.host.chans.getD h.chan Channel.reset).enabled = true

/-- A command of this header is carried out now: it can be completed, and FENCE does not hold it back. -/
abbrev Device.Accepts (d : Device) (h : CmdHdr) : Prop := d.Answers h ∧ d.fenced h = false

/-- The arguments of a command are well-formed: no byte but those of the fields used is other than 0, and none of the listed fields (offset, out of bounds) is out of bounds (R327). -/
abbrev fits (a : Args) (used : List (Nat × Nat)) (bad : List (Nat × Bool)) : Prop := minOpt (firstStray a used) (firstBad bad) = none

/-- Between device a and device b the completion of a command has been posted to the host: its header, its status, its detail, its result, and the instant. -/
def Device.Completed (a b : Device) (h : CmdHdr) (e : Ending) : Prop :=
  ∃ before after w c, b.host.outbox = a.host.outbox ++ (before ++ w :: after) ∧ w.cpl = some c ∧
    c.hdr = h ∧ c.status = e.status ∧ c.detail = BitVec.ofNat 32 e.detail ∧ c.result = BitVec.ofNat 64 e.result ∧ c.ctb = b.now

/-- Between device a and device b vector v has been signalled: its message is posted, or it is pending where the vector is masked. -/
def Device.Signalled (a b : Device) (v : Nat) : Prop :=
  ∀ e, a.host.msix[v]? = some e →
    (e.masked = true → (b.host.msix.getD v MsixEntry.reset).pend = true) ∧
    (e.masked = false → ∃ before after, b.host.outbox = a.host.outbox ++ (before ++ { HostWrite.reset with kind := 3, addr := v } :: after))

/-- The error handler has nothing in handling, and neither a handler fault nor a fatal error has stopped it. -/
abbrev Eh.Idle (e : Eh) : Prop := e.handling = none ∧ e.queue = [] ∧ e.stopped = false ∧ e.fatal = false

/-- The error handler has taken an entry of this code and die, at class cls. -/
def Eh.Handles (e : Eh) (code die cls : Nat) : Prop := ∃ x, e.handling = some x ∧ x.code = code ∧ x.die = die ∧ x.cls = cls

end Sys2Proof.Machine
end

