-- ==== Sys2Proof/Certificates/Slice0/Obligations.lean ====
section
/-! DEFINITION. The statements for the provers. -/

open Sys2Proof Sys2Proof.Machine

/-- A step runs the command at the front of the queue with the queue's rest. For every command c, every rest of the queue and every state: a step with c in front is exec of c on the state whose queue is the rest. The queue is the model's own (log 1). -/
def Obligations.StepRunsTheCommandInFront : Prop :=
  ∀ (c : Instr) (rest : List Instr) (s : State), step { s with pending := c :: rest } = exec c { s with pending := rest }

/-- With no command waiting, a step is one tick of the timebase. The model's choice (log 7): on an empty queue, with no write to Soffit waiting, the timebase moves on by one tick, and no part of the device changes but what passes with time. -/
def Obligations.AnEmptyQueueLetsOneTickPass : Prop :=
  ∀ s : State, s.pending = [] → s.Quiet → Gives (step s) [] fun d => d.now = s.dev.now + 1 ∧ Only [] (s.dev.ready (s.dev.now + 1)) d

/-- The queue is first in, first out, and what waits in it changes no effect. For any commands waiting in front of any rest: as many steps as they are answer a state in which the rest waits, and whose device is that of running the same commands one after the other on an empty queue. The queue is the model's own (log 1). -/
def Obligations.CommandsRunInTheOrderOfTheirArrival : Prop :=
  ∀ (s : State) (cs rest : List Instr), ∃ t u : State,
    Host.Core.run Sys2Proof.core cs.length { s with pending := cs ++ rest } = .next t ∧ t.pending = rest ∧
      execAll cs { s with pending := [] } = .next u ∧ u.dev = t.dev

/-- Every command answers a next state, the queue as it stands, no write left waiting. For every command and every state: exec answers a next state, never a fault or a refusal; the queue is unchanged; every write posted to Soffit has been carried out. -/
def Obligations.EveryCommandAnswersANextState : Prop :=
  ∀ (c : Instr) (s : State), Gives (exec c s) s.pending fun d => d.recd.posted = [] ∧ d.recd.wiped = false

/-- Frame of every command: only the listed parts of the device change. For every command, from every state in which no write to Soffit waits: beside the passage of time to the command's instant, the device after it differs from the device before only in the parts that `touches` lists for that command. A part that is not listed stands whole: registers, memory, counters, flags. -/
def Obligations.FrameOfEveryCommand : Prop :=
  ∀ (c : Instr) (s s' : State), s.Quiet → exec c s = .next s' → Only (touches c) (s.dev.ready (instant c s)) s'.dev

/-- The invariants hold at reset. At reset Soffit is in its canonical form, no write waits, and the device has as many of each thing as the spec gives it. -/
def Obligations.ResetMeetsTheInvariants : Prop :=
  Memory.wf State.reset.dev.recd.mem = true ∧ State.reset.Quiet ∧ State.reset.dev.Shaped

/-- Every step keeps Soffit in its canonical form and leaves no write waiting. From every state whose Soffit is canonical (addresses strictly rising, no cell at the value an unlisted address reads as), a step that answers a next state leaves Soffit canonical and no write waiting. -/
def Obligations.EveryStepKeepsSoffitCanonical : Prop :=
  ∀ s s' : State, Memory.wf s.dev.recd.mem = true → step s = .next s' → Memory.wf s'.dev.recd.mem = true ∧ s'.Quiet

/-- Every step keeps the number of cells, packs, arms, rings, sources, channels and the rest. From every state in which the device has as many of each thing as the spec gives it (384 cells, three arms, 48 trip sources, eight channels, and so on), a step that answers a next state leaves it so. -/
def Obligations.EveryStepKeepsTheCountsOfThings : Prop :=
  ∀ s s' : State, s.dev.Shaped → step s = .next s' → s'.dev.Shaped

/-- Blocked arms stay blocked, but for a device reset and a resume edge that has come. For every command and every state with the arms blocked: after it the arms are blocked, unless the command resets the device (six commands) or is the RESUME_EDGE at an edge that was set and whose instant has come. -/
def Obligations.OnlyAResumeEdgeOrAResetUnblocksTheArms : Prop :=
  ∀ (c : Instr) (s s' : State), s.dev.prot.blocked = true → exec c s = .next s' →
    (∀ t p i e b, c ≠ .deviceReset t p i e b) → (∀ t r, c ≠ .railSupervisorUndervoltage t r) → (∀ t b i e x, c ≠ .railSupervisorRelease t b i e x) →
    (∀ t, c ≠ .bootWatchdogExpiry t) → (∀ t n, c ≠ .recoveryImageLengthWrite t n) → (∀ t b, c ≠ .managementUartRecovery t b) →
    s'.dev.prot.blocked = true ∨ ∃ t e, c = .resumeEdge t ∧ s.dev.prot.resumeEdge = some e ∧ e ≤ max t s.dev.now

/-- The boot straps are sampled at a device reset alone, and give the boot source of Table 12-2. At a device reset the straps take the pins' levels; code 0 boots an image slot that passes, 1 slot A only (a slot booted is one that passes), 2 leads to recovery over PCI Express, 3 to recovery over the UART; where no slot boots the ROM is in recovery. No other command than the two that release a device reset changes the strap code. In recovery over PCI Express the write of the length boots an image of the window that passes; over the UART an image received that passes is booted. -/
def Obligations.BootSourceIsSampledAtDeviceReset : Prop :=
  (∀ (s : State) (t : Tick) (power twinId twinEn : Bool) (sel : BitVec 2), (power = true ∨ s.dev.conv.devReset = false) →
      Gives (exec (.deviceReset t power twinId twinEn sel) s) s.pending fun d => d.straps.bootSel = sel ∧
        (sel = 0 → d.conv.recovery = none → d.conv.booted = true ∧ s.dev.sec.slotPasses (s.dev.slot (if d.conv.bootSlot then 1 else 0)) = true) ∧
        (sel = 1 → d.conv.recovery = none → d.conv.booted = true ∧ d.conv.bootSlot = false ∧ s.dev.sec.slotPasses (s.dev.slot 0) = true) ∧
        (sel = 0 → d.conv.recovery ≠ none → s.dev.sec.slotPasses (s.dev.slot 0) = false ∧ s.dev.sec.slotPasses (s.dev.slot 1) = false) ∧
        (sel = 1 → d.conv.recovery ≠ none → s.dev.sec.slotPasses (s.dev.slot 0) = false) ∧
        (sel = 2 → d.conv.recovery = some 0 ∧ d.conv.booted = false) ∧ (sel = 3 → d.conv.recovery = some 1 ∧ d.conv.booted = false)) ∧
    (∀ (c : Instr) (s s' : State), exec c s = .next s' → (∀ t p i e b, c ≠ .deviceReset t p i e b) → (∀ t i e b, c ≠ .railSupervisorRelease t false i e b) →
      s'.dev.straps.bootSel = s.dev.straps.bootSel) ∧
    (∀ (s : State) (t : Tick) (len : BitVec 32), s.dev.conv.recovery = some 0 → len ≠ 0 → len.toNat ≤ 12 * 2 ^ 20 →
      Gives (exec (.recoveryImageLengthWrite t len) s) s.pending fun d =>
        if imageCheck s.dev.sec.revoked s.dev.sec.rbc (s.dev.soffit (2 ^ 20) len.toNat) = 0 then d.conv.booted = true ∧ d.conv.recovery = none ∧ d.sec.recImage = true
        else d.conv = s.dev.conv) ∧
    (∀ (s : State) (t : Tick) (image : List (BitVec 8)), s.dev.conv.recovery = some 1 →
      Gives (exec (.managementUartRecovery t image) s) s.pending fun d =>
        if imageCheck s.dev.sec.revoked s.dev.sec.rbc image = 0 then d.conv.booted = true ∧ d.conv.recovery = none ∧ d.sec.recImage = true else d.conv = s.dev.conv)

/-- Table 4-3: the breaker's position from its debounced contacts, and FAULTY. a = 1, b = 0 is CLOSED (1); a = 0, b = 1 is OPEN (0); equal contacts are TRAVEL (2); OPEN alone counts as open. When a debounced contact makes the pair equal, TRAVEL begins at that instant; after TRAVEL for more than brk[b].disc_time, or after chatter on either contact (its level past the filter of prot.brk_filt), the position is FAULTY (3) whatever the pair. -/
def Obligations.BreakerPositionFollowsItsContacts : Prop :=
  (∀ x : Breaker, x.faulty = false → (x.a.deb = some true → x.b.deb = some false → x.position = 1) ∧ (x.a.deb = some false → x.b.deb = some true → x.position = 0) ∧
      ∀ v, x.a.deb = some v → x.b.deb = some v → x.position = 2) ∧
    (∀ x : Breaker, x.faulty = true → x.position = 3) ∧
    (∀ d : Device, d.mbOpen = true ↔ (d.brkAt 0).position = 0) ∧
    (∀ (s : State) (t : Tick) (b c : Fin 2), ((s.dev.brkAt b).contact c).deb ≠ some ((s.dev.brkAt b).contact c).filt →
      (s.dev.ready t).past (((s.dev.brkAt b).contact c).filtFrom.getD 0) (msT (Par.brkDebounce s.dev.P b)) = true →
      b.val < s.dev.grid.brk.length → ((s.dev.brkAt b).contact (1 - c.val)).deb = some ((s.dev.brkAt b).contact c).filt → (s.dev.brkAt b).travelFrom = none →
      Gives (exec (.breakerDebounceDone t b c) s) s.pending fun d => (d.brkAt b).travelFrom = some d.now ∧ (d.brkAt b).a.deb = (d.brkAt b).b.deb) ∧
    (∀ (s : State) (t : Tick) (b : Fin 2) (f : Tick), (s.dev.brkAt b).travelFrom = some f → b.val < s.dev.grid.brk.length →
      (s.dev.ready t).pastBeyond f (msT (Par.brkDiscTime s.dev.P b)) = true →
      Gives (exec (.breakerDiscrepancy t b) s) s.pending fun d => (d.brkAt b).position = 3) ∧
    (∀ (s : State) (t : Tick) (b c : Fin 2) (level : Bool × Nat), ((s.dev.brkAt b).contact c).filt ≠ level.1 → Par.protBrkFilt s.dev.P ≤ level.2 → b.val < s.dev.grid.brk.length →
      chatters (noteTransition ((s.dev.brkAt b).contact c).trans (max t s.dev.now) (Par.brkChatterN s.dev.P b)) (Par.brkChatterN s.dev.P b) (msT (Par.brkChatterWin s.dev.P b)) = true →
      Gives (exec (.breakerContactChange t b c level) s) s.pending fun d => (d.brkAt b).position = 3)

/-- CMD_TRIP_CLEAR, CMD_TRIP_REARM, CMD_TRIP_FORCE and CMD_GATE_BASELINE are accepted in every state. Whatever the converter state and the rest of the device: started with a header whose completion can be written and with arguments that fit their layout, CMD_TRIP_CLEAR and CMD_TRIP_REARM complete with OK, or with REFUSED where a named source or input cannot be cleared; CMD_TRIP_FORCE and CMD_GATE_BASELINE complete with OK. None completes with STATE or ROLE. -/
def Obligations.TripCommandsAreAcceptedInEveryState : Prop :=
  ∀ (s : State) (t : Tick) (h : CmdHdr) (a : Args), s.dev.Accepts h →
    (fits a [(8, 6)] [] → Gives (exec (.cmdTripClear t h a) s) s.pending fun d => ∃ e, Device.Completed s.dev d h e ∧ (e = .ok 0 ∨ ∃ m, e = .refusedMask m)) ∧
    (fits a [(8, 2)] [] → Gives (exec (.cmdTripRearm t h a) s) s.pending fun d => ∃ e, Device.Completed s.dev d h e ∧ (e = .ok 0 ∨ ∃ m, e = .refusedMask m)) ∧
    (fits a [] [] → Gives (exec (.cmdTripForce t h a) s) s.pending fun d => Device.Completed s.dev d h (.ok 0)) ∧
    (fits a [(8, 2)] [(8, decide (384 ≤ arg a 8 2) && arg a 8 2 != 0xFFFF)] → Gives (exec (.cmdGateBaseline t h a) s) s.pending fun d => Device.Completed s.dev d h (.ok 0))

/-- CMD_SAFE_RESET, and CMD_SAFE_REARM for inputs, in every state; CMD_SAFE_REARM for outputs in MAINT alone. Whatever the state, with a header whose completion can be written and arguments that fit: CMD_SAFE_RESET completes with OK or REFUSED; CMD_SAFE_REARM for inputs with OK or a REFUSED that names inputs; for outputs it does so in MAINT, and completes with STATE in every other state, changing no safety state. -/
def Obligations.SafetyCommandsAreAcceptedInEveryState : Prop :=
  ∀ (s : State) (t : Tick) (h : CmdHdr) (a : Args), s.dev.Accepts h →
    (fits a [] [] → Gives (exec (.cmdSafeReset t h a) s) s.pending fun d => ∃ e, Device.Completed s.dev d h e ∧ (e = .ok 0 ∨ ∃ n, e = .refused n)) ∧
    (fits a [(8, 1), (9, 1)] [(8, decide (2 ≤ arg a 8 1)), (9, decide (2 ^ (if arg a 8 1 = 1 then 6 else 4) ≤ arg a 9 1))] →
      Gives (exec (.cmdSafeRearm t h a) s) s.pending fun d =>
        (arg a 8 1 ≠ 1 ∨ s.dev.conv.state = stMaint → ∃ e, Device.Completed s.dev d h e ∧ (e = .ok 0 ∨ ∃ m, e = .refusedMask m)) ∧
        (arg a 8 1 = 1 → s.dev.conv.state ≠ stMaint → Device.Completed s.dev d h s.dev.stateEnd ∧ d.safety = s.dev.safety))

/-- The recorder commands are accepted in every converter state and on both twins. Whatever the converter state and the role, with a header whose completion can be written and arguments that fit: CMD_REC_ARM completes with OK, BUSY or REFUSED, in UNAVAILABLE with BUSY until the memory test ends and with REFUSED after a Soffit failure; CMD_REC_STOP and CMD_REC_TRIGGER complete with OK; CMD_REC_MASK_START with OK, or REFUSED when the mask is off. -/
def Obligations.RecorderCommandsAreAcceptedInEveryState : Prop :=
  ∀ (s : State) (t : Tick) (h : CmdHdr) (a : Args), s.dev.Accepts h →
    (fits a [] [] → Gives (exec (.cmdRecArm t h a) s) s.pending fun d =>
      (s.dev.recd.state = 4 → s.dev.recd.failed = false → Device.Completed s.dev d h .busy) ∧
      (s.dev.recd.state = 4 → s.dev.recd.failed = true → Device.Completed s.dev d h (.refused 1)) ∧
      (s.dev.recd.state ≠ 4 → s.dev.capturing = true → Device.Completed s.dev d h .busy) ∧
      (s.dev.recd.state ≠ 4 → s.dev.capturing = false → Device.Completed s.dev d h (.ok (d.recd.p + 2 ^ 32 * d.recd.q)))) ∧
    (fits a [(8, 1)] [(8, decide (1 < arg a 8 1))] → Gives (exec (.cmdRecStop t h a) s) s.pending fun d => ∃ n, Device.Completed s.dev d h (.ok n)) ∧
    (fits a [] [] → Gives (exec (.cmdRecTrigger t h a) s) s.pending fun d => ∃ n, Device.Completed s.dev d h (.ok n)) ∧
    (fits a [(8, 1)] [(8, decide (3 < arg a 8 1))] → Gives (exec (.cmdRecMaskStart t h a) s) s.pending fun d =>
      Device.Completed s.dev d h (if Par.recMaskEnable s.dev.P (arg a 8 1) then .ok 0 else .refused 1))

/-- The Standby of a twin pair rejects with ROLE the commands that act on the converter. On the Standby, with a header whose completion can be written and arguments that fit: CMD_BLACK_START, CMD_LAND, CMD_LAND_ABORT, CMD_TR_MOVE, CMD_TR_FLUSH, CMD_BRK_CLOSE and CMD_METER_SNAPSHOT complete with ROLE and change nothing but the mailbox and what is posted to the host. -/
def Obligations.StandbyRejectsCommandsThatActOnTheConverter : Prop :=
  ∀ (s : State) (t : Tick) (h : CmdHdr) (a : Args) (mem : Option (List (BitVec 8))), s.dev.Accepts h → s.dev.standby = true → s.Quiet →
    ∀ c, (c = .cmdBlackStart t h a ∧ fits a [] []) ∨ (c = .cmdLand t h a ∧ fits a [] []) ∨ (c = .cmdLandAbort t h a ∧ fits a [] []) ∨
      (c = .cmdTrMove t h a mem ∧ fits a [(8, 1), (9, 1), (10, 1), (12, 2), (16, 8), (24, 8)]
        [(8, decide (2 ≤ arg a 8 1)), (9, decide (2 ≤ arg a 9 1)), (10, decide (2 ≤ arg a 10 1)), (12, arg a 12 2 == 0 || decide (256 < arg a 12 2))]) ∨
      (c = .cmdTrFlush t h a ∧ fits a [] []) ∨ (c = .cmdBrkClose t h a ∧ fits a [(8, 1)] [(8, decide (2 ≤ arg a 8 1))]) ∨
      (c = .cmdMeterSnapshot t h a ∧ fits a [(8, 8), (16, 4), (20, 2), (22, 2), (24, 16)]
        [(16, decide (arg a 16 4 < 64 + 80 * arg a 22 2 + 1284)), (20, decide (384 < arg a 20 2 + arg a 22 2)), (22, arg a 22 2 == 0 || decide (384 < arg a 22 2))]) →
      Gives (exec c s) s.pending fun d => Device.Completed s.dev d h .role ∧ Only Region.answer (s.dev.ready t) d

/-- A mailbox command with a stray byte or a field out of bounds is MALFORMED and has no effect. For every mailbox command (all run through cmdIf), with a header whose completion can be written: the lowest offset of a non-zero byte outside the fields used, or of a field out of its bounds, completes it with MALFORMED and that offset, and only the mailbox and what is posted to the host changes; a start that its fence does not yet allow changes nothing. -/
def Obligations.AStrayByteMakesACommandMalformed : Prop :=
  ∀ (d : Device) (h : CmdHdr) (a : Args) (used : List (Nat × Nat)) (bad : Option Nat) (body : Device → Device × Option Ending),
    (d.fenced h = true → d.cmdIf h a used bad body = d) ∧
    (∀ k, d.Accepts h → minOpt (firstStray a used) bad = some k →
      Device.Completed d (d.cmdIf h a used bad body) h (.malformed k) ∧ Only Region.answer d (d.cmdIf h a used bad body))

/-- Two canonical memories that read alike at every address are equal. The canonical form of Soffit is one: two memories in it whose bytes agree at every address are the same list. -/
def Obligations.EqualReadsMakeEqualMemories : Prop :=
  ∀ m n : List Host.Cell, Memory.wf m = true → Memory.wf n = true → (∀ a, memGet m a = memGet n a) → m = n

/-- Bytes written to Soffit read back, and every other byte stands. In a canonical memory, after bytes are written from an address on (the addresses wrap at 2 GiB, and there are no more bytes than addresses), each address written reads the byte written there, every other address reads as before, and the memory is canonical. -/
def Obligations.SoffitWritesReadBack : Prop :=
  ∀ (m : List Host.Cell) (a : Nat) (l : List (BitVec 8)), Memory.wf m = true → l.length ≤ 2 ^ 31 →
    (∀ i b, l[i]? = some b → memGet (memWrite m a l) ((a + i) % 2 ^ 31) = b) ∧
    (∀ x, (∀ i, i < l.length → x ≠ (a + i) % 2 ^ 31) → memGet (memWrite m a l) x = memGet m x) ∧ Memory.wf (memWrite m a l) = true

/-- In recovery over PCI Express a word written into the window stands in Soffit, and nothing else changes. With the ROM in recovery over PCI Express and Soffit canonical: a register write at 0x0050_0000 to 0x014F_FFF8 stores its four bytes, least significant first, at the window's place from segment 1 on; every other byte of Soffit reads as before, and no other part of the device changes. -/
def Obligations.RecoveryWindowWriteStoresItsFourBytes : Prop :=
  ∀ (s : State) (t : Tick) (off : BitVec 26) (v : BitVec 32), s.Quiet → Memory.wf s.dev.recd.mem = true → s.dev.conv.recovery = some 0 →
    0x500000 ≤ off.toNat → off.toNat < 0x14FFFFC →
    Gives (exec (.registerWrite t off v) s) s.pending fun d => d.soffit (2 ^ 20 + (off.toNat - 0x500000)) 4 = leBytes 4 v.toNat ∧
      (∀ x, (x < 2 ^ 20 + (off.toNat - 0x500000) ∨ 2 ^ 20 + (off.toNat - 0x500000) + 4 ≤ x) → memGet d.recd.mem x = memGet s.dev.recd.mem x) ∧
      Only [.soffit] (s.dev.ready t) d

/-- A frame written by the recorder stands in its slot, and no other byte of Soffit changes. While capturing, the oldest frame two cycles old, no record open and none that capture overwrites, Soffit canonical: RECORDER_FRAME_WRITE stores the frame's bytes at the slot of the write position (R411), and every address outside them reads as before. -/
def Obligations.RecorderFrameWriteStoresItsSlotAlone : Prop :=
  ∀ (s : State) (t : Tick) (f : RecFrame) (rest : List RecFrame), s.Quiet → Memory.wf s.dev.recd.mem = true → s.dev.capturing = true → s.dev.recd.frames = f :: rest →
    f.k + 2 ≤ s.dev.cycle.k → s.dev.recd.cur = none → s.dev.recd.past = [] → ((s.dev.ready t).frameBytes f false).length ≤ 2 ^ 31 →
    Gives (exec (.recorderFrameWrite t false) s) s.pending fun d =>
      (∀ i b, ((s.dev.ready t).frameBytes f false)[i]? = some b → memGet d.recd.mem ((frameAddr s.dev.recd.fInForce s.dev.recd.wrJ + i) % 2 ^ 31) = b) ∧
      ∀ x, (∀ i, i < ((s.dev.ready t).frameBytes f false).length → x ≠ (frameAddr s.dev.recd.fInForce s.dev.recd.wrJ + i) % 2 ^ 31) →
        memGet d.recd.mem x = memGet s.dev.recd.mem x

/-- The anti-rollback counter never falls and never passes 65,535; revoked keys and a disabled debug port stay so. For every command and every state whose anti-rollback counter is at most 65,535: after it the counter is no lower and at most 65,535, every revoked key is still revoked, and a debug port once disabled is disabled. -/
def Obligations.SecurityStateIsNeverGivenBack : Prop :=
  ∀ (c : Instr) (s s' : State), exec c s = .next s' → s.dev.sec.rbc ≤ 65535 →
    s.dev.sec.rbc ≤ s'.dev.sec.rbc ∧ s'.dev.sec.rbc ≤ 65535 ∧ s.dev.sec.revoked &&& s'.dev.sec.revoked = s.dev.sec.revoked ∧
      (s.dev.sec.disabled = true → s'.dev.sec.disabled = true)

/-- What reset leaves: OFF, every channel and the event queue off, every safety function latched. At reset the converter is in OFF and not yet brought up; every command channel and the event queue are disabled; every safety function is latched and a reset required; no trip source is latched; the recorder is UNAVAILABLE; the debug port is locked; no parameter is staged. The queue of commands is empty (log 1). -/
def Obligations.ResetLeavesWhatTheSpecStates : Prop :=
  State.reset.pending = [] ∧ State.reset.dev.conv.state = stOff ∧ State.reset.dev.conv.up = false ∧
    (∀ c ∈ State.reset.dev.host.chans, c.enabled = false) ∧ State.reset.dev.host.evqOn = false ∧
    State.reset.dev.safety.fns = [true, true, true, true] ∧ State.reset.dev.safety.resetRequired = true ∧
    (∀ x ∈ State.reset.dev.prot.srcs, x.latch = 0) ∧ State.reset.dev.recd.state = 4 ∧ State.reset.dev.sec.debug = 0 ∧ State.reset.dev.par.staged = []

/-- Resets, boot, recovery, rail supervision and bring-up complete with their effect. DEVICE_RESET: the straps take the pin levels; channels, measurement, links and Soffit stand at reset; parameter copies, gate store, image slots and Bailsil's latches are kept; a reset that a supervisor holds goes on and nothing boots; otherwise straps 2 and 3 lead to recovery over PCI Express and over the UART. BAILSIL_RESET: every function latched, a reset required, no safe hold. HOST_INTERFACE_RESET: every channel and the event queue are off; the completions of commands in flight are to be discarded. BOOT_WATCHDOG_EXPIRY 2 s after a boot that has not reached OFF: the channels stand at reset and the expiry is counted; the first one since power-on boots the other slot, where it passes and the straps select either slot; any other goes to recovery over PCI Express. RECOVERY_IMAGE_LENGTH_WRITE in recovery over PCI Express with a length of 1 to 12 MiB: an image in the window that passes every check boots, another leaves the ROM as it was. MANAGEMENT_UART_RECOVERY in recovery over the UART: the same for the image received. RAIL_SUPERVISOR_UNDERVOLTAGE: the rail is noted low; a core rail holds a device reset, which on entry leaves nothing booted and the host channels at reset; VDD_BSL holds a Bailsil reset, which on entry latches every function; AVDD5 declares REF_FAULT on every group. RAIL_SUPERVISOR_RELEASE: Bailsil starts with every function latched, or the device reads its straps and its reset is released. BRING_UP_STEP_DONE of a booted device, the first step with every PLL locked: the step advances; every die of the step that did not fail is up; after step 1 the heartbeats run, after step 5 the store has been read, and step 6 enters OFF with the firmware running. -/
def Obligations.ResetsAndBootCompleteWithTheirEffect : Prop :=
  (∀ (s : State) (t : Tick) (power twinId twinEn : Bool) (bootSel : BitVec 2), Gives (exec (.deviceReset t power twinId twinEn bootSel) s) s.pending fun d =>
        d.straps = { twinId := twinId, twinEn := twinEn, bootSel := bootSel } ∧ d.conv.up = false ∧ d.host.chans = HostPort.reset.chans ∧ d.recd.mem = [] ∧ d.meas = Meas.reset ∧ d.link = Link.reset ∧ d.parCopies = s.dev.parCopies ∧ d.prot.gateStore = s.dev.prot.gateStore ∧ d.sec.slots = s.dev.sec.slots ∧ d.safety.fns = s.dev.safety.fns ∧
  (power = false → s.dev.conv.devReset = true → d.conv.devReset = true ∧ d.conv.booted = false) ∧
  (power = true ∨ s.dev.conv.devReset = false → d.conv.devReset = false ∧ (bootSel = 2 → d.conv.recovery = some 0) ∧ (bootSel = 3 → d.conv.recovery = some 1))) ∧
  (∀ (s : State) (t : Tick), Gives (exec (.bailsilReset t) s) s.pending fun d =>
        d.safety.fns = [true, true, true, true] ∧ d.safety.resetRequired = true ∧ d.safety.safeHold = false ∧ d.safety.inReset = false ∧ d.safety.tests = 0) ∧
  (∀ (s : State) (t : Tick), Gives (exec (.hostInterfaceReset t) s) s.pending fun d =>
        (∀ c, c ∈ d.host.chans → c.enabled = false) ∧ d.host.evqOn = false ∧ d.host.discarding = s.dev.host.discarding ++ s.dev.host.outstanding) ∧
  (∀ (s : State) (t : Tick), s.dev.conv.booted = true →
      s.dev.conv.up = false →
      s.dev.conv.devReset = false →
      (s.dev.ready t).past s.dev.conv.bootAt (sT 2) = true →
      Gives (exec (.bootWatchdogExpiry t) s) s.pending fun d =>
        d.conv.bootFalls = s.dev.conv.bootFalls + 1 ∧ d.host.chans = HostPort.reset.chans ∧
  if s.dev.conv.bootFalls = 0 ∧ s.dev.straps.bootSel = 0 ∧ s.dev.sec.slotPasses (s.dev.slot (if s.dev.conv.bootSlot then 0 else 1)) = true then
    d.conv.booted = true ∧ d.conv.bootSlot = !s.dev.conv.bootSlot ∧ d.conv.fallbackTaken = true ∧ d.sec.fallImage = true
  else d.conv.recovery = some 0 ∧ d.conv.booted = false) ∧
  (∀ (s : State) (t : Tick) (len : BitVec 32), s.dev.conv.recovery = some 0 →
      len ≠ 0 →
      len.toNat ≤ 12 * 2 ^ 20 →
      Gives (exec (.recoveryImageLengthWrite t len) s) s.pending fun d =>
        if imageCheck s.dev.sec.revoked s.dev.sec.rbc (s.dev.soffit (2 ^ 20) len.toNat) = 0 then
  d.conv.booted = true ∧ d.conv.recovery = none ∧ d.sec.recImage = true else d.conv = s.dev.conv ∧ d.sec = s.dev.sec) ∧
  (∀ (s : State) (t : Tick) (image : List (BitVec 8)), s.dev.conv.recovery = some 1 →
      Gives (exec (.managementUartRecovery t image) s) s.pending fun d =>
        if imageCheck s.dev.sec.revoked s.dev.sec.rbc image = 0 then
  d.conv.booted = true ∧ d.conv.recovery = none ∧ d.sec.recImage = true else d.conv = s.dev.conv ∧ d.sec = s.dev.sec) ∧
  (∀ (s : State) (t : Tick) (rail : Fin 8), s.dev.meas.groups.length = 4 →
      Gives (exec (.railSupervisorUndervoltage t rail) s) s.pending fun d =>
        (rail.val = 7 → ∀ g < 4, (d.grp g).fault = true) ∧
  (rail.val ≠ 7 → d.rails.low = upd s.dev.rails.low rail.val (fun _ => true)) ∧
  (rail.val = 4 → d.conv.bslReset = true ∧ (s.dev.conv.bslReset = false → d.safety.fns = [true, true, true, true] ∧ d.safety.resetRequired = true)) ∧
  (rail.val ≠ 4 → rail.val ≠ 7 → d.conv.devReset = true ∧ (s.dev.conv.devReset = false → d.conv.booted = false ∧ d.host.chans = HostPort.reset.chans))) ∧
  (∀ (s : State) (t : Tick) (bsl twinId twinEn : Bool) (bootSel : BitVec 2), (if bsl = true then s.dev.conv.bslReset = true else s.dev.conv.devReset = true) →
      Gives (exec (.railSupervisorRelease t bsl twinId twinEn bootSel) s) s.pending fun d =>
        if bsl = true then d.conv.bslReset = false ∧ d.safety.fns = [true, true, true, true] ∧ d.safety.resetRequired = true
  else d.conv.devReset = false ∧ d.straps = { twinId := twinId, twinEn := twinEn, bootSel := bootSel }) ∧
  (∀ (s : State) (t : Tick) (fail test : BitVec 8), s.dev.conv.booted = true →
      s.dev.conv.up = false →
      s.dev.conv.devReset = false →
      (s.dev.conv.upStep = 0 → s.dev.clk.plls.all Pll.locked = true) →
      Gives (exec (.bringUpStepDone t fail test) s) s.pending fun d =>
        d.conv.upStep = s.dev.conv.upStep + 1 ∧ (∀ die ∈ stepDies s.dev.conv.upStep, fail.getLsbD die = false → d.conv.dies.getLsbD die = true) ∧
  (s.dev.conv.upStep = 1 → d.safety.hbOn = true) ∧ (s.dev.conv.upStep = 5 → d.sec.storeRead = true) ∧
  (s.dev.conv.upStep = 6 → d.conv.up = true ∧ d.conv.state = stOff ∧ d.host.fwRunning = true))

/-- Reference, lock, holdover and clock-output events complete with their effect. REFERENCE_DETECTION, once per device reset: the path of the measured frequency is selected. PLL_LOCK of a PLL that is not relocking: it is locked and out of bypass, but for CTB outputs that were lost; the first lock of the CTB PLL sets the CTB to 0. PLL_LOSS_OF_LOCK: bypass, the loss counted, CTB outputs gone for good, and the loss reported to an idle handler. REFERENCE_LOST: holdover begins at the instant, is counted, and EV_REF_LOST is raised. REFERENCE_RESTORED within the limit: the reference is back, EV_REF_RESTORED is raised, and holdover ends with every PLL locked and goes on otherwise. HOLDOVER_MAX_EXPIRY: a clock error is reported and holdover goes on. PLL_RELOCK_DONE: the SYS PLL is locked again and the margin is in force. CLKOUT_CHANGE_APPLY at its edge: the output takes its new enable, divider and delay. CTB_SOURCE_RETURN after 60 s: the committed source takes the CTB back, and EV_CTB_SOURCE_SWITCH says so. -/
def Obligations.ReferenceLockAndHoldoverCommandsComplete : Prop :=
  (∀ (s : State) (t : Tick) (mhz : Rat), s.dev.clk.detected = false →
      s.dev.conv.devReset = false →
      Gives (exec (.referenceDetection t mhz) s) s.pending fun d =>
        d.clk.detected = true ∧ d.clk.path = refPath mhz) ∧
  (∀ (s : State) (t : Tick) (pll : Fin 4), s.dev.clk.path.isSome = true →
      (s.dev.pll pll).locked = false →
      (s.dev.pll pll).relock = none →
      pll.val < s.dev.clk.plls.length →
      Gives (exec (.pllLock t pll) s) s.pending fun d =>
        (d.pll pll).locked = true ∧ (d.pll pll).bypass = (s.dev.pll pll).dead ∧ (pll.val = 1 → s.dev.clk.ctbOn = false → d.now = 0 ∧ d.cycle.k = 0 ∧ d.clk.ctbOn = true)) ∧
  (∀ (s : State) (t : Tick) (pll : Fin 4), (s.dev.pll pll).locked = true →
      pll.val < s.dev.clk.plls.length →
      s.dev.eh.Idle →
      Gives (exec (.pllLossOfLock t pll) s) s.pending fun d =>
        (d.pll pll).locked = false ∧ (d.pll pll).bypass = true ∧ (d.pll pll).lol = inc8 (s.dev.pll pll).lol ∧ (pll.val = 1 → (d.pll pll).dead = true) ∧ d.eh.Handles (lockError pll).1 (lockError pll).2.1 (s.dev.codeClass (lockError pll).1)) ∧
  (∀ (s : State) (t : Tick), s.dev.clk.refLost = false →
      s.dev.clk.path.isSome = true →
      (s.dev.ready t).backlogFull = false →
      Gives (exec (.referenceLost t) s) s.pending fun d =>
        d.clk.refLost = true ∧ d.clk.holdover = true ∧ d.clk.holdFrom = max t s.dev.now ∧ d.clk.holdCnt = inc16 s.dev.clk.holdCnt ∧ d.EventWaits "EV_REF_LOST" []) ∧
  (∀ (s : State) (t : Tick), s.dev.clk.refLost = true →
      s.dev.clk.holdReported = false →
      (s.dev.ready t).pastBeyond s.dev.clk.holdFrom (sT (Par.clkHoldoverMax s.dev.P)) = false →
      (s.dev.ready t).backlogFull = false →
      Gives (exec (.referenceRestored t) s) s.pending fun d =>
        d.clk.refLost = false ∧ d.EventWaits "EV_REF_RESTORED" [] ∧ (s.dev.clk.plls.all Pll.locked = true → d.clk.holdover = false) ∧ (s.dev.clk.plls.all Pll.locked = false → d.clk.holdover = s.dev.clk.holdover)) ∧
  (∀ (s : State) (t : Tick), s.dev.clk.refLost = true →
      s.dev.clk.holdReported = false →
      (s.dev.ready t).past s.dev.clk.holdFrom (sT (Par.clkHoldoverMax s.dev.P)) = true →
      s.dev.eh.Idle →
      Gives (exec (.holdoverMaxExpiry t) s) s.pending fun d =>
        d.clk.holdReported = true ∧ d.clk.refLost = true ∧ d.eh.Handles 0x0064 2 (s.dev.codeClass 0x0064)) ∧
  (∀ (s : State) (t : Tick), (s.dev.pll 0).relock.isSome = true →
      0 < s.dev.clk.plls.length →
      Gives (exec (.pllRelockDone t) s) s.pending fun d =>
        (d.pll 0).locked = true ∧ (d.pll 0).relock = none ∧ d.clk.margin = s.dev.clk.marginNext ∧ d.clk.marginBusy = false) ∧
  (∀ (s : State) (t : Tick) (o : Fin 2) (n : Bool × Nat × Nat), o.val < s.dev.clk.outs.length →
      (s.dev.clk.outs.getD o ClkOut.reset).change = some n →
      (s.dev.clk.outs.getD o ClkOut.reset).oldEdge n / 6 ≤ s.dev.now →
      Gives (exec (.clkoutChangeApply t o) s) s.pending fun d =>
        (let c := d.clk.outs.getD o ClkOut.reset; c.enable = n.1 ∧ c.div = n.2.1 ∧ c.delay = n.2.2 ∧ c.change = none)) ∧
  (∀ (s : State) (t : Tick), s.dev.clk.srcCommit ≠ 0 →
      s.dev.clk.src ≠ s.dev.clk.srcCommit →
      s.dev.clk.src ≠ 3 →
      (s.dev.ready t).pastOpt s.dev.clk.returnFrom (sT 60) = true →
      (s.dev.ready t).backlogFull = false →
      Gives (exec (.ctbSourceReturn t) s) s.pending fun d =>
        d.clk.src = s.dev.clk.srcCommit ∧ d.clk.srcLost = false ∧ d.clk.returnFrom = none ∧ d.EventWaits "EV_CTB_SOURCE_SWITCH" [(s.dev.clk.src : Int), (s.dev.clk.srcCommit : Int)])

/-- Reads of the timebase and the correlation sample latch and answer. CTB_NOW_READ answers the low word and latches the high word. CTB_CYC_READ answers the low word of the cycle number and latches the high word and E(k). CORRELATION_SAMPLE_REQUEST with bit 0 set samples the CTB and both station clocks at one instant, with it clear leaves the clocks as they are; a 1 in a reserved bit is counted. -/
def Obligations.ReadsOfTheTimebaseLatchAndAnswer : Prop :=
  (∀ (s : State) (t : Tick), Gives (exec (.ctbNowRead t) s) s.pending fun d =>
        d.host.reply = BitVec.ofNat 64 ((s.dev.ready t).ctb % 2 ^ 32) ∧ d.clk.nowH = word32 (s.dev.ready t).ctb 1) ∧
  (∀ (s : State) (t : Tick), Gives (exec (.ctbCycRead t) s) s.pending fun d =>
        d.host.reply = BitVec.ofNat 64 (s.dev.cycle.k % 2 ^ 32) ∧ d.clk.cycH = BitVec.ofNat 32 (s.dev.cycle.k / 2 ^ 32 % 2 ^ 16) ∧ d.clk.ekL = word32 s.dev.cycle.eK 0 ∧ d.clk.ekH = word32 s.dev.cycle.eK 1) ∧
  (∀ (s : State) (w : Tick × BitVec 32), Gives (exec (.correlationSampleRequest w) s) s.pending fun d =>
        (w.2.getLsbD 0 = true → d.clk.xsReady = true ∧ d.clk.xsBusy = false ∧ d.clk.xs.ctb = max w.1 s.dev.now ∧ d.clk.xs.aS = ((s.dev.ready w.1).sc 0).s ∧ d.clk.xs.aNs = ((s.dev.ready w.1).sc 0).ns ∧ d.clk.xs.bS = ((s.dev.ready w.1).sc 1).s ∧ d.clk.xs.bNs = ((s.dev.ready w.1).sc 1).ns) ∧
  (w.2.getLsbD 0 = false → d.clk = s.dev.clk) ∧ d.host.errCnt = (if w.2 &&& 0x7FFFFFFE = 0 then s.dev.host.errCnt else inc32 s.dev.host.errCnt))

/-- Channel, fetch, vector, fence and host-watchdog commands complete with their effect. CHANNEL_ENABLE_WRITE: each channel is enabled as its bit says, and one that becomes enabled starts with its counts at 0. COMMAND_DOORBELL with no reserved bit set: a producer count at most 16 beyond the completion count is taken, another is ignored and counted. COMMAND_FETCH from the channel in turn: a command with a good header is in flight with its header's fields and the fetch count moves on; one with a bad header completes with what is wrong with it; a failed access sets the DMA error and leaves the command where it is. MSIX_VECTOR_UNMASK clears the mask and sends a pending message. FENCE_WRITE starts a fence. FENCE_READ: a fence that was started has completed and is counted, and the read answers the count. HOST_WATCHDOG_WRITE retriggers the watchdog and clears HOST_LOST. HOST_WATCHDOG_EXPIRY sets HOST_LOST and raises EV_HOST_LOST. -/
def Obligations.ChannelsAndFetchingCommandsComplete : Prop :=
  (∀ (s : State) (t : Tick) (v : BitVec 32), s.dev.host.chans.length = 8 →
      Gives (exec (.channelEnableWrite t v) s) s.pending fun d =>
        ∀ c, c < 8 → (d.chan c).enabled = v.getLsbD (8 + c) ∧
  ((s.dev.chan c).enabled = false → v.getLsbD (8 + c) = true → (d.chan c).producer = 0 ∧ (d.chan c).fetch = 0 ∧ (d.chan c).completed = 0 ∧ (d.chan c).inflight = 0)) ∧
  (∀ (s : State) (t : Tick) (ch : Fin 8) (v : BitVec 32), ch.val < s.dev.host.chans.length →
      v.toNat < 32 →
      Gives (exec (.commandDoorbell t ch v) s) s.pending fun d =>
        if (v.toNat + 32 - (s.dev.chan ch).completed) % 32 ≤ 16 then (d.chan ch).producer = v.toNat ∧ d.host.errCnt = s.dev.host.errCnt
  else d.chan ch = s.dev.chan ch ∧ d.host.errCnt = inc32 s.dev.host.errCnt) ∧
  (∀ (s : State) (t : Tick) (entry : Option (BitVec 512)) (c : Nat), s.dev.nextFetch = some c →
      s.dev.host.fwRunning = true →
      c < s.dev.host.chans.length →
      Gives (exec (.commandFetch t entry) s) s.pending fun d =>
        (entry = none → d.host.dmaErr = true ∧ d.host.chans = s.dev.host.chans ∧ d.host.outstanding = s.dev.host.outstanding) ∧
  ∀ b, entry.map (fun e => leBytes 64 e.toNat) = some b →
    (headerBad b = none → (d.chan c).fetch = ((s.dev.chan c).fetch + 1) % 32 ∧ (d.chan c).inflight = (s.dev.chan c).inflight + 1 ∧
      d.host.outstanding = s.dev.host.outstanding ++ [headerOf c (s.dev.chan c).fetch b]) ∧
    ∀ x, headerBad b = some x → s.dev.Accepts (headerOf c (s.dev.chan c).fetch b) → Device.Completed s.dev d (headerOf c (s.dev.chan c).fetch b) x) ∧
  (∀ (s : State) (t : Tick) (v : Fin 32), v.val < s.dev.host.msix.length →
      Gives (exec (.msixVectorUnmask t v) s) s.pending fun d =>
        (d.host.msix.getD v MsixEntry.reset).masked = false ∧ (d.host.msix.getD v MsixEntry.reset).pend = false ∧
  ((s.dev.host.msix.getD v MsixEntry.reset).pend = true → d.host.outbox = s.dev.host.outbox ++ [{ HostWrite.reset with kind := 3, addr := v }])) ∧
  (∀ (s : State) (t : Tick), Gives (exec (.fenceWrite t) s) s.pending fun d =>
        d.host.fencePend = true) ∧
  (∀ (s : State) (t : Tick), Gives (exec (.fenceRead t) s) s.pending fun d =>
        d.host.fencePend = false ∧ d.host.fences = (if s.dev.host.fencePend then (s.dev.host.fences + 1) % 2 ^ 32 else s.dev.host.fences) ∧ d.host.reply = BitVec.ofNat 64 d.host.fences) ∧
  (∀ (s : State) (t : Tick), Gives (exec (.hostWatchdogWrite t) s) s.pending fun d =>
        d.host.wdAt = max t s.dev.now ∧ d.host.hostLost = false) ∧
  (∀ (s : State) (t : Tick), Par.hostWdTime s.dev.P ≠ 0 →
      s.dev.host.hostLost = false →
      s.dev.conv.up = true →
      (s.dev.ready t).past s.dev.host.wdAt (msT (Par.hostWdTime s.dev.P)) = true →
      (s.dev.ready t).backlogFull = false →
      Gives (exec (.hostWatchdogExpiry t) s) s.pending fun d =>
        d.host.hostLost = true ∧ d.EventWaits "EV_HOST_LOST" [])

/-- Event-queue commands complete with their effect. EVQ_ENABLE_WRITE: the queue is on or off as bit 0 says; enabling it sets the head to 0 and, where no event waits, the tail. EVQ_HEAD_WRITE: a count within the queue moves the head, another is ignored and counted. EVENT_RECORD_WRITE with room and one event waiting: its record's bytes are written with the next SEQ, and the tail moves on; a write that fails disables the queue and is reported to an idle handler, code 0x0040. EVQ_IRQ_DELAY_EXPIRY signals vector 0 and begins a new count. -/
def Obligations.EventQueueCommandsComplete : Prop :=
  (∀ (s : State) (t : Tick) (v : BitVec 32), Gives (exec (.evqEnableWrite t v) s) s.pending fun d =>
        d.host.evqOn = v.getLsbD 0 ∧ (s.dev.host.evqOn = false → v.getLsbD 0 = true → d.host.evqHead = 0) ∧ (s.dev.host.evqOn = false → v.getLsbD 0 = true → s.dev.host.backlog = [] → v.toNat = 1 → d.host.evqTail = 0)) ∧
  (∀ (s : State) (t : Tick) (v : BitVec 32), Gives (exec (.evqHeadWrite t v) s) s.pending fun d =>
        if (s.dev.host.evqTail - v).toNat ≤ 2 ^ s.dev.host.evqSize.toNat then d.host.evqHead = v else d.host.evqHead = s.dev.host.evqHead ∧ d.host.errCnt = inc32 s.dev.host.errCnt) ∧
  (∀ (s : State) (t : Tick) (ok : Bool) (e : Event), s.dev.evqSpace ≠ 0 →
      (s.dev.ready t).host.backlog = [{ ev := some e }] →
      s.dev.eh.Idle →
      Gives (exec (.eventRecordWrite t ok) s) s.pending fun d =>
        if ok then d.host.evqTail = s.dev.host.evqTail + 1 ∧ d.host.evqSeq = s.dev.host.evqSeq + 1 ∧ ∃ w ∈ d.host.outbox, w.kind = 0 ∧ w.ev = some e ∧ w.seq = s.dev.host.evqSeq.toNat ∧ w.bytes = e.bytes s.dev.host.evqSeq.toNat
  else d.host.evqOn = false ∧ d.host.evqErr = true ∧ d.eh.Handles 0x0040 0 (s.dev.codeClass 0x0040)) ∧
  (∀ (s : State) (t : Tick), s.dev.host.evqIrq.toNat / 65536 ≠ 0 →
      (s.dev.ready t).pastOpt s.dev.host.visFrom (usT ((s.dev.host.evqIrq.toNat / 65536 : Nat) : Rat)) = true →
      Gives (exec (.evqIrqDelayExpiry t) s) s.pending fun d =>
        Device.Signalled s.dev d 0 ∧ d.host.unreported = 0 ∧ d.host.visFrom = none)

/-- Parameter commands stage, check, commit, apply, read and persist. CMD_PARAM_STAGE of pairs that all pass their checks stages them; the first pair that fails ends the command and nothing is staged; while a commit is checked it is BUSY. CMD_PARAM_STAGE_LIST does so for pairs in host memory, or ends with DMA. CMD_PARAM_STAGE_DEFAULTS stages the defaults of a class or of all, and answers their number. CMD_PARAM_DISCARD empties the staging area and answers how many pairs it held. CMD_PARAM_COMMIT starts the check, or is BUSY while one runs. COMMIT_CHECK_DONE: a failure completes the command and leaves the staging area; otherwise the staged values are committed. COMMIT_APPLY at a boundary 50 µs or more after the check: the commit's cycle items take their committed values, and the command completes with the boundary's cycle number. CMD_PARAM_READ answers the staged or the committed word, or NO_ID. CMD_PARAM_PERSIST starts the write of the committed set, or is BUSY while one runs. PARAM_PERSIST_DONE: one of the two copies holds the set with the next number, and the command completes. -/
def Obligations.ParameterCommandsStageCommitAndPersist : Prop :=
  (∀ (s : State) (t : Tick) (h : CmdHdr) (a : Args), s.dev.Accepts h →
      fits a [(8, 1), (16, 8 * arg a 8 1)] [(8, arg a 8 1 == 0 || decide (6 < arg a 8 1))] →
      Gives (exec (.cmdParamStage t h a) s) s.pending fun d =>
        if s.dev.par.checking.isSome then d.par = s.dev.par ∧ Device.Completed s.dev d h .busy else
  let x := stagePairs 0 ((List.range (arg a 8 1)).map fun i => (arg a (16 + 8 * i) 4, BitVec.ofNat 32 (arg a (20 + 8 * i) 4))) s.dev.par.staged
  (x.1 = none → d.par.staged = x.2 ∧ Device.Completed s.dev d h (.ok 0)) ∧ ∀ e, x.1 = some e → d.par = s.dev.par ∧ Device.Completed s.dev d h e) ∧
  (∀ (s : State) (t : Tick) (h : CmdHdr) (a : Args) (mem : Option (List (BitVec 8))), s.dev.Accepts h →
      fits a [(8, 8), (16, 4)] [(16, arg a 16 4 == 0 || decide (7488 < arg a 16 4))] →
      s.dev.par.checking = none →
      Gives (exec (.cmdParamStageList t h a mem) s) s.pending fun d =>
        (mem = none → d.par = s.dev.par ∧ Device.Completed s.dev d h (.dma 0)) ∧ ∀ b, mem = some b →
  let x := stagePairs 0 ((List.range (arg a 16 4)).map (pairAt b)) s.dev.par.staged
  (x.1 = none → d.par.staged = x.2 ∧ Device.Completed s.dev d h (.ok 0)) ∧ ∀ e, x.1 = some e → d.par = s.dev.par ∧ Device.Completed s.dev d h e) ∧
  (∀ (s : State) (t : Tick) (h : CmdHdr) (a : Args), s.dev.Accepts h →
      fits a [(8, 1)] [] →
      s.dev.par.checking = none →
      Gives (exec (.cmdParamStageDefaults t h a) s) s.pending fun d =>
        (let ids := allIds.filter fun id => arg a 8 1 == 0xFF || pClass id == arg a 8 1
  d.par.staged = ids.foldl (fun l id => putSorted id (s.dev.defaultFor id) l) s.dev.par.staged ∧ Device.Completed s.dev d h (.ok ids.length))) ∧
  (∀ (s : State) (t : Tick) (h : CmdHdr) (a : Args), s.dev.Accepts h →
      fits a [] [] →
      s.dev.par.checking = none →
      Gives (exec (.cmdParamDiscard t h a) s) s.pending fun d =>
        d.par.staged = [] ∧ Device.Completed s.dev d h (.ok s.dev.par.staged.length)) ∧
  (∀ (s : State) (t : Tick) (h : CmdHdr) (a : Args), s.dev.Accepts h →
      fits a [] [] →
      Gives (exec (.cmdParamCommit t h a) s) s.pending fun d =>
        if s.dev.par.checking.isSome then d.par = s.dev.par ∧ Device.Completed s.dev d h .busy else d.par.checking = some (h, max t s.dev.now) ∧ d.par.staged = s.dev.par.staged) ∧
  (∀ (s : State) (t : Tick) (h : CmdHdr) (x : Tick), s.dev.par.checking = some (h, x) →
      s.dev.Answers h →
      Gives (exec (.commitCheckDone t) s) s.pending fun d =>
        d.par.checking = none ∧ (∀ e, (s.dev.ready t).commitCheck = some e → d.par.staged = s.dev.par.staged ∧ d.par.committed = s.dev.par.committed ∧ Device.Completed s.dev d h e) ∧
  ((s.dev.ready t).commitCheck = none → d.par.staged = [] ∧ d.par.committed = s.dev.par.staged.foldl (fun c x => PSet.put c x.1 x.2) s.dev.par.committed ∧ d.par.commits = inc32 s.dev.par.commits)) ∧
  (∀ (s : State) (t : Tick) (h : CmdHdr) (x : Tick) (ids : List Nat), s.dev.par.applying = [(h, x, ids)] →
      (x : Rat) + usT 50 ≤ (s.dev.eNext : Rat) →
      s.dev.eNext ≤ s.dev.now →
      s.dev.Answers h →
      Gives (exec (.commitApply t) s) s.pending fun d =>
        d.par.applying = [] ∧ d.par.force = (s.dev.par.waiting.filter ids.contains).foldl (fun f id => PSet.put f id (PSet.at_ s.dev.par.committed id)) s.dev.par.force ∧ Device.Completed s.dev d h (.ok (s.dev.cycle.k + 1))) ∧
  (∀ (s : State) (t : Tick) (h : CmdHdr) (a : Args), s.dev.Accepts h →
      fits a [(8, 4), (12, 1)] [(12, decide (2 ≤ arg a 12 1))] →
      Gives (exec (.cmdParamRead t h a) s) s.pending fun d =>
        Device.Completed s.dev d h (match rowOf (arg a 8 4) with
    | none => .noId 0
    | some row => .ok (match s.dev.par.staged.lookup (arg a 8 4), arg a 12 1 with
      | some v, 1 => 2 ^ 32 + (row.word v).toNat
      | _, _ => (wordOf s.dev.par.committed (arg a 8 4)).toNat))) ∧
  (∀ (s : State) (t : Tick) (h : CmdHdr) (a : Args), s.dev.Accepts h →
      fits a [] [] →
      Gives (exec (.cmdParamPersist t h a) s) s.pending fun d =>
        if s.dev.par.persisting.isSome then d.par = s.dev.par ∧ Device.Completed s.dev d h .busy else d.par.persisting = some h ∧ d.par.persistSet = s.dev.par.committed) ∧
  (∀ (s : State) (t : Tick) (ok : Bool) (h : CmdHdr), s.dev.par.persisting = some h →
      s.dev.Answers h →
      s.dev.parCopies.length = 2 →
      Gives (exec (.paramPersistDone t ok) s) s.pending fun d =>
        d.par.persisting = none ∧ { good := ok, number := s.dev.persistNumber, set := s.dev.par.persistSet, digest := setDigest s.dev.par.persistSet } ∈ d.parCopies ∧ Device.Completed s.dev d h (if ok then .ok s.dev.persistNumber else .dma 1))

/-- NOP, state request and trajectory commands complete with their effect. CMD_NOP echoes bytes 8 to 15. CMD_STATE_REQ waits for the cycle boundary with its target state; on a Standby a target other than OFF and MAINT ends it with ROLE. CMD_TR_MOVE in RUN (with RIDE) or MAINT, with room for a well-formed segment list, queues the host's move and answers its number; on a Standby, for the locked basis, in another state, without room, with the list unread or malformed, it ends with ROLE, REFUSED, STATE, QUEUE_FULL, DMA or MALFORMED and queues nothing. CMD_TR_FLUSH discards the host's moves and answers how many there were; a Standby answers ROLE. CMD_TR_TABLE_LOAD in OFF or MAINT loads a table with no entry beyond 1.5; the first entry beyond it, an unread table or another state ends it with RANGE, DMA or STATE and loads nothing. -/
def Obligations.NopStateAndTrajectoryCommandsComplete : Prop :=
  (∀ (s : State) (t : Tick) (h : CmdHdr) (a : Args), s.dev.Accepts h →
      fits a [(8, 8)] [] →
      Gives (exec (.cmdNop t h a) s) s.pending fun d =>
        Device.Completed s.dev d h (.ok (arg a 8 8))) ∧
  (∀ (s : State) (t : Tick) (h : CmdHdr) (a : Args), s.dev.Accepts h →
      fits a [(8, 1)] [] →
      Gives (exec (.cmdStateReq t h a) s) s.pending fun d =>
        if s.dev.standby = true ∧ arg a 8 1 ≠ stOff ∧ arg a 8 1 ≠ stMaint then d.conv.reqs = s.dev.conv.reqs ∧ Device.Completed s.dev d h .role
  else d.conv.reqs = s.dev.conv.reqs ++ [(h, arg a 8 1)]) ∧
  (∀ (s : State) (t : Tick) (h : CmdHdr) (a : Args) (mem : Option (List (BitVec 8))), s.dev.Accepts h →
      fits a [(8, 1), (9, 1), (10, 1), (12, 2), (16, 8), (24, 8)] [(8, decide (2 ≤ arg a 8 1)), (9, decide (2 ≤ arg a 9 1)), (10, decide (2 ≤ arg a 10 1)), (12, arg a 12 2 == 0 || decide (256 < arg a 12 2))] →
      Gives (exec (.cmdTrMove t h a mem) s) s.pending fun d =>
        if s.dev.standby = true then d.grid.tr = s.dev.grid.tr ∧ Device.Completed s.dev d h .role
  else if arg a 9 1 = 1 then d.grid.tr = s.dev.grid.tr ∧ Device.Completed s.dev d h (.refused 1)
  else if s.dev.conv.state ≠ stRun ∧ s.dev.conv.state ≠ stMaint then d.grid.tr = s.dev.grid.tr ∧ Device.Completed s.dev d h s.dev.stateEnd
  else if 16 ≤ s.dev.grid.tr.queue.length ∨ 256 < s.dev.grid.tr.slotsUsed + arg a 12 2 then d.grid.tr = s.dev.grid.tr ∧ Device.Completed s.dev d h .queueFull
  else (mem = none → d.grid.tr = s.dev.grid.tr ∧ Device.Completed s.dev d h (.dma 0)) ∧ ∀ b, mem = some b →
    if segmentsOk b (arg a 12 2) = true then d.grid.tr.queue = s.dev.grid.tr.queue ++ [{ amp := arg a 8 1 == 1, locked := false, host := true, tag := h.tag.toNat, start := if arg a 10 1 = 1 then some (arg a 16 8) else none, segs := (List.range (arg a 12 2)).map (segmentAt b) }] ∧ Device.Completed s.dev d h (.ok ((s.dev.grid.tr.moveNo + 1) % 2 ^ 32))
    else d.grid.tr = s.dev.grid.tr ∧ Device.Completed s.dev d h (.malformed 24)) ∧
  (∀ (s : State) (t : Tick) (h : CmdHdr) (a : Args), s.dev.Accepts h →
      fits a [] [] →
      Gives (exec (.cmdTrFlush t h a) s) s.pending fun d =>
        if s.dev.standby = true then d.grid.tr = s.dev.grid.tr ∧ Device.Completed s.dev d h .role
  else (∀ m ∈ d.grid.tr.queue, m.host = false) ∧ Device.Completed s.dev d h (.ok (s.dev.grid.tr.countMoves Move.host))) ∧
  (∀ (s : State) (t : Tick) (h : CmdHdr) (a : Args) (mem : Option (List (BitVec 8))), s.dev.Accepts h →
      fits a [(8, 8)] [] →
      Gives (exec (.cmdTrTableLoad t h a mem) s) s.pending fun d =>
        if s.dev.offOrMaint = false then d.grid.tr = s.dev.grid.tr ∧ Device.Completed s.dev d h s.dev.stateEnd
  else (mem = none → d.grid.tr = s.dev.grid.tr ∧ Device.Completed s.dev d h (.dma 0)) ∧ ∀ b, mem = some b →
    let i := ((List.range 4096).map (tableAt b)).findIdx fun x => decide (3 * 2 ^ 29 < x.natAbs)
    (i = 4096 → d.grid.tr.table = some ((List.range 4096).map (tableAt b)) ∧ Device.Completed s.dev d h (.ok 0)) ∧
    (i < 4096 → d.grid.tr = s.dev.grid.tr ∧ Device.Completed s.dev d h (.range i)))

/-- Black-start, landing, breaker and feedback commands complete with their effect. CMD_BLACK_START with no condition broken begins the sequence in BS_CONFIRM at the command's instant; the first condition broken refuses it with its number and EV_BS_REFUSED; a sequence under way is BUSY, a Standby ROLE. CMD_LAND requests LANDING, or answers the first condition that does not hold; a Standby answers ROLE. CMD_LAND_ABORT in a landing puts it into the abort hold with reason 1 and EV_LAND_ABORT; with no landing it ends with STATE, on a Standby with ROLE. CMD_BRK_CLOSE requests the close output of a breaker that is not FAULTY; the main breaker is refused outside OFF and MAINT (STATE), a FAULTY one with REFUSED, and a Standby answers ROLE. CMD_BRK_REARM with the debounced pair at OPEN or CLOSED and no contact chattering clears the latch FAULTY; otherwise it is REFUSED and changes no breaker. CMD_FEEDBACK_REARM lets the latched sensors of its mask be admitted again. -/
def Obligations.SequenceBreakerAndFeedbackCommandsComplete : Prop :=
  (∀ (s : State) (t : Tick) (h : CmdHdr) (a : Args), s.dev.Accepts h →
      fits a [] [] →
      Gives (exec (.cmdBlackStart t h a) s) s.pending fun d =>
        if s.dev.standby = true then d.grid.seq = s.dev.grid.seq ∧ Device.Completed s.dev d h .role
  else (∀ n, s.dev.bsRefusal = some n → d.grid.seq = s.dev.grid.seq ∧ Device.Completed s.dev d h (.refused n) ∧
      ((s.dev.ready t).backlogFull = false → s.dev.EventOut d "EV_BS_REFUSED" [(n : Int)])) ∧
    (s.dev.bsRefusal = none → s.dev.grid.seq.phase ≠ 0 → d.grid.seq = s.dev.grid.seq ∧ Device.Completed s.dev d h .busy) ∧
    (s.dev.bsRefusal = none → s.dev.grid.seq.phase = 0 → d.grid.seq.phase = 1 ∧ d.grid.seq.since = max t s.dev.now ∧ d.grid.seq.caught = false ∧ Device.Completed s.dev d h (.ok 0))) ∧
  (∀ (s : State) (t : Tick) (h : CmdHdr) (a : Args), s.dev.Accepts h →
      fits a [] [] →
      Gives (exec (.cmdLand t h a) s) s.pending fun d =>
        if s.dev.standby = true then d.conv.trigSeq = s.dev.conv.trigSeq ∧ Device.Completed s.dev d h .role
  else (∀ n, s.dev.landRefusal = some n → d.conv.trigSeq = s.dev.conv.trigSeq ∧ Device.Completed s.dev d h (.refused n)) ∧
    (s.dev.landRefusal = none → if s.dev.anyUndervoltage = true then d.conv.trigSeq = s.dev.conv.trigSeq ∧ Device.Completed s.dev d h (.refused 5) else d.conv.trigSeq = some (stLanding, 4) ∧ Device.Completed s.dev d h (.ok 0))) ∧
  (∀ (s : State) (t : Tick) (h : CmdHdr) (a : Args), s.dev.Accepts h →
      fits a [] [] →
      Gives (exec (.cmdLandAbort t h a) s) s.pending fun d =>
        if s.dev.standby = true then d.grid.seq = s.dev.grid.seq ∧ Device.Completed s.dev d h .role
  else if s.dev.landing = false then d.grid.seq = s.dev.grid.seq ∧ Device.Completed s.dev d h s.dev.stateEnd
  else d.grid.seq.phase = 10 ∧ d.grid.seq.abort = 1 ∧ d.grid.seq.since = max t s.dev.now ∧ Device.Completed s.dev d h (.ok 0) ∧
    ((s.dev.ready t).backlogFull = false → s.dev.EventOut d "EV_LAND_ABORT" [1])) ∧
  (∀ (s : State) (t : Tick) (h : CmdHdr) (a : Args), s.dev.Accepts h →
      fits a [(8, 1)] [(8, decide (2 ≤ arg a 8 1))] →
      s.dev.grid.brk.length = 2 →
      Gives (exec (.cmdBrkClose t h a) s) s.pending fun d =>
        if s.dev.standby = true then d.grid.brk = s.dev.grid.brk ∧ Device.Completed s.dev d h .role
  else if Par.brkRole s.dev.P (arg a 8 1) = 1 ∧ s.dev.offOrMaint = false then d.grid.brk = s.dev.grid.brk ∧ Device.Completed s.dev d h s.dev.stateEnd
  else if (s.dev.brkAt (arg a 8 1)).faulty = true then d.grid.brk = s.dev.grid.brk ∧ Device.Completed s.dev d h (.refused 1)
  else (d.brkAt (arg a 8 1)).closeReq = true ∧ (d.brkAt (arg a 8 1)).release = false ∧ Device.Completed s.dev d h (.ok 0)) ∧
  (∀ (s : State) (t : Tick) (h : CmdHdr) (a : Args), s.dev.Accepts h →
      fits a [(8, 1)] [(8, decide (2 ≤ arg a 8 1))] →
      s.dev.grid.brk.length = 2 →
      Gives (exec (.cmdBrkRearm t h a) s) s.pending fun d =>
        if 2 ≤ ({ s.dev.brkAt (arg a 8 1) with discFault := false, chatFault := false } : Breaker).position then d.grid.brk = s.dev.grid.brk ∧ Device.Completed s.dev d h (.refused 1)
  else if (s.dev.ready t).contactChatters (arg a 8 1) 0 = true ∨ (s.dev.ready t).contactChatters (arg a 8 1) 1 = true then d.grid.brk = s.dev.grid.brk ∧ Device.Completed s.dev d h (.refused 2)
  else (d.brkAt (arg a 8 1)).faulty = false ∧ (d.brkAt (arg a 8 1)).position < 2 ∧ Device.Completed s.dev d h (.ok 0)) ∧
  (∀ (s : State) (t : Tick) (h : CmdHdr) (a : Args), s.dev.Accepts h →
      fits a [(8, 2)] [(8, decide (4096 ≤ arg a 8 2))] →
      Gives (exec (.cmdFeedbackRearm t h a) s) s.pending fun d =>
        d.law.sensors = s.dev.law.sensors.mapIdx (fun i x => if bit (arg a 8 2) i && x.faulty then { x with rearmed := true, agree := 0 } else x) ∧ Device.Completed s.dev d h (.ok 0))

/-- Cell, pack, BMS and meter commands complete with their effect. CMD_CELL_BYPASS begins the bypass of a cell that is not bypassed, with cause 5; one that is bypassed stays as it is. CMD_CELL_RETURN in MAINT, for a bypassed cell whose last status shows BP open and no fault flag, returns it with its rest; otherwise STATE or REFUSED, and the modulator stands. CMD_PACK_REARM clears the flags and the trips of the cross-checks that latch, the first two. CMD_PACK_TENANCY in MAINT begins a tenancy with the next number, the identity, and the counters as they stand, with EV_PACK_TENANCY; in another state it ends with STATE, on a Standby with ROLE. CMD_BMS_TAP moves the tap or stops it. CMD_BMS_SEND in OFF or MAINT queues the raw frame for the cell; with 16 frames waiting it is BUSY, in another state it ends with STATE. -/
def Obligations.CellPackAndMeterCommandsComplete : Prop :=
  (∀ (s : State) (t : Tick) (h : CmdHdr) (a : Args), s.dev.Accepts h →
      fits a [(8, 2)] [(8, decide (384 ≤ arg a 8 2))] →
      arg a 8 2 < s.dev.modu.cells.length →
      Gives (exec (.cmdCellBypass t h a) s) s.pending fun d =>
        Device.Completed s.dev d h (.ok 0) ∧ (d.mcell (arg a 8 2)).bypassed = true ∧
  if (s.dev.mcell (arg a 8 2)).bypassed = true then d.modu = s.dev.modu else (d.mcell (arg a 8 2)).bypStep = 1 ∧ (d.mcell (arg a 8 2)).bypCause = 5) ∧
  (∀ (s : State) (t : Tick) (h : CmdHdr) (a : Args), s.dev.Accepts h →
      fits a [(8, 2)] [(8, decide (384 ≤ arg a 8 2))] →
      arg a 8 2 < s.dev.modu.cells.length →
      Gives (exec (.cmdCellReturn t h a) s) s.pending fun d =>
        let flags := ((s.dev.node (arg a 8 2)).last.map Slot.flags).getD 0xFFFF
  if s.dev.conv.state ≠ stMaint then d.modu = s.dev.modu ∧ Device.Completed s.dev d h s.dev.stateEnd
  else if (s.dev.mcell (arg a 8 2)).bypassed = false then d.modu = s.dev.modu ∧ Device.Completed s.dev d h (.refused 1)
  else if flags.getLsbD 3 = true then d.modu = s.dev.modu ∧ Device.Completed s.dev d h (.refused 2)
  else if (flags.getLsbD 5 || flags.getLsbD 6 || flags.getLsbD 7) = true then d.modu = s.dev.modu ∧ Device.Completed s.dev d h (.refused 3)
  else (d.mcell (arg a 8 2)).bypassed = false ∧ (d.mcell (arg a 8 2)).restReturn = some (Par.modRestMin s.dev.P) ∧ Device.Completed s.dev d h (.ok 0)) ∧
  (∀ (s : State) (t : Tick) (h : CmdHdr) (a : Args), s.dev.Accepts h →
      fits a [(8, 2)] [(8, decide (384 ≤ arg a 8 2))] →
      arg a 8 2 < s.dev.packs.packs.length →
      Gives (exec (.cmdPackRearm t h a) s) s.pending fun d =>
        (d.pack (arg a 8 2)).xchk = (s.dev.pack (arg a 8 2)).xchk &&& 12 ∧ (d.pack (arg a 8 2)).xTripped = (s.dev.pack (arg a 8 2)).xTripped &&& 12 ∧ Device.Completed s.dev d h (.ok 0)) ∧
  (∀ (s : State) (t : Tick) (h : CmdHdr) (a : Args), s.dev.Accepts h →
      fits a [(8, 2)] [(8, decide (384 ≤ arg a 8 2))] →
      arg a 8 2 < s.dev.packs.packs.length →
      Gives (exec (.cmdPackTenancy t h a) s) s.pending fun d =>
        if s.dev.standby = true then (d.pack (arg a 8 2)).ten = (s.dev.pack (arg a 8 2)).ten ∧ Device.Completed s.dev d h .role
  else if s.dev.conv.state ≠ stMaint then (d.pack (arg a 8 2)).ten = (s.dev.pack (arg a 8 2)).ten ∧ Device.Completed s.dev d h s.dev.stateEnd
  else (d.pack (arg a 8 2)).ten = { number := ((s.dev.pack (arg a 8 2)).ten.number + 1) % 2 ^ 32, ident := s.dev.identNow (arg a 8 2), start := (s.dev.pack (arg a 8 2)).cnt } ∧
    Device.Completed s.dev d h (.ok (((s.dev.pack (arg a 8 2)).ten.number + 1) % 2 ^ 32)) ∧
    ((s.dev.ready t).backlogFull = false → s.dev.EventOut d "EV_PACK_TENANCY" [((arg a 8 2 : Nat) : Int), ((((s.dev.pack (arg a 8 2)).ten.number + 1) % 2 ^ 32 : Nat) : Int)])) ∧
  (∀ (s : State) (t : Tick) (h : CmdHdr) (a : Args), s.dev.Accepts h →
      fits a [(8, 2), (12, 1), (16, 8)] [(8, decide (384 ≤ arg a 8 2) && !decide (arg a 8 2 = 0xFFFF)), (12, !decide (arg a 8 2 = 0xFFFF) && (decide (arg a 12 1 < 4) || decide (12 < arg a 12 1)))] →
      Gives (exec (.cmdBmsTap t h a) s) s.pending fun d =>
        d.packs.tap = (if arg a 8 2 = 0xFFFF then none else some (arg a 8 2, arg a 16 8, arg a 12 1)) ∧ d.packs.tapIdx = 0 ∧ Device.Completed s.dev d h (.ok 0)) ∧
  (∀ (s : State) (t : Tick) (h : CmdHdr) (a : Args), s.dev.Accepts h →
      fits a [(8, 2), (12, 4), (16, 1), (24, 8)] [(8, decide (384 ≤ arg a 8 2)), (12, decide (2 ^ 30 ≤ arg a 12 4)), (16, decide (8 < arg a 16 1))] →
      arg a 8 2 < s.dev.link.nodes.length →
      Gives (exec (.cmdBmsSend t h a) s) s.pending fun d =>
        if s.dev.offOrMaint = false then d.link = s.dev.link ∧ Device.Completed s.dev d h s.dev.stateEnd
  else if 16 ≤ (s.dev.node (arg a 8 2)).down.length then d.link = s.dev.link ∧ Device.Completed s.dev d h .busy
  else (d.node (arg a 8 2)).down = (s.dev.node (arg a 8 2)).down ++ [{ fr := { owner := arg a 8 2 % 32, up := false, ide := bit (arg a 12 4) 29, dlc := arg a 16 1, canId := BitVec.ofNat 29 (arg a 12 4), data := BitVec.ofNat 64 (arg a 24 8), stamp := 0 }, tx := 2 }] ∧ Device.Completed s.dev d h (.ok 0))

/-- Meter acknowledgement, node and trip-clear commands complete with their effect. CMD_METER_SNAPSHOT with none under way takes the request; with one under way it is BUSY, on a Standby ROLE. CMD_METER_ACK clears METER_RESET. CMD_NODE_READ on a ring in use queues the transaction; on a ring set to none it is REFUSED. CMD_NODE_WRITE that touches 0x0020 to 0x0033 is REFUSED, from 0x0080 on outside MAINT it ends with STATE, on a ring set to none it is REFUSED; otherwise the transaction is queued. CMD_TRIP_CLEAR makes the clear of each named source PENDING whose latch is SET and whose input is inactive, but for 41; a source still active is refused, and named in the result. CMD_TRIP_REARM clears the latch of each named input that is inactive and has had no transition for its chatter window; the others are refused, and named in the result. -/
def Obligations.MeterNodeAndTripCommandsComplete : Prop :=
  (∀ (s : State) (t : Tick) (h : CmdHdr) (a : Args), s.dev.Accepts h →
      fits a [(8, 8), (16, 4), (20, 2), (22, 2), (24, 16)] [(16, decide (arg a 16 4 < 64 + 80 * arg a 22 2 + 1284)), (20, decide (384 < arg a 20 2 + arg a 22 2)), (22, arg a 22 2 == 0 || decide (384 < arg a 22 2))] →
      Gives (exec (.cmdMeterSnapshot t h a) s) s.pending fun d =>
        if s.dev.standby = true then d.meter.snap = s.dev.meter.snap ∧ Device.Completed s.dev d h .role
  else if s.dev.meter.snap.isSome = true then d.meter.snap = s.dev.meter.snap ∧ Device.Completed s.dev d h .busy
  else d.meter.snap = some { hdr := h, addr := arg a 8 8, first := arg a 20 2, count := arg a 22 2, nonce := BitVec.ofNat 128 (arg a 24 16), frozen := false, record := [] }) ∧
  (∀ (s : State) (t : Tick) (h : CmdHdr) (a : Args), s.dev.Accepts h →
      fits a [] [] →
      Gives (exec (.cmdMeterAck t h a) s) s.pending fun d =>
        d.meter.meterReset = false ∧ Device.Completed s.dev d h (.ok 0)) ∧
  (∀ (s : State) (t : Tick) (h : CmdHdr) (a : Args), s.dev.Accepts h →
      fits a [(8, 1), (9, 1), (10, 2), (12, 1), (16, 8)] [(8, decide (12 ≤ arg a 8 1)), (9, decide (32 ≤ arg a 9 1)), (12, arg a 12 1 == 0 || decide (48 < arg a 12 1))] →
      Gives (exec (.cmdNodeRead t h a) s) s.pending fun d =>
        if Par.ringArm s.dev.P (arg a 8 1) = 3 then d.link.txns = s.dev.link.txns ∧ Device.Completed s.dev d h (.refused 3)
  else d.link.txns = s.dev.link.txns ++ [{ ring := arg a 8 1, req := slowReq (arg a 9 1) 1 (arg a 10 2) (arg a 12 1) [], hdr := h, addr := arg a 16 8, missed := 0, sentSeq := none }]) ∧
  (∀ (s : State) (t : Tick) (h : CmdHdr) (a : Args), s.dev.Accepts h →
      fits a [(8, 1), (9, 1), (10, 2), (12, 1), (16, 48)] [(8, decide (12 ≤ arg a 8 1)), (9, decide (32 ≤ arg a 9 1) && arg a 9 1 != 0xFE), (12, arg a 12 1 == 0 || decide (48 < arg a 12 1))] →
      Gives (exec (.cmdNodeWrite t h a) s) s.pending fun d =>
        if arg a 10 2 ≤ 0x33 ∧ 0x20 < arg a 10 2 + arg a 12 1 then d.link.txns = s.dev.link.txns ∧ Device.Completed s.dev d h (.refused 1)
  else if 0x80 < arg a 10 2 + arg a 12 1 ∧ s.dev.conv.state ≠ stMaint then d.link.txns = s.dev.link.txns ∧ Device.Completed s.dev d h s.dev.stateEnd
  else if Par.ringArm s.dev.P (arg a 8 1) = 3 then d.link.txns = s.dev.link.txns ∧ Device.Completed s.dev d h (.refused 3)
  else d.link.txns = s.dev.link.txns ++ [{ ring := arg a 8 1, req := slowReq (arg a 9 1) 2 (arg a 10 2) (arg a 12 1) ((leBytes 48 (arg a 16 48)).take (arg a 12 1)), hdr := h, addr := 0, missed := 0, sentSeq := none }]) ∧
  (∀ (s : State) (t : Tick) (h : CmdHdr) (a : Args), s.dev.Accepts h →
      fits a [(8, 6)] [] →
      48 ≤ s.dev.prot.srcs.length →
      Gives (exec (.cmdTripClear t h a) s) s.pending fun d =>
        let no := (List.range 48).filter fun i => bit (arg a 8 6) i && (if i = 41 then (s.dev.srcAt 41).active else (s.dev.srcAt i).latch == 1 && (s.dev.ready t).srcActive i)
  (∀ i ∈ List.range 48, bit (arg a 8 6) i = true → i ≠ 41 → i ∉ no → (s.dev.srcAt i).latch = 1 → (d.srcAt i).latch = 2) ∧
  (∀ i ∈ List.range 48, (bit (arg a 8 6) i = false ∨ i = 41 ∨ i ∈ no ∨ (s.dev.srcAt i).latch ≠ 1) → (d.srcAt i).latch = (s.dev.srcAt i).latch) ∧
  Device.Completed s.dev d h (if no = [] then .ok 0 else .refusedMask (no.foldl (fun m i => m + 2 ^ i) 0))) ∧
  (∀ (s : State) (t : Tick) (h : CmdHdr) (a : Args), s.dev.Accepts h →
      fits a [(8, 2)] [] →
      16 ≤ s.dev.prot.tins.length →
      Gives (exec (.cmdTripRearm t h a) s) s.pending fun d =>
        let no := (List.range 16).filter fun i => bit (arg a 8 2) i && (s.dev.tinActive i || ((s.dev.tin i).trans.head?.any fun (x : Tick) => !(s.dev.ready t).past x (msT (Par.protTinChatterWin s.dev.P i))))
  (∀ i ∈ List.range 16, bit (arg a 8 2) i = true → i ∉ no → (d.tin i).faulty = false) ∧
  (∀ i ∈ List.range 16, (bit (arg a 8 2) i = false ∨ i ∈ no) → (d.tin i).faulty = (s.dev.tin i).faulty) ∧
  Device.Completed s.dev d h (if no = [] then .ok 0 else .refusedMask (no.foldl (fun m i => m + 2 ^ i) 0)))

/-- Trip, gate and safety commands complete with their effect. CMD_TRIP_FORCE makes the input of source 46 active for one sample: its latch is SET, and where it was not the arms are blocked, unless its clear is pending in the very sample of the resume edge. CMD_GATE_BASELINE makes the means of one cell or of all their baselines. CMD_SAFE_RESET, enabled and with no demand on a latched function left, clears every latched function; not enabled, with Bailsil not running, or with such a demand (counted), it is REFUSED and clears none. CMD_SAFE_REARM for outputs, in MAINT alone, clears the latch of each named faulty output and starts its switch check; for inputs, in every state, it completes with the mask of those refused; one input named alone is rearmed where its channels have agreed without a transition for saf.sin[n].disc_time and 100 ms, and is refused and unchanged otherwise. -/
def Obligations.TripGateAndSafetyCommandsComplete : Prop :=
  (∀ (s : State) (t : Tick) (h : CmdHdr) (a : Args), s.dev.Accepts h →
      fits a [] [] →
      46 < s.dev.prot.srcs.length →
      Gives (exec (.cmdTripForce t h a) s) s.pending fun d =>
        Device.Completed s.dev d h (.ok 0) ∧ (d.srcAt 46).active = false ∧ d.prot.hostTripUntil = some (d.now + 1) ∧
  ((s.dev.srcAt 46).active = false → ¬((s.dev.srcAt 46).latch = 2 ∧ s.dev.prot.resumeEdge = some (max t s.dev.now)) → (d.srcAt 46).latch = 1 ∧ ((s.dev.srcAt 46).latch ≠ 1 → d.prot.blocked = true))) ∧
  (∀ (s : State) (t : Tick) (h : CmdHdr) (a : Args), s.dev.Accepts h →
      fits a [(8, 2)] [(8, decide (384 ≤ arg a 8 2) && arg a 8 2 != 0xFFFF)] →
      Gives (exec (.cmdGateBaseline t h a) s) s.pending fun d =>
        d.prot.gates = s.dev.prot.gates.mapIdx (fun i g => if arg a 8 2 = 0xFFFF ∨ i = arg a 8 2 then ({ g.1 with base := some g.1.mean, aged := false }, { g.2 with base := some g.2.mean, aged := false }) else g) ∧ Device.Completed s.dev d h (.ok 0)) ∧
  (∀ (s : State) (t : Tick) (h : CmdHdr) (a : Args), s.dev.Accepts h →
      fits a [] [] →
      Gives (exec (.cmdSafeReset t h a) s) s.pending fun d =>
        if Par.safHostReset s.dev.safety.par = false then d.safety = s.dev.safety ∧ Device.Completed s.dev d h (.refused 1)
  else if s.dev.bslRuns = false then d.safety = s.dev.safety ∧ Device.Completed s.dev d h (.refused 2)
  else if (s.dev.safety.demands.any fun x => s.dev.safety.latched x.fn) = true ∧ (s.dev.safety.fns.any id = true ∨ s.dev.safety.resetRequired = true) then
    d.safety.fns = s.dev.safety.fns ∧ d.safety.rej = inc32 s.dev.safety.rej ∧ Device.Completed s.dev d h (.refused 2)
  else (∀ x ∈ d.safety.fns, x = false) ∧ d.safety.resetRequired = false ∧ Device.Completed s.dev d h (.ok 0)) ∧
  (∀ (s : State) (t : Tick) (h : CmdHdr) (a : Args), s.dev.Accepts h →
      fits a [(8, 1), (9, 1)] [(8, decide (2 ≤ arg a 8 1)), (9, decide (2 ^ (if arg a 8 1 = 1 then 6 else 4) ≤ arg a 9 1))] →
      6 ≤ s.dev.safety.outs.length ∧ 4 ≤ s.dev.safety.ins.length →
      Gives (exec (.cmdSafeRearm t h a) s) s.pending fun d =>
        if arg a 8 1 = 1 then
    if s.dev.conv.state ≠ stMaint then d.safety = s.dev.safety ∧ Device.Completed s.dev d h s.dev.stateEnd
    else Device.Completed s.dev d h (.ok 0) ∧ ∀ n ∈ List.range 6, if bit (arg a 9 1) n = true ∧ (s.dev.sout n).faulty = true then (d.sout n).faulty = false ∧ (d.sout n).checking = true else (d.sout n).faulty = (s.dev.sout n).faulty
  else (∃ m ∈ List.range 16, Device.Completed s.dev d h (if m = 0 then .ok 0 else .refusedMask m)) ∧ ∀ n ∈ List.range 4, arg a 9 1 = 2 ^ n →
    if s.dev.sinAgree n = true ∧ (s.dev.ready t).past (s.dev.sin n).lastTrans (msT (Par.safSinDiscTime s.dev.safety.par n)) = true ∧ (s.dev.ready t).past (s.dev.sin n).lastTrans (msT 100) = true
    then (s.dev.bslRuns = true ∨ (d.sin n).faulty = false) ∧ Device.Completed s.dev d h (.ok 0) else d.safety = s.dev.safety ∧ Device.Completed s.dev d h (.refusedMask (2 ^ n)))

/-- Trip inputs, blanking windows and Squall events complete with their effect. TRIP_INPUT_CHANGE: a level held for less than the filter's samples, or the filtered level again, changes nothing in protection; a level held long enough is the filtered level, its transition is noted and chatter makes the input FAULTY, and an enabled input at its active level sets a clear latch and blocks the arms. BLANKING_WINDOW_END: the windows that have ended are dropped, and with none that has nothing in protection changes; when the last one ends a fast level still outside asserts the comparator's enabled source, and the arms are blocked. INCOMING_SQUALL during the device's own burst or echo window is counted as an echo and asserts nothing; otherwise the input of source 40 is active from it on, and where it was inactive and no clear is pending its latch is SET, a burst starts and is counted, and the arms are blocked; a ring set to none hears nothing. SQUALL_HOLD_END: the input of source 40 becomes inactive. BURST_END ends the burst and opens the echo window. ECHO_WINDOW_END closes it. MULTI_WIN_ELAPSED completes the record, and EV_SQUALL carries it; a multi-arm one also raises EV_TRIP_MULTI_ARM, and its latches take no auto-clear. -/
def Obligations.TripInputsAndSquallCommandsComplete : Prop :=
  (∀ (s : State) (t : Tick) (inp : Fin 16) (level : Bool) (held : Nat), inp.val < s.dev.prot.tins.length →
      48 ≤ s.dev.prot.srcs.length →
      Gives (exec (.tripInputChange t inp level held) s) s.pending fun d =>
        if held < Par.protTinFilt s.dev.P inp ∨ (s.dev.tin inp).level = level then d.prot = s.dev.prot
  else (d.tin inp).level = level ∧
    (let n := Par.protTinChatterN s.dev.P inp
     let trans := noteTransition (s.dev.tin inp).trans (max t s.dev.now) n
     (d.tin inp).trans = trans ∧ (d.tin inp).faulty = ((s.dev.tin inp).faulty || chatters trans n (msT (Par.protTinChatterWin s.dev.P inp)))) ∧
    (Par.protTinMode s.dev.P inp = 1 → level = (Par.protTinPolarity s.dev.P inp == 0) → (s.dev.srcAt inp).latch = 0 → (s.dev.srcAt inp).active = false →
      (d.srcAt inp).latch = 1 ∧ (d.srcAt inp).active = true ∧ d.prot.blocked = true)) ∧
  (∀ (s : State) (t : Tick) (j : Fin 12), j.val < s.dev.prot.blank.length →
      48 ≤ s.dev.prot.srcs.length →
      Gives (exec (.blankingWindowEnd t j) s) s.pending fun d =>
        let w := (s.dev.prot.blank.getD j BlankCmp.reset).windows
  if (w.any fun x => decide (x.2 ≤ max t s.dev.now)) = false then d.prot = s.dev.prot
  else (d.prot.blank.getD j BlankCmp.reset).windows = (w.filter fun x => max t s.dev.now < x.2) ∧
    ((w.all fun x => decide (x.2 ≤ max t s.dev.now)) = true → (s.dev.cmp j).fastOut = true → bit (Par.protCmpTrip s.dev.P j) 0 = true → (s.dev.srcAt (16 + j)).latch = 0 →
      (d.srcAt (16 + j)).latch = 1 ∧ d.prot.blocked = true)) ∧
  (∀ (s : State) (t : Tick) (ring : Fin 12), 40 < s.dev.prot.srcs.length →
      Gives (exec (.incomingSquall t ring) s) s.pending fun d =>
        if s.dev.ringNone ring = true then d.prot = s.dev.prot
  else if s.dev.prot.burst = true ∨ s.dev.prot.echoFrom ≠ none then d.prot.echoCnt = inc32 s.dev.prot.echoCnt ∧ d.srcAt 40 = s.dev.srcAt 40 ∧ d.prot.sqCnt = s.dev.prot.sqCnt
  else d.prot.rxPair = some (max t s.dev.now) ∧ (d.srcAt 40).active = true ∧
    ((s.dev.srcAt 40).active = false → (s.dev.srcAt 40).latch ≠ 2 → (d.srcAt 40).latch = 1 ∧ d.prot.burst = true ∧ d.prot.blocked = true ∧ d.prot.sqCnt = inc32 s.dev.prot.sqCnt)) ∧
  (∀ (s : State) (t : Tick), (s.dev.ready t).pastOpt s.dev.prot.rxPair (nsT 100) = true →
      Gives (exec (.squallHoldEnd t) s) s.pending fun d =>
        d.prot.rxPair = none ∧ (d.srcAt 40).active = false) ∧
  (∀ (s : State) (t : Tick), s.dev.prot.burst = true →
      (s.dev.ready t).past s.dev.prot.lastTrigger (usT (Par.protSquallBurst s.dev.P)) = true →
      Gives (exec (.burstEnd t) s) s.pending fun d =>
        d.prot.burst = false ∧ d.prot.echoFrom = some (max t s.dev.now)) ∧
  (∀ (s : State) (t : Tick), (s.dev.ready t).pastOpt s.dev.prot.echoFrom (usT 8) = true →
      Gives (exec (.echoWindowEnd t) s) s.pending fun d =>
        d.prot.echoFrom = none) ∧
  (∀ (s : State) (t : Tick), s.dev.prot.record.open_ = true →
      (s.dev.ready t).past s.dev.prot.record.ctb (usT (Par.protMultiWin s.dev.P)) = true →
      (s.dev.ready t).roomFor 2 →
      Gives (exec (.multiWinElapsed t) s) s.pending fun d =>
        let r := s.dev.prot.record
  d.prot.record = { r with open_ := false } ∧
  d.EventWaits "EV_SQUALL" [(r.srcs.toNat : Int), (r.primary : Int), (r.arms.toNat : Int), ((r.multiArm.toNat + 2 * r.afterBlank.toNat + 4 * r.rejectEdge.toNat : Nat) : Int), (r.ctlCause : Int), (r.ctb : Int)] ∧
  (r.multiArm = true → d.EventWaits "EV_TRIP_MULTI_ARM" [(r.arms.toNat : Int)] ∧ ∀ i ∈ List.range s.dev.prot.srcs.length, r.srcs.getLsbD i = true → (s.dev.srcAt i).latch ≠ 0 → (d.srcAt i).noAuto = true))

/-- Clearing, reminders, earth and star-point trips, gate records and the resume edge complete with their effect. AUTO_CLEAR_REQUEST of a SET latch other than source 41's that is in the auto masks and not excluded, quiet for prot.auto_delay, with its Squall's window over: its clear is PENDING by auto-clear; any other latch stands. TRIP_REMIND at every further 10 s of an active input on a SET latch raises EV_TRIP_REMIND with the source and the seconds active, and counts it; otherwise it changes nothing in protection. EARTH_CURRENT_TRIP after prot.ef_time above the limit makes the input of source 43 active: a clear latch is SET, a burst runs and the arms are blocked; otherwise nothing in protection changes. STAR_POINT_TRIP in star, after prot.sp_time above the limit makes the input of source 44 active: a clear latch is SET, a burst runs and the arms are blocked; otherwise nothing in protection changes. GATE_AGEING_PERSIST keeps every mean and baseline. GATE_SELECT_WRITE selects the cell of bits 8 to 0, latches its four registers, the code word first, and sets READY. RESUME_EDGE at its instant: a pending latch whose input is active is SET again and the arms are blocked; with none, the arms are no longer blocked and every pending latch is CLEAR, and with no latch SET centre mode lasts for mod.recover_cycles from the edge. CENTRE_MODE_RECOVERY_END ends it. -/
def Obligations.ClearingResumeAndPersistCommandsComplete : Prop :=
  (∀ (s : State) (t : Tick) (src : Fin 48), src.val < s.dev.prot.srcs.length →
      Gives (exec (.autoClearRequest t src) s) s.pending fun d =>
        if src.val ≠ 41 ∧ (s.dev.srcAt src).latch = 1 ∧ (s.dev.srcAt src).active = false ∧ (s.dev.srcAt src).noAuto = false ∧ s.dev.prot.autoDisabled = false ∧ s.dev.autoMask src = true ∧
    s.dev.prot.record.open_ = false ∧ (s.dev.ready t).past s.dev.prot.sqFrom (usT (Par.protMultiWin s.dev.P)) = true ∧ (s.dev.ready t).pastOpt (s.dev.srcAt src).quietFrom (usT (Par.protAutoDelay s.dev.P)) = true ∧
    (s.dev.ready t).srcActive src = false
  then (d.srcAt src).latch = 2 ∧ (d.srcAt src).autoReq = true else (d.srcAt src).latch = (s.dev.srcAt src).latch) ∧
  (∀ (s : State) (t : Tick) (src : Fin 48), src.val < s.dev.prot.srcs.length →
      (s.dev.ready t).backlogFull = false →
      Gives (exec (.tripRemind t src) s) s.pending fun d =>
        let n := (s.dev.srcAt src).reminded + 1
  if (s.dev.srcAt src).latch = 1 ∧ (s.dev.srcAt src).active = true ∧ (s.dev.ready t).past (s.dev.srcAt src).activeFrom (sT (10 * (n : Rat))) = true
  then (d.srcAt src).reminded = n ∧ d.EventWaits "EV_TRIP_REMIND" [(src.val : Int), ((10 * n : Nat) : Int)] else d.prot = s.dev.prot) ∧
  (∀ (s : State) (t : Tick), 43 < s.dev.prot.srcs.length →
      Gives (exec (.earthCurrentTrip t) s) s.pending fun d =>
        if (s.dev.ready t).pastOpt s.dev.prot.efFrom (msT (Par.protEfTime s.dev.P)) = true then (d.srcAt 43).active = true ∧
    ((s.dev.srcAt 43).active = false → (s.dev.srcAt 43).latch = 0 → (d.srcAt 43).latch = 1 ∧ d.prot.burst = true ∧ d.prot.blocked = true)
  else d.prot = s.dev.prot) ∧
  (∀ (s : State) (t : Tick), 44 < s.dev.prot.srcs.length →
      Gives (exec (.starPointTrip t) s) s.pending fun d =>
        if s.dev.inDelta = false ∧ (s.dev.ready t).pastOpt s.dev.prot.spFrom (msT (Par.protSpTime s.dev.P)) = true then (d.srcAt 44).active = true ∧
    ((s.dev.srcAt 44).active = false → (s.dev.srcAt 44).latch = 0 → (d.srcAt 44).latch = 1 ∧ d.prot.burst = true ∧ d.prot.blocked = true)
  else d.prot = s.dev.prot) ∧
  (∀ (s : State) (t : Tick), (s.dev.ready t).past s.dev.prot.gateSaved (sT 60) = true →
      Gives (exec (.gateAgeingPersist t) s) s.pending fun d =>
        d.prot.gateStore = s.dev.prot.gates.map (fun g => ({ mean := g.1.mean, base := g.1.base }, { mean := g.2.mean, base := g.2.base })) ∧ d.prot.gateSaved = max t s.dev.now) ∧
  (∀ (s : State) (t : Tick) (v : BitVec 32), Gives (exec (.gateSelectWrite t v) s) s.pending fun d =>
        d.prot.gateSel = v.toNat % 512 ∧ d.prot.gateReady = true ∧ d.prot.gateRegs.length = 4 ∧ d.prot.gateRegs.head? = some (s.dev.gateCodeWord (v.toNat % 512))) ∧
  (∀ (s : State) (t : Tick) (e : Tick), s.dev.prot.resumeEdge = some e →
      e ≤ s.dev.now →
      s.dev.prot.srcs.length = 48 →
      Gives (exec (.resumeEdge t) s) s.pending fun d =>
        let bad := (List.range 48).filter fun i => (s.dev.srcAt i).latch == 2 && (s.dev.ready t).srcActive i
  d.prot.resumeEdge = none ∧ (∀ i ∈ bad, (d.srcAt i).latch = 1) ∧ (bad ≠ [] → d.prot.blocked = true) ∧
  (bad = [] → d.prot.blocked = false ∧ (∀ i ∈ List.range 48, (s.dev.srcAt i).latch = 2 → (d.srcAt i).latch = 0) ∧
    ((∀ i ∈ List.range 48, (s.dev.srcAt i).latch = 0 ∨ (s.dev.srcAt i).latch = 2) → d.prot.recoverUntil = some (max t s.dev.now + Par.modRecoverCycles s.dev.P * s.dev.tc)))) ∧
  (∀ (s : State) (t : Tick) (u : Tick), s.dev.prot.recoverUntil = some u →
      u ≤ s.dev.now →
      Gives (exec (.centreModeRecoveryEnd t) s) s.pending fun d =>
        d.prot.recoverUntil = none ∧ d.conv.restart = false ∧ d.conv.restartDead = false)

/-- The steps of the control cycle complete with their effect. SAMPLE_TRIGGER comes at E(k) + Tc: with the CTB set the next cycle begins there, no arm's record arrived and no schedule computed; with the CTB not set no cycle begins. ARM_RECORD_ARRIVAL after the law's evaluation and by 4.455 µs: the arm's record is the one sent, and its schedule is computed, but for a delta arm whose record differs from the first, which an idle handler reports, code 0x0014; a record before the evaluation, a second or a late one changes no arm. REFERENCE_OVERRUN of an arm without a record at 4.455 µs: its record is the last one extended along its slopes by Tc, its schedule is computed from it, the overrun is counted with EV_CYCLE_OVERRUN, and the third cycle in a row with one is reported to an idle handler, code 0x0012; otherwise it changes no arm. SCHEDULE_OVERRUN of an arm without a schedule at the load-all: the edges sent last are each cell's again, the overrun is counted with EV_CYCLE_OVERRUN, and the third cycle in a row with one is reported to an idle handler, code 0x0013; otherwise it changes no arm. LOAD_ALL, once a cycle and with the CTB set: the frames launched carry the cycle's number and the next cycle start; a second one, an early one, or one with the CTB not set launches nothing. ARM_REDUNDANCY_CHANGE after 50 load-alls in a new band: the band is in force, a change to UNDERVOLTAGE, or from FULL to LOST, raises its event with the arm and S_min; before that nothing in the modulator changes. -/
def Obligations.ControlCycleCommandsComplete : Prop :=
  (∀ (s : State) (codes : List (List (BitVec 16))), Gives (exec (.sampleTrigger codes) s) s.pending fun d =>
        d.now = max s.dev.eNext s.dev.now ∧ if s.dev.clk.ctbOn = false then d.cycle = s.dev.cycle
  else d.cycle.k = (s.dev.cycle.k + 1) % 2 ^ 48 ∧ d.cycle.eK = s.dev.eNext ∧ ∀ a ∈ List.range 3, (d.marm a).arrived = false ∧ (d.marm a).scheduled = false) ∧
  (∀ (s : State) (t : Tick) (arm : Fin 3) (differs : Bool), arm.val < s.dev.modu.arms.length →
      Gives (exec (.armRecordArrival t arm differs) s) s.pending fun d =>
        if s.dev.law.evaluated = false ∨ (s.dev.marm arm).arrived = true ∨ s.dev.cycle.eK + 3564 < max t s.dev.now then d.modu = s.dev.modu
  else (d.marm arm).arrived = true ∧ (d.marm arm).record = s.dev.modu.sentRecs.getD arm ArmRecord.reset ∧
    (if differs = true ∧ s.dev.modu.first ≠ none ∧ s.dev.inDelta = true then (d.marm arm).scheduled = (s.dev.marm arm).scheduled ∧ (s.dev.eh.Idle → d.eh.Handles 0x0014 2 (s.dev.codeClass 0x0014))
     else (d.marm arm).scheduled = true)) ∧
  (∀ (s : State) (t : Tick) (arm : Fin 3), arm.val < s.dev.modu.arms.length →
      arm.val < s.dev.cycle.overrun.length →
      Gives (exec (.referenceOverrun t arm) s) s.pending fun d =>
        let r := (s.dev.marm arm).record
  let o := s.dev.cycle.overrun.getD arm OverrunArm.reset
  let run := if o.inCycle then o.run else o.run + 1
  if (s.dev.marm arm).arrived = true ∨ max t s.dev.now < s.dev.cycle.eK + 3564 then d.modu = s.dev.modu
  else (d.marm arm).arrived = true ∧ (d.marm arm).scheduled = true ∧ d.modu.refOverruns = inc32 s.dev.modu.refOverruns ∧
    (d.marm arm).record = { r with v0 := r.v0 + r.slope * (s.dev.tcS * 1000000), i0ref := r.i0ref + r.i0slope * (s.dev.tcS * 1000000) } ∧
    (d.cycle.overrun.getD arm OverrunArm.reset).run = run ∧ ((s.dev.ready t).roomFor 1 → d.EventWaits "EV_CYCLE_OVERRUN" [(arm.val : Int), 0]) ∧
    (run = 3 → o.inCycle = false → s.dev.eh.Idle → d.eh.Handles 0x0012 1 (s.dev.codeClass 0x0012))) ∧
  (∀ (s : State) (t : Tick) (arm : Fin 3), arm.val < s.dev.modu.arms.length →
      arm.val < s.dev.cycle.overrun.length →
      Gives (exec (.scheduleOverrun t arm) s) s.pending fun d =>
        let o := s.dev.cycle.overrun.getD arm OverrunArm.reset
  let run := if o.inCycle then o.run else o.run + 1
  if (s.dev.marm arm).scheduled = true ∨ s.dev.modu.loaded = true ∨ max t s.dev.now < s.dev.tLoad then d.modu = s.dev.modu
  else (d.marm arm).scheduled = true ∧ d.modu.schedOverruns = inc32 s.dev.modu.schedOverruns ∧ (∀ c ∈ s.dev.armCells arm, c < s.dev.modu.cells.length → (d.mcell c).sched = (s.dev.mcell c).sent) ∧
    (d.cycle.overrun.getD arm OverrunArm.reset).run = run ∧ ((s.dev.ready t).roomFor 1 → d.EventWaits "EV_CYCLE_OVERRUN" [(arm.val : Int), 1]) ∧
    (run = 3 → o.inCycle = false → s.dev.eh.Idle → d.eh.Handles 0x0013 2 (s.dev.codeClass 0x0013))) ∧
  (∀ (s : State) (t : Tick), Gives (exec (.loadAll t) s) s.pending fun d =>
        if s.dev.modu.loaded = true ∨ max t s.dev.now < s.dev.tLoad ∨ s.dev.clk.ctbOn = false then d.link = s.dev.link ∧ d.modu = s.dev.modu
  else d.modu.loaded = true ∧ d.twin.peerFrame = false ∧ ∀ f ∈ d.link.tx, f.seq = BitVec.ofNat 16 (s.dev.cycle.k % 65536) ∧ f.eNext = s.dev.eNext) ∧
  (∀ (s : State) (t : Tick) (arm : Fin 3), arm.val < s.dev.modu.arms.length →
      Gives (exec (.armRedundancyChange t arm) s) s.pending fun d =>
        let a := s.dev.marm arm
  let v := ((s.dev.ready t).quant (min a.sDis a.sChg * 256)).1
  if a.redRun < 50 then d.modu = s.dev.modu
  else (d.marm arm).redund = a.redNew ∧ (d.marm arm).redRun = 0 ∧
    ((s.dev.ready t).roomFor 1 → a.redNew = 2 → d.EventWaits "EV_ARM_UNDERVOLTAGE" [(arm.val : Int), v]) ∧
    ((s.dev.ready t).roomFor 1 → a.redNew = 1 → a.redund = 0 → d.EventWaits "EV_ARM_REDUNDANCY_LOST" [(arm.val : Int), v]))

/-- Cell and ring events complete with their effect. BYPASS_CLOSE_TIMEOUT with BP not closed mod.bp_close_max after its command: the bypass has failed, EV_CELL_BYPASS_FAIL is raised, and the cell joins those that source 45 watches; otherwise nothing in the modulator changes. CELL_REST_END: each rest of the cell that has lasted its cycles ends, one for a low bootstrap supply only while the flag is clear; the others go on. NODE_ANSWER_MISSED: every transaction missed link.disc_cycles times ends with REFUSED, condition 3; the others wait on. RETURNING_FRAME: a frame whose CRC-32 fails is counted at its receiver and taken no further; one whose check sums hold, of this ring, of type 1 or 2, whose SEQ was launched has come back at its receiver, any other has not; a ring set to none hears nothing. PRQ_RECEIVED: the answer bears the probe's tag and instant; a ring set to none answers none. RING_LANE_LOCK_CHANGE: the lane's lock follows, the other lane's stands; a ring set to none has no locks to change. VALIDATION_MARKER: the results that it names leave the provisional ones; where they are not valid no counter takes them. -/
def Obligations.CellAndRingCommandsComplete : Prop :=
  (∀ (s : State) (t : Tick) (cell : Fin 384), cell.val < s.dev.modu.cells.length →
      Gives (exec (.bypassCloseTimeout t cell) s) s.pending fun d =>
        if (s.dev.mcell cell).bypStep = 2 ∧ (s.dev.mcell cell).bypFailed = false ∧ (s.dev.ready t).past (s.dev.mcell cell).bypFrom (msT (Par.modBpCloseMax s.dev.P)) = true
  then (d.mcell cell).bypFailed = true ∧ d.prot.bypFailed = s.dev.prot.bypFailed ++ [cell.val] ∧ ((s.dev.ready t).roomFor 1 → d.EventWaits "EV_CELL_BYPASS_FAIL" [(cell.val : Int)])
  else d.modu = s.dev.modu) ∧
  (∀ (s : State) (t : Tick) (cell : Fin 384), cell.val < s.dev.modu.cells.length →
      Gives (exec (.cellRestEnd t cell) s) s.pending fun d =>
        let m := s.dev.mcell cell
  let n := Par.modRestMin s.dev.P
  (d.mcell cell).restPack = m.restPack.filter (fun k => decide (k < n)) ∧ (d.mcell cell).restMiss = m.restMiss.filter (fun k => decide (k < n)) ∧
  (d.mcell cell).restBs = (if m.bsLow then m.restBs else m.restBs.filter fun k => decide (k < Par.modBsRest s.dev.P)) ∧
  (d.mcell cell).restReturn = m.restReturn.filter (fun k => decide (k ≠ 0)) ∧ (d.mcell cell).restRot = m.restRot.filter (fun k => decide (k ≠ 0))) ∧
  (∀ (s : State) (t : Tick), Gives (exec (.nodeAnswerMissed t) s) s.pending fun d =>
        d.link.txns = s.dev.link.txns.filter (fun x => decide (x.missed < Par.linkDiscCycles s.dev.P)) ∧
  ∀ x ∈ s.dev.link.txns, Par.linkDiscCycles s.dev.P ≤ x.missed → s.dev.Answers x.hdr → Device.Completed s.dev d x.hdr (.refused 3)) ∧
  (∀ (s : State) (t : Tick) (ring : Fin 12) (lane : Bool) (frame : List (BitVec 8)), ring.val < s.dev.link.rings.length →
      Gives (exec (.returningFrame t ring lane frame) s) s.pending fun d =>
        let x := s.dev.ring ring
  if s.dev.ringNone ring = true then d.link = s.dev.link
  else if frame.length ≠ 1628 ∨ leField frame 1624 4 ≠ crc32 (frame.take 1624) then
    if lane then (d.ring ring).fcrcQ = inc16 x.fcrcQ ∧ (d.ring ring).gotQ = x.gotQ else (d.ring ring).fcrcP = inc16 x.fcrcP ∧ (d.ring ring).gotP = x.gotP
  else let mine := (s.dev.link.tx.any fun f => f.ring == ring.val && f.seq.toNat == leField frame 2 2) && leField frame 30 2 == crc16 (frame.take 24) && bits (leField frame 1 1) 3 0 == ring.val && (leField frame 0 1 == 1 || leField frame 0 1 == 2)
    if lane then (d.ring ring).gotQ = (x.gotQ || mine) else (d.ring ring).gotP = (x.gotP || mine)) ∧
  (∀ (s : State) (t : Tick) (ring : Fin 12) (lane : Bool) (tag : BitVec 8), Gives (exec (.prqReceived t ring lane tag) s) s.pending fun d =>
        d.link.prsTag = if s.dev.ringNone ring then s.dev.link.prsTag else some (ring.val, lane, tag.toNat, max t s.dev.now)) ∧
  (∀ (s : State) (t : Tick) (ring : Fin 12) (lane lock : Bool), ring.val < s.dev.link.rings.length →
      Gives (exec (.ringLaneLockChange t ring lane lock) s) s.pending fun d =>
        if s.dev.ringNone ring = true then d.link = s.dev.link else if lane then (d.ring ring).qLock = lock ∧ (d.ring ring).pLock = (s.dev.ring ring).pLock else (d.ring ring).pLock = lock ∧ (d.ring ring).qLock = (s.dev.ring ring).qLock) ∧
  (∀ (s : State) (t : Tick) (ring : Fin 13) (id : BitVec 16) (valid : Bool), Gives (exec (.validationMarker t ring id valid) s) s.pending fun d =>
        d.prov = s.dev.prov.filter (fun r => !(r.ring == ring.val && r.id == id.toNat)) ∧ (valid = false → d.meter = s.dev.meter ∧ d.packs = s.dev.packs))

/-- The steps of enumeration and of the charge sequence complete with their effect. ENUM_DISCOVER_DONE in DISCOVER with every discovery frame sent: PRELOAD begins; otherwise the phase and the rings stand. ENUM_PRELOAD_DONE in PRELOAD with every ring in use preloaded: MATCH begins, no cell being assigned; otherwise the phase and the packs stand. ENUM_MATCH_END in MATCH, with every cell to be matched assigned or after st.match_time: STANDBY follows at the boundary; otherwise no transition is requested. CHARGE_CONTACT_END with every cell in use ready, or after st.contact_max: a cell undervoltage ends the charge with EV_CHARGE_FAIL; else CELL_TEST begins where it is enabled, otherwise PRE_CHARGE, or, with st.pc_v = 0, CHARGED follows; before that the phase stands. CHARGE_CELL_TEST_END after its cycles: a cell undervoltage ends the charge with EV_CHARGE_FAIL; else PRE_CHARGE begins, or, with st.pc_v = 0, CHARGED follows; before that the phase stands. PRE_CHARGE_DWELL_END after the dwell: with every voltage within its tolerance the ramp back to zero begins, otherwise the charge ends with EV_CHARGE_FAIL; before that the step stands. -/
def Obligations.EnumerationAndChargeCommandsComplete : Prop :=
  (∀ (s : State) (t : Tick), Gives (exec (.enumDiscoverDone t) s) s.pending fun d =>
        if s.dev.conv.phase = 1 ∧ s.dev.link.discLeft = 0 then d.conv.phase = 3 ∧ d.conv.phaseFrom = max t s.dev.now ∧ d.conv.phaseCyc = 0 else d.conv.phase = s.dev.conv.phase ∧ d.link = s.dev.link) ∧
  (∀ (s : State) (t : Tick), Gives (exec (.enumPreloadDone t) s) s.pending fun d =>
        if s.dev.conv.phase = 3 ∧ s.dev.preloadDone = true then d.conv.phase = 4 ∧ d.conv.phaseFrom = max t s.dev.now ∧ ∀ x ∈ d.packs.packs, x.assigned = none ∧ x.matched = [] else d.conv.phase = s.dev.conv.phase ∧ d.packs = s.dev.packs) ∧
  (∀ (s : State) (t : Tick), Gives (exec (.enumMatchEnd t) s) s.pending fun d =>
        let open_ := (List.range 384).any fun c => (s.dev.node c).info.present && Par.packProfile s.dev.P c == 8 && (s.dev.pack c).assigned.isNone
  d.conv.trigSeq = if s.dev.conv.phase = 4 ∧ (open_ = false ∨ (s.dev.ready t).past s.dev.conv.phaseFrom (sT (Par.stMatchTime s.dev.P)) = true) then some (stStandby, 1) else s.dev.conv.trigSeq) ∧
  (∀ (s : State) (t : Tick), Gives (exec (.chargeContactEnd t) s) s.pending fun d =>
        let done := s.dev.usedCells.all s.dev.cellReady || (s.dev.ready t).past s.dev.conv.phaseFrom (sT (Par.stContactMax s.dev.P))
  if s.dev.conv.state ≠ stStandby ∨ s.dev.conv.phase ≠ 5 ∨ s.dev.conv.resumeDue = true ∨ done = false then d.conv.phase = s.dev.conv.phase ∧ d.conv.trigSeq = s.dev.conv.trigSeq
  else if s.dev.anyUndervoltage = true then d.conv.phase = 0 ∧ d.conv.failPhase = 5 ∧ ((s.dev.ready t).roomFor 1 → d.EventWaits "EV_CHARGE_FAIL" [5, 1])
  else if Par.stTestEn s.dev.P = true then d.conv.phase = 6 ∧ d.conv.phaseFrom = max t s.dev.now ∧ d.conv.phaseCyc = 0
  else if Par.stPcV s.dev.P = 0 then d.conv.trigSeq = some (stCharged, 2) else d.conv.phase = 7 ∧ d.conv.pcStep = 0) ∧
  (∀ (s : State) (t : Tick), Gives (exec (.chargeCellTestEnd t) s) s.pending fun d =>
        if s.dev.conv.state ≠ stStandby ∨ s.dev.conv.phase ≠ 6 ∨ s.dev.conv.phaseCyc < 5 then d.conv.phase = s.dev.conv.phase ∧ d.conv.trigSeq = s.dev.conv.trigSeq
  else if s.dev.anyUndervoltage = true then d.conv.phase = 0 ∧ d.conv.failPhase = 6 ∧ ((s.dev.ready t).roomFor 1 → d.EventWaits "EV_CHARGE_FAIL" [6, 1])
  else if Par.stPcV s.dev.P = 0 then d.conv.trigSeq = some (stCharged, 2) else d.conv.phase = 7 ∧ d.conv.pcStep = 0) ∧
  (∀ (s : State) (t : Tick), Gives (exec (.preChargeDwellEnd t) s) s.pending fun d =>
        if s.dev.preCharging = false ∨ s.dev.conv.pcStep ≠ 1 ∨ (s.dev.ready t).past s.dev.conv.phaseFrom (msT (Par.stPcDwell s.dev.P)) = false then d.conv.phase = s.dev.conv.phase ∧ d.conv.pcStep = s.dev.conv.pcStep
  else if (s.dev.ready t).preChargeOk = true then d.conv.pcStep = 2 ∧ d.conv.phase = 7
  else d.conv.phase = 0 ∧ d.conv.failPhase = 7 ∧ ((s.dev.ready t).roomFor 1 → d.EventWaits "EV_CHARGE_FAIL" [7, 2]))

/-- Sampling, auxiliary and Gust sequences, references and comparators complete with their effect. FILTER_CHAIN_OUTPUT takes the cycle's words and leaves none; a stream that has no word among them stays as it is. AUX_SEQUENCE_START by the host, in continuous operation, or at aux_offset in a cycle whose number aux_every divides (which cycles these are is the model's choice, log 119), with a list and none running: the sequence runs from its first entry; otherwise the converter is as it was. ATRIG_EDGE: a level held for the pin's minimum width is the pin's level; a shorter one is ignored and starts nothing. AUX_ENTRY_END of the entry under way, not aborted and clear of the cycle sequence: the next entry begins, or the sequence has ended; otherwise the converter is as it was. GUST_COMPLETE, with every entry held clear of the cycle sequence and its time over: the Gust ends with its first sample's instant, and one that waited begins; before that the converter is as it was. GUST_REQUEST_WRITE: each converter named whose Gust list is not empty runs its Gust from now, over an auxiliary entry that it aborts, or has one waiting behind the one that runs, or, with one waiting, marks the request dropped; the others stay as they are. COMPARATOR_LEVEL_CHANGE: the input, and both levels against their windows with the hysteresis. SPARE_DAC_SWITCH, with thresholds waiting: the comparator takes the thresholds in force; with none it is as it was. REFERENCE_SETTLE_END with the reading inside the window: the reference has settled; otherwise the group is as it was. REFERENCE_SETTLE_TIMEOUT: 10 ms after the start without success the group has REF_FAULT with EV_MEAS_REF_FAULT, and its comparators' hard levels are forced outside; before that, or with the fault there, the group is as it was. SETP_PULSE_EDGE at a new level: a rising edge that ends a phase of the minimum length is an edge counted, the end of a shorter phase is counted as ignored; at the old level nothing changes. -/
def Obligations.SamplingAndGustCommandsComplete : Prop :=
  (∀ (s : State) (t : Tick) (flips : List (Nat × BitVec 32)), Gives (exec (.filterChainOutput t flips) s) s.pending fun d =>
        d.meas.cycleWords = [] ∧ d.now = max t s.dev.now ∧ (∀ x, (∀ w ∈ s.dev.meas.cycleWords, w.stream ≠ x) → d.meas.streams.getD x Stream.reset = s.dev.meas.streams.getD x Stream.reset)) ∧
  (∀ (s : State) (t : Tick) (n : Fin 16), n.val < s.dev.meas.adcs.length →
      Gives (exec (.auxSequenceStart t n) s) s.pending fun d =>
        let k := Par.measAdcAuxStart s.dev.P n
  let due := k = 6 ∨ k = 7 ∨ (k = 1 ∧ ((max t s.dev.now : Nat) : Rat) = (s.dev.cycle.eK : Rat) + usT (Par.measAdcAuxOffset s.dev.P n) ∧ s.dev.cycle.k % Par.measAdcAuxEvery s.dev.P n = 0)
  if due ∧ s.dev.auxList n ≠ [] ∧ (s.dev.adc n).auxRunning = false then (d.adc n).auxRunning = true ∧ (d.adc n).auxPos = 0 ∧ (d.adc n).auxEntryStart = max t s.dev.now ∧ (d.adc n).auxAborted = (s.dev.adc n).gustRunning
  else d.adc n = s.dev.adc n) ∧
  (∀ (s : State) (t : Tick) (pin : Fin 4) (rising : Bool) (heldNs : Rat), pin.val < s.dev.meas.atrigLevel.length →
      Gives (exec (.atrigEdge t pin rising heldNs) s) s.pending fun d =>
        if heldNs < Par.measAtrigMinWidth s.dev.P pin then d.meas.atrigLevel = s.dev.meas.atrigLevel ∧ d.meas.adcs = s.dev.meas.adcs else d.meas.atrigLevel.getD pin false = rising) ∧
  (∀ (s : State) (t : Tick) (n : Fin 16) (codes : List (BitVec 16)) (flip : BitVec 32), n.val < s.dev.meas.adcs.length →
      Gives (exec (.auxEntryEnd t n codes flip) s) s.pending fun d =>
        let a := s.dev.adc n
  ((s.dev.auxList n)[a.auxPos]? = none → d.adc n = a) ∧ ∀ e, (s.dev.auxList n)[a.auxPos]? = some e →
    if a.auxRunning = true ∧ a.auxAborted = false ∧ (s.dev.ready t).entryFits n a.auxEntryStart (80 * 2 ^ seqAvg e) = true then
      (d.adc n).auxPos = a.auxPos + 1 ∧ (d.adc n).auxEntryStart = max t s.dev.now ∧ (d.adc n).auxRunning = decide (a.auxPos + 1 < (s.dev.auxList n).length)
    else d.adc n = a) ∧
  (∀ (s : State) (t : Tick) (n : Fin 16) (codes : List (List (BitVec 16))), n.val < s.dev.meas.adcs.length →
      Gives (exec (.gustComplete t n codes) s) s.pending fun d =>
        let a := s.dev.adc n
  let x := s.dev.gustStarts n a.gustFrom (s.dev.gustList n)
  if a.gustRunning = true ∧ x.2 ≤ max t s.dev.now then
    (d.adc n).gustRunning = a.gustPending ∧ (d.adc n).gustPending = false ∧ (d.adc n).gustRes.length = a.gustRes.length ∧ (d.adc n).gustFirst = x.1.headD (max t s.dev.now)
  else d.adc n = a) ∧
  (∀ (s : State) (t : Tick) (v : BitVec 32), Gives (exec (.gustRequestWrite t v) s) s.pending fun d =>
        ∀ n < 16, n < s.dev.meas.adcs.length → let a := s.dev.adc n
  if v.getLsbD n = false ∨ (s.dev.gustList n).isEmpty = true then d.adc n = a
  else (d.adc n).gustRunning = true ∧ (a.gustRunning = false → (d.adc n).gustFrom = max t s.dev.now ∧ (d.adc n).auxAborted = a.auxRunning) ∧
    (a.gustRunning = true → (d.adc n).gustPending = true ∧ (a.gustPending = true → (d.adc n).gustDrop = true))) ∧
  (∀ (s : State) (t : Tick) (j : Fin 12) (x : Rat), j.val < s.dev.meas.cmps.length →
      Gives (exec (.comparatorLevelChange t j x) s) s.pending fun d =>
        (let c := s.dev.cmp j; let hy := 16 * Par.measCmpHyst s.dev.P j; (d.cmp j).input = x ∧ (d.cmp j).fastOut = levelOutside c.fastOut c.fastLo c.fastHi hy x ∧ (d.cmp j).hardOut = ((s.dev.grp (j / 4)).fault || levelOutside c.hardOut c.hardLo c.hardHi hy x))) ∧
  (∀ (s : State) (t : Tick) (j : Fin 12), j.val < s.dev.meas.cmps.length →
      Gives (exec (.spareDacSwitch t j) s) s.pending fun d =>
        let p := s.dev.P
  if (s.dev.cmp j).switchFrom = none then d.cmp j = s.dev.cmp j
  else (d.cmp j).switchFrom = none ∧ (d.cmp j).fastLo = Par.measCmpFastLo p j ∧ (d.cmp j).fastHi = Par.measCmpFastHi p j ∧ (d.cmp j).hardLo = Par.measCmpHardLo p j ∧ (d.cmp j).hardHi = Par.measCmpHardHi p j) ∧
  (∀ (s : State) (t : Tick) (g : Fin 4) (reading : Rat), g.val < s.dev.meas.groups.length →
      Gives (exec (.referenceSettleEnd t g reading) s) s.pending fun d =>
        if (s.dev.grp g).settling = true ∧ rabs reading ≤ Par.measGroupRefWindow s.dev.P g then (d.grp g).settled = true ∧ (d.grp g).settling = false else d.grp g = s.dev.grp g) ∧
  (∀ (s : State) (t : Tick) (g : Fin 4), g.val < s.dev.meas.groups.length →
      Gives (exec (.referenceSettleTimeout t g) s) s.pending fun d =>
        if (s.dev.grp g).settling = true ∧ (s.dev.grp g).fault = false ∧ (s.dev.ready t).past (s.dev.grp g).settleStart (msT 10) = true then
    (d.grp g).fault = true ∧ (d.grp g).settling = false ∧ ((s.dev.ready t).roomFor 1 → d.EventWaits "EV_MEAS_REF_FAULT" [(g.val : Int)]) ∧ ∀ j < 12, j / 4 = g.val → j < s.dev.meas.cmps.length → (d.cmp j).hardOut = true
  else d.grp g = s.dev.grp g) ∧
  (∀ (s : State) (t : Tick) (rising : Bool), Gives (exec (.setpPulseEdge t rising) s) s.pending fun d =>
        if s.dev.meas.setp.level = rising then d.meas = s.dev.meas
  else d.meas.setp.level = rising ∧ d.meas.setp.phaseStart = max t s.dev.now ∧ (if (s.dev.ready t).past s.dev.meas.setp.phaseStart (nsT (Par.measSetpPulseMin s.dev.P)) then d.meas.setp.ignored = s.dev.meas.setp.ignored ∧ d.meas.setp.edges = (if rising then max t s.dev.now :: s.dev.meas.setp.edges else s.dev.meas.setp.edges) else d.meas.setp.ignored = inc16 s.dev.meas.setp.ignored ∧ d.meas.setp.edges = s.dev.meas.setp.edges))

/-- The control law's evaluation and its timeouts complete with their effect. RAFTER_LAW_EVALUATION, once a cycle: its clock cycles enter the largest load; without failure the law is evaluated, with one its code is reported by Rafter, and the law is not. SETP_RECOVERED after gf.setp.recover free of every failing condition: the source is restored, and EV_SETP_RECOVERED is raised; before that the law stands. RT_SYNC_LOST after rt.slip_cycles raises EV_RT_SYNC_LOST and makes the control trip, source 42, active: a clear latch is SET and the arms are blocked; before that neither changes. RIDE_EXIT after rt.exit_time: RIDE ends, active-current recovery goes on while i_a_rec lies below rt.i_max, and EV_RT_EXIT is raised; before that RIDE stands. RIDE_TIMEOUT after rt.max_time in RIDE raises EV_RT_TIMEOUT and makes source 42 active in the same way; otherwise it does not. RECOVERY_END outside RIDE with i_a_rec at rt.i_max: active-current recovery ends; otherwise it goes on. FEEDBACK_SENSOR_FAULT: every sensor suspect for gf.plaus.count cycles is faulty, with its event, and no other changes. SENSOR_READMISSION of a rearmed faulty sensor after gf.plaus.rearm cycles of agreement: the sensor is used again; any other stands. SENSORLESS_EXIT in sensorless operation, with a sensor selected on every phase for gf.plaus.count cycles: it ends, and EV_SENSORLESS_EXIT is raised; otherwise the law stands. SENSORLESS_TRIP at gf.plaus.sensorless_max of the running law raises EV_SENSORLESS_TRIP and makes source 42 active; before that it does not. -/
def Obligations.ControlLawCommandsComplete : Prop :=
  (∀ (s : State) (t : Tick) (clocks : Nat) (fail : Fin 3), Gives (exec (.rafterLawEvaluation t clocks fail) s) s.pending fun d =>
        if s.dev.law.evaluated = true then d.law = s.dev.law
  else d.law.loadMax = max s.dev.law.loadMax (min clocks 4095) ∧ (fail = 0 → d.law.evaluated = true) ∧ (fail ≠ 0 → d.law.evaluated = false) ∧ (fail = 1 → s.dev.eh.Idle → d.eh.Handles 0x0010 1 (s.dev.codeClass 0x0010)) ∧ (fail = 2 → s.dev.eh.Idle → d.eh.Handles 0x0011 1 (s.dev.codeClass 0x0011))) ∧
  (∀ (s : State) (t : Tick) (target : Fin 2), Gives (exec (.setpRecovered t target) s) s.pending fun d =>
        let x := if target.val = 1 then s.dev.law.st.q else s.dev.law.st.p
  let y := if target.val = 1 then d.law.st.q else d.law.st.p
  if x.failed = true ∧ (s.dev.ready t).pastOpt x.goodFrom (msT (Par.gfSetpRecover s.dev.P)) = true then y.failed = false ∧ y.goodFrom = none ∧ ((s.dev.ready t).roomFor 1 → d.EventWaits "EV_SETP_RECOVERED" [(target.val : Int)])
  else d.law = s.dev.law) ∧
  (∀ (s : State) (t : Tick), 42 < s.dev.prot.srcs.length →
      Gives (exec (.rtSyncLost t) s) s.pending fun d =>
        if Par.rtSlipCycles s.dev.P ≤ s.dev.grid.ride.slip ∧ s.dev.grid.ride.slip ≠ 0 then d.grid.ride.slip = 0 ∧ ((s.dev.ready t).roomFor 1 → d.EventWaits "EV_RT_SYNC_LOST" []) ∧ (d.srcAt 42).active = true ∧ ((s.dev.srcAt 42).active = false → (s.dev.srcAt 42).latch = 0 → (d.srcAt 42).latch = 1 ∧ d.prot.blocked = true)
  else d.grid.ride = s.dev.grid.ride ∧ d.srcAt 42 = s.dev.srcAt 42) ∧
  (∀ (s : State) (t : Tick), Gives (exec (.rideExit t) s) s.pending fun d =>
        if s.dev.grid.ride.active = true ∧ (s.dev.ready t).pastOpt s.dev.grid.ride.exitFrom (msT (Par.rtExitTime s.dev.P)) = true then
    d.grid.ride.active = false ∧ d.grid.ride.exitFrom = none ∧ d.grid.ride.kFloor = false ∧ d.grid.ride.negInj = false ∧ d.grid.ride.recovery = decide (s.dev.grid.ride.iARec < Par.rtIMax s.dev.P) ∧ ((s.dev.ready t).roomFor 1 → d.EventWaits "EV_RT_EXIT" [])
  else d.grid.ride = s.dev.grid.ride) ∧
  (∀ (s : State) (t : Tick), 42 < s.dev.prot.srcs.length →
      Gives (exec (.rideTimeout t) s) s.pending fun d =>
        if s.dev.grid.ride.active = true ∧ (s.dev.ready t).past s.dev.grid.ride.since (sT (Par.rtMaxTime s.dev.P)) = true then ((s.dev.ready t).roomFor 1 → d.EventWaits "EV_RT_TIMEOUT" []) ∧ (d.srcAt 42).active = true ∧ ((s.dev.srcAt 42).active = false → (s.dev.srcAt 42).latch = 0 → (d.srcAt 42).latch = 1 ∧ d.prot.blocked = true)
  else d.srcAt 42 = s.dev.srcAt 42) ∧
  (∀ (s : State) (t : Tick), Gives (exec (.recoveryEnd t) s) s.pending fun d =>
        d.grid.ride = { s.dev.grid.ride with recovery := s.dev.grid.ride.recovery && (s.dev.grid.ride.active || decide (s.dev.grid.ride.iARec < Par.rtIMax s.dev.P)) }) ∧
  (∀ (s : State) (t : Tick), s.dev.law.sensors.length = 12 →
      Gives (exec (.feedbackSensorFault t) s) s.pending fun d =>
        (∀ x ∈ s.dev.suspects, d.law.sensors.getD x Sensor.reset = { faulty := true, rearmed := false, agree := 0 } ∧ ((s.dev.ready t).roomFor 13 → d.EventWaits "EV_FEEDBACK_SENSOR_FAULT" [(x : Int)])) ∧ (∀ x, x ∉ s.dev.suspects → d.law.sensors.getD x Sensor.reset = s.dev.law.sensors.getD x Sensor.reset)) ∧
  (∀ (s : State) (t : Tick) (sensor : Fin 12), sensor.val < s.dev.law.sensors.length →
      Gives (exec (.sensorReadmission t sensor) s) s.pending fun d =>
        let x := s.dev.law.sensors.getD sensor Sensor.reset
  d.law.sensors.getD sensor Sensor.reset = if x.faulty = true ∧ x.rearmed = true ∧ Par.gfPlausRearm s.dev.P ≤ x.agree then { faulty := false, rearmed := false, agree := 0 } else x) ∧
  (∀ (s : State) (t : Tick), Gives (exec (.sensorlessExit t) s) s.pending fun d =>
        if s.dev.law.slCnt ≠ 0 ∧ Par.gfPlausCount s.dev.P ≤ s.dev.law.slGood then d.law.slI = false ∧ d.law.slV = false ∧ d.law.slCnt = 0 ∧ d.law.slGood = 0 ∧ ((s.dev.ready t).roomFor 1 → d.EventWaits "EV_SENSORLESS_EXIT" [])
  else d.law = s.dev.law) ∧
  (∀ (s : State) (t : Tick), 42 < s.dev.prot.srcs.length →
      Gives (exec (.sensorlessTrip t) s) s.pending fun d =>
        if s.dev.law.running = true ∧ Par.gfPlausSensorlessMax s.dev.P ≤ s.dev.law.slCnt then ((s.dev.ready t).roomFor 1 → d.EventWaits "EV_SENSORLESS_TRIP" []) ∧ (d.srcAt 42).active = true ∧ ((s.dev.srcAt 42).active = false → (s.dev.srcAt 42).latch = 0 → (d.srcAt 42).latch = 1 ∧ d.prot.blocked = true)
  else d.srcAt 42 = s.dev.srcAt 42)

/-- A move starts, passes to its next segment and ends. MOVE_START of a free axis whose oldest queued move is due, a host's in RUN or MAINT alone: the move leaves the queue and its first segment begins; a frozen base starts from offset 0; otherwise the queue and the axes stand. SEGMENT_START at the end of a segment that another follows: the next one begins, from the point that the axis holds; otherwise the axis is as it was. MOVE_END with the last segment done: the axis has no move, and returns to TRACK, or stays on the final offset of a locked move; otherwise the axis is as it was. -/
def Obligations.MovesStartAdvanceAndEnd : Prop :=
  (∀ (s : State) (t : Tick) (axis : Fin 2), Gives (exec (.moveStart t axis) s) s.pending fun d =>
        let q := s.dev.grid.tr.queue.find? fun x => x.amp == (axis.val == 1)
  (q = none → d.grid.tr = s.dev.grid.tr) ∧ ∀ m, q = some m →
    if (∀ i, m.start = some i → i ≤ max t s.dev.now) ∧ (m.host = false ∨ s.dev.conv.state = stRun ∨ s.dev.conv.state = stMaint) ∧ (s.dev.axis (axis.val == 1)).move = none then
      (d.axis (axis.val == 1)).move = some m ∧ (d.axis (axis.val == 1)).mode = (if m.locked then 2 else 1) ∧ (d.axis (axis.val == 1)).seg = 0 ∧ (d.axis (axis.val == 1)).segAt = 0 ∧ (m.locked = false → (d.axis (axis.val == 1)).off = 0 ∧ (d.axis (axis.val == 1)).offVel = 0) ∧ d.grid.tr.queue = s.dev.grid.tr.queue.erase m
    else d.grid.tr = s.dev.grid.tr) ∧
  (∀ (s : State) (t : Tick) (axis : Fin 2), Gives (exec (.segmentStart t axis) s) s.pending fun d =>
        let a := s.dev.axis (axis.val == 1)
  let b := d.axis (axis.val == 1)
  (a.move = none → b = a) ∧ ∀ m, a.move = some m →
    if a.segDur ≤ a.segAt ∧ a.seg + 1 < m.segs.length then b.seg = a.seg + 1 ∧ b.segAt = 0 ∧ b.move = some m ∧ b.pos0 = a.off ∧ b.vel0 = a.offVel else b = a) ∧
  (∀ (s : State) (t : Tick) (axis : Fin 2), Gives (exec (.moveEnd t axis) s) s.pending fun d =>
        let a := s.dev.axis (axis.val == 1)
  let b := d.axis (axis.val == 1)
  (a.move = none → b = a) ∧ ∀ m, a.move = some m →
    if a.segDur ≤ a.segAt ∧ m.segs.length ≤ a.seg + 1 then b.move = none ∧ (m.locked = false → b.mode = 0) ∧ (m.locked = true → b.mode = a.mode ∧ b.off = a.off) else b = a)

/-- Breaker contacts, positions and close outputs complete with their effect. BREAKER_CONTACT_CHANGE held past the filter: the contact's filtered level, from now, its transition noted, its debounced state as it was; with chatter the breaker is FAULTY; a level not held so long, or the filtered one again, changes nothing. BREAKER_DEBOUNCE_DONE after brk[b].debounce: the filtered level is the debounced state, and the position is that of Table 4-3; before that nothing changes. BREAKER_DISCREPANCY after more than brk[b].disc_time in TRAVEL: the breaker is FAULTY, with EV_BRK_POS_FAULT; otherwise nothing changes. CLOSE_PULSE_EXPIRY brk[b].close_pulse after assertion: the output is released at the next boundary; before that the breaker is as it was. CLOSE_MAX_EXPIRY with CLOSED not reached brk[b].close_max after assertion: the command has failed with EV_BRK_CLOSE_FAIL, and a landing is aborted with reason 6; otherwise nothing changes. -/
def Obligations.BreakerCommandsComplete : Prop :=
  (∀ (s : State) (t : Tick) (b : Fin 2) (c : Fin 2) (level : Bool × Nat), b.val < s.dev.grid.brk.length →
      Gives (exec (.breakerContactChange t b c level) s) s.pending fun d =>
        let x := (s.dev.brkAt b).contact c
  if x.filt = level.1 ∨ level.2 < Par.protBrkFilt s.dev.P then d.grid = s.dev.grid
  else let trans := noteTransition x.trans (max t s.dev.now) (Par.brkChatterN s.dev.P b)
    (d.brkAt b).contact c = { x with filt := level.1, filtFrom := some (max t s.dev.now), trans := trans } ∧
    (chatters trans (Par.brkChatterN s.dev.P b) (msT (Par.brkChatterWin s.dev.P b)) = true → (d.brkAt b).chatFault = true ∧ (d.brkAt b).position = 3) ∧
    (chatters trans (Par.brkChatterN s.dev.P b) (msT (Par.brkChatterWin s.dev.P b)) = false → (d.brkAt b).chatFault = (s.dev.brkAt b).chatFault)) ∧
  (∀ (s : State) (t : Tick) (b : Fin 2) (c : Fin 2), b.val < s.dev.grid.brk.length →
      Gives (exec (.breakerDebounceDone t b c) s) s.pending fun d =>
        let x := (s.dev.brkAt b).contact c
  if x.deb ≠ some x.filt ∧ (s.dev.ready t).past (x.filtFrom.getD 0) (msT (Par.brkDebounce s.dev.P b)) = true then
    ((d.brkAt b).contact c).deb = some x.filt ∧ (d.brkAt b).pos = (d.brkAt b).position else d.grid = s.dev.grid) ∧
  (∀ (s : State) (t : Tick) (b : Fin 2), b.val < s.dev.grid.brk.length →
      Gives (exec (.breakerDiscrepancy t b) s) s.pending fun d =>
        let x := s.dev.brkAt b
  (x.travelFrom = none → d.grid = s.dev.grid) ∧ ∀ f, x.travelFrom = some f →
    if x.discFault = false ∧ (s.dev.ready t).pastBeyond f (msT (Par.brkDiscTime s.dev.P b)) = true then
      (d.brkAt b).discFault = true ∧ (d.brkAt b).position = 3 ∧ (d.brkAt b).pos = 3 ∧ ((s.dev.ready t).roomFor 4 → d.EventWaits "EV_BRK_POS_FAULT" [(b.val : Int), 0]) else d.grid = s.dev.grid) ∧
  (∀ (s : State) (t : Tick) (b : Fin 2), b.val < s.dev.grid.brk.length →
      Gives (exec (.closePulseExpiry t b) s) s.pending fun d =>
        let x := s.dev.brkAt b
  d.brkAt b = { x with release := x.release || (x.closeOut && (s.dev.ready t).past x.closeFrom (msT (Par.brkClosePulse s.dev.P b))) }) ∧
  (∀ (s : State) (t : Tick) (b : Fin 2), b.val < s.dev.grid.brk.length →
      Gives (exec (.closeMaxExpiry t b) s) s.pending fun d =>
        let x := s.dev.brkAt b
  if x.closePend = true ∧ (s.dev.ready t).past x.closeFrom (msT (Par.brkCloseMax s.dev.P b)) = true then
    (d.brkAt b).closePend = false ∧ ((s.dev.ready t).roomFor 1 → d.EventWaits "EV_BRK_CLOSE_FAIL" [(b.val : Int)]) ∧ (s.dev.landing = true → d.grid.seq.phase = 10 ∧ d.grid.seq.abort = 6) ∧ (s.dev.landing = false → d.grid.seq = s.dev.grid.seq)
  else d.grid = s.dev.grid)

/-- The steps of a black start complete with their effect. BS_DEAD_CONFIRMED after bs.dead_time: from BS_CONFIRM the hold-off begins with its drawn length, and EV_BS_HOLDOFF carries it with the attempt; from BS_WAIT_LIVE BS_CONFIRM begins with a further attempt; otherwise the sequence stands. BS_HOLDOFF_END at the end of the hold-off: on a bus that is dead at the last look BS_CLOSING begins, and the main breaker is commanded to close, by a Standby not; otherwise BS_WAIT_LIVE begins; before the end the sequence stands. BS_BUS_BAND_CHANGE: the band; a bus no longer dead in BS_CONFIRM or BS_HOLDOFF moves the sequence to BS_WAIT_LIVE; one that turns live in BS_CLOSING with the breaker not closed is caught, with EV_BS_LATE_LIVE; no other phase changes. BS_LIVE_CONFIRMED after bs.live_time in BS_WAIT_LIVE requests LANDING; before that it requests nothing. BS_CONFIRM_TIMEOUT after bs.confirm_max in BS_WAIT_LIVE without a live bus ends the black start with reason 3; otherwise the sequence stands. BS_ENERGISE_TIMEOUT beyond bs.energise_max ends the black start with reason 5 and makes the control trip, source 42, active: a clear latch is SET and the arms are blocked; before that neither changes. -/
def Obligations.BlackStartSequenceCommandsComplete : Prop :=
  (∀ (s : State) (t : Tick), Gives (exec (.bsDeadConfirmed t) s) s.pending fun d =>
        let q := s.dev.grid.seq
  if (s.dev.ready t).pastOpt (laterOf q.deadFrom q.since) (msT (Par.bsDeadTime s.dev.P)) = false ∨ (q.phase ≠ 1 ∧ q.phase ≠ 3) then d.grid.seq = q
  else if q.phase = 1 then d.grid.seq.phase = 2 ∧ d.grid.seq.since = max t s.dev.now ∧ d.grid.seq.holdoff = s.dev.holdoffMs q.attempts.toNat ∧ ((s.dev.ready t).roomFor 1 → d.EventWaits "EV_BS_HOLDOFF" [((s.dev.ready t).quant (s.dev.holdoffMs q.attempts.toNat)).1, (q.attempts.toNat : Int)])
  else d.grid.seq.phase = 1 ∧ d.grid.seq.since = max t s.dev.now ∧ d.grid.seq.attempts = q.attempts + 1) ∧
  (∀ (s : State) (t : Tick), s.dev.grid.brk ≠ [] →
      Gives (exec (.bsHoldoffEnd t) s) s.pending fun d =>
        let q := s.dev.grid.seq
  if q.phase ≠ 2 ∨ (s.dev.ready t).past q.since (msT q.holdoff) = false then d.grid.seq = q ∧ d.grid.brk = s.dev.grid.brk
  else if (s.dev.ready t).busBand = 0 then d.grid.seq.phase = 4 ∧ d.grid.seq.since = max t s.dev.now ∧ (s.dev.standby = false → (d.brkAt 0).closeReq = true)
  else d.grid.seq.phase = 3 ∧ d.grid.seq.since = max t s.dev.now ∧ d.grid.brk = s.dev.grid.brk) ∧
  (∀ (s : State) (t : Tick), Gives (exec (.bsBusBandChange t) s) s.pending fun d =>
        let q := s.dev.grid.seq
  let band := (s.dev.ready t).busBand
  d.grid.seq.band = band ∧
  (if (q.phase = 1 ∨ q.phase = 2) ∧ band ≠ 0 then d.grid.seq.phase = 3 ∧ d.grid.seq.since = max t s.dev.now
   else d.grid.seq.phase = q.phase ∧ (q.phase = 4 → band = 2 → q.caught = false → s.dev.mbClosed = false → d.grid.seq.caught = true ∧ ((s.dev.ready t).roomFor 1 → d.EventWaits "EV_BS_LATE_LIVE" [])))) ∧
  (∀ (s : State) (t : Tick), Gives (exec (.bsLiveConfirmed t) s) s.pending fun d =>
        d.grid = s.dev.grid ∧ d.conv.trigSeq = if s.dev.grid.seq.phase = 3 ∧ (s.dev.ready t).pastOpt (laterOf s.dev.grid.seq.liveFrom s.dev.grid.seq.since) (msT (Par.bsLiveTime s.dev.P)) = true then some (stLanding, 4) else s.dev.conv.trigSeq) ∧
  (∀ (s : State) (t : Tick), Gives (exec (.bsConfirmTimeout t) s) s.pending fun d =>
        let q := s.dev.grid.seq
  if q.phase = 3 ∧ q.liveFrom = none ∧ (s.dev.ready t).past q.since (sT (Par.bsConfirmMax s.dev.P)) = true then d.grid.seq.phase = 0 ∧ d.grid.seq.abort = 3 ∧ d.grid.seq.caught = false
  else d.grid.seq = q) ∧
  (∀ (s : State) (t : Tick), 42 < s.dev.prot.srcs.length →
      Gives (exec (.bsEnergiseTimeout t) s) s.pending fun d =>
        if s.dev.grid.seq.phase = 5 ∧ (s.dev.ready t).pastBeyond s.dev.grid.seq.since (sT (Par.bsEnergiseMax s.dev.P)) = true then d.grid.seq.phase = 0 ∧ d.grid.seq.abort = 5 ∧ (d.srcAt 42).active = true ∧ ((s.dev.srcAt 42).active = false → (s.dev.srcAt 42).latch = 0 → (d.srcAt 42).latch = 1 ∧ d.prot.blocked = true)
  else d.grid.seq = s.dev.grid.seq ∧ d.srcAt 42 = s.dev.srcAt 42)

/-- The steps of a landing complete with their effect. LAND_TRIM_STEP in LAND_TRIM at its time: the next step follows land.trim_time later; outside the window one locked move per axis is queued, over land.trim_time, that takes the angle and the voltage difference out; otherwise the sequence and the queue stand. LAND_DWELL_COMPLETE after land.dwell in the window: LAND_CLOSE begins, and the main breaker is commanded to close, by a Standby not; before that nothing changes. LAND_TIMEOUT at land.time_max with no close command aborts the landing with reason 5 and raises EV_LAND_ABORT; otherwise nothing changes. LAND_ABORT_HOLD_END after land.abort_hold in the abort hold: E ramps down; before that it does not. -/
def Obligations.LandingSequenceCommandsComplete : Prop :=
  (∀ (s : State) (t : Tick), Gives (exec (.landTrimStep t) s) s.pending fun d =>
        let q := s.dev.grid.seq
  let inside := rabs q.dV ≤ Par.landDvMax s.dev.P ∧ rabs q.dTheta ≤ Par.landDthetaMax s.dev.P
  if q.phase ≠ 7 ∨ max t s.dev.now < q.trimAt then d.grid.seq = q ∧ d.grid.tr.queue = s.dev.grid.tr.queue
  else d.grid.seq.trimAt = max t s.dev.now + d.cyclesOf (Par.landTrimTime d.P) * s.dev.tc ∧
    d.grid.tr.queue.map (fun m => (m.amp, m.locked, m.host, m.start, m.segs.map fun x => (x.dur, x.pos, x.vel))) = s.dev.grid.tr.queue.map (fun m => (m.amp, m.locked, m.host, m.start, m.segs.map fun x => (x.dur, x.pos, x.vel))) ++
      (if inside then [] else [(false, true, false, none, [(d.cyclesOf (Par.landTrimTime d.P), (s.dev.axis false).off - q.dTheta / 360, 0)]),
        (true, true, false, none, [(d.cyclesOf (Par.landTrimTime d.P), (s.dev.axis true).off - (if s.dev.grid.ride.vPos = 0 then 0 else q.dV / s.dev.grid.ride.vPos), 0)])])) ∧
  (∀ (s : State) (t : Tick), s.dev.grid.brk ≠ [] →
      Gives (exec (.landDwellComplete t) s) s.pending fun d =>
        if s.dev.grid.seq.phase = 8 ∧ (s.dev.ready t).pastOpt s.dev.grid.seq.dwellFrom (msT (Par.landDwell s.dev.P)) = true then d.grid.seq.phase = 9 ∧ d.grid.seq.since = max t s.dev.now ∧ (s.dev.standby = false → (d.brkAt 0).closeReq = true)
  else d.grid = s.dev.grid) ∧
  (∀ (s : State) (t : Tick), Gives (exec (.landTimeout t) s) s.pending fun d =>
        if 6 ≤ s.dev.grid.seq.phase ∧ s.dev.grid.seq.phase ≤ 8 ∧ (s.dev.ready t).past s.dev.grid.seq.entry (sT (Par.landTimeMax s.dev.P)) = true then
    d.grid.seq.phase = 10 ∧ d.grid.seq.abort = 5 ∧ d.grid.seq.since = max t s.dev.now ∧ ((s.dev.ready t).roomFor 1 → d.EventWaits "EV_LAND_ABORT" [5]) else d.grid = s.dev.grid) ∧
  (∀ (s : State) (t : Tick), Gives (exec (.landAbortHoldEnd t) s) s.pending fun d =>
        d.grid.seq = { s.dev.grid.seq with rampDown := s.dev.grid.seq.rampDown || (decide (s.dev.grid.seq.phase = 10) && (s.dev.ready t).past s.dev.grid.seq.since (msT (Par.landAbortHold s.dev.P))) })

/-- BMS transmission, observer rounds and the meter's store complete with their effect. BMS_TRANSMIT_FRAME at the end of a period of the pack's profile: the frame, with its rolling counter, joins the cell's queue, in a full one in place of the oldest of the same frame, and the next period begins; before that, with a period of 0, or with no profile, nothing changes. PACK_SELECT_WRITE selects the cell of bits 8 to 0, latches its six registers, its tenancy number the last, and sets READY. OBSERVER_ROUND_START once the engine has integrated the window: the packs with a profile are updated, all but the last ones that stalls leave outstanding, on a Standby that takes the Active's results none, and the longest round is kept; before that nothing in the packs changes. OBSERVER_ROUND_LATE at the next round's start: the packs still outstanding skip the round and are counted; with none, or before it, nothing in the packs changes. METER_BANK_WRITE_DONE of the bank under write: one that reads back is the bank, one that does not is counted with EV_METER_PERSIST_FAIL, and the second in a row is reported to an idle handler, code 0x0050; the other bank is next; with none under write nothing in the meter changes. SNAPSHOT_SIGNED of a frozen record ends the snapshot and completes its command: AUTH, check 6, with a bad key store; DMA where the transfer fails; OK with the length, signature included, and the sequence number; a snapshot not yet frozen waits on. -/
def Obligations.PackObserverAndMeterCommandsComplete : Prop :=
  (∀ (s : State) (t : Tick) (cell : Fin 384) (q : Fin 2), s.dev.packs.packs.length = 384 →
      s.dev.link.nodes.length = 384 →
      Gives (exec (.bmsTransmitFrame t cell q) s) s.pending fun d =>
        let k := s.dev.pack cell
  let old := (s.dev.node cell).down
  (k.profile = none → d.pack cell = k ∧ (d.node cell).down = old) ∧ ∀ p, k.profile = some p →
    let period := bits (Par.profTxCtl s.dev.P p q) 23 8
    let cnt := Par.profTxCounter s.dev.P p q
    let id := Par.profTxId s.dev.P p q
    let f : DownFrame := { fr := { owner := cell.val % 32, up := false, ide := bit id 29, dlc := min 8 (bits (Par.profTxCtl s.dev.P p q) 3 0), canId := BitVec.ofNat 29 id, data := txData (Par.profTxDataLo s.dev.P p q) (Par.profTxDataHi s.dev.P p q) cnt (k.txRoll.getD q 0), stamp := 0 }, tx := q.val }
    if period = 0 ∨ max t s.dev.now < k.txNext.getD q 0 then d.pack cell = k ∧ (d.node cell).down = old
    else (d.pack cell).txNext = k.txNext.set q (max t s.dev.now + period * 800000) ∧ (d.pack cell).txRoll = k.txRoll.set q ((k.txRoll.getD q 0 + 1) % 2 ^ bits cnt 9 6) ∧
      (d.node cell).down = if old.length < 16 then old ++ [f] else if (old.any fun x => x.tx == q.val) then old.eraseIdx (old.findIdx fun x => x.tx == q.val) ++ [f] else old) ∧
  (∀ (s : State) (t : Tick) (v : BitVec 32), Gives (exec (.packSelectWrite t v) s) s.pending fun d =>
        d.packs.sel = v.toNat % 512 ∧ d.packs.selReady = true ∧ d.packs.selRegs.length = 6 ∧ d.packs.selRegs.getD 5 0 = BitVec.ofNat 32 (s.dev.pack (v.toNat % 512)).ten.number ∧ d.packs.packs = s.dev.packs.packs) ∧
  (∀ (s : State) (t : Tick) (left : Fin 385) (us : BitVec 16), Gives (exec (.observerRoundStart t left us) s) s.pending fun d =>
        let cells := if s.dev.straps.twinEn = true ∧ s.dev.twin.active = false ∧ s.dev.twin.obsArriving = true then [] else s.dev.roundCells
  if (s.dev.ready t).meteredTo ((s.dev.packs.roundN + 1) * 800000) = false then d.packs = s.dev.packs
  else d.packs.roundN = s.dev.packs.roundN + 1 ∧ d.packs.outstanding = cells.drop (cells.length - left.val) ∧ d.packs.roundMax = max s.dev.packs.roundMax us.toNat) ∧
  (∀ (s : State) (t : Tick), Gives (exec (.observerRoundLate t) s) s.pending fun d =>
        let o := s.dev.packs.outstanding
  if o = [] ∨ max t s.dev.now < (s.dev.packs.roundN + 1) * 800000 then d.packs = s.dev.packs
  else d.packs.outstanding = [] ∧ d.packs.obsSkipped = true ∧ d.packs.skip = sat32 (s.dev.packs.skip + o.length) ∧ ∀ c ∈ o, c < s.dev.packs.packs.length → (d.pack c).obs.skipped = true) ∧
  (∀ (s : State) (t : Tick) (ok : Bool), s.dev.meter.next < s.dev.meter.banks.length →
      Gives (exec (.meterBankWriteDone t ok) s) s.pending fun d =>
        (s.dev.meter.writing = none → d.meter = s.dev.meter) ∧ ∀ k, s.dev.meter.writing = some k →
  d.meter.writing = none ∧ d.meter.next = 1 - s.dev.meter.next ∧ (if ok then d.meter.banks.getD s.dev.meter.next Bank.reset = k ∧ d.meter.last = s.dev.meter.next ∧ d.meter.failRun = 0
    else d.meter.banks = s.dev.meter.banks ∧ d.meter.failRun = s.dev.meter.failRun + 1 ∧ d.meter.pfail = inc32 s.dev.meter.pfail ∧ d.meter.failSince = true ∧
      ((s.dev.ready t).roomFor 1 → d.EventWaits "EV_METER_PERSIST_FAIL" [(s.dev.meter.next : Int)]) ∧ (s.dev.meter.failRun = 1 → s.dev.eh.Idle → d.eh.Handles 0x0050 0 (s.dev.codeClass 0x0050)))) ∧
  (∀ (s : State) (t : Tick) (dmaOk : Bool) (x : Snapshot), s.dev.meter.snap = some x →
      Gives (exec (.snapshotSigned t dmaOk) s) s.pending fun d =>
        if x.frozen = false then d.meter = s.dev.meter
  else d.meter.snap = none ∧ (s.dev.Answers x.hdr → (s.dev.sec.keyBad = true → Device.Completed s.dev d x.hdr (.auth 6)) ∧ (s.dev.sec.keyBad = false → dmaOk = false → Device.Completed s.dev d x.hdr (.dma 0)) ∧
    (s.dev.sec.keyBad = false → dmaOk = true → Device.Completed s.dev d x.hdr (.ok (x.record.length + 4 + 1280 + 2 ^ 32 * s.dev.meter.snapSeq)))))

/-- Safety inputs and outputs with their tests complete with their effect. SAFETY_INPUT_CHANGE: the pin's level, and, held for its filter's threshold while Bailsil runs, the filtered level; a shorter level, or one while Bailsil does not run, changes no input. SIN_DISCREPANCY beyond saf.sin[n].disc_time while Bailsil runs: the input is FAULTY, with EV_SIN_FAULT, cause 0; otherwise nothing in Bailsil changes. TPA_TPB_TEST_PULSE, 10 ms after the output's last one, TPB 5 ms after TPA: its pulse begins now, and masks the channels that it feeds; before that, or while Bailsil does not run, there is none. SIN_PULSE_MISSED of a pulsed input whose channel did not fall within 50 µs of its pulse (cause 2), or fell with the other channel's pulse (cause 3): the input is FAULTY, with EV_SIN_FAULT; otherwise nothing in Bailsil changes. TEST_PULSE_START of an energised output in its slot, n times 16 ms into every 100 ms: the test runs, and not both of its switches are on; otherwise no test begins. TEST_PULSE_END after saf.test_w: a test into which a demand fell is discarded and repeated, a passing one is counted and the other switch is next, a failing one makes the output FAULTY with EV_SOUT_FAULT and the switch; before that nothing in Bailsil changes. SOUT_READBACK_MISMATCH of an output in use read on while off, or off for longer than saf.test_w while on: it is FAULTY and off, with EV_SOUT_FAULT; otherwise nothing in Bailsil changes. SWITCH_CHECK_DONE: a check that passes after both switches were driven alone for saf.test_w lets the output energise, a failing one, of the low side in its own half, makes it FAULTY; otherwise nothing in Bailsil changes. -/
def Obligations.SafetyInputAndOutputCommandsComplete : Prop :=
  (∀ (s : State) (t : Tick) (n : Fin 4) (chB level : Bool) (heldNs : Rat), s.dev.safety.ins.length = 4 →
      s.dev.safety.pinsA.length = 4 →
      s.dev.safety.pinsB.length = 4 →
      Gives (exec (.safetyInputChange t n chB level heldNs) s) s.pending fun d =>
        (if chB then d.safety.pinsB else d.safety.pinsA).getD n false = level ∧
  (if s.dev.bslRuns = true ∧ s.dev.sinFilter n chB ≤ heldNs then (if chB then (d.sin n).b else (d.sin n).a) = level else d.safety.ins = s.dev.safety.ins)) ∧
  (∀ (s : State) (t : Tick) (n : Fin 4), s.dev.safety.ins.length = 4 →
      Gives (exec (.sinDiscrepancy t n) s) s.pending fun d =>
        (s.dev.bslRuns = false ∨ (s.dev.sin n).discFrom = none → d.safety = s.dev.safety) ∧ ∀ f, (s.dev.sin n).discFrom = some f → s.dev.bslRuns = true →
  if (s.dev.ready t).pastBeyond f (msT (Par.safSinDiscTime s.dev.safety.par n)) = true then (d.sin n).faulty = true ∧ ((s.dev.sin n).faulty = false → ((s.dev.ready t).roomFor 1 → d.EventWaits "EV_SIN_FAULT" [(n.val : Int), 0])) else d.safety = s.dev.safety) ∧
  (∀ (s : State) (t : Tick) (tpb : Bool), Gives (exec (.tpaTpbTestPulse t tpb) s) s.pending fun d =>
        let last := if tpb then s.dev.safety.tpb else s.dev.safety.tpa
  if s.dev.bslRuns = true ∧ (last = none ∨ (s.dev.ready t).pastOpt last (msT 10) = true) ∧ (tpb = true → (s.dev.ready t).pastOpt s.dev.safety.tpa (msT 5) = true) then
    (if tpb then d.safety.tpb = some (max t s.dev.now) ∧ d.safety.tpa = s.dev.safety.tpa else d.safety.tpa = some (max t s.dev.now) ∧ d.safety.tpb = s.dev.safety.tpb)
  else d.safety = s.dev.safety) ∧
  (∀ (s : State) (t : Tick) (n : Fin 4) (chB cross : Bool), s.dev.safety.ins.length = 4 →
      Gives (exec (.sinPulseMissed t n chB cross) s) s.pending fun d =>
        let x := s.dev.sin n
  let level := if chB then x.b else x.a
  let fell := if chB then x.fellB else x.fellA
  let pulse := if chB != cross then s.dev.safety.tpb else s.dev.safety.tpa
  (pulse = none → d.safety = s.dev.safety) ∧ ∀ p, pulse = some p →
    if s.dev.bslRuns = true ∧ Par.safSinType s.dev.safety.par n = 3 ∧ (if cross then crossLow p level fell (if chB then x.roseB else x.roseA) else (s.dev.ready t).pulseMissed p level fell) = true
    then (d.sin n).faulty = true ∧ (x.faulty = false → ((s.dev.ready t).roomFor 1 → d.EventWaits "EV_SIN_FAULT" [(n.val : Int), if cross then 3 else 2])) else d.safety = s.dev.safety) ∧
  (∀ (s : State) (t : Tick) (n : Fin 6), s.dev.safety.outs.length = 6 →
      Gives (exec (.testPulseStart t n) s) s.pending fun d =>
        if s.dev.bslRuns = true ∧ (s.dev.sout n).hs = true ∧ (s.dev.sout n).ls = true ∧ (s.dev.sout n).testing = false ∧ (max t s.dev.now) % 80000000 = n.val * 12800000 then
    (d.sout n).testing = true ∧ (d.sout n).testFrom = max t s.dev.now ∧ ((d.sout n).hs && (d.sout n).ls) = false
  else d.safety = s.dev.safety) ∧
  (∀ (s : State) (t : Tick) (n : Fin 6) (pass : Bool), s.dev.safety.outs.length = 6 →
      Gives (exec (.testPulseEnd t n pass) s) s.pending fun d =>
        let x := s.dev.sout n
  if s.dev.bslRuns = true ∧ x.testing = true ∧ (s.dev.ready t).past x.testFrom (usT (Par.safTestW s.dev.safety.par)) = true then
    (d.sout n).testing = false ∧ (if x.testVoid then (d.sout n).repeat_ = true ∧ d.safety.tdisc = inc16 s.dev.safety.tdisc
      else if pass then (d.sout n).testLs = !x.testLs ∧ d.safety.tests = inc32 s.dev.safety.tests
      else (d.sout n).faulty = true ∧ d.safety.tfail = inc16 s.dev.safety.tfail ∧ ((s.dev.ready t).roomFor 1 → d.EventWaits "EV_SOUT_FAULT" [(n.val : Int), (x.testLs.toNat : Int)]))
  else d.safety = s.dev.safety) ∧
  (∀ (s : State) (t : Tick) (n : Fin 6) (on ls : Bool), s.dev.safety.outs.length = 6 →
      Gives (exec (.soutReadbackMismatch t n on ls) s) s.pending fun d =>
        let x := s.dev.sout n
  if s.dev.bslRuns = true ∧ x.faulty = false ∧ Par.safSoutFunc s.dev.safety.par n ≠ 0 ∧ (x.hs && x.ls) ≠ on ∧ (on = true ∨ (s.dev.ready t).pastBeyond x.onFrom (usT (Par.safTestW s.dev.safety.par)) = true) then
    (d.sout n).faulty = true ∧ (d.sout n).hs = false ∧ (d.sout n).ls = false ∧ ((s.dev.ready t).roomFor 1 → d.EventWaits "EV_SOUT_FAULT" [(n.val : Int), if on then (ls.toNat : Int) else 2])
  else d.safety = s.dev.safety) ∧
  (∀ (s : State) (t : Tick) (n : Fin 6) (pass ls : Bool), s.dev.safety.outs.length = 6 →
      Gives (exec (.switchCheckDone t n pass ls) s) s.pending fun d =>
        let x := s.dev.sout n
  let w := usT (Par.safTestW s.dev.safety.par)
  if s.dev.bslRuns = true ∧ x.checking = true ∧ x.faulty = false ∧ (s.dev.ready t).pastOpt x.checkFrom (if pass then 2 * w else if ls then w else 0) = true then
    (d.sout n).checking = false ∧ (d.sout n).checked = pass ∧ (d.sout n).faulty = !pass else d.safety = s.dev.safety)

/-- Channel comparison, heartbeat, fall-back, SCI and SLP supervision complete with their effect. CHANNEL_COMPARISON while Bailsil runs: failures in a row are counted, and at the second of either Bailsil is in safe hold with every output off, and EV_SAFE_HOLD is raised; otherwise nothing in Bailsil changes. HEARTBEAT with a new number is valid from now; channel P's vector, the device's own but for the bits that the operand turns over, is held, a difference lasts from its first heartbeat on, and a function that P alone demands is demanded; in fall-back, while Bailsil does not run, or with the old number nothing in Bailsil changes. HEARTBEAT_TIMEOUT 50 µs after the last one: fall-back with cause 1, in which SPI and the functions of saf.fb_sbt are demanded, and, outside a device reset, the error handler is stopped and EV_SAFE_FALLBACK raised; otherwise nothing in Bailsil changes. LOCKSTEP_MISMATCH: the same with cause 2; in fall-back, or while Bailsil does not run, nothing in Bailsil changes. CHANNEL_DISAGREEMENT_TIMEOUT after 1 ms of difference: the same with cause 3; before that nothing in Bailsil changes. SCI_DELAY_EXPIRY saf.sci.delay after the latch: isolation is done, and the cells to confirm are those of the used rings; before that nothing in Bailsil changes. SCI_CONFIRM_EXPIRY after saf.sci.confirm: the confirmed and the unconfirmable cells are counted, and EV_SCI_DONE carries both with the unconfirmed; before that nothing in Bailsil changes. SLP_MONITOR outside fall-back: the limit's target, a limit below it goes there at once and never falls below it, the mean starts anew; a mean that cannot be formed, or lies beyond the limit, begins or goes on with the time over it, and after saf.slp.time the function is demanded. SAFE_REMIND at every further 10 s of an active demand: EV_SAFE_REMIND carries the function, the source and the seconds, and is counted; otherwise nothing in Bailsil changes. -/
def Obligations.BailsilMonitoringAndFallbackCommandsComplete : Prop :=
  (∀ (s : State) (t : Tick) (differs oscBad : Bool), Gives (exec (.channelComparison t differs oscBad) s) s.pending fun d =>
        if s.dev.bslRuns = false then d.safety = s.dev.safety
  else d.safety.abDiff = (if differs then s.dev.safety.abDiff + 1 else 0) ∧ d.safety.oscBad = (if oscBad then s.dev.safety.oscBad + 1 else 0) ∧
    (2 ≤ d.safety.abDiff ∨ 2 ≤ d.safety.oscBad → d.safety.safeHold = true ∧ (∀ o ∈ d.safety.outs, o.hs = false ∧ o.ls = false) ∧ ((s.dev.ready t).roomFor 1 → d.EventWaits "EV_SAFE_HOLD" []))) ∧
  (∀ (s : State) (t : Tick) (flip : BitVec 4) (seq : Nat), Gives (exec (.heartbeat t flip seq) s) s.pending fun d =>
        let own := ((s.dev.ready t).demandSet 0 9 s.dev.safety.pvHold).ownVector
  if s.dev.safety.fallback = true ∨ s.dev.bslRuns = false ∨ seq = s.dev.safety.hbSeq then d.safety = s.dev.safety
  else d.safety.hbSeq = seq ∧ d.safety.hbAt = max t s.dev.now ∧ d.safety.pVector = own ^^^ flip ∧
    d.safety.pDiffFrom = (if flip = 0 then none else some (s.dev.safety.pDiffFrom.getD (max t s.dev.now))) ∧
    ∀ fn < 4, d.hasDemand fn 11 = (flip.getLsbD fn && !own.getLsbD fn)) ∧
  (∀ (s : State) (t : Tick), Gives (exec (.heartbeatTimeout t) s) s.pending fun d =>
        if s.dev.safety.hbOn = true ∧ (s.dev.ready t).past s.dev.safety.hbAt (usT 50) = true ∧ s.dev.safety.fallback = false ∧ s.dev.bslRuns = true then d.safety.fallback = true ∧ d.safety.fbCause = 1 ∧ d.hasDemand 0 6 = true ∧ (∀ b < 2, bit (Par.safFbSbt s.dev.safety.par) b = true → d.hasDemand (1 + b) 6 = true) ∧ (s.dev.conv.devReset = false → d.eh.stopped = true ∧ ((s.dev.ready t).roomFor 1 → d.EventWaits "EV_SAFE_FALLBACK" [1]))
  else d.safety = s.dev.safety) ∧
  (∀ (s : State) (t : Tick), Gives (exec (.lockstepMismatch t) s) s.pending fun d =>
        if s.dev.safety.fallback = false ∧ s.dev.bslRuns = true then d.safety.fallback = true ∧ d.safety.fbCause = 2 ∧ d.hasDemand 0 6 = true ∧ (∀ b < 2, bit (Par.safFbSbt s.dev.safety.par) b = true → d.hasDemand (1 + b) 6 = true) ∧ (s.dev.conv.devReset = false → d.eh.stopped = true ∧ ((s.dev.ready t).roomFor 1 → d.EventWaits "EV_SAFE_FALLBACK" [2]))
  else d.safety = s.dev.safety) ∧
  (∀ (s : State) (t : Tick), Gives (exec (.channelDisagreementTimeout t) s) s.pending fun d =>
        if (s.dev.ready t).pastOpt s.dev.safety.pDiffFrom (msT 1) = true ∧ s.dev.safety.fallback = false ∧ s.dev.bslRuns = true then d.safety.fallback = true ∧ d.safety.fbCause = 3 ∧ d.hasDemand 0 6 = true ∧ (∀ b < 2, bit (Par.safFbSbt s.dev.safety.par) b = true → d.hasDemand (1 + b) 6 = true) ∧ (s.dev.conv.devReset = false → d.eh.stopped = true ∧ ((s.dev.ready t).roomFor 1 → d.EventWaits "EV_SAFE_FALLBACK" [3]))
  else d.safety = s.dev.safety) ∧
  (∀ (s : State) (t : Tick), Gives (exec (.sciDelayExpiry t) s) s.pending fun d =>
        if s.dev.bslRuns = true ∧ (s.dev.ready t).pastOpt s.dev.safety.sciFrom (msT (Par.safSciDelay s.dev.safety.par)) = true then
    d.safety.sciFrom = none ∧ d.safety.sciDone = true ∧ d.safety.sciOffAt = some (max t s.dev.now) ∧ d.safety.sciCells = s.dev.usedCells else d.safety = s.dev.safety) ∧
  (∀ (s : State) (t : Tick), Gives (exec (.sciConfirmExpiry t) s) s.pending fun d =>
        (s.dev.safety.sciOffAt = none → d.safety = s.dev.safety) ∧ ∀ off, s.dev.safety.sciOffAt = some off →
  if (s.dev.ready t).past off (sT (Par.safSciConfirm s.dev.P)) = false then d.safety = s.dev.safety
  else let n := fun k => (s.dev.safety.sciCells.filter fun c => (s.dev.ready t).sciClass c off == k).length
    d.safety.sciOffAt = none ∧ d.safety.sciConf = n 0 ∧ d.safety.sciUncf = n 2 ∧ ((s.dev.ready t).roomFor 1 → d.EventWaits "EV_SCI_DONE" [(n 0 : Int), (n 1 : Int), (n 2 : Int)])) ∧
  (∀ (s : State) (t : Tick), Gives (exec (.slpMonitor t) s) s.pending fun d =>
        let f := s.dev.safety
  if f.fallback = true ∨ s.dev.conv.up = false then d.safety = s.dev.safety
  else let target := if f.slpReduced then Par.safSlpLimitLo s.dev.P else Par.safSlpLimitHi s.dev.P
    d.safety.slpTarget = target ∧ d.safety.slpSum = [] ∧ (f.slpLimit ≤ target → d.safety.slpLimit = target) ∧ target ≤ d.safety.slpLimit ∧
    (f.slpSum = [] ∨ (f.slpSum.any fun x => !x.2.2) = true ∨ d.safety.slpLimit < rabs d.safety.slpPower → d.safety.slpFrom = some (f.slpFrom.getD (max t s.dev.now))) ∧
    ((s.dev.ready t).pastOpt d.safety.slpFrom (msT (Par.safSlpTime s.dev.P)) = true → d.safety.slpDemand = true)) ∧
  (∀ (s : State) (t : Tick) (fn : Fin 4) (src : Fin 12), Gives (exec (.safeRemind t fn src) s) s.pending fun d =>
        let y := s.dev.safety.demands.find? fun x => x.fn == fn.val && x.src == src.val
  (y = none → d.safety = s.dev.safety) ∧ ∀ x, y = some x →
    if (s.dev.ready t).past x.since (sT (10 * ((x.reminded + 1 : Nat) : Rat))) = false then d.safety = s.dev.safety
    else d.safety.demands = (s.dev.safety.demands.map fun y => if y = x then { y with reminded := x.reminded + 1 } else y) ∧ ((s.dev.ready t).roomFor 1 → d.EventWaits "EV_SAFE_REMIND" [(fn.val : Int), (src.val : Int), ((10 * (x.reminded + 1) : Nat) : Int)]))

/-- Safe-channel PDUs and the safe-channel watchdog complete with their effect. SAFE_CHANNEL_PDU takes the oldest PDU; with the channel enabled and Bailsil running, outside RUN a START of number 1 whose check holds starts the connection, and in RUN a PDU inside the window after the last number whose check holds is accepted: its permits apply, and it is answered with number 1 or the next; a duplicate changes nothing, any other is discarded and counted, one whose check fails as such. SAFE_CHANNEL_WATCHDOG_EXPIRY of the enabled channel in RUN: the connection has EXPIRED, with EV_SC_EXPIRED, the expiry is counted, and the functions of saf.sc_tmo_action are demanded; otherwise nothing in Bailsil changes. -/
def Obligations.SafeChannelCommandsComplete : Prop :=
  (∀ (s : State) (t : Tick) (pdu : BitVec 192) (rest : List (BitVec 192)), s.dev.net.scRx = pdu :: rest →
      Gives (exec (.safeChannelPdu t) s) s.pending fun d =>
        let b := pduBytes pdu
  let c := s.dev.safety.sc
  let start := bit (leField b 1 1) 0
  let gap := (leField b 2 2 + 65536 - c.cnRx.toNat % 65536) % 65536
  let cn := (c.cnRx.toNat + gap) % 2 ^ 32
  d.net.scRx = rest ∧
  (if s.dev.bslRuns = false ∨ Par.safScEnable s.dev.safety.par = false then d.safety = s.dev.safety
   else if leField b 0 1 ≠ 0x31 then d.safety.sc = { c with discards := inc16 c.discards }
   else if c.state = 2 then
     if start = true then d.safety.sc = { c with discards := inc16 c.discards }
     else if gap = 0 then d.safety = s.dev.safety
     else if Par.safScWindow s.dev.safety.par < gap then d.safety.sc = { c with discards := inc16 c.discards }
     else if s.dev.pduCheck cn b ≠ leField b 20 4 then d.safety.sc = { c with badCheck := inc16 c.badCheck }
     else d.safety.sc.state = 2 ∧ d.safety.sc.cnRx = BitVec.ofNat 32 cn ∧ d.safety.sc.lastAt = max t s.dev.now ∧ d.safety.sc.permit = BitVec.ofNat 5 (leField b 4 1) ∧ d.safety.sc.rx = inc32 c.rx ∧ d.safety.sc.cnTx = c.cnTx + 1
   else if start = false ∨ leField b 2 2 ≠ 1 then d.safety.sc = { c with discards := inc16 c.discards }
   else if s.dev.pduCheck 1 b ≠ leField b 20 4 then d.safety.sc = { c with badCheck := inc16 c.badCheck }
   else d.safety.sc.state = 2 ∧ d.safety.sc.cnRx = BitVec.ofNat 32 1 ∧ d.safety.sc.lastAt = max t s.dev.now ∧ d.safety.sc.permit = BitVec.ofNat 5 (leField b 4 1) ∧ d.safety.sc.rx = inc32 c.rx ∧ d.safety.sc.cnTx = 1)) ∧
  (∀ (s : State) (t : Tick), Gives (exec (.safeChannelWatchdogExpiry t) s) s.pending fun d =>
        let act := Par.safScTmoAction s.dev.safety.par
  if s.dev.bslRuns = true ∧ Par.safScEnable s.dev.safety.par = true ∧ s.dev.safety.sc.state = 2 ∧ (s.dev.ready t).past s.dev.safety.sc.lastAt (msT (Par.safScWatchdog s.dev.safety.par)) = true then
    d.safety.sc.state = 3 ∧ d.safety.sc.expiries = inc16 s.dev.safety.sc.expiries ∧ d.safety.sc.expired = s.dev.safety.sc.expired ||| BitVec.ofNat 4 act ∧ ((s.dev.ready t).roomFor 1 → d.EventWaits "EV_SC_EXPIRED" []) ∧ ∀ fn < 4, bit act fn = true → d.hasDemand fn 5 = true
  else d.safety = s.dev.safety)

/-- Mardal lanes, beacon, time probe, digest, health and role of a twin complete with their effect. MARDAL_LANE_DOWN of a lane that is up: the lane is down; with both down, a member that has been READY becomes time master; of one that is down nothing changes. MARDAL_LANE_UP of a lane that is down, in a pair, the MDL PLL locked: the lane is up; otherwise nothing in the twin changes. BEACON: without a pair or a lane up no block is taken; one whose CRC fails is counted and no more; while an identity conflict stands none is acted on (so for every block below). A beacon of the member's own identity is a conflict, with EV_TWIN_ID_CONFLICT; the peer's is kept. TIME_PROBE: the delay; a time master is aligned with itself, and so is a member whose peer is none; a slave that has sent no frame and set no time takes the master's cycle number; one that has is aligned within 1 ns. DIGEST_BLOCK: whether the committed set's digest and the firmware version equal the peer's; a difference is counted. HEALTH_TOGGLE: while HEALTH is on, 10 µs after its last change it toggles, and no sooner; of a member whose HEALTH is off it is low. ARB_GRANT_CHANGE in a pair, of a level that has stood for 1 µs: the filtered grant, from now; otherwise the twin stands. TWIN_ROLE_CHANGE at a cycle boundary: a Standby that is READY or shadowing, granted 0.5 µs before it, is Active, one that is neither refuses the grant with EV_TWIN_GRANT_REFUSED; an Active that must give way, or without grant while its peer shows ACTIVE, is Standby; a change is counted and raises EV_TWIN_ROLE; otherwise, and between boundaries, the role stands. -/
def Obligations.TwinLinkAndTimeCommandsComplete : Prop :=
  (∀ (s : State) (t : Tick) (lane : Fin 2), Gives (exec (.mardalLaneDown t lane) s) s.pending fun d =>
        let w := s.dev.twin
  if w.lanes.getD lane false = false then d.twin = w
  else d.twin.lanes = w.lanes.set lane false ∧ (d.twin.lanes.any id = false → d.twin.lanesDownFrom = some (max t s.dev.now) ∧ ((w.timeMaster || w.everReady) = true → d.twin.timeMaster = true))) ∧
  (∀ (s : State) (t : Tick) (lane : Fin 2), Gives (exec (.mardalLaneUp t lane) s) s.pending fun d =>
        if s.dev.straps.twinEn = true ∧ (s.dev.pll 3).locked = true ∧ s.dev.twin.lanes.getD lane false = false then d.twin.lanes = s.dev.twin.lanes.set lane true ∧ d.twin.lanesDownFrom = none
  else d.twin = s.dev.twin) ∧
  (∀ (s : State) (t : Tick) (good : Bool) (x : PeerBeacon), Gives (exec (.beacon t good x) s) s.pending fun d =>
        if s.dev.straps.twinEn = false ∨ s.dev.linkUp = false then d.twin = s.dev.twin
  else if good = false then d.twin = { s.dev.twin with crc := inc32 s.dev.twin.crc }
  else if s.dev.twin.idConflict = true then d.twin = s.dev.twin
  else if x.twinId = s.dev.straps.twinId then d.twin.idConflict = true ∧ ((s.dev.ready t).roomFor 1 → d.EventWaits "EV_TWIN_ID_CONFLICT" []) else d.twin.beacon = some x ∧ d.twin.beaconNow = true) ∧
  (∀ (s : State) (t : Tick) (good : Bool) (delay ofs : Rat) (cyc : Nat), Gives (exec (.timeProbe t good delay ofs cyc) s) s.pending fun d =>
        if s.dev.straps.twinEn = false ∨ s.dev.linkUp = false then d.twin = s.dev.twin
  else if good = false then d.twin = { s.dev.twin with crc := inc32 s.dev.twin.crc }
  else if s.dev.twin.idConflict = true then d.twin = s.dev.twin
  else let w := s.dev.twin
    let peer := (w.beacon.map PeerBeacon.timeMaster).getD false
    d.twin.delay = delay ∧
    (if w.timeMaster = true then d.twin.aligned = true ∧ d.twin.ctbOfs = 0
     else if peer = false then d.twin.aligned = true ∧ d.twin.ctbOfs = ofs
     else if w.timeSet = false ∧ w.everReady = false ∧ s.dev.link.tx = [] then d.cycle.k = cyc ∧ d.twin.timeSet = true ∧ d.twin.aligned = true ∧ d.twin.ctbOfs = 0
     else d.twin.timeSet = true ∧ d.twin.ctbOfs = ofs ∧ (d.twin.timeMaster = false → d.twin.aligned = (!s.dev.clk.alignFail && decide (rabs ofs ≤ 1))))) ∧
  (∀ (s : State) (t : Tick) (good : Bool) (set : BitVec 256) (fw : BitVec 32), Gives (exec (.digestBlock t good set fw) s) s.pending fun d =>
        if s.dev.straps.twinEn = false ∨ s.dev.linkUp = false then d.twin = s.dev.twin
  else if good = false then d.twin = { s.dev.twin with crc := inc32 s.dev.twin.crc }
  else if s.dev.twin.idConflict = true then d.twin = s.dev.twin
  else d.twin.digestEqual = (packBytes 256 (setDigest s.dev.par.committed) == set && s.dev.sec.imgVersion == fw) ∧ d.twin.digCnt = if d.twin.digestEqual then s.dev.twin.digCnt else inc16 s.dev.twin.digCnt) ∧
  (∀ (s : State) (t : Tick), Gives (exec (.healthToggle t) s) s.pending fun d =>
        (d.twin.healthOn = true → (s.dev.ready t).past s.dev.twin.healthAt (usT 10) = true → d.twin.health = !s.dev.twin.health ∧ d.twin.healthAt = max t s.dev.now) ∧
  (d.twin.healthOn = true → (s.dev.ready t).past s.dev.twin.healthAt (usT 10) = false → d.twin.health = s.dev.twin.health ∧ d.twin.healthAt = s.dev.twin.healthAt) ∧
  (d.twin.healthOn = false → s.dev.straps.twinEn = true → d.twin.health = false)) ∧
  (∀ (s : State) (t : Tick) (level : Bool) (heldNs : Rat), Gives (exec (.arbGrantChange t level heldNs) s) s.pending fun d =>
        d.twin = if s.dev.straps.twinEn = true ∧ 1000 ≤ heldNs ∧ s.dev.twin.grant ≠ level then { s.dev.twin with grant := level, grantAt := max t s.dev.now, refused := false } else s.dev.twin) ∧
  (∀ (s : State) (t : Tick), Gives (exec (.twinRoleChange t) s) s.pending fun d =>
        let w := s.dev.twin
  if s.dev.straps.twinEn = false ∨ max t s.dev.now ≠ s.dev.cycle.eK then d.twin = w
  else if w.active = false then
    if w.grant = false ∨ w.refused = true ∨ s.dev.cycle.eK < w.grantAt + 400 then d.twin = w
    else if w.ready = true ∨ w.serving = true then d.twin.active = true ∧ d.twin.roleChg = inc16 w.roleChg ∧ d.twin.shadowRun = 0 ∧ ((s.dev.ready t).roomFor 1 → d.EventWaits "EV_TWIN_ROLE" [1])
    else d.twin = { w with refused := true } ∧ ((s.dev.ready t).roomFor 1 → d.EventWaits "EV_TWIN_GRANT_REFUSED" [])
  else if w.demote = true ∨ (w.grant = false ∧ s.dev.peerActive = true) then d.twin.active = false ∧ d.twin.roleChg = inc16 w.roleChg ∧ d.twin.demote = false ∧ ((s.dev.ready t).roomFor 1 → d.EventWaits "EV_TWIN_ROLE" [0])
  else d.twin = w)

/-- The twin's mirror blocks, schedule checks and decision complete with their effect. No block is taken without a pair and a lane up; one whose CRC fails is only counted; an identity conflict stops them; at an Active none acts but where said. LAW_CHECKPOINT: a Standby holds the Active's checkpoint. BATTEN_INPUTS: likewise the inputs. MARDAL_ARM_RECORD: a Standby holds the Active's record of the arm for the cycle in progress, and of no other. SCHEDULE_CHECK: likewise the arm's check. STREAM_BLOCK, at either: each stream with a new output is compared with the peer's; outputs in a row beyond the tolerance, or within it, are counted, twin.meas_count beyond it mark the stream; the others stand. STATUS_BLOCK, at either: every slot whose check holds, of a present cell, which the own receivers did not validate is used, provisionally. OBSERVER_BLOCK: the pack's observer and the cell's table entry, but for its own V_dc, are the Active's. METER_BLOCK: the cell's tenancy is the Active's, and its counters are the Active's at the CTB second plus the own integration since. BATTEN_STATE_BLOCK: the arm's state and the circulating loop's are the Active's, its parts are noted, and with the last cell the arm is mirrored. TWIN_DEADLINE at the Active, 1.7 µs before the load-all: every arm has its schedule, one without the edges sent last; else none changes. TWIN_DECISION at a Standby, 0.2 µs before the load-all: while it is READY and aligned and its shadow time has not run out, each arm's slots are the relayed ones where the check holds, these shifted after a notice, or the shadow ones where no Active serves and the permission stands; else none are sent; at another time, or at an Active, the twin stands. SHADOW_EXPIRED of a Standby after twin.shadow_max cycles without a grant: the shadow and its permission have ended, with EV_TWIN_SHADOW_EXPIRED, and the permission comes back only with READY; else the twin stands. CTB_SECOND once the engine has integrated the second: every cell's counters are frozen, and the next bank is written; before that the meter stands. -/
def Obligations.TwinMirrorAndScheduleCommandsComplete : Prop :=
  (∀ (s : State) (t : Tick) (good : Bool) (cyc : Nat) (st : LawStates), Gives (exec (.lawCheckpoint t good cyc st) s) s.pending fun d =>
        if s.dev.straps.twinEn = false ∨ s.dev.linkUp = false then d.twin = s.dev.twin
  else if good = false then d.twin = { s.dev.twin with crc := inc32 s.dev.twin.crc }
  else if s.dev.twin.idConflict = true then d.twin = s.dev.twin
  else if s.dev.twin.active = true then d.twin.ckpt = s.dev.twin.ckpt else d.twin.ckpt = some (cyc, st) ∧ d.twin.ckptSeen = true) ∧
  (∀ (s : State) (t : Tick) (good : Bool) (cyc : Nat) (cells : List (Rat × Nat)), Gives (exec (.battenInputs t good cyc cells) s) s.pending fun d =>
        if s.dev.straps.twinEn = false ∨ s.dev.linkUp = false then d.twin = s.dev.twin
  else if good = false then d.twin = { s.dev.twin with crc := inc32 s.dev.twin.crc }
  else if s.dev.twin.idConflict = true then d.twin = s.dev.twin
  else d.twin.inputs = if s.dev.twin.active then s.dev.twin.inputs else some (cyc, cells)) ∧
  (∀ (s : State) (t : Tick) (cyc : Option Nat) (arm : Fin 3) (r : ArmRecord), s.dev.twin.arms.length = 3 →
      Gives (exec (.mardalArmRecord t cyc arm r) s) s.pending fun d =>
        if s.dev.straps.twinEn = false ∨ s.dev.linkUp = false then d.twin = s.dev.twin
  else if cyc = none then d.twin = { s.dev.twin with crc := inc32 s.dev.twin.crc }
  else if s.dev.twin.idConflict = true then d.twin = s.dev.twin
  else (d.tArm arm).record = if s.dev.twin.active = false ∧ s.dev.ofCycle cyc = true then some r else (s.dev.tArm arm).record) ∧
  (∀ (s : State) (t : Tick) (cyc : Option Nat) (arm : Fin 3) (notice resume : Bool) (crc : BitVec 32), s.dev.twin.arms.length = 3 →
      Gives (exec (.scheduleCheck t cyc arm notice resume crc) s) s.pending fun d =>
        if s.dev.straps.twinEn = false ∨ s.dev.linkUp = false then d.twin = s.dev.twin
  else if cyc = none then d.twin = { s.dev.twin with crc := inc32 s.dev.twin.crc }
  else if s.dev.twin.idConflict = true then d.twin = s.dev.twin
  else (d.tArm arm).check = if s.dev.twin.active = false ∧ s.dev.ofCycle cyc = true then some (notice, resume, crc) else (s.dev.tArm arm).check) ∧
  (∀ (s : State) (t : Tick) (good : Bool) (vals : List Int), s.dev.twin.streams.length = 64 →
      Gives (exec (.streamBlock t good vals) s) s.pending fun d =>
        if s.dev.straps.twinEn = false ∨ s.dev.linkUp = false then d.twin = s.dev.twin
  else if good = false then d.twin = { s.dev.twin with crc := inc32 s.dev.twin.crc }
  else if s.dev.twin.idConflict = true then d.twin = s.dev.twin
  else ∀ x < 64, x < vals.length → let o := s.dev.twin.streams.getD x TwinStream.reset
    let n := d.twin.streams.getD x TwinStream.reset
    let far := decide (Par.twinMeasTol s.dev.P * s.dev.streamBase x < rabs ((((s.dev.strm x).out - vals.getD x 0 : Int) : Rat) / 256))
    if (s.dev.strm x).outs = o.seen then n = o
    else n.peer = vals.getD x 0 ∧ n.seen = (s.dev.strm x).outs ∧ n.differ = (if far then o.differ + 1 else 0) ∧ n.agree = (if far then 0 else o.agree + 1) ∧ (far = true → Par.twinMeasCount s.dev.P ≤ o.differ + 1 → n.dev = true)) ∧
  (∀ (s : State) (t : Tick) (good : Bool) (ring : Fin 12) (seq : BitVec 16) (bytes : List (BitVec 8)), Gives (exec (.statusBlock t good ring seq bytes) s) s.pending fun d =>
        if s.dev.straps.twinEn = false ∨ s.dev.linkUp = false then d.twin = s.dev.twin
  else if good = false then d.twin = { s.dev.twin with crc := inc32 s.dev.twin.crc }
  else if s.dev.twin.idConflict = true then d.twin = s.dev.twin
  else ∀ p < 32, let slot := (bytes.drop (24 * p)).take 24
    leField slot 22 2 = crc16 (recPrefix seq.toNat ring.val ++ leBytes 1 p ++ slot.take 22) → (s.dev.node (32 * ring.val + p)).info.present = true →
    ((s.dev.node (32 * ring.val + p)).lastSeq ≠ seq ∨ (s.dev.node (32 * ring.val + p)).last = none) → ∃ r ∈ d.prov, r.ring = 12 ∧ (32 * ring.val + p, statusOf slot) ∈ r.slots) ∧
  (∀ (s : State) (t : Tick) (good : Bool) (cell : Fin 384) (obs : Observer) (row : CellRow), s.dev.packs.packs.length = 384 →
      s.dev.modu.cells.length = 384 →
      Gives (exec (.observerBlock t good cell obs row) s) s.pending fun d =>
        if s.dev.straps.twinEn = false ∨ s.dev.linkUp = false then d.twin = s.dev.twin
  else if good = false then d.twin = { s.dev.twin with crc := inc32 s.dev.twin.crc }
  else if s.dev.twin.idConflict = true then d.twin = s.dev.twin
  else if s.dev.twin.active = true then d.pack cell = s.dev.pack cell else (d.pack cell).obs = obs ∧ (d.mcell cell).row = { row with vdc := (s.dev.mcell cell).row.vdc } ∧ cell.val ∈ d.twin.obsMirrored ∧ d.twin.obsArriving = true) ∧
  (∀ (s : State) (t : Tick) (good : Bool) (cell : Fin 384) (cnt : PackCounters) (ten : Tenancy), s.dev.packs.packs.length = 384 →
      Gives (exec (.meterBlock t good cell cnt ten) s) s.pending fun d =>
        if s.dev.straps.twinEn = false ∨ s.dev.linkUp = false then d.twin = s.dev.twin
  else if good = false then d.twin = { s.dev.twin with crc := inc32 s.dev.twin.crc }
  else if s.dev.twin.idConflict = true then d.twin = s.dev.twin
  else if s.dev.twin.active = true then d.pack cell = s.dev.pack cell else let own := s.dev.twin.ownAtSec.getD cell PackCounters.reset
    let p := (s.dev.pack cell).cnt
    (d.pack cell).ten = ten ∧ (d.pack cell).cnt.qDis = cnt.qDis + (p.qDis - own.qDis) ∧ (d.pack cell).cnt.qChg = cnt.qChg + (p.qChg - own.qChg) ∧ (d.pack cell).cnt.eDis = cnt.eDis + (p.eDis - own.eDis) ∧
      (d.pack cell).cnt.eChg = cnt.eChg + (p.eChg - own.eChg) ∧ cell.val ∈ d.twin.meterCells) ∧
  (∀ (s : State) (t : Tick) (good : Bool) (arm : Fin 3) (cells : List (Nat × ModCell × Gate × Gate)) (m : ModArm × Circ), s.dev.twin.arms.length = 3 →
      Gives (exec (.battenStateBlock t good arm cells m) s) s.pending fun d =>
        if s.dev.straps.twinEn = false ∨ s.dev.linkUp = false then d.twin = s.dev.twin
  else if good = false then d.twin = { s.dev.twin with crc := inc32 s.dev.twin.crc }
  else if s.dev.twin.idConflict = true then d.twin = s.dev.twin
  else if s.dev.twin.active = true then d.tArm arm = s.dev.tArm arm else (d.tArm arm).copyArm = m.1 ∧ d.twin.circ = m.2 ∧ (∀ q ∈ cells, q.1 ∈ (d.tArm arm).parts) ∧ ((∀ i < (s.dev.armCells arm).length, i ∈ cells.map Prod.fst) → (d.tArm arm).mirrored = true)) ∧
  (∀ (s : State) (t : Tick), s.dev.modu.arms.length = 3 →
      Gives (exec (.twinDeadline t) s) s.pending fun d =>
        if s.dev.straps.twinEn = false ∨ s.dev.twin.active = false ∨ s.dev.modu.loaded = true ∨ max t s.dev.now + 1360 < s.dev.tLoad then d.modu = s.dev.modu
  else ∀ arm < 3, (d.marm arm).scheduled = true ∧ ((s.dev.marm arm).scheduled = false → ∀ c ∈ s.dev.armCells arm, c < s.dev.modu.cells.length → (d.mcell c).sched = (s.dev.mcell c).sent)) ∧
  (∀ (s : State) (t : Tick), s.dev.twin.arms.length = 3 →
      Gives (exec (.twinDecision t) s) s.pending fun d =>
        let served := (s.dev.ready t).evidentlyServing || s.dev.twin.arms.any fun a => a.check.isSome
  let e := (if served then (s.dev.ready t).setTwin fun w => { w with shadowExpired := false } else s.dev.ready t).twinStatus
  let ok := e.twin.ready && e.twin.aligned && !e.twin.shadowExpired
  if s.dev.standby = false ∨ s.dev.modu.loaded = true ∨ max t s.dev.now + 160 < s.dev.tLoad then d.twin = s.dev.twin
  else ∀ arm < 3, let x := s.dev.tArm arm
    (ok = false → (d.tArm arm).choice = 0) ∧
    (ok = true → x.check = none → (d.tArm arm).choice = if !e.evidentlyServing && e.twin.permission then 3 else 0) ∧
    (ok = true → ∀ c, x.check = some c → (d.tArm arm).choice = if c.1 then 2 else if x.record ≠ none ∧ x.mirrored = true ∧ slotsCrc x.slots = c.2.2.toNat then 1 else 0)) ∧
  (∀ (s : State) (t : Tick), Gives (exec (.shadowExpired t) s) s.pending fun d =>
        if s.dev.standby = true ∧ s.dev.twin.grant = false ∧ s.dev.twin.shadowExpired = false ∧ Par.twinShadowMax s.dev.P ≤ s.dev.twin.shadowRun then
    d.twin.shadow = false ∧ d.twin.shadowRun = 0 ∧ ((s.dev.ready t).roomFor 1 → d.EventWaits "EV_TWIN_SHADOW_EXPIRED" []) ∧ (d.twin.ready = false ∨ s.dev.twin.ready = true → d.twin.shadowExpired = true ∧ d.twin.permission = false)
  else d.twin = s.dev.twin) ∧
  (∀ (s : State) (t : Tick), Gives (exec (.ctbSecond t) s) s.pending fun d =>
        if (s.dev.ready t).meteredTo ((s.dev.packs.secN + 1) * 800000000) = false then d.meter = s.dev.meter ∧ d.packs.secN = s.dev.packs.secN
  else d.packs.secN = s.dev.packs.secN + 1 ∧ d.meter.frozen = (List.range 384).map (s.dev.ready t).cntFrozen ∧ d.meter.pseq = (s.dev.meter.pseq + 1) % 2 ^ 32 ∧ d.meter.writing ≠ none)

/-- The recorder's events and commands complete with their effect. SOFFIT_MEMORY_TEST_DONE of the first test after boot: passing, Soffit is up and the recorder IDLE, or ARMED with rec.arm_at_start; failing, EV_SELFTEST_FAIL is raised and code 0x0070 reported to an idle handler; another report changes neither. RECORDER_FRAME_WRITE of a frame two cycles old while capturing: it leaves the buffer and the write position moves on; a failing write check is reported to an idle handler, code 0x0070; before that, or with no capture, nothing is written. TRIGGER_CONDITION: the earliest condition that waits, when it is qualified, is registered and shown in REC_TRIG_MET, and is not otherwise. MASK_PASS: every run that has reached its last point has ended. CMD_REC_ARM of a recorder that is available and does not capture: it is ARMED, and the result holds both lengths; one that captures, or whose memory is still tested, is BUSY, a failed one REFUSED. CMD_REC_STOP: capture stops now, or after the record in progress, whose number is the result; a recorder that does not capture stays as it is. CMD_REC_TRIGGER: trigger 16 is met, and the result is the number of the record that it opened. CMD_REC_MASK_START of an enabled mask with host start: its run waits for the next E; a mask that is off refuses it. BAR2_READOUT: a read answers Soffit's bytes through the window, poisoned if a word could not be corrected, and its errors are counted; a write is counted. -/
def Obligations.RecorderCommandsComplete : Prop :=
  (∀ (s : State) (t : Tick) (pass : Bool), Gives (exec (.soffitMemoryTestDone t pass) s) s.pending fun d =>
        if s.dev.recd.state ≠ 4 ∨ s.dev.recd.failed = true ∨ s.dev.recd.memTested = true ∨ s.dev.conv.booted = false ∨ s.dev.conv.devReset = true then d.recd.state = s.dev.recd.state ∧ d.conv.dies = s.dev.conv.dies
  else (pass = true → d.recd.memTested = true ∧ d.conv.dies = s.dev.conv.dies ||| 0x80 ∧ d.recd.state = if Par.recArmAtStart s.dev.P then 1 else 0) ∧
    (pass = false → ((s.dev.ready t).roomFor 1 → d.EventWaits "EV_SELFTEST_FAIL" [7, 0]) ∧ (s.dev.eh.Idle → d.eh.Handles 0x0070 7 (s.dev.codeClass 0x0070)))) ∧
  (∀ (s : State) (t : Tick) (bad : Bool), Gives (exec (.recorderFrameWrite t bad) s) s.pending fun d =>
        (s.dev.capturing = false ∨ s.dev.recd.frames = [] → d.recd.frames = s.dev.recd.frames ∧ d.recd.wrJ = s.dev.recd.wrJ) ∧ ∀ f, s.dev.recd.frames.head? = some f → s.dev.capturing = true →
  if s.dev.cycle.k < f.k + 2 then d.recd.frames = s.dev.recd.frames ∧ d.recd.wrJ = s.dev.recd.wrJ
  else if bad = true then d.recd.wrJ = s.dev.recd.wrJ ∧ (s.dev.eh.Idle → d.eh.Handles 0x0070 7 (s.dev.codeClass 0x0070))
  else d.recd.frames = s.dev.recd.frames.tail ∧ d.recd.wrJ = s.dev.recd.wrJ + 1) ∧
  (∀ (s : State) (t : Tick), Gives (exec (.triggerCondition t) s) s.pending fun d =>
        let e := (s.dev.ready t).trigTimeouts
  (earliestCond e.recd.conds (max t s.dev.now) = none → d.recd.conds = e.recd.conds ∧ d.recd.trigMet = s.dev.recd.trigMet) ∧ ∀ c, earliestCond e.recd.conds (max t s.dev.now) = some c → c.1 < 17 →
    if e.qualified c.1 c.2.1 = true then d.recd.trigMet.getLsbD c.1 = true ∧ (∃ h ∈ d.recd.regd, h.trig = c.1) else d.recd.trigMet = s.dev.recd.trigMet) ∧
  (∀ (s : State) (t : Tick), Gives (exec (.maskPass t) s) s.pending fun d =>
        ∀ m < 4, (s.dev.recd.masks.getD m MaskRun.reset).running = true → (s.dev.ready t).past (s.dev.recd.masks.getD m MaskRun.reset).t0 (msT (s.dev.maskEnd m)) = true → (d.recd.masks.getD m MaskRun.reset).running = false) ∧
  (∀ (s : State) (t : Tick) (h : CmdHdr) (a : Args), s.dev.Accepts h →
      fits a [] [] →
      Gives (exec (.cmdRecArm t h a) s) s.pending fun d =>
        if s.dev.recd.state = 4 then d.recd.state = 4 ∧ Device.Completed s.dev d h (if s.dev.recd.failed then .refused 1 else .busy)
  else if s.dev.capturing = true then d.recd.state = s.dev.recd.state ∧ Device.Completed s.dev d h .busy
  else d.recd.state = 1 ∧ Device.Completed s.dev d h (.ok (d.recd.p + 2 ^ 32 * d.recd.q))) ∧
  (∀ (s : State) (t : Tick) (h : CmdHdr) (a : Args), s.dev.Accepts h →
      fits a [(8, 1)] [(8, decide (1 < arg a 8 1))] →
      Gives (exec (.cmdRecStop t h a) s) s.pending fun d =>
        Device.Completed s.dev d h (.ok (match s.dev.recd.cur with | some r => r.num | none => 0xFFFFFFFF)) ∧
  (arg a 8 1 = 0 → if s.dev.capturing = true then d.recd.state = 3 ∧ d.recd.cur = none else d.recd.state = s.dev.recd.state) ∧
  (arg a 8 1 = 1 → d.recd.stopPend = (s.dev.recd.stopPend || s.dev.recd.state == 2))) ∧
  (∀ (s : State) (t : Tick) (h : CmdHdr) (a : Args), s.dev.Accepts h →
      fits a [] [] →
      Gives (exec (.cmdRecTrigger t h a) s) s.pending fun d =>
        d.recd.trigMet.getLsbD 16 = true ∧ Device.Completed s.dev d h (.ok (if s.dev.recd.state = 1 ∧ d.recd.state = 2 then s.dev.recd.recNum else 0xFFFFFFFF))) ∧
  (∀ (s : State) (t : Tick) (h : CmdHdr) (a : Args), s.dev.Accepts h →
      fits a [(8, 1)] [(8, decide (3 < arg a 8 1))] →
      s.dev.recd.masks.length = 4 →
      Gives (exec (.cmdRecMaskStart t h a) s) s.pending fun d =>
        if Par.recMaskEnable s.dev.P (arg a 8 1) = true then Device.Completed s.dev d h (.ok 0) ∧ (Par.recMaskStart s.dev.P (arg a 8 1) = 2 → (s.dev.recd.masks.getD (arg a 8 1) MaskRun.reset).running = false → (d.recd.masks.getD (arg a 8 1) MaskRun.reset).startAt.isSome = true)
  else Device.Completed s.dev d h (.refused 1) ∧ d.recd.masks = s.dev.recd.masks) ∧
  (∀ (s : State) (t : Tick) (write : Bool) (offset : BitVec 30) (len : Nat) (ce ue : Nat), Gives (exec (.bar2Readout t write offset len ce ue) s) s.pending fun d =>
        if write then d.host.errCnt = inc32 s.dev.host.errCnt else d.host.replyBytes = s.dev.soffit (s.dev.recd.win * 2 ^ 20 + offset.toNat) len ∧ d.host.poisoned = (ue != 0) ∧ d.recd.ecCe = sat32 (s.dev.recd.ecCe + ce) ∧ d.recd.ecUe = sat32 (s.dev.recd.ecUe + ue))

/-- Counter, dump-ring and drift commands complete with their effect. COUNTER_WRAP of an enabled counter at 2^48 - 1: it goes on from 0 and its overflow bit is set; any other counter stands. PMC_CONFIG_WRITE: the configuration; one of 0 leaves the counter and its overflow bit at 0; a 1 in a reserved bit is counted. COUNTER_PAGE_LOW_READ: a lower word answers it and latches the upper one; a read that is not of a lower word is counted. DUMP_RING_ENABLE_WRITE: the ring's enable; enabling makes the next sequence number 0. ANEMOMETER_DUMP when one is due: with the ring enabled the frozen blocks are being written into the next entry, under the next sequence number; while the one before is still written it is skipped and counted, and a command is REFUSED, as with the ring off; when none is due nothing is written. DUMP_WRITE_DONE of the dump being written: its number is the last one written; a failed write disables the ring and is reported to an idle handler, code 0x0040; the command that asked for the dump completes; with none being written nothing changes. CMD_PMC_DUMP with the ring enabled and none waiting: the dump waits for its tick; with one waiting it is BUSY, with the ring off REFUSED. CMD_PMC_CLEAR completes, and a selected counter that is not enabled, so that nothing counts on it again, stands at 0 with its overflow bit clear. CMD_DRIFT_READ answers the number of records written, or DMA. DRIFT_TAG_END at T6 or E(k + 2): no tag is in flight, its record, with the value that came back, is the newest of a trace of 64, incomplete ones are counted, and a value that differs raises EV_DRIFT_MISMATCH; before that the tag stays in flight. -/
def Obligations.CountersDumpAndDriftCommandsComplete : Prop :=
  (∀ (s : State) (t : Tick) (b : Fin 7) (i : Fin 16), s.dev.zep.pmc.ctrs.length = 7 →
      (s.dev.zep.pmc.ctrs.getD b []).length = 16 →
      Gives (exec (.counterWrap t b i) s) s.pending fun d =>
        let c := (s.dev.ready t).ctr b i
  if c.value = 2 ^ 48 - 1 ∧ c.en = true then (d.ctr b i).ovf = true ∧ (d.ctr b i).value = 0 else d.ctr b i = c) ∧
  (∀ (s : State) (t : Tick) (b : Fin 7) (i : Fin 16) (v : BitVec 32), s.dev.zep.pmc.ctrs.length = 7 →
      (s.dev.zep.pmc.ctrs.getD b []).length = 16 →
      Gives (exec (.pmcConfigWrite t b i v) s) s.pending fun d =>
        (d.ctr b i).cfg = BitVec.ofNat 11 v.toNat ∧ (v = 0 → (d.ctr b i).value = 0 ∧ (d.ctr b i).ovf = false) ∧ d.host.errCnt = (if v.toNat < 2 ^ 11 then s.dev.host.errCnt else inc32 s.dev.host.errCnt)) ∧
  (∀ (s : State) (t : Tick) (offset : BitVec 12), Gives (exec (.counterPageLowRead t offset) s) s.pending fun d =>
        if offset.toNat % 8 ≠ 0 then d.host.errCnt = inc32 s.dev.host.errCnt ∧ d.host.reply = 0 else (offset.toNat < 0x10 ∨ (0x40 ≤ offset.toNat ∧ offset.toNat < 0x3C0) → d.zep.pmc.upper = BitVec.ofNat 32 ((s.dev.ready t).pageWord offset.toNat / 2 ^ 32)) ∧ d.host.reply = BitVec.ofNat 64 ((s.dev.ready t).pageWord offset.toNat % 2 ^ 32)) ∧
  (∀ (s : State) (t : Tick) (v : BitVec 32), Gives (exec (.dumpRingEnableWrite t v) s) s.pending fun d =>
        d.zep.pmc.on = v.getLsbD 0 ∧ d.zep.pmc.seq = (if v.getLsbD 0 && !s.dev.zep.pmc.on then 0 else s.dev.zep.pmc.seq) ∧ d.host.errCnt = (if v.toNat < 2 then s.dev.host.errCnt else inc32 s.dev.host.errCnt)) ∧
  (∀ (s : State) (t : Tick), Gives (exec (.anemometerDump t) s) s.pending fun d =>
        let p := s.dev.zep.pmc
  let e := s.dev.ready t
  if e.dumpCmdDue = false ∧ (p.on = false ∨ e.dumpRoundDue = false) then d.zep.pmc.seq = p.seq ∧ d.zep.pmc.writing = p.writing
  else if p.on = false ∨ p.writing ≠ none then d.zep.pmc.seq = p.seq ∧ d.zep.pmc.writing = p.writing ∧ d.zep.pmc.skip = (if p.on then inc32 p.skip else p.skip) ∧
    (e.dumpCmdDue = true → ∀ h, p.cmd = some h → s.dev.Answers h → Device.Completed s.dev d h (.refused (if p.on then 2 else 1)))
  else d.zep.pmc.seq = p.seq + 1 ∧ ∃ w, d.zep.pmc.writing = some w ∧ w.seq = p.seq.toNat ∧ w.addr = p.baseH.toNat * 2 ^ 32 + p.baseL.toNat / 4096 * 4096 + 1024 * (p.seq.toNat % 2 ^ p.size.toNat)) ∧
  (∀ (s : State) (t : Tick) (ok : Bool), Gives (exec (.dumpWriteDone t ok) s) s.pending fun d =>
        (s.dev.zep.pmc.writing = none → d.zep.pmc.lastSeq = s.dev.zep.pmc.lastSeq ∧ d.zep.pmc.on = s.dev.zep.pmc.on) ∧ ∀ w, s.dev.zep.pmc.writing = some w →
  d.zep.pmc.writing = none ∧ (ok = true → d.zep.pmc.lastSeq = BitVec.ofNat 32 w.seq ∧ ∀ h, w.hdr = some h → s.dev.Answers h → Device.Completed s.dev d h (.ok w.seq)) ∧
  (ok = false → d.zep.pmc.on = false ∧ d.zep.pmc.err = true ∧ d.host.dmaErr = true ∧ (∀ h, w.hdr = some h → s.dev.Answers h → Device.Completed s.dev d h (.dma 0)) ∧ (s.dev.eh.Idle → d.eh.Handles 0x0040 0 (s.dev.codeClass 0x0040)))) ∧
  (∀ (s : State) (t : Tick) (h : CmdHdr) (a : Args), s.dev.Accepts h →
      fits a [] [] →
      Gives (exec (.cmdPmcDump t h a) s) s.pending fun d =>
        if s.dev.zep.pmc.on = false then d.zep.pmc.cmd = s.dev.zep.pmc.cmd ∧ Device.Completed s.dev d h (.refused 1)
  else if s.dev.zep.pmc.cmd ≠ none then d.zep.pmc.cmd = s.dev.zep.pmc.cmd ∧ Device.Completed s.dev d h .busy
  else d.zep.pmc.cmd = some h ∧ d.zep.pmc.cmdFrom = max t s.dev.now) ∧
  (∀ (s : State) (t : Tick) (h : CmdHdr) (a : Args), s.dev.Accepts h →
      fits a [(8, 1), (12, 2)] [(8, bit (arg a 8 1) 7)] →
      Gives (exec (.cmdPmcClear t h a) s) s.pending fun d =>
        Device.Completed s.dev d h (.ok 0) ∧ ∀ b < 7, ∀ i < 16, bit (arg a 8 1) b = true → bit (arg a 12 2) i = true → (s.dev.ctr b i).en = false → (d.ctr b i).value = 0 ∧ (d.ctr b i).ovf = false) ∧
  (∀ (s : State) (t : Tick) (h : CmdHdr) (a : Args) (dmaOk : Bool), s.dev.Accepts h →
      fits a [(8, 8), (16, 1)] [(16, arg a 16 1 == 0 || decide (64 < arg a 16 1))] →
      Gives (exec (.cmdDriftRead t h a dmaOk) s) s.pending fun d =>
        (dmaOk = true → Device.Completed s.dev d h (.ok (min (arg a 16 1) s.dev.zep.drift.trace.length))) ∧ (dmaOk = false → Device.Completed s.dev d h (.dma 0) ∧ d.host.dmaErr = true)) ∧
  (∀ (s : State) (t : Tick) (flip : BitVec 32), Gives (exec (.driftTagEnd t flip) s) s.pending fun d =>
        let z := s.dev.zep.drift
  (z.tag = none → d.zep.drift = z) ∧ ∀ x, z.tag = some x →
    if s.dev.cycle.k < x.cyc + 2 ∧ (x.stamps.getD 6 none).isNone = true then d.zep.drift = z
    else let v2 : Int := if (x.stamps.getD 2 none).isSome then (BitVec.ofInt 32 x.v2 ^^^ flip).toInt else x.v2
      d.zep.drift.tag = none ∧ d.zep.drift.cnt = inc32 z.cnt ∧ d.zep.drift.inc = (if x.stamps.any Option.isNone then inc32 z.inc else z.inc) ∧
      d.zep.drift.trace = ({ x with incomplete := x.stamps.any Option.isNone, v2 := v2, mismatch := (x.stamps.getD 2 none).isSome && v2 != x.v1 } :: z.trace).take 64 ∧
      ((x.stamps.getD 2 none).isSome = true → v2 ≠ x.v1 → ((s.dev.ready t).roomFor 1 → d.EventWaits "EV_DRIFT_MISMATCH" [(x.stream : Int), x.v1, v2])))

/-- The Zephyr round and CMD_HK_REARM complete with their effect. ZEPHYR_ROUND in a new round of a booted device: the round's number, its close due, and a round whose predecessor was not closed counted late; before boot, in a device reset or in the same round none of these changes. ZEPHYR_ROUND_CLOSE 100 µs after the boundary: the round before is closed; before that, or with no close due, nothing is. CMD_HK_REARM: the named sensors and monitors that have read good for 100 rounds are broken no longer; those that have not are named by REFUSED, and every other stands. -/
def Obligations.HousekeepingRoundCommandsComplete : Prop :=
  (∀ (s : State) (t : Tick) (temps : List Int) (rails : List Nat) (refs : List Rat), Gives (exec (.zephyrRound t temps rails refs) s) s.pending fun d =>
        let r := (s.dev.ready t).roundNow % 2 ^ 32
  if s.dev.conv.booted = false ∨ s.dev.conv.devReset = true ∨ s.dev.zep.hk.round = r then d.zep.hk.round = s.dev.zep.hk.round ∧ d.zep.hk.closeAt = s.dev.zep.hk.closeAt ∧ d.zep.hk.late = s.dev.zep.hk.late
  else d.zep.hk.round = r ∧ d.zep.hk.closeAt = some ((s.dev.ready t).roundNow * 8000000) ∧ d.zep.hk.late = (if s.dev.zep.hk.closeAt.isSome then inc32 s.dev.zep.hk.late else s.dev.zep.hk.late)) ∧
  (∀ (s : State) (t : Tick), Gives (exec (.zephyrRoundClose t) s) s.pending fun d =>
        if (s.dev.ready t).pastOpt s.dev.zep.hk.closeAt (usT 100) = true then d.zep.hk.closeAt = none ∧ d.host.closing = [] else d.zep.hk.closeAt = s.dev.zep.hk.closeAt ∧ d.host.closing = s.dev.host.closing) ∧
  (∀ (s : State) (t : Tick) (h : CmdHdr) (a : Args), s.dev.Accepts h →
      fits a [(8, 3)] [] →
      Gives (exec (.cmdHkRearm t h a) s) s.pending fun d =>
        let get := fun (i : Nat) => if i < 16 then s.dev.sensor i else s.dev.zep.hk.rails.getD (i - 16) HkSensor.reset
  let no := (List.range 24).filter fun i => bit (arg a 8 3) i && (get i).broken && decide ((get i).goodRun < 100)
  Device.Completed s.dev d h (if no = [] then .ok 0 else .refusedMask (no.foldl (fun m i => m + 2 ^ i) 0)) ∧
  ∀ i < 24, (if i < 16 then d.sensor i else d.zep.hk.rails.getD (i - 16) HkSensor.reset).broken = ((get i).broken && !(bit (arg a 8 3) i && decide (100 ≤ (get i).goodRun))))

/-- Scrubbing, error reports and the error log's commands complete with their effect. SCRUB_PASS: the corrected words are counted, and each word that could not be corrected is in handling as its die's error. ERROR_REPORT (but the corrected word, 0x0001): one of class 0, or to a handler that has stopped, is counted alone; one in handling already merges; one that finds the queue full stops the handler, cause 2; any other is in handling at its class, one class higher beside one of its class or below; a bad key store stays bad. ERROR_HANDLING_DONE: the error handled stands in the log under the next number, unless a full log holds none of its class or below, and the next in the queue is taken; class 2 leaves its die degraded, class 3 failed, class 4 is FATAL; above class 1 EV_ERROR is raised; with nothing in handling, or a handler stopped, nothing changes. HANDLER_FAULT of a handling beyond 100 µs, an uncorrectable word or a failed log write: the handler has stopped with its cause, Bailsil is in safe hold, and entering it raises EV_SAFE_HOLD; the other causes, and a handler stopped before, change none of these. CMD_EH_LOG_READ writes the entries to host memory, oldest first, and answers how many, or DMA. CMD_EH_ACK clears the degraded bits of the mask. CMD_EH_LOG_CLEAR in MAINT empties the log and its store, and answers how many entries there were; in any other state it is turned away with STATE. -/
def Obligations.ErrorHandlingCommandsComplete : Prop :=
  (∀ (s : State) (t : Tick) (fixed bad : List (Fin 3 × BitVec 32)), Gives (exec (.scrubPass t fixed bad) s) s.pending fun d =>
        d.eh.scrub = sat32 (s.dev.eh.scrub + fixed.length) ∧ (s.dev.eh.Idle → ∀ x ∈ bad, ∃ y ∈ d.eh.inHandling, y.code = ([0x0003, 0x0011, 0x0014].getD x.1 0) ∧ y.die = x.1.val)) ∧
  (∀ (s : State) (t : Tick) (code : BitVec 16) (island : Fin 10) (kind : Fin 10) (index : BitVec 16) (detail : BitVec 32), Gives (exec (.errorReport t code island kind index detail) s) s.pending fun d =>
        let e := s.dev.eh
  let k := s.dev.codeClass code.toNat
  let esc := e.inHandling.any fun x => decide (x.cls ≤ k)
  (code = 0x0083 → d.sec.keyBad = true) ∧ (code ≠ 0x0001 →
    if k = 0 ∨ e.stopped = true ∨ e.fatal = true then d.eh.cnt = upd e.cnt k inc32 ∧ d.eh.inHandling = e.inHandling
    else if e.inHandling.any (fun x => x.same code.toNat (islandDie island)) = true then d.eh.merged = inc32 e.merged ∧ d.eh.inHandling.map ErrEntry.code = e.inHandling.map ErrEntry.code
    else if 32 ≤ e.queue.length then d.eh.inHandling = e.inHandling ∧ (e.cause = 0 → d.eh.cause = 2 ∧ d.eh.stopped = true)
    else d.eh.esc = (if esc then inc32 e.esc else e.esc) ∧ ∃ x ∈ d.eh.inHandling, x.code = code.toNat ∧ x.die = islandDie island ∧ x.cls0 = k ∧ x.cls = (if esc then k + 1 else k) ∧ x.island = islandOfError code.toNat (islandDie island) (island = 1 || island = 7))) ∧
  (∀ (s : State) (t : Tick), Gives (exec (.errorHandlingDone t) s) s.pending fun d =>
        let e := s.dev.eh
  (e.stopped = true ∨ e.fatal = true ∨ e.handling = none → d.eh.log = e.log ∧ d.eh.logNext = e.logNext ∧ d.eh.inHandling = e.inHandling) ∧ ∀ x, e.handling = some x → e.stopped = false → e.fatal = false →
    d.eh.logNext = (e.logNext + 1) % 2 ^ 32 ∧ d.eh.handling.map ErrEntry.code = e.queue.head?.map ErrEntry.code ∧
    (if e.log.length < 64 ∨ (∃ y ∈ e.log, y.cls ≤ x.cls) then ∃ y ∈ d.eh.log, y.seq = e.logNext ∧ y.code = x.code ∧ y.cls = x.cls ∧ y.ctb = x.detected else d.eh.log = e.log ∧ d.eh.lost = inc32 e.lost) ∧
    (x.cls = 2 → d.eh.degraded = e.degraded ||| BitVec.ofNat 8 (2 ^ x.die)) ∧ (x.cls = 3 → x.die2 = none → d.conv.failed = s.dev.conv.failed ||| BitVec.ofNat 8 (2 ^ x.die)) ∧ (x.cls = 4 → d.eh.fatal = true) ∧
    (x.cls ≠ 1 → ((s.dev.ready t).roomFor 2 → d.EventWaits "EV_ERROR" [(x.code : Int), (x.cls : Int), (x.die : Int)]))) ∧
  (∀ (s : State) (t : Tick) (cause : Fin 5), Gives (exec (.handlerFault t cause) s) s.pending fun d =>
        if s.dev.eh.cause = 0 ∧ s.dev.eh.stopped = false ∧ (cause.val = 2 ∨ cause.val = 3 ∨ (cause.val = 0 ∧ (s.dev.eh.inHandling.any fun x => (s.dev.ready t).pastBeyond x.detected (usT 100)) = true))
  then d.eh.cause = cause.val + 1 ∧ d.eh.stopped = true ∧ d.safety.safeHold = true ∧ (s.dev.safety.safeHold = false → ((s.dev.ready t).roomFor 1 → d.EventWaits "EV_SAFE_HOLD" []))
  else d.eh.cause = s.dev.eh.cause ∧ d.eh.stopped = s.dev.eh.stopped ∧ d.safety.safeHold = s.dev.safety.safeHold) ∧
  (∀ (s : State) (t : Tick) (h : CmdHdr) (a : Args) (dmaOk : Bool), s.dev.Accepts h →
      fits a [(8, 8), (16, 1), (17, 1)] [(16, decide (64 ≤ arg a 16 1)), (17, arg a 17 1 == 0 || decide (64 < arg a 17 1))] →
      Gives (exec (.cmdEhLogRead t h a dmaOk) s) s.pending fun d =>
        let l := (s.dev.eh.log.drop (arg a 16 1)).take (arg a 17 1)
  (dmaOk = true → Device.Completed s.dev d h (.ok l.length) ∧ { HostWrite.reset with kind := 4, addr := arg a 8 8, bytes := l.flatMap LogEntry.bytes } ∈ d.host.outbox) ∧ (dmaOk = false → Device.Completed s.dev d h (.dma 0) ∧ d.host.dmaErr = true)) ∧
  (∀ (s : State) (t : Tick) (h : CmdHdr) (a : Args), s.dev.Accepts h →
      fits a [(8, 1)] [] →
      Gives (exec (.cmdEhAck t h a) s) s.pending fun d =>
        d.eh.degraded = s.dev.eh.degraded &&& ~~~(BitVec.ofNat 8 (arg a 8 1)) ∧ Device.Completed s.dev d h (.ok 0)) ∧
  (∀ (s : State) (t : Tick) (h : CmdHdr) (a : Args), s.dev.Accepts h →
      fits a [] [] →
      Gives (exec (.cmdEhLogClear t h a) s) s.pending fun d =>
        if s.dev.conv.state = stMaint then d.eh.log = [] ∧ d.eh.store = [] ∧ Device.Completed s.dev d h (.ok s.dev.eh.log.length)
  else d.eh.log = s.dev.eh.log ∧ d.eh.store = s.dev.eh.store ∧ Device.Completed s.dev d h s.dev.stateEnd)

/-- Firmware, attestation and debug commands complete with their effect. CMD_FW_RESTART in OFF or MAINT: it completes, then the host interface's registers and the level are at their reset values; in any other state it is turned away with STATE. CMD_FW_WRITE: the slot that is not running is cleared and the image is being written, with the first check of R445 that it fails; DMA where the image cannot be read; BUSY with a write in progress. FW_WRITE_DONE: the slot holds the image written, and the command completes with the slot, or with AUTH and the first check that failed; with no write in progress nothing changes. CMD_FW_COMMIT of an image booted from its own slot: the anti-rollback counter rises to its index, and lower keys are revoked; an image booted by fall-back or recovery is REFUSED, 1 or 2. CMD_SEC_IDENTITY writes the certificate to host memory and answers its length, or DMA. CMD_SEC_ATTEST: with none in progress the report is being signed; behind one report in progress it waits; a further one, or one behind a snapshot's signature, is BUSY; a bad key store answers AUTH, check 6. ATTEST_SIGNED: the command completes with the report's length, with AUTH, check 6, with a bad key store, or with DMA where the transfer fails, and the one that waits is next; while a snapshot is signed it waits. CMD_DBG_CHALLENGE: a challenge stands from now, and its length is answered, or DMA. CMD_DBG_UNLOCK within 10 min of its challenge: a signature that verifies unlocks the scope, uses the challenge up and raises EV_DEBUG_UNLOCKED; any other, or none in force, is answered with AUTH, check 4; a disabled port REFUSED 1; outside OFF and MAINT, STATE. CMD_DBG_LOCK relocks the port, or, in MAINT, disables it for good; disabling in any other state is turned away with STATE. -/
def Obligations.FirmwareAndSecurityCommandsComplete : Prop :=
  (∀ (s : State) (t : Tick) (h : CmdHdr) (a : Args), s.dev.Accepts h →
      fits a [] [] →
      Gives (exec (.cmdFwRestart t h a) s) s.pending fun d =>
        if s.dev.offOrMaint = true then Device.Completed s.dev d h (.ok 0) ∧ d.conv.level = 2 ∧ d.host.chans = HostPort.reset.chans ∧ d.host.outstanding = [] ∧ d.sec.challenge = none
  else Device.Completed s.dev d h s.dev.stateEnd ∧ d.conv.level = s.dev.conv.level ∧ d.sec = s.dev.sec) ∧
  (∀ (s : State) (t : Tick) (h : CmdHdr) (a : Args) (image : Option (List (BitVec 8))), s.dev.Accepts h →
      fits a [(8, 8), (16, 4)] [(16, arg a 16 4 == 0 || decide (12 * 2 ^ 20 < arg a 16 4))] →
      Gives (exec (.cmdFwWrite t h a image) s) s.pending fun d =>
        if s.dev.sec.fw ≠ none then d.sec = s.dev.sec ∧ Device.Completed s.dev d h .busy
  else d.sec.slots = upd s.dev.sec.slots (if s.dev.conv.bootSlot then 0 else 1) (fun _ => ImageHdr.reset) ∧ (image = none → d.sec.fw = none ∧ Device.Completed s.dev d h (.dma 0)) ∧
    ∀ b, image = some b → ∃ w, d.sec.fw = some w ∧ w.hdr = h ∧ w.fail = imageCheck s.dev.sec.revoked s.dev.sec.rbc (b.take (arg a 16 4))) ∧
  (∀ (s : State) (t : Tick), Gives (exec (.fwWriteDone t) s) s.pending fun d =>
        (s.dev.sec.fw = none → d.sec = s.dev.sec) ∧ ∀ w, s.dev.sec.fw = some w → d.sec.fw = none ∧
  d.sec.slots = upd s.dev.sec.slots (if s.dev.conv.bootSlot then 0 else 1) (fun _ => { w.image with written := w.fail != 1 }) ∧
  (s.dev.Answers w.hdr → Device.Completed s.dev d w.hdr (if w.fail = 0 then .ok (if s.dev.conv.bootSlot then 0 else 1) else .auth w.fail))) ∧
  (∀ (s : State) (t : Tick) (h : CmdHdr) (a : Args), s.dev.Accepts h →
      fits a [] [] →
      Gives (exec (.cmdFwCommit t h a) s) s.pending fun d =>
        if s.dev.sec.fallImage = true then d.sec = s.dev.sec ∧ Device.Completed s.dev d h (.refused 1)
  else if s.dev.sec.recImage = true then d.sec = s.dev.sec ∧ Device.Completed s.dev d h (.refused 2)
  else d.sec.rbc = min (max s.dev.sec.rbc s.dev.sec.imgRollback) 65535 ∧ d.sec.revoked = s.dev.sec.revoked ||| BitVec.ofNat 4 (2 ^ s.dev.sec.imgKey - 1) ∧ Device.Completed s.dev d h (.ok d.sec.rbc)) ∧
  (∀ (s : State) (t : Tick) (h : CmdHdr) (a : Args) (dmaOk : Bool), s.dev.Accepts h →
      fits a [(8, 8)] [] →
      Gives (exec (.cmdSecIdentity t h a dmaOk) s) s.pending fun d =>
        (dmaOk = true → Device.Completed s.dev d h (.ok 3132) ∧ { HostWrite.reset with kind := 4, addr := arg a 8 8, bytes := certificate } ∈ d.host.outbox) ∧ (dmaOk = false → Device.Completed s.dev d h (.dma 0) ∧ d.host.dmaErr = true)) ∧
  (∀ (s : State) (t : Tick) (h : CmdHdr) (a : Args), s.dev.Accepts h →
      fits a [(8, 8), (24, 16)] [] →
      Gives (exec (.cmdSecAttest t h a) s) s.pending fun d =>
        let x : Attest := { hdr := h, addr := arg a 8 8, nonce := BitVec.ofNat 128 (arg a 24 16) }
  if s.dev.sec.keyBad = true then d.sec = s.dev.sec ∧ Device.Completed s.dev d h (.auth 6)
  else if s.dev.sec.attest = none then d.sec.attest = some x ∧ d.sec.attestNext = s.dev.sec.attestNext
  else if s.dev.snapSigning = true ∨ s.dev.sec.attestNext ≠ none then d.sec = s.dev.sec ∧ Device.Completed s.dev d h .busy
  else d.sec.attest = s.dev.sec.attest ∧ d.sec.attestNext = some x) ∧
  (∀ (s : State) (t : Tick) (dmaOk : Bool), Gives (exec (.attestSigned t dmaOk) s) s.pending fun d =>
        (s.dev.sec.attest = none → d.sec = s.dev.sec) ∧ ∀ x, s.dev.sec.attest = some x → if s.dev.snapSigning = true then d.sec = s.dev.sec
  else d.sec.attest = s.dev.sec.attestNext ∧ d.sec.attestNext = none ∧ (s.dev.Answers x.hdr → Device.Completed s.dev d x.hdr (if s.dev.sec.keyBad then .auth 6 else if dmaOk then .ok 1540 else .dma 0))) ∧
  (∀ (s : State) (t : Tick) (h : CmdHdr) (a : Args) (dmaOk : Bool), s.dev.Accepts h →
      fits a [(8, 8)] [] →
      Gives (exec (.cmdDbgChallenge t h a dmaOk) s) s.pending fun d =>
        (d.sec.challenge.map Prod.snd) = some (max t s.dev.now) ∧ Device.Completed s.dev d h (if dmaOk then .ok 32 else .dma 0)) ∧
  (∀ (s : State) (t : Tick) (h : CmdHdr) (a : Args) (mem : Option (List (BitVec 8))), s.dev.Accepts h →
      fits a [(8, 1), (16, 8)] [(8, decide (4 ≤ arg a 8 1))] →
      Gives (exec (.cmdDbgUnlock t h a mem) s) s.pending fun d =>
        if s.dev.offOrMaint = false then d.sec = s.dev.sec ∧ Device.Completed s.dev d h s.dev.stateEnd
  else if s.dev.sec.debug = 2 then d.sec = s.dev.sec ∧ Device.Completed s.dev d h (.refused 1)
  else (mem = none → d.sec = s.dev.sec ∧ Device.Completed s.dev d h (.dma 0)) ∧ ∀ m, mem = some m →
    if (s.dev.sec.challenge.any fun x => !(s.dev.ready t).pastBeyond x.2 (sT 600) && Config.vendorVerify [] ([0x44] ++ leBytes 32 x.1.toNat ++ leBytes 1 (arg a 8 1)) ((m.drop 4).take (leField m 0 4))) = true
    then d.sec.debug = 1 ∧ d.sec.scope = BitVec.ofNat 8 (arg a 8 1) ∧ d.sec.challenge = none ∧ d.sec.dbgCnt = inc32 s.dev.sec.dbgCnt ∧ Device.Completed s.dev d h (.ok 0) ∧
      ((s.dev.ready t).backlogFull = false → s.dev.EventOut d "EV_DEBUG_UNLOCKED" [((arg a 8 1 : Nat) : Int), (inc32 s.dev.sec.dbgCnt : Int)])
    else d.sec = s.dev.sec ∧ Device.Completed s.dev d h (.auth 4)) ∧
  (∀ (s : State) (t : Tick) (h : CmdHdr) (a : Args), s.dev.Accepts h →
      fits a [(8, 1)] [(8, decide (2 ≤ arg a 8 1))] →
      Gives (exec (.cmdDbgLock t h a) s) s.pending fun d =>
        if arg a 8 1 = 0 then d.sec.debug = (if s.dev.sec.debug = 1 then 0 else s.dev.sec.debug) ∧ Device.Completed s.dev d h (.ok 0)
  else if s.dev.conv.state = stMaint then d.sec.debug = 2 ∧ d.sec.disabled = true ∧ Device.Completed s.dev d h (.ok 0)
  else d.sec = s.dev.sec ∧ Device.Completed s.dev d h s.dev.stateEnd)

/-- Ethernet ports, frames, forwarding and supervision complete with their effect. ETH_PORT_LINK_CHANGE: a link is up only with a partner at 1,000 Mbit/s, the network being on; the other port's stands. ETH_FRAME_RECEIVED: a frame too long and a pause frame are discarded and counted; an own frame that comes back in HSR ends there; of a tagged frame the first copy enters the duplicate table and a further one is counted, and in PRP one of the other LAN is counted; with the network off or the link down nothing is. SAFE_CHANNEL_FRAME: an accepted frame passes its PDU on and names the peer; any other of its EtherType is discarded and counted; with the network off nothing is. HSR_FORWARD of a frame for another node, not forwarded before: it leaves at the other port, a one-step event message with its residence added, that of a two-step Sync being held; any other frame goes no further. SUPERVISION_FRAME_SEND every 2 s: a frame on every port that is up, under one sequence number; before that, or with the network off, none. RING_CLOSED_TIMEOUT: without the own supervision frames back on both ports within 6 s the ring is not closed. -/
def Obligations.EthernetFrameCommandsComplete : Prop :=
  (∀ (s : State) (t : Tick) (port : Fin 2) (up gigabit : Bool), s.dev.net.links.length = 2 →
      Gives (exec (.ethPortLinkChange t port up gigabit) s) s.pending fun d =>
        d.portUp port = (up && gigabit && Par.netMode s.dev.P != 0 && (s.dev.pll 2).locked) ∧ d.portUp (1 - port.val) = s.dev.portUp (1 - port.val)) ∧
  (∀ (s : State) (t : Tick) (port : Fin 2) (len : Nat) (src : BitVec 48) (kind : Fin 5) (tag : Option (Nat × Nat)) (mine : Bool), s.dev.net.ownBack.length = 2 →
      Gives (exec (.ethFrameReceived t port len src kind tag mine) s) s.pending fun d =>
        let n := s.dev.net
  if Par.netMode s.dev.P = 0 ∨ s.dev.portUp port = false then d.net = (s.dev.ready t).net
  else if 1528 < len ∨ kind = 3 then d.net.disc = inc32 n.disc
  else if Par.netMode s.dev.P = 2 ∧ src = s.dev.mac then d.net.dups = n.dups ∧ (kind = 2 → d.net.ownBack.getD port none = some (max t s.dev.now))
  else (Par.netMode s.dev.P = 1 → ∀ lan q, tag = some (lan, q) → lan ≠ port.val → d.net.wrong = upd n.wrong port inc16) ∧
    if Par.netMode s.dev.P = 2 ∧ kind = 0 then d.net.dups = n.dups
    else ∀ lan q, tag = some (lan, q) → if (s.dev.ready t).seenFrame src q 0 then d.net.dup = inc32 n.dup else d.net.dup = n.dup ∧ (d.net.dups.head?.map DupEntry.src) = some src) ∧
  (∀ (s : State) (t : Tick) (src : BitVec 48) (mine : Bool) (etherType version : BitVec 16) (pdu : BitVec 192), Gives (exec (.safeChannelFrame t src mine etherType version pdu) s) s.pending fun d =>
        if Par.netMode s.dev.P = 0 then d.net = (s.dev.ready t).net
  else if etherType.toNat ≠ Par.netScEthertype s.dev.P then d.net.disc = inc32 s.dev.net.disc
  else if mine = true ∧ version = 1 then d.net.scPeer = some src ∧ d.net.scRx = s.dev.net.scRx ++ [pdu] else d.net.scDisc = inc32 s.dev.net.scDisc ∧ d.net.scRx = s.dev.net.scRx) ∧
  (∀ (s : State) (t : Tick) (port : Fin 2) (src dst : BitVec 48) (seq : Nat) (pcp : Option (Fin 8)) (event : Fin 3) (dom ptpSeq : Nat) (ptpSrc : BitVec 80) (corr resid : Rat), Gives (exec (.hsrForward t port src dst seq pcp event dom ptpSeq ptpSrc corr resid) s) s.pending fun d =>
        let o := 1 - port.val
  let add := resid + s.dev.net.pdelay.getD port 0
  if Par.netMode s.dev.P ≠ 2 ∨ s.dev.portUp port = false ∨ s.dev.portUp o = false ∨ src = s.dev.mac ∨ dst = s.dev.mac ∨ (event = 0 ∧ (s.dev.ready t).seenFrame src seq (o + 1) = true) then d.net = (s.dev.ready t).net
  else d.net.fwd = inc32 s.dev.net.fwd ∧ (∃ x, d.net.tx = x :: s.dev.net.tx ∧ x.port = o ∧ x.src = src ∧ x.dst = dst ∧ x.seq = seq ∧ x.corr = (if event = 1 then corr + add else corr)) ∧
    (event = 2 → ∃ h ∈ d.net.held, h.own = false ∧ h.dom = dom ∧ h.port = port.val ∧ h.seq = ptpSeq ∧ h.src = ptpSrc ∧ h.resid = add)) ∧
  (∀ (s : State) (t : Tick), Gives (exec (.supervisionFrameSend t) s) s.pending fun d =>
        if Par.netMode s.dev.P = 0 ∨ (s.dev.ready t).past s.dev.net.supAt (sT 2) = false then d.net = (s.dev.ready t).net
  else d.net.supAt = max t s.dev.now ∧ d.net.seq = (s.dev.net.seq + 1) % 65536 ∧ d.net.tx.map EthTx.port = s.dev.portsUp ++ s.dev.net.tx.map EthTx.port) ∧
  (∀ (s : State) (t : Tick), Gives (exec (.ringClosedTimeout t) s) s.pending fun d =>
        d.net.ringClosed = (s.dev.net.ringClosed && (s.dev.ready t).ringIsClosed))

/-- PTP messages and the peer delay complete with their effect. PTP_ANNOUNCE: for each clock of the domain the best master heard on the port is this one, unless another that is no worse was heard; with the link down nothing is. PTP_SYNC of a port's best master: a two-step one is held for its Follow_Up, a one-step one on the selected port gives its clock's offset; one of another source, or with the link down, gives none. PTP_FOLLOW_UP: the Syncs it matches are held no longer, in HSR it passes on with the held residence added, and the device's own held Sync gives the offset; with the link down nothing changes. PDELAY_REQ is answered at its port with the turnaround time in the correction, tagged where tags are on; with the network off or the link down it is not. PDELAY_REQ_INTERVAL: a request leaves at every port that is up, and awaits its answer; with the network off none leaves. PDELAY_RESP_RECEIVED to the request awaited: the port's peer delay is half of the turn less the correction; any other answer changes none. DOMAIN_SILENT after three announce intervals: the clock is not synchronised; before that, or with no port selected, nothing changes. -/
def Obligations.PtpCommandsComplete : Prop :=
  (∀ (s : State) (t : Tick) (dom : Nat) (port : Fin 2) (src : BitVec 80) (gm : BitVec 64) (rank : List Nat) (interval : Rat) (utc : BitVec 17), s.dev.net.best.length = 2 →
      ∀ l ∈ s.dev.net.best, l.length = 2 →
      Gives (exec (.ptpAnnounce t dom port src gm rank interval utc) s) s.pending fun d =>
        if s.dev.portUp port = false then d.net.best = s.dev.net.best
  else ∀ x ∈ s.dev.tracking dom, let b := s.dev.bestOf x port
    if b.heard && b.src ≠ src && !rankLess rank b.rank then d.bestOf x port = b else d.bestOf x port = { gm := gm, src := src, rank := rank, at_ := max t s.dev.now, heard := true, utc := utc }) ∧
  (∀ (s : State) (t : Tick) (dom : Nat) (port : Fin 2) (src : BitVec 80) (seq : Nat) (twoStep : Bool) (origin corr err : Rat), s.dev.net.clocks.length = 2 →
      Gives (exec (.ptpSync t dom port src seq twoStep origin corr err) s) s.pending fun d =>
        ∀ x ∈ s.dev.tracking dom, let b := s.dev.bestOf x port
  let ts := ((s.dev.ready t).sc x).timeNs + err
  if s.dev.portUp port = false ∨ b.heard = false ∨ b.src ≠ src then (d.sc x).offset = (s.dev.sc x).offset
  else if twoStep then ∃ h ∈ d.net.held, h.own = true ∧ h.dom = dom ∧ h.port = port.val ∧ h.seq = seq ∧ h.src = src ∧ h.ts = ts ∧ h.corr = corr
  else (d.sc x).offset = if (s.dev.sc x).port = port.val + 1 then (s.dev.ready t).syncOffset port ts origin corr else (s.dev.sc x).offset) ∧
  (∀ (s : State) (t : Tick) (dom : Nat) (port : Fin 2) (src : BitVec 80) (seq : Nat) (mac : BitVec 48) (origin corr : Rat), s.dev.net.clocks.length = 2 →
      Gives (exec (.ptpFollowUp t dom port src seq mac origin corr) s) s.pending fun d =>
        let e := s.dev.ready t
  if s.dev.portUp port = false then d.net = e.net
  else (d.net.held = s.dev.net.held.filter fun h => !(h.dom == dom && h.port == port.val && h.seq == seq && h.src == src)) ∧
    (Par.netMode s.dev.P = 2 → s.dev.portUp (1 - port.val) = true → mac ≠ s.dev.mac → d.net.fwd = inc32 s.dev.net.fwd ∧ ∃ x, d.net.tx = x :: s.dev.net.tx ∧ x.port = 1 - port.val ∧
      x.corr = corr + ((e.heldFor false dom port seq src).map TwoStep.resid).getD 0) ∧
    ∀ h, e.heldFor true dom port seq src = some h → ∀ x ∈ s.dev.tracking dom, (s.dev.sc x).port = port.val + 1 → (d.sc x).offset = e.syncOffset port h.ts origin (h.corr + corr)) ∧
  (∀ (s : State) (t : Tick) (port : Fin 2) (src : BitVec 48) (seq : Nat) (corr turn : Rat), Gives (exec (.pdelayReq t port src seq corr turn) s) s.pending fun d =>
        if Par.netMode s.dev.P = 0 ∨ s.dev.portUp port = false then d.net = (s.dev.ready t).net
  else ∃ x, d.net.tx = x :: s.dev.net.tx ∧ x.port = port.val ∧ x.kind = 4 ∧ x.seq = seq ∧ x.dst = src ∧ x.src = s.dev.mac ∧ x.corr = corr + turn ∧ x.vlan = s.dev.vlanTag (Par.netPcpPtp s.dev.P)) ∧
  (∀ (s : State) (t : Tick), Gives (exec (.pdelayReqInterval t) s) s.pending fun d =>
        if Par.netMode s.dev.P = 0 then d.net = (s.dev.ready t).net
  else d.net.pdSeq = (s.dev.net.pdSeq + 1) % 65536 ∧ (d.net.pdReq = s.dev.net.pdReq.mapIdx fun p r => if s.dev.portUp p then some (s.dev.net.pdSeq, max t s.dev.now) else r) ∧ d.net.tx.map EthTx.port = s.dev.portsUp ++ s.dev.net.tx.map EthTx.port) ∧
  (∀ (s : State) (t : Tick) (port : Fin 2) (seq : Nat) (corr err : Rat), s.dev.net.pdReq.length = 2 →
      s.dev.net.pdelay.length = 2 →
      Gives (exec (.pdelayRespReceived t port seq corr err) s) s.pending fun d =>
        if (s.dev.net.pdReq.getD port none).map Prod.fst ≠ some seq then d.net.pdReq = s.dev.net.pdReq ∧ d.net.pdelay = s.dev.net.pdelay
  else d.net.pdReq.getD port none = none ∧ ∀ x, s.dev.net.pdReq.getD port none = some x → d.net.pdelay.getD port 0 = (((max t s.dev.now - x.2 : Nat) : Rat) * 5 / 4 + err - corr) / 2) ∧
  (∀ (s : State) (t : Tick) (x : Fin 2), s.dev.net.clocks.length = 2 →
      Gives (exec (.domainSilent t x) s) s.pending fun d =>
        if (s.dev.sc x).port = 0 ∨ (s.dev.ready t).pastBeyond (s.dev.sc x).announceAt (sT (3 * (s.dev.sc x).announceInt)) = false then d.net = (s.dev.ready t).net
  else (d.sc x).sync = false ∧ (d.sc x).announceAt = max t s.dev.now)

/-- Reads and writes of the station clocks complete with their effect. SC_TIME_READ answers the nanoseconds and latches the seconds. SC_INCREMENT_WRITE under the host's servo: an increment within sc[x].slew_max of 8 ns applies, another is rejected; under the firmware's servo the write is counted. SC_APPLY_SET under the host's servo: the clock stands at the set words, a step that is counted and ends synchronisation; under the firmware's the write is counted and ignored; a reserved bit written is counted. SC_APPLY_STEP under the host's servo: the signed nanoseconds are added, a step that is counted and ends synchronisation; without the bit nothing is; under the firmware's the write is counted and ignored; a reserved bit written is counted. -/
def Obligations.StationClockAccessCommandsComplete : Prop :=
  (∀ (s : State) (t : Tick) (x : Fin 2), s.dev.net.clocks.length = 2 →
      Gives (exec (.scTimeRead t x) s) s.pending fun d =>
        d.host.reply = BitVec.ofNat 64 ((s.dev.ready t).sc x).ns ∧ (d.sc x).timeSL = word32 ((s.dev.ready t).sc x).s 0 ∧ (d.sc x).timeSH = BitVec.ofNat 32 (((s.dev.ready t).sc x).s / 2 ^ 32 % 2 ^ 16)) ∧
  (∀ (s : State) (t : Tick) (x : Fin 2) (frac : BitVec 32), s.dev.net.clocks.length = 2 →
      Gives (exec (.scIncrementWrite t x frac) s) s.pending fun d =>
        if Par.scServo s.dev.P x = 1 then (d.sc x).incFracW = frac ∧ (let inc : Nat := ((s.dev.sc x).incNsW.toNat % 16) * 2 ^ 32 + frac.toNat; if Par.scSlewMax s.dev.P x / 1000000 * ((8 * 2 ^ 32 : Nat) : Rat) < rabs ((inc : Rat) - ((8 * 2 ^ 32 : Nat) : Rat)) then (d.sc x).incRej = true else (d.sc x).incNs = inc / 2 ^ 32 ∧ (d.sc x).incFrac = inc % 2 ^ 32) else d.host.errCnt = inc32 s.dev.host.errCnt) ∧
  (∀ (s : State) (t : Tick) (w : Fin 2 × BitVec 32), s.dev.net.clocks.length = 2 →
      Gives (exec (.scApplySet t w) s) s.pending fun d =>
        let n := if w.2.toNat < 4 then s.dev.host.errCnt else inc32 s.dev.host.errCnt
  let c := s.dev.sc w.1
  let ns := c.setNs.toNat % 2 ^ 30
  if Par.scServo s.dev.P w.1 = 1 then d.host.errCnt = n ∧ (d.sc w.1).s = (c.setSH.toNat % 2 ^ 16) * 2 ^ 32 + c.setSL.toNat + ns / 1000000000 ∧ (d.sc w.1).ns = ns % 1000000000 ∧ (d.sc w.1).frac = 0 ∧
    (d.sc w.1).stepped = true ∧ (d.sc w.1).sync = false ∧ (d.sc w.1).steps = inc16 c.steps
  else d.host.errCnt = inc32 n ∧ (d.sc w.1).steps = c.steps) ∧
  (∀ (s : State) (t : Tick) (w : Fin 2 × BitVec 32), s.dev.net.clocks.length = 2 →
      Gives (exec (.scApplyStep t w) s) s.pending fun d =>
        let n := if w.2.toNat < 4 then s.dev.host.errCnt else inc32 s.dev.host.errCnt
  let c := ((s.dev.ready t).sc w.1).shift (((s.dev.sc w.1).adj.toInt : Int) : Rat)
  if Par.scServo s.dev.P w.1 = 1 then d.host.errCnt = n ∧ if w.2.getLsbD 1 = true then (d.sc w.1).s = c.s ∧ (d.sc w.1).ns = c.ns ∧ (d.sc w.1).frac = c.frac ∧
    (d.sc w.1).stepped = true ∧ (d.sc w.1).sync = false ∧ (d.sc w.1).steps = inc16 (s.dev.sc w.1).steps else d.net = (s.dev.ready t).net
  else d.host.errCnt = inc32 n ∧ (d.sc w.1).steps = (s.dev.sc w.1).steps)

/-- A misaligned access and a register write complete with their effect. MISALIGNED_ACCESS is counted, and a read answers 0. REGISTER_WRITE: a word that a write stores holds it (EVQ_IRQ, the longest handling, a message's data), a 1 clears a condition shown (REC_TRIG_MET) unless it came up at the same tick, and a write to a word that is not listed is counted; in recovery over PCI Express no register is written. -/
def Obligations.RegisterAccessCommandsComplete : Prop :=
  (∀ (s : State) (t : Tick) (write : Bool), Gives (exec (.misalignedAccess t write) s) s.pending fun d =>
        d.host.errCnt = inc32 s.dev.host.errCnt ∧ (write = false → d.host.reply = 0)) ∧
  (∀ (s : State) (t : Tick) (offset : BitVec 26) (v : BitVec 32), Gives (exec (.registerWrite t offset v) s) s.pending fun d =>
        let off := offset.toNat
  if s.dev.conv.recovery = some 0 then d.host.errCnt = s.dev.host.errCnt ∧ d.host.evqIrq = s.dev.host.evqIrq
  else (off = 0x228 → d.host.evqIrq = v) ∧ (off = 0xD02C → d.eh.handleMax = v.toNat) ∧
    (off = 0x300024 → d.recd.trigMet = s.dev.recd.trigMet &&& ~~~(BitVec.ofNat 17 (v &&& ~~~(BitVec.ofNat 32 ((s.dev.ready t).setNow off))).toNat)) ∧
    (∀ i < 32, off = 0xF008 + 16 * i → i < s.dev.host.msix.length → (d.host.msix.getD i MsixEntry.reset).data = v) ∧
    (ownRow off = false → (off < 0xF000 ∨ 0xF808 ≤ off) → s.dev.regFields off = none → d.host.errCnt = inc32 s.dev.host.errCnt))
end

