-- ==== Sys2Proof/Laws/Only.lean ====
section
/-! SUPPORT. `Only`: how the parts in which a device differs add up, and what a change of one field does to them. -/

namespace Sys2Proof.Machine

variable {K L : List Region} {d e e' : Device} {α β γ : Type}

/-- Every part of the first list is in the second. -/
def sub (l K : List Region) : Bool := l.all fun p => K.contains p

theorem sub_mem {p : Region} (h : sub L K = true) (hp : p ∈ L) : p ∈ K := by
  simpa using List.all_eq_true.mp h p hp

theorem Region.same_refl (p : Region) (a : Device) : p.same a a := by cases p <;> rfl

theorem Region.same_trans {p : Region} {a b c : Device} (h : p.same a b) (g : p.same b c) : p.same a c := by
  cases p <;> exact Eq.trans h g

theorem Only.refl : Only K d d := ⟨fun p _ => Region.same_refl p d⟩

theorem Only.trans {a b c : Device} (h : Only K a b) (g : Only K b c) : Only K a c := ⟨fun p hp => Region.same_trans (h.same p hp) (g.same p hp)⟩

theorem Only.mono (h : Only L d e) (hk : sub L K = true) : Only K d e := ⟨fun p hp => h.same p fun m => hp (sub_mem hk m)⟩

theorem Only.keep (h : Only K d e) : Only K d e := h

/-- One more operation, which differs in parts of the list alone. -/
theorem Only.step (g : Only L e e') (hk : sub L K = true) (h : Only K d e) : Only K d e' := h.trans (g.mono hk)

theorem Only.cut (x : Device) (hx : Only K d x) (h : Only K d x → Only K d e) : Only K d e := h hx

theorem Only.ite {a b : Device} {c : Prop} [Decidable c] (ha : Only K d a) (hb : Only K d b) : Only K d (if c then a else b) := by
  split <;> assumption

theorem Only.foldl {f : Device → β → Device} {l : List β} (hf : ∀ x b, Only K d x → Only K d (f x b)) (h : Only K d e) : Only K d (l.foldl f e) := by
  induction l generalizing e with
  | nil => exact h
  | cons b r ih => exact ih (hf _ b h)

theorem Only.foldl_fst {f : Device × α → β → Device × α} {l : List β} {i : Device × α} (hf : ∀ x b, Only K d x.1 → Only K d (f x b).1) (h : Only K d i.1) :
    Only K d (l.foldl f i).1 := by
  induction l generalizing i with
  | nil => exact h
  | cons b r ih => exact ih (hf _ b h)

theorem Only.foldl_snd {f : α × Device → β → α × Device} {l : List β} {i : α × Device} (hf : ∀ x b, Only K d x.2 → Only K d (f x b).2) (h : Only K d i.2) :
    Only K d (l.foldl f i).2 := by
  induction l generalizing i with
  | nil => exact h
  | cons b r ih => exact ih (hf _ b h)

theorem Only.foldl_third {f : α × γ × Device → β → α × γ × Device} {l : List β} {i : α × γ × Device}
    (hf : ∀ x b, Only K d x.2.2 → Only K d (f x b).2.2) (h : Only K d i.2.2) : Only K d (l.foldl f i).2.2 := by
  induction l generalizing i with
  | nil => exact h
  | cons b r ih => exact ih (hf _ b h)

/-- The device of a pair that has been taken apart. -/
theorem Only.of_snd {p : α × Device} {a : α} {x : Device} (hp : p = (a, x)) (h : Only K d p.2) : Only K d x := by subst hp; exact h
theorem Only.of_fst {p : Device × α} {a : α} {x : Device} (hp : p = (x, a)) (h : Only K d p.1) : Only K d x := by subst hp; exact h
theorem Only.of_third {p : α × γ × Device} {a : α} {c : γ} {x : Device} (hp : p = (a, c, x)) (h : Only K d p.2.2) : Only K d x := by subst hp; exact h

theorem Only.fst_mk {x : Device} {a : α} (h : Only K d x) : Only K d (x, a).1 := h
theorem Only.endsMask {x : Device × Nat} (h : Only K d x.1) : Only K d (endsMask x).1 := h
theorem Only.snd_mk {x : Device} {a : α} (h : Only K d x) : Only K d (a, x).2 := h
theorem Only.third_mk {x : Device} {a : α} {c : γ} (h : Only K d x) : Only K d (a, c, x).2.2 := h
theorem Only.eta (h : Only K d e) : Only K d { e with now := e.now } := h

/-! ## One field changed -/

theorem Only.set_now {x} (hk : sub [.time] K = true) (h : Only K d e) : Only K d { e with now := x } :=
  h.trans ⟨fun p hp => by cases p <;> first | rfl | exact absurd (sub_mem hk (.head _)) hp⟩
theorem Only.set_fresh {x} (h : Only K d e) : Only K d { e with fresh := x } := h.trans ⟨fun p _ => by cases p <;> rfl⟩
theorem Only.set_justSet {x} (h : Only K d e) : Only K d { e with justSet := x } := h.trans ⟨fun p _ => by cases p <;> rfl⟩
theorem Only.set_straps {x} (hk : sub [.straps] K = true) (h : Only K d e) : Only K d { e with straps := x } :=
  h.trans ⟨fun p hp => by cases p <;> first | rfl | exact absurd (sub_mem hk (.head _)) hp⟩
theorem Only.set_cycle {x} (hk : sub [.cycle] K = true) (h : Only K d e) : Only K d { e with cycle := x } :=
  h.trans ⟨fun p hp => by cases p <;> first | rfl | exact absurd (sub_mem hk (.head _)) hp⟩
theorem Only.set_meas {x} (hk : sub [.meas] K = true) (h : Only K d e) : Only K d { e with meas := x } :=
  h.trans ⟨fun p hp => by cases p <;> first | rfl | exact absurd (sub_mem hk (.head _)) hp⟩
theorem Only.set_law {x} (hk : sub [.law] K = true) (h : Only K d e) : Only K d { e with law := x } :=
  h.trans ⟨fun p hp => by cases p <;> first | rfl | exact absurd (sub_mem hk (.head _)) hp⟩
theorem Only.set_modu {x} (hk : sub [.modu] K = true) (h : Only K d e) : Only K d { e with modu := x } :=
  h.trans ⟨fun p hp => by cases p <;> first | rfl | exact absurd (sub_mem hk (.head _)) hp⟩
theorem Only.set_packs {x} (hk : sub [.packs] K = true) (h : Only K d e) : Only K d { e with packs := x } :=
  h.trans ⟨fun p hp => by cases p <;> first | rfl | exact absurd (sub_mem hk (.head _)) hp⟩
theorem Only.set_meter {x} (hk : sub [.meter] K = true) (h : Only K d e) : Only K d { e with meter := x } :=
  h.trans ⟨fun p hp => by cases p <;> first | rfl | exact absurd (sub_mem hk (.head _)) hp⟩
theorem Only.set_link {x} (hk : sub [.link] K = true) (h : Only K d e) : Only K d { e with link := x } :=
  h.trans ⟨fun p hp => by cases p <;> first | rfl | exact absurd (sub_mem hk (.head _)) hp⟩
theorem Only.set_safety {x} (hk : sub [.safety] K = true) (h : Only K d e) : Only K d { e with safety := x } :=
  h.trans ⟨fun p hp => by cases p <;> first | rfl | exact absurd (sub_mem hk (.head _)) hp⟩
theorem Only.set_twin {x} (hk : sub [.twin] K = true) (h : Only K d e) : Only K d { e with twin := x } :=
  h.trans ⟨fun p hp => by cases p <;> first | rfl | exact absurd (sub_mem hk (.head _)) hp⟩
theorem Only.set_par {x} (hk : sub [.par] K = true) (h : Only K d e) : Only K d { e with par := x } :=
  h.trans ⟨fun p hp => by cases p <;> first | rfl | exact absurd (sub_mem hk (.head _)) hp⟩
theorem Only.set_parCopies {x} (hk : sub [.copies] K = true) (h : Only K d e) : Only K d { e with parCopies := x } :=
  h.trans ⟨fun p hp => by cases p <;> first | rfl | exact absurd (sub_mem hk (.head _)) hp⟩
theorem Only.set_mirrors {x} (hk : sub [.mirror] K = true) (h : Only K d e) : Only K d { e with mirrors := x } :=
  h.trans ⟨fun p hp => by cases p <;> first | rfl | exact absurd (sub_mem hk (.head _)) hp⟩
theorem Only.set_conv {x} (hk : sub [.conv] K = true) (h : Only K d e) : Only K d { e with conv := x } :=
  h.trans ⟨fun p hp => by cases p <;> first | rfl | exact absurd (sub_mem hk (.head _)) hp⟩
theorem Only.set_clk {x} (hk : sub [.clk] K = true) (h : Only K d e) : Only K d { e with clk := x } :=
  h.trans ⟨fun p hp => by cases p <;> first | rfl | exact absurd (sub_mem hk (.head _)) hp⟩
theorem Only.set_eh {x} (hk : sub [.eh] K = true) (h : Only K d e) : Only K d { e with eh := x } :=
  h.trans ⟨fun p hp => by cases p <;> first | rfl | exact absurd (sub_mem hk (.head _)) hp⟩
theorem Only.set_prov {x} (hk : sub [.prov] K = true) (h : Only K d e) : Only K d { e with prov := x } :=
  h.trans ⟨fun p hp => by cases p <;> first | rfl | exact absurd (sub_mem hk (.head _)) hp⟩
theorem Only.set_sec {x} (hk : sub [.sec] K = true) (h : Only K d e) : Only K d { e with sec := x } :=
  h.trans ⟨fun p hp => by cases p <;> first | rfl | exact absurd (sub_mem hk (.head _)) hp⟩
theorem Only.set_rails {x} (hk : sub [.rails] K = true) (h : Only K d e) : Only K d { e with rails := x } :=
  h.trans ⟨fun p hp => by cases p <;> first | rfl | exact absurd (sub_mem hk (.head _)) hp⟩
theorem Only.set_grid {x} (h0 : sub [.ride] K = true ∨ e.grid.ride = x.ride) (h1 : sub [.traj] K = true ∨ e.grid.tr = x.tr) (h2 : sub [.brk] K = true ∨ e.grid.brk = x.brk) (h3 : sub [.seq] K = true ∨ e.grid.seq = x.seq)
    (h : Only K d e) : Only K d { e with grid := x } :=
  h.trans ⟨fun p hp => by
    cases p
    case ride => exact h0.elim (fun m => absurd (sub_mem m (.head _)) hp) id
    case traj => exact h1.elim (fun m => absurd (sub_mem m (.head _)) hp) id
    case brk => exact h2.elim (fun m => absurd (sub_mem m (.head _)) hp) id
    case seq => exact h3.elim (fun m => absurd (sub_mem m (.head _)) hp) id
    all_goals rfl⟩
theorem Only.set_prot {x} (h0 : sub [.prot] K = true ∨ e.prot.tripPart = x.tripPart) (h1 : sub [.gates] K = true ∨ e.prot.gatePart = x.gatePart)
    (h : Only K d e) : Only K d { e with prot := x } :=
  h.trans ⟨fun p hp => by
    cases p
    case prot => exact h0.elim (fun m => absurd (sub_mem m (.head _)) hp) id
    case gates => exact h1.elim (fun m => absurd (sub_mem m (.head _)) hp) id
    all_goals rfl⟩
theorem Only.set_host {x} (h0 : sub [.mail] K = true ∨ e.host.mail = x.mail) (h1 : sub [.queue] K = true ∨ e.host.queueRegs = x.queueRegs) (h2 : sub [.posts] K = true ∨ e.host.posts = x.posts) (h3 : sub [.regs] K = true ∨ e.host.regs = x.regs)
    (h : Only K d e) : Only K d { e with host := x } :=
  h.trans ⟨fun p hp => by
    cases p
    case mail => exact h0.elim (fun m => absurd (sub_mem m (.head _)) hp) id
    case queue => exact h1.elim (fun m => absurd (sub_mem m (.head _)) hp) id
    case posts => exact h2.elim (fun m => absurd (sub_mem m (.head _)) hp) id
    case regs => exact h3.elim (fun m => absurd (sub_mem m (.head _)) hp) id
    all_goals rfl⟩
theorem Only.set_net {x} (h0 : sub [.net] K = true ∨ e.net.still = x.still) (h1 : sub [.stations] K = true ∨ e.net.stations = x.stations)
    (h : Only K d e) : Only K d { e with net := x } :=
  h.trans ⟨fun p hp => by
    cases p
    case net => exact h0.elim (fun m => absurd (sub_mem m (.head _)) hp) id
    case stations => exact h1.elim (fun m => absurd (sub_mem m (.head _)) hp) id
    all_goals rfl⟩
theorem Only.set_recd {x} (h0 : sub [.soffit] K = true ∨ e.recd.store = x.store) (h1 : sub [.recd] K = true ∨ e.recd.still = x.still)
    (h : Only K d e) : Only K d { e with recd := x } :=
  h.trans ⟨fun p hp => by
    cases p
    case soffit => exact h0.elim (fun m => absurd (sub_mem m (.head _)) hp) id
    case recd => exact h1.elim (fun m => absurd (sub_mem m (.head _)) hp) id
    all_goals rfl⟩
theorem Only.set_zep {x} (h0 : sub [.dump] K = true ∨ e.zep.pmc.dump = x.pmc.dump) (h1 : sub [.drift] K = true ∨ e.zep.drift = x.drift) (h2 : sub [.hk] K = true ∨ e.zep.hk = x.hk)
    (h : Only K d e) : Only K d { e with zep := x } :=
  h.trans ⟨fun p hp => by
    cases p
    case dump => exact h0.elim (fun m => absurd (sub_mem m (.head _)) hp) id
    case drift => exact h1.elim (fun m => absurd (sub_mem m (.head _)) hp) id
    case hk => exact h2.elim (fun m => absurd (sub_mem m (.head _)) hp) id
    all_goals rfl⟩

/-! ## The setters of the parts that fall into several regions -/

theorem Device.setHost_set {f : HostPort → HostPort} (h0 : sub [.mail] K = true ∨ ∀ x, HostPort.mail x = (f x).mail)
    (h1 : sub [.queue] K = true ∨ ∀ x, HostPort.queueRegs x = (f x).queueRegs)
    (h2 : sub [.posts] K = true ∨ ∀ x, HostPort.posts x = (f x).posts)
    (h3 : sub [.regs] K = true ∨ ∀ x, HostPort.regs x = (f x).regs)
    (h : Only K d e) : Only K d (e.setHost f) := Only.set_host (h0.imp_right fun g => g _) (h1.imp_right fun g => g _) (h2.imp_right fun g => g _) (h3.imp_right fun g => g _) h
theorem Device.setProt_set {f : Prot → Prot} (h0 : sub [.prot] K = true ∨ ∀ x, Prot.tripPart x = (f x).tripPart)
    (h1 : sub [.gates] K = true ∨ ∀ x, Prot.gatePart x = (f x).gatePart)
    (h : Only K d e) : Only K d (e.setProt f) := Only.set_prot (h0.imp_right fun g => g _) (h1.imp_right fun g => g _) h
theorem Device.setRec_set {f : Rec → Rec} (h0 : sub [.soffit] K = true ∨ ∀ x, Rec.store x = (f x).store)
    (h1 : sub [.recd] K = true ∨ ∀ x, Rec.still x = (f x).still)
    (h : Only K d e) : Only K d (e.setRec f) := Only.set_recd (h0.imp_right fun g => g _) (h1.imp_right fun g => g _) h
theorem Device.setNet_set {f : Net → Net} (h0 : sub [.net] K = true ∨ ∀ x, Net.still x = (f x).still)
    (h1 : sub [.stations] K = true ∨ ∀ x, Net.stations x = (f x).stations)
    (h : Only K d e) : Only K d (e.setNet f) := Only.set_net (h0.imp_right fun g => g _) (h1.imp_right fun g => g _) h
theorem Device.setPmc_set {f : Pmc → Pmc} (h0 : sub [.dump] K = true ∨ ∀ x, Pmc.dump x = (f x).dump) (h : Only K d e) : Only K d (e.setPmc f) :=
  Only.set_zep (h0.imp_right fun g => g _) (.inr rfl) (.inr rfl) h

end Sys2Proof.Machine
end

