-- ==== Sys2Proof/Laws/FrameCore.lean ====
section
/-! SUPPORT. The parts of the device that each operation may change (`Only`): the shared operations: events, counters, time, sequences, trips, mailbox commands; then those that each command may change. -/

namespace Sys2Proof.Machine

/-! ## Base -/

theorem Device.draw_only (d : Device) : Only [] d (Device.draw d).2 := by
  unfold Device.draw
  refine Only.snd_mk ?_
  refine Only.set_fresh ?_
  exact Only.refl

/-! ## Triggers -/

theorem Device.condMet_only (d : Device) (x : Nat) (at_ : Tick) (v : Int) : Only [] d (Device.condMet d x at_ v) := by
  unfold Device.condMet
  extract_lets +onlyGivenNames r1
  refine Only.set_recd (.inr rfl) (.inr rfl) ?_
  exact Only.refl
theorem Device.recEvent_only (d : Device) (k : Nat) (at_ : Tick) : Only [] d (Device.recEvent d k at_) := by
  unfold Device.recEvent
  refine Only.foldl (fun x1 b2 hx1 => ?_) ?_
  · refine Only.step (Device.condMet_only ..) rfl ?_
    assumption
  · exact Only.refl
theorem Device.trigSample_only (d : Device) (x : Nat) (at_ : Tick) (v : Int) : Only [] d (Device.trigSample d x at_ v) := by
  unfold Device.trigSample
  extract_lets +onlyGivenNames c1
  split
  extract_lets +onlyGivenNames d2
  extract_lets +onlyGivenNames d3
  refine Only.cut d3 ?_ fun hd3 => ?_
  · subst d3
    refine Only.set_recd (.inr rfl) (.inr rfl) ?_
    exact Only.refl
  clear_value d3
  extract_lets +onlyGivenNames shown4
  refine Only.foldl (fun x5 b6 hx5 => ?_) ?_
  · refine Only.step (Device.condMet_only ..) rfl ?_
    assumption
  · assumption
theorem Device.trigFeed_only (d : Device) (src : Nat) (at_ : Tick) (v : Int) : Only [] d (Device.trigFeed d src at_ v) := by
  unfold Device.trigFeed
  refine Only.foldl (fun x1 b2 hx1 => ?_) ?_
  · refine Only.step (Device.trigSample_only ..) rfl ?_
    assumption
  · exact Only.refl
theorem Device.trigDigital_only (d : Device) (old : BitVec 128) (new : BitVec 128) (since : Tick) : Only [] d (Device.trigDigital d old new since) := by
  unfold Device.trigDigital
  refine Only.foldl (fun x1 b2 hx1 => ?_) ?_
  · extract_lets +onlyGivenNames src3
    extract_lets +onlyGivenNames d4
    refine Only.cut d4 ?_ fun hd4 => ?_
    · subst d4
      refine Only.foldl (fun x5 b6 hx5 => ?_) ?_
      · refine Only.step (Device.trigSample_only ..) rfl ?_
        assumption
      · assumption
    clear_value d4
    refine Only.step (Device.trigFeed_only ..) rfl ?_
    assumption
  · exact Only.refl
theorem Device.trigTimeouts_only (d : Device) : Only [] d (Device.trigTimeouts d) := by
  unfold Device.trigTimeouts
  refine Only.foldl (fun x1 b2 hx1 => ?_) ?_
  · extract_lets +onlyGivenNames c3
    extract_lets +onlyGivenNames e4
    extract_lets +onlyGivenNames due5
    extract_lets +onlyGivenNames up6
    extract_lets +onlyGivenNames dn7
    extract_lets +onlyGivenNames e'8
    extract_lets +onlyGivenNames e'9
    extract_lets +onlyGivenNames e'10
    extract_lets +onlyGivenNames d11
    extract_lets +onlyGivenNames d12
    refine Only.cut d12 ?_ fun hd12 => ?_
    · subst d12
      refine Only.set_recd (.inr rfl) (.inr rfl) ?_
      assumption
    clear_value d12
    refine Only.foldl (fun x13 b14 hx13 => ?_) ?_
    · refine Only.step (Device.condMet_only ..) rfl ?_
      assumption
    · assumption
  · exact Only.refl
theorem Device.trigRestart_only (d : Device) (old : PSet) : Only [] d (Device.trigRestart d old) := by
  unfold Device.trigRestart
  extract_lets +onlyGivenNames cfg1
  extract_lets +onlyGivenNames one2
  refine Only.set_recd (.inr rfl) (.inr rfl) ?_
  exact Only.refl

/-! ## Ops -/

theorem Device.post_only (d : Device) (w : HostWrite) : Only [.posts] d (Device.post d w) := by
  unfold Device.post
  refine Only.set_host (.inr rfl) (.inr rfl) (.inl rfl) (.inr rfl) ?_
  exact Only.refl
theorem Device.msix_only (d : Device) (v : Nat) : Only [.posts] d (Device.msix d v) := by
  unfold Device.msix
  split
  · exact Only.refl
  · refine Only.ite ?_ ?_
    · refine Only.set_host (.inr rfl) (.inr rfl) (.inl rfl) (.inr rfl) ?_
      exact Only.refl
    · refine Only.step (Device.post_only ..) rfl ?_
      exact Only.refl
theorem Device.hwSet_only (d : Device) (off : Nat) (mask : Nat) : Only [] d (Device.hwSet d off mask) := by
  unfold Device.hwSet
  refine Only.set_justSet ?_
  exact Only.refl
theorem Device.enqueue_only (d : Device) (e : Event) : Only [] d (Device.enqueue d e) := by
  unfold Device.enqueue
  refine Only.ite ?_ ?_
  · extract_lets +onlyGivenNames run1
    refine Only.set_host (.inr rfl) (.inr rfl) (.inr rfl) (.inr rfl) ?_
    exact Only.refl
  · refine Only.set_host (.inr rfl) (.inr rfl) (.inr rfl) (.inr rfl) ?_
    exact Only.refl
theorem Device.raiseEv_only (d : Device) (e : Event) : Only [] d (Device.raiseEv d e) := by
  unfold Device.raiseEv
  extract_lets +onlyGivenNames d1
  extract_lets +onlyGivenNames d2
  refine Only.cut d2 ?_ fun hd2 => ?_
  · subst d2
    refine Only.set_host (.inr rfl) (.inr rfl) (.inr rfl) (.inr rfl) ?_
    exact Only.refl
  clear_value d2
  extract_lets +onlyGivenNames d3
  refine Only.cut d3 ?_ fun hd3 => ?_
  · subst d3
    split
    · assumption
    · refine Only.step (Device.recEvent_only ..) rfl ?_
      assumption
  clear_value d3
  refine Only.step (Device.enqueue_only ..) rfl ?_
  assumption
theorem Device.raise_only (d : Device) (name : String) (island : Nat) (kind : Nat) (index : Nat) (payload : List Int) : Only [] d (Device.raise d name island kind index payload) := by
  unfold Device.raise
  refine Only.step (Device.raiseEv_only ..) rfl ?_
  exact Only.refl
theorem Device.raiseRated_only (d : Device) (name : String) (island : Nat) (kind : Nat) (index : Nat) (payload : List Int) : Only [] d (Device.raiseRated d name island kind index payload) := by
  unfold Device.raiseRated
  refine Only.ite ?_ ?_
  · extract_lets +onlyGivenNames rates1
    refine Only.set_host (.inr rfl) (.inr rfl) (.inr rfl) (.inr rfl) ?_
    exact Only.refl
  · extract_lets +onlyGivenNames d2
    refine Only.cut d2 ?_ fun hd2 => ?_
    · subst d2
      refine Only.step (Device.raise_only ..) rfl ?_
      exact Only.refl
    clear_value d2
    extract_lets +onlyGivenNames row3
    extract_lets +onlyGivenNames row4
    refine Only.set_host (.inr rfl) (.inr rfl) (.inr rfl) (.inr rfl) ?_
    assumption
theorem Device.reminder_only (d : Device) (name : String) (island : Nat) (kind : Nat) (index : Nat) (payload : List Int) : Only [] d (Device.reminder d name island kind index payload) := by
  unfold Device.reminder
  refine Only.step (Device.raiseEv_only ..) rfl ?_
  exact Only.refl
theorem Device.writeRecord_only (d : Device) (e : Event) : Only [.posts] d (Device.writeRecord d e) := by
  unfold Device.writeRecord
  extract_lets +onlyGivenNames h1
  extract_lets +onlyGivenNames n2
  extract_lets +onlyGivenNames base3
  extract_lets +onlyGivenNames w4
  extract_lets +onlyGivenNames w5
  refine Only.set_host (.inr rfl) (.inr rfl) (.inl rfl) (.inr rfl) ?_
  exact Only.refl
theorem Device.writeBacklog_only (n : Nat) (d : Device) : Only [.posts] d (Device.writeBacklog n d) := by
  induction n generalizing d with
  | zero => exact Only.refl
  | succ n ih =>
    unfold Device.writeBacklog
    refine Only.ite Only.refl ?_
    split
    · exact Only.refl
    · next rest _ =>
      have h1 : Only [.posts] d { d with host := { d.host with backlog := rest } } := Only.set_host (.inr rfl) (.inr rfl) (.inr rfl) (.inr rfl) Only.refl
      split
      · exact Only.step (ih _) rfl (h1.trans (Device.writeRecord_only ..))
      · exact Only.step (ih _) rfl (Only.set_host (.inr rfl) (.inr rfl) (.inr rfl) (.inr rfl) (h1.trans (Device.writeRecord_only ..)))
theorem Device.evqSignal_only (d : Device) : Only [.posts] d (Device.evqSignal d) := by
  unfold Device.evqSignal
  extract_lets +onlyGivenNames d1
  refine Only.cut d1 ?_ fun hd1 => ?_
  · subst d1
    refine Only.step (Device.msix_only ..) rfl ?_
    exact Only.refl
  clear_value d1
  refine Only.set_host (.inr rfl) (.inr rfl) (.inl rfl) (.inr rfl) ?_
  assumption
theorem Device.drainRecords_only (d : Device) : Only [.posts] d (Device.drainRecords d) := by
  unfold Device.drainRecords
  refine Only.step (Device.writeBacklog_only ..) rfl ?_
  exact Only.refl
theorem Device.drainShadow_only (d : Device) : Only [.posts] d (Device.drainShadow d) := by
  unfold Device.drainShadow
  extract_lets +onlyGivenNames addr1
  extract_lets +onlyGivenNames shadow2
  extract_lets +onlyGivenNames d3
  extract_lets +onlyGivenNames d4
  refine Only.cut d4 ?_ fun hd4 => ?_
  · subst d4
    refine Only.step (Device.post_only ..) rfl ?_
    exact Only.refl
  clear_value d4
  refine Only.ite ?_ ?_
  · refine Only.step (Device.evqSignal_only ..) rfl ?_
    assumption
  · assumption
theorem Device.drain_only (d : Device) : Only [.posts] d (Device.drain d) := by
  unfold Device.drain
  refine Only.ite ?_ ?_
  · refine Only.step (Device.drainShadow_only ..) rfl ?_
    refine Only.step (Device.drainRecords_only ..) rfl ?_
    exact Only.refl
  · exact Only.refl
theorem Device.complete_only (d : Device) (h : CmdHdr) (e : Ending) : Only [.mail, .posts] d (Device.complete d h e) := by
  unfold Device.complete
  refine Only.ite ?_ ?_
  · refine Only.set_host (.inl rfl) (.inr rfl) (.inl rfl) (.inr rfl) ?_
    exact Only.refl
  · extract_lets +onlyGivenNames evs1
    extract_lets +onlyGivenNames wrote2
    extract_lets +onlyGivenNames d3
    refine Only.cut d3 ?_ fun hd3 => ?_
    · subst d3
      refine Only.ite ?_ ?_
      · refine Only.step (Device.drainRecords_only ..) rfl ?_
        exact Only.refl
      · exact Only.refl
    clear_value d3
    extract_lets +onlyGivenNames rest4
    split
    · unfold rest4
      refine Only.ite ?_ ?_
      · refine Only.step (Device.drainShadow_only ..) rfl ?_
        assumption
      · assumption
    · refine Only.ite ?_ ?_
      · unfold rest4
        refine Only.ite ?_ ?_
        · refine Only.step (Device.drainShadow_only ..) rfl ?_
          assumption
        · assumption
      · extract_lets +onlyGivenNames base5
        extract_lets +onlyGivenNames c6
        extract_lets +onlyGivenNames d7
        extract_lets +onlyGivenNames d8
        refine Only.cut d8 ?_ fun hd8 => ?_
        · subst d8
          refine Only.step (Device.post_only ..) rfl ?_
          assumption
        clear_value d8
        extract_lets +onlyGivenNames d9
        extract_lets +onlyGivenNames d10
        refine Only.cut d10 ?_ fun hd10 => ?_
        · subst d10
          refine Only.set_host (.inl rfl) (.inr rfl) (.inl rfl) (.inr rfl) ?_
          assumption
        clear_value d10
        extract_lets +onlyGivenNames d11
        refine Only.cut d11 ?_ fun hd11 => ?_
        · subst d11
          unfold rest4
          refine Only.ite ?_ ?_
          · refine Only.step (Device.drainShadow_only ..) rfl ?_
            assumption
          · assumption
        clear_value d11
        refine Only.ite ?_ ?_
        · assumption
        · refine Only.step (Device.msix_only ..) rfl ?_
          assumption
theorem Device.dmaFail_only (d : Device) : Only [.regs] d (Device.dmaFail d) := by
  unfold Device.dmaFail
  refine Only.set_host (.inr rfl) (.inr rfl) (.inr rfl) (.inl rfl) ?_
  exact Only.refl
theorem Device.hostErr_only (d : Device) : Only [.regs] d (Device.hostErr d) := by
  unfold Device.hostErr
  refine Only.set_host (.inr rfl) (.inr rfl) (.inr rfl) (.inl rfl) ?_
  exact Only.refl
theorem Device.reserved_only (d : Device) (v : BitVec 32) (mask : Nat) : Only [.regs] d (Device.reserved d v mask) := by
  unfold Device.reserved
  refine Only.ite ?_ ?_
  · exact Only.refl
  · refine Only.step (Device.hostErr_only ..) rfl ?_
    exact Only.refl

/-! ## Soffit -/

theorem Device.soffitWrite_only (d : Device) (addr : Nat) (l : List (BitVec 8)) : Only [.soffit] d (Device.soffitWrite d addr l) := by
  unfold Device.soffitWrite
  refine Only.set_recd (.inl rfl) (.inr rfl) ?_
  exact Only.refl

/-! ## Time -/

theorem Device.setCtrs_only (d : Device) (b : Nat) (f : List PmcCounter → List PmcCounter) : Only [] d (Device.setCtrs d b f) := by
  unfold Device.setCtrs
  refine Only.set_zep (.inr rfl) (.inr rfl) (.inr rfl) ?_
  exact Only.refl
theorem Device.ctrWrap_only (n : Nat) (d : Device) (b i : Nat) : Only [] d (Device.ctrWrap n d b i) := by
  induction n generalizing d i with
  | zero => exact Only.refl
  | succ n ih =>
    unfold Device.ctrWrap
    refine Only.ite (Only.ite Only.refl (Only.ite ?_ ((Device.setCtrs_only ..).trans (ih ..)))) (((Device.setCtrs_only ..).trans (Device.hwSet_only ..)).trans (Device.raiseRated_only ..))
    exact Device.setCtrs_only ..
theorem Device.ctrAdd_only (d : Device) (b : Nat) (i : Nat) (n : Nat) : Only [] d (Device.ctrAdd d b i n) := by
  unfold Device.ctrAdd
  extract_lets +onlyGivenNames v1
  extract_lets +onlyGivenNames d'2
  refine Only.cut d'2 ?_ fun hd'2 => ?_
  · subst d'2
    refine Only.step (Device.setCtrs_only ..) rfl ?_
    exact Only.refl
  clear_value d'2
  refine Only.ite ?_ ?_
  · assumption
  · refine Only.step (Device.ctrWrap_only ..) rfl ?_
    assumption
theorem Device.pmcPulse_only (d : Device) (b : Nat) (code : Nat) (n : Nat) : Only [] d (Device.pmcPulse d b code n) := by
  unfold Device.pmcPulse
  refine Only.foldl (fun x1 b2 hx1 => ?_) ?_
  · extract_lets +onlyGivenNames c3
    refine Only.ite ?_ ?_
    · assumption
    · refine Only.ite ?_ ?_
      · refine Only.step (Device.ctrAdd_only ..) rfl ?_
        assumption
      · refine Only.ite ?_ ?_
        · refine Only.step (Device.ctrAdd_only ..) rfl ?_
          assumption
        · split
          rename_i q4
          refine Only.cut _ (Only.of_snd q4 ?_) fun hx5 => ?_
          · refine Only.step (Device.draw_only ..) rfl ?_
            assumption
          refine Only.step (Device.ctrAdd_only ..) rfl ?_
          assumption
  · exact Only.refl
theorem Device.pmcRise_only (d : Device) (b : Nat) (code : Nat) (n : Nat) : Only [] d (Device.pmcRise d b code n) := by
  unfold Device.pmcRise
  refine Only.foldl (fun x1 b2 hx1 => ?_) ?_
  · extract_lets +onlyGivenNames c3
    refine Only.ite ?_ ?_
    · refine Only.step (Device.ctrAdd_only ..) rfl ?_
      assumption
    · assumption
  · exact Only.refl
theorem Device.pmcSpan_only (d : Device) (span : Nat) : Only [] d (Device.pmcSpan d span) := by
  unfold Device.pmcSpan
  refine Only.ite ?_ ?_
  · exact Only.refl
  · extract_lets +onlyGivenNames opened1
    refine Only.foldl (fun x2 b3 hx2 => ?_) ?_
    · refine Only.foldl (fun x4 b5 hx4 => ?_) ?_
      · extract_lets +onlyGivenNames c6
        refine Only.ite ?_ ?_
        · assumption
        · refine Only.ite ?_ ?_
          · refine Only.step (Device.ctrAdd_only ..) rfl ?_
            assumption
          · split
            · refine Only.ite ?_ ?_
              · refine Only.step (Device.ctrAdd_only ..) rfl ?_
                assumption
              · assumption
            · refine Only.ite ?_ ?_
              · split
                rename_i q7
                refine Only.cut _ (Only.of_snd q7 ?_) fun hx8 => ?_
                · refine Only.step (Device.draw_only ..) rfl ?_
                  assumption
                refine Only.step (Device.ctrAdd_only ..) rfl ?_
                assumption
              · assumption
      · assumption
    · exact Only.refl
theorem Device.scSpan_only (d : Device) (span : Nat) : Only [.stations] d (Device.scSpan d span) := by
  unfold Device.scSpan
  extract_lets +onlyGivenNames total1
  extract_lets +onlyGivenNames k2
  refine Only.set_net (.inr rfl) (.inl rfl) ?_
  exact Only.refl
theorem Device.advance_only (d : Device) (t : Tick) : Only [.time, .stations] d (Device.advance d t) := by
  unfold Device.advance
  refine Only.ite ?_ ?_
  · exact Only.refl
  · extract_lets +onlyGivenNames span1
    extract_lets +onlyGivenNames r2
    refine Only.cut r2 ?_ fun hr2 => ?_
    · subst r2
      refine Only.step (Device.pmcSpan_only ..) rfl ?_
      refine Only.step (Device.scSpan_only ..) rfl ?_
      exact Only.refl
    clear_value r2
    refine Only.set_now rfl ?_
    assumption
theorem Device.logDigital_only (d : Device) : Only [] d (Device.logDigital d) := by
  unfold Device.logDigital
  extract_lets +onlyGivenNames w1
  extract_lets +onlyGivenNames last2
  refine Only.ite ?_ ?_
  · exact Only.refl
  · extract_lets +onlyGivenNames d3
    refine Only.cut d3 ?_ fun hd3 => ?_
    · subst d3
      refine Only.step (Device.trigDigital_only ..) rfl ?_
      exact Only.refl
    clear_value d3
    refine Only.set_recd (.inr rfl) (.inr rfl) ?_
    assumption
theorem Device.countEdges_only (d : Device) : Only [] d (Device.countEdges d) := by
  unfold Device.countEdges
  extract_lets +onlyGivenNames now1
  extract_lets +onlyGivenNames rose2
  extract_lets +onlyGivenNames d3
  refine Only.cut d3 ?_ fun hd3 => ?_
  · subst d3
    refine Only.foldl (fun x4 b5 hx4 => ?_) ?_
    · refine Only.step (Device.pmcRise_only ..) rfl ?_
      assumption
    · exact Only.refl
  clear_value d3
  refine Only.set_zep (.inr rfl) (.inr rfl) (.inr rfl) ?_
  assumption
/-- What any command moves by its time alone. -/
theorem Device.ready_only (d : Device) (t : Tick) : Only [.time, .stations] d (d.ready t) :=
  Only.set_host (.inr rfl) (.inr rfl) (.inr rfl) (.inr rfl) (Device.advance_only ..)
/-- A command's frame: what its effect changes, on the device at its instant. -/
theorem Device.at_only {K : List Region} {d : Device} {t : Tick} {f : Device → Device} (hf : ∀ x, Only K x (f x)) : Only K (d.ready t) (d.at_ t f) :=
  Only.step (Device.countEdges_only ..) rfl (Only.step (Device.logDigital_only ..) rfl (Only.step (Device.pmcPulse_only ..) rfl (hf _)))
/-- Carrying out the posted writes changes Soffit alone, and that only where writes wait. -/
theorem Device.carryOut_only {K : List Region} {a r b : Device} (hp : a.recd.posted = []) (hw : a.recd.wiped = false) (hr : a.recd.store = r.recd.store) (h : Only K r b) :
    Only K r (a.carryOut b) := by
  refine ⟨fun p hp' => ?_⟩
  have g := h.same p hp'
  cases p
  case soffit =>
    have e : r.recd.store = b.recd.store := g
    rw [← hr] at e
    have e' := e
    simp only [Rec.store, Prod.mk.injEq] at e e'
    obtain ⟨e1, e2, e3⟩ := e
    show r.recd.store = (a.carryOut b).recd.store
    rw [← hr]
    simp [Rec.store, Device.carryOut, Device.soffitAfter, ← e2, ← e3, hp, hw]
  all_goals exact g
/-- What a command changes, by what its effect changes. -/
theorem State.on_only {K : List Region} {s s' : State} {t : Tick} {f : Device → Device} (hq : s.Quiet) (h : s.on t f = .next s') (hf : ∀ d, Only K d (f d)) :
    Only K (s.dev.ready t) s'.dev := by
  cases h
  exact Device.carryOut_only hq.1 hq.2 ((Device.ready_only s.dev t).same .soffit (by decide)) (Device.at_only hf)

/-! ## Sequence -/

theorem Device.setSeq_only (d : Device) (f : Seq → Seq) : Only [.seq] d (Device.setSeq d f) := by
  unfold Device.setSeq
  refine Only.set_grid (.inr rfl) (.inr rfl) (.inr rfl) (.inl rfl) ?_
  exact Only.refl
theorem Device.setTraj_only (d : Device) (f : Traj → Traj) : Only [.traj] d (Device.setTraj d f) := by
  unfold Device.setTraj
  refine Only.set_grid (.inr rfl) (.inl rfl) (.inr rfl) (.inr rfl) ?_
  exact Only.refl
theorem Device.setRide_only (d : Device) (f : Ride → Ride) : Only [.ride] d (Device.setRide d f) := by
  unfold Device.setRide
  refine Only.set_grid (.inl rfl) (.inr rfl) (.inr rfl) (.inr rfl) ?_
  exact Only.refl
theorem Device.setBrk_only (d : Device) (b : Nat) (f : Breaker → Breaker) : Only [.brk] d (Device.setBrk d b f) := by
  unfold Device.setBrk
  refine Only.set_grid (.inr rfl) (.inr rfl) (.inl rfl) (.inr rfl) ?_
  exact Only.refl
theorem Device.setConv_only (d : Device) (f : Conv → Conv) : Only [.conv] d (Device.setConv d f) := by
  unfold Device.setConv
  refine Only.set_conv rfl ?_
  exact Only.refl
theorem Device.setProt_only (d : Device) (f : Prot → Prot) : Only [.prot, .gates] d (Device.setProt d f) := by
  unfold Device.setProt
  refine Only.set_prot (.inl rfl) (.inl rfl) ?_
  exact Only.refl
theorem Device.setModu_only (d : Device) (f : Modu → Modu) : Only [.modu] d (Device.setModu d f) := by
  unfold Device.setModu
  refine Only.set_modu rfl ?_
  exact Only.refl
theorem Device.setSaf_only (d : Device) (f : Safety → Safety) : Only [.safety] d (Device.setSaf d f) := by
  unfold Device.setSaf
  refine Only.set_safety rfl ?_
  exact Only.refl
theorem Device.setTwin_only (d : Device) (f : Twin → Twin) : Only [.twin] d (Device.setTwin d f) := by
  unfold Device.setTwin
  refine Only.set_twin rfl ?_
  exact Only.refl
theorem Device.setHost_only (d : Device) (f : HostPort → HostPort) : Only [.mail, .queue, .posts, .regs] d (Device.setHost d f) := by
  unfold Device.setHost
  refine Only.set_host (.inl rfl) (.inl rfl) (.inl rfl) (.inl rfl) ?_
  exact Only.refl
theorem Device.setLink_only (d : Device) (f : Link → Link) : Only [.link] d (Device.setLink d f) := by
  unfold Device.setLink
  refine Only.set_link rfl ?_
  exact Only.refl
theorem Device.setLaw_only (d : Device) (f : Law → Law) : Only [.law] d (Device.setLaw d f) := by
  unfold Device.setLaw
  refine Only.set_law rfl ?_
  exact Only.refl
theorem Device.setPacks_only (d : Device) (f : Packs → Packs) : Only [.packs] d (Device.setPacks d f) := by
  unfold Device.setPacks
  refine Only.set_packs rfl ?_
  exact Only.refl
theorem Device.setMeas_only (d : Device) (f : Meas → Meas) : Only [.meas] d (Device.setMeas d f) := by
  unfold Device.setMeas
  refine Only.set_meas rfl ?_
  exact Only.refl
theorem Device.closeCommand_only (d : Device) (b : Nat) : Only [.brk] d (Device.closeCommand d b) := by
  unfold Device.closeCommand
  refine Only.ite ?_ ?_
  · exact Only.refl
  · refine Only.step (Device.setBrk_only ..) rfl ?_
    exact Only.refl
theorem Device.withdrawClose_only (d : Device) (b : Nat) : Only [.brk, .seq] d (Device.withdrawClose d b) := by
  unfold Device.withdrawClose
  extract_lets +onlyGivenNames x1
  refine Only.ite ?_ ?_
  · refine Only.step (Device.setSeq_only ..) rfl ?_
    refine Only.step (Device.setBrk_only ..) rfl ?_
    exact Only.refl
  · exact Only.refl
theorem Device.flushMoves_only (d : Device) : Only [.traj] d (Device.flushMoves d) := by
  unfold Device.flushMoves
  extract_lets +onlyGivenNames n1
  refine Only.step (Device.raise_only ..) rfl ?_
  refine Only.step (Device.setTraj_only ..) rfl ?_
  exact Only.refl
theorem Device.dropMoves_only (d : Device) : Only [.traj] d (Device.dropMoves d) := by
  unfold Device.dropMoves
  refine Only.step (Device.setTraj_only ..) rfl ?_
  exact Only.refl
theorem Device.endSequence_only (d : Device) (reason : Nat) : Only [.traj, .brk, .seq] d (Device.endSequence d reason) := by
  unfold Device.endSequence
  refine Only.ite ?_ ?_
  · exact Only.refl
  · refine Only.step (Device.setSeq_only ..) rfl ?_
    refine Only.step (Device.setTraj_only ..) rfl ?_
    refine Only.step (Device.withdrawClose_only ..) rfl ?_
    exact Only.refl
theorem Device.landAbort_only (d : Device) (reason : Nat) : Only [.traj, .brk, .seq] d (Device.landAbort d reason) := by
  unfold Device.landAbort
  refine Only.ite ?_ ?_
  · exact Only.refl
  · refine Only.step (Device.raise_only ..) rfl ?_
    refine Only.step (Device.setSeq_only ..) rfl ?_
    refine Only.step (Device.setTraj_only ..) rfl ?_
    refine Only.step (Device.withdrawClose_only ..) rfl ?_
    exact Only.refl
theorem Device.tripSequence_only (d : Device) : Only [.traj, .brk, .seq] d (Device.tripSequence d) := by
  unfold Device.tripSequence
  refine Only.ite ?_ ?_
  · refine Only.step (Device.landAbort_only ..) rfl ?_
    exact Only.refl
  · refine Only.ite ?_ ?_
    · refine Only.step (Device.endSequence_only ..) rfl ?_
      exact Only.refl
    · exact Only.refl

/-! ## Trip -/

theorem Device.setSrc_only (d : Device) (i : Nat) (f : TripSrc → TripSrc) : Only [.prot] d (Device.setSrc d i f) := by
  unfold Device.setSrc
  refine Device.setProt_set (.inl rfl) (.inr fun _ => rfl) ?_
  exact Only.refl
theorem Device.squallBegins_only (d : Device) : Only [.prot, .conv] d (Device.squallBegins d) := by
  unfold Device.squallBegins
  extract_lets +onlyGivenNames d1
  refine Only.cut d1 ?_ fun hd1 => ?_
  · subst d1
    refine Device.setProt_set (.inl rfl) (.inr fun _ => rfl) ?_
    exact Only.refl
  clear_value d1
  extract_lets +onlyGivenNames d2
  refine Only.cut d2 ?_ fun hd2 => ?_
  · subst d2
    refine Only.step (Device.setConv_only ..) rfl ?_
    assumption
  clear_value d2
  refine Only.ite ?_ ?_
  · refine Only.step (Device.raise_only ..) rfl ?_
    refine Device.setProt_set (.inl rfl) (.inr fun _ => rfl) ?_
    assumption
  · assumption
theorem Device.blockArms_only (d : Device) : Only [.modu, .prot, .conv] d (Device.blockArms d) := by
  unfold Device.blockArms
  extract_lets +onlyGivenNames d1
  refine Only.cut d1 ?_ fun hd1 => ?_
  · subst d1
    refine Device.setProt_set (.inl rfl) (.inr fun _ => rfl) ?_
    exact Only.refl
  clear_value d1
  extract_lets +onlyGivenNames d2
  refine Only.cut d2 ?_ fun hd2 => ?_
  · subst d2
    refine Only.step (Device.setConv_only ..) rfl ?_
    assumption
  clear_value d2
  refine Only.step (Device.setModu_only ..) rfl ?_
  assumption
theorem Device.squallTrigger_only (d : Device) : Only [.traj, .brk, .seq, .modu, .prot, .conv] d (Device.squallTrigger d) := by
  unfold Device.squallTrigger
  extract_lets +onlyGivenNames first1
  extract_lets +onlyGivenNames d2
  refine Only.cut d2 ?_ fun hd2 => ?_
  · subst d2
    refine Device.setProt_set (.inl rfl) (.inr fun _ => rfl) ?_
    exact Only.refl
  clear_value d2
  extract_lets +onlyGivenNames d3
  refine Only.cut d3 ?_ fun hd3 => ?_
  · subst d3
    refine Only.ite ?_ ?_
    · refine Only.step (Device.squallBegins_only ..) rfl ?_
      assumption
    · assumption
  clear_value d3
  extract_lets +onlyGivenNames d4
  refine Only.cut d4 ?_ fun hd4 => ?_
  · subst d4
    refine Only.step (Device.blockArms_only ..) rfl ?_
    assumption
  clear_value d4
  refine Only.step (Device.tripSequence_only ..) rfl ?_
  assumption
theorem Device.recordTrip_only (d : Device) (i : Nat) (note : TripNote) : Only [.prot] d (Device.recordTrip d i note) := by
  unfold Device.recordTrip
  extract_lets +onlyGivenNames fresh1
  extract_lets +onlyGivenNames r2
  extract_lets +onlyGivenNames r3
  refine Only.ite ?_ ?_
  · exact Only.refl
  · extract_lets +onlyGivenNames single4
    extract_lets +onlyGivenNames r'5
    extract_lets +onlyGivenNames d6
    refine Only.cut d6 ?_ fun hd6 => ?_
    · subst d6
      refine Device.setProt_set (.inl rfl) (.inr fun _ => rfl) ?_
      exact Only.refl
    clear_value d6
    refine Only.ite ?_ ?_
    · refine Only.step (Device.recEvent_only ..) rfl ?_
      assumption
    · assumption
theorem Device.rejectClear_only (d : Device) (i : Nat) (stage : Nat) : Only [.prot] d (Device.rejectClear d i stage) := by
  unfold Device.rejectClear
  extract_lets +onlyGivenNames d1
  refine Only.cut d1 ?_ fun hd1 => ?_
  · subst d1
    refine Device.setProt_set (.inl rfl) (.inr fun _ => rfl) ?_
    exact Only.refl
  clear_value d1
  refine Only.ite ?_ ?_
  · refine Only.step (Device.raiseRated_only ..) rfl ?_
    assumption
  · refine Only.step (Device.raise_only ..) rfl ?_
    assumption
theorem Device.assertSrc_only (d : Device) (i : Nat) (note : TripNote) : Only [.traj, .brk, .seq, .modu, .prot, .conv] d (Device.assertSrc d i note) := by
  unfold Device.assertSrc
  extract_lets +onlyGivenNames was1
  refine Only.ite ?_ ?_
  · exact Only.refl
  · extract_lets +onlyGivenNames d2
    refine Only.cut d2 ?_ fun hd2 => ?_
    · subst d2
      refine Only.ite ?_ ?_
      · refine Only.step (Device.rejectClear_only ..) rfl ?_
        exact Only.refl
      · exact Only.refl
    clear_value d2
    extract_lets +onlyGivenNames d3
    refine Only.cut d3 ?_ fun hd3 => ?_
    · subst d3
      refine Only.step (Device.recordTrip_only ..) rfl ?_
      assumption
    clear_value d3
    extract_lets +onlyGivenNames own4
    extract_lets +onlyGivenNames d5
    refine Only.cut d5 ?_ fun hd5 => ?_
    · subst d5
      refine Only.step (Device.setSrc_only ..) rfl ?_
      assumption
    clear_value d5
    extract_lets +onlyGivenNames d6
    refine Only.cut d6 ?_ fun hd6 => ?_
    · subst d6
      refine Only.ite ?_ ?_
      · assumption
      · refine Only.step (Device.raise_only ..) rfl ?_
        assumption
    clear_value d6
    refine Only.step (Device.squallTrigger_only ..) rfl ?_
    assumption
theorem Device.inputActive_only (d : Device) (i : Nat) (note : TripNote) : Only [.traj, .brk, .seq, .modu, .prot, .conv] d (Device.inputActive d i note) := by
  unfold Device.inputActive
  refine Only.ite ?_ ?_
  · exact Only.refl
  · extract_lets +onlyGivenNames d1
    refine Only.cut d1 ?_ fun hd1 => ?_
    · subst d1
      refine Only.step (Device.setSrc_only ..) rfl ?_
      exact Only.refl
    clear_value d1
    refine Only.ite ?_ ?_
    · assumption
    · refine Only.step (Device.assertSrc_only ..) rfl ?_
      assumption
theorem Device.inputInactive_only (d : Device) (i : Nat) : Only [.prot] d (Device.inputInactive d i) := by
  unfold Device.inputInactive
  refine Only.ite ?_ ?_
  · exact Only.refl
  · refine Only.step (Device.setSrc_only ..) rfl ?_
    exact Only.refl
theorem Device.setInput_only (d : Device) (i : Nat) (active : Bool) : Only [.traj, .brk, .seq, .modu, .prot, .conv] d (Device.setInput d i active) := by
  unfold Device.setInput
  refine Only.ite ?_ ?_
  · refine Only.step (Device.inputActive_only ..) rfl ?_
    exact Only.refl
  · refine Only.step (Device.inputInactive_only ..) rfl ?_
    exact Only.refl
theorem Device.controlTrip_only (d : Device) (cause : Nat) : Only [.traj, .brk, .seq, .modu, .prot, .conv] d (Device.controlTrip d cause) := by
  unfold Device.controlTrip
  refine Only.step (Device.inputActive_only ..) rfl ?_
  exact Only.refl
theorem Device.desatTrip_only (d : Device) (arms : Nat) : Only [.traj, .brk, .seq, .modu, .prot, .conv] d (Device.desatTrip d arms) := by
  unfold Device.desatTrip
  extract_lets +onlyGivenNames note1
  refine Only.ite ?_ ?_
  · refine Only.step (Device.recordTrip_only ..) rfl ?_
    exact Only.refl
  · refine Only.step (Device.inputActive_only ..) rfl ?_
    exact Only.refl

/-! ## Operands -/

theorem Device.cmdIf_by {K : List Region} {d e : Device} {h : CmdHdr} {a : Args} {used : List (Nat × Nat)} {bad : Option Nat} {body : Device → Device × Option Ending}
    (hk : sub [.mail, .posts] K = true) (hb : ∀ x, Only K d x → Only K d (body x).1) (hd : Only K d e) : Only K d (e.cmdIf h a used bad body) := by
  unfold Device.cmdIf
  refine Only.ite hd ?_
  have hp : Only K d (e.pmcPulse 0 2 1) := Only.step (Device.pmcPulse_only ..) rfl hd
  generalize e.pmcPulse 0 2 1 = x at hp
  have hx := hb x hp
  dsimp only
  split
  · exact Only.step (Device.complete_only ..) hk hp
  · split
    · next heq => exact Only.step (Device.complete_only ..) hk (Only.of_fst heq hx)
    · next heq => exact Only.of_fst heq hx
theorem Device.cmd_by {K : List Region} {d e : Device} {h : CmdHdr} {a : Args} {used : List (Nat × Nat)} {body : Device → Device × Option Ending}
    (hk : sub [.mail, .posts] K = true) (hb : ∀ x, Only K d x → Only K d (body x).1) (hd : Only K d e) : Only K d (e.cmd h a used body) := Device.cmdIf_by hk hb hd

end Sys2Proof.Machine
end

