-- ==== Sys2Proof/Laws/FrameMeasurement.lean ====
section
/-! SUPPORT. The parts of the device that each operation may change (`Only`): parameters, capture, measurement, error reports, the twin link; then those that each command may change. -/

namespace Sys2Proof.Machine

/-! ## ParamOps -/

theorem Device.applyWaiting_only (d : Device) (p : Nat → Bool) : Only [.par] d (Device.applyWaiting d p) := by
  unfold Device.applyWaiting
  extract_lets +onlyGivenNames go1
  extract_lets +onlyGivenNames force2
  refine Only.set_par rfl ?_
  exact Only.refl
theorem Device.loadParams_only (d : Device) : Only [.par] d (Device.loadParams d) := by
  unfold Device.loadParams
  extract_lets +onlyGivenNames base1
  extract_lets +onlyGivenNames base2
  split
  · refine Only.set_par rfl ?_
    exact Only.refl
  · refine Only.step (Device.raise_only ..) rfl ?_
    refine Only.set_par rfl ?_
    exact Only.refl

/-! ## Filter -/

theorem Device.quant_only (d : Device) (x : Rat) : Only [] d (Device.quant d x).2 := by
  unfold Device.quant
  split
  · refine Only.snd_mk ?_
    exact Only.refl
  · split
    rename_i q1
    refine Only.cut _ (Only.of_snd q1 ?_) fun hx2 => ?_
    · refine Only.step (Device.draw_only ..) rfl ?_
      exact Only.refl
    refine Only.snd_mk ?_
    assumption

/-! ## Capture -/

theorem Device.raiseAtClose_only (d : Device) (name : String) (island : Nat) (kind : Nat) (index : Nat) (mask : Nat) : Only [] d (Device.raiseAtClose d name island kind index mask) := by
  unfold Device.raiseAtClose
  refine Only.ite ?_ ?_
  · extract_lets +onlyGivenNames rates1
    refine Only.set_host (.inr rfl) (.inr rfl) (.inr rfl) (.inr rfl) ?_
    exact Only.refl
  · extract_lets +onlyGivenNames row2
    extract_lets +onlyGivenNames row3
    refine Only.set_host (.inr rfl) (.inr rfl) (.inr rfl) (.inr rfl) ?_
    exact Only.refl
theorem Device.setRec_only (d : Device) (f : Rec → Rec) : Only [.soffit, .recd] d (Device.setRec d f) := by
  unfold Device.setRec
  refine Only.set_recd (.inl rfl) (.inl rfl) ?_
  exact Only.refl
theorem Device.recState_only (d : Device) (st : Nat) : Only [.posts, .recd] d (Device.recState d st) := by
  unfold Device.recState
  refine Only.ite ?_ ?_
  · exact Only.refl
  · refine Only.step (Device.msix_only ..) rfl ?_
    refine Device.setRec_set (.inr fun _ => rfl) (.inl rfl) ?_
    exact Only.refl
theorem Device.onFrameAt_only (d : Device) (t : Tick) (f : RecFrame → RecFrame) : Only [.recd] d (Device.onFrameAt d t f) := by
  unfold Device.onFrameAt
  extract_lets +onlyGivenNames n1
  refine Only.ite ?_ ?_
  · exact Only.refl
  · refine Device.setRec_set (.inr fun _ => rfl) (.inl rfl) ?_
    exact Only.refl
theorem Device.onFrameOf_only (d : Device) (seq : BitVec 16) (f : RecFrame → RecFrame) : Only [.recd] d (Device.onFrameOf d seq f) := by
  unfold Device.onFrameOf
  extract_lets +onlyGivenNames one1
  refine Device.setRec_set (.inr fun _ => rfl) (.inl rfl) ?_
  exact Only.refl
theorem Device.onFrame_only (d : Device) (f : RecFrame → RecFrame) : Only [.recd] d (Device.onFrame d f) := by
  unfold Device.onFrame
  refine Device.setRec_set (.inr fun _ => rfl) (.inl rfl) ?_
  exact Only.refl
theorem Device.redClose_only (d : Device) (c : Nat) (scale : Rat) : Only [.recd] d (Device.redClose d c scale) := by
  unfold Device.redClose
  extract_lets +onlyGivenNames ch1
  split
  rename_i q2
  refine Only.cut _ (Only.of_snd q2 ?_) fun hx3 => ?_
  · refine Only.step (Device.quant_only ..) rfl ?_
    exact Only.refl
  split
  rename_i q4
  refine Only.cut _ (Only.of_snd q4 ?_) fun hx5 => ?_
  · refine Only.step (Device.quant_only ..) rfl ?_
    assumption
  extract_lets +onlyGivenNames words6
  refine Device.setRec_set (.inr fun _ => rfl) (.inl rfl) ?_
  assumption
theorem Device.redTake_only (d : Device) (c : Nat) (v : Int) (scale : Rat) : Only [.recd] d (Device.redTake d c v scale) := by
  unfold Device.redTake
  extract_lets +onlyGivenNames d1
  refine Only.cut d1 ?_ fun hd1 => ?_
  · subst d1
    refine Device.setRec_set (.inr fun _ => rfl) (.inl rfl) ?_
    exact Only.refl
  clear_value d1
  refine Only.ite ?_ ?_
  · refine Only.step (Device.redClose_only ..) rfl ?_
    assumption
  · assumption
theorem Device.reduceFrom_only (d : Device) (src : Nat) (v : Int) (scale : Rat) : Only [.recd] d (Device.reduceFrom d src v scale) := by
  unfold Device.reduceFrom
  refine Only.ite ?_ ?_
  · exact Only.refl
  · refine Only.foldl (fun x1 b2 hx1 => ?_) ?_
    · refine Only.step (Device.redTake_only ..) rfl ?_
      assumption
    · exact Only.refl
theorem Device.rawSample_only (d : Device) (adc : Nat) (mux : Nat) (code : Nat) (at_ : Tick) (refns : Bool) (gust : Bool) : Only [.recd] d (Device.rawSample d adc mux code at_ refns gust) := by
  unfold Device.rawSample
  extract_lets +onlyGivenNames w1
  extract_lets +onlyGivenNames d2
  refine Only.cut d2 ?_ fun hd2 => ?_
  · subst d2
    refine Only.step (Device.onFrameAt_only ..) rfl ?_
    exact Only.refl
  clear_value d2
  refine Only.step (Device.pmcPulse_only ..) rfl ?_
  refine Only.step (Device.trigFeed_only ..) rfl ?_
  refine Only.step (Device.reduceFrom_only ..) rfl ?_
  assumption
theorem Device.maskStart_only (d : Device) (k : Nat) (trig : Nat) : Only [.recd] d (Device.maskStart d k trig) := by
  unfold Device.maskStart
  extract_lets +onlyGivenNames p1
  extract_lets +onlyGivenNames one2
  refine Device.setRec_set (.inr fun _ => rfl) (.inl rfl) ?_
  exact Only.refl
theorem Device.recFail_only (d : Device) : Only [.posts, .recd] d (Device.recFail d) := by
  unfold Device.recFail
  extract_lets +onlyGivenNames d1
  refine Only.cut d1 ?_ fun hd1 => ?_
  · subst d1
    refine Only.step (Device.recState_only ..) rfl ?_
    exact Only.refl
  clear_value d1
  refine Device.setRec_set (.inr fun _ => rfl) (.inl rfl) ?_
  assumption

/-! ## Measurement -/

theorem Device.setStrm_only (d : Device) (x : Nat) (f : Stream → Stream) : Only [.meas] d (Device.setStrm d x f) := by
  unfold Device.setStrm
  refine Only.step (Device.setMeas_only ..) rfl ?_
  exact Only.refl
theorem Device.setAdc_only (d : Device) (n : Nat) (f : Adc → Adc) : Only [.meas] d (Device.setAdc d n f) := by
  unfold Device.setAdc
  refine Only.step (Device.setMeas_only ..) rfl ?_
  exact Only.refl
theorem Device.setGrp_only (d : Device) (g : Nat) (f : RefGroup → RefGroup) : Only [.meas] d (Device.setGrp d g f) := by
  unfold Device.setGrp
  refine Only.step (Device.setMeas_only ..) rfl ?_
  exact Only.refl
theorem Device.setCmp_only (d : Device) (j : Nat) (f : Comparator → Comparator) : Only [.meas] d (Device.setCmp d j f) := by
  unfold Device.setCmp
  refine Only.step (Device.setMeas_only ..) rfl ?_
  exact Only.refl
theorem Device.setSetp_only (d : Device) (f : Setp → Setp) : Only [.meas] d (Device.setSetp d f) := by
  unfold Device.setSetp
  refine Only.step (Device.setMeas_only ..) rfl ?_
  exact Only.refl
theorem Device.crossing_only (d : Device) (x : Nat) (low : Bool) : Only [.meas] d (Device.crossing d x low) := by
  unfold Device.crossing
  extract_lets +onlyGivenNames d1
  refine Only.cut d1 ?_ fun hd1 => ?_
  · subst d1
    refine Only.step (Device.hwSet_only ..) rfl ?_
    refine Only.step (Device.setStrm_only ..) rfl ?_
    exact Only.refl
  clear_value d1
  refine Only.step (Device.raiseRated_only ..) rfl ?_
  assumption
theorem Device.thresholds_only (d : Device) (x : Nat) : Only [.meas] d (Device.thresholds d x) := by
  unfold Device.thresholds
  extract_lets +onlyGivenNames s1
  extract_lets +onlyGivenNames y2
  extract_lets +onlyGivenNames hi3
  extract_lets +onlyGivenNames lo4
  extract_lets +onlyGivenNames hyst5
  extract_lets +onlyGivenNames en6
  extract_lets +onlyGivenNames n7
  extract_lets +onlyGivenNames hiRun8
  extract_lets +onlyGivenNames loRun9
  extract_lets +onlyGivenNames hiCross10
  extract_lets +onlyGivenNames loCross11
  extract_lets +onlyGivenNames d12
  refine Only.cut d12 ?_ fun hd12 => ?_
  · subst d12
    refine Only.step (Device.setStrm_only ..) rfl ?_
    exact Only.refl
  clear_value d12
  extract_lets +onlyGivenNames d13
  refine Only.cut d13 ?_ fun hd13 => ?_
  · subst d13
    refine Only.ite ?_ ?_
    · refine Only.step (Device.crossing_only ..) rfl ?_
      assumption
    · assumption
  clear_value d13
  refine Only.ite ?_ ?_
  · refine Only.step (Device.crossing_only ..) rfl ?_
    assumption
  · assumption
theorem Device.ainCheck_only (d : Device) (x : Nat) : Only [.meas] d (Device.ainCheck d x) := by
  unfold Device.ainCheck
  refine Only.ite ?_ ?_
  · exact Only.refl
  · extract_lets +onlyGivenNames c1
    extract_lets +onlyGivenNames out2
    extract_lets +onlyGivenNames p3
    extract_lets +onlyGivenNames run4
    refine Only.ite ?_ ?_
    · refine Only.step (Device.setSetp_only ..) rfl ?_
      exact Only.refl
    · refine Only.step (Device.setSetp_only ..) rfl ?_
      exact Only.refl
theorem Device.newOutput_only (d : Device) (x : Nat) (c : Rat) (fault : Bool) : Only [.meas, .recd] d (Device.newOutput d x c fault) := by
  unfold Device.newOutput
  split
  rename_i q1
  refine Only.cut _ (Only.of_snd q1 ?_) fun hx2 => ?_
  · refine Only.step (Device.quant_only ..) rfl ?_
    exact Only.refl
  extract_lets +onlyGivenNames top3
  extract_lets +onlyGivenNames sat4
  extract_lets +onlyGivenNames y5
  extract_lets +onlyGivenNames d6
  refine Only.cut d6 ?_ fun hd6 => ?_
  · subst d6
    refine Only.step (Device.setStrm_only ..) rfl ?_
    assumption
  clear_value d6
  refine Only.ite ?_ ?_
  · assumption
  · refine Only.step (Device.trigFeed_only ..) rfl ?_
    refine Only.step (Device.reduceFrom_only ..) rfl ?_
    refine Only.step (Device.ainCheck_only ..) rfl ?_
    refine Only.step (Device.thresholds_only ..) rfl ?_
    assumption
theorem Device.feed_only (d : Device) (x : Nat) (smp : Sample) (fault : Bool) : Only [.meas, .recd] d (Device.feed d x smp fault) := by
  unfold Device.feed
  extract_lets +onlyGivenNames win1
  extract_lets +onlyGivenNames code2
  extract_lets +onlyGivenNames taps3
  extract_lets +onlyGivenNames s4
  extract_lets +onlyGivenNames n5
  extract_lets +onlyGivenNames rank6
  extract_lets +onlyGivenNames mid7
  extract_lets +onlyGivenNames resp8
  extract_lets +onlyGivenNames settled9
  extract_lets +onlyGivenNames d10
  refine Only.cut d10 ?_ fun hd10 => ?_
  · subst d10
    refine Only.step (Device.setStrm_only ..) rfl ?_
    exact Only.refl
  clear_value d10
  refine Only.ite ?_ ?_
  · refine Only.step (Device.newOutput_only ..) rfl ?_
    assumption
  · assumption
theorem Device.chainIn_only (d : Device) (w : RawWord) : Only [.meas, .recd] d (Device.chainIn d w) := by
  unfold Device.chainIn
  refine Only.ite ?_ ?_
  · exact Only.refl
  · extract_lets +onlyGivenNames x1
    extract_lets +onlyGivenNames fault2
    extract_lets +onlyGivenNames s3
    refine Only.ite ?_ ?_
    · extract_lets +onlyGivenNames smp4
      extract_lets +onlyGivenNames d5
      refine Only.cut d5 ?_ fun hd5 => ?_
      · subst d5
        refine Only.step (Device.setStrm_only ..) rfl ?_
        exact Only.refl
      clear_value d5
      refine Only.step (Device.feed_only ..) rfl ?_
      assumption
    · extract_lets +onlyGivenNames d6
      refine Only.cut d6 ?_ fun hd6 => ?_
      · subst d6
        refine Only.step (Device.pmcPulse_only ..) rfl ?_
        refine Only.step (Device.setMeas_only ..) rfl ?_
        exact Only.refl
      clear_value d6
      extract_lets +onlyGivenNames d7
      refine Only.cut d7 ?_ fun hd7 => ?_
      · subst d7
        refine Only.step (Device.setStrm_only ..) rfl ?_
        assumption
      clear_value d7
      refine Only.ite ?_ ?_
      · refine Only.step (Device.feed_only ..) rfl ?_
        assumption
      · extract_lets +onlyGivenNames d8
        refine Only.cut d8 ?_ fun hd8 => ?_
        · subst d8
          refine Only.step (Device.setStrm_only ..) rfl ?_
          assumption
        clear_value d8
        refine Only.ite ?_ ?_
        · refine Only.step (Device.raise_only ..) rfl ?_
          assumption
        · assumption
theorem Device.convert_only (d : Device) (n : Nat) (e : Nat) (entry : Nat) (codes : List Nat) (first : Tick) (tag : Bool) (gust : Bool) : Only [.recd] d (Device.convert d n e entry codes first tag gust).2 := by
  unfold Device.convert
  extract_lets +onlyGivenNames refns1
  extract_lets +onlyGivenNames d2
  refine Only.cut d2 ?_ fun hd2 => ?_
  · subst d2
    refine Only.foldl (fun x3 b4 hx3 => ?_) ?_
    · refine Only.step (Device.rawSample_only ..) rfl ?_
      assumption
    · exact Only.refl
  clear_value d2
  refine Only.snd_mk ?_
  assumption
theorem Device.cycleSequences_only (d : Device) (codes : List (List (BitVec 16))) : Only [.meas, .recd] d (Device.cycleSequences d codes) := by
  unfold Device.cycleSequences
  extract_lets +onlyGivenNames d1
  refine Only.cut d1 ?_ fun hd1 => ?_
  · subst d1
    refine Only.step (Device.setMeas_only ..) rfl ?_
    exact Only.refl
  clear_value d1
  refine Only.foldl (fun x2 b3 hx2 => ?_) ?_
  · extract_lets +onlyGivenNames es4
    refine Only.foldl (fun x5 b6 hx5 => ?_) ?_
    · extract_lets +onlyGivenNames ent7
      extract_lets +onlyGivenNames skip8
      extract_lets +onlyGivenNames tag9
      split
      rename_i q10
      refine Only.cut _ (Only.of_snd q10 ?_) fun hx11 => ?_
      · refine Only.step (Device.convert_only ..) rfl ?_
        assumption
      refine Only.step (Device.setMeas_only ..) rfl ?_
      assumption
    · assumption
  · assumption
theorem Device.stamp_only (d : Device) (j : Nat) (f : DriftTag → DriftTag) : Only [.drift] d (Device.stamp d j f) := by
  unfold Device.stamp
  split
  · exact Only.refl
  · refine Only.ite ?_ ?_
    · exact Only.refl
    · extract_lets +onlyGivenNames g'1
      refine Only.set_zep (.inr rfl) (.inl rfl) (.inr rfl) ?_
      exact Only.refl
theorem Device.auxStart_only (d : Device) (n : Nat) : Only [.meas] d (Device.auxStart d n) := by
  unfold Device.auxStart
  refine Only.ite ?_ ?_
  · exact Only.refl
  · refine Only.step (Device.setAdc_only ..) rfl ?_
    exact Only.refl
theorem Device.gustRequest_only (d : Device) (n : Nat) : Only [.meas] d (Device.gustRequest d n) := by
  unfold Device.gustRequest
  extract_lets +onlyGivenNames a1
  refine Only.ite ?_ ?_
  · exact Only.refl
  · refine Only.ite ?_ ?_
    · refine Only.step (Device.pmcPulse_only ..) rfl ?_
      refine Only.step (Device.setAdc_only ..) rfl ?_
      exact Only.refl
    · refine Only.ite ?_ ?_
      · refine Only.step (Device.setAdc_only ..) rfl ?_
        exact Only.refl
      · refine Only.step (Device.raiseAtClose_only ..) rfl ?_
        refine Only.step (Device.hwSet_only ..) rfl ?_
        refine Only.step (Device.setAdc_only ..) rfl ?_
        exact Only.refl
theorem Device.countWindow_only (d : Device) (j : Nat) : Only [.prot] d (Device.countWindow d j) := by
  unfold Device.countWindow
  refine Device.setProt_set (.inl rfl) (.inr fun _ => rfl) ?_
  exact Only.refl
theorem Device.fastLevel_only (d : Device) (j : Nat) (was : Bool) (now : Bool) : Only [.traj, .brk, .seq, .modu, .prot, .conv] d (Device.fastLevel d j was now) := by
  unfold Device.fastLevel
  extract_lets +onlyGivenNames d1
  refine Only.cut d1 ?_ fun hd1 => ?_
  · subst d1
    refine Only.ite ?_ ?_
    · refine Only.step (Device.countWindow_only ..) rfl ?_
      exact Only.refl
    · exact Only.refl
  clear_value d1
  extract_lets +onlyGivenNames on2
  refine Only.ite ?_ ?_
  · refine Only.step (Device.inputActive_only ..) rfl ?_
    assumption
  · refine Only.ite ?_ ?_
    · assumption
    · refine Only.step (Device.inputInactive_only ..) rfl ?_
      assumption
theorem Device.hardLevel_only (d : Device) (j : Nat) (now : Bool) : Only [.traj, .brk, .seq, .modu, .prot, .conv] d (Device.hardLevel d j now) := by
  unfold Device.hardLevel
  refine Only.step (Device.setInput_only ..) rfl ?_
  exact Only.refl
theorem Device.evalCmp_only (d : Device) (j : Nat) : Only [.meas, .traj, .brk, .seq, .modu, .prot, .conv] d (Device.evalCmp d j) := by
  unfold Device.evalCmp
  extract_lets +onlyGivenNames c1
  extract_lets +onlyGivenNames h2
  extract_lets +onlyGivenNames fast3
  extract_lets +onlyGivenNames hard4
  extract_lets +onlyGivenNames d5
  refine Only.cut d5 ?_ fun hd5 => ?_
  · subst d5
    refine Only.step (Device.setCmp_only ..) rfl ?_
    exact Only.refl
  clear_value d5
  extract_lets +onlyGivenNames d6
  refine Only.cut d6 ?_ fun hd6 => ?_
  · subst d6
    refine Only.step (Device.hardLevel_only ..) rfl ?_
    assumption
  clear_value d6
  extract_lets +onlyGivenNames d7
  refine Only.cut d7 ?_ fun hd7 => ?_
  · subst d7
    refine Only.step (Device.fastLevel_only ..) rfl ?_
    assumption
  clear_value d7
  refine Only.ite ?_ ?_
  · refine Only.step (Device.gustRequest_only ..) rfl ?_
    assumption
  · assumption
theorem Device.refFault_only (d : Device) (g : Nat) : Only [.meas, .traj, .brk, .seq, .modu, .prot, .conv] d (Device.refFault d g) := by
  unfold Device.refFault
  refine Only.ite ?_ ?_
  · exact Only.refl
  · extract_lets +onlyGivenNames d1
    refine Only.cut d1 ?_ fun hd1 => ?_
    · subst d1
      refine Only.step (Device.raise_only ..) rfl ?_
      refine Only.step (Device.setGrp_only ..) rfl ?_
      exact Only.refl
    clear_value d1
    extract_lets +onlyGivenNames d2
    refine Only.cut d2 ?_ fun hd2 => ?_
    · subst d2
      refine Only.foldl (fun x3 b4 hx3 => ?_) ?_
      · refine Only.step (Device.setStrm_only ..) rfl ?_
        assumption
      · assumption
    clear_value d2
    refine Only.foldl (fun x5 b6 hx5 => ?_) ?_
    · refine Only.step (Device.evalCmp_only ..) rfl ?_
      assumption
    · assumption
theorem Device.setpFrequency_only (d : Device) : Only [.meas] d (Device.setpFrequency d) := by
  unfold Device.setpFrequency
  extract_lets +onlyGivenNames eK1
  extract_lets +onlyGivenNames gate2
  extract_lets +onlyGivenNames kept3
  extract_lets +onlyGivenNames inGate4
  extract_lets +onlyGivenNames d5
  refine Only.cut d5 ?_ fun hd5 => ?_
  · subst d5
    refine Only.step (Device.setSetp_only ..) rfl ?_
    exact Only.refl
  clear_value d5
  split
  · refine Only.ite ?_ ?_
    · refine Only.step (Device.setSetp_only ..) rfl ?_
      assumption
    · extract_lets +onlyGivenNames f6
      split
      rename_i q7
      refine Only.cut _ (Only.of_snd q7 ?_) fun hx8 => ?_
      · refine Only.step (Device.quant_only ..) rfl ?_
        assumption
      refine Only.step (Device.setSetp_only ..) rfl ?_
      assumption
  · refine Only.step (Device.setSetp_only ..) rfl ?_
    assumption
theorem execFilterChainOutput_only (t : Tick) (flips : List (Nat × BitVec 32)) (s s' : State) (hq : s.Quiet) (h : execFilterChainOutput t flips s = .next s') : Only [.meas, .recd, .drift] (s.dev.ready t) s'.dev := by
  refine State.on_only hq h fun d => ?_
  extract_lets +onlyGivenNames words1
  extract_lets +onlyGivenNames d2
  refine Only.cut d2 ?_ fun hd2 => ?_
  · subst d2
    refine Only.step (Device.setMeas_only ..) rfl ?_
    exact Only.refl
  clear_value d2
  extract_lets +onlyGivenNames d3
  refine Only.cut d3 ?_ fun hd3 => ?_
  · subst d3
    refine Only.foldl (fun x4 b5 hx4 => ?_) ?_
    · refine Only.step (Device.chainIn_only ..) rfl ?_
      assumption
    · assumption
  clear_value d3
  extract_lets +onlyGivenNames d6
  refine Only.cut d6 ?_ fun hd6 => ?_
  · subst d6
    refine Only.step (Device.stamp_only ..) rfl ?_
    assumption
  clear_value d6
  refine Only.step (Device.onFrame_only ..) rfl ?_
  assumption
theorem execAuxSequenceStart_only (t : Tick) (n : Fin 16) (s s' : State) (hq : s.Quiet) (h : execAuxSequenceStart t n s = .next s') : Only [.meas] (s.dev.ready t) s'.dev := by
  refine State.on_only hq h fun d => ?_
  split
  · refine Only.ite ?_ ?_
    · refine Only.step (Device.auxStart_only ..) rfl ?_
      exact Only.refl
    · exact Only.refl
  · refine Only.step (Device.auxStart_only ..) rfl ?_
    exact Only.refl
  · refine Only.step (Device.auxStart_only ..) rfl ?_
    exact Only.refl
  · exact Only.refl
theorem execAuxEntryEnd_only (t : Tick) (n : Fin 16) (codes : List (BitVec 16)) (flip : BitVec 32) (s s' : State) (hq : s.Quiet) (h : execAuxEntryEnd t n codes flip s = .next s') : Only [.meas, .recd] (s.dev.ready t) s'.dev := by
  refine State.on_only hq h fun d => ?_
  extract_lets +onlyGivenNames a1
  extract_lets +onlyGivenNames es2
  split
  · exact Only.refl
  · extract_lets +onlyGivenNames dur3
    refine Only.ite ?_ ?_
    · exact Only.refl
    · extract_lets +onlyGivenNames first4
      split
      rename_i q5
      refine Only.cut _ (Only.of_snd q5 ?_) fun hx6 => ?_
      · refine Only.step (Device.convert_only ..) rfl ?_
        exact Only.refl
      extract_lets +onlyGivenNames d7
      refine Only.cut d7 ?_ fun hd7 => ?_
      · subst d7
        refine Only.step (Device.setAdc_only ..) rfl ?_
        assumption
      clear_value d7
      refine Only.step (Device.chainIn_only ..) rfl ?_
      assumption
theorem execGustComplete_only (t : Tick) (n : Fin 16) (codes : List (List (BitVec 16))) (s s' : State) (hq : s.Quiet) (h : execGustComplete t n codes s = .next s') : Only [.meas, .recd] (s.dev.ready t) s'.dev := by
  refine State.on_only hq h fun d => ?_
  extract_lets +onlyGivenNames es1
  split
  refine Only.ite ?_ ?_
  · exact Only.refl
  · extract_lets +onlyGivenNames first2
    extract_lets +onlyGivenNames d3
    refine Only.cut d3 ?_ fun hd3 => ?_
    · subst d3
      refine Only.foldl (fun x4 b5 hx4 => ?_) ?_
      · extract_lets +onlyGivenNames ent6
        split
        rename_i q7
        refine Only.cut _ (Only.of_snd q7 ?_) fun hx8 => ?_
        · refine Only.step (Device.convert_only ..) rfl ?_
          assumption
        extract_lets +onlyGivenNames d9
        refine Only.cut d9 ?_ fun hd9 => ?_
        · subst d9
          refine Only.step (Device.setAdc_only ..) rfl ?_
          assumption
        clear_value d9
        refine Only.step (Device.onFrame_only ..) rfl ?_
        assumption
      · exact Only.refl
    clear_value d3
    extract_lets +onlyGivenNames again10
    extract_lets +onlyGivenNames d11
    refine Only.cut d11 ?_ fun hd11 => ?_
    · subst d11
      refine Only.step (Device.setAdc_only ..) rfl ?_
      assumption
    clear_value d11
    extract_lets +onlyGivenNames d12
    refine Only.cut d12 ?_ fun hd12 => ?_
    · subst d12
      refine Only.ite ?_ ?_
      · refine Only.step (Device.pmcPulse_only ..) rfl ?_
        assumption
      · assumption
    clear_value d12
    refine Only.step (Device.recEvent_only ..) rfl ?_
    assumption
theorem execGustRequestWrite_only (t : Tick) (v : BitVec 32) (s s' : State) (hq : s.Quiet) (h : execGustRequestWrite t v s = .next s') : Only [.meas, .regs] (s.dev.ready t) s'.dev := by
  refine State.on_only hq h fun d => ?_
  refine Only.foldl (fun x1 b2 hx1 => ?_) ?_
  · refine Only.step (Device.gustRequest_only ..) rfl ?_
    assumption
  · refine Only.step (Device.reserved_only ..) rfl ?_
    exact Only.refl
theorem execAtrigEdge_only (t : Tick) (pin : Fin 4) (rising : Bool) (heldNs : Rat) (s s' : State) (hq : s.Quiet) (h : execAtrigEdge t pin rising heldNs s = .next s') : Only [.meas] (s.dev.ready t) s'.dev := by
  refine State.on_only hq h fun d => ?_
  refine Only.ite ?_ ?_
  · exact Only.refl
  · extract_lets +onlyGivenNames d1
    refine Only.cut d1 ?_ fun hd1 => ?_
    · subst d1
      refine Only.step (Device.setMeas_only ..) rfl ?_
      exact Only.refl
    clear_value d1
    extract_lets +onlyGivenNames edge2
    refine Only.ite ?_ ?_
    · assumption
    · refine Only.foldl (fun x3 b4 hx3 => ?_) ?_
      · extract_lets +onlyGivenNames d5
        refine Only.cut d5 ?_ fun hd5 => ?_
        · subst d5
          refine Only.ite ?_ ?_
          · refine Only.ite ?_ ?_
            · refine Only.step (Device.raiseAtClose_only ..) rfl ?_
              refine Only.step (Device.setMeas_only ..) rfl ?_
              assumption
            · refine Only.step (Device.auxStart_only ..) rfl ?_
              assumption
          · assumption
        clear_value d5
        refine Only.ite ?_ ?_
        · refine Only.step (Device.gustRequest_only ..) rfl ?_
          assumption
        · assumption
      · assumption
theorem execComparatorLevelChange_only (t : Tick) (j : Fin 12) (x : Rat) (s s' : State) (hq : s.Quiet) (h : execComparatorLevelChange t j x s = .next s') : Only [.meas, .traj, .brk, .seq, .modu, .prot, .conv] (s.dev.ready t) s'.dev := by
  refine State.on_only hq h fun d => ?_
  refine Only.step (Device.evalCmp_only ..) rfl ?_
  refine Only.step (Device.setCmp_only ..) rfl ?_
  exact Only.refl
theorem execSpareDacSwitch_only (t : Tick) (j : Fin 12) (s s' : State) (hq : s.Quiet) (h : execSpareDacSwitch t j s = .next s') : Only [.meas, .traj, .brk, .seq, .modu, .prot, .conv] (s.dev.ready t) s'.dev := by
  refine State.on_only hq h fun d => ?_
  split
  · exact Only.refl
  · extract_lets +onlyGivenNames p1
    refine Only.step (Device.evalCmp_only ..) rfl ?_
    refine Only.step (Device.setCmp_only ..) rfl ?_
    exact Only.refl
theorem execReferenceSettleEnd_only (t : Tick) (g : Fin 4) (reading : Rat) (s s' : State) (hq : s.Quiet) (h : execReferenceSettleEnd t g reading s = .next s') : Only [.meas] (s.dev.ready t) s'.dev := by
  refine State.on_only hq h fun d => ?_
  refine Only.ite ?_ ?_
  · refine Only.step (Device.setGrp_only ..) rfl ?_
    exact Only.refl
  · exact Only.refl
theorem execReferenceSettleTimeout_only (t : Tick) (g : Fin 4) (s s' : State) (hq : s.Quiet) (h : execReferenceSettleTimeout t g s = .next s') : Only [.meas, .traj, .brk, .seq, .modu, .prot, .conv] (s.dev.ready t) s'.dev := by
  refine State.on_only hq h fun d => ?_
  refine Only.ite ?_ ?_
  · refine Only.step (Device.refFault_only ..) rfl ?_
    exact Only.refl
  · exact Only.refl
theorem execSetpPulseEdge_only (t : Tick) (rising : Bool) (s s' : State) (hq : s.Quiet) (h : execSetpPulseEdge t rising s = .next s') : Only [.meas] (s.dev.ready t) s'.dev := by
  refine State.on_only hq h fun d => ?_
  extract_lets +onlyGivenNames p1
  refine Only.ite ?_ ?_
  · exact Only.refl
  · extract_lets +onlyGivenNames short2
    refine Only.step (Device.setSetp_only ..) rfl ?_
    exact Only.refl

/-! ## ErrOps -/

theorem Device.setEh_only (d : Device) (f : Eh → Eh) : Only [.eh] d (Device.setEh d f) := by
  unfold Device.setEh
  refine Only.set_eh rfl ?_
  exact Only.refl
theorem Device.bailsilSafeHold_only (d : Device) : Only [.traj, .brk, .seq, .modu, .prot, .safety, .posts, .conv] d (Device.bailsilSafeHold d) := by
  unfold Device.bailsilSafeHold
  refine Only.ite ?_ ?_
  · exact Only.refl
  · extract_lets +onlyGivenNames d1
    refine Only.cut d1 ?_ fun hd1 => ?_
    · subst d1
      refine Only.step (Device.setSaf_only ..) rfl ?_
      exact Only.refl
    clear_value d1
    extract_lets +onlyGivenNames d2
    refine Only.cut d2 ?_ fun hd2 => ?_
    · subst d2
      refine Only.step (Device.raise_only ..) rfl ?_
      assumption
    clear_value d2
    extract_lets +onlyGivenNames d3
    refine Only.cut d3 ?_ fun hd3 => ?_
    · subst d3
      refine Only.step (Device.inputActive_only ..) rfl ?_
      refine Only.step (Device.msix_only ..) rfl ?_
      assumption
    clear_value d3
    refine Only.step (Device.squallTrigger_only ..) rfl ?_
    assumption
theorem Device.handlerFault_only (d : Device) (cause : Nat) : Only [.traj, .brk, .seq, .modu, .prot, .safety, .posts, .conv, .eh] d (Device.handlerFault d cause) := by
  unfold Device.handlerFault
  refine Only.ite ?_ ?_
  · exact Only.refl
  · refine Only.step (Device.bailsilSafeHold_only ..) rfl ?_
    refine Only.step (Device.setEh_only ..) rfl ?_
    exact Only.refl
theorem Device.takeError_only (d : Device) : Only [.eh] d (Device.takeError d) := by
  unfold Device.takeError
  split
  · refine Only.step (Device.setEh_only ..) rfl ?_
    exact Only.refl
  · exact Only.refl
theorem Device.countError_only (d : Device) (cls : Nat) : Only [.eh] d (Device.countError d cls) := by
  unfold Device.countError
  refine Only.step (Device.setEh_only ..) rfl ?_
  exact Only.refl
theorem Device.errReport_only (d : Device) (code : Nat) (die : Nat) (kind : Nat) (index : Nat) (detail : Nat) (die2 : Option Nat) (second : Bool) : Only [.traj, .brk, .seq, .modu, .prot, .safety, .posts, .conv, .eh] d (Device.errReport d code die kind index detail die2 second) := by
  unfold Device.errReport
  extract_lets +onlyGivenNames d1
  refine Only.cut d1 ?_ fun hd1 => ?_
  · subst d1
    refine Only.ite ?_ ?_
    · refine Only.step (Device.pmcPulse_only ..) rfl ?_
      exact Only.refl
    · refine Only.ite ?_ ?_
      · refine Only.step (Device.pmcPulse_only ..) rfl ?_
        exact Only.refl
      · exact Only.refl
  clear_value d1
  extract_lets +onlyGivenNames c02
  refine Only.ite ?_ ?_
  · refine Only.step (Device.countError_only ..) rfl ?_
    assumption
  · extract_lets +onlyGivenNames merge3
    refine Only.ite ?_ ?_
    · refine Only.step (Device.setEh_only ..) rfl ?_
      assumption
    · refine Only.ite ?_ ?_
      · refine Only.step (Device.handlerFault_only ..) rfl ?_
        assumption
      · extract_lets +onlyGivenNames busy4
        extract_lets +onlyGivenNames esc5
        refine Only.ite ?_ ?_
        · refine Only.step (Device.handlerFault_only ..) rfl ?_
          assumption
        · extract_lets +onlyGivenNames cls6
          extract_lets +onlyGivenNames par7
          extract_lets +onlyGivenNames x8
          extract_lets +onlyGivenNames x9
          extract_lets +onlyGivenNames d10
          refine Only.cut d10 ?_ fun hd10 => ?_
          · subst d10
            refine Only.step (Device.setEh_only ..) rfl ?_
            refine Only.step (Device.countError_only ..) rfl ?_
            assumption
          clear_value d10
          refine Only.step (Device.takeError_only ..) rfl ?_
          assumption

/-! ## Mardal -/

theorem Device.mdlDrain_only (d : Device) : Only [.twin] d (Device.mdlDrain d) := by
  unfold Device.mdlDrain
  extract_lets +onlyGivenNames now1
  refine Only.step (Device.setTwin_only ..) rfl ?_
  exact Only.refl
theorem Device.mdlSend_only (d : Device) (ty : Nat) (sub : Nat) (len : Nat) (b : MdlBody) : Only [.twin] d (Device.mdlSend d ty sub len b) := by
  unfold Device.mdlSend
  refine Only.ite ?_ ?_
  · exact Only.refl
  · extract_lets +onlyGivenNames blk1
    refine Only.step (Device.mdlDrain_only ..) rfl ?_
    refine Only.step (Device.setTwin_only ..) rfl ?_
    refine Only.step (Device.mdlDrain_only ..) rfl ?_
    exact Only.refl
theorem Device.activeSend_only (d : Device) (ty : Nat) (sub : Nat) (len : Nat) (b : MdlBody) : Only [.twin] d (Device.activeSend d ty sub len b) := by
  unfold Device.activeSend
  refine Only.ite ?_ ?_
  · refine Only.step (Device.mdlSend_only ..) rfl ?_
    exact Only.refl
  · exact Only.refl

end Sys2Proof.Machine
end

