-- ==== Sys2Proof/Laws/FrameControl.lean ====
section
/-! SUPPORT. The parts of the device that each operation may change (`Only`): clocks, network, feedback, trajectories, the control law, breakers; then those that each command may change. -/

namespace Sys2Proof.Machine

/-! ## Clocks -/

theorem Device.setClk_only (d : Device) (f : Clk → Clk) : Only [.clk] d (Device.setClk d f) := by
  unfold Device.setClk
  refine Only.set_clk rfl ?_
  exact Only.refl
theorem Device.setPll_only (d : Device) (n : Nat) (f : Pll → Pll) : Only [.clk] d (Device.setPll d n f) := by
  unfold Device.setPll
  refine Only.step (Device.setClk_only ..) rfl ?_
  exact Only.refl
theorem Device.setSc_only (d : Device) (x : Nat) (f : StClock → StClock) : Only [.stations] d (Device.setSc d x f) := by
  unfold Device.setSc
  refine Only.set_net (.inr rfl) (.inl rfl) ?_
  exact Only.refl
theorem Device.setScs_only (d : Device) (f : StClock → StClock) : Only [.stations] d (Device.setScs d f) := by
  unfold Device.setScs
  extract_lets +onlyGivenNames l1
  refine Only.set_net (.inr rfl) (.inl rfl) ?_
  exact Only.refl
theorem Device.answer_only (d : Device) (v : Nat) : Only [.regs] d (Device.answer d v) := by
  unfold Device.answer
  refine Only.set_host (.inr rfl) (.inr rfl) (.inr rfl) (.inl rfl) ?_
  exact Only.refl
theorem Device.feedbacks_only (d : Device) : Only [.clk] d (Device.feedbacks d) := by
  unfold Device.feedbacks
  split
  · exact Only.refl
  · extract_lets +onlyGivenNames scale1
    refine Only.step (Device.setClk_only ..) rfl ?_
    exact Only.refl
theorem Device.pllLocked_only (d : Device) (n : Nat) : Only [.clk] d (Device.pllLocked d n) := by
  unfold Device.pllLocked
  extract_lets +onlyGivenNames seed1
  refine Only.step (Device.setPll_only ..) rfl ?_
  exact Only.refl
theorem Device.ctbStart_only (d : Device) : Only [.time, .cycle, .safety, .conv, .clk] d (Device.ctbStart d) := by
  unfold Device.ctbStart
  refine Only.ite ?_ ?_
  · exact Only.refl
  · refine Only.trans (b := d) ?_ ⟨fun p hp => by cases p <;> first | rfl | exact absurd (by decide) hp⟩
    exact Only.refl
theorem Device.holdoverEnd_only (d : Device) : Only [.clk] d (Device.holdoverEnd d) := by
  unfold Device.holdoverEnd
  refine Only.ite ?_ ?_
  · refine Only.step (Device.setClk_only ..) rfl ?_
    exact Only.refl
  · exact Only.refl
theorem Device.portsDown_only (d : Device) : Only [.net] d (Device.portsDown d) := by
  unfold Device.portsDown
  refine Only.foldl (fun x1 b2 hx1 => ?_) ?_
  · refine Only.ite ?_ ?_
    · assumption
    · refine Only.step (Device.raiseRated_only ..) rfl ?_
      refine Only.set_net (.inl rfl) (.inr rfl) ?_
      assumption
  · exact Only.refl
theorem Device.scLose_only (d : Device) (x : Nat) (stepped : Bool) : Only [.stations, .clk] d (Device.scLose d x stepped) := by
  unfold Device.scLose
  extract_lets +onlyGivenNames c1
  refine Only.ite ?_ ?_
  · exact Only.refl
  · extract_lets +onlyGivenNames d2
    refine Only.cut d2 ?_ fun hd2 => ?_
    · subst d2
      refine Only.step (Device.setSc_only ..) rfl ?_
      exact Only.refl
    clear_value d2
    extract_lets +onlyGivenNames d3
    refine Only.cut d3 ?_ fun hd3 => ?_
    · subst d3
      refine Only.step (Device.raise_only ..) rfl ?_
      assumption
    clear_value d3
    extract_lets +onlyGivenNames d4
    refine Only.cut d4 ?_ fun hd4 => ?_
    · subst d4
      refine Only.ite ?_ ?_
      · refine Only.step (Device.setClk_only ..) rfl ?_
        assumption
      · assumption
    clear_value d4
    refine Only.ite ?_ ?_
    · refine Only.step (Device.raise_only ..) rfl ?_
      refine Only.step (Device.setClk_only ..) rfl ?_
      assumption
    · assumption
theorem Device.marginRelock_only (d : Device) (pct : Rat) : Only [.stations, .clk] d (Device.marginRelock d pct) := by
  unfold Device.marginRelock
  extract_lets +onlyGivenNames d1
  refine Only.cut d1 ?_ fun hd1 => ?_
  · subst d1
    refine Only.step (Device.setPll_only ..) rfl ?_
    exact Only.refl
  clear_value d1
  extract_lets +onlyGivenNames d2
  refine Only.cut d2 ?_ fun hd2 => ?_
  · subst d2
    refine Only.step (Device.setClk_only ..) rfl ?_
    assumption
  clear_value d2
  extract_lets +onlyGivenNames d3
  refine Only.cut d3 ?_ fun hd3 => ?_
  · subst d3
    refine Only.step (Device.scLose_only ..) rfl ?_
    refine Only.step (Device.scLose_only ..) rfl ?_
    assumption
  clear_value d3
  refine Only.step (Device.setScs_only ..) rfl ?_
  assumption
theorem Device.marginOnState_only (d : Device) (old : Nat) (new : Nat) : Only [.stations, .clk] d (Device.marginOnState d old new) := by
  unfold Device.marginOnState
  extract_lets +onlyGivenNames pct1
  refine Only.ite ?_ ?_
  · refine Only.step (Device.marginRelock_only ..) rfl ?_
    exact Only.refl
  · refine Only.ite ?_ ?_
    · refine Only.step (Device.marginRelock_only ..) rfl ?_
      exact Only.refl
    · exact Only.refl
theorem Device.clkoutCommit_only (d : Device) : Only [.clk] d (Device.clkoutCommit d) := by
  unfold Device.clkoutCommit
  refine Only.foldl (fun x1 b2 hx1 => ?_) ?_
  · extract_lets +onlyGivenNames c3
    extract_lets +onlyGivenNames n4
    extract_lets +onlyGivenNames was5
    refine Only.ite ?_ ?_
    · assumption
    · refine Only.step (Device.setClk_only ..) rfl ?_
      assumption
  · exact Only.refl
theorem Device.correlate_only (d : Device) : Only [.clk, .net] d (Device.correlate d) := by
  unfold Device.correlate
  extract_lets +onlyGivenNames a1
  extract_lets +onlyGivenNames b2
  extract_lets +onlyGivenNames x3
  extract_lets +onlyGivenNames d4
  refine Only.cut d4 ?_ fun hd4 => ?_
  · subst d4
    refine Only.step (Device.setClk_only ..) rfl ?_
    exact Only.refl
  clear_value d4
  refine Only.ite ?_ ?_
  · assumption
  · extract_lets +onlyGivenNames diff5
    extract_lets +onlyGivenNames d6
    extract_lets +onlyGivenNames d7
    refine Only.cut d7 ?_ fun hd7 => ?_
    · subst d7
      refine Only.set_net (.inl rfl) (.inr rfl) ?_
      assumption
    clear_value d7
    refine Only.ite ?_ ?_
    · extract_lets +onlyGivenNames first8
      extract_lets +onlyGivenNames d9
      extract_lets +onlyGivenNames d10
      refine Only.cut d10 ?_ fun hd10 => ?_
      · subst d10
        refine Only.set_net (.inl rfl) (.inr rfl) ?_
        assumption
      clear_value d10
      refine Only.ite ?_ ?_
      · split
        rename_i q11
        refine Only.cut _ (Only.of_snd q11 ?_) fun hx12 => ?_
        · refine Only.step (Device.quant_only ..) rfl ?_
          assumption
        refine Only.step (Device.raise_only ..) rfl ?_
        assumption
      · assumption
    · assumption
theorem Device.takeSource_only (d : Device) : Only [.clk] d (Device.takeSource d) := by
  unfold Device.takeSource
  extract_lets +onlyGivenNames commit1
  extract_lets +onlyGivenNames slave2
  refine Only.ite ?_ ?_
  · refine Only.step (Device.setClk_only ..) rfl ?_
    exact Only.refl
  · refine Only.ite ?_ ?_
    · refine Only.step (Device.setClk_only ..) rfl ?_
      exact Only.refl
    · extract_lets +onlyGivenNames x3
      refine Only.ite ?_ ?_
      · exact Only.refl
      · extract_lets +onlyGivenNames other4
        refine Only.ite ?_ ?_
        · refine Only.step (Device.raise_only ..) rfl ?_
          refine Only.step (Device.setClk_only ..) rfl ?_
          exact Only.refl
        · exact Only.refl
theorem Device.pullUpdate_only (d : Device) : Only [.clk] d (Device.pullUpdate d) := by
  unfold Device.pullUpdate
  extract_lets +onlyGivenNames d1
  refine Only.cut d1 ?_ fun hd1 => ?_
  · subst d1
    refine Only.step (Device.takeSource_only ..) rfl ?_
    exact Only.refl
  clear_value d1
  extract_lets +onlyGivenNames d2
  refine Only.cut d2 ?_ fun hd2 => ?_
  · subst d2
    refine Only.step (Device.setClk_only ..) rfl ?_
    assumption
  clear_value d2
  refine Only.ite ?_ ?_
  · refine Only.step (Device.setClk_only ..) rfl ?_
    assumption
  · split
    · refine Only.ite ?_ ?_
      · refine Only.step (Device.setClk_only ..) rfl ?_
        assumption
      · refine Only.step (Device.setClk_only ..) rfl ?_
        assumption
    · extract_lets +onlyGivenNames target3
      extract_lets +onlyGivenNames e4
      extract_lets +onlyGivenNames d5
      refine Only.cut d5 ?_ fun hd5 => ?_
      · subst d5
        refine Only.step (Device.setClk_only ..) rfl ?_
        assumption
      clear_value d5
      split
      · refine Only.step (Device.setClk_only ..) rfl ?_
        assumption
      · refine Only.ite ?_ ?_
        · assumption
        · extract_lets +onlyGivenNames a6
          extract_lets +onlyGivenNames m7
          extract_lets +onlyGivenNames r8
          extract_lets +onlyGivenNames p9
          extract_lets +onlyGivenNames brake10
          extract_lets +onlyGivenNames goal11
          extract_lets +onlyGivenNames p'12
          extract_lets +onlyGivenNames rateRun13
          extract_lets +onlyGivenNames alignRun14
          extract_lets +onlyGivenNames aligned15
          extract_lets +onlyGivenNames first16
          extract_lets +onlyGivenNames d17
          refine Only.cut d17 ?_ fun hd17 => ?_
          · subst d17
            refine Only.step (Device.setClk_only ..) rfl ?_
            assumption
          clear_value d17
          extract_lets +onlyGivenNames d18
          refine Only.cut d18 ?_ fun hd18 => ?_
          · subst d18
            refine Only.step (Device.feedbacks_only ..) rfl ?_
            assumption
          clear_value d18
          refine Only.ite ?_ ?_
          · refine Only.step (Device.raise_only ..) rfl ?_
            assumption
          · assumption
theorem execReferenceDetection_only (t : Tick) (mhz : Rat) (s s' : State) (hq : s.Quiet) (h : execReferenceDetection t mhz s = .next s') : Only [.clk] (s.dev.ready t) s'.dev := by
  refine State.on_only hq h fun d => ?_
  refine Only.ite ?_ ?_
  · exact Only.refl
  · refine Only.step (Device.feedbacks_only ..) rfl ?_
    refine Only.step (Device.setClk_only ..) rfl ?_
    exact Only.refl
theorem execPllLock_only (t : Tick) (pll : Fin 4) (s s' : State) (hq : s.Quiet) (h : execPllLock t pll s = .next s') : Only [.time, .cycle, .safety, .conv, .clk] (s.dev.ready t) s'.dev := by
  refine State.on_only hq h fun d => ?_
  refine Only.ite ?_ ?_
  · exact Only.refl
  · extract_lets +onlyGivenNames d1
    refine Only.cut d1 ?_ fun hd1 => ?_
    · subst d1
      refine Only.step (Device.pllLocked_only ..) rfl ?_
      exact Only.refl
    clear_value d1
    refine Only.step (Device.holdoverEnd_only ..) rfl ?_
    refine Only.ite ?_ ?_
    · refine Only.step (Device.ctbStart_only ..) rfl ?_
      assumption
    · assumption
theorem execPllLossOfLock_only (t : Tick) (pll : Fin 4) (s s' : State) (hq : s.Quiet) (h : execPllLossOfLock t pll s = .next s') : Only [.traj, .brk, .seq, .modu, .prot, .safety, .posts, .conv, .clk, .net, .eh] (s.dev.ready t) s'.dev := by
  refine State.on_only hq h fun d => ?_
  refine Only.ite ?_ ?_
  · exact Only.refl
  · extract_lets +onlyGivenNames d1
    refine Only.cut d1 ?_ fun hd1 => ?_
    · subst d1
      refine Only.step (Device.setPll_only ..) rfl ?_
      exact Only.refl
    clear_value d1
    extract_lets +onlyGivenNames d2
    refine Only.cut d2 ?_ fun hd2 => ?_
    · subst d2
      refine Only.step (Device.raise_only ..) rfl ?_
      assumption
    clear_value d2
    extract_lets +onlyGivenNames d3
    refine Only.cut d3 ?_ fun hd3 => ?_
    · subst d3
      refine Only.ite ?_ ?_
      · refine Only.step (Device.portsDown_only ..) rfl ?_
        assumption
      · assumption
    clear_value d3
    split
    refine Only.step (Device.errReport_only ..) rfl ?_
    assumption
theorem execReferenceLost_only (t : Tick) (s s' : State) (hq : s.Quiet) (h : execReferenceLost t s = .next s') : Only [.clk] (s.dev.ready t) s'.dev := by
  refine State.on_only hq h fun d => ?_
  refine Only.ite ?_ ?_
  · exact Only.refl
  · refine Only.step (Device.raise_only ..) rfl ?_
    refine Only.step (Device.setClk_only ..) rfl ?_
    exact Only.refl
theorem execReferenceRestored_only (t : Tick) (s s' : State) (hq : s.Quiet) (h : execReferenceRestored t s = .next s') : Only [.clk] (s.dev.ready t) s'.dev := by
  refine State.on_only hq h fun d => ?_
  refine Only.ite ?_ ?_
  · exact Only.refl
  · extract_lets +onlyGivenNames len1
    extract_lets +onlyGivenNames d2
    refine Only.cut d2 ?_ fun hd2 => ?_
    · subst d2
      refine Only.step (Device.setClk_only ..) rfl ?_
      exact Only.refl
    clear_value d2
    refine Only.step (Device.holdoverEnd_only ..) rfl ?_
    refine Only.step (Device.raise_only ..) rfl ?_
    assumption
theorem execHoldoverMaxExpiry_only (t : Tick) (s s' : State) (hq : s.Quiet) (h : execHoldoverMaxExpiry t s = .next s') : Only [.traj, .brk, .seq, .modu, .prot, .safety, .posts, .conv, .clk, .eh] (s.dev.ready t) s'.dev := by
  refine State.on_only hq h fun d => ?_
  refine Only.ite ?_ ?_
  · exact Only.refl
  · extract_lets +onlyGivenNames len1
    refine Only.step (Device.errReport_only ..) rfl ?_
    refine Only.step (Device.setClk_only ..) rfl ?_
    exact Only.refl
theorem execPllRelockDone_only (t : Tick) (s s' : State) (hq : s.Quiet) (h : execPllRelockDone t s = .next s') : Only [.stations, .clk] (s.dev.ready t) s'.dev := by
  refine State.on_only hq h fun d => ?_
  split
  · exact Only.refl
  · extract_lets +onlyGivenNames us1
    extract_lets +onlyGivenNames last2
    extract_lets +onlyGivenNames d3
    refine Only.cut d3 ?_ fun hd3 => ?_
    · subst d3
      refine Only.step (Device.feedbacks_only ..) rfl ?_
      refine Only.step (Device.setClk_only ..) rfl ?_
      refine Only.step (Device.pllLocked_only ..) rfl ?_
      exact Only.refl
    clear_value d3
    refine Only.ite ?_ ?_
    · refine Only.step (Device.holdoverEnd_only ..) rfl ?_
      refine Only.step (Device.setScs_only ..) rfl ?_
      assumption
    · refine Only.step (Device.holdoverEnd_only ..) rfl ?_
      assumption
theorem execClkoutChangeApply_only (t : Tick) (o : Fin 2) (s s' : State) (hq : s.Quiet) (h : execClkoutChangeApply t o s = .next s') : Only [.clk] (s.dev.ready t) s'.dev := by
  refine State.on_only hq h fun d => ?_
  extract_lets +onlyGivenNames c1
  split
  · exact Only.refl
  · extract_lets +onlyGivenNames edge2
    refine Only.ite ?_ ?_
    · exact Only.refl
    · extract_lets +onlyGivenNames first3
      refine Only.step (Device.setClk_only ..) rfl ?_
      exact Only.refl
theorem execCtbNowRead_only (t : Tick) (s s' : State) (hq : s.Quiet) (h : execCtbNowRead t s = .next s') : Only [.regs, .clk] (s.dev.ready t) s'.dev := by
  refine State.on_only hq h fun d => ?_
  refine Only.step (Device.answer_only ..) rfl ?_
  refine Only.step (Device.setClk_only ..) rfl ?_
  exact Only.refl
theorem execCtbCycRead_only (t : Tick) (s s' : State) (hq : s.Quiet) (h : execCtbCycRead t s = .next s') : Only [.regs, .clk] (s.dev.ready t) s'.dev := by
  refine State.on_only hq h fun d => ?_
  refine Only.step (Device.answer_only ..) rfl ?_
  refine Only.step (Device.setClk_only ..) rfl ?_
  exact Only.refl
theorem execCorrelationSampleRequest_only (w : Tick × BitVec 32) (s s' : State) (hq : s.Quiet) (h : execCorrelationSampleRequest w s = .next s') : Only [.regs, .clk, .net] (s.dev.ready w.1) s'.dev := by
  refine State.on_only hq h fun d => ?_
  extract_lets +onlyGivenNames d1
  refine Only.cut d1 ?_ fun hd1 => ?_
  · subst d1
    refine Only.step (Device.reserved_only ..) rfl ?_
    exact Only.refl
  clear_value d1
  refine Only.ite ?_ ?_
  · refine Only.step (Device.correlate_only ..) rfl ?_
    assumption
  · assumption
theorem execCtbSourceReturn_only (t : Tick) (s s' : State) (hq : s.Quiet) (h : execCtbSourceReturn t s = .next s') : Only [.clk] (s.dev.ready t) s'.dev := by
  refine State.on_only hq h fun d => ?_
  extract_lets +onlyGivenNames c1
  refine Only.ite ?_ ?_
  · exact Only.refl
  · extract_lets +onlyGivenNames old2
    refine Only.step (Device.raise_only ..) rfl ?_
    refine Only.step (Device.setClk_only ..) rfl ?_
    exact Only.refl

/-! ## Net -/

theorem Device.setNet_only (d : Device) (f : Net → Net) : Only [.stations, .net] d (Device.setNet d f) := by
  unfold Device.setNet
  refine Only.set_net (.inl rfl) (.inl rfl) ?_
  exact Only.refl
theorem Device.ethSend_only (d : Device) (x : EthTx) : Only [.net] d (Device.ethSend d x) := by
  unfold Device.ethSend
  refine Only.ite ?_ ?_
  · exact Only.refl
  · extract_lets +onlyGivenNames l1
    refine Device.setNet_set (.inl rfl) (.inr fun _ => rfl) ?_
    exact Only.refl
theorem Device.enterFrame_only (d : Device) (src : BitVec 48) (seq : Nat) (dir : Nat) : Only [.net] d (Device.enterFrame d src seq dir) := by
  unfold Device.enterFrame
  extract_lets +onlyGivenNames l1
  refine Device.setNet_set (.inl rfl) (.inr fun _ => rfl) ?_
  exact Only.refl
theorem Device.nodeSeen_only (d : Device) (src : BitVec 48) : Only [.net] d (Device.nodeSeen d src) := by
  unfold Device.nodeSeen
  refine Only.ite ?_ ?_
  · exact Only.refl
  · refine Only.ite ?_ ?_
    · refine Device.setNet_set (.inl rfl) (.inr fun _ => rfl) ?_
      exact Only.refl
    · refine Device.setNet_set (.inl rfl) (.inr fun _ => rfl) ?_
      exact Only.refl
theorem Device.ownReturned_only (d : Device) (port : Nat) (supervision : Bool) : Only [.net] d (Device.ownReturned d port supervision) := by
  unfold Device.ownReturned
  refine Only.ite ?_ ?_
  · exact Only.refl
  · extract_lets +onlyGivenNames d1
    refine Only.cut d1 ?_ fun hd1 => ?_
    · subst d1
      refine Device.setNet_set (.inl rfl) (.inr fun _ => rfl) ?_
      exact Only.refl
    clear_value d1
    refine Device.setNet_set (.inl rfl) (.inr fun _ => rfl) ?_
    assumption
theorem Device.safeSend_only (d : Device) (pdu : BitVec 192) : Only [.net] d (Device.safeSend d pdu) := by
  unfold Device.safeSend
  extract_lets +onlyGivenNames dst1
  extract_lets +onlyGivenNames tag2
  refine Only.step (Device.ethSend_only ..) rfl ?_
  exact Only.refl
theorem Device.scStep_only (d : Device) (x : Nat) (step : Rat) (f : StClock → StClock) : Only [.stations, .clk] d (Device.scStep d x step f) := by
  unfold Device.scStep
  extract_lets +onlyGivenNames d1
  refine Only.cut d1 ?_ fun hd1 => ?_
  · subst d1
    refine Only.step (Device.hwSet_only ..) rfl ?_
    refine Only.step (Device.setSc_only ..) rfl ?_
    exact Only.refl
  clear_value d1
  split
  rename_i q2
  refine Only.cut _ (Only.of_snd q2 ?_) fun hx3 => ?_
  · refine Only.step (Device.quant_only ..) rfl ?_
    assumption
  extract_lets +onlyGivenNames d4
  refine Only.cut d4 ?_ fun hd4 => ?_
  · subst d4
    refine Only.step (Device.raise_only ..) rfl ?_
    assumption
  clear_value d4
  refine Only.step (Device.scLose_only ..) rfl ?_
  assumption
theorem Device.scIncrement_only (d : Device) (x : Nat) (inc : Nat) : Only [.stations] d (Device.scIncrement d x inc) := by
  unfold Device.scIncrement
  extract_lets +onlyGivenNames nom1
  refine Only.ite ?_ ?_
  · refine Only.step (Device.hwSet_only ..) rfl ?_
    refine Only.step (Device.setSc_only ..) rfl ?_
    exact Only.refl
  · refine Only.step (Device.setSc_only ..) rfl ?_
    exact Only.refl
theorem Device.servo_only (d : Device) (x : Nat) (offset : Rat) : Only [.stations, .clk] d (Device.servo d x offset) := by
  unfold Device.servo
  extract_lets +onlyGivenNames c1
  extract_lets +onlyGivenNames beyond2
  extract_lets +onlyGivenNames run3
  extract_lets +onlyGivenNames d4
  refine Only.cut d4 ?_ fun hd4 => ?_
  · subst d4
    refine Only.step (Device.setSc_only ..) rfl ?_
    exact Only.refl
  clear_value d4
  refine Only.ite ?_ ?_
  · assumption
  · refine Only.ite ?_ ?_
    · refine Only.step (Device.scStep_only ..) rfl ?_
      assumption
    · split
      extract_lets +onlyGivenNames inc5
      extract_lets +onlyGivenNames d6
      refine Only.cut d6 ?_ fun hd6 => ?_
      · subst d6
        refine Only.step (Device.setSc_only ..) rfl ?_
        assumption
      clear_value d6
      refine Only.step (Device.scIncrement_only ..) rfl ?_
      assumption
theorem Device.scGain_only (d : Device) (x : Nat) : Only [.stations, .clk] d (Device.scGain d x) := by
  unfold Device.scGain
  extract_lets +onlyGivenNames d1
  refine Only.cut d1 ?_ fun hd1 => ?_
  · subst d1
    refine Only.step (Device.setSc_only ..) rfl ?_
    exact Only.refl
  clear_value d1
  extract_lets +onlyGivenNames d2
  refine Only.cut d2 ?_ fun hd2 => ?_
  · subst d2
    refine Only.step (Device.raise_only ..) rfl ?_
    assumption
  clear_value d2
  refine Only.ite ?_ ?_
  · refine Only.step (Device.setClk_only ..) rfl ?_
    assumption
  · assumption
theorem Device.scOffset_only (d : Device) (x : Nat) (offset : Rat) : Only [.stations, .clk] d (Device.scOffset d x offset) := by
  unfold Device.scOffset
  extract_lets +onlyGivenNames d1
  refine Only.cut d1 ?_ fun hd1 => ?_
  · subst d1
    refine Only.step (Device.setSc_only ..) rfl ?_
    exact Only.refl
  clear_value d1
  extract_lets +onlyGivenNames steps2
  extract_lets +onlyGivenNames d3
  refine Only.cut d3 ?_ fun hd3 => ?_
  · subst d3
    refine Only.step (Device.servo_only ..) rfl ?_
    assumption
  clear_value d3
  refine Only.ite ?_ ?_
  · assumption
  · extract_lets +onlyGivenNames good4
    extract_lets +onlyGivenNames d5
    refine Only.cut d5 ?_ fun hd5 => ?_
    · subst d5
      refine Only.step (Device.setSc_only ..) rfl ?_
      assumption
    clear_value d5
    extract_lets +onlyGivenNames c6
    extract_lets +onlyGivenNames blocked7
    refine Only.ite ?_ ?_
    · refine Only.step (Device.scGain_only ..) rfl ?_
      assumption
    · refine Only.ite ?_ ?_
      · refine Only.step (Device.scLose_only ..) rfl ?_
        assumption
      · assumption
theorem Device.setBest_only (d : Device) (x : Nat) (port : Nat) (f : BestMaster → BestMaster) : Only [.net] d (Device.setBest d x port f) := by
  unfold Device.setBest
  refine Device.setNet_set (.inl rfl) (.inr fun _ => rfl) ?_
  exact Only.refl
theorem Device.selectPort_only (d : Device) (x : Nat) : Only [.stations] d (Device.selectPort d x) := by
  unfold Device.selectPort
  extract_lets +onlyGivenNames p1
  extract_lets +onlyGivenNames c2
  extract_lets +onlyGivenNames b3
  extract_lets +onlyGivenNames gm4
  extract_lets +onlyGivenNames d5
  refine Only.cut d5 ?_ fun hd5 => ?_
  · subst d5
    refine Only.ite ?_ ?_
    · exact Only.refl
    · refine Only.step (Device.hwSet_only ..) rfl ?_
      exact Only.refl
  clear_value d5
  extract_lets +onlyGivenNames d6
  refine Only.cut d6 ?_ fun hd6 => ?_
  · subst d6
    refine Only.step (Device.setSc_only ..) rfl ?_
    assumption
  clear_value d6
  refine Only.ite ?_ ?_
  · assumption
  · refine Only.step (Device.raise_only ..) rfl ?_
    assumption
theorem Device.takeOffset_only (d : Device) (x : Nat) (port : Nat) (offset : Rat) : Only [.stations, .clk, .net] d (Device.takeOffset d x port offset) := by
  unfold Device.takeOffset
  refine Only.ite ?_ ?_
  · refine Only.step (Device.scOffset_only ..) rfl ?_
    exact Only.refl
  · refine Device.setNet_set (.inl rfl) (.inl rfl) ?_
    exact Only.refl
theorem Device.scHost_by {K : List Region} {d e : Device} {x : Nat} {f : Device → Device} (hk : sub [.regs] K = true) (hf : ∀ y, Only K d y → Only K d (f y)) (h : Only K d e) :
    Only K d (e.scHost x f) := Only.ite (hf _ h) (Only.step (Device.hostErr_only ..) hk h)
theorem execEthPortLinkChange_only (t : Tick) (port : Fin 2) (up : Bool) (gigabit : Bool) (s s' : State) (hq : s.Quiet) (h : execEthPortLinkChange t port up gigabit s = .next s') : Only [.net] (s.dev.ready t) s'.dev := by
  refine State.on_only hq h fun d => ?_
  extract_lets +onlyGivenNames now1
  refine Only.ite ?_ ?_
  · exact Only.refl
  · refine Only.step (Device.raiseRated_only ..) rfl ?_
    refine Device.setNet_set (.inl rfl) (.inr fun _ => rfl) ?_
    exact Only.refl
theorem execEthFrameReceived_only (t : Tick) (port : Fin 2) (len : Nat) (src : BitVec 48) (kind : Fin 5) (tag : Option (Nat × Nat)) (mine : Bool) (s s' : State) (hq : s.Quiet) (h : execEthFrameReceived t port len src kind tag mine s = .next s') : Only [.net] (s.dev.ready t) s'.dev := by
  refine State.on_only hq h fun d => ?_
  extract_lets +onlyGivenNames mode1
  extract_lets +onlyGivenNames discard2
  refine Only.ite ?_ ?_
  · exact Only.refl
  · extract_lets +onlyGivenNames d3
    refine Only.cut d3 ?_ fun hd3 => ?_
    · subst d3
      refine Only.step (Device.pmcPulse_only ..) rfl ?_
      exact Only.refl
    clear_value d3
    refine Only.ite ?_ ?_
    · unfold discard2
      refine Device.setNet_set (.inl rfl) (.inr fun _ => rfl) ?_
      assumption
    · refine Only.ite ?_ ?_
      · refine Only.step (Device.ownReturned_only ..) rfl ?_
        assumption
      · extract_lets +onlyGivenNames wrong4
        extract_lets +onlyGivenNames d5
        refine Only.cut d5 ?_ fun hd5 => ?_
        · subst d5
          refine Only.ite ?_ ?_
          · refine Only.step (Device.raiseRated_only ..) rfl ?_
            refine Device.setNet_set (.inl rfl) (.inr fun _ => rfl) ?_
            assumption
          · assumption
        clear_value d5
        extract_lets +onlyGivenNames copy6
        extract_lets +onlyGivenNames dup7
        refine Only.ite ?_ ?_
        · refine Device.setNet_set (.inl rfl) (.inr fun _ => rfl) ?_
          assumption
        · extract_lets +onlyGivenNames d8
          refine Only.cut d8 ?_ fun hd8 => ?_
          · subst d8
            clear_value copy6
            split
            · refine Only.step (Device.enterFrame_only ..) rfl ?_
              assumption
            · assumption
          clear_value d8
          refine Only.ite ?_ ?_
          · refine Only.step (Device.nodeSeen_only ..) rfl ?_
            assumption
          · refine Only.ite ?_ ?_
            · refine Only.ite ?_ ?_
              · assumption
              · unfold discard2
                refine Device.setNet_set (.inl rfl) (.inr fun _ => rfl) ?_
                assumption
            · assumption
theorem execHsrForward_only (t : Tick) (port : Fin 2) (src : BitVec 48) (dst : BitVec 48) (seq : Nat) (pcp : Option (Fin 8)) (event : Fin 3) (dom : Nat) (ptpSeq : Nat) (ptpSrc : BitVec 80) (corr : Rat) (resid : Rat) (s s' : State) (hq : s.Quiet) (h : execHsrForward t port src dst seq pcp event dom ptpSeq ptpSrc corr resid s = .next s') : Only [.net] (s.dev.ready t) s'.dev := by
  refine State.on_only hq h fun d => ?_
  extract_lets +onlyGivenNames out1
  refine Only.ite ?_ ?_
  · exact Only.refl
  · refine Only.ite ?_ ?_
    · exact Only.refl
    · extract_lets +onlyGivenNames d2
      refine Only.cut d2 ?_ fun hd2 => ?_
      · subst d2
        refine Only.ite ?_ ?_
        · refine Only.step (Device.enterFrame_only ..) rfl ?_
          exact Only.refl
        · exact Only.refl
      clear_value d2
      extract_lets +onlyGivenNames add3
      extract_lets +onlyGivenNames x4
      extract_lets +onlyGivenNames x5
      extract_lets +onlyGivenNames d6
      refine Only.cut d6 ?_ fun hd6 => ?_
      · subst d6
        refine Device.setNet_set (.inl rfl) (.inr fun _ => rfl) ?_
        assumption
      clear_value d6
      refine Only.ite ?_ ?_
      · extract_lets +onlyGivenNames h7
        extract_lets +onlyGivenNames h8
        refine Device.setNet_set (.inl rfl) (.inr fun _ => rfl) ?_
        assumption
      · assumption
theorem execSupervisionFrameSend_only (t : Tick) (s s' : State) (hq : s.Quiet) (h : execSupervisionFrameSend t s = .next s') : Only [.net] (s.dev.ready t) s'.dev := by
  refine State.on_only hq h fun d => ?_
  refine Only.ite ?_ ?_
  · exact Only.refl
  · refine Device.setNet_set (.inl rfl) (.inr fun _ => rfl) ?_
    refine Only.step (Device.ethSend_only ..) rfl ?_
    exact Only.refl
theorem execRingClosedTimeout_only (t : Tick) (s s' : State) (hq : s.Quiet) (h : execRingClosedTimeout t s = .next s') : Only [.net] (s.dev.ready t) s'.dev := by
  refine State.on_only hq h fun d => ?_
  refine Only.ite ?_ ?_
  · exact Only.refl
  · refine Device.setNet_set (.inl rfl) (.inr fun _ => rfl) ?_
    exact Only.refl
theorem execSafeChannelFrame_only (t : Tick) (src : BitVec 48) (mine : Bool) (etherType : BitVec 16) (version : BitVec 16) (pdu : BitVec 192) (s s' : State) (hq : s.Quiet) (h : execSafeChannelFrame t src mine etherType version pdu s = .next s') : Only [.net] (s.dev.ready t) s'.dev := by
  refine State.on_only hq h fun d => ?_
  refine Only.ite ?_ ?_
  · exact Only.refl
  · refine Only.ite ?_ ?_
    · refine Device.setNet_set (.inl rfl) (.inr fun _ => rfl) ?_
      exact Only.refl
    · refine Only.ite ?_ ?_
      · refine Device.setNet_set (.inl rfl) (.inr fun _ => rfl) ?_
        exact Only.refl
      · refine Device.setNet_set (.inl rfl) (.inr fun _ => rfl) ?_
        exact Only.refl
theorem execPtpAnnounce_only (t : Tick) (dom : Nat) (port : Fin 2) (src : BitVec 80) (gm : BitVec 64) (rank : List Nat) (interval : Rat) (utc : BitVec 17) (s s' : State) (hq : s.Quiet) (h : execPtpAnnounce t dom port src gm rank interval utc s = .next s') : Only [.stations, .net] (s.dev.ready t) s'.dev := by
  refine State.on_only hq h fun d => ?_
  refine Only.ite ?_ ?_
  · exact Only.refl
  · refine Only.foldl (fun x1 b2 hx1 => ?_) ?_
    · extract_lets +onlyGivenNames b3
      refine Only.ite ?_ ?_
      · assumption
      · extract_lets +onlyGivenNames d4
        refine Only.cut d4 ?_ fun hd4 => ?_
        · subst d4
          refine Only.step (Device.selectPort_only ..) rfl ?_
          refine Only.step (Device.setBest_only ..) rfl ?_
          assumption
        clear_value d4
        refine Only.ite ?_ ?_
        · refine Only.step (Device.setSc_only ..) rfl ?_
          assumption
        · assumption
    · exact Only.refl
theorem execDomainSilent_only (t : Tick) (x : Fin 2) (s s' : State) (hq : s.Quiet) (h : execDomainSilent t x s = .next s') : Only [.stations, .clk, .net] (s.dev.ready t) s'.dev := by
  refine State.on_only hq h fun d => ?_
  extract_lets +onlyGivenNames c1
  refine Only.ite ?_ ?_
  · exact Only.refl
  · extract_lets +onlyGivenNames d2
    refine Only.cut d2 ?_ fun hd2 => ?_
    · subst d2
      refine Only.step (Device.scLose_only ..) rfl ?_
      refine Only.step (Device.setBest_only ..) rfl ?_
      exact Only.refl
    clear_value d2
    extract_lets +onlyGivenNames d3
    refine Only.cut d3 ?_ fun hd3 => ?_
    · subst d3
      refine Only.step (Device.selectPort_only ..) rfl ?_
      assumption
    clear_value d3
    refine Only.step (Device.setSc_only ..) rfl ?_
    assumption
theorem execPtpSync_only (t : Tick) (dom : Nat) (port : Fin 2) (src : BitVec 80) (seq : Nat) (twoStep : Bool) (origin : Rat) (corr : Rat) (err : Rat) (s s' : State) (hq : s.Quiet) (h : execPtpSync t dom port src seq twoStep origin corr err s = .next s') : Only [.stations, .clk, .net] (s.dev.ready t) s'.dev := by
  refine State.on_only hq h fun d => ?_
  refine Only.foldl (fun x1 b2 hx1 => ?_) ?_
  · extract_lets +onlyGivenNames b3
    refine Only.ite ?_ ?_
    · assumption
    · extract_lets +onlyGivenNames ts4
      refine Only.ite ?_ ?_
      · extract_lets +onlyGivenNames h5
        extract_lets +onlyGivenNames h6
        refine Device.setNet_set (.inl rfl) (.inl rfl) ?_
        assumption
      · refine Only.step (Device.takeOffset_only ..) rfl ?_
        assumption
  · exact Only.refl
theorem execPtpFollowUp_only (t : Tick) (dom : Nat) (port : Fin 2) (src : BitVec 80) (seq : Nat) (mac : BitVec 48) (origin : Rat) (corr : Rat) (s s' : State) (hq : s.Quiet) (h : execPtpFollowUp t dom port src seq mac origin corr s = .next s') : Only [.stations, .clk, .net] (s.dev.ready t) s'.dev := by
  refine State.on_only hq h fun d => ?_
  refine Only.ite ?_ ?_
  · exact Only.refl
  · extract_lets +onlyGivenNames fwd1
    extract_lets +onlyGivenNames mine2
    extract_lets +onlyGivenNames out3
    extract_lets +onlyGivenNames d4
    extract_lets +onlyGivenNames d5
    extract_lets +onlyGivenNames d6
    extract_lets +onlyGivenNames d7
    refine Only.cut d7 ?_ fun hd7 => ?_
    · subst d7
      refine Only.ite ?_ ?_
      · refine Device.setNet_set (.inl rfl) (.inl rfl) ?_
        exact Only.refl
      · exact Only.refl
    clear_value d7
    extract_lets +onlyGivenNames d8
    refine Only.cut d8 ?_ fun hd8 => ?_
    · subst d8
      refine Device.setNet_set (.inl rfl) (.inl rfl) ?_
      assumption
    clear_value d8
    clear_value mine2
    split
    · assumption
    · refine Only.foldl (fun x9 b10 hx9 => ?_) ?_
      · refine Only.step (Device.takeOffset_only ..) rfl ?_
        assumption
      · assumption
theorem execPdelayReq_only (t : Tick) (port : Fin 2) (src : BitVec 48) (seq : Nat) (corr : Rat) (turn : Rat) (s s' : State) (hq : s.Quiet) (h : execPdelayReq t port src seq corr turn s = .next s') : Only [.net] (s.dev.ready t) s'.dev := by
  refine State.on_only hq h fun d => ?_
  refine Only.ite ?_ ?_
  · exact Only.refl
  · extract_lets +onlyGivenNames x1
    extract_lets +onlyGivenNames x2
    refine Device.setNet_set (.inl rfl) (.inr fun _ => rfl) ?_
    exact Only.refl
theorem execPdelayReqInterval_only (t : Tick) (s s' : State) (hq : s.Quiet) (h : execPdelayReqInterval t s = .next s') : Only [.net] (s.dev.ready t) s'.dev := by
  refine State.on_only hq h fun d => ?_
  refine Only.ite ?_ ?_
  · exact Only.refl
  · extract_lets +onlyGivenNames q1
    extract_lets +onlyGivenNames l2
    extract_lets +onlyGivenNames l3
    refine Device.setNet_set (.inl rfl) (.inr fun _ => rfl) ?_
    exact Only.refl
theorem execPdelayRespReceived_only (t : Tick) (port : Fin 2) (seq : Nat) (corr : Rat) (err : Rat) (s s' : State) (hq : s.Quiet) (h : execPdelayRespReceived t port seq corr err s = .next s') : Only [.net] (s.dev.ready t) s'.dev := by
  refine State.on_only hq h fun d => ?_
  split
  · exact Only.refl
  · refine Only.ite ?_ ?_
    · exact Only.refl
    · extract_lets +onlyGivenNames turn1
      refine Device.setNet_set (.inl rfl) (.inr fun _ => rfl) ?_
      exact Only.refl
theorem execScTimeRead_only (t : Tick) (x : Fin 2) (s s' : State) (hq : s.Quiet) (h : execScTimeRead t x s = .next s') : Only [.stations, .regs] (s.dev.ready t) s'.dev := by
  refine State.on_only hq h fun d => ?_
  refine Only.step (Device.answer_only ..) rfl ?_
  refine Only.step (Device.setSc_only ..) rfl ?_
  exact Only.refl
theorem execScIncrementWrite_only (t : Tick) (x : Fin 2) (frac : BitVec 32) (s s' : State) (hq : s.Quiet) (h : execScIncrementWrite t x frac s = .next s') : Only [.stations, .regs] (s.dev.ready t) s'.dev := by
  refine State.on_only hq h fun d => ?_
  refine Device.scHost_by rfl (fun x1 hx1 => ?_) ?_
  · extract_lets +onlyGivenNames d2
    refine Only.cut d2 ?_ fun hd2 => ?_
    · subst d2
      refine Only.step (Device.setSc_only ..) rfl ?_
      assumption
    clear_value d2
    refine Only.step (Device.scIncrement_only ..) rfl ?_
    assumption
  exact Only.refl
theorem execScApplySet_only (t : Tick) (w : Fin 2 × BitVec 32) (s s' : State) (hq : s.Quiet) (h : execScApplySet t w s = .next s') : Only [.stations, .regs, .clk] (s.dev.ready t) s'.dev := by
  refine State.on_only hq h fun d => ?_
  refine Device.scHost_by rfl (fun x1 hx1 => ?_) ?_
  · extract_lets +onlyGivenNames c2
    extract_lets +onlyGivenNames sec3
    extract_lets +onlyGivenNames ns4
    extract_lets +onlyGivenNames step5
    refine Only.step (Device.scStep_only ..) rfl ?_
    assumption
  refine Only.step (Device.reserved_only ..) rfl ?_
  exact Only.refl
theorem execScApplyStep_only (t : Tick) (w : Fin 2 × BitVec 32) (s s' : State) (hq : s.Quiet) (h : execScApplyStep t w s = .next s') : Only [.stations, .regs, .clk] (s.dev.ready t) s'.dev := by
  refine State.on_only hq h fun d => ?_
  refine Device.scHost_by rfl (fun x1 hx1 => ?_) ?_
  · refine Only.ite ?_ ?_
    · assumption
    · extract_lets +onlyGivenNames n2
      refine Only.step (Device.scStep_only ..) rfl ?_
      assumption
  refine Only.step (Device.reserved_only ..) rfl ?_
  exact Only.refl

/-! ## Feedback -/

theorem Device.rearmRun_only (d : Device) (sensor : Nat) (ok : Bool) : Only [.law] d (Device.rearmRun d sensor ok) := by
  unfold Device.rearmRun
  refine Only.step (Device.setLaw_only ..) rfl ?_
  exact Only.refl
theorem Device.votePhase_only (d : Device) (a : Nat) (b : Nat) (main : Rat × Bool) (sec : Option (Rat × Bool)) (model : Rat) (t : Rat) (v : Vote) : Only [.law] d (Device.votePhase d a b main sec model t v).2.2 := by
  unfold Device.votePhase
  extract_lets +onlyGivenNames raw1
  split
  · extract_lets +onlyGivenNames ok2
    extract_lets +onlyGivenNames d3
    refine Only.cut d3 ?_ fun hd3 => ?_
    · subst d3
      refine Only.step (Device.rearmRun_only ..) rfl ?_
      refine Only.step (Device.rearmRun_only ..) rfl ?_
      exact Only.refl
    clear_value d3
    refine Only.third_mk ?_
    assumption
  · extract_lets +onlyGivenNames r4
    extract_lets +onlyGivenNames ms5
    extract_lets +onlyGivenNames d6
    refine Only.cut d6 ?_ fun hd6 => ?_
    · subst d6
      refine Only.step (Device.rearmRun_only ..) rfl ?_
      refine Only.step (Device.rearmRun_only ..) rfl ?_
      exact Only.refl
    clear_value d6
    refine Only.third_mk ?_
    assumption
theorem Device.plausibility_only (d : Device) : Only [.law] d (Device.plausibility d).2.2 := by
  unfold Device.plausibility
  extract_lets +onlyGivenNames p1
  extract_lets +onlyGivenNames st2
  extract_lets +onlyGivenNames l3
  extract_lets +onlyGivenNames r4
  extract_lets +onlyGivenNames k5
  extract_lets +onlyGivenNames ue6
  extract_lets +onlyGivenNames g7
  extract_lets +onlyGivenNames iM8
  extract_lets +onlyGivenNames main9
  extract_lets +onlyGivenNames sec10
  extract_lets +onlyGivenNames gr11
  split
  rename_i q12
  refine Only.cut _ (Only.of_third q12 ?_) fun hx13 => ?_
  · refine Only.foldl_third (fun x14 b15 hx14 => ?_) ?_
    · split
      extract_lets +onlyGivenNames t16
      split
      rename_i q17
      refine Only.cut _ (Only.of_third q17 ?_) fun hx18 => ?_
      · refine Only.step (Device.votePhase_only ..) rfl ?_
        assumption
      refine Only.third_mk ?_
      assumption
    · refine Only.third_mk ?_
      exact Only.refl
  extract_lets +onlyGivenNames vM19
  extract_lets +onlyGivenNames conv20
  extract_lets +onlyGivenNames pcc21
  extract_lets +onlyGivenNames closed22
  split
  rename_i q23
  refine Only.cut _ (Only.of_third q23 ?_) fun hx24 => ?_
  · refine Only.foldl_third (fun x25 b26 hx25 => ?_) ?_
    · split
      extract_lets +onlyGivenNames s27
      split
      rename_i q28
      refine Only.cut _ (Only.of_third q28 ?_) fun hx29 => ?_
      · refine Only.step (Device.votePhase_only ..) rfl ?_
        assumption
      refine Only.third_mk ?_
      assumption
    · refine Only.third_mk ?_
      assumption
  extract_lets +onlyGivenNames iEst30
  extract_lets +onlyGivenNames d31
  refine Only.cut d31 ?_ fun hd31 => ?_
  · subst d31
    refine Only.step (Device.setLaw_only ..) rfl ?_
    assumption
  clear_value d31
  refine Only.third_mk ?_
  assumption
theorem Device.sensorless_only (d : Device) : Only [.law] d (Device.sensorless d) := by
  unfold Device.sensorless
  refine Only.ite ?_ ?_
  · exact Only.refl
  · extract_lets +onlyGivenNames i1
    extract_lets +onlyGivenNames v2
    extract_lets +onlyGivenNames w3
    extract_lets +onlyGivenNames enter4
    extract_lets +onlyGivenNames d5
    refine Only.cut d5 ?_ fun hd5 => ?_
    · subst d5
      refine Only.step (Device.setLaw_only ..) rfl ?_
      exact Only.refl
    clear_value d5
    refine Only.ite ?_ ?_
    · refine Only.step (Device.raise_only ..) rfl ?_
      assumption
    · assumption
theorem Device.sequences_only (d : Device) (vSel : List Rat) : Only [.ride] d (Device.sequences d vSel).2.2 := by
  unfold Device.sequences
  extract_lets +onlyGivenNames x1
  extract_lets +onlyGivenNames n2
  extract_lets +onlyGivenNames old3
  split
  extract_lets +onlyGivenNames ang4
  extract_lets +onlyGivenNames r5
  extract_lets +onlyGivenNames x6
  split
  extract_lets +onlyGivenNames span7
  extract_lets +onlyGivenNames d8
  refine Only.cut d8 ?_ fun hd8 => ?_
  · subst d8
    refine Only.step (Device.setRide_only ..) rfl ?_
    exact Only.refl
  clear_value d8
  refine Only.third_mk ?_
  assumption

/-! ## Trajectory -/

theorem Device.setAxis_only (d : Device) (amp : Bool) (f : Axis → Axis) : Only [.traj] d (Device.setAxis d amp f) := by
  unfold Device.setAxis
  refine Only.step (Device.setTraj_only ..) rfl ?_
  exact Only.refl
theorem Device.planSegment_only (d : Device) (amp : Bool) : Only [.traj] d (Device.planSegment d amp) := by
  unfold Device.planSegment
  extract_lets +onlyGivenNames a1
  split
  · exact Only.refl
  · extract_lets +onlyGivenNames left2
    extract_lets +onlyGivenNames amax3
    extract_lets +onlyGivenNames vmax4
    extract_lets +onlyGivenNames n5
    extract_lets +onlyGivenNames d6
    refine Only.cut d6 ?_ fun hd6 => ?_
    · subst d6
      refine Only.step (Device.setAxis_only ..) rfl ?_
      exact Only.refl
    clear_value d6
    refine Only.ite ?_ ?_
    · assumption
    · extract_lets +onlyGivenNames d7
      refine Only.cut d7 ?_ fun hd7 => ?_
      · subst d7
        refine Only.step (Device.hwSet_only ..) rfl ?_
        refine Only.step (Device.setTraj_only ..) rfl ?_
        assumption
      clear_value d7
      refine Only.step (Device.raiseRated_only ..) rfl ?_
      assumption
theorem Device.beginSegment_only (d : Device) (amp : Bool) (i : Nat) : Only [.traj] d (Device.beginSegment d amp i) := by
  unfold Device.beginSegment
  extract_lets +onlyGivenNames dur1
  refine Only.step (Device.planSegment_only ..) rfl ?_
  refine Only.step (Device.setAxis_only ..) rfl ?_
  exact Only.refl
theorem Device.startMove_only (d : Device) (m : Move) : Only [.traj, .par] d (Device.startMove d m) := by
  unfold Device.startMove
  extract_lets +onlyGivenNames d1
  refine Only.cut d1 ?_ fun hd1 => ?_
  · subst d1
    refine Only.step (Device.applyWaiting_only ..) rfl ?_
    exact Only.refl
  clear_value d1
  extract_lets +onlyGivenNames d2
  refine Only.cut d2 ?_ fun hd2 => ?_
  · subst d2
    refine Only.step (Device.setAxis_only ..) rfl ?_
    assumption
  clear_value d2
  refine Only.step (Device.beginSegment_only ..) rfl ?_
  refine Only.step (Device.setTraj_only ..) rfl ?_
  assumption
theorem Device.stepPhase_only (d : Device) : Only [.traj] d (Device.stepPhase d).1 := by
  unfold Device.stepPhase
  extract_lets +onlyGivenNames T1
  extract_lets +onlyGivenNames fn2
  extract_lets +onlyGivenNames d3
  refine Only.cut d3 ?_ fun hd3 => ?_
  · subst d3
    refine Only.ite ?_ ?_
    · refine Only.step (Device.planSegment_only ..) rfl ?_
      exact Only.refl
    · exact Only.refl
  clear_value d3
  extract_lets +onlyGivenNames a4
  split
  · extract_lets +onlyGivenNames lim5
    split
    refine Only.fst_mk ?_
    refine Only.step (Device.setAxis_only ..) rfl ?_
    assumption
  · extract_lets +onlyGivenNames b6
    extract_lets +onlyGivenNames locked7
    extract_lets +onlyGivenNames vel8
    extract_lets +onlyGivenNames adv9
    refine Only.fst_mk ?_
    refine Only.step (Device.setAxis_only ..) rfl ?_
    assumption
theorem Device.stepAmp_only (d : Device) : Only [.traj] d (Device.stepAmp d) := by
  unfold Device.stepAmp
  extract_lets +onlyGivenNames T1
  extract_lets +onlyGivenNames d2
  refine Only.cut d2 ?_ fun hd2 => ?_
  · subst d2
    refine Only.ite ?_ ?_
    · refine Only.step (Device.planSegment_only ..) rfl ?_
      exact Only.refl
    · exact Only.refl
  clear_value d2
  extract_lets +onlyGivenNames a3
  refine Only.ite ?_ ?_
  · refine Only.ite ?_ ?_
    · refine Only.step (Device.setAxis_only ..) rfl ?_
      assumption
    · split
      · refine Only.step (Device.setAxis_only ..) rfl ?_
        assumption
      · split
        refine Only.step (Device.setAxis_only ..) rfl ?_
        assumption
  · extract_lets +onlyGivenNames b4
    extract_lets +onlyGivenNames pos5
    refine Only.step (Device.setAxis_only ..) rfl ?_
    assumption
theorem Device.turnTheta_only (d : Device) (turns : Rat) : Only [.traj] d (Device.turnTheta d turns) := by
  unfold Device.turnTheta
  split
  rename_i q1
  refine Only.cut _ (Only.of_snd q1 ?_) fun hx2 => ?_
  · refine Only.step (Device.quant_only ..) rfl ?_
    exact Only.refl
  refine Only.step (Device.setTraj_only ..) rfl ?_
  assumption
theorem Device.stage2_only (d : Device) (step : Rat) : Only [.traj] d (Device.stage2 d step) := by
  unfold Device.stage2
  extract_lets +onlyGivenNames locked1
  split
  rename_i q2
  refine Only.cut _ (Only.of_fst q2 ?_) fun hx3 => ?_
  · refine Only.step (Device.stepPhase_only ..) rfl ?_
    exact Only.refl
  refine Only.step (Device.turnTheta_only ..) rfl ?_
  refine Only.step (Device.stepAmp_only ..) rfl ?_
  assumption
theorem Device.snapToGrid_only (d : Device) (off : Rat) : Only [.traj] d (Device.snapToGrid d off) := by
  unfold Device.snapToGrid
  extract_lets +onlyGivenNames ahead1
  extract_lets +onlyGivenNames d2
  refine Only.cut d2 ?_ fun hd2 => ?_
  · subst d2
    refine Only.step (Device.turnTheta_only ..) rfl ?_
    exact Only.refl
  clear_value d2
  extract_lets +onlyGivenNames d3
  refine Only.cut d3 ?_ fun hd3 => ?_
  · subst d3
    refine Only.step (Device.setAxis_only ..) rfl ?_
    assumption
  clear_value d3
  refine Only.step (Device.setAxis_only ..) rfl ?_
  assumption
theorem execMoveStart_only (t : Tick) (axis : Fin 2) (s s' : State) (hq : s.Quiet) (h : execMoveStart t axis s = .next s') : Only [.traj, .par] (s.dev.ready t) s'.dev := by
  refine State.on_only hq h fun d => ?_
  extract_lets +onlyGivenNames amp1
  split
  · exact Only.refl
  · extract_lets +onlyGivenNames due2
    extract_lets +onlyGivenNames may3
    refine Only.ite ?_ ?_
    · exact Only.refl
    · refine Only.step (Device.startMove_only ..) rfl ?_
      refine Only.step (Device.setTraj_only ..) rfl ?_
      exact Only.refl
theorem execSegmentStart_only (t : Tick) (axis : Fin 2) (s s' : State) (hq : s.Quiet) (h : execSegmentStart t axis s = .next s') : Only [.traj] (s.dev.ready t) s'.dev := by
  refine State.on_only hq h fun d => ?_
  extract_lets +onlyGivenNames amp1
  extract_lets +onlyGivenNames a2
  split
  · exact Only.refl
  · refine Only.ite ?_ ?_
    · refine Only.step (Device.beginSegment_only ..) rfl ?_
      exact Only.refl
    · exact Only.refl
theorem execMoveEnd_only (t : Tick) (axis : Fin 2) (s s' : State) (hq : s.Quiet) (h : execMoveEnd t axis s = .next s') : Only [.traj, .seq] (s.dev.ready t) s'.dev := by
  refine State.on_only hq h fun d => ?_
  extract_lets +onlyGivenNames amp1
  extract_lets +onlyGivenNames a2
  split
  · exact Only.refl
  · refine Only.ite ?_ ?_
    · exact Only.refl
    · extract_lets +onlyGivenNames d3
      refine Only.cut d3 ?_ fun hd3 => ?_
      · subst d3
        refine Only.step (Device.setAxis_only ..) rfl ?_
        exact Only.refl
      clear_value d3
      refine Only.ite ?_ ?_
      · refine Only.step (Device.setSeq_only ..) rfl ?_
        assumption
      · assumption

/-! ## Law -/

theorem Device.setpStep_only (d : Device) (target : Nat) : Only [.law] d (Device.setpStep d target) := by
  unfold Device.setpStep
  extract_lets +onlyGivenNames p1
  extract_lets +onlyGivenNames isQ2
  extract_lets +onlyGivenNames host3
  extract_lets +onlyGivenNames src4
  split
  extract_lets +onlyGivenNames x5
  extract_lets +onlyGivenNames fresh6
  extract_lets +onlyGivenNames failed7
  extract_lets +onlyGivenNames held8
  extract_lets +onlyGivenNames want9
  extract_lets +onlyGivenNames lo10
  extract_lets +onlyGivenNames hi11
  extract_lets +onlyGivenNames lim12
  extract_lets +onlyGivenNames rate13
  extract_lets +onlyGivenNames upTo14
  extract_lets +onlyGivenNames active15
  extract_lets +onlyGivenNames x'16
  extract_lets +onlyGivenNames d17
  refine Only.cut d17 ?_ fun hd17 => ?_
  · subst d17
    refine Only.step (Device.setLaw_only ..) rfl ?_
    exact Only.refl
  clear_value d17
  refine Only.ite ?_ ?_
  · refine Only.step (Device.raise_only ..) rfl ?_
    assumption
  · assumption
theorem Device.clampNote_only (d : Device) (i : Nat) (cut : Bool) (stands : Bool) (value : Rat) : Only [.law] d (Device.clampNote d i cut stands value) := by
  unfold Device.clampNote
  extract_lets +onlyGivenNames was1
  extract_lets +onlyGivenNames now2
  extract_lets +onlyGivenNames d3
  refine Only.cut d3 ?_ fun hd3 => ?_
  · subst d3
    refine Only.step (Device.setLaw_only ..) rfl ?_
    exact Only.refl
  clear_value d3
  refine Only.ite ?_ ?_
  · extract_lets +onlyGivenNames d4
    refine Only.cut d4 ?_ fun hd4 => ?_
    · subst d4
      refine Only.step (Device.hwSet_only ..) rfl ?_
      refine Only.step (Device.setLaw_only ..) rfl ?_
      assumption
    clear_value d4
    split
    rename_i q5
    refine Only.cut _ (Only.of_snd q5 ?_) fun hx6 => ?_
    · refine Only.step (Device.quant_only ..) rfl ?_
      assumption
    refine Only.step (Device.raiseRated_only ..) rfl ?_
    assumption
  · assumption
theorem Device.stage3_only (d : Device) (v : DQ) (i : DQ) : Only [.law] d (Device.stage3 d v i) := by
  unfold Device.stage3
  extract_lets +onlyGivenNames p1
  extract_lets +onlyGivenNames T2
  extract_lets +onlyGivenNames st3
  extract_lets +onlyGivenNames pw4
  extract_lets +onlyGivenNames qw5
  extract_lets +onlyGivenNames gain6
  extract_lets +onlyGivenNames pF7
  extract_lets +onlyGivenNames qF8
  extract_lets +onlyGivenNames w9
  extract_lets +onlyGivenNames slp10
  extract_lets +onlyGivenNames pRef11
  extract_lets +onlyGivenNames w'12
  extract_lets +onlyGivenNames wf13
  extract_lets +onlyGivenNames wc14
  extract_lets +onlyGivenNames E15
  extract_lets +onlyGivenNames err16
  extract_lets +onlyGivenNames ride17
  extract_lets +onlyGivenNames stuck18
  extract_lets +onlyGivenNames m19
  extract_lets +onlyGivenNames xNew20
  extract_lets +onlyGivenNames xQv21
  extract_lets +onlyGivenNames et22
  extract_lets +onlyGivenNames ec23
  extract_lets +onlyGivenNames d24
  refine Only.cut d24 ?_ fun hd24 => ?_
  · subst d24
    refine Only.step (Device.setLaw_only ..) rfl ?_
    exact Only.refl
  clear_value d24
  refine Only.step (Device.clampNote_only ..) rfl ?_
  refine Only.step (Device.clampNote_only ..) rfl ?_
  refine Only.step (Device.clampNote_only ..) rfl ?_
  assumption
theorem Device.rampImpedance_only (d : Device) : Only [.law] d (Device.rampImpedance d) := by
  unfold Device.rampImpedance
  extract_lets +onlyGivenNames st1
  refine Only.ite ?_ ?_
  · exact Only.refl
  · extract_lets +onlyGivenNames last2
    refine Only.step (Device.setLaw_only ..) rfl ?_
    exact Only.refl
theorem Device.resonant_only (d : Device) (e : DQ) (th : Rat) (held : Bool) : Only [.law] d (Device.resonant d e th held).2 := by
  unfold Device.resonant
  extract_lets +onlyGivenNames p1
  extract_lets +onlyGivenNames n2
  extract_lets +onlyGivenNames sum3
  extract_lets +onlyGivenNames step4
  split
  extract_lets +onlyGivenNames d5
  refine Only.cut d5 ?_ fun hd5 => ?_
  · subst d5
    refine Only.step (Device.setLaw_only ..) rfl ?_
    exact Only.refl
  clear_value d5
  refine Only.snd_mk ?_
  refine Only.step (Device.clampNote_only ..) rfl ?_
  assumption
theorem Device.stage7_only (d : Device) (u : DQ) (un : DQ) (ip : DQ) (iz : DQ) (adv : Rat) : Only [.law, .modu] d (Device.stage7 d u un ip iz adv).2 := by
  unfold Device.stage7
  extract_lets +onlyGivenNames T1
  extract_lets +onlyGivenNames a12
  extract_lets +onlyGivenNames a23
  split
  split
  split
  split
  extract_lets +onlyGivenNames r14
  extract_lets +onlyGivenNames r25
  extract_lets +onlyGivenNames li6
  extract_lets +onlyGivenNames circ7
  extract_lets +onlyGivenNames ai8
  extract_lets +onlyGivenNames limOne9
  extract_lets +onlyGivenNames l110
  extract_lets +onlyGivenNames l211
  extract_lets +onlyGivenNames sat12
  extract_lets +onlyGivenNames word13
  extract_lets +onlyGivenNames us14
  split
  rename_i q15
  refine Only.cut _ (Only.of_snd q15 ?_) fun hx16 => ?_
  · refine Only.foldl_snd (fun x17 b18 hx17 => ?_) ?_
    · split
      split
      rename_i q19
      refine Only.cut _ (Only.of_snd q19 ?_) fun hx20 => ?_
      · unfold word13
        split
        rename_i q21
        refine Only.cut _ (Only.of_snd q21 ?_) fun hx22 => ?_
        · refine Only.step (Device.quant_only ..) rfl ?_
          assumption
        refine Only.snd_mk ?_
        assumption
      split
      rename_i q23
      refine Only.cut _ (Only.of_snd q23 ?_) fun hx24 => ?_
      · unfold word13
        split
        rename_i q25
        refine Only.cut _ (Only.of_snd q25 ?_) fun hx26 => ?_
        · refine Only.step (Device.quant_only ..) rfl ?_
          assumption
        refine Only.snd_mk ?_
        assumption
      split
      rename_i q27
      refine Only.cut _ (Only.of_snd q27 ?_) fun hx28 => ?_
      · unfold word13
        split
        rename_i q29
        refine Only.cut _ (Only.of_snd q29 ?_) fun hx30 => ?_
        · refine Only.step (Device.quant_only ..) rfl ?_
          assumption
        refine Only.snd_mk ?_
        assumption
      refine Only.snd_mk ?_
      assumption
    · refine Only.snd_mk ?_
      exact Only.refl
  split
  rename_i q31
  refine Only.cut _ (Only.of_snd q31 ?_) fun hx32 => ?_
  · unfold word13
    split
    rename_i q33
    refine Only.cut _ (Only.of_snd q33 ?_) fun hx34 => ?_
    · refine Only.step (Device.quant_only ..) rfl ?_
      assumption
    refine Only.snd_mk ?_
    assumption
  split
  rename_i q35
  refine Only.cut _ (Only.of_snd q35 ?_) fun hx36 => ?_
  · unfold word13
    split
    rename_i q37
    refine Only.cut _ (Only.of_snd q37 ?_) fun hx38 => ?_
    · refine Only.step (Device.quant_only ..) rfl ?_
      assumption
    refine Only.snd_mk ?_
    assumption
  split
  rename_i q39
  refine Only.cut _ (Only.of_snd q39 ?_) fun hx40 => ?_
  · unfold word13
    split
    rename_i q41
    refine Only.cut _ (Only.of_snd q41 ?_) fun hx42 => ?_
    · refine Only.step (Device.quant_only ..) rfl ?_
      assumption
    refine Only.snd_mk ?_
    assumption
  extract_lets +onlyGivenNames recs43
  extract_lets +onlyGivenNames d44
  refine Only.cut d44 ?_ fun hd44 => ?_
  · subst d44
    refine Only.step (Device.setModu_only ..) rfl ?_
    assumption
  clear_value d44
  extract_lets +onlyGivenNames d45
  refine Only.cut d45 ?_ fun hd45 => ?_
  · subst d45
    refine Only.step (Device.setLaw_only ..) rfl ?_
    assumption
  clear_value d45
  split
  · extract_lets +onlyGivenNames g46
    extract_lets +onlyGivenNames ph47
    refine Only.snd_mk ?_
    assumption
  · refine Only.snd_mk ?_
    assumption
theorem Device.stages4to7_only (d : Device) (x : Sampled) : Only [.law, .ride, .modu] d (Device.stages4to7 d x) := by
  unfold Device.stages4to7
  extract_lets +onlyGivenNames p1
  extract_lets +onlyGivenNames T2
  extract_lets +onlyGivenNames st3
  extract_lets +onlyGivenNames w4
  extract_lets +onlyGivenNames two5
  extract_lets +onlyGivenNames k6
  extract_lets +onlyGivenNames pr7
  extract_lets +onlyGivenNames turn8
  extract_lets +onlyGivenNames r9
  extract_lets +onlyGivenNames ip10
  extract_lets +onlyGivenNames vp11
  extract_lets +onlyGivenNames inp12
  extract_lets +onlyGivenNames vnp13
  split
  extract_lets +onlyGivenNames rv14
  extract_lets +onlyGivenNames xv15
  extract_lets +onlyGivenNames E16
  extract_lets +onlyGivenNames vRef17
  extract_lets +onlyGivenNames ev18
  split
  rename_i q19
  refine Only.cut _ (Only.of_snd q19 ?_) fun hx20 => ?_
  · refine Only.step (Device.resonant_only ..) rfl ?_
    exact Only.refl
  extract_lets +onlyGivenNames ref21
  extract_lets +onlyGivenNames neg22
  extract_lets +onlyGivenNames lim23
  extract_lets +onlyGivenNames mV24
  split
  extract_lets +onlyGivenNames recv25
  extract_lets +onlyGivenNames d26
  refine Only.cut d26 ?_ fun hd26 => ?_
  · subst d26
    refine Only.step (Device.setRide_only ..) rfl ?_
    assumption
  clear_value d26
  extract_lets +onlyGivenNames kp27
  extract_lets +onlyGivenNames wl28
  extract_lets +onlyGivenNames iz29
  extract_lets +onlyGivenNames iPos30
  extract_lets +onlyGivenNames vPos31
  extract_lets +onlyGivenNames ei32
  extract_lets +onlyGivenNames u33
  extract_lets +onlyGivenNames en34
  extract_lets +onlyGivenNames un35
  split
  rename_i q36
  refine Only.cut _ (Only.of_snd q36 ?_) fun hx37 => ?_
  · refine Only.step (Device.stage7_only ..) rfl ?_
    assumption
  extract_lets +onlyGivenNames a138
  extract_lets +onlyGivenNames sat39
  extract_lets +onlyGivenNames ki40
  extract_lets +onlyGivenNames m41
  split
  split
  extract_lets +onlyGivenNames d42
  refine Only.cut d42 ?_ fun hd42 => ?_
  · subst d42
    refine Only.step (Device.setLaw_only ..) rfl ?_
    assumption
  clear_value d42
  refine Only.step (Device.clampNote_only ..) rfl ?_
  refine Only.step (Device.clampNote_only ..) rfl ?_
  refine Only.step (Device.clampNote_only ..) rfl ?_
  refine Only.step (Device.clampNote_only ..) rfl ?_
  assumption
theorem Device.rideEntry_only (d : Device) (cond : Nat) : Only [.ride, .traj, .recd] d (Device.rideEntry d cond) := by
  unfold Device.rideEntry
  extract_lets +onlyGivenNames r1
  extract_lets +onlyGivenNames old2
  extract_lets +onlyGivenNames pre3
  extract_lets +onlyGivenNames d4
  refine Only.cut d4 ?_ fun hd4 => ?_
  · subst d4
    refine Only.step (Device.setRide_only ..) rfl ?_
    exact Only.refl
  clear_value d4
  extract_lets +onlyGivenNames d5
  refine Only.cut d5 ?_ fun hd5 => ?_
  · subst d5
    refine Only.step (Device.flushMoves_only ..) rfl ?_
    assumption
  clear_value d5
  split
  rename_i q6
  refine Only.cut _ (Only.of_snd q6 ?_) fun hx7 => ?_
  · refine Only.step (Device.quant_only ..) rfl ?_
    assumption
  refine Only.step (Device.maskStart_only ..) rfl ?_
  refine Only.step (Device.recEvent_only ..) rfl ?_
  refine Only.step (Device.raise_only ..) rfl ?_
  assumption
theorem Device.phaseJump_only (d : Device) (jump : Rat) : Only [.ride] d (Device.phaseJump d jump) := by
  unfold Device.phaseJump
  extract_lets +onlyGivenNames deg1
  refine Only.ite ?_ ?_
  · refine Only.step (Device.setRide_only ..) rfl ?_
    exact Only.refl
  · extract_lets +onlyGivenNames ovr2
    extract_lets +onlyGivenNames step3
    split
    rename_i q4
    refine Only.cut _ (Only.of_snd q4 ?_) fun hx5 => ?_
    · refine Only.step (Device.quant_only ..) rfl ?_
      exact Only.refl
    split
    rename_i q6
    refine Only.cut _ (Only.of_snd q6 ?_) fun hx7 => ?_
    · refine Only.step (Device.quant_only ..) rfl ?_
      assumption
    refine Only.step (Device.raise_only ..) rfl ?_
    refine Only.step (Device.setRide_only ..) rfl ?_
    assumption
theorem Device.rideCheck_only (d : Device) (jump : Rat) : Only [.ride, .traj, .recd] d (Device.rideCheck d jump) := by
  unfold Device.rideCheck
  refine Only.ite ?_ ?_
  · refine Only.step (Device.setRide_only ..) rfl ?_
    exact Only.refl
  · extract_lets +onlyGivenNames p1
    extract_lets +onlyGivenNames d2
    refine Only.cut d2 ?_ fun hd2 => ?_
    · subst d2
      refine Only.step (Device.phaseJump_only ..) rfl ?_
      exact Only.refl
    clear_value d2
    extract_lets +onlyGivenNames r3
    extract_lets +onlyGivenNames apart4
    extract_lets +onlyGivenNames d5
    refine Only.cut d5 ?_ fun hd5 => ?_
    · subst d5
      refine Only.step (Device.setRide_only ..) rfl ?_
      assumption
    clear_value d5
    refine Only.ite ?_ ?_
    · extract_lets +onlyGivenNames good6
      refine Only.step (Device.setRide_only ..) rfl ?_
      assumption
    · refine Only.ite ?_ ?_
      · refine Only.step (Device.rideEntry_only ..) rfl ?_
        assumption
      · refine Only.ite ?_ ?_
        · refine Only.step (Device.rideEntry_only ..) rfl ?_
          assumption
        · refine Only.ite ?_ ?_
          · refine Only.step (Device.rideEntry_only ..) rfl ?_
            assumption
          · refine Only.ite ?_ ?_
            · refine Only.step (Device.rideEntry_only ..) rfl ?_
              assumption
            · assumption
theorem Device.monitor_only (d : Device) : Only [.seq] d (Device.monitor d) := by
  unfold Device.monitor
  extract_lets +onlyGivenNames pcc1
  extract_lets +onlyGivenNames conv2
  extract_lets +onlyGivenNames n3
  extract_lets +onlyGivenNames q4
  extract_lets +onlyGivenNames sq5
  extract_lets +onlyGivenNames qc6
  split
  extract_lets +onlyGivenNames ang7
  extract_lets +onlyGivenNames r8
  extract_lets +onlyGivenNames dth9
  extract_lets +onlyGivenNames df10
  extract_lets +onlyGivenNames d11
  refine Only.cut d11 ?_ fun hd11 => ?_
  · subst d11
    refine Only.step (Device.setSeq_only ..) rfl ?_
    exact Only.refl
  clear_value d11
  extract_lets +onlyGivenNames b12
  refine Only.step (Device.setSeq_only ..) rfl ?_
  assumption
theorem Device.landingCycle_only (d : Device) : Only [.traj, .brk, .seq] d (Device.landingCycle d) := by
  unfold Device.landingCycle
  refine Only.ite ?_ ?_
  · exact Only.refl
  · refine Only.ite ?_ ?_
    · refine Only.step (Device.landAbort_only ..) rfl ?_
      exact Only.refl
    · refine Only.ite ?_ ?_
      · refine Only.step (Device.landAbort_only ..) rfl ?_
        exact Only.refl
      · extract_lets +onlyGivenNames ok1
        clear_value ok1
        split
        · refine Only.step (Device.setSeq_only ..) rfl ?_
          exact Only.refl
        · refine Only.step (Device.setSeq_only ..) rfl ?_
          exact Only.refl
        · refine Only.step (Device.raise_only ..) rfl ?_
          refine Only.step (Device.setSeq_only ..) rfl ?_
          refine Only.step (Device.withdrawClose_only ..) rfl ?_
          exact Only.refl
        · exact Only.refl
theorem Device.emfEnds_only (d : Device) : Only [.conv] d (Device.emfEnds d) := by
  unfold Device.emfEnds
  extract_lets +onlyGivenNames E1
  refine Only.ite ?_ ?_
  · refine Only.step (Device.setConv_only ..) rfl ?_
    exact Only.refl
  · refine Only.ite ?_ ?_
    · refine Only.step (Device.setConv_only ..) rfl ?_
      exact Only.refl
    · refine Only.ite ?_ ?_
      · refine Only.step (Device.setConv_only ..) rfl ?_
        exact Only.refl
      · refine Only.ite ?_ ?_
        · refine Only.step (Device.setConv_only ..) rfl ?_
          exact Only.refl
        · refine Only.ite ?_ ?_
          · refine Only.step (Device.setConv_only ..) rfl ?_
            exact Only.refl
          · exact Only.refl
theorem Device.lawEntry_only (d : Device) : Only [.law, .ride] d (Device.lawEntry d) := by
  unfold Device.lawEntry
  extract_lets +onlyGivenNames th1
  extract_lets +onlyGivenNames st2
  extract_lets +onlyGivenNames v3
  extract_lets +onlyGivenNames i4
  extract_lets +onlyGivenNames u5
  extract_lets +onlyGivenNames w6
  extract_lets +onlyGivenNames two7
  extract_lets +onlyGivenNames vn8
  extract_lets +onlyGivenNames st'9
  extract_lets +onlyGivenNames d10
  refine Only.cut d10 ?_ fun hd10 => ?_
  · subst d10
    refine Only.step (Device.setLaw_only ..) rfl ?_
    exact Only.refl
  clear_value d10
  refine Only.step (Device.setRide_only ..) rfl ?_
  assumption
theorem Device.lawStop_only (d : Device) : Only [.law, .ride, .traj, .modu] d (Device.lawStop d) := by
  unfold Device.lawStop
  extract_lets +onlyGivenNames d1
  refine Only.cut d1 ?_ fun hd1 => ?_
  · subst d1
    refine Only.step (Device.setLaw_only ..) rfl ?_
    exact Only.refl
  clear_value d1
  extract_lets +onlyGivenNames d2
  refine Only.cut d2 ?_ fun hd2 => ?_
  · subst d2
    refine Only.step (Device.setRide_only ..) rfl ?_
    assumption
  clear_value d2
  refine Only.step (Device.dropMoves_only ..) rfl ?_
  refine Only.step (Device.setModu_only ..) rfl ?_
  assumption
theorem Device.idleReference_only (d : Device) : Only [.law, .modu] d (Device.idleReference d) := by
  unfold Device.idleReference
  extract_lets +onlyGivenNames d1
  refine Only.cut d1 ?_ fun hd1 => ?_
  · subst d1
    refine Only.step (Device.setModu_only ..) rfl ?_
    exact Only.refl
  clear_value d1
  refine Only.ite ?_ ?_
  · assumption
  · extract_lets +onlyGivenNames u2
    refine Only.step (Device.stage7_only ..) rfl ?_
    assumption
theorem Device.overThreshold_only (d : Device) (src : Nat) (stream : Nat) (limit : Rat) (from_ : Option Tick) : Only [.prot] d (Device.overThreshold d src stream limit from_).2 := by
  unfold Device.overThreshold
  extract_lets +onlyGivenNames s1
  extract_lets +onlyGivenNames above2
  split
  · refine Only.snd_mk ?_
    exact Only.refl
  · refine Only.snd_mk ?_
    refine Only.step (Device.inputInactive_only ..) rfl ?_
    exact Only.refl
theorem Device.earthStar_only (d : Device) : Only [.prot] d (Device.earthStar d) := by
  unfold Device.earthStar
  split
  rename_i q1
  refine Only.cut _ (Only.of_snd q1 ?_) fun hx2 => ?_
  · refine Only.step (Device.overThreshold_only ..) rfl ?_
    exact Only.refl
  split
  rename_i q3
  refine Only.cut _ (Only.of_snd q3 ?_) fun hx4 => ?_
  · refine Only.step (Device.overThreshold_only ..) rfl ?_
    assumption
  refine Device.setProt_set (.inl rfl) (.inr fun _ => rfl) ?_
  assumption
theorem Device.meterSamples_only (d : Device) : Only [.packs] d (Device.meterSamples d) := by
  unfold Device.meterSamples
  extract_lets +onlyGivenNames m1
  extract_lets +onlyGivenNames one2
  extract_lets +onlyGivenNames l3
  refine Only.step (Device.setPacks_only ..) rfl ?_
  exact Only.refl
theorem Device.lawCycle_only (d : Device) : Only [.law, .ride, .traj, .brk, .seq, .modu, .packs, .prot, .conv, .recd] d (Device.lawCycle d) := by
  unfold Device.lawCycle
  extract_lets +onlyGivenNames d1
  refine Only.cut d1 ?_ fun hd1 => ?_
  · subst d1
    refine Only.step (Device.setLaw_only ..) rfl ?_
    exact Only.refl
  clear_value d1
  extract_lets +onlyGivenNames d2
  refine Only.cut d2 ?_ fun hd2 => ?_
  · subst d2
    refine Only.step (Device.earthStar_only ..) rfl ?_
    assumption
  clear_value d2
  split
  rename_i q3
  refine Only.cut _ (Only.of_third q3 ?_) fun hx4 => ?_
  · refine Only.step (Device.plausibility_only ..) rfl ?_
    assumption
  extract_lets +onlyGivenNames d5
  refine Only.cut d5 ?_ fun hd5 => ?_
  · subst d5
    refine Only.step (Device.setLaw_only ..) rfl ?_
    assumption
  clear_value d5
  extract_lets +onlyGivenNames d6
  refine Only.cut d6 ?_ fun hd6 => ?_
  · subst d6
    refine Only.step (Device.meterSamples_only ..) rfl ?_
    refine Only.step (Device.sensorless_only ..) rfl ?_
    assumption
  clear_value d6
  split
  rename_i q7
  refine Only.cut _ (Only.of_third q7 ?_) fun hx8 => ?_
  · refine Only.step (Device.sequences_only ..) rfl ?_
    assumption
  extract_lets +onlyGivenNames d9
  refine Only.cut d9 ?_ fun hd9 => ?_
  · subst d9
    refine Only.step (Device.monitor_only ..) rfl ?_
    refine Only.step (Device.setLaw_only ..) rfl ?_
    assumption
  clear_value d9
  extract_lets +onlyGivenNames step10
  extract_lets +onlyGivenNames d11
  refine Only.cut d11 ?_ fun hd11 => ?_
  · subst d11
    refine Only.step (Device.setRide_only ..) rfl ?_
    refine Only.step (Device.landingCycle_only ..) rfl ?_
    assumption
  clear_value d11
  extract_lets +onlyGivenNames d12
  refine Only.cut d12 ?_ fun hd12 => ?_
  · subst d12
    refine Only.step (Device.rampImpedance_only ..) rfl ?_
    refine Only.step (Device.setpStep_only ..) rfl ?_
    refine Only.step (Device.setpStep_only ..) rfl ?_
    refine Only.step (Device.rideCheck_only ..) rfl ?_
    assumption
  clear_value d12
  extract_lets +onlyGivenNames th13
  split
  extract_lets +onlyGivenNames x14
  extract_lets +onlyGivenNames d15
  refine Only.cut d15 ?_ fun hd15 => ?_
  · subst d15
    refine Only.step (Device.stage2_only ..) rfl ?_
    assumption
  clear_value d15
  extract_lets +onlyGivenNames d16
  refine Only.cut d16 ?_ fun hd16 => ?_
  · subst d16
    refine Only.ite ?_ ?_
    · refine Only.step (Device.stages4to7_only ..) rfl ?_
      refine Only.step (Device.stage3_only ..) rfl ?_
      assumption
    · refine Only.step (Device.idleReference_only ..) rfl ?_
      assumption
  clear_value d16
  refine Only.step (Device.emfEnds_only ..) rfl ?_
  assumption
theorem Device.sendCheckpoint_only (d : Device) : Only [.twin] d (Device.sendCheckpoint d) := by
  unfold Device.sendCheckpoint
  refine Only.foldl (fun x1 b2 hx1 => ?_) ?_
  · refine Only.step (Device.activeSend_only ..) rfl ?_
    assumption
  · exact Only.refl
theorem execSetpRecovered_only (t : Tick) (target : Fin 2) (s s' : State) (hq : s.Quiet) (h : execSetpRecovered t target s = .next s') : Only [.law] (s.dev.ready t) s'.dev := by
  refine State.on_only hq h fun d => ?_
  extract_lets +onlyGivenNames x1
  refine Only.ite ?_ ?_
  · extract_lets +onlyGivenNames x'2
    refine Only.step (Device.raise_only ..) rfl ?_
    refine Only.step (Device.setLaw_only ..) rfl ?_
    exact Only.refl
  · exact Only.refl
theorem execRtSyncLost_only (t : Tick) (s s' : State) (hq : s.Quiet) (h : execRtSyncLost t s = .next s') : Only [.ride, .traj, .brk, .seq, .modu, .prot, .conv] (s.dev.ready t) s'.dev := by
  refine State.on_only hq h fun d => ?_
  refine Only.ite ?_ ?_
  · refine Only.step (Device.controlTrip_only ..) rfl ?_
    refine Only.step (Device.raise_only ..) rfl ?_
    refine Only.step (Device.setRide_only ..) rfl ?_
    exact Only.refl
  · exact Only.refl
theorem execRideExit_only (t : Tick) (s s' : State) (hq : s.Quiet) (h : execRideExit t s = .next s') : Only [.ride] (s.dev.ready t) s'.dev := by
  refine State.on_only hq h fun d => ?_
  refine Only.ite ?_ ?_
  · refine Only.step (Device.raise_only ..) rfl ?_
    refine Only.step (Device.setRide_only ..) rfl ?_
    exact Only.refl
  · exact Only.refl
theorem execRideTimeout_only (t : Tick) (s s' : State) (hq : s.Quiet) (h : execRideTimeout t s = .next s') : Only [.traj, .brk, .seq, .modu, .prot, .conv] (s.dev.ready t) s'.dev := by
  refine State.on_only hq h fun d => ?_
  refine Only.ite ?_ ?_
  · refine Only.step (Device.controlTrip_only ..) rfl ?_
    refine Only.step (Device.raise_only ..) rfl ?_
    exact Only.refl
  · exact Only.refl
theorem execRecoveryEnd_only (t : Tick) (s s' : State) (hq : s.Quiet) (h : execRecoveryEnd t s = .next s') : Only [.ride] (s.dev.ready t) s'.dev := by
  refine State.on_only hq h fun d => ?_
  refine Only.ite ?_ ?_
  · refine Only.step (Device.setRide_only ..) rfl ?_
    exact Only.refl
  · exact Only.refl
theorem execFeedbackSensorFault_only (t : Tick) (s s' : State) (hq : s.Quiet) (h : execFeedbackSensorFault t s = .next s') : Only [.law] (s.dev.ready t) s'.dev := by
  refine State.on_only hq h fun d => ?_
  extract_lets +onlyGivenNames d1
  refine Only.cut d1 ?_ fun hd1 => ?_
  · subst d1
    refine Only.foldl (fun x2 b3 hx2 => ?_) ?_
    · refine Only.step (Device.raise_only ..) rfl ?_
      refine Only.step (Device.setLaw_only ..) rfl ?_
      assumption
    · exact Only.refl
  clear_value d1
  extract_lets +onlyGivenNames dev4
  refine Only.ite ?_ ?_
  · refine Only.step (Device.raise_only ..) rfl ?_
    refine Only.step (Device.setLaw_only ..) rfl ?_
    assumption
  · assumption
theorem execSensorReadmission_only (t : Tick) (sensor : Fin 12) (s s' : State) (hq : s.Quiet) (h : execSensorReadmission t sensor s = .next s') : Only [.law] (s.dev.ready t) s'.dev := by
  refine State.on_only hq h fun d => ?_
  extract_lets +onlyGivenNames x1
  refine Only.ite ?_ ?_
  · refine Only.step (Device.setLaw_only ..) rfl ?_
    exact Only.refl
  · exact Only.refl
theorem execSensorlessExit_only (t : Tick) (s s' : State) (hq : s.Quiet) (h : execSensorlessExit t s = .next s') : Only [.law] (s.dev.ready t) s'.dev := by
  refine State.on_only hq h fun d => ?_
  refine Only.ite ?_ ?_
  · refine Only.step (Device.raise_only ..) rfl ?_
    refine Only.step (Device.setLaw_only ..) rfl ?_
    exact Only.refl
  · exact Only.refl
theorem execSensorlessTrip_only (t : Tick) (s s' : State) (hq : s.Quiet) (h : execSensorlessTrip t s = .next s') : Only [.traj, .brk, .seq, .modu, .prot, .conv] (s.dev.ready t) s'.dev := by
  refine State.on_only hq h fun d => ?_
  refine Only.ite ?_ ?_
  · refine Only.step (Device.controlTrip_only ..) rfl ?_
    refine Only.step (Device.raise_only ..) rfl ?_
    exact Only.refl
  · exact Only.refl
theorem execRafterLawEvaluation_only (t : Tick) (clocks : Nat) (fail : Fin 3) (s s' : State) (hq : s.Quiet) (h : execRafterLawEvaluation t clocks fail s = .next s') : Only [.law, .ride, .traj, .brk, .seq, .modu, .packs, .prot, .safety, .twin, .posts, .conv, .recd, .eh, .drift] (s.dev.ready t) s'.dev := by
  refine State.on_only hq h fun d => ?_
  refine Only.ite ?_ ?_
  · exact Only.refl
  · extract_lets +onlyGivenNames d1
    refine Only.cut d1 ?_ fun hd1 => ?_
    · subst d1
      refine Only.step (Device.setLaw_only ..) rfl ?_
      exact Only.refl
    clear_value d1
    split
    · refine Only.step (Device.sendCheckpoint_only ..) rfl ?_
      refine Only.step (Device.stamp_only ..) rfl ?_
      refine Only.step (Device.setLaw_only ..) rfl ?_
      refine Only.step (Device.lawCycle_only ..) rfl ?_
      assumption
    · refine Only.step (Device.errReport_only ..) rfl ?_
      refine Only.step (Device.meterSamples_only ..) rfl ?_
      assumption
    · refine Only.step (Device.errReport_only ..) rfl ?_
      refine Only.step (Device.meterSamples_only ..) rfl ?_
      assumption

/-! ## Breakers -/

theorem Device.q24_only (d : Device) (x : Rat) : Only [] d (Device.q24 d x).2 := by
  unfold Device.q24
  refine Only.step (Device.quant_only ..) rfl ?_
  exact Only.refl
theorem Device.landClosed_only (d : Device) : Only [.traj, .seq, .conv] d (Device.landClosed d) := by
  unfold Device.landClosed
  extract_lets +onlyGivenNames q1
  extract_lets +onlyGivenNames late2
  split
  rename_i q3
  refine Only.cut _ (Only.of_snd q3 ?_) fun hx4 => ?_
  · refine Only.step (Device.quant_only ..) rfl ?_
    exact Only.refl
  split
  rename_i q5
  refine Only.cut _ (Only.of_snd q5 ?_) fun hx6 => ?_
  · refine Only.step (Device.quant_only ..) rfl ?_
    assumption
  split
  rename_i q7
  refine Only.cut _ (Only.of_snd q7 ?_) fun hx8 => ?_
  · refine Only.step (Device.quant_only ..) rfl ?_
    assumption
  extract_lets +onlyGivenNames d9
  refine Only.cut d9 ?_ fun hd9 => ?_
  · subst d9
    refine Only.step (Device.setTraj_only ..) rfl ?_
    assumption
  clear_value d9
  extract_lets +onlyGivenNames no10
  extract_lets +onlyGivenNames d11
  refine Only.cut d11 ?_ fun hd11 => ?_
  · subst d11
    refine Only.step (Device.setConv_only ..) rfl ?_
    assumption
  clear_value d11
  extract_lets +onlyGivenNames d12
  refine Only.cut d12 ?_ fun hd12 => ?_
  · subst d12
    refine Only.step (Device.setSeq_only ..) rfl ?_
    assumption
  clear_value d12
  refine Only.step (Device.raise_only ..) rfl ?_
  assumption
theorem Device.mbOpened_only (d : Device) : Only [.law, .traj, .seq, .conv] d (Device.mbOpened d) := by
  unfold Device.mbOpened
  refine Only.ite ?_ ?_
  · exact Only.refl
  · extract_lets +onlyGivenNames d1
    refine Only.cut d1 ?_ fun hd1 => ?_
    · subst d1
      refine Only.step (Device.raise_only ..) rfl ?_
      exact Only.refl
    clear_value d1
    extract_lets +onlyGivenNames zero2
    extract_lets +onlyGivenNames d3
    refine Only.cut d3 ?_ fun hd3 => ?_
    · subst d3
      refine Only.step (Device.setLaw_only ..) rfl ?_
      assumption
    clear_value d3
    extract_lets +onlyGivenNames d4
    refine Only.cut d4 ?_ fun hd4 => ?_
    · subst d4
      refine Only.step (Device.setSeq_only ..) rfl ?_
      assumption
    clear_value d4
    extract_lets +onlyGivenNames d5
    refine Only.cut d5 ?_ fun hd5 => ?_
    · subst d5
      refine Only.step (Device.setTraj_only ..) rfl ?_
      assumption
    clear_value d5
    refine Only.step (Device.setConv_only ..) rfl ?_
    assumption
theorem Device.brkMoved_only (d : Device) (b : Nat) (pos : Nat) : Only [.law, .traj, .brk, .seq, .conv] d (Device.brkMoved d b pos) := by
  unfold Device.brkMoved
  extract_lets +onlyGivenNames d1
  extract_lets +onlyGivenNames d2
  refine Only.cut d2 ?_ fun hd2 => ?_
  · subst d2
    refine Only.ite ?_ ?_
    · refine Only.step (Device.setBrk_only ..) rfl ?_
      exact Only.refl
    · exact Only.refl
  clear_value d2
  extract_lets +onlyGivenNames ph3
  extract_lets +onlyGivenNames abort4
  refine Only.ite ?_ ?_
  · refine Only.step (Device.landClosed_only ..) rfl ?_
    assumption
  · refine Only.ite ?_ ?_
    · refine Only.step (Device.landAbort_only ..) rfl ?_
      assumption
    · refine Only.ite ?_ ?_
      · refine Only.step (Device.setConv_only ..) rfl ?_
        assumption
      · refine Only.ite ?_ ?_
        · refine Only.step (Device.mbOpened_only ..) rfl ?_
          assumption
        · assumption
theorem Device.brkSettle_only (d : Device) (b : Nat) : Only [.law, .traj, .brk, .seq, .conv] d (Device.brkSettle d b) := by
  unfold Device.brkSettle
  extract_lets +onlyGivenNames x1
  extract_lets +onlyGivenNames travel2
  extract_lets +onlyGivenNames d3
  refine Only.cut d3 ?_ fun hd3 => ?_
  · subst d3
    refine Only.step (Device.setBrk_only ..) rfl ?_
    exact Only.refl
  clear_value d3
  extract_lets +onlyGivenNames pos4
  refine Only.ite ?_ ?_
  · assumption
  · extract_lets +onlyGivenNames d5
    refine Only.cut d5 ?_ fun hd5 => ?_
    · subst d5
      refine Only.step (Device.setBrk_only ..) rfl ?_
      assumption
    clear_value d5
    refine Only.step (Device.brkMoved_only ..) rfl ?_
    refine Only.step (Device.raise_only ..) rfl ?_
    assumption
theorem Device.closeBoundary_only (d : Device) : Only [.brk] d (Device.closeBoundary d) := by
  unfold Device.closeBoundary
  extract_lets +onlyGivenNames off1
  extract_lets +onlyGivenNames step2
  refine Only.set_grid (.inr rfl) (.inr rfl) (.inl rfl) (.inr rfl) ?_
  exact Only.refl
theorem Device.seqPhase_only (d : Device) (ph : Nat) : Only [.seq] d (Device.seqPhase d ph) := by
  unfold Device.seqPhase
  refine Only.step (Device.setSeq_only ..) rfl ?_
  exact Only.refl
theorem Device.bsBegin_only (d : Device) : Only [.seq] d (Device.bsBegin d) := by
  unfold Device.bsBegin
  refine Only.step (Device.seqPhase_only ..) rfl ?_
  refine Only.step (Device.setSeq_only ..) rfl ?_
  exact Only.refl
theorem Device.lateLive_only (d : Device) : Only [.traj, .seq] d (Device.lateLive d) := by
  unfold Device.lateLive
  refine Only.step (Device.raise_only ..) rfl ?_
  refine Only.step (Device.setSeq_only ..) rfl ?_
  refine Only.step (Device.snapToGrid_only ..) rfl ?_
  exact Only.refl
theorem Device.landEntry_only (d : Device) : Only [.law, .ride, .traj, .seq, .par] d (Device.landEntry d) := by
  unfold Device.landEntry
  extract_lets +onlyGivenNames d1
  refine Only.cut d1 ?_ fun hd1 => ?_
  · subst d1
    refine Only.step (Device.lawEntry_only ..) rfl ?_
    refine Only.step (Device.snapToGrid_only ..) rfl ?_
    refine Only.step (Device.applyWaiting_only ..) rfl ?_
    exact Only.refl
  clear_value d1
  extract_lets +onlyGivenNames zero2
  extract_lets +onlyGivenNames d3
  refine Only.cut d3 ?_ fun hd3 => ?_
  · subst d3
    refine Only.step (Device.setLaw_only ..) rfl ?_
    assumption
  clear_value d3
  extract_lets +onlyGivenNames d4
  refine Only.cut d4 ?_ fun hd4 => ?_
  · subst d4
    refine Only.step (Device.setSeq_only ..) rfl ?_
    assumption
  clear_value d4
  extract_lets +onlyGivenNames ramp5
  refine Only.step (Device.raise_only ..) rfl ?_
  refine Only.step (Device.startMove_only ..) rfl ?_
  assumption
theorem execBreakerContactChange_only (t : Tick) (b : Fin 2) (c : Fin 2) (level : Bool × Nat) (s s' : State) (hq : s.Quiet) (h : execBreakerContactChange t b c level s = .next s') : Only [.law, .traj, .brk, .seq, .prot, .conv] (s.dev.ready t) s'.dev := by
  refine State.on_only hq h fun d => ?_
  extract_lets +onlyGivenNames x1
  refine Only.ite ?_ ?_
  · exact Only.refl
  · extract_lets +onlyGivenNames n2
    extract_lets +onlyGivenNames trans3
    extract_lets +onlyGivenNames d4
    refine Only.cut d4 ?_ fun hd4 => ?_
    · subst d4
      refine Only.step (Device.setBrk_only ..) rfl ?_
      exact Only.refl
    clear_value d4
    refine Only.ite ?_ ?_
    · assumption
    · extract_lets +onlyGivenNames d5
      refine Only.cut d5 ?_ fun hd5 => ?_
      · subst d5
        refine Device.setProt_set (.inl rfl) (.inr fun _ => rfl) ?_
        assumption
      clear_value d5
      refine Only.ite ?_ ?_
      · assumption
      · refine Only.step (Device.brkSettle_only ..) rfl ?_
        refine Only.step (Device.raise_only ..) rfl ?_
        refine Only.step (Device.setBrk_only ..) rfl ?_
        assumption
theorem execBreakerDebounceDone_only (t : Tick) (b : Fin 2) (c : Fin 2) (s s' : State) (hq : s.Quiet) (h : execBreakerDebounceDone t b c s = .next s') : Only [.law, .traj, .brk, .seq, .conv] (s.dev.ready t) s'.dev := by
  refine State.on_only hq h fun d => ?_
  extract_lets +onlyGivenNames x1
  refine Only.ite ?_ ?_
  · exact Only.refl
  · refine Only.step (Device.brkSettle_only ..) rfl ?_
    refine Only.step (Device.setBrk_only ..) rfl ?_
    exact Only.refl
theorem execBreakerDiscrepancy_only (t : Tick) (b : Fin 2) (s s' : State) (hq : s.Quiet) (h : execBreakerDiscrepancy t b s = .next s') : Only [.law, .traj, .brk, .seq, .conv] (s.dev.ready t) s'.dev := by
  refine State.on_only hq h fun d => ?_
  extract_lets +onlyGivenNames x1
  split
  · exact Only.refl
  · refine Only.ite ?_ ?_
    · exact Only.refl
    · refine Only.step (Device.brkSettle_only ..) rfl ?_
      refine Only.step (Device.raise_only ..) rfl ?_
      refine Only.step (Device.setBrk_only ..) rfl ?_
      exact Only.refl
theorem execClosePulseExpiry_only (t : Tick) (b : Fin 2) (s s' : State) (hq : s.Quiet) (h : execClosePulseExpiry t b s = .next s') : Only [.brk] (s.dev.ready t) s'.dev := by
  refine State.on_only hq h fun d => ?_
  extract_lets +onlyGivenNames x1
  refine Only.ite ?_ ?_
  · refine Only.step (Device.setBrk_only ..) rfl ?_
    exact Only.refl
  · exact Only.refl
theorem execCloseMaxExpiry_only (t : Tick) (b : Fin 2) (s s' : State) (hq : s.Quiet) (h : execCloseMaxExpiry t b s = .next s') : Only [.traj, .brk, .seq] (s.dev.ready t) s'.dev := by
  refine State.on_only hq h fun d => ?_
  extract_lets +onlyGivenNames x1
  refine Only.ite ?_ ?_
  · exact Only.refl
  · refine Only.step (Device.landAbort_only ..) rfl ?_
    refine Only.step (Device.raise_only ..) rfl ?_
    refine Only.step (Device.setBrk_only ..) rfl ?_
    exact Only.refl
theorem execBsDeadConfirmed_only (t : Tick) (s s' : State) (hq : s.Quiet) (h : execBsDeadConfirmed t s = .next s') : Only [.seq] (s.dev.ready t) s'.dev := by
  refine State.on_only hq h fun d => ?_
  extract_lets +onlyGivenNames q1
  refine Only.ite ?_ ?_
  · exact Only.refl
  · refine Only.ite ?_ ?_
    · extract_lets +onlyGivenNames h2
      split
      rename_i q3
      refine Only.cut _ (Only.of_snd q3 ?_) fun hx4 => ?_
      · refine Only.step (Device.quant_only ..) rfl ?_
        exact Only.refl
      refine Only.step (Device.raise_only ..) rfl ?_
      refine Only.step (Device.seqPhase_only ..) rfl ?_
      refine Only.step (Device.setSeq_only ..) rfl ?_
      assumption
    · refine Only.ite ?_ ?_
      · refine Only.step (Device.seqPhase_only ..) rfl ?_
        refine Only.step (Device.setSeq_only ..) rfl ?_
        exact Only.refl
      · exact Only.refl
theorem execBsHoldoffEnd_only (t : Tick) (s s' : State) (hq : s.Quiet) (h : execBsHoldoffEnd t s = .next s') : Only [.brk, .seq] (s.dev.ready t) s'.dev := by
  refine State.on_only hq h fun d => ?_
  extract_lets +onlyGivenNames q1
  refine Only.ite ?_ ?_
  · exact Only.refl
  · refine Only.ite ?_ ?_
    · refine Only.step (Device.seqPhase_only ..) rfl ?_
      refine Only.step (Device.closeCommand_only ..) rfl ?_
      exact Only.refl
    · refine Only.step (Device.seqPhase_only ..) rfl ?_
      exact Only.refl
theorem execBsBusBandChange_only (t : Tick) (s s' : State) (hq : s.Quiet) (h : execBsBusBandChange t s = .next s') : Only [.traj, .seq] (s.dev.ready t) s'.dev := by
  refine State.on_only hq h fun d => ?_
  extract_lets +onlyGivenNames band1
  extract_lets +onlyGivenNames d2
  refine Only.cut d2 ?_ fun hd2 => ?_
  · subst d2
    refine Only.step (Device.setSeq_only ..) rfl ?_
    exact Only.refl
  clear_value d2
  extract_lets +onlyGivenNames q3
  refine Only.ite ?_ ?_
  · refine Only.step (Device.seqPhase_only ..) rfl ?_
    assumption
  · refine Only.ite ?_ ?_
    · refine Only.step (Device.lateLive_only ..) rfl ?_
      assumption
    · assumption
theorem execBsLiveConfirmed_only (t : Tick) (s s' : State) (hq : s.Quiet) (h : execBsLiveConfirmed t s = .next s') : Only [.conv] (s.dev.ready t) s'.dev := by
  refine State.on_only hq h fun d => ?_
  extract_lets +onlyGivenNames q1
  refine Only.ite ?_ ?_
  · refine Only.step (Device.setConv_only ..) rfl ?_
    exact Only.refl
  · exact Only.refl
theorem execBsConfirmTimeout_only (t : Tick) (s s' : State) (hq : s.Quiet) (h : execBsConfirmTimeout t s = .next s') : Only [.traj, .brk, .seq] (s.dev.ready t) s'.dev := by
  refine State.on_only hq h fun d => ?_
  extract_lets +onlyGivenNames q1
  refine Only.ite ?_ ?_
  · refine Only.step (Device.endSequence_only ..) rfl ?_
    exact Only.refl
  · exact Only.refl
theorem execBsEnergiseTimeout_only (t : Tick) (s s' : State) (hq : s.Quiet) (h : execBsEnergiseTimeout t s = .next s') : Only [.traj, .brk, .seq, .modu, .prot, .conv] (s.dev.ready t) s'.dev := by
  refine State.on_only hq h fun d => ?_
  extract_lets +onlyGivenNames q1
  refine Only.ite ?_ ?_
  · refine Only.step (Device.controlTrip_only ..) rfl ?_
    refine Only.step (Device.endSequence_only ..) rfl ?_
    exact Only.refl
  · exact Only.refl
theorem execLandTrimStep_only (t : Tick) (s s' : State) (hq : s.Quiet) (h : execLandTrimStep t s = .next s') : Only [.traj, .seq, .par] (s.dev.ready t) s'.dev := by
  refine State.on_only hq h fun d => ?_
  extract_lets +onlyGivenNames q1
  refine Only.ite ?_ ?_
  · exact Only.refl
  · extract_lets +onlyGivenNames inside2
    extract_lets +onlyGivenNames d3
    refine Only.cut d3 ?_ fun hd3 => ?_
    · subst d3
      refine Only.ite ?_ ?_
      · exact Only.refl
      · refine Only.step (Device.applyWaiting_only ..) rfl ?_
        exact Only.refl
    clear_value d3
    extract_lets +onlyGivenNames n4
    extract_lets +onlyGivenNames d5
    refine Only.cut d5 ?_ fun hd5 => ?_
    · subst d5
      refine Only.step (Device.setSeq_only ..) rfl ?_
      assumption
    clear_value d5
    refine Only.ite ?_ ?_
    · assumption
    · extract_lets +onlyGivenNames move6
      extract_lets +onlyGivenNames v7
      extract_lets +onlyGivenNames mv8
      refine Only.step (Device.setTraj_only ..) rfl ?_
      assumption
theorem execLandDwellComplete_only (t : Tick) (s s' : State) (hq : s.Quiet) (h : execLandDwellComplete t s = .next s') : Only [.brk, .seq] (s.dev.ready t) s'.dev := by
  refine State.on_only hq h fun d => ?_
  refine Only.ite ?_ ?_
  · refine Only.step (Device.seqPhase_only ..) rfl ?_
    refine Only.step (Device.closeCommand_only ..) rfl ?_
    exact Only.refl
  · exact Only.refl
theorem execLandTimeout_only (t : Tick) (s s' : State) (hq : s.Quiet) (h : execLandTimeout t s = .next s') : Only [.traj, .brk, .seq] (s.dev.ready t) s'.dev := by
  refine State.on_only hq h fun d => ?_
  extract_lets +onlyGivenNames q1
  refine Only.ite ?_ ?_
  · refine Only.step (Device.landAbort_only ..) rfl ?_
    exact Only.refl
  · exact Only.refl
theorem execLandAbortHoldEnd_only (t : Tick) (s s' : State) (hq : s.Quiet) (h : execLandAbortHoldEnd t s = .next s') : Only [.seq] (s.dev.ready t) s'.dev := by
  refine State.on_only hq h fun d => ?_
  extract_lets +onlyGivenNames q1
  refine Only.ite ?_ ?_
  · refine Only.step (Device.setSeq_only ..) rfl ?_
    exact Only.refl
  · exact Only.refl

end Sys2Proof.Machine
end

