-- ==== Sys2Proof/Laws/FrameModulation.lean ====
section
/-! SUPPORT. The parts of the device that each operation may change (`Only`): gate records, schedules, the recorder, converter states, protection; then those that each command may change. -/

namespace Sys2Proof.Machine

/-! ## Gate -/

theorem Device.setNode_only (d : Device) (c : Nat) (f : NodeView → NodeView) : Only [.link] d (Device.setNode d c f) := by
  unfold Device.setNode
  refine Only.step (Device.setLink_only ..) rfl ?_
  exact Only.refl
theorem Device.setCell_only (d : Device) (c : Nat) (f : ModCell → ModCell) : Only [.modu] d (Device.setCell d c f) := by
  unfold Device.setCell
  refine Only.step (Device.setModu_only ..) rfl ?_
  exact Only.refl
theorem Device.setArm_only (d : Device) (a : Nat) (f : ModArm → ModArm) : Only [.modu] d (Device.setArm d a f) := by
  unfold Device.setArm
  refine Only.step (Device.setModu_only ..) rfl ?_
  exact Only.refl
theorem Device.setGate_only (d : Device) (c : Nat) (off : Bool) (f : Gate → Gate) : Only [.gates] d (Device.setGate d c off f) := by
  unfold Device.setGate
  refine Device.setProt_set (.inr fun _ => rfl) (.inl rfl) ?_
  exact Only.refl
theorem Device.gateTake_only (d : Device) (c : Nat) (off : Bool) (tsw : Nat) : Only [.gates] d (Device.gateTake d c off tsw) := by
  unfold Device.gateTake
  extract_lets +onlyGivenNames p1
  extract_lets +onlyGivenNames g2
  extract_lets +onlyGivenNames err3
  extract_lets +onlyGivenNames db4
  extract_lets +onlyGivenNames code5
  extract_lets +onlyGivenNames atEnd6
  extract_lets +onlyGivenNames run7
  extract_lets +onlyGivenNames sat8
  extract_lets +onlyGivenNames mean9
  extract_lets +onlyGivenNames first10
  extract_lets +onlyGivenNames g'11
  extract_lets +onlyGivenNames age12
  extract_lets +onlyGivenNames d13
  refine Only.cut d13 ?_ fun hd13 => ?_
  · subst d13
    refine Only.step (Device.setGate_only ..) rfl ?_
    exact Only.refl
  clear_value d13
  extract_lets +onlyGivenNames d14
  refine Only.cut d14 ?_ fun hd14 => ?_
  · subst d14
    refine Only.ite ?_ ?_
    · refine Only.step (Device.raise_only ..) rfl ?_
      assumption
    · assumption
  clear_value d14
  refine Only.ite ?_ ?_
  · refine Only.step (Device.raise_only ..) rfl ?_
    assumption
  · assumption
theorem Device.gateCell_only (d : Device) (arm : Nat) (c : Nat) : Only [.gates] d (Device.gateCell d arm c) := by
  unfold Device.gateCell
  extract_lets +onlyGivenNames nv1
  split
  · exact Only.refl
  · refine Only.ite ?_ ?_
    · exact Only.refl
    · extract_lets +onlyGivenNames edge2
      extract_lets +onlyGivenNames i3
      extract_lets +onlyGivenNames ok4
      refine Only.ite ?_ ?_
      · exact Only.refl
      · extract_lets +onlyGivenNames d5
        refine Only.cut d5 ?_ fun hd5 => ?_
        · subst d5
          refine Only.ite ?_ ?_
          · refine Only.step (Device.gateTake_only ..) rfl ?_
            exact Only.refl
          · exact Only.refl
        clear_value d5
        refine Only.ite ?_ ?_
        · refine Only.step (Device.gateTake_only ..) rfl ?_
          assumption
        · assumption
theorem Device.gateLoop_only (d : Device) (arm : Nat) (cells : List Nat) : Only [.gates] d (Device.gateLoop d arm cells) := by
  unfold Device.gateLoop
  refine Only.ite ?_ ?_
  · extract_lets +onlyGivenNames init1
    extract_lets +onlyGivenNames put2
    refine Only.foldl (fun x3 b4 hx3 => ?_) ?_
    · refine Only.step (Device.setGate_only ..) rfl ?_
      refine Only.step (Device.setGate_only ..) rfl ?_
      assumption
    · exact Only.refl
  · refine Only.ite ?_ ?_
    · exact Only.refl
    · refine Only.foldl (fun x5 b6 hx5 => ?_) ?_
      · refine Only.step (Device.gateCell_only ..) rfl ?_
        assumption
      · exact Only.refl
theorem execGateAgeingPersist_only (t : Tick) (s s' : State) (hq : s.Quiet) (h : execGateAgeingPersist t s = .next s') : Only [.gates] (s.dev.ready t) s'.dev := by
  refine State.on_only hq h fun d => ?_
  refine Only.ite ?_ ?_
  · extract_lets +onlyGivenNames keep1
    refine Device.setProt_set (.inr fun _ => rfl) (.inl rfl) ?_
    exact Only.refl
  · exact Only.refl
theorem execGateSelectWrite_only (t : Tick) (v : BitVec 32) (s s' : State) (hq : s.Quiet) (h : execGateSelectWrite t v s = .next s') : Only [.gates, .regs] (s.dev.ready t) s'.dev := by
  refine State.on_only hq h fun d => ?_
  extract_lets +onlyGivenNames d1
  refine Only.cut d1 ?_ fun hd1 => ?_
  · subst d1
    refine Only.step (Device.reserved_only ..) rfl ?_
    exact Only.refl
  clear_value d1
  extract_lets +onlyGivenNames c2
  extract_lets +onlyGivenNames a3
  extract_lets +onlyGivenNames b4
  split
  rename_i q5
  refine Only.cut _ (Only.of_snd q5 ?_) fun hx6 => ?_
  · refine Only.step (Device.quant_only ..) rfl ?_
    assumption
  split
  rename_i q7
  refine Only.cut _ (Only.of_snd q7 ?_) fun hx8 => ?_
  · refine Only.step (Device.quant_only ..) rfl ?_
    assumption
  split
  rename_i q9
  refine Only.cut _ (Only.of_snd q9 ?_) fun hx10 => ?_
  · refine Only.step (Device.quant_only ..) rfl ?_
    assumption
  split
  rename_i q11
  refine Only.cut _ (Only.of_snd q11 ?_) fun hx12 => ?_
  · refine Only.step (Device.quant_only ..) rfl ?_
    assumption
  extract_lets +onlyGivenNames pair13
  extract_lets +onlyGivenNames code14
  refine Device.setProt_set (.inr fun _ => rfl) (.inl rfl) ?_
  assumption

/-! ## Schedule -/

theorem Device.rank_only (d : Device) (arm : Nat) (discharge : Bool) (trusted : Bool) : Only [] d (Device.rank d arm discharge trusted).2 := by
  unfold Device.rank
  extract_lets +onlyGivenNames soc1
  extract_lets +onlyGivenNames cs2
  split
  rename_i q3
  refine Only.cut _ (Only.of_snd q3 ?_) fun hx4 => ?_
  · refine Only.foldl_snd (fun x5 b6 hx5 => ?_) ?_
    · split
      rename_i q7
      refine Only.cut _ (Only.of_snd q7 ?_) fun hx8 => ?_
      · refine Only.step (Device.quant_only ..) rfl ?_
        assumption
      refine Only.snd_mk ?_
      assumption
    · refine Only.snd_mk ?_
      exact Only.refl
  refine Only.snd_mk ?_
  assumption

/-! ## Modulation -/

theorem Device.bypass_only (d : Device) (c : Nat) (cause : Nat) : Only [.modu] d (Device.bypass d c cause) := by
  unfold Device.bypass
  refine Only.ite ?_ ?_
  · exact Only.refl
  · extract_lets +onlyGivenNames zl1
    refine Only.step (Device.raise_only ..) rfl ?_
    refine Only.step (Device.setCell_only ..) rfl ?_
    exact Only.refl
theorem Device.bypassInput_only (d : Device) : Only [.traj, .brk, .seq, .modu, .prot, .conv] d (Device.bypassInput d) := by
  unfold Device.bypassInput
  extract_lets +onlyGivenNames l1
  refine Only.ite ?_ ?_
  · refine Only.step (Device.inputInactive_only ..) rfl ?_
    exact Only.refl
  · extract_lets +onlyGivenNames arms2
    refine Only.step (Device.setSrc_only ..) rfl ?_
    refine Only.step (Device.inputActive_only ..) rfl ?_
    exact Only.refl
theorem Device.bpClosed_only (d : Device) (c : Nat) : Only [.traj, .brk, .seq, .modu, .prot, .conv] d (Device.bpClosed d c) := by
  unfold Device.bpClosed
  extract_lets +onlyGivenNames m1
  extract_lets +onlyGivenNames d2
  refine Only.cut d2 ?_ fun hd2 => ?_
  · subst d2
    refine Only.ite ?_ ?_
    · refine Only.step (Device.bypassInput_only ..) rfl ?_
      refine Device.setProt_set (.inl rfl) (.inr fun _ => rfl) ?_
      exact Only.refl
    · exact Only.refl
  clear_value d2
  refine Only.ite ?_ ?_
  · refine Only.step (Device.setCell_only ..) rfl ?_
    assumption
  · assumption
theorem Device.countRests_only (d : Device) : Only [.modu] d (Device.countRests d) := by
  unfold Device.countRests
  extract_lets +onlyGivenNames step1
  refine Only.step (Device.setModu_only ..) rfl ?_
  exact Only.refl
theorem Device.circLoop_only (d : Device) (i0ref : Rat) (i0 : Rat) (held : Bool) : Only [.modu] d (Device.circLoop d i0ref i0 held) := by
  unfold Device.circLoop
  extract_lets +onlyGivenNames p1
  extract_lets +onlyGivenNames e2
  extract_lets +onlyGivenNames m3
  extract_lets +onlyGivenNames free4
  extract_lets +onlyGivenNames vc5
  extract_lets +onlyGivenNames stuck6
  extract_lets +onlyGivenNames x7
  extract_lets +onlyGivenNames volt8
  refine Only.step (Device.setModu_only ..) rfl ?_
  exact Only.refl
theorem Device.commit_only (d : Device) (c : Nat) (edges : List Edge) : Only [.modu] d (Device.commit d c edges) := by
  unfold Device.commit
  extract_lets +onlyGivenNames moved1
  extract_lets +onlyGivenNames d2
  refine Only.cut d2 ?_ fun hd2 => ?_
  · subst d2
    refine Only.step (Device.setCell_only ..) rfl ?_
    exact Only.refl
  clear_value d2
  refine Only.ite ?_ ?_
  · refine Only.step (Device.setModu_only ..) rfl ?_
    assumption
  · assumption
theorem Device.launchedCells_only (d : Device) : Only [.modu, .twin] d (Device.launchedCells d) := by
  unfold Device.launchedCells
  extract_lets +onlyGivenNames p1
  extract_lets +onlyGivenNames fade2
  extract_lets +onlyGivenNames one3
  refine Only.step (Device.setTwin_only ..) rfl ?_
  refine Only.step (Device.setModu_only ..) rfl ?_
  exact Only.refl
theorem Device.setRho_only (d : Device) (arm : Nat) (rho : Rat) : Only [.modu] d (Device.setRho d arm rho) := by
  unfold Device.setRho
  extract_lets +onlyGivenNames m1
  extract_lets +onlyGivenNames r2
  extract_lets +onlyGivenNames d3
  refine Only.cut d3 ?_ fun hd3 => ?_
  · subst d3
    refine Only.step (Device.setArm_only ..) rfl ?_
    exact Only.refl
  clear_value d3
  refine Only.ite ?_ ?_
  · assumption
  · extract_lets +onlyGivenNames d4
    refine Only.cut d4 ?_ fun hd4 => ?_
    · subst d4
      refine Only.step (Device.setModu_only ..) rfl ?_
      assumption
    clear_value d4
    split
    rename_i q5
    refine Only.cut _ (Only.of_snd q5 ?_) fun hx6 => ?_
    · refine Only.step (Device.quant_only ..) rfl ?_
      assumption
    refine Only.step (Device.raiseRated_only ..) rfl ?_
    assumption
theorem Device.bsForced_only (d : Device) (arm : Nat) (c : Nat) : Only [.modu] d (Device.bsForced d arm c) := by
  unfold Device.bsForced
  refine Only.step (Device.raiseRated_only ..) rfl ?_
  refine Only.step (Device.setModu_only ..) rfl ?_
  exact Only.refl
theorem bootstrap_only (n0 : Nat) (n1 : Device) (n2 : Nat) (n3 : List Part) (n4 : List (List Nat)) (n5 : List Nat) : Only [.modu] n1 (bootstrap n0 n1 n2 n3 n4 n5).2 := by
  unfold bootstrap
  split
  · refine Only.snd_mk ?_
    exact Only.refl
  · extract_lets +onlyGivenNames T1
    extract_lets +onlyGivenNames r2
    extract_lets +onlyGivenNames ins3
    extract_lets +onlyGivenNames used4
    split
    · refine Only.snd_mk ?_
      exact Only.refl
    · extract_lets +onlyGivenNames own5
      split
      · extract_lets +onlyGivenNames d6
        refine Only.cut d6 ?_ fun hd6 => ?_
        · subst d6
          refine Only.step (Device.setModu_only ..) rfl ?_
          refine Only.step (Device.setCell_only ..) rfl ?_
          exact Only.refl
        clear_value d6
        refine Only.step (bootstrap_only ..) rfl ?_
        assumption
      · refine Only.step (bootstrap_only ..) rfl ?_
        refine Only.step (Device.bsForced_only ..) rfl ?_
        exact Only.refl
theorem Device.edgeSchedule_only (d : Device) (arm : Nat) (v0 : Rat) (v1 : Rat) (ip : Rat) : Only [.modu, .prot] d (Device.edgeSchedule d arm v0 v1 ip) := by
  unfold Device.edgeSchedule
  extract_lets +onlyGivenNames T1
  extract_lets +onlyGivenNames rho2
  extract_lets +onlyGivenNames trusted3
  extract_lets +onlyGivenNames parts4
  split
  rename_i q5
  refine Only.cut _ (Only.of_snd q5 ?_) fun hx6 => ?_
  · refine Only.foldl_snd (fun x7 b8 hx7 => ?_) ?_
    · split
      rename_i q9
      refine Only.cut _ (Only.of_snd q9 ?_) fun hx10 => ?_
      · refine Only.step (Device.rank_only ..) rfl ?_
        assumption
      refine Only.snd_mk ?_
      assumption
    · refine Only.snd_mk ?_
      exact Only.refl
  extract_lets +onlyGivenNames total11
  extract_lets +onlyGivenNames i12
  extract_lets +onlyGivenNames p13
  extract_lets +onlyGivenNames S14
  extract_lets +onlyGivenNames sat15
  extract_lets +onlyGivenNames parts16
  extract_lets +onlyGivenNames ranks17
  split
  rename_i q18
  refine Only.cut _ (Only.of_snd q18 ?_) fun hx19 => ?_
  · refine Only.step (bootstrap_only ..) rfl ?_
    assumption
  extract_lets +onlyGivenNames want20
  extract_lets +onlyGivenNames cells21
  split
  rename_i q22
  refine Only.cut _ (Only.of_snd q22 ?_) fun hx23 => ?_
  · refine Only.foldl_snd (fun x24 b25 hx24 => ?_) ?_
    · split
      extract_lets +onlyGivenNames m26
      split
      · refine Only.snd_mk ?_
        refine Only.step (Device.commit_only ..) rfl ?_
        assumption
      · split
        extract_lets +onlyGivenNames vs27
        extract_lets +onlyGivenNames d28
        refine Only.cut d28 ?_ fun hd28 => ?_
        · subst d28
          refine Only.step (Device.setModu_only ..) rfl ?_
          refine Only.step (Device.commit_only ..) rfl ?_
          assumption
        clear_value d28
        refine Only.snd_mk ?_
        assumption
    · refine Only.snd_mk ?_
      assumption
  extract_lets +onlyGivenNames d29
  refine Only.cut d29 ?_ fun hd29 => ?_
  · subst d29
    refine Only.step (Device.setModu_only ..) rfl ?_
    assumption
  clear_value d29
  extract_lets +onlyGivenNames d30
  refine Only.cut d30 ?_ fun hd30 => ?_
  · subst d30
    refine Only.step (Device.setArm_only ..) rfl ?_
    assumption
  clear_value d30
  refine Device.setProt_set (.inl rfl) (.inr fun _ => rfl) ?_
  refine Only.step (Device.setRho_only ..) rfl ?_
  assumption
theorem Device.centreSchedule_only (d : Device) (arm : Nat) (v0 : Rat) (v1 : Rat) (ip : Rat) (resume : Bool) : Only [.modu] d (Device.centreSchedule d arm v0 v1 ip resume) := by
  unfold Device.centreSchedule
  extract_lets +onlyGivenNames T1
  extract_lets +onlyGivenNames P2
  extract_lets +onlyGivenNames avail3
  extract_lets +onlyGivenNames part4
  extract_lets +onlyGivenNames S5
  extract_lets +onlyGivenNames n6
  extract_lets +onlyGivenNames d07
  extract_lets +onlyGivenNames d18
  extract_lets +onlyGivenNames ovr9
  extract_lets +onlyGivenNames base10
  extract_lets +onlyGivenNames d11
  refine Only.cut d11 ?_ fun hd11 => ?_
  · subst d11
    refine Only.foldl (fun x12 b13 hx12 => ?_) ?_
    · extract_lets +onlyGivenNames m14
      refine Only.ite ?_ ?_
      · assumption
      · refine Only.ite ?_ ?_
        · refine Only.step (Device.commit_only ..) rfl ?_
          assumption
        · refine Only.ite ?_ ?_
          · refine Only.step (Device.commit_only ..) rfl ?_
            assumption
          · extract_lets +onlyGivenNames d15
            refine Only.cut d15 ?_ fun hd15 => ?_
            · subst d15
              refine Only.ite ?_ ?_
              · refine Only.step (Device.setCell_only ..) rfl ?_
                assumption
              · assumption
            clear_value d15
            extract_lets +onlyGivenNames j16
            extract_lets +onlyGivenNames x17
            extract_lets +onlyGivenNames ph18
            extract_lets +onlyGivenNames ins19
            extract_lets +onlyGivenNames force20
            extract_lets +onlyGivenNames d21
            refine Only.cut d21 ?_ fun hd21 => ?_
            · subst d21
              refine Only.ite ?_ ?_
              · refine Only.step (Device.bsForced_only ..) rfl ?_
                assumption
              · assumption
            clear_value d21
            extract_lets +onlyGivenNames ins22
            split
            extract_lets +onlyGivenNames es23
            extract_lets +onlyGivenNames es24
            refine Only.step (Device.setModu_only ..) rfl ?_
            refine Only.step (Device.commit_only ..) rfl ?_
            assumption
    · exact Only.refl
  clear_value d11
  extract_lets +onlyGivenNames d25
  refine Only.cut d25 ?_ fun hd25 => ?_
  · subst d25
    refine Only.step (Device.setModu_only ..) rfl ?_
    assumption
  clear_value d25
  refine Only.step (Device.setArm_only ..) rfl ?_
  assumption
theorem Device.quietSchedule_only (d : Device) (arm : Nat) : Only [.modu] d (Device.quietSchedule d arm) := by
  unfold Device.quietSchedule
  extract_lets +onlyGivenNames d1
  refine Only.cut d1 ?_ fun hd1 => ?_
  · subst d1
    refine Only.foldl (fun x2 b3 hx2 => ?_) ?_
    · extract_lets +onlyGivenNames m4
      refine Only.ite ?_ ?_
      · assumption
      · refine Only.step (Device.commit_only ..) rfl ?_
        assumption
    · exact Only.refl
  clear_value d1
  refine Only.step (Device.setArm_only ..) rfl ?_
  assumption
theorem Device.testSchedule_only (d : Device) (arm : Nat) : Only [.modu] d (Device.testSchedule d arm) := by
  unfold Device.testSchedule
  refine Only.foldl (fun x1 b2 hx1 => ?_) ?_
  · refine Only.step (Device.setCell_only ..) rfl ?_
    refine Only.step (Device.commit_only ..) rfl ?_
    assumption
  · exact Only.refl
theorem Device.scheduleCore_only (d : Device) (arm : Nat) : Only [.modu, .prot, .gates] d (Device.scheduleCore d arm) := by
  unfold Device.scheduleCore
  extract_lets +onlyGivenNames a1
  extract_lets +onlyGivenNames cells2
  extract_lets +onlyGivenNames d3
  refine Only.cut d3 ?_ fun hd3 => ?_
  · subst d3
    refine Only.step (Device.setModu_only ..) rfl ?_
    exact Only.refl
  clear_value d3
  extract_lets +onlyGivenNames d4
  extract_lets +onlyGivenNames d5
  refine Only.cut d5 ?_ fun hd5 => ?_
  · subst d5
    refine Only.ite ?_ ?_
    · refine Only.step (Device.setArm_only ..) rfl ?_
      assumption
    · assumption
  clear_value d5
  extract_lets +onlyGivenNames d6
  extract_lets +onlyGivenNames d7
  extract_lets +onlyGivenNames d8
  extract_lets +onlyGivenNames d9
  extract_lets +onlyGivenNames d10
  extract_lets +onlyGivenNames d11
  refine Only.cut d11 ?_ fun hd11 => ?_
  · subst d11
    refine Only.step (Device.setArm_only ..) rfl ?_
    assumption
  clear_value d11
  extract_lets +onlyGivenNames d12
  refine Only.cut d12 ?_ fun hd12 => ?_
  · subst d12
    refine Only.ite ?_ ?_
    · refine Only.step (Device.setArm_only ..) rfl ?_
      assumption
    · refine Only.ite ?_ ?_
      · refine Only.step (Device.testSchedule_only ..) rfl ?_
        assumption
      · refine Only.ite ?_ ?_
        · refine Only.step (Device.centreSchedule_only ..) rfl ?_
          assumption
        · refine Only.ite ?_ ?_
          · refine Only.step (Device.edgeSchedule_only ..) rfl ?_
            assumption
          · refine Only.step (Device.quietSchedule_only ..) rfl ?_
            assumption
  clear_value d12
  extract_lets +onlyGivenNames d13
  refine Only.cut d13 ?_ fun hd13 => ?_
  · subst d13
    refine Only.ite ?_ ?_
    · assumption
    · refine Only.foldl (fun x14 b15 hx14 => ?_) ?_
      · refine Only.ite ?_ ?_
        · refine Only.step (Device.commit_only ..) rfl ?_
          assumption
        · assumption
      · assumption
  clear_value d13
  refine Only.step (Device.setArm_only ..) rfl ?_
  refine Only.step (Device.gateLoop_only ..) rfl ?_
  assumption
theorem Device.resumeArm_only (d : Device) (arm : Nat) : Only [.modu] d (Device.resumeArm d arm) := by
  unfold Device.resumeArm
  extract_lets +onlyGivenNames cells1
  extract_lets +onlyGivenNames r2
  extract_lets +onlyGivenNames left3
  extract_lets +onlyGivenNames d4
  refine Only.cut d4 ?_ fun hd4 => ?_
  · subst d4
    refine Only.step (Device.setModu_only ..) rfl ?_
    exact Only.refl
  clear_value d4
  extract_lets +onlyGivenNames d5
  refine Only.cut d5 ?_ fun hd5 => ?_
  · subst d5
    refine Only.step (Device.setArm_only ..) rfl ?_
    assumption
  clear_value d5
  refine Only.step (Device.setArm_only ..) rfl ?_
  refine Only.step (Device.centreSchedule_only ..) rfl ?_
  assumption
theorem Device.withRows_only (d : Device) (rows : List CellRow) : Only [.modu] d (Device.withRows d rows) := by
  unfold Device.withRows
  refine Only.step (Device.setModu_only ..) rfl ?_
  exact Only.refl
theorem Device.scheduleArm_only (d : Device) (arm : Nat) : Only [.modu, .prot, .gates, .drift] d (Device.scheduleArm d arm) := by
  unfold Device.scheduleArm
  extract_lets +onlyGivenNames live1
  extract_lets +onlyGivenNames d2
  refine Only.cut d2 ?_ fun hd2 => ?_
  · subst d2
    refine Only.ite ?_ ?_
    · refine Only.step (Device.withRows_only ..) rfl ?_
      refine Only.step (Device.scheduleCore_only ..) rfl ?_
      refine Only.step (Device.withRows_only ..) rfl ?_
      exact Only.refl
    · refine Only.step (Device.scheduleCore_only ..) rfl ?_
      exact Only.refl
  clear_value d2
  refine Only.step (Device.stamp_only ..) rfl ?_
  refine Only.step (Device.pmcPulse_only ..) rfl ?_
  assumption
theorem Device.sendCheck_only (d : Device) (arm : Nat) : Only [.modu, .twin] d (Device.sendCheck d arm) := by
  unfold Device.sendCheck
  refine Only.ite ?_ ?_
  · exact Only.refl
  · extract_lets +onlyGivenNames resume1
    extract_lets +onlyGivenNames e2
    refine Only.cut e2 ?_ fun he2 => ?_
    · subst e2
      refine Only.ite ?_ ?_
      · refine Only.step (Device.resumeArm_only ..) rfl ?_
        exact Only.refl
      · exact Only.refl
    clear_value e2
    refine Only.step (Device.setTwin_only ..) rfl ?_
    refine Only.step (Device.mdlSend_only ..) rfl ?_
    exact Only.refl
theorem Device.sendRecord_only (d : Device) (arm : Nat) (r : ArmRecord) : Only [.twin] d (Device.sendRecord d arm r) := by
  unfold Device.sendRecord
  refine Only.ite ?_ ?_
  · refine Only.step (Device.activeSend_only ..) rfl ?_
    exact Only.refl
  · exact Only.refl
theorem Device.overrun_only (d : Device) (arm : Nat) (kind : Nat) : Only [.cycle, .traj, .brk, .seq, .modu, .prot, .safety, .posts, .conv, .eh] d (Device.overrun d arm kind) := by
  unfold Device.overrun
  extract_lets +onlyGivenNames o1
  extract_lets +onlyGivenNames run2
  extract_lets +onlyGivenNames d3
  extract_lets +onlyGivenNames d4
  refine Only.cut d4 ?_ fun hd4 => ?_
  · subst d4
    refine Only.set_cycle rfl ?_
    exact Only.refl
  clear_value d4
  extract_lets +onlyGivenNames d5
  refine Only.cut d5 ?_ fun hd5 => ?_
  · subst d5
    refine Only.step (Device.raise_only ..) rfl ?_
    assumption
  clear_value d5
  refine Only.ite ?_ ?_
  · refine Only.ite ?_ ?_
    · refine Only.step (Device.errReport_only ..) rfl ?_
      assumption
    · refine Only.step (Device.errReport_only ..) rfl ?_
      assumption
  · assumption
theorem Device.reuseSchedule_only (d : Device) (arm : Nat) : Only [.cycle, .traj, .brk, .seq, .modu, .prot, .safety, .posts, .conv, .eh] d (Device.reuseSchedule d arm) := by
  unfold Device.reuseSchedule
  extract_lets +onlyGivenNames cells1
  extract_lets +onlyGivenNames d2
  refine Only.cut d2 ?_ fun hd2 => ?_
  · subst d2
    refine Only.foldl (fun x3 b4 hx3 => ?_) ?_
    · refine Only.step (Device.setCell_only ..) rfl ?_
      assumption
    · exact Only.refl
  clear_value d2
  extract_lets +onlyGivenNames d5
  refine Only.cut d5 ?_ fun hd5 => ?_
  · subst d5
    refine Only.step (Device.setModu_only ..) rfl ?_
    assumption
  clear_value d5
  refine Only.step (Device.setArm_only ..) rfl ?_
  refine Only.step (Device.overrun_only ..) rfl ?_
  assumption
theorem Device.availability_only (d : Device) (arm : Nat) : Only [.modu] d (Device.availability d arm) := by
  unfold Device.availability
  extract_lets +onlyGivenNames cs1
  extract_lets +onlyGivenNames av2
  extract_lets +onlyGivenNames sum3
  extract_lets +onlyGivenNames sd4
  extract_lets +onlyGivenNames sc5
  extract_lets +onlyGivenNames sm6
  extract_lets +onlyGivenNames band7
  refine Only.step (Device.setArm_only ..) rfl ?_
  exact Only.refl
theorem execBypassCloseTimeout_only (t : Tick) (cell : Fin 384) (s s' : State) (hq : s.Quiet) (h : execBypassCloseTimeout t cell s = .next s') : Only [.traj, .brk, .seq, .modu, .prot, .conv] (s.dev.ready t) s'.dev := by
  refine State.on_only hq h fun d => ?_
  extract_lets +onlyGivenNames m1
  refine Only.ite ?_ ?_
  · exact Only.refl
  · extract_lets +onlyGivenNames d2
    refine Only.cut d2 ?_ fun hd2 => ?_
    · subst d2
      refine Only.step (Device.raise_only ..) rfl ?_
      refine Only.step (Device.setCell_only ..) rfl ?_
      exact Only.refl
    clear_value d2
    refine Only.step (Device.bypassInput_only ..) rfl ?_
    refine Device.setProt_set (.inl rfl) (.inr fun _ => rfl) ?_
    assumption
theorem execCellRestEnd_only (t : Tick) (cell : Fin 384) (s s' : State) (hq : s.Quiet) (h : execCellRestEnd t cell s = .next s') : Only [.modu] (s.dev.ready t) s'.dev := by
  refine State.on_only hq h fun d => ?_
  extract_lets +onlyGivenNames p1
  extract_lets +onlyGivenNames gone2
  refine Only.step (Device.setCell_only ..) rfl ?_
  exact Only.refl
theorem execArmRecordArrival_only (t : Tick) (arm : Fin 3) (differs : Bool) (s s' : State) (hq : s.Quiet) (h : execArmRecordArrival t arm differs s = .next s') : Only [.traj, .brk, .seq, .modu, .prot, .gates, .safety, .twin, .posts, .conv, .eh, .drift] (s.dev.ready t) s'.dev := by
  refine State.on_only hq h fun d => ?_
  refine Only.ite ?_ ?_
  · exact Only.refl
  · extract_lets +onlyGivenNames r1
    extract_lets +onlyGivenNames d2
    refine Only.cut d2 ?_ fun hd2 => ?_
    · subst d2
      refine Only.step (Device.sendRecord_only ..) rfl ?_
      refine Only.step (Device.stamp_only ..) rfl ?_
      refine Only.step (Device.setArm_only ..) rfl ?_
      exact Only.refl
    clear_value d2
    extract_lets +onlyGivenNames first3
    extract_lets +onlyGivenNames d4
    refine Only.cut d4 ?_ fun hd4 => ?_
    · subst d4
      refine Only.ite ?_ ?_
      · refine Only.step (Device.setModu_only ..) rfl ?_
        assumption
      · assumption
    clear_value d4
    extract_lets +onlyGivenNames d5
    refine Only.cut d5 ?_ fun hd5 => ?_
    · subst d5
      refine Only.ite ?_ ?_
      · refine Only.step (Device.circLoop_only ..) rfl ?_
        assumption
      · assumption
    clear_value d5
    refine Only.ite ?_ ?_
    · refine Only.step (Device.errReport_only ..) rfl ?_
      assumption
    · refine Only.step (Device.sendCheck_only ..) rfl ?_
      refine Only.step (Device.scheduleArm_only ..) rfl ?_
      assumption
theorem execReferenceOverrun_only (t : Tick) (arm : Fin 3) (s s' : State) (hq : s.Quiet) (h : execReferenceOverrun t arm s = .next s') : Only [.cycle, .traj, .brk, .seq, .modu, .prot, .gates, .safety, .twin, .posts, .conv, .eh, .drift] (s.dev.ready t) s'.dev := by
  refine State.on_only hq h fun d => ?_
  refine Only.ite ?_ ?_
  · exact Only.refl
  · extract_lets +onlyGivenNames T1
    extract_lets +onlyGivenNames ext2
    extract_lets +onlyGivenNames d3
    refine Only.cut d3 ?_ fun hd3 => ?_
    · subst d3
      refine Only.step (Device.setArm_only ..) rfl ?_
      exact Only.refl
    clear_value d3
    extract_lets +onlyGivenNames r4
    extract_lets +onlyGivenNames d5
    refine Only.cut d5 ?_ fun hd5 => ?_
    · subst d5
      refine Only.ite ?_ ?_
      · refine Only.step (Device.setModu_only ..) rfl ?_
        refine Only.step (Device.circLoop_only ..) rfl ?_
        assumption
      · assumption
    clear_value d5
    extract_lets +onlyGivenNames d6
    refine Only.cut d6 ?_ fun hd6 => ?_
    · subst d6
      refine Only.step (Device.setModu_only ..) rfl ?_
      assumption
    clear_value d6
    refine Only.step (Device.sendCheck_only ..) rfl ?_
    refine Only.step (Device.scheduleArm_only ..) rfl ?_
    refine Only.step (Device.overrun_only ..) rfl ?_
    assumption
theorem execScheduleOverrun_only (t : Tick) (arm : Fin 3) (s s' : State) (hq : s.Quiet) (h : execScheduleOverrun t arm s = .next s') : Only [.cycle, .traj, .brk, .seq, .modu, .prot, .safety, .posts, .conv, .eh] (s.dev.ready t) s'.dev := by
  refine State.on_only hq h fun d => ?_
  refine Only.ite ?_ ?_
  · exact Only.refl
  · refine Only.step (Device.reuseSchedule_only ..) rfl ?_
    exact Only.refl
theorem execArmRedundancyChange_only (t : Tick) (arm : Fin 3) (s s' : State) (hq : s.Quiet) (h : execArmRedundancyChange t arm s = .next s') : Only [.modu] (s.dev.ready t) s'.dev := by
  refine State.on_only hq h fun d => ?_
  extract_lets +onlyGivenNames a1
  refine Only.ite ?_ ?_
  · exact Only.refl
  · extract_lets +onlyGivenNames d2
    refine Only.cut d2 ?_ fun hd2 => ?_
    · subst d2
      refine Only.step (Device.setArm_only ..) rfl ?_
      exact Only.refl
    clear_value d2
    split
    rename_i q3
    refine Only.cut _ (Only.of_snd q3 ?_) fun hx4 => ?_
    · refine Only.step (Device.quant_only ..) rfl ?_
      assumption
    refine Only.ite ?_ ?_
    · refine Only.step (Device.raise_only ..) rfl ?_
      assumption
    · refine Only.ite ?_ ?_
      · refine Only.step (Device.raise_only ..) rfl ?_
        assumption
      · assumption

/-! ## Recorder -/

theorem Device.writeHeader_only (d : Device) (r : RecHdr) : Only [.soffit] d (Device.writeHeader d r).2 := by
  unfold Device.writeHeader
  extract_lets +onlyGivenNames r1
  split
  · refine Only.snd_mk ?_
    exact Only.refl
  · refine Only.snd_mk ?_
    refine Only.step (Device.soffitWrite_only ..) rfl ?_
    exact Only.refl
theorem Device.openRecord_only (d : Device) (h : TrigHit) : Only [.posts, .soffit, .recd] d (Device.openRecord d h) := by
  unfold Device.openRecord
  extract_lets +onlyGivenNames s1
  extract_lets +onlyGivenNames f2
  extract_lets +onlyGivenNames r03
  extract_lets +onlyGivenNames r04
  extract_lets +onlyGivenNames r5
  extract_lets +onlyGivenNames d6
  refine Only.cut d6 ?_ fun hd6 => ?_
  · subst d6
    refine Device.setRec_set (.inl rfl) (.inl rfl) ?_
    exact Only.refl
  clear_value d6
  split
  rename_i q7
  refine Only.cut _ (Only.of_snd q7 ?_) fun hx8 => ?_
  · refine Only.step (Device.writeHeader_only ..) rfl ?_
    assumption
  extract_lets +onlyGivenNames d9
  refine Only.cut d9 ?_ fun hd9 => ?_
  · subst d9
    refine Only.step (Device.recState_only ..) rfl ?_
    refine Device.setRec_set (.inl rfl) (.inl rfl) ?_
    assumption
  clear_value d9
  refine Only.step (Device.raise_only ..) rfl ?_
  assumption
theorem Device.followRecord_only (d : Device) (h : TrigHit) : Only [.recd] d (Device.followRecord d h) := by
  unfold Device.followRecord
  split
  · exact Only.refl
  · extract_lets +onlyGivenNames r1
    refine Device.setRec_set (.inr fun _ => rfl) (.inl rfl) ?_
    exact Only.refl
theorem Device.register_only (d : Device) (x : Nat) (at_ : Tick) (v : Int) : Only [.posts, .soffit, .recd] d (Device.register d x at_ v) := by
  unfold Device.register
  refine Only.ite ?_ ?_
  · exact Only.refl
  · extract_lets +onlyGivenNames h1
    extract_lets +onlyGivenNames again2
    extract_lets +onlyGivenNames d3
    refine Only.cut d3 ?_ fun hd3 => ?_
    · subst d3
      refine Only.step (Device.maskStart_only ..) rfl ?_
      refine Only.step (Device.hwSet_only ..) rfl ?_
      refine Device.setRec_set (.inl rfl) (.inl rfl) ?_
      exact Only.refl
    clear_value d3
    refine Only.ite ?_ ?_
    · assumption
    · extract_lets +onlyGivenNames d4
      refine Only.cut d4 ?_ fun hd4 => ?_
      · subst d4
        refine Device.setRec_set (.inl rfl) (.inl rfl) ?_
        assumption
      clear_value d4
      refine Only.ite ?_ ?_
      · refine Only.step (Device.openRecord_only ..) rfl ?_
        assumption
      · refine Only.ite ?_ ?_
        · refine Only.step (Device.followRecord_only ..) rfl ?_
          assumption
        · assumption
theorem Device.recArm_only (d : Device) : Only [.posts, .recd] d (Device.recArm d) := by
  unfold Device.recArm
  split
  extract_lets +onlyGivenNames d1
  extract_lets +onlyGivenNames d2
  refine Only.cut d2 ?_ fun hd2 => ?_
  · subst d2
    refine Device.setRec_set (.inr fun _ => rfl) (.inl rfl) ?_
    exact Only.refl
  clear_value d2
  extract_lets +onlyGivenNames d3
  refine Only.cut d3 ?_ fun hd3 => ?_
  · subst d3
    refine Only.step (Device.recState_only ..) rfl ?_
    assumption
  clear_value d3
  refine Only.ite ?_ ?_
  · refine Only.step (Device.raise_only ..) rfl ?_
    assumption
  · assumption
theorem Device.recArmAfresh_only (d : Device) : Only [.posts, .recd] d (Device.recArmAfresh d) := by
  unfold Device.recArmAfresh
  extract_lets +onlyGivenNames f1
  extract_lets +onlyGivenNames place2
  refine Only.step (Device.recArm_only ..) rfl ?_
  refine Device.setRec_set (.inr fun _ => rfl) (.inl rfl) ?_
  exact Only.refl
theorem Device.recAbort_only (d : Device) : Only [.soffit, .recd] d (Device.recAbort d) := by
  unfold Device.recAbort
  split
  · exact Only.refl
  · split
    rename_i q1
    refine Only.cut _ (Only.of_snd q1 ?_) fun hx2 => ?_
    · refine Only.step (Device.writeHeader_only ..) rfl ?_
      exact Only.refl
    refine Only.step (Device.raise_only ..) rfl ?_
    refine Device.setRec_set (.inl rfl) (.inl rfl) ?_
    assumption
theorem Device.recStop_only (d : Device) (st : Nat) : Only [.posts, .soffit, .recd] d (Device.recStop d st) := by
  unfold Device.recStop
  extract_lets +onlyGivenNames d1
  refine Only.cut d1 ?_ fun hd1 => ?_
  · subst d1
    refine Device.setRec_set (.inl rfl) (.inl rfl) ?_
    refine Only.step (Device.recAbort_only ..) rfl ?_
    exact Only.refl
  clear_value d1
  refine Only.step (Device.recState_only ..) rfl ?_
  assumption
theorem Device.recComplete_only (d : Device) : Only [.posts, .soffit, .recd] d (Device.recComplete d) := by
  unfold Device.recComplete
  split
  · exact Only.refl
  · refine Only.ite ?_ ?_
    · exact Only.refl
    · extract_lets +onlyGivenNames some_1
      split
      rename_i q2
      refine Only.cut _ (Only.of_snd q2 ?_) fun hx3 => ?_
      · refine Only.step (Device.writeHeader_only ..) rfl ?_
        exact Only.refl
      extract_lets +onlyGivenNames d4
      refine Only.cut d4 ?_ fun hd4 => ?_
      · subst d4
        refine Device.setRec_set (.inl rfl) (.inl rfl) ?_
        assumption
      clear_value d4
      extract_lets +onlyGivenNames d5
      refine Only.cut d5 ?_ fun hd5 => ?_
      · subst d5
        refine Only.step (Device.raise_only ..) rfl ?_
        assumption
      clear_value d5
      refine Only.ite ?_ ?_
      · refine Only.step (Device.recStop_only ..) rfl ?_
        assumption
      · refine Only.ite ?_ ?_
        · refine Only.step (Device.recArm_only ..) rfl ?_
          assumption
        · refine Only.step (Device.recStop_only ..) rfl ?_
          assumption
theorem Device.recOverwrite_only (d : Device) : Only [.soffit, .recd] d (Device.recOverwrite d) := by
  unfold Device.recOverwrite
  extract_lets +onlyGivenNames seg1
  extract_lets +onlyGivenNames gone2
  refine Only.foldl (fun x3 b4 hx3 => ?_) ?_
  · split
    rename_i q5
    refine Only.cut _ (Only.of_snd q5 ?_) fun hx6 => ?_
    · refine Only.step (Device.writeHeader_only ..) rfl ?_
      assumption
    refine Only.step (Device.raiseRated_only ..) rfl ?_
    refine Device.setRec_set (.inl rfl) (.inl rfl) ?_
    assumption
  · exact Only.refl
theorem Device.recWrite_only (d : Device) (f : RecFrame) : Only [.posts, .soffit, .recd] d (Device.recWrite d f) := by
  unfold Device.recWrite
  extract_lets +onlyGivenNames j1
  extract_lets +onlyGivenNames trigger2
  extract_lets +onlyGivenNames missing3
  extract_lets +onlyGivenNames d4
  refine Only.cut d4 ?_ fun hd4 => ?_
  · subst d4
    refine Device.setRec_set (.inl rfl) (.inl rfl) ?_
    refine Only.step (Device.soffitWrite_only ..) rfl ?_
    refine Only.step (Device.recOverwrite_only ..) rfl ?_
    exact Only.refl
  clear_value d4
  refine Only.step (Device.recComplete_only ..) rfl ?_
  refine Only.step (Device.pmcPulse_only ..) rfl ?_
  assumption
theorem execTriggerCondition_only (t : Tick) (s s' : State) (hq : s.Quiet) (h : execTriggerCondition t s = .next s') : Only [.posts, .soffit, .recd] (s.dev.ready t) s'.dev := by
  refine State.on_only hq h fun d => ?_
  extract_lets +onlyGivenNames d1
  refine Only.cut d1 ?_ fun hd1 => ?_
  · subst d1
    refine Only.step (Device.trigTimeouts_only ..) rfl ?_
    exact Only.refl
  clear_value d1
  split
  · assumption
  · refine Only.step (Device.register_only ..) rfl ?_
    refine Device.setRec_set (.inl rfl) (.inl rfl) ?_
    assumption
theorem execRecorderFrameWrite_only (t : Tick) (bad : Bool) (s s' : State) (hq : s.Quiet) (h : execRecorderFrameWrite t bad s = .next s') : Only [.traj, .brk, .seq, .modu, .prot, .safety, .posts, .conv, .soffit, .recd, .eh] (s.dev.ready t) s'.dev := by
  refine State.on_only hq h fun d => ?_
  split
  · refine Only.ite ?_ ?_
    · exact Only.refl
    · refine Only.ite ?_ ?_
      · refine Only.step (Device.errReport_only ..) rfl ?_
        exact Only.refl
      · refine Only.step (Device.recWrite_only ..) rfl ?_
        exact Only.refl
  · exact Only.refl
theorem execSoffitMemoryTestDone_only (t : Tick) (pass : Bool) (s s' : State) (hq : s.Quiet) (h : execSoffitMemoryTestDone t pass s = .next s') : Only [.traj, .brk, .seq, .modu, .prot, .safety, .posts, .conv, .recd, .eh] (s.dev.ready t) s'.dev := by
  refine State.on_only hq h fun d => ?_
  refine Only.ite ?_ ?_
  · exact Only.refl
  · refine Only.ite ?_ ?_
    · refine Only.step (Device.errReport_only ..) rfl ?_
      refine Only.step (Device.raise_only ..) rfl ?_
      exact Only.refl
    · extract_lets +onlyGivenNames d1
      refine Only.cut d1 ?_ fun hd1 => ?_
      · subst d1
        refine Device.setRec_set (.inr fun _ => rfl) (.inl rfl) ?_
        refine Only.step (Device.setConv_only ..) rfl ?_
        exact Only.refl
      clear_value d1
      refine Only.ite ?_ ?_
      · refine Only.step (Device.recArmAfresh_only ..) rfl ?_
        assumption
      · refine Only.step (Device.recState_only ..) rfl ?_
        assumption
theorem execCmdRecArm_only (t : Tick) (h : CmdHdr) (a : Args) (s s' : State) (hq : s.Quiet) (h : execCmdRecArm t h a s = .next s') : Only [.mail, .posts, .recd] (s.dev.ready t) s'.dev := by
  refine State.on_only hq h fun d => ?_
  refine Device.cmd_by rfl (fun x1 hx1 => ?_) ?_
  · split
    · refine Only.fst_mk ?_
      assumption
    · split
      · refine Only.fst_mk ?_
        assumption
      · extract_lets +onlyGivenNames d2
        refine Only.cut d2 ?_ fun hd2 => ?_
        · subst d2
          refine Only.step (Device.recArmAfresh_only ..) rfl ?_
          assumption
        clear_value d2
        refine Only.fst_mk ?_
        assumption
  exact Only.refl
theorem execCmdRecStop_only (t : Tick) (h : CmdHdr) (a : Args) (s s' : State) (hq : s.Quiet) (h : execCmdRecStop t h a s = .next s') : Only [.mail, .posts, .soffit, .recd] (s.dev.ready t) s'.dev := by
  refine State.on_only hq h fun d => ?_
  extract_lets +onlyGivenNames mode1
  refine Device.cmdIf_by rfl (fun x2 hx2 => ?_) ?_
  · extract_lets +onlyGivenNames num3
    split
    · refine Only.fst_mk ?_
      refine Only.ite ?_ ?_
      · refine Only.step (Device.recStop_only ..) rfl ?_
        assumption
      · assumption
    · refine Only.fst_mk ?_
      refine Only.ite ?_ ?_
      · refine Device.setRec_set (.inl rfl) (.inl rfl) ?_
        assumption
      · assumption
  exact Only.refl
theorem execCmdRecTrigger_only (t : Tick) (h : CmdHdr) (a : Args) (s s' : State) (hq : s.Quiet) (h : execCmdRecTrigger t h a s = .next s') : Only [.mail, .posts, .soffit, .recd] (s.dev.ready t) s'.dev := by
  refine State.on_only hq h fun d => ?_
  refine Device.cmd_by rfl (fun x1 hx1 => ?_) ?_
  · extract_lets +onlyGivenNames armed2
    extract_lets +onlyGivenNames num3
    extract_lets +onlyGivenNames d4
    refine Only.cut d4 ?_ fun hd4 => ?_
    · subst d4
      refine Device.setRec_set (.inl rfl) (.inl rfl) ?_
      assumption
    clear_value d4
    extract_lets +onlyGivenNames d5
    refine Only.cut d5 ?_ fun hd5 => ?_
    · subst d5
      refine Only.step (Device.register_only ..) rfl ?_
      assumption
    clear_value d5
    refine Only.fst_mk ?_
    assumption
  exact Only.refl
theorem execCmdRecMaskStart_only (t : Tick) (h : CmdHdr) (a : Args) (s s' : State) (hq : s.Quiet) (h : execCmdRecMaskStart t h a s = .next s') : Only [.mail, .posts, .recd] (s.dev.ready t) s'.dev := by
  refine State.on_only hq h fun d => ?_
  extract_lets +onlyGivenNames m1
  refine Device.cmdIf_by rfl (fun x2 hx2 => ?_) ?_
  · split
    · refine Only.fst_mk ?_
      assumption
    · extract_lets +onlyGivenNames one3
      refine Only.fst_mk ?_
      refine Device.setRec_set (.inr fun _ => rfl) (.inl rfl) ?_
      assumption
  exact Only.refl
theorem execBar2Readout_only (t : Tick) (write : Bool) (offset : BitVec 30) (len : Nat) (ce : Nat) (ue : Nat) (s s' : State) (hq : s.Quiet) (h : execBar2Readout t write offset len ce ue s = .next s') : Only [.traj, .brk, .seq, .modu, .prot, .safety, .posts, .regs, .conv, .recd, .eh] (s.dev.ready t) s'.dev := by
  refine State.on_only hq h fun d => ?_
  refine Only.ite ?_ ?_
  · refine Only.step (Device.hostErr_only ..) rfl ?_
    exact Only.refl
  · extract_lets +onlyGivenNames bytes1
    extract_lets +onlyGivenNames d2
    refine Only.cut d2 ?_ fun hd2 => ?_
    · subst d2
      refine Device.setHost_set (.inr fun _ => rfl) (.inr fun _ => rfl) (.inl rfl) (.inl rfl) ?_
      exact Only.refl
    clear_value d2
    extract_lets +onlyGivenNames d3
    refine Only.cut d3 ?_ fun hd3 => ?_
    · subst d3
      refine Only.step (Device.pmcPulse_only ..) rfl ?_
      assumption
    clear_value d3
    extract_lets +onlyGivenNames d4
    refine Only.cut d4 ?_ fun hd4 => ?_
    · subst d4
      refine Device.setRec_set (.inr fun _ => rfl) (.inl rfl) ?_
      assumption
    clear_value d4
    extract_lets +onlyGivenNames d5
    refine Only.cut d5 ?_ fun hd5 => ?_
    · subst d5
      refine Only.foldl (fun x6 b7 hx6 => ?_) ?_
      · refine Only.step (Device.errReport_only ..) rfl ?_
        assumption
      · assumption
    clear_value d5
    refine Only.foldl (fun x8 b9 hx8 => ?_) ?_
    · refine Only.step (Device.errReport_only ..) rfl ?_
      assumption
    · assumption

/-! ## Converter -/

theorem Device.levelUpdate_only (d : Device) : Only [.conv] d (Device.levelUpdate d) := by
  unfold Device.levelUpdate
  refine Only.ite ?_ ?_
  · exact Only.refl
  · split
    extract_lets +onlyGivenNames old1
    refine Only.ite ?_ ?_
    · exact Only.refl
    · refine Only.step (Device.raise_only ..) rfl ?_
      refine Only.step (Device.setConv_only ..) rfl ?_
      exact Only.refl
theorem Device.chargeFail_only (d : Device) (cause : Nat) : Only [.conv] d (Device.chargeFail d cause) := by
  unfold Device.chargeFail
  refine Only.ite ?_ ?_
  · exact Only.refl
  · extract_lets +onlyGivenNames ph1
    refine Only.step (Device.raise_only ..) rfl ?_
    refine Only.step (Device.setConv_only ..) rfl ?_
    exact Only.refl
theorem Device.newForce_only (d : Device) (old : PSet) : Only [.meas, .traj, .brk, .seq, .modu, .prot, .conv] d (Device.newForce d old) := by
  unfold Device.newForce
  extract_lets +onlyGivenNames new1
  refine Only.ite ?_ ?_
  · exact Only.refl
  · extract_lets +onlyGivenNames d2
    refine Only.cut d2 ?_ fun hd2 => ?_
    · subst d2
      refine Only.step (Device.trigRestart_only ..) rfl ?_
      exact Only.refl
    clear_value d2
    extract_lets +onlyGivenNames shape3
    extract_lets +onlyGivenNames d4
    refine Only.cut d4 ?_ fun hd4 => ?_
    · subst d4
      refine Only.foldl (fun x5 b6 hx5 => ?_) ?_
      · refine Only.ite ?_ ?_
        · refine Only.step (Device.setStrm_only ..) rfl ?_
          assumption
        · assumption
      · assumption
    clear_value d4
    extract_lets +onlyGivenNames d7
    refine Only.cut d7 ?_ fun hd7 => ?_
    · subst d7
      refine Only.foldl (fun x8 b9 hx8 => ?_) ?_
      · refine Only.ite ?_ ?_
        · assumption
        · refine Only.foldl (fun x10 b11 hx10 => ?_) ?_
          · refine Only.step (Device.evalCmp_only ..) rfl ?_
            assumption
          · refine Only.step (Device.setGrp_only ..) rfl ?_
            assumption
      · assumption
    clear_value d7
    extract_lets +onlyGivenNames thr12
    refine Only.foldl (fun x13 b14 hx13 => ?_) ?_
    · refine Only.ite ?_ ?_
      · assumption
      · refine Only.step (Device.setCmp_only ..) rfl ?_
        assumption
    · assumption
theorem Device.applyState_only (d : Device) : Only [.meas, .traj, .brk, .seq, .modu, .prot, .par, .posts, .conv, .net, .soffit, .recd] d (Device.applyState d) := by
  unfold Device.applyState
  extract_lets +onlyGivenNames tc1
  extract_lets +onlyGivenNames old2
  extract_lets +onlyGivenNames d3
  refine Only.cut d3 ?_ fun hd3 => ?_
  · subst d3
    refine Only.step (Device.newForce_only ..) rfl ?_
    refine Only.step (Device.applyWaiting_only ..) rfl ?_
    exact Only.refl
  clear_value d3
  extract_lets +onlyGivenNames d4
  refine Only.cut d4 ?_ fun hd4 => ?_
  · subst d4
    refine Only.ite ?_ ?_
    · refine Only.step (Device.portsDown_only ..) rfl ?_
      assumption
    · assumption
  clear_value d4
  refine Only.ite ?_ ?_
  · refine Only.step (Device.recStop_only ..) rfl ?_
    assumption
  · assumption
theorem Device.lawOnState_only (d : Device) (new : Nat) (no : Nat) : Only [.law, .ride, .traj, .seq, .modu, .par] d (Device.lawOnState d new no) := by
  unfold Device.lawOnState
  extract_lets +onlyGivenNames zero1
  extract_lets +onlyGivenNames fromZero2
  refine Only.ite ?_ ?_
  · refine Only.step (Device.setSeq_only ..) rfl ?_
    refine Only.step (Device.lawEntry_only ..) rfl ?_
    exact Only.refl
  · refine Only.ite ?_ ?_
    · refine Only.step (Device.landEntry_only ..) rfl ?_
      exact Only.refl
    · refine Only.ite ?_ ?_
      · extract_lets +onlyGivenNames d3
        refine Only.cut d3 ?_ fun hd3 => ?_
        · subst d3
          refine Only.ite ?_ ?_
          · exact Only.refl
          · refine Only.step (Device.lawEntry_only ..) rfl ?_
            exact Only.refl
        clear_value d3
        refine Only.ite ?_ ?_
        · unfold fromZero2
          refine Only.step (Device.setLaw_only ..) rfl ?_
          assumption
        · assumption
      · refine Only.step (Device.dropMoves_only ..) rfl ?_
        refine Only.ite ?_ ?_
        · refine Only.step (Device.lawStop_only ..) rfl ?_
          exact Only.refl
        · exact Only.refl
theorem Device.seqOnState_only (d : Device) (new : Nat) : Only [.traj, .brk, .seq] d (Device.seqOnState d new) := by
  unfold Device.seqOnState
  refine Only.ite ?_ ?_
  · exact Only.refl
  · refine Only.step (Device.setSeq_only ..) rfl ?_
    refine Only.step (Device.setTraj_only ..) rfl ?_
    refine Only.step (Device.withdrawClose_only ..) rfl ?_
    exact Only.refl
theorem Device.transition_only (d : Device) (new : Nat) (no : Nat) : Only [.stations, .meas, .law, .ride, .traj, .brk, .seq, .modu, .prot, .par, .posts, .conv, .clk, .net, .soffit, .recd] d (Device.transition d new no) := by
  unfold Device.transition
  extract_lets +onlyGivenNames old1
  extract_lets +onlyGivenNames d2
  refine Only.cut d2 ?_ fun hd2 => ?_
  · subst d2
    refine Only.step (Device.applyState_only ..) rfl ?_
    exact Only.refl
  clear_value d2
  extract_lets +onlyGivenNames d3
  refine Only.cut d3 ?_ fun hd3 => ?_
  · subst d3
    refine Only.step (Device.setConv_only ..) rfl ?_
    refine Only.step (Device.seqOnState_only ..) rfl ?_
    assumption
  clear_value d3
  extract_lets +onlyGivenNames d4
  refine Only.cut d4 ?_ fun hd4 => ?_
  · subst d4
    refine Only.step (Device.lawOnState_only ..) rfl ?_
    assumption
  clear_value d4
  extract_lets +onlyGivenNames d5
  refine Only.cut d5 ?_ fun hd5 => ?_
  · subst d5
    refine Only.ite ?_ ?_
    · refine Only.step (Device.recEvent_only ..) rfl ?_
      assumption
    · assumption
  clear_value d5
  refine Only.step (Device.raise_only ..) rfl ?_
  refine Only.step (Device.marginOnState_only ..) rfl ?_
  assumption
theorem Device.startEnum_only (d : Device) : Only [.link, .conv] d (Device.startEnum d) := by
  unfold Device.startEnum
  refine Only.ite ?_ ?_
  · exact Only.refl
  · extract_lets +onlyGivenNames d1
    refine Only.cut d1 ?_ fun hd1 => ?_
    · subst d1
      refine Only.step (Device.setConv_only ..) rfl ?_
      exact Only.refl
    clear_value d1
    refine Only.step (Device.setLink_only ..) rfl ?_
    assumption
theorem Device.startCharge_only (d : Device) : Only [.conv] d (Device.startCharge d) := by
  unfold Device.startCharge
  refine Only.ite ?_ ?_
  · exact Only.refl
  · refine Only.step (Device.setConv_only ..) rfl ?_
    exact Only.refl
theorem Device.actRequest_only (d : Device) (h : CmdHdr) (target : Nat) : Only [.stations, .meas, .law, .ride, .traj, .brk, .seq, .modu, .link, .prot, .par, .mail, .posts, .conv, .clk, .net, .soffit, .recd] d (Device.actRequest d h target) := by
  unfold Device.actRequest
  split
  · refine Only.step (Device.complete_only ..) rfl ?_
    exact Only.refl
  · exact Only.refl
  · split
    · refine Only.step (Device.complete_only ..) rfl ?_
      refine Only.step (Device.setConv_only ..) rfl ?_
      exact Only.refl
    · refine Only.step (Device.complete_only ..) rfl ?_
      refine Only.step (Device.startEnum_only ..) rfl ?_
      exact Only.refl
    · refine Only.step (Device.complete_only ..) rfl ?_
      refine Only.step (Device.startCharge_only ..) rfl ?_
      exact Only.refl
    · refine Only.ite ?_ ?_
      · refine Only.step (Device.setConv_only ..) rfl ?_
        exact Only.refl
      · refine Only.step (Device.complete_only ..) rfl ?_
        refine Only.step (Device.transition_only ..) rfl ?_
        exact Only.refl
theorem Device.boundarySquall_only (d : Device) : Only [.stations, .meas, .law, .ride, .traj, .brk, .seq, .modu, .prot, .par, .posts, .conv, .clk, .net, .soffit, .recd] d (Device.boundarySquall d).1 := by
  unfold Device.boundarySquall
  extract_lets +onlyGivenNames sq1
  extract_lets +onlyGivenNames d2
  refine Only.cut d2 ?_ fun hd2 => ?_
  · subst d2
    refine Only.step (Device.setConv_only ..) rfl ?_
    exact Only.refl
  clear_value d2
  split
  · refine Only.fst_mk ?_
    assumption
  · extract_lets +onlyGivenNames s3
    split
    · refine Only.fst_mk ?_
      refine Only.step (Device.transition_only ..) rfl ?_
      assumption
    · refine Only.fst_mk ?_
      refine Only.step (Device.chargeFail_only ..) rfl ?_
      assumption
theorem Device.boundarySeq_only (d : Device) : Only [.stations, .meas, .law, .ride, .traj, .brk, .seq, .modu, .prot, .par, .posts, .conv, .clk, .net, .soffit, .recd] d (Device.boundarySeq d).1 := by
  unfold Device.boundarySeq
  split
  · refine Only.fst_mk ?_
    exact Only.refl
  · split
    · refine Only.fst_mk ?_
      exact Only.refl
    · extract_lets +onlyGivenNames d1
      refine Only.cut d1 ?_ fun hd1 => ?_
      · subst d1
        refine Only.step (Device.setConv_only ..) rfl ?_
        exact Only.refl
      clear_value d1
      split
      · refine Only.fst_mk ?_
        assumption
      · split
        · refine Only.fst_mk ?_
          assumption
        · refine Only.fst_mk ?_
          refine Only.step (Device.transition_only ..) rfl ?_
          assumption
theorem Device.boundaryHost_only (d : Device) (moved : Bool) : Only [.stations, .meas, .law, .ride, .traj, .brk, .seq, .modu, .link, .prot, .par, .mail, .posts, .conv, .clk, .net, .soffit, .recd] d (Device.boundaryHost d moved) := by
  unfold Device.boundaryHost
  extract_lets +onlyGivenNames reqs1
  extract_lets +onlyGivenNames d2
  refine Only.cut d2 ?_ fun hd2 => ?_
  · subst d2
    refine Only.step (Device.setConv_only ..) rfl ?_
    exact Only.refl
  clear_value d2
  refine Only.foldl_fst (fun x3 b4 hx3 => ?_) ?_
  · split
    split
    · refine Only.fst_mk ?_
      refine Only.step (Device.complete_only ..) rfl ?_
      assumption
    · extract_lets +onlyGivenNames n5
      extract_lets +onlyGivenNames d6
      refine Only.cut d6 ?_ fun hd6 => ?_
      · subst d6
        refine Only.step (Device.actRequest_only ..) rfl ?_
        assumption
      clear_value d6
      refine Only.fst_mk ?_
      assumption
  · refine Only.fst_mk ?_
    assumption
theorem Device.boundary_only (d : Device) : Only [.stations, .meas, .law, .ride, .traj, .brk, .seq, .modu, .link, .prot, .par, .mail, .posts, .conv, .clk, .net, .soffit, .recd] d (Device.boundary d) := by
  unfold Device.boundary
  extract_lets +onlyGivenNames d1
  refine Only.cut d1 ?_ fun hd1 => ?_
  · subst d1
    refine Only.ite ?_ ?_
    · refine Only.step (Device.chargeFail_only ..) rfl ?_
      exact Only.refl
    · exact Only.refl
  clear_value d1
  split
  rename_i q2
  refine Only.cut _ (Only.of_fst q2 ?_) fun hx3 => ?_
  · refine Only.step (Device.boundarySquall_only ..) rfl ?_
    assumption
  extract_lets +onlyGivenNames was4
  extract_lets +onlyGivenNames d5
  refine Only.cut d5 ?_ fun hd5 => ?_
  · subst d5
    refine Only.step (Device.levelUpdate_only ..) rfl ?_
    assumption
  clear_value d5
  extract_lets +onlyGivenNames entered6
  extract_lets +onlyGivenNames moved7
  extract_lets +onlyGivenNames mb8
  extract_lets +onlyGivenNames done99
  extract_lets +onlyGivenNames d10
  refine Only.cut d10 ?_ fun hd10 => ?_
  · subst d10
    refine Only.step (Device.setConv_only ..) rfl ?_
    assumption
  clear_value d10
  split
  rename_i q11
  refine Only.cut _ (Only.of_fst q11 ?_) fun hx12 => ?_
  · split
    · refine Only.fst_mk ?_
      assumption
    · refine Only.step (Device.boundarySeq_only ..) rfl ?_
      assumption
  extract_lets +onlyGivenNames d13
  refine Only.cut d13 ?_ fun hd13 => ?_
  · subst d13
    refine Only.step (Device.boundaryHost_only ..) rfl ?_
    assumption
  clear_value d13
  extract_lets +onlyGivenNames lost14
  refine Only.ite ?_ ?_
  · refine Only.step (Device.setConv_only ..) rfl ?_
    assumption
  · assumption

/-! ## Protection -/

theorem Device.refreshTin_only (d : Device) (i : Nat) : Only [.traj, .brk, .seq, .modu, .prot, .conv] d (Device.refreshTin d i) := by
  unfold Device.refreshTin
  refine Only.step (Device.setInput_only ..) rfl ?_
  exact Only.refl
theorem Device.tinLevel_only (d : Device) (i : Nat) (level : Bool) : Only [.traj, .brk, .seq, .modu, .prot, .conv] d (Device.tinLevel d i level) := by
  unfold Device.tinLevel
  refine Only.ite ?_ ?_
  · exact Only.refl
  · extract_lets +onlyGivenNames n1
    extract_lets +onlyGivenNames trans2
    extract_lets +onlyGivenNames d3
    refine Only.cut d3 ?_ fun hd3 => ?_
    · subst d3
      refine Device.setProt_set (.inl rfl) (.inr fun _ => rfl) ?_
      exact Only.refl
    clear_value d3
    extract_lets +onlyGivenNames d4
    refine Only.cut d4 ?_ fun hd4 => ?_
    · subst d4
      refine Only.ite ?_ ?_
      · refine Only.step (Device.raise_only ..) rfl ?_
        refine Device.setProt_set (.inl rfl) (.inr fun _ => rfl) ?_
        assumption
      · assumption
    clear_value d4
    refine Only.step (Device.refreshTin_only ..) rfl ?_
    assumption
theorem Device.buildWindows_only (d : Device) : Only [.prot] d (Device.buildWindows d) := by
  unfold Device.buildWindows
  extract_lets +onlyGivenNames times1
  extract_lets +onlyGivenNames len2
  extract_lets +onlyGivenNames longest3
  extract_lets +onlyGivenNames build4
  refine Device.setProt_set (.inl rfl) (.inr fun _ => rfl) ?_
  exact Only.refl
theorem Device.clearRequest_only (d : Device) (i : Nat) (auto : Bool) : Only [.prot] d (Device.clearRequest d i auto) := by
  unfold Device.clearRequest
  extract_lets +onlyGivenNames x1
  refine Only.ite ?_ ?_
  · exact Only.refl
  · refine Only.ite ?_ ?_
    · refine Only.step (Device.rejectClear_only ..) rfl ?_
      exact Only.refl
    · refine Only.step (Device.setSrc_only ..) rfl ?_
      exact Only.refl
theorem Device.rejectAtEdge_only (d : Device) (i : Nat) : Only [.traj, .brk, .seq, .modu, .prot, .conv] d (Device.rejectAtEdge d i) := by
  unfold Device.rejectAtEdge
  extract_lets +onlyGivenNames d1
  refine Only.cut d1 ?_ fun hd1 => ?_
  · subst d1
    refine Only.step (Device.rejectClear_only ..) rfl ?_
    exact Only.refl
  clear_value d1
  extract_lets +onlyGivenNames d2
  refine Only.cut d2 ?_ fun hd2 => ?_
  · subst d2
    refine Only.step (Device.recordTrip_only ..) rfl ?_
    assumption
  clear_value d2
  refine Only.step (Device.squallTrigger_only ..) rfl ?_
  refine Only.step (Device.setSrc_only ..) rfl ?_
  assumption
theorem Device.decideLatches_only (d : Device) : Only [.traj, .brk, .seq, .modu, .prot, .conv] d (Device.decideLatches d) := by
  unfold Device.decideLatches
  extract_lets +onlyGivenNames pend1
  extract_lets +onlyGivenNames go2
  extract_lets +onlyGivenNames bad3
  extract_lets +onlyGivenNames auto4
  extract_lets +onlyGivenNames host5
  extract_lets +onlyGivenNames d6
  refine Only.cut d6 ?_ fun hd6 => ?_
  · subst d6
    refine Only.foldl (fun x7 b8 hx7 => ?_) ?_
    · refine Only.step (Device.raise_only ..) rfl ?_
      refine Only.step (Device.setSrc_only ..) rfl ?_
      assumption
    · exact Only.refl
  clear_value d6
  extract_lets +onlyGivenNames d9
  refine Only.cut d9 ?_ fun hd9 => ?_
  · subst d9
    refine Device.setProt_set (.inl rfl) (.inr fun _ => rfl) ?_
    assumption
  clear_value d9
  refine Only.foldl (fun x10 b11 hx10 => ?_) ?_
  · refine Only.step (Device.rejectAtEdge_only ..) rfl ?_
    assumption
  · assumption
theorem execTripInputChange_only (t : Tick) (i : Fin 16) (level : Bool) (held : Nat) (s s' : State) (hq : s.Quiet) (h : execTripInputChange t i level held s = .next s') : Only [.traj, .brk, .seq, .modu, .prot, .conv] (s.dev.ready t) s'.dev := by
  refine State.on_only hq h fun d => ?_
  refine Only.ite ?_ ?_
  · exact Only.refl
  · refine Only.step (Device.tinLevel_only ..) rfl ?_
    exact Only.refl
theorem execBlankingWindowEnd_only (t : Tick) (j : Fin 12) (s s' : State) (hq : s.Quiet) (h : execBlankingWindowEnd t j s = .next s') : Only [.traj, .brk, .seq, .modu, .prot, .conv] (s.dev.ready t) s'.dev := by
  refine State.on_only hq h fun d => ?_
  extract_lets +onlyGivenNames b1
  refine Only.ite ?_ ?_
  · exact Only.refl
  · extract_lets +onlyGivenNames out2
    extract_lets +onlyGivenNames d3
    refine Only.cut d3 ?_ fun hd3 => ?_
    · subst d3
      refine Only.ite ?_ ?_
      · refine Only.step (Device.countWindow_only ..) rfl ?_
        exact Only.refl
      · exact Only.refl
    clear_value d3
    extract_lets +onlyGivenNames d4
    refine Only.cut d4 ?_ fun hd4 => ?_
    · subst d4
      refine Device.setProt_set (.inl rfl) (.inr fun _ => rfl) ?_
      assumption
    clear_value d4
    refine Only.ite ?_ ?_
    · refine Only.step (Device.inputActive_only ..) rfl ?_
      refine Only.step (Device.inputInactive_only ..) rfl ?_
      assumption
    · assumption
theorem execIncomingSquall_only (t : Tick) (ring : Fin 12) (s s' : State) (hq : s.Quiet) (h : execIncomingSquall t ring s = .next s') : Only [.traj, .brk, .seq, .modu, .link, .prot, .conv] (s.dev.ready t) s'.dev := by
  refine State.on_only hq h fun d => ?_
  refine Only.ite ?_ ?_
  · exact Only.refl
  · extract_lets +onlyGivenNames d1
    refine Only.cut d1 ?_ fun hd1 => ?_
    · subst d1
      refine Only.step (Device.hwSet_only ..) rfl ?_
      refine Only.step (Device.setLink_only ..) rfl ?_
      exact Only.refl
    clear_value d1
    extract_lets +onlyGivenNames d2
    refine Only.cut d2 ?_ fun hd2 => ?_
    · subst d2
      refine Only.step (Device.pmcPulse_only ..) rfl ?_
      assumption
    clear_value d2
    extract_lets +onlyGivenNames echo3
    extract_lets +onlyGivenNames x4
    extract_lets +onlyGivenNames d5
    refine Only.cut d5 ?_ fun hd5 => ?_
    · subst d5
      refine Only.ite ?_ ?_
      · refine Device.setProt_set (.inl rfl) (.inr fun _ => rfl) ?_
        assumption
      · assumption
    clear_value d5
    extract_lets +onlyGivenNames d6
    refine Only.cut d6 ?_ fun hd6 => ?_
    · subst d6
      refine Only.ite ?_ ?_
      · refine Device.setProt_set (.inl rfl) (.inr fun _ => rfl) ?_
        assumption
      · assumption
    clear_value d6
    refine Only.ite ?_ ?_
    · assumption
    · extract_lets +onlyGivenNames d7
      refine Only.cut d7 ?_ fun hd7 => ?_
      · subst d7
        refine Only.step (Device.inputActive_only ..) rfl ?_
        assumption
      clear_value d7
      refine Only.ite ?_ ?_
      · refine Only.step (Device.squallTrigger_only ..) rfl ?_
        assumption
      · assumption
theorem execSquallHoldEnd_only (t : Tick) (s s' : State) (hq : s.Quiet) (h : execSquallHoldEnd t s = .next s') : Only [.prot] (s.dev.ready t) s'.dev := by
  refine State.on_only hq h fun d => ?_
  refine Only.ite ?_ ?_
  · refine Only.step (Device.inputInactive_only ..) rfl ?_
    refine Device.setProt_set (.inl rfl) (.inr fun _ => rfl) ?_
    exact Only.refl
  · exact Only.refl
theorem execBurstEnd_only (t : Tick) (s s' : State) (hq : s.Quiet) (h : execBurstEnd t s = .next s') : Only [.prot] (s.dev.ready t) s'.dev := by
  refine State.on_only hq h fun d => ?_
  refine Only.ite ?_ ?_
  · refine Device.setProt_set (.inl rfl) (.inr fun _ => rfl) ?_
    exact Only.refl
  · exact Only.refl
theorem execEchoWindowEnd_only (t : Tick) (s s' : State) (hq : s.Quiet) (h : execEchoWindowEnd t s = .next s') : Only [.prot] (s.dev.ready t) s'.dev := by
  refine State.on_only hq h fun d => ?_
  refine Only.ite ?_ ?_
  · refine Device.setProt_set (.inl rfl) (.inr fun _ => rfl) ?_
    exact Only.refl
  · exact Only.refl
theorem execMultiWinElapsed_only (t : Tick) (s s' : State) (hq : s.Quiet) (h : execMultiWinElapsed t s = .next s') : Only [.prot] (s.dev.ready t) s'.dev := by
  refine State.on_only hq h fun d => ?_
  extract_lets +onlyGivenNames r1
  refine Only.ite ?_ ?_
  · exact Only.refl
  · extract_lets +onlyGivenNames d2
    refine Only.cut d2 ?_ fun hd2 => ?_
    · subst d2
      refine Device.setProt_set (.inl rfl) (.inr fun _ => rfl) ?_
      exact Only.refl
    clear_value d2
    extract_lets +onlyGivenNames d3
    refine Only.cut d3 ?_ fun hd3 => ?_
    · subst d3
      refine Only.ite ?_ ?_
      · refine Only.step (Device.raise_only ..) rfl ?_
        refine Device.setProt_set (.inl rfl) (.inr fun _ => rfl) ?_
        assumption
      · assumption
    clear_value d3
    extract_lets +onlyGivenNames flags4
    refine Only.step (Device.raise_only ..) rfl ?_
    assumption
theorem execAutoClearRequest_only (t : Tick) (i : Fin 48) (s s' : State) (hq : s.Quiet) (h : execAutoClearRequest t i s = .next s') : Only [.prot] (s.dev.ready t) s'.dev := by
  refine State.on_only hq h fun d => ?_
  extract_lets +onlyGivenNames x1
  refine Only.ite ?_ ?_
  · exact Only.refl
  · refine Only.ite ?_ ?_
    · exact Only.refl
    · refine Only.step (Device.clearRequest_only ..) rfl ?_
      exact Only.refl
theorem execTripRemind_only (t : Tick) (i : Fin 48) (s s' : State) (hq : s.Quiet) (h : execTripRemind t i s = .next s') : Only [.prot] (s.dev.ready t) s'.dev := by
  refine State.on_only hq h fun d => ?_
  extract_lets +onlyGivenNames x1
  extract_lets +onlyGivenNames n2
  refine Only.ite ?_ ?_
  · exact Only.refl
  · refine Only.step (Device.reminder_only ..) rfl ?_
    refine Only.step (Device.setSrc_only ..) rfl ?_
    exact Only.refl
theorem execCentreModeRecoveryEnd_only (t : Tick) (s s' : State) (hq : s.Quiet) (h : execCentreModeRecoveryEnd t s = .next s') : Only [.prot, .conv] (s.dev.ready t) s'.dev := by
  refine State.on_only hq h fun d => ?_
  split
  · exact Only.refl
  · refine Only.ite ?_ ?_
    · exact Only.refl
    · refine Only.step (Device.setConv_only ..) rfl ?_
      refine Device.setProt_set (.inl rfl) (.inr fun _ => rfl) ?_
      exact Only.refl
theorem execEarthCurrentTrip_only (t : Tick) (s s' : State) (hq : s.Quiet) (h : execEarthCurrentTrip t s = .next s') : Only [.traj, .brk, .seq, .modu, .prot, .conv] (s.dev.ready t) s'.dev := by
  refine State.on_only hq h fun d => ?_
  refine Only.ite ?_ ?_
  · refine Only.step (Device.inputActive_only ..) rfl ?_
    exact Only.refl
  · exact Only.refl
theorem execStarPointTrip_only (t : Tick) (s s' : State) (hq : s.Quiet) (h : execStarPointTrip t s = .next s') : Only [.traj, .brk, .seq, .modu, .prot, .conv] (s.dev.ready t) s'.dev := by
  refine State.on_only hq h fun d => ?_
  refine Only.ite ?_ ?_
  · refine Only.step (Device.inputActive_only ..) rfl ?_
    exact Only.refl
  · exact Only.refl

end Sys2Proof.Machine
end

