-- ==== Sys2Proof/Laws/FrameCells.lean ====
section
/-! SUPPORT. The parts of the device that each operation may change (`Only`): packs, metering, cell links; then those that each command may change. -/

namespace Sys2Proof.Machine

/-! ## Packs -/

theorem Device.setPack_only (d : Device) (c : Nat) (f : Pack → Pack) : Only [.packs] d (Device.setPack d c f) := by
  unfold Device.setPack
  refine Only.step (Device.setPacks_only ..) rfl ?_
  exact Only.refl
theorem Device.setMeter_only (d : Device) (f : Meter → Meter) : Only [.meter] d (Device.setMeter d f) := by
  unfold Device.setMeter
  refine Only.set_meter rfl ?_
  exact Only.refl
theorem Device.ocvInverse_only (d : Device) (tbl : Nat) (v : Rat) (temp : Rat) : Only [] d (Device.ocvInverse d tbl v temp).2 := by
  unfold Device.ocvInverse
  extract_lets +onlyGivenNames g1
  split
  · refine Only.snd_mk ?_
    exact Only.refl
  · split
    · refine Only.snd_mk ?_
      exact Only.refl
    · extract_lets +onlyGivenNames lo2
      split
      · split
        rename_i q3
        refine Only.cut _ (Only.of_snd q3 ?_) fun hx4 => ?_
        · refine Only.step (Device.draw_only ..) rfl ?_
          exact Only.refl
        refine Only.snd_mk ?_
        assumption
      · refine Only.snd_mk ?_
        exact Only.refl
theorem Device.setCauses_only (d : Device) (c : Nat) (mask : Nat) : Only [.packs] d (Device.setCauses d c mask) := by
  unfold Device.setCauses
  refine Only.ite ?_ ?_
  · exact Only.refl
  · refine Only.step (Device.raiseRated_only ..) rfl ?_
    refine Only.step (Device.setPack_only ..) rfl ?_
    exact Only.refl
theorem Device.refreshCauses_only (d : Device) (c : Nat) (add : Nat) (remove : Nat) : Only [.packs] d (Device.refreshCauses d c add remove) := by
  unfold Device.refreshCauses
  extract_lets +onlyGivenNames m1
  refine Only.step (Device.setCauses_only ..) rfl ?_
  exact Only.refl
theorem Device.restPack_only (d : Device) (c : Nat) : Only [.modu] d (Device.restPack d c) := by
  unfold Device.restPack
  refine Only.ite ?_ ?_
  · refine Only.step (Device.setCell_only ..) rfl ?_
    exact Only.refl
  · exact Only.refl
theorem Device.xCheck_only (d : Device) (c : Nat) (q : Nat) (dev : Rat) (bms : Rat) (tol : Rat) : Only [.packs] d (Device.xCheck d c q dev bms tol) := by
  unfold Device.xCheck
  extract_lets +onlyGivenNames run1
  extract_lets +onlyGivenNames mine2
  extract_lets +onlyGivenNames was3
  extract_lets +onlyGivenNames d4
  refine Only.cut d4 ?_ fun hd4 => ?_
  · subst d4
    refine Only.step (Device.setPack_only ..) rfl ?_
    exact Only.refl
  clear_value d4
  refine Only.ite ?_ ?_
  · assumption
  · extract_lets +onlyGivenNames d5
    refine Only.cut d5 ?_ fun hd5 => ?_
    · subst d5
      refine Only.step (Device.setPack_only ..) rfl ?_
      assumption
    clear_value d5
    split
    rename_i q6
    refine Only.cut _ (Only.of_snd q6 ?_) fun hx7 => ?_
    · refine Only.step (Device.quant_only ..) rfl ?_
      assumption
    split
    rename_i q8
    refine Only.cut _ (Only.of_snd q8 ?_) fun hx9 => ?_
    · refine Only.step (Device.quant_only ..) rfl ?_
      assumption
    extract_lets +onlyGivenNames d10
    refine Only.cut d10 ?_ fun hd10 => ?_
    · subst d10
      refine Only.step (Device.raise_only ..) rfl ?_
      assumption
    clear_value d10
    refine Only.ite ?_ ?_
    · refine Only.step (Device.refreshCauses_only ..) rfl ?_
      assumption
    · assumption
theorem Device.xCheckV_only (d : Device) (c : Nat) (bms : Rat) (stamp : Tick) : Only [.packs] d (Device.xCheckV d c bms stamp) := by
  unfold Device.xCheckV
  extract_lets +onlyGivenNames l1
  refine Only.ite ?_ ?_
  · exact Only.refl
  · extract_lets +onlyGivenNames v2
    refine Only.step (Device.xCheck_only ..) rfl ?_
    exact Only.refl
theorem Device.xCheckI_only (d : Device) (c : Nat) (sec : Nat) : Only [.packs] d (Device.xCheckI d c sec) := by
  unfold Device.xCheckI
  extract_lets +onlyGivenNames from_1
  extract_lets +onlyGivenNames l2
  refine Only.ite ?_ ?_
  · exact Only.refl
  · extract_lets +onlyGivenNames i3
    refine Only.step (Device.xCheck_only ..) rfl ?_
    exact Only.refl
theorem Device.xCheckRound_only (d : Device) (c : Nat) (soh : Bool) : Only [.packs] d (Device.xCheckRound d c soh) := by
  unfold Device.xCheckRound
  extract_lets +onlyGivenNames o1
  refine Only.ite ?_ ?_
  · exact Only.refl
  · extract_lets +onlyGivenNames d2
    refine Only.cut d2 ?_ fun hd2 => ?_
    · subst d2
      split
      · exact Only.refl
      · refine Only.step (Device.xCheck_only ..) rfl ?_
        exact Only.refl
    clear_value d2
    refine Only.ite ?_ ?_
    · assumption
    · split
      · assumption
      · refine Only.step (Device.xCheck_only ..) rfl ?_
        assumption
theorem Device.newTenancy_only (d : Device) (c : Nat) (ident : BitVec 64) : Only [.packs] d (Device.newTenancy d c ident) := by
  unfold Device.newTenancy
  extract_lets +onlyGivenNames d1
  refine Only.cut d1 ?_ fun hd1 => ?_
  · subst d1
    refine Only.step (Device.setPack_only ..) rfl ?_
    exact Only.refl
  clear_value d1
  refine Only.step (Device.raise_only ..) rfl ?_
  assumption
theorem Device.identReport_only (d : Device) (c : Nat) (ident : BitVec 64) : Only [.packs] d (Device.identReport d c ident) := by
  unfold Device.identReport
  extract_lets +onlyGivenNames d1
  refine Only.cut d1 ?_ fun hd1 => ?_
  · subst d1
    refine Only.step (Device.setPack_only ..) rfl ?_
    exact Only.refl
  clear_value d1
  refine Only.ite ?_ ?_
  · refine Only.step (Device.refreshCauses_only ..) rfl ?_
    assumption
  · refine Only.ite ?_ ?_
    · refine Only.ite ?_ ?_
      · assumption
      · refine Only.step (Device.newTenancy_only ..) rfl ?_
        assumption
    · refine Only.step (Device.raise_only ..) rfl ?_
      refine Only.step (Device.refreshCauses_only ..) rfl ?_
      assumption
theorem Device.identHalves_only (d : Device) (c : Nat) : Only [.packs] d (Device.identHalves d c) := by
  unfold Device.identHalves
  extract_lets +onlyGivenNames p1
  extract_lets +onlyGivenNames part2
  refine Only.ite ?_ ?_
  · exact Only.refl
  · split
    · refine Only.step (Device.identReport_only ..) rfl ?_
      refine Only.step (Device.setPack_only ..) rfl ?_
      exact Only.refl
    · exact Only.refl
theorem Device.tapRecord_only (d : Device) (c : Nat) (fr : TunRec) (stamp : Tick) (matched : Bool) (down : Bool) : Only [.packs, .posts] d (Device.tapRecord d c fr stamp matched down) := by
  unfold Device.tapRecord
  split
  · exact Only.refl
  · refine Only.ite ?_ ?_
    · exact Only.refl
    · extract_lets +onlyGivenNames j1
      extract_lets +onlyGivenNames id2
      extract_lets +onlyGivenNames bytes3
      extract_lets +onlyGivenNames d4
      extract_lets +onlyGivenNames d5
      refine Only.cut d5 ?_ fun hd5 => ?_
      · subst d5
        refine Only.step (Device.post_only ..) rfl ?_
        exact Only.refl
      clear_value d5
      refine Only.step (Device.msix_only ..) rfl ?_
      refine Only.step (Device.setPacks_only ..) rfl ?_
      assumption
theorem Device.profileMatch_only (d : Device) (c : Nat) (fr : TunRec) : Only [.packs] d (Device.profileMatch d c fr) := by
  unfold Device.profileMatch
  refine Only.ite ?_ ?_
  · exact Only.refl
  · extract_lets +onlyGivenNames l1
    split
    · exact Only.refl
    · refine Only.step (Device.setPack_only ..) rfl ?_
      exact Only.refl
theorem Device.takeField_only (d : Device) (c : Nat) (m : Mapping) (data : BitVec 64) (stamp : Tick) : Only [.packs] d (Device.takeField d c m data stamp) := by
  unfold Device.takeField
  extract_lets +onlyGivenNames v1
  extract_lets +onlyGivenNames raw2
  refine Only.step (Device.setPack_only ..) rfl ?_
  exact Only.refl
theorem Device.bmsFrame_only (d : Device) (c : Nat) (fr : TunRec) (stamp : Tick) : Only [.packs, .posts] d (Device.bmsFrame d c fr stamp) := by
  unfold Device.bmsFrame
  extract_lets +onlyGivenNames id1
  extract_lets +onlyGivenNames maps2
  extract_lets +onlyGivenNames d3
  refine Only.cut d3 ?_ fun hd3 => ?_
  · subst d3
    refine Only.step (Device.tapRecord_only ..) rfl ?_
    exact Only.refl
  clear_value d3
  extract_lets +onlyGivenNames d4
  refine Only.cut d4 ?_ fun hd4 => ?_
  · subst d4
    refine Only.step (Device.profileMatch_only ..) rfl ?_
    assumption
  clear_value d4
  refine Only.ite ?_ ?_
  · refine Only.step (Device.setPacks_only ..) rfl ?_
    assumption
  · extract_lets +onlyGivenNames d5
    refine Only.cut d5 ?_ fun hd5 => ?_
    · subst d5
      refine Only.foldl (fun x6 b7 hx6 => ?_) ?_
      · refine Only.step (Device.takeField_only ..) rfl ?_
        assumption
      · assumption
    clear_value d5
    extract_lets +onlyGivenNames d8
    refine Only.cut d8 ?_ fun hd8 => ?_
    · subst d8
      refine Only.ite ?_ ?_
      · refine Only.step (Device.identHalves_only ..) rfl ?_
        assumption
      · assumption
    clear_value d8
    extract_lets +onlyGivenNames d9
    refine Only.cut d9 ?_ fun hd9 => ?_
    · subst d9
      split
      · assumption
      · refine Only.step (Device.xCheckV_only ..) rfl ?_
        assumption
    clear_value d9
    refine Only.step (Device.refreshCauses_only ..) rfl ?_
    assumption
theorem Device.queueDown_only (d : Device) (c : Nat) (f : DownFrame) : Only [.link] d (Device.queueDown d c f) := by
  unfold Device.queueDown
  extract_lets +onlyGivenNames q1
  refine Only.ite ?_ ?_
  · refine Only.step (Device.setNode_only ..) rfl ?_
    exact Only.refl
  · extract_lets +onlyGivenNames i2
    refine Only.ite ?_ ?_
    · refine Only.step (Device.setNode_only ..) rfl ?_
      exact Only.refl
    · exact Only.refl
theorem Device.applyProfiles_only (d : Device) : Only [.packs] d (Device.applyProfiles d) := by
  unfold Device.applyProfiles
  refine Only.foldl (fun x1 b2 hx1 => ?_) ?_
  · extract_lets +onlyGivenNames new3
    extract_lets +onlyGivenNames d4
    refine Only.cut d4 ?_ fun hd4 => ?_
    · subst d4
      refine Only.ite ?_ ?_
      · assumption
      · refine Only.step (Device.setPack_only ..) rfl ?_
        assumption
    clear_value d4
    extract_lets +onlyGivenNames unknown5
    extract_lets +onlyGivenNames d6
    refine Only.cut d6 ?_ fun hd6 => ?_
    · subst d6
      refine Only.step (Device.setPack_only ..) rfl ?_
      assumption
    clear_value d6
    refine Only.step (Device.refreshCauses_only ..) rfl ?_
    assumption
  · exact Only.refl
theorem Device.noProfiles_only (d : Device) : Only [.packs] d (Device.noProfiles d) := by
  unfold Device.noProfiles
  refine Only.foldl (fun x1 b2 hx1 => ?_) ?_
  · refine Only.ite ?_ ?_
    · refine Only.step (Device.refreshCauses_only ..) rfl ?_
      assumption
    · assumption
  · exact Only.refl
theorem Device.commitProfiles_only (d : Device) : Only [.packs] d (Device.commitProfiles d) := by
  unfold Device.commitProfiles
  refine Only.ite ?_ ?_
  · exact Only.refl
  · refine Only.foldl (fun x1 b2 hx1 => ?_) ?_
    · refine Only.ite ?_ ?_
      · refine Only.step (Device.refreshCauses_only ..) rfl ?_
        assumption
      · refine Only.step (Device.refreshCauses_only ..) rfl ?_
        assumption
    · exact Only.refl
theorem execBmsTransmitFrame_only (t : Tick) (cell : Fin 384) (q : Fin 2) (s s' : State) (hq : s.Quiet) (h : execBmsTransmitFrame t cell q s = .next s') : Only [.packs, .link] (s.dev.ready t) s'.dev := by
  refine State.on_only hq h fun d => ?_
  extract_lets +onlyGivenNames pk1
  split
  · exact Only.refl
  · extract_lets +onlyGivenNames ctl2
    extract_lets +onlyGivenNames period3
    refine Only.ite ?_ ?_
    · exact Only.refl
    · extract_lets +onlyGivenNames cnt4
      extract_lets +onlyGivenNames roll5
      extract_lets +onlyGivenNames id6
      extract_lets +onlyGivenNames fr7
      extract_lets +onlyGivenNames d8
      refine Only.cut d8 ?_ fun hd8 => ?_
      · subst d8
        refine Only.step (Device.setPack_only ..) rfl ?_
        exact Only.refl
      clear_value d8
      refine Only.step (Device.queueDown_only ..) rfl ?_
      assumption
theorem execPackSelectWrite_only (t : Tick) (v : BitVec 32) (s s' : State) (hq : s.Quiet) (h : execPackSelectWrite t v s = .next s') : Only [.packs, .regs] (s.dev.ready t) s'.dev := by
  refine State.on_only hq h fun d => ?_
  extract_lets +onlyGivenNames d1
  refine Only.cut d1 ?_ fun hd1 => ?_
  · subst d1
    refine Only.step (Device.reserved_only ..) rfl ?_
    exact Only.refl
  clear_value d1
  extract_lets +onlyGivenNames c2
  extract_lets +onlyGivenNames p3
  split
  rename_i q4
  refine Only.cut _ (Only.of_snd q4 ?_) fun hx5 => ?_
  · refine Only.step (Device.quant_only ..) rfl ?_
    assumption
  split
  rename_i q6
  refine Only.cut _ (Only.of_snd q6 ?_) fun hx7 => ?_
  · refine Only.step (Device.quant_only ..) rfl ?_
    assumption
  split
  rename_i q8
  refine Only.cut _ (Only.of_snd q8 ?_) fun hx9 => ?_
  · refine Only.step (Device.quant_only ..) rfl ?_
    assumption
  split
  rename_i q10
  refine Only.cut _ (Only.of_snd q10 ?_) fun hx11 => ?_
  · refine Only.step (Device.quant_only ..) rfl ?_
    assumption
  split
  rename_i q12
  refine Only.cut _ (Only.of_snd q12 ?_) fun hx13 => ?_
  · refine Only.step (Device.quant_only ..) rfl ?_
    assumption
  extract_lets +onlyGivenNames flags14
  extract_lets +onlyGivenNames l15
  refine Only.step (Device.setPacks_only ..) rfl ?_
  assumption

/-! ## Meter -/

theorem Device.meterPiece_only (d : Device) (c : Nat) (from_ : Tick) (i0 : Rat) (i1 : Rat) (v : Rat) (n : Nat) (p : Piece) : Only [.packs] d (Device.meterPiece d c from_ i0 i1 v n p) := by
  unfold Device.meterPiece
  extract_lets +onlyGivenNames q1
  extract_lets +onlyGivenNames k2
  split
  rename_i q3
  refine Only.cut _ (Only.of_snd q3 ?_) fun hx4 => ?_
  · refine Only.step (Device.quant_only ..) rfl ?_
    exact Only.refl
  split
  rename_i q5
  refine Only.cut _ (Only.of_snd q5 ?_) fun hx6 => ?_
  · refine Only.step (Device.quant_only ..) rfl ?_
    assumption
  split
  rename_i q7
  refine Only.cut _ (Only.of_snd q7 ?_) fun hx8 => ?_
  · refine Only.step (Device.quant_only ..) rfl ?_
    assumption
  split
  rename_i q9
  refine Only.cut _ (Only.of_snd q9 ?_) fun hx10 => ?_
  · refine Only.step (Device.quant_only ..) rfl ?_
    assumption
  extract_lets +onlyGivenNames net11
  extract_lets +onlyGivenNames late12
  extract_lets +onlyGivenNames lateS13
  refine Only.step (Device.setPack_only ..) rfl ?_
  assumption
theorem Device.windowV_only (d : Device) (c : Nat) (from_ : Tick) (upTo : Tick) (v : Rat) (ok : Bool) : Only [.packs] d (Device.windowV d c from_ upTo v ok) := by
  unfold Device.windowV
  extract_lets +onlyGivenNames e1
  extract_lets +onlyGivenNames inNow2
  extract_lets +onlyGivenNames inNext3
  refine Only.step (Device.setPack_only ..) rfl ?_
  exact Only.refl
theorem Device.meterCell_only (d : Device) (c : Nat) (edges : List Edge) (v : Rat) (est : Bool) : Only [.packs] d (Device.meterCell d c edges v est) := by
  unfold Device.meterCell
  extract_lets +onlyGivenNames x1
  extract_lets +onlyGivenNames arm2
  extract_lets +onlyGivenNames from_3
  extract_lets +onlyGivenNames upTo4
  refine Only.ite ?_ ?_
  · exact Only.refl
  · extract_lets +onlyGivenNames n5
    extract_lets +onlyGivenNames i6
    extract_lets +onlyGivenNames dt7
    extract_lets +onlyGivenNames used8
    extract_lets +onlyGivenNames blk9
    extract_lets +onlyGivenNames ps10
    extract_lets +onlyGivenNames d11
    refine Only.cut d11 ?_ fun hd11 => ?_
    · subst d11
      refine Only.foldl (fun x12 b13 hx12 => ?_) ?_
      · refine Only.step (Device.meterPiece_only ..) rfl ?_
        assumption
      · exact Only.refl
    clear_value d11
    extract_lets +onlyGivenNames d14
    refine Only.cut d14 ?_ fun hd14 => ?_
    · subst d14
      refine Only.step (Device.windowV_only ..) rfl ?_
      assumption
    clear_value d14
    extract_lets +onlyGivenNames kind15
    extract_lets +onlyGivenNames f16
    extract_lets +onlyGivenNames last17
    refine Only.step (Device.setPack_only ..) rfl ?_
    assumption
theorem Device.meterClose_only (d : Device) : Only [.packs] d (Device.meterClose d) := by
  unfold Device.meterClose
  refine Only.foldl (fun x1 b2 hx1 => ?_) ?_
  · refine Only.ite ?_ ?_
    · refine Only.step (Device.meterCell_only ..) rfl ?_
      assumption
    · assumption
  · exact Only.refl
theorem Device.meterOpen_only (d : Device) : Only [.packs] d (Device.meterOpen d) := by
  unfold Device.meterOpen
  refine Only.step (Device.setPacks_only ..) rfl ?_
  exact Only.refl
theorem Device.shiftSamples_only (d : Device) : Only [.packs] d (Device.shiftSamples d) := by
  unfold Device.shiftSamples
  refine Only.step (Device.setPacks_only ..) rfl ?_
  exact Only.refl
theorem Device.bankWrite_only (d : Device) : Only [.meter] d (Device.bankWrite d) := by
  unfold Device.bankWrite
  extract_lets +onlyGivenNames m1
  extract_lets +onlyGivenNames b2
  extract_lets +onlyGivenNames b3
  extract_lets +onlyGivenNames b4
  refine Only.step (Device.setMeter_only ..) rfl ?_
  exact Only.refl
theorem Device.ctbSecond_only (d : Device) : Only [.packs, .meter] d (Device.ctbSecond d) := by
  unfold Device.ctbSecond
  extract_lets +onlyGivenNames n1
  refine Only.ite ?_ ?_
  · exact Only.refl
  · extract_lets +onlyGivenNames d2
    refine Only.cut d2 ?_ fun hd2 => ?_
    · subst d2
      refine Only.foldl (fun x3 b4 hx3 => ?_) ?_
      · refine Only.step (Device.xCheckI_only ..) rfl ?_
        assumption
      · exact Only.refl
    clear_value d2
    extract_lets +onlyGivenNames frozen5
    extract_lets +onlyGivenNames d6
    refine Only.cut d6 ?_ fun hd6 => ?_
    · subst d6
      refine Only.step (Device.setMeter_only ..) rfl ?_
      assumption
    clear_value d6
    extract_lets +onlyGivenNames roll7
    extract_lets +onlyGivenNames d8
    refine Only.cut d8 ?_ fun hd8 => ?_
    · subst d8
      refine Only.step (Device.setPacks_only ..) rfl ?_
      assumption
    clear_value d8
    refine Only.step (Device.bankWrite_only ..) rfl ?_
    assumption
theorem Device.meterRestore_only (d : Device) : Only [.packs, .meter] d (Device.meterRestore d) := by
  unfold Device.meterRestore
  extract_lets +onlyGivenNames good1
  extract_lets +onlyGivenNames best2
  clear_value best2
  split
  · extract_lets +onlyGivenNames d3
    refine Only.cut d3 ?_ fun hd3 => ?_
    · subst d3
      refine Only.step (Device.setMeter_only ..) rfl ?_
      exact Only.refl
    clear_value d3
    refine Only.step (Device.bankWrite_only ..) rfl ?_
    refine Only.step (Device.raise_only ..) rfl ?_
    assumption
  · extract_lets +onlyGivenNames b4
    extract_lets +onlyGivenNames d5
    refine Only.cut d5 ?_ fun hd5 => ?_
    · subst d5
      refine Only.step (Device.setMeter_only ..) rfl ?_
      exact Only.refl
    clear_value d5
    extract_lets +onlyGivenNames put6
    refine Only.step (Device.bankWrite_only ..) rfl ?_
    refine Only.step (Device.setPacks_only ..) rfl ?_
    assumption
theorem Device.freezeSnapshot_only (d : Device) : Only [.packs, .meter] d (Device.freezeSnapshot d) := by
  unfold Device.freezeSnapshot
  split
  · exact Only.refl
  · refine Only.ite ?_ ?_
    · exact Only.refl
    · extract_lets +onlyGivenNames d1
      refine Only.cut d1 ?_ fun hd1 => ?_
      · subst d1
        refine Only.step (Device.setMeter_only ..) rfl ?_
        exact Only.refl
      clear_value d1
      extract_lets +onlyGivenNames cells2
      extract_lets +onlyGivenNames rec_3
      extract_lets +onlyGivenNames d4
      refine Only.cut d4 ?_ fun hd4 => ?_
      · subst d4
        refine Only.foldl (fun x5 b6 hx5 => ?_) ?_
        · refine Only.step (Device.setPack_only ..) rfl ?_
          assumption
        · assumption
      clear_value d4
      refine Only.step (Device.setMeter_only ..) rfl ?_
      assumption
theorem Device.sign_only (d : Device) (domain : Nat) (l : List (BitVec 8)) : Only [] d (Device.sign d domain l).2.2 := by
  unfold Device.sign
  split
  rename_i q1
  refine Only.cut _ (Only.of_snd q1 ?_) fun hx2 => ?_
  · refine Only.step (Device.draw_only ..) rfl ?_
    exact Only.refl
  extract_lets +onlyGivenNames msg3
  extract_lets +onlyGivenNames len4
  refine Only.third_mk ?_
  assumption
theorem Device.temperatures_only (d : Device) (c : Nat) : Only [.packs] d (Device.temperatures d c) := by
  unfold Device.temperatures
  extract_lets +onlyGivenNames p1
  split
  · exact Only.refl
  · refine Only.ite ?_ ?_
    · extract_lets +onlyGivenNames onset2
      extract_lets +onlyGivenNames d3
      refine Only.cut d3 ?_ fun hd3 => ?_
      · subst d3
        refine Only.step (Device.setPack_only ..) rfl ?_
        exact Only.refl
      clear_value d3
      extract_lets +onlyGivenNames d4
      refine Only.cut d4 ?_ fun hd4 => ?_
      · subst d4
        refine Only.step (Device.refreshCauses_only ..) rfl ?_
        assumption
      clear_value d4
      refine Only.ite ?_ ?_
      · refine Only.step (Device.raise_only ..) rfl ?_
        assumption
      · assumption
    · extract_lets +onlyGivenNames hi5
      extract_lets +onlyGivenNames lo6
      extract_lets +onlyGivenNames s7
      extract_lets +onlyGivenNames h8
      extract_lets +onlyGivenNames d9
      refine Only.cut d9 ?_ fun hd9 => ?_
      · subst d9
        refine Only.step (Device.setPack_only ..) rfl ?_
        exact Only.refl
      clear_value d9
      refine Only.ite ?_ ?_
      · refine Only.step (Device.refreshCauses_only ..) rfl ?_
        assumption
      · assumption
theorem Device.obsInit_only (d : Device) (c : Nat) (keep : Bool) : Only [.packs] d (Device.obsInit d c keep) := by
  unfold Device.obsInit
  extract_lets +onlyGivenNames x1
  split
  · exact Only.refl
  · refine Only.ite ?_ ?_
    · exact Only.refl
    · extract_lets +onlyGivenNames s2
      extract_lets +onlyGivenNames temp3
      extract_lets +onlyGivenNames v4
      split
      rename_i q5
      refine Only.cut _ (Only.of_snd q5 ?_) fun hx6 => ?_
      · split
        · refine Only.snd_mk ?_
          exact Only.refl
        · refine Only.step (Device.ocvInverse_only ..) rfl ?_
          exact Only.refl
      extract_lets +onlyGivenNames ref7
      extract_lets +onlyGivenNames qn8
      extract_lets +onlyGivenNames o9
      extract_lets +onlyGivenNames start10
      extract_lets +onlyGivenNames rs11
      extract_lets +onlyGivenNames qi12
      refine Only.step (Device.setPack_only ..) rfl ?_
      assumption
theorem Device.obsDiverge_only (d : Device) (c : Nat) : Only [.packs] d (Device.obsDiverge d c) := by
  unfold Device.obsDiverge
  extract_lets +onlyGivenNames x1
  extract_lets +onlyGivenNames again2
  extract_lets +onlyGivenNames d3
  refine Only.cut d3 ?_ fun hd3 => ?_
  · subst d3
    refine Only.step (Device.setPack_only ..) rfl ?_
    exact Only.refl
  clear_value d3
  extract_lets +onlyGivenNames d4
  refine Only.cut d4 ?_ fun hd4 => ?_
  · subst d4
    refine Only.step (Device.setPacks_only ..) rfl ?_
    assumption
  clear_value d4
  extract_lets +onlyGivenNames d5
  refine Only.cut d5 ?_ fun hd5 => ?_
  · subst d5
    refine Only.step (Device.raise_only ..) rfl ?_
    assumption
  clear_value d5
  extract_lets +onlyGivenNames d6
  refine Only.cut d6 ?_ fun hd6 => ?_
  · subst d6
    refine Only.ite ?_ ?_
    · refine Only.step (Device.refreshCauses_only ..) rfl ?_
      assumption
    · assumption
  clear_value d6
  refine Only.step (Device.obsInit_only ..) rfl ?_
  assumption
theorem Device.writeRow_only (d : Device) (c : Nat) : Only [.modu] d (Device.writeRow d c) := by
  unfold Device.writeRow
  extract_lets +onlyGivenNames p1
  extract_lets +onlyGivenNames ref2
  refine Only.step (Device.restPack_only ..) rfl ?_
  refine Only.step (Device.setCell_only ..) rfl ?_
  exact Only.refl
theorem Device.roundPack_only (d : Device) (c : Nat) : Only [.modu, .packs] d (Device.roundPack d c) := by
  unfold Device.roundPack
  extract_lets +onlyGivenNames d1
  refine Only.cut d1 ?_ fun hd1 => ?_
  · subst d1
    refine Only.step (Device.temperatures_only ..) rfl ?_
    exact Only.refl
  clear_value d1
  extract_lets +onlyGivenNames x2
  extract_lets +onlyGivenNames d3
  extract_lets +onlyGivenNames d4
  extract_lets +onlyGivenNames d5
  refine Only.cut d5 ?_ fun hd5 => ?_
  · subst d5
    split
    · assumption
    · refine Only.ite ?_ ?_
      · refine Only.step (Device.obsInit_only ..) rfl ?_
        assumption
      · split
        extract_lets +onlyGivenNames run6
        extract_lets +onlyGivenNames d7
        refine Only.cut d7 ?_ fun hd7 => ?_
        · subst d7
          refine Only.step (Device.setPack_only ..) rfl ?_
          assumption
        clear_value d7
        refine Only.ite ?_ ?_
        · refine Only.step (Device.obsDiverge_only ..) rfl ?_
          assumption
        · assumption
  clear_value d5
  refine Only.step (Device.writeRow_only ..) rfl ?_
  refine Only.step (Device.refreshCauses_only ..) rfl ?_
  assumption
theorem Device.balanceLoop_only (d : Device) : Only [.modu] d (Device.balanceLoop d) := by
  unfold Device.balanceLoop
  extract_lets +onlyGivenNames s1
  extract_lets +onlyGivenNames mean2
  extract_lets +onlyGivenNames db3
  extract_lets +onlyGivenNames e4
  extract_lets +onlyGivenNames g5
  extract_lets +onlyGivenNames eab6
  extract_lets +onlyGivenNames kp7
  extract_lets +onlyGivenNames m8
  extract_lets +onlyGivenNames held9
  extract_lets +onlyGivenNames x10
  refine Only.step (Device.setModu_only ..) rfl ?_
  exact Only.refl
theorem Device.roundLate_only (d : Device) : Only [.packs] d (Device.roundLate d) := by
  unfold Device.roundLate
  extract_lets +onlyGivenNames l1
  refine Only.ite ?_ ?_
  · exact Only.refl
  · extract_lets +onlyGivenNames d2
    refine Only.cut d2 ?_ fun hd2 => ?_
    · subst d2
      refine Only.foldl (fun x3 b4 hx3 => ?_) ?_
      · refine Only.step (Device.setPack_only ..) rfl ?_
        assumption
      · exact Only.refl
    clear_value d2
    extract_lets +onlyGivenNames d5
    refine Only.cut d5 ?_ fun hd5 => ?_
    · subst d5
      refine Only.step (Device.hwSet_only ..) rfl ?_
      refine Only.step (Device.setPacks_only ..) rfl ?_
      assumption
    clear_value d5
    refine Only.ite ?_ ?_
    · assumption
    · refine Only.step (Device.raiseRated_only ..) rfl ?_
      assumption
theorem Device.sendObservers_only (d : Device) (done : List Nat) : Only [.twin] d (Device.sendObservers d done) := by
  unfold Device.sendObservers
  refine Only.foldl (fun x1 b2 hx1 => ?_) ?_
  · extract_lets +onlyGivenNames l3
    refine Only.step (Device.activeSend_only ..) rfl ?_
    assumption
  · exact Only.refl
theorem execValidationMarker_only (t : Tick) (ring : Fin 13) (id : BitVec 16) (valid : Bool) (s s' : State) (hq : s.Quiet) (h : execValidationMarker t ring id valid s = .next s') : Only [.packs, .prov] (s.dev.ready t) s'.dev := by
  refine State.on_only hq h fun d => ?_
  extract_lets +onlyGivenNames mine1
  extract_lets +onlyGivenNames take2
  extract_lets +onlyGivenNames d3
  refine Only.cut d3 ?_ fun hd3 => ?_
  · subst d3
    refine Only.set_prov rfl ?_
    exact Only.refl
  clear_value d3
  refine Only.ite ?_ ?_
  · assumption
  · refine Only.foldl (fun x4 b5 hx4 => ?_) ?_
    · refine Only.foldl (fun x6 b7 hx6 => ?_) ?_
      · refine Only.step (Device.meterCell_only ..) rfl ?_
        assumption
      · assumption
    · assumption
theorem execMeterBankWriteDone_only (t : Tick) (ok : Bool) (s s' : State) (hq : s.Quiet) (h : execMeterBankWriteDone t ok s = .next s') : Only [.traj, .brk, .seq, .modu, .meter, .prot, .safety, .posts, .conv, .eh] (s.dev.ready t) s'.dev := by
  refine State.on_only hq h fun d => ?_
  split
  · exact Only.refl
  · extract_lets +onlyGivenNames i1
    extract_lets +onlyGivenNames d2
    refine Only.cut d2 ?_ fun hd2 => ?_
    · subst d2
      refine Only.step (Device.setMeter_only ..) rfl ?_
      exact Only.refl
    clear_value d2
    refine Only.ite ?_ ?_
    · refine Only.step (Device.setMeter_only ..) rfl ?_
      assumption
    · extract_lets +onlyGivenNames d3
      refine Only.cut d3 ?_ fun hd3 => ?_
      · subst d3
        refine Only.step (Device.setMeter_only ..) rfl ?_
        assumption
      clear_value d3
      extract_lets +onlyGivenNames d4
      refine Only.cut d4 ?_ fun hd4 => ?_
      · subst d4
        refine Only.step (Device.raise_only ..) rfl ?_
        assumption
      clear_value d4
      refine Only.ite ?_ ?_
      · refine Only.step (Device.errReport_only ..) rfl ?_
        assumption
      · assumption
theorem execSnapshotSigned_only (t : Tick) (dmaOk : Bool) (s s' : State) (hq : s.Quiet) (h : execSnapshotSigned t dmaOk s = .next s') : Only [.meter, .mail, .posts, .regs] (s.dev.ready t) s'.dev := by
  refine State.on_only hq h fun d => ?_
  split
  · exact Only.refl
  · refine Only.ite ?_ ?_
    · exact Only.refl
    · extract_lets +onlyGivenNames d1
      refine Only.cut d1 ?_ fun hd1 => ?_
      · subst d1
        refine Only.step (Device.setMeter_only ..) rfl ?_
        exact Only.refl
      clear_value d1
      refine Only.ite ?_ ?_
      · refine Only.step (Device.complete_only ..) rfl ?_
        assumption
      · refine Only.ite ?_ ?_
        · refine Only.step (Device.complete_only ..) rfl ?_
          refine Only.step (Device.dmaFail_only ..) rfl ?_
          assumption
        · split
          rename_i q2
          refine Only.cut _ (Only.of_third q2 ?_) fun hx3 => ?_
          · refine Only.step (Device.sign_only ..) rfl ?_
            assumption
          extract_lets +onlyGivenNames r4
          extract_lets +onlyGivenNames d5
          extract_lets +onlyGivenNames d6
          refine Only.cut d6 ?_ fun hd6 => ?_
          · subst d6
            refine Only.step (Device.post_only ..) rfl ?_
            assumption
          clear_value d6
          refine Only.step (Device.complete_only ..) rfl ?_
          assumption
theorem execObserverRoundStart_only (t : Tick) (left : Fin 385) (us : BitVec 16) (s s' : State) (hq : s.Quiet) (h : execObserverRoundStart t left us s = .next s') : Only [.modu, .packs, .twin] (s.dev.ready t) s'.dev := by
  refine State.on_only hq h fun d => ?_
  extract_lets +onlyGivenNames n1
  refine Only.ite ?_ ?_
  · exact Only.refl
  · extract_lets +onlyGivenNames d2
    refine Only.cut d2 ?_ fun hd2 => ?_
    · subst d2
      refine Only.step (Device.roundLate_only ..) rfl ?_
      exact Only.refl
    clear_value d2
    extract_lets +onlyGivenNames adopts3
    extract_lets +onlyGivenNames d4
    refine Only.cut d4 ?_ fun hd4 => ?_
    · subst d4
      refine Only.step (Device.setTwin_only ..) rfl ?_
      assumption
    clear_value d4
    extract_lets +onlyGivenNames cells5
    extract_lets +onlyGivenNames done6
    extract_lets +onlyGivenNames rest7
    extract_lets +onlyGivenNames d8
    refine Only.cut d8 ?_ fun hd8 => ?_
    · subst d8
      refine Only.step (Device.sendObservers_only ..) rfl ?_
      refine Only.step (Device.pmcPulse_only ..) rfl ?_
      refine Only.foldl (fun x9 b10 hx9 => ?_) ?_
      · refine Only.step (Device.roundPack_only ..) rfl ?_
        assumption
      · assumption
    clear_value d8
    extract_lets +onlyGivenNames d11
    refine Only.cut d11 ?_ fun hd11 => ?_
    · subst d11
      refine Only.foldl (fun x12 b13 hx12 => ?_) ?_
      · refine Only.step (Device.writeRow_only ..) rfl ?_
        assumption
      · assumption
    clear_value d11
    extract_lets +onlyGivenNames roll14
    extract_lets +onlyGivenNames d15
    refine Only.cut d15 ?_ fun hd15 => ?_
    · subst d15
      refine Only.step (Device.setPacks_only ..) rfl ?_
      assumption
    clear_value d15
    refine Only.step (Device.balanceLoop_only ..) rfl ?_
    assumption
theorem execObserverRoundLate_only (t : Tick) (s s' : State) (hq : s.Quiet) (h : execObserverRoundLate t s = .next s') : Only [.packs] (s.dev.ready t) s'.dev := by
  refine State.on_only hq h fun d => ?_
  refine Only.ite ?_ ?_
  · exact Only.refl
  · refine Only.step (Device.roundLate_only ..) rfl ?_
    exact Only.refl

/-! ## Link -/

theorem Device.setRing_only (d : Device) (r : Nat) (f : Ring → Ring) : Only [.link] d (Device.setRing d r f) := by
  unfold Device.setRing
  refine Only.step (Device.setLink_only ..) rfl ?_
  exact Only.refl
theorem Device.linkErr_only (d : Device) (r : Nat) (kind : Nat) (lane : Nat) : Only [] d (Device.linkErr d r kind lane) := by
  unfold Device.linkErr
  refine Only.step (Device.raiseRated_only ..) rfl ?_
  exact Only.refl
theorem Device.desatOnset_only (d : Device) (c : Nat) (seq : BitVec 16) : Only [.traj, .brk, .seq, .modu, .prot, .conv] d (Device.desatOnset d c seq) := by
  unfold Device.desatOnset
  extract_lets +onlyGivenNames p1
  extract_lets +onlyGivenNames base2
  extract_lets +onlyGivenNames l3
  extract_lets +onlyGivenNames d4
  refine Only.cut d4 ?_ fun hd4 => ?_
  · subst d4
    refine Device.setProt_set (.inl rfl) (.inr fun _ => rfl) ?_
    exact Only.refl
  clear_value d4
  extract_lets +onlyGivenNames arms5
  refine Only.ite ?_ ?_
  · refine Only.step (Device.desatTrip_only ..) rfl ?_
    assumption
  · refine Only.ite ?_ ?_
    · refine Only.step (Device.desatTrip_only ..) rfl ?_
      assumption
    · assumption
theorem Device.timeDiff_only (d : Device) (c : Nat) (v : Int) : Only [.link] d (Device.timeDiff d c v) := by
  unfold Device.timeDiff
  extract_lets +onlyGivenNames a1
  extract_lets +onlyGivenNames d2
  refine Only.cut d2 ?_ fun hd2 => ?_
  · subst d2
    refine Only.ite ?_ ?_
    · refine Only.step (Device.setLink_only ..) rfl ?_
      exact Only.refl
    · exact Only.refl
  clear_value d2
  refine Only.ite ?_ ?_
  · refine Only.step (Device.raiseRated_only ..) rfl ?_
    assumption
  · assumption
theorem Device.tableStatus_only (d : Device) (c : Nat) (vdc : Nat) (low : Bool) : Only [.modu] d (Device.tableStatus d c vdc low) := by
  unfold Device.tableStatus
  refine Only.step (Device.restPack_only ..) rfl ?_
  refine Only.step (Device.setCell_only ..) rfl ?_
  exact Only.refl
theorem Device.useStatus_only (d : Device) (c : Nat) (seq : BitVec 16) (slot : Slot) (isP : Bool) (late : Bool) : Only [.traj, .brk, .seq, .modu, .link, .prot, .conv, .recd] d (Device.useStatus d c seq slot isP late) := by
  unfold Device.useStatus
  extract_lets +onlyGivenNames nv1
  extract_lets +onlyGivenNames again2
  extract_lets +onlyGivenNames x3
  extract_lets +onlyGivenNames bits34
  extract_lets +onlyGivenNames onset5
  extract_lets +onlyGivenNames d6
  refine Only.cut d6 ?_ fun hd6 => ?_
  · subst d6
    refine Only.step (Device.setNode_only ..) rfl ?_
    exact Only.refl
  clear_value d6
  extract_lets +onlyGivenNames d7
  refine Only.cut d7 ?_ fun hd7 => ?_
  · subst d7
    refine Only.step (Device.onFrameOf_only ..) rfl ?_
    assumption
  clear_value d7
  extract_lets +onlyGivenNames st8
  extract_lets +onlyGivenNames low9
  extract_lets +onlyGivenNames d10
  refine Only.cut d10 ?_ fun hd10 => ?_
  · subst d10
    refine Only.step (Device.setCell_only ..) rfl ?_
    assumption
  clear_value d10
  extract_lets +onlyGivenNames d11
  refine Only.cut d11 ?_ fun hd11 => ?_
  · subst d11
    refine Only.ite ?_ ?_
    · refine Only.step (Device.setNode_only ..) rfl ?_
      assumption
    · refine Only.step (Device.tableStatus_only ..) rfl ?_
      assumption
  clear_value d11
  extract_lets +onlyGivenNames d12
  refine Only.cut d12 ?_ fun hd12 => ?_
  · subst d12
    refine Only.ite ?_ ?_
    · refine Only.step (Device.desatOnset_only ..) rfl ?_
      assumption
    · assumption
  clear_value d12
  extract_lets +onlyGivenNames d13
  refine Only.cut d13 ?_ fun hd13 => ?_
  · subst d13
    refine Only.ite ?_ ?_
    · refine Device.setProt_set (.inl rfl) (.inr fun _ => rfl) ?_
      assumption
    · assumption
  clear_value d13
  extract_lets +onlyGivenNames d14
  refine Only.cut d14 ?_ fun hd14 => ?_
  · subst d14
    split
    · refine Only.step (Device.bypass_only ..) rfl ?_
      assumption
    · assumption
  clear_value d14
  extract_lets +onlyGivenNames d15
  refine Only.cut d15 ?_ fun hd15 => ?_
  · subst d15
    refine Only.ite ?_ ?_
    · refine Only.step (Device.bpClosed_only ..) rfl ?_
      assumption
    · assumption
  clear_value d15
  refine Only.step (Device.timeDiff_only ..) rfl ?_
  assumption
theorem Device.uplink_only (d : Device) (r : Nat) (x : TunRec) : Only [.packs, .link, .posts] d (Device.uplink d r x) := by
  unfold Device.uplink
  extract_lets +onlyGivenNames c1
  refine Only.ite ?_ ?_
  · exact Only.refl
  · extract_lets +onlyGivenNames d2
    refine Only.cut d2 ?_ fun hd2 => ?_
    · subst d2
      refine Only.step (Device.setNode_only ..) rfl ?_
      exact Only.refl
    clear_value d2
    refine Only.step (Device.bmsFrame_only ..) rfl ?_
    assumption
theorem Device.takeInfo_only (d : Device) (c : Nat) (b : List (BitVec 8)) : Only [.link] d (Device.takeInfo d c b) := by
  unfold Device.takeInfo
  extract_lets +onlyGivenNames q1
  refine Only.step (Device.setNode_only ..) rfl ?_
  exact Only.refl
theorem Device.nodeAbsent_only (d : Device) (r : Nat) (pos : Nat) : Only [.link] d (Device.nodeAbsent d r pos) := by
  unfold Device.nodeAbsent
  extract_lets +onlyGivenNames d1
  refine Only.cut d1 ?_ fun hd1 => ?_
  · subst d1
    refine Only.step (Device.setNode_only ..) rfl ?_
    exact Only.refl
  clear_value d1
  refine Only.step (Device.setRing_only ..) rfl ?_
  assumption
theorem Device.enumAnswer_only (d : Device) (r : Nat) (x : SlowReq) : Only [.link] d (Device.enumAnswer d r x) := by
  unfold Device.enumAnswer
  extract_lets +onlyGivenNames g1
  extract_lets +onlyGivenNames next2
  refine Only.ite ?_ ?_
  · unfold next2
    refine Only.step (Device.setRing_only ..) rfl ?_
    refine Only.ite ?_ ?_
    · refine Only.step (Device.takeInfo_only ..) rfl ?_
      exact Only.refl
    · exact Only.refl
  · extract_lets +onlyGivenNames pos3
    extract_lets +onlyGivenNames c4
    split
    · refine Only.ite ?_ ?_
      · refine Only.step (Device.nodeAbsent_only ..) rfl ?_
        exact Only.refl
      · unfold next2
        refine Only.step (Device.setRing_only ..) rfl ?_
        refine Only.step (Device.takeInfo_only ..) rfl ?_
        exact Only.refl
    · refine Only.ite ?_ ?_
      · unfold next2
        refine Only.step (Device.setRing_only ..) rfl ?_
        exact Only.refl
      · refine Only.step (Device.nodeAbsent_only ..) rfl ?_
        exact Only.refl
    · refine Only.ite ?_ ?_
      · unfold next2
        refine Only.step (Device.setRing_only ..) rfl ?_
        refine Only.step (Device.setNode_only ..) rfl ?_
        exact Only.refl
      · refine Only.ite ?_ ?_
        · refine Only.step (Device.setRing_only ..) rfl ?_
          exact Only.refl
        · refine Only.step (Device.nodeAbsent_only ..) rfl ?_
          exact Only.refl
    · refine Only.ite ?_ ?_
      · refine Only.step (Device.nodeAbsent_only ..) rfl ?_
        exact Only.refl
      · unfold next2
        refine Only.step (Device.setRing_only ..) rfl ?_
        refine Only.step (Device.setRing_only ..) rfl ?_
        refine Only.step (Device.setNode_only ..) rfl ?_
        exact Only.refl
theorem Device.txnAnswer_only (d : Device) (t : NodeTxn) (x : SlowReq) : Only [.link, .mail, .posts] d (Device.txnAnswer d t x) := by
  unfold Device.txnAnswer
  extract_lets +onlyGivenNames d1
  refine Only.cut d1 ?_ fun hd1 => ?_
  · subst d1
    refine Only.step (Device.setLink_only ..) rfl ?_
    exact Only.refl
  clear_value d1
  refine Only.ite ?_ ?_
  · refine Only.step (Device.complete_only ..) rfl ?_
    refine Only.step (Device.post_only ..) rfl ?_
    assumption
  · refine Only.ite ?_ ?_
    · refine Only.step (Device.complete_only ..) rfl ?_
      assumption
    · refine Only.step (Device.complete_only ..) rfl ?_
      assumption
theorem Device.slowAnswer_only (d : Device) (r : Nat) (sent : SlowReq) (x : SlowReq) : Only [.link, .mail, .posts] d (Device.slowAnswer d r sent x) := by
  unfold Device.slowAnswer
  refine Only.ite ?_ ?_
  · exact Only.refl
  · split
    · refine Only.ite ?_ ?_
      · refine Only.step (Device.enumAnswer_only ..) rfl ?_
        exact Only.refl
      · exact Only.refl
    · refine Only.ite ?_ ?_
      · extract_lets +onlyGivenNames c1
        extract_lets +onlyGivenNames held2
        refine Only.step (Device.setNode_only ..) rfl ?_
        refine Only.step (Device.setLink_only ..) rfl ?_
        exact Only.refl
      · split
        · refine Only.step (Device.txnAnswer_only ..) rfl ?_
          exact Only.refl
        · exact Only.refl
theorem Device.ringReturn_only (d : Device) (r : Nat) (dir : Bool) (lane : Bool) (filled : List Nat) : Only [.link] d (Device.ringReturn d r dir lane filled) := by
  unfold Device.ringReturn
  refine Only.ite ?_ ?_
  · extract_lets +onlyGivenNames d1
    refine Only.cut d1 ?_ fun hd1 => ?_
    · subst d1
      refine Only.step (Device.setRing_only ..) rfl ?_
      exact Only.refl
    clear_value d1
    refine Only.ite ?_ ?_
    · assumption
    · extract_lets +onlyGivenNames last2
      extract_lets +onlyGivenNames d3
      refine Only.cut d3 ?_ fun hd3 => ?_
      · subst d3
        refine Only.step (Device.setRing_only ..) rfl ?_
        assumption
      clear_value d3
      refine Only.step (Device.raise_only ..) rfl ?_
      assumption
  · extract_lets +onlyGivenNames d4
    refine Only.cut d4 ?_ fun hd4 => ?_
    · subst d4
      refine Only.step (Device.setRing_only ..) rfl ?_
      exact Only.refl
    clear_value d4
    extract_lets +onlyGivenNames g5
    refine Only.ite ?_ ?_
    · refine Only.step (Device.raise_only ..) rfl ?_
      refine Only.step (Device.setRing_only ..) rfl ?_
      assumption
    · assumption
theorem Device.takeFrame_only (d : Device) (r : Nat) (lane : Bool) (sent : TxFrame) (b : List (BitVec 8)) : Only [.traj, .brk, .seq, .modu, .packs, .link, .prot, .twin, .mail, .posts, .conv, .recd, .prov, .drift] d (Device.takeFrame d r lane sent b) := by
  unfold Device.takeFrame
  extract_lets +onlyGivenNames f11
  extract_lets +onlyGivenNames dir2
  extract_lets +onlyGivenNames seqN3
  extract_lets +onlyGivenNames seq4
  extract_lets +onlyGivenNames late5
  extract_lets +onlyGivenNames laneN6
  extract_lets +onlyGivenNames slots7
  extract_lets +onlyGivenNames pre8
  extract_lets +onlyGivenNames good9
  extract_lets +onlyGivenNames bad10
  split
  rename_i q11
  refine Only.cut _ (Only.of_snd q11 ?_) fun hx12 => ?_
  · refine Only.step (Device.quant_only ..) rfl ?_
    exact Only.refl
  extract_lets +onlyGivenNames ret13
  extract_lets +onlyGivenNames d14
  refine Only.cut d14 ?_ fun hd14 => ?_
  · subst d14
    refine Only.step (Device.setLink_only ..) rfl ?_
    refine Only.step (Device.setRing_only ..) rfl ?_
    assumption
  clear_value d14
  extract_lets +onlyGivenNames d15
  refine Only.cut d15 ?_ fun hd15 => ?_
  · subst d15
    refine Only.step (Device.stamp_only ..) rfl ?_
    refine Only.step (Device.ringReturn_only ..) rfl ?_
    assumption
  clear_value d15
  extract_lets +onlyGivenNames d16
  refine Only.cut d16 ?_ fun hd16 => ?_
  · subst d16
    refine Only.step (Device.pmcPulse_only ..) rfl ?_
    refine Only.step (Device.pmcPulse_only ..) rfl ?_
    assumption
  clear_value d16
  extract_lets +onlyGivenNames d17
  refine Only.cut d17 ?_ fun hd17 => ?_
  · subst d17
    refine Only.ite ?_ ?_
    · refine Only.step (Device.linkErr_only ..) rfl ?_
      refine Only.step (Device.setRing_only ..) rfl ?_
      assumption
    · assumption
  clear_value d17
  extract_lets +onlyGivenNames d18
  refine Only.cut d18 ?_ fun hd18 => ?_
  · subst d18
    refine Only.foldl (fun x19 b20 hx19 => ?_) ?_
    · refine Only.step (Device.linkErr_only ..) rfl ?_
      refine Only.step (Device.setRing_only ..) rfl ?_
      assumption
    · assumption
  clear_value d18
  extract_lets +onlyGivenNames d21
  extract_lets +onlyGivenNames d22
  refine Only.cut d22 ?_ fun hd22 => ?_
  · subst d22
    refine Only.ite ?_ ?_
    · refine Only.step (Device.setRing_only ..) rfl ?_
      assumption
    · assumption
  clear_value d22
  extract_lets +onlyGivenNames use23
  extract_lets +onlyGivenNames d24
  refine Only.cut d24 ?_ fun hd24 => ?_
  · subst d24
    refine Only.foldl (fun x25 b26 hx25 => ?_) ?_
    · refine Only.step (Device.useStatus_only ..) rfl ?_
      assumption
    · assumption
  clear_value d24
  extract_lets +onlyGivenNames d27
  refine Only.cut d27 ?_ fun hd27 => ?_
  · subst d27
    refine Only.step (Device.mdlSend_only ..) rfl ?_
    assumption
  clear_value d27
  extract_lets +onlyGivenNames held28
  extract_lets +onlyGivenNames d29
  refine Only.cut d29 ?_ fun hd29 => ?_
  · subst d29
    refine Only.ite ?_ ?_
    · assumption
    · refine Only.set_prov rfl ?_
      assumption
  clear_value d29
  extract_lets +onlyGivenNames tun30
  extract_lets +onlyGivenNames d31
  refine Only.cut d31 ?_ fun hd31 => ?_
  · subst d31
    refine Only.step (Device.pmcPulse_only ..) rfl ?_
    refine Only.foldl (fun x32 b33 hx32 => ?_) ?_
    · refine Only.step (Device.uplink_only ..) rfl ?_
      assumption
    · assumption
  clear_value d31
  split
  · refine Only.step (Device.slowAnswer_only ..) rfl ?_
    assumption
  · assumption
theorem execReturningFrame_only (t : Tick) (ring : Fin 12) (lane : Bool) (frame : List (BitVec 8)) (s s' : State) (hq : s.Quiet) (h : execReturningFrame t ring lane frame s = .next s') : Only [.traj, .brk, .seq, .modu, .packs, .link, .prot, .twin, .mail, .posts, .conv, .recd, .prov, .drift] (s.dev.ready t) s'.dev := by
  refine State.on_only hq h fun d => ?_
  extract_lets +onlyGivenNames r1
  extract_lets +onlyGivenNames laneN2
  refine Only.ite ?_ ?_
  · exact Only.refl
  · extract_lets +onlyGivenNames d3
    refine Only.cut d3 ?_ fun hd3 => ?_
    · subst d3
      refine Only.ite ?_ ?_
      · refine Only.step (Device.setTwin_only ..) rfl ?_
        exact Only.refl
      · exact Only.refl
    clear_value d3
    refine Only.ite ?_ ?_
    · refine Only.step (Device.pmcPulse_only ..) rfl ?_
      refine Only.step (Device.linkErr_only ..) rfl ?_
      refine Only.step (Device.setRing_only ..) rfl ?_
      assumption
    · extract_lets +onlyGivenNames f14
      extract_lets +onlyGivenNames head5
      split
      · refine Only.ite ?_ ?_
        · refine Only.step (Device.linkErr_only ..) rfl ?_
          assumption
        · refine Only.step (Device.takeFrame_only ..) rfl ?_
          assumption
      · refine Only.step (Device.linkErr_only ..) rfl ?_
        assumption
theorem execPrqReceived_only (t : Tick) (ring : Fin 12) (lane : Bool) (tag : BitVec 8) (s s' : State) (hq : s.Quiet) (h : execPrqReceived t ring lane tag s = .next s') : Only [.link] (s.dev.ready t) s'.dev := by
  refine State.on_only hq h fun d => ?_
  refine Only.ite ?_ ?_
  · exact Only.refl
  · refine Only.step (Device.setLink_only ..) rfl ?_
    exact Only.refl
theorem execRingLaneLockChange_only (t : Tick) (ring : Fin 12) (lane : Bool) (lock : Bool) (s s' : State) (hq : s.Quiet) (h : execRingLaneLockChange t ring lane lock s = .next s') : Only [.link] (s.dev.ready t) s'.dev := by
  refine State.on_only hq h fun d => ?_
  refine Only.ite ?_ ?_
  · exact Only.refl
  · refine Only.step (Device.setRing_only ..) rfl ?_
    exact Only.refl

end Sys2Proof.Machine
end

