-- ==== Sys2Proof/Laws/FrameSafety.lean ====
section
/-! SUPPORT. The parts of the device that each operation may change (`Only`): start-up, Bailsil, twin frames and twin operation, load-all; then those that each command may change. -/

namespace Sys2Proof.Machine

/-! ## Startup -/

theorem Device.bootImage_only (d : Device) (i : Nat) (other : Bool) : Only [.conv, .sec] d (Device.bootImage d i other) := by
  unfold Device.bootImage
  extract_lets +onlyGivenNames x1
  extract_lets +onlyGivenNames d2
  refine Only.cut d2 ?_ fun hd2 => ?_
  · subst d2
    refine Only.step (Device.setConv_only ..) rfl ?_
    exact Only.refl
  clear_value d2
  refine Only.set_sec rfl ?_
  assumption
theorem Device.romBoot_only (d : Device) (skip : Option Nat) : Only [.conv, .sec] d (Device.romBoot d skip) := by
  unfold Device.romBoot
  extract_lets +onlyGivenNames ok1
  extract_lets +onlyGivenNames none_2
  refine Only.cut none_2 ?_ fun hnone_2 => ?_
  · subst none_2
    refine Only.step (Device.setConv_only ..) rfl ?_
    exact Only.refl
  clear_value none_2
  split
  · split
    · refine Only.ite ?_ ?_
      · refine Only.step (Device.bootImage_only ..) rfl ?_
        exact Only.refl
      · refine Only.step (Device.bootImage_only ..) rfl ?_
        exact Only.refl
    · refine Only.step (Device.bootImage_only ..) rfl ?_
      exact Only.refl
    · refine Only.step (Device.bootImage_only ..) rfl ?_
      exact Only.refl
    · assumption
  · refine Only.ite ?_ ?_
    · refine Only.step (Device.bootImage_only ..) rfl ?_
      exact Only.refl
    · assumption
  · assumption
  · refine Only.step (Device.setConv_only ..) rfl ?_
    exact Only.refl
theorem Device.awaitBeats_only (d : Device) : Only [.safety] d (Device.awaitBeats d) := by
  unfold Device.awaitBeats
  refine Only.set_safety rfl ?_
  exact Only.refl
theorem Device.safetyCopy_only (d : Device) : Only [.safety] d (Device.safetyCopy d) := by
  unfold Device.safetyCopy
  extract_lets +onlyGivenNames set1
  refine Only.set_safety rfl ?_
  exact Only.refl
theorem Device.gateRestore_only (d : Device) : Only [.gates] d (Device.gateRestore d) := by
  unfold Device.gateRestore
  extract_lets +onlyGivenNames start1
  extract_lets +onlyGivenNames one2
  extract_lets +onlyGivenNames l3
  extract_lets +onlyGivenNames d4
  refine Only.cut d4 ?_ fun hd4 => ?_
  · subst d4
    refine Device.setProt_set (.inr fun _ => rfl) (.inl rfl) ?_
    exact Only.refl
  clear_value d4
  refine Device.setProt_set (.inr fun _ => rfl) (.inl rfl) ?_
  assumption
theorem Device.logRestore_only (d : Device) : Only [.eh] d (Device.logRestore d) := by
  unfold Device.logRestore
  refine Only.step (Device.setEh_only ..) rfl ?_
  exact Only.refl
theorem Device.enterOff_only (d : Device) : Only [.regs, .conv] d (Device.enterOff d) := by
  unfold Device.enterOff
  extract_lets +onlyGivenNames d1
  refine Only.cut d1 ?_ fun hd1 => ?_
  · subst d1
    refine Only.step (Device.setConv_only ..) rfl ?_
    exact Only.refl
  clear_value d1
  extract_lets +onlyGivenNames d2
  refine Only.cut d2 ?_ fun hd2 => ?_
  · subst d2
    refine Device.setHost_set (.inr fun _ => rfl) (.inr fun _ => rfl) (.inr fun _ => rfl) (.inl rfl) ?_
    assumption
  clear_value d2
  refine Only.ite ?_ ?_
  · refine Only.step (Device.raise_only ..) rfl ?_
    assumption
  · assumption
theorem Device.stepWork_only (d : Device) (step : Nat) : Only [.meas, .law, .traj, .brk, .seq, .modu, .packs, .meter, .prot, .gates, .safety, .par, .regs, .conv, .clk, .eh, .sec] d (Device.stepWork d step) := by
  unfold Device.stepWork
  refine Only.ite ?_ ?_
  · extract_lets +onlyGivenNames d1
    refine Only.cut d1 ?_ fun hd1 => ?_
    · subst d1
      refine Only.step (Device.newForce_only ..) rfl ?_
      refine Only.step (Device.logRestore_only ..) rfl ?_
      refine Only.step (Device.gateRestore_only ..) rfl ?_
      refine Only.step (Device.meterRestore_only ..) rfl ?_
      refine Only.step (Device.safetyCopy_only ..) rfl ?_
      refine Only.step (Device.loadParams_only ..) rfl ?_
      exact Only.refl
    clear_value d1
    extract_lets +onlyGivenNames d2
    refine Only.cut d2 ?_ fun hd2 => ?_
    · subst d2
      refine Only.step (Device.setLaw_only ..) rfl ?_
      refine Only.step (Device.clkoutCommit_only ..) rfl ?_
      assumption
    clear_value d2
    extract_lets +onlyGivenNames d3
    extract_lets +onlyGivenNames d4
    refine Only.cut d4 ?_ fun hd4 => ?_
    · subst d4
      refine Only.set_sec rfl ?_
      assumption
    clear_value d4
    refine Only.foldl (fun x5 b6 hx5 => ?_) ?_
    · refine Only.step (Device.refreshTin_only ..) rfl ?_
      assumption
    · assumption
  · refine Only.ite ?_ ?_
    · refine Only.set_safety rfl ?_
      exact Only.refl
    · refine Only.ite ?_ ?_
      · refine Only.step (Device.inputActive_only ..) rfl ?_
        exact Only.refl
      · refine Only.ite ?_ ?_
        · refine Only.step (Device.enterOff_only ..) rfl ?_
          exact Only.refl
        · exact Only.refl
theorem Device.refFaultAll_only (d : Device) : Only [.meas, .traj, .brk, .seq, .modu, .prot, .conv] d (Device.refFaultAll d) := by
  unfold Device.refFaultAll
  refine Only.foldl (fun x1 b2 hx1 => ?_) ?_
  · refine Only.step (Device.refFault_only ..) rfl ?_
    assumption
  · exact Only.refl
theorem Device.setLow_only (d : Device) (v : Nat) (low : Bool) : Only [.rails] d (Device.setLow d v low) := by
  unfold Device.setLow
  refine Only.set_rails rfl ?_
  exact Only.refl
theorem Device.compareRing_only (d : Device) (r : Nat) : Only [.link, .conv] d (Device.compareRing d r) := by
  unfold Device.compareRing
  extract_lets +onlyGivenNames expect1
  extract_lets +onlyGivenNames g2
  refine Only.ite ?_ ?_
  · exact Only.refl
  · extract_lets +onlyGivenNames fault3
    extract_lets +onlyGivenNames n4
    split
    extract_lets +onlyGivenNames d5
    refine Only.cut d5 ?_ fun hd5 => ?_
    · subst d5
      refine Only.step (Device.setRing_only ..) rfl ?_
      exact Only.refl
    clear_value d5
    extract_lets +onlyGivenNames d6
    refine Only.cut d6 ?_ fun hd6 => ?_
    · subst d6
      refine Only.ite ?_ ?_
      · refine Only.step (Device.raise_only ..) rfl ?_
        assumption
      · assumption
    clear_value d6
    extract_lets +onlyGivenNames reason7
    refine Only.ite ?_ ?_
    · refine Only.step (Device.raise_only ..) rfl ?_
      refine Only.step (Device.setConv_only ..) rfl ?_
      refine Only.step (Device.setRing_only ..) rfl ?_
      assumption
    · extract_lets +onlyGivenNames d8
      refine Only.cut d8 ?_ fun hd8 => ?_
      · subst d8
        refine Only.foldl (fun x9 b10 hx9 => ?_) ?_
        · refine Only.step (Device.setNode_only ..) rfl ?_
          assumption
        · assumption
      clear_value d8
      refine Only.ite ?_ ?_
      · refine Only.step (Device.raise_only ..) rfl ?_
        refine Only.step (Device.setConv_only ..) rfl ?_
        assumption
      · assumption
theorem Device.preChargeStart_only (d : Device) : Only [.conv] d (Device.preChargeStart d) := by
  unfold Device.preChargeStart
  refine Only.ite ?_ ?_
  · refine Only.step (Device.setConv_only ..) rfl ?_
    exact Only.refl
  · refine Only.step (Device.setConv_only ..) rfl ?_
    exact Only.refl
theorem execBringUpStepDone_only (t : Tick) (fail : BitVec 8) (test : BitVec 8) (s s' : State) (hq : s.Quiet) (h : execBringUpStepDone t fail test s = .next s') : Only [.meas, .law, .traj, .brk, .seq, .modu, .packs, .meter, .prot, .gates, .safety, .par, .posts, .regs, .conv, .clk, .eh, .sec] (s.dev.ready t) s'.dev := by
  refine State.on_only hq h fun d => ?_
  extract_lets +onlyGivenNames n1
  refine Only.ite ?_ ?_
  · exact Only.refl
  · extract_lets +onlyGivenNames d2
    refine Only.cut d2 ?_ fun hd2 => ?_
    · subst d2
      refine Only.foldl (fun x3 b4 hx3 => ?_) ?_
      · refine Only.ite ?_ ?_
        · refine Only.step (Device.errReport_only ..) rfl ?_
          refine Only.step (Device.raise_only ..) rfl ?_
          assumption
        · refine Only.step (Device.setConv_only ..) rfl ?_
          assumption
      · exact Only.refl
    clear_value d2
    refine Only.step (Device.setConv_only ..) rfl ?_
    refine Only.step (Device.stepWork_only ..) rfl ?_
    assumption
theorem execEnumDiscoverDone_only (t : Tick) (s s' : State) (hq : s.Quiet) (h : execEnumDiscoverDone t s = .next s') : Only [.link, .conv] (s.dev.ready t) s'.dev := by
  refine State.on_only hq h fun d => ?_
  refine Only.ite ?_ ?_
  · exact Only.refl
  · extract_lets +onlyGivenNames d1
    refine Only.cut d1 ?_ fun hd1 => ?_
    · subst d1
      refine Only.step (Device.setConv_only ..) rfl ?_
      exact Only.refl
    clear_value d1
    extract_lets +onlyGivenNames d2
    refine Only.cut d2 ?_ fun hd2 => ?_
    · subst d2
      refine Only.foldl (fun x3 b4 hx3 => ?_) ?_
      · refine Only.step (Device.compareRing_only ..) rfl ?_
        assumption
      · assumption
    clear_value d2
    refine Only.step (Device.setConv_only ..) rfl ?_
    assumption
theorem execEnumPreloadDone_only (t : Tick) (s s' : State) (hq : s.Quiet) (h : execEnumPreloadDone t s = .next s') : Only [.packs, .conv] (s.dev.ready t) s'.dev := by
  refine State.on_only hq h fun d => ?_
  refine Only.ite ?_ ?_
  · exact Only.refl
  · extract_lets +onlyGivenNames d1
    refine Only.cut d1 ?_ fun hd1 => ?_
    · subst d1
      refine Only.step (Device.setPacks_only ..) rfl ?_
      exact Only.refl
    clear_value d1
    refine Only.step (Device.setConv_only ..) rfl ?_
    assumption
theorem execEnumMatchEnd_only (t : Tick) (s s' : State) (hq : s.Quiet) (h : execEnumMatchEnd t s = .next s') : Only [.packs, .conv] (s.dev.ready t) s'.dev := by
  refine State.on_only hq h fun d => ?_
  extract_lets +onlyGivenNames open_1
  refine Only.ite ?_ ?_
  · exact Only.refl
  · refine Only.step (Device.setConv_only ..) rfl ?_
    refine Only.step (Device.noProfiles_only ..) rfl ?_
    exact Only.refl
theorem execChargeContactEnd_only (t : Tick) (s s' : State) (hq : s.Quiet) (h : execChargeContactEnd t s = .next s') : Only [.conv] (s.dev.ready t) s'.dev := by
  refine State.on_only hq h fun d => ?_
  extract_lets +onlyGivenNames ready1
  refine Only.ite ?_ ?_
  · exact Only.refl
  · refine Only.ite ?_ ?_
    · refine Only.step (Device.chargeFail_only ..) rfl ?_
      exact Only.refl
    · refine Only.ite ?_ ?_
      · refine Only.step (Device.setConv_only ..) rfl ?_
        exact Only.refl
      · refine Only.step (Device.preChargeStart_only ..) rfl ?_
        exact Only.refl
theorem execChargeCellTestEnd_only (t : Tick) (s s' : State) (hq : s.Quiet) (h : execChargeCellTestEnd t s = .next s') : Only [.conv] (s.dev.ready t) s'.dev := by
  refine State.on_only hq h fun d => ?_
  refine Only.ite ?_ ?_
  · exact Only.refl
  · refine Only.ite ?_ ?_
    · refine Only.step (Device.chargeFail_only ..) rfl ?_
      exact Only.refl
    · refine Only.step (Device.preChargeStart_only ..) rfl ?_
      exact Only.refl
theorem execPreChargeDwellEnd_only (t : Tick) (s s' : State) (hq : s.Quiet) (h : execPreChargeDwellEnd t s = .next s') : Only [.conv] (s.dev.ready t) s'.dev := by
  refine State.on_only hq h fun d => ?_
  refine Only.ite ?_ ?_
  · exact Only.refl
  · refine Only.ite ?_ ?_
    · refine Only.step (Device.chargeFail_only ..) rfl ?_
      exact Only.refl
    · refine Only.step (Device.setConv_only ..) rfl ?_
      exact Only.refl

/-! ## Bailsil -/

theorem Device.setSin_only (d : Device) (n : Nat) (f : SafeIn → SafeIn) : Only [.safety] d (Device.setSin d n f) := by
  unfold Device.setSin
  refine Only.step (Device.setSaf_only ..) rfl ?_
  exact Only.refl
theorem Device.setSout_only (d : Device) (n : Nat) (f : SafeOut → SafeOut) : Only [.safety] d (Device.setSout d n f) := by
  unfold Device.setSout
  refine Only.step (Device.setSaf_only ..) rfl ?_
  exact Only.refl
theorem Device.setSafe_only (d : Device) (f : SafeConn → SafeConn) : Only [.safety] d (Device.setSafe d f) := by
  unfold Device.setSafe
  refine Only.step (Device.setSaf_only ..) rfl ?_
  exact Only.refl
theorem Device.startChecks_only (d : Device) : Only [.safety] d (Device.startChecks d) := by
  unfold Device.startChecks
  refine Only.foldl (fun x1 b2 hx1 => ?_) ?_
  · extract_lets +onlyGivenNames x3
    refine Only.ite ?_ ?_
    · refine Only.step (Device.setSout_only ..) rfl ?_
      assumption
    · assumption
  · exact Only.refl
theorem Device.driveOutputs_only (d : Device) : Only [.safety] d (Device.driveOutputs d) := by
  unfold Device.driveOutputs
  refine Only.foldl (fun x1 b2 hx1 => ?_) ?_
  · extract_lets +onlyGivenNames x3
    extract_lets +onlyGivenNames on4
    extract_lets +onlyGivenNames chk5
    extract_lets +onlyGivenNames hs6
    extract_lets +onlyGivenNames ls7
    extract_lets +onlyGivenNames rose8
    refine Only.step (Device.setSout_only ..) rfl ?_
    assumption
  · refine Only.step (Device.startChecks_only ..) rfl ?_
    exact Only.refl
theorem Device.latchFn_only (d : Device) (fn : Nat) (src : Nat) : Only [.safety] d (Device.latchFn d fn src) := by
  unfold Device.latchFn
  refine Only.ite ?_ ?_
  · exact Only.refl
  · extract_lets +onlyGivenNames d1
    refine Only.cut d1 ?_ fun hd1 => ?_
    · subst d1
      refine Only.step (Device.setSaf_only ..) rfl ?_
      exact Only.refl
    clear_value d1
    refine Only.step (Device.raise_only ..) rfl ?_
    assumption
theorem Device.demandOne_only (d : Device) (fn : Nat) (src : Nat) : Only [.traj, .brk, .seq, .modu, .prot, .safety, .conv] d (Device.demandOne d fn src) := by
  unfold Device.demandOne
  refine Only.ite ?_ ?_
  · exact Only.refl
  · extract_lets +onlyGivenNames d1
    extract_lets +onlyGivenNames d2
    refine Only.cut d2 ?_ fun hd2 => ?_
    · subst d2
      refine Only.step (Device.setSaf_only ..) rfl ?_
      exact Only.refl
    clear_value d2
    extract_lets +onlyGivenNames d3
    refine Only.cut d3 ?_ fun hd3 => ?_
    · subst d3
      refine Only.step (Device.latchFn_only ..) rfl ?_
      assumption
    clear_value d3
    refine Only.ite ?_ ?_
    · refine Only.ite ?_ ?_
      · refine Only.step (Device.squallTrigger_only ..) rfl ?_
        assumption
      · refine Only.step (Device.inputActive_only ..) rfl ?_
        assumption
    · assumption
theorem Device.demandOn_only (d : Device) (fn : Nat) (src : Nat) : Only [.traj, .brk, .seq, .modu, .prot, .safety, .conv] d (Device.demandOn d fn src) := by
  unfold Device.demandOn
  refine Only.ite ?_ ?_
  · exact Only.refl
  · refine Only.ite ?_ ?_
    · extract_lets +onlyGivenNames was1
      extract_lets +onlyGivenNames d2
      refine Only.cut d2 ?_ fun hd2 => ?_
      · subst d2
        refine Only.step (Device.demandOne_only ..) rfl ?_
        refine Only.step (Device.demandOne_only ..) rfl ?_
        exact Only.refl
      clear_value d2
      extract_lets +onlyGivenNames d3
      refine Only.cut d3 ?_ fun hd3 => ?_
      · subst d3
        refine Only.ite ?_ ?_
        · assumption
        · refine Only.step (Device.setSaf_only ..) rfl ?_
          assumption
      clear_value d3
      refine Only.step (Device.driveOutputs_only ..) rfl ?_
      assumption
    · refine Only.step (Device.driveOutputs_only ..) rfl ?_
      refine Only.step (Device.demandOne_only ..) rfl ?_
      exact Only.refl
theorem Device.demandOff_only (d : Device) (fn : Nat) (src : Nat) : Only [.safety] d (Device.demandOff d fn src) := by
  unfold Device.demandOff
  extract_lets +onlyGivenNames d1
  refine Only.cut d1 ?_ fun hd1 => ?_
  · subst d1
    refine Only.step (Device.setSaf_only ..) rfl ?_
    exact Only.refl
  clear_value d1
  refine Only.ite ?_ ?_
  · refine Only.step (Device.setSaf_only ..) rfl ?_
    assumption
  · assumption
theorem Device.demandSet_only (d : Device) (fn : Nat) (src : Nat) (on : Bool) : Only [.traj, .brk, .seq, .modu, .prot, .safety, .conv] d (Device.demandSet d fn src on) := by
  unfold Device.demandSet
  refine Only.ite ?_ ?_
  · refine Only.step (Device.demandOn_only ..) rfl ?_
    exact Only.refl
  · refine Only.step (Device.demandOff_only ..) rfl ?_
    exact Only.refl
theorem Device.safetyReset_only (d : Device) : Only [.prot, .safety] d (Device.safetyReset d).1 := by
  unfold Device.safetyReset
  extract_lets +onlyGivenNames f1
  split
  · refine Only.fst_mk ?_
    exact Only.refl
  · split
    · refine Only.fst_mk ?_
      refine Only.step (Device.raiseRated_only ..) rfl ?_
      refine Only.step (Device.setSaf_only ..) rfl ?_
      exact Only.refl
    · extract_lets +onlyGivenNames d2
      refine Only.cut d2 ?_ fun hd2 => ?_
      · subst d2
        refine Only.step (Device.setSaf_only ..) rfl ?_
        exact Only.refl
      clear_value d2
      extract_lets +onlyGivenNames d3
      refine Only.cut d3 ?_ fun hd3 => ?_
      · subst d3
        refine Only.step (Device.raise_only ..) rfl ?_
        assumption
      clear_value d3
      extract_lets +onlyGivenNames d4
      refine Only.cut d4 ?_ fun hd4 => ?_
      · subst d4
        refine Only.step (Device.setSrc_only ..) rfl ?_
        refine Only.step (Device.inputInactive_only ..) rfl ?_
        assumption
      clear_value d4
      refine Only.fst_mk ?_
      refine Only.step (Device.driveOutputs_only ..) rfl ?_
      assumption
theorem Device.sinFault_only (d : Device) (n : Nat) (cause : Nat) : Only [.safety] d (Device.sinFault d n cause) := by
  unfold Device.sinFault
  refine Only.ite ?_ ?_
  · exact Only.refl
  · refine Only.step (Device.raise_only ..) rfl ?_
    refine Only.step (Device.setSin_only ..) rfl ?_
    exact Only.refl
theorem Device.sinReset_only (d : Device) (n : Nat) : Only [.prot, .safety] d (Device.sinReset d n) := by
  unfold Device.sinReset
  extract_lets +onlyGivenNames x1
  refine Only.ite ?_ ?_
  · refine Only.step (Device.setSin_only ..) rfl ?_
    exact Only.refl
  · split
    · refine Only.step (Device.setSin_only ..) rfl ?_
      exact Only.refl
    · extract_lets +onlyGivenNames d2
      refine Only.cut d2 ?_ fun hd2 => ?_
      · subst d2
        refine Only.step (Device.setSin_only ..) rfl ?_
        exact Only.refl
      clear_value d2
      extract_lets +onlyGivenNames held3
      refine Only.ite ?_ ?_
      · refine Only.step (Device.safetyReset_only ..) rfl ?_
        assumption
      · assumption
    · exact Only.refl
theorem Device.sinTransitions_only (d : Device) (n : Nat) : Only [.safety] d (Device.sinTransitions d n) := by
  unfold Device.sinTransitions
  extract_lets +onlyGivenNames x1
  split
  refine Only.ite ?_ ?_
  · exact Only.refl
  · extract_lets +onlyGivenNames note2
    extract_lets +onlyGivenNames ta3
    extract_lets +onlyGivenNames tb4
    extract_lets +onlyGivenNames d5
    refine Only.cut d5 ?_ fun hd5 => ?_
    · subst d5
      refine Only.step (Device.setSin_only ..) rfl ?_
      exact Only.refl
    clear_value d5
    extract_lets +onlyGivenNames full6
    refine Only.ite ?_ ?_
    · refine Only.step (Device.sinFault_only ..) rfl ?_
      assumption
    · assumption
theorem Device.evalInputs_only (d : Device) : Only [.traj, .brk, .seq, .modu, .prot, .safety, .conv] d (Device.evalInputs d) := by
  unfold Device.evalInputs
  refine Only.ite ?_ ?_
  · exact Only.refl
  · extract_lets +onlyGivenNames d1
    refine Only.cut d1 ?_ fun hd1 => ?_
    · subst d1
      refine Only.foldl (fun x2 b3 hx2 => ?_) ?_
      · extract_lets +onlyGivenNames d4
        refine Only.cut d4 ?_ fun hd4 => ?_
        · subst d4
          refine Only.step (Device.sinTransitions_only ..) rfl ?_
          assumption
        clear_value d4
        extract_lets +onlyGivenNames agree5
        extract_lets +onlyGivenNames span6
        extract_lets +onlyGivenNames d7
        refine Only.cut d7 ?_ fun hd7 => ?_
        · subst d7
          refine Only.step (Device.setSin_only ..) rfl ?_
          assumption
        clear_value d7
        extract_lets +onlyGivenNames on8
        extract_lets +onlyGivenNames d9
        refine Only.cut d9 ?_ fun hd9 => ?_
        · subst d9
          refine Only.foldl (fun x10 b11 hx10 => ?_) ?_
          · refine Only.step (Device.demandSet_only ..) rfl ?_
            assumption
          · assumption
        clear_value d9
        refine Only.step (Device.sinReset_only ..) rfl ?_
        assumption
      · exact Only.refl
    clear_value d1
    refine Only.step (Device.setSaf_only ..) rfl ?_
    assumption
theorem Device.soutFault_only (d : Device) (n : Nat) (sw : Nat) : Only [.safety] d (Device.soutFault d n sw) := by
  unfold Device.soutFault
  extract_lets +onlyGivenNames d1
  refine Only.cut d1 ?_ fun hd1 => ?_
  · subst d1
    refine Only.step (Device.setSout_only ..) rfl ?_
    exact Only.refl
  clear_value d1
  refine Only.step (Device.raise_only ..) rfl ?_
  refine Only.step (Device.driveOutputs_only ..) rfl ?_
  assumption
theorem Device.scFollow_only (d : Device) : Only [.safety] d (Device.scFollow d) := by
  unfold Device.scFollow
  refine Only.ite ?_ ?_
  · refine Only.ite ?_ ?_
    · exact Only.refl
    · extract_lets +onlyGivenNames d1
      refine Only.cut d1 ?_ fun hd1 => ?_
      · subst d1
        refine Only.step (Device.setSafe_only ..) rfl ?_
        exact Only.refl
      clear_value d1
      refine Only.foldl (fun x2 b3 hx2 => ?_) ?_
      · refine Only.step (Device.demandOff_only ..) rfl ?_
        refine Only.step (Device.demandOff_only ..) rfl ?_
        assumption
      · assumption
  · refine Only.ite ?_ ?_
    · refine Only.step (Device.setSafe_only ..) rfl ?_
      exact Only.refl
    · exact Only.refl
theorem Device.scReturn_only (d : Device) : Only [.safety] d (Device.scReturn d) := by
  unfold Device.scReturn
  refine Only.ite ?_ ?_
  · refine Only.step (Device.setSafe_only ..) rfl ?_
    exact Only.refl
  · exact Only.refl
theorem Device.fallBack_only (d : Device) (cause : Nat) : Only [.traj, .brk, .seq, .modu, .prot, .safety, .posts, .conv, .eh] d (Device.fallBack d cause) := by
  unfold Device.fallBack
  refine Only.ite ?_ ?_
  · exact Only.refl
  · extract_lets +onlyGivenNames d1
    refine Only.cut d1 ?_ fun hd1 => ?_
    · subst d1
      refine Only.step (Device.setSaf_only ..) rfl ?_
      exact Only.refl
    clear_value d1
    extract_lets +onlyGivenNames d2
    refine Only.cut d2 ?_ fun hd2 => ?_
    · subst d2
      refine Only.ite ?_ ?_
      · assumption
      · refine Only.step (Device.msix_only ..) rfl ?_
        refine Only.step (Device.raise_only ..) rfl ?_
        refine Only.step (Device.setEh_only ..) rfl ?_
        assumption
    clear_value d2
    extract_lets +onlyGivenNames d3
    refine Only.cut d3 ?_ fun hd3 => ?_
    · subst d3
      refine Only.step (Device.demandOn_only ..) rfl ?_
      assumption
    clear_value d3
    refine Only.foldl (fun x4 b5 hx4 => ?_) ?_
    · refine Only.ite ?_ ?_
      · refine Only.step (Device.demandOn_only ..) rfl ?_
        assumption
      · assumption
    · assumption
theorem Device.slpSample_only (d : Device) : Only [.safety] d (Device.slpSample d) := by
  unfold Device.slpSample
  extract_lets +onlyGivenNames v1
  extract_lets +onlyGivenNames a2
  extract_lets +onlyGivenNames b3
  extract_lets +onlyGivenNames p4
  extract_lets +onlyGivenNames ok5
  refine Only.step (Device.setSaf_only ..) rfl ?_
  exact Only.refl
theorem Device.statusPdu_only (d : Device) (start : Bool) : Only [.safety, .net] d (Device.statusPdu d start) := by
  unfold Device.statusPdu
  extract_lets +onlyGivenNames f1
  extract_lets +onlyGivenNames cn2
  split
  rename_i q3
  refine Only.cut _ (Only.of_snd q3 ?_) fun hx4 => ?_
  · refine Only.step (Device.quant_only ..) rfl ?_
    exact Only.refl
  extract_lets +onlyGivenNames power5
  extract_lets +onlyGivenNames b46
  extract_lets +onlyGivenNames b57
  extract_lets +onlyGivenNames b68
  extract_lets +onlyGivenNames b79
  extract_lets +onlyGivenNames head10
  extract_lets +onlyGivenNames pdu11
  extract_lets +onlyGivenNames d12
  refine Only.cut d12 ?_ fun hd12 => ?_
  · subst d12
    refine Only.step (Device.setSafe_only ..) rfl ?_
    assumption
  clear_value d12
  refine Only.step (Device.safeSend_only ..) rfl ?_
  assumption
theorem Device.pduAccept_only (d : Device) (cn : Nat) (b : List (BitVec 8)) (start : Bool) : Only [.traj, .brk, .seq, .modu, .prot, .safety, .conv, .net] d (Device.pduAccept d cn b start) := by
  unfold Device.pduAccept
  extract_lets +onlyGivenNames permit1
  extract_lets +onlyGivenNames reset2
  extract_lets +onlyGivenNames rise3
  extract_lets +onlyGivenNames ends4
  extract_lets +onlyGivenNames d5
  refine Only.cut d5 ?_ fun hd5 => ?_
  · subst d5
    refine Only.step (Device.setSafe_only ..) rfl ?_
    exact Only.refl
  clear_value d5
  extract_lets +onlyGivenNames d6
  refine Only.cut d6 ?_ fun hd6 => ?_
  · subst d6
    refine Only.foldl (fun x7 b8 hx7 => ?_) ?_
    · refine Only.step (Device.demandSet_only ..) rfl ?_
      assumption
    · assumption
  clear_value d6
  extract_lets +onlyGivenNames d9
  refine Only.cut d9 ?_ fun hd9 => ?_
  · subst d9
    refine Only.ite ?_ ?_
    · refine Only.foldl (fun x10 b11 hx10 => ?_) ?_
      · refine Only.step (Device.demandOff_only ..) rfl ?_
        assumption
      · assumption
    · assumption
  clear_value d9
  extract_lets +onlyGivenNames d12
  refine Only.cut d12 ?_ fun hd12 => ?_
  · subst d12
    refine Only.step (Device.setSaf_only ..) rfl ?_
    assumption
  clear_value d12
  extract_lets +onlyGivenNames d13
  refine Only.cut d13 ?_ fun hd13 => ?_
  · subst d13
    refine Only.ite ?_ ?_
    · refine Only.step (Device.safetyReset_only ..) rfl ?_
      assumption
    · assumption
  clear_value d13
  refine Only.step (Device.statusPdu_only ..) rfl ?_
  assumption
theorem Device.pduDiscard_only (d : Device) (bad : Bool) : Only [.safety] d (Device.pduDiscard d bad) := by
  unfold Device.pduDiscard
  refine Only.step (Device.setSafe_only ..) rfl ?_
  exact Only.refl
theorem Device.bailsilReset_only (d : Device) : Only [.traj, .brk, .seq, .modu, .prot, .safety, .conv] d (Device.bailsilReset d) := by
  unfold Device.bailsilReset
  extract_lets +onlyGivenNames f1
  extract_lets +onlyGivenNames fresh2
  extract_lets +onlyGivenNames fresh3
  extract_lets +onlyGivenNames d4
  refine Only.cut d4 ?_ fun hd4 => ?_
  · subst d4
    refine Only.foldl (fun x5 b6 hx5 => ?_) ?_
    · refine Only.step (Device.latchFn_only ..) rfl ?_
      assumption
    · exact Only.refl
  clear_value d4
  extract_lets +onlyGivenNames d7
  refine Only.cut d7 ?_ fun hd7 => ?_
  · subst d7
    refine Only.step (Device.setSaf_only ..) rfl ?_
    assumption
  clear_value d7
  refine Only.step (Device.driveOutputs_only ..) rfl ?_
  refine Only.step (Device.evalInputs_only ..) rfl ?_
  refine Only.step (Device.inputActive_only ..) rfl ?_
  refine Only.step (Device.scFollow_only ..) rfl ?_
  refine Only.step (Device.safetyCopy_only ..) rfl ?_
  assumption
theorem Device.afterMove_only (d : Device) (n : Nat) : Only [.traj, .brk, .seq, .modu, .packs, .prot, .safety, .conv] d (Device.afterMove d n) := by
  unfold Device.afterMove
  refine Only.ite ?_ ?_
  · exact Only.refl
  · refine Only.step (Device.driveOutputs_only ..) rfl ?_
    refine Only.step (Device.evalInputs_only ..) rfl ?_
    refine Only.step (Device.scFollow_only ..) rfl ?_
    refine Only.step (Device.safetyCopy_only ..) rfl ?_
    refine Only.step (Device.applyProfiles_only ..) rfl ?_
    exact Only.refl
theorem execSafetyInputChange_only (t : Tick) (n : Fin 4) (chB : Bool) (level : Bool) (heldNs : Rat) (s s' : State) (hq : s.Quiet) (h : execSafetyInputChange t n chB level heldNs s = .next s') : Only [.traj, .brk, .seq, .modu, .prot, .safety, .conv] (s.dev.ready t) s'.dev := by
  refine State.on_only hq h fun d => ?_
  extract_lets +onlyGivenNames d1
  refine Only.cut d1 ?_ fun hd1 => ?_
  · subst d1
    refine Only.step (Device.setSaf_only ..) rfl ?_
    exact Only.refl
  clear_value d1
  extract_lets +onlyGivenNames x2
  refine Only.ite ?_ ?_
  · assumption
  · extract_lets +onlyGivenNames edge3
    refine Only.step (Device.evalInputs_only ..) rfl ?_
    refine Only.step (Device.setSin_only ..) rfl ?_
    assumption
theorem execSinDiscrepancy_only (t : Tick) (n : Fin 4) (s s' : State) (hq : s.Quiet) (h : execSinDiscrepancy t n s = .next s') : Only [.traj, .brk, .seq, .modu, .prot, .safety, .conv] (s.dev.ready t) s'.dev := by
  refine State.on_only hq h fun d => ?_
  split
  · exact Only.refl
  · refine Only.ite ?_ ?_
    · refine Only.step (Device.evalInputs_only ..) rfl ?_
      refine Only.step (Device.sinFault_only ..) rfl ?_
      exact Only.refl
    · exact Only.refl
theorem execTpaTpbTestPulse_only (t : Tick) (tpb : Bool) (s s' : State) (hq : s.Quiet) (h : execTpaTpbTestPulse t tpb s = .next s') : Only [.traj, .brk, .seq, .modu, .prot, .safety, .conv] (s.dev.ready t) s'.dev := by
  refine State.on_only hq h fun d => ?_
  extract_lets +onlyGivenNames f1
  extract_lets +onlyGivenNames due2
  refine Only.ite ?_ ?_
  · exact Only.refl
  · refine Only.step (Device.evalInputs_only ..) rfl ?_
    refine Only.step (Device.setSaf_only ..) rfl ?_
    exact Only.refl
theorem execSinPulseMissed_only (t : Tick) (n : Fin 4) (chB : Bool) (cross : Bool) (s s' : State) (hq : s.Quiet) (h : execSinPulseMissed t n chB cross s = .next s') : Only [.traj, .brk, .seq, .modu, .prot, .safety, .conv] (s.dev.ready t) s'.dev := by
  refine State.on_only hq h fun d => ?_
  extract_lets +onlyGivenNames x1
  extract_lets +onlyGivenNames level2
  extract_lets +onlyGivenNames fell3
  extract_lets +onlyGivenNames rose4
  split
  · exact Only.refl
  · refine Only.ite ?_ ?_
    · exact Only.refl
    · refine Only.ite ?_ ?_
      · refine Only.ite ?_ ?_
        · refine Only.step (Device.evalInputs_only ..) rfl ?_
          refine Only.step (Device.sinFault_only ..) rfl ?_
          exact Only.refl
        · exact Only.refl
      · refine Only.ite ?_ ?_
        · refine Only.step (Device.evalInputs_only ..) rfl ?_
          refine Only.step (Device.sinFault_only ..) rfl ?_
          exact Only.refl
        · exact Only.refl
theorem execTestPulseStart_only (t : Tick) (n : Fin 6) (s s' : State) (hq : s.Quiet) (h : execTestPulseStart t n s = .next s') : Only [.safety] (s.dev.ready t) s'.dev := by
  refine State.on_only hq h fun d => ?_
  extract_lets +onlyGivenNames x1
  refine Only.ite ?_ ?_
  · exact Only.refl
  · refine Only.step (Device.driveOutputs_only ..) rfl ?_
    refine Only.step (Device.setSout_only ..) rfl ?_
    exact Only.refl
theorem execTestPulseEnd_only (t : Tick) (n : Fin 6) (pass : Bool) (s s' : State) (hq : s.Quiet) (h : execTestPulseEnd t n pass s = .next s') : Only [.safety] (s.dev.ready t) s'.dev := by
  refine State.on_only hq h fun d => ?_
  extract_lets +onlyGivenNames x1
  refine Only.ite ?_ ?_
  · exact Only.refl
  · extract_lets +onlyGivenNames d2
    refine Only.cut d2 ?_ fun hd2 => ?_
    · subst d2
      refine Only.step (Device.setSout_only ..) rfl ?_
      exact Only.refl
    clear_value d2
    refine Only.ite ?_ ?_
    · refine Only.step (Device.driveOutputs_only ..) rfl ?_
      refine Only.step (Device.setSaf_only ..) rfl ?_
      refine Only.step (Device.setSout_only ..) rfl ?_
      assumption
    · refine Only.ite ?_ ?_
      · refine Only.step (Device.driveOutputs_only ..) rfl ?_
        refine Only.step (Device.setSaf_only ..) rfl ?_
        refine Only.step (Device.setSout_only ..) rfl ?_
        assumption
      · refine Only.step (Device.soutFault_only ..) rfl ?_
        refine Only.step (Device.setSaf_only ..) rfl ?_
        assumption
theorem execSoutReadbackMismatch_only (t : Tick) (n : Fin 6) (on : Bool) (ls : Bool) (s s' : State) (hq : s.Quiet) (h : execSoutReadbackMismatch t n on ls s = .next s') : Only [.safety] (s.dev.ready t) s'.dev := by
  refine State.on_only hq h fun d => ?_
  extract_lets +onlyGivenNames x1
  extract_lets +onlyGivenNames cmd2
  refine Only.ite ?_ ?_
  · exact Only.refl
  · refine Only.ite ?_ ?_
    · refine Only.step (Device.soutFault_only ..) rfl ?_
      exact Only.refl
    · refine Only.ite ?_ ?_
      · refine Only.step (Device.soutFault_only ..) rfl ?_
        exact Only.refl
      · exact Only.refl
theorem execSwitchCheckDone_only (t : Tick) (n : Fin 6) (pass : Bool) (ls : Bool) (s s' : State) (hq : s.Quiet) (h : execSwitchCheckDone t n pass ls s = .next s') : Only [.safety] (s.dev.ready t) s'.dev := by
  refine State.on_only hq h fun d => ?_
  extract_lets +onlyGivenNames x1
  extract_lets +onlyGivenNames w2
  refine Only.ite ?_ ?_
  · exact Only.refl
  · refine Only.ite ?_ ?_
    · refine Only.ite ?_ ?_
      · refine Only.step (Device.driveOutputs_only ..) rfl ?_
        refine Only.step (Device.setSout_only ..) rfl ?_
        exact Only.refl
      · exact Only.refl
    · refine Only.ite ?_ ?_
      · refine Only.step (Device.soutFault_only ..) rfl ?_
        exact Only.refl
      · exact Only.refl
theorem execChannelComparison_only (t : Tick) (differs : Bool) (oscBad : Bool) (s s' : State) (hq : s.Quiet) (h : execChannelComparison t differs oscBad s = .next s') : Only [.traj, .brk, .seq, .modu, .prot, .safety, .posts, .conv] (s.dev.ready t) s'.dev := by
  refine State.on_only hq h fun d => ?_
  refine Only.ite ?_ ?_
  · exact Only.refl
  · extract_lets +onlyGivenNames d1
    refine Only.cut d1 ?_ fun hd1 => ?_
    · subst d1
      refine Only.step (Device.setSaf_only ..) rfl ?_
      exact Only.refl
    clear_value d1
    refine Only.ite ?_ ?_
    · refine Only.step (Device.bailsilSafeHold_only ..) rfl ?_
      assumption
    · refine Only.step (Device.driveOutputs_only ..) rfl ?_
      refine Only.step (Device.evalInputs_only ..) rfl ?_
      refine Only.step (Device.scFollow_only ..) rfl ?_
      refine Only.step (Device.scReturn_only ..) rfl ?_
      assumption
theorem execHeartbeat_only (t : Tick) (flip : BitVec 4) (seq : Nat) (s s' : State) (hq : s.Quiet) (h : execHeartbeat t flip seq s = .next s') : Only [.traj, .brk, .seq, .modu, .prot, .safety, .conv] (s.dev.ready t) s'.dev := by
  refine State.on_only hq h fun d => ?_
  refine Only.ite ?_ ?_
  · exact Only.refl
  · extract_lets +onlyGivenNames d1
    refine Only.cut d1 ?_ fun hd1 => ?_
    · subst d1
      refine Only.step (Device.demandSet_only ..) rfl ?_
      exact Only.refl
    clear_value d1
    extract_lets +onlyGivenNames own2
    extract_lets +onlyGivenNames p3
    extract_lets +onlyGivenNames d4
    refine Only.cut d4 ?_ fun hd4 => ?_
    · subst d4
      refine Only.step (Device.setSaf_only ..) rfl ?_
      assumption
    clear_value d4
    refine Only.foldl (fun x5 b6 hx5 => ?_) ?_
    · refine Only.step (Device.demandSet_only ..) rfl ?_
      assumption
    · assumption
theorem execHeartbeatTimeout_only (t : Tick) (s s' : State) (hq : s.Quiet) (h : execHeartbeatTimeout t s = .next s') : Only [.traj, .brk, .seq, .modu, .prot, .safety, .posts, .conv, .eh] (s.dev.ready t) s'.dev := by
  refine State.on_only hq h fun d => ?_
  refine Only.ite ?_ ?_
  · refine Only.step (Device.fallBack_only ..) rfl ?_
    exact Only.refl
  · exact Only.refl
theorem execLockstepMismatch_only (t : Tick) (s s' : State) (hq : s.Quiet) (h : execLockstepMismatch t s = .next s') : Only [.traj, .brk, .seq, .modu, .prot, .safety, .posts, .conv, .eh] (s.dev.ready t) s'.dev := by
  refine State.on_only hq h fun d => ?_
  refine Only.step (Device.fallBack_only ..) rfl ?_
  exact Only.refl
theorem execChannelDisagreementTimeout_only (t : Tick) (s s' : State) (hq : s.Quiet) (h : execChannelDisagreementTimeout t s = .next s') : Only [.traj, .brk, .seq, .modu, .prot, .safety, .posts, .conv, .eh] (s.dev.ready t) s'.dev := by
  refine State.on_only hq h fun d => ?_
  refine Only.ite ?_ ?_
  · refine Only.step (Device.fallBack_only ..) rfl ?_
    exact Only.refl
  · exact Only.refl
theorem execSciDelayExpiry_only (t : Tick) (s s' : State) (hq : s.Quiet) (h : execSciDelayExpiry t s = .next s') : Only [.safety] (s.dev.ready t) s'.dev := by
  refine State.on_only hq h fun d => ?_
  refine Only.ite ?_ ?_
  · exact Only.refl
  · extract_lets +onlyGivenNames cells1
    refine Only.step (Device.driveOutputs_only ..) rfl ?_
    refine Only.step (Device.setSaf_only ..) rfl ?_
    exact Only.refl
theorem execSciConfirmExpiry_only (t : Tick) (s s' : State) (hq : s.Quiet) (h : execSciConfirmExpiry t s = .next s') : Only [.safety] (s.dev.ready t) s'.dev := by
  refine State.on_only hq h fun d => ?_
  split
  · exact Only.refl
  · refine Only.ite ?_ ?_
    · exact Only.refl
    · extract_lets +onlyGivenNames cls1
      extract_lets +onlyGivenNames of2
      extract_lets +onlyGivenNames un3
      extract_lets +onlyGivenNames mask4
      extract_lets +onlyGivenNames d5
      refine Only.cut d5 ?_ fun hd5 => ?_
      · subst d5
        refine Only.step (Device.setSaf_only ..) rfl ?_
        exact Only.refl
      clear_value d5
      extract_lets +onlyGivenNames d6
      refine Only.cut d6 ?_ fun hd6 => ?_
      · subst d6
        refine Only.step (Device.raise_only ..) rfl ?_
        assumption
      clear_value d6
      refine Only.foldl (fun x7 b8 hx7 => ?_) ?_
      · refine Only.step (Device.raise_only ..) rfl ?_
        assumption
      · assumption
theorem execSlpMonitor_only (t : Tick) (s s' : State) (hq : s.Quiet) (h : execSlpMonitor t s = .next s') : Only [.traj, .brk, .seq, .modu, .prot, .safety, .conv] (s.dev.ready t) s'.dev := by
  refine State.on_only hq h fun d => ?_
  refine Only.ite ?_ ?_
  · exact Only.refl
  · extract_lets +onlyGivenNames f1
    extract_lets +onlyGivenNames target2
    extract_lets +onlyGivenNames ramp3
    extract_lets +onlyGivenNames step4
    extract_lets +onlyGivenNames limit5
    extract_lets +onlyGivenNames n6
    extract_lets +onlyGivenNames mean7
    extract_lets +onlyGivenNames a8
    extract_lets +onlyGivenNames b9
    extract_lets +onlyGivenNames p10
    extract_lets +onlyGivenNames ovr11
    extract_lets +onlyGivenNames d12
    refine Only.cut d12 ?_ fun hd12 => ?_
    · subst d12
      refine Only.step (Device.setSaf_only ..) rfl ?_
      exact Only.refl
    clear_value d12
    refine Only.ite ?_ ?_
    · refine Only.ite ?_ ?_
      · assumption
      · split
        rename_i q13
        refine Only.cut _ (Only.of_snd q13 ?_) fun hx14 => ?_
        · refine Only.step (Device.quant_only ..) rfl ?_
          assumption
        refine Only.step (Device.demandOn_only ..) rfl ?_
        refine Only.step (Device.raise_only ..) rfl ?_
        refine Only.step (Device.setSaf_only ..) rfl ?_
        assumption
    · refine Only.ite ?_ ?_
      · refine Only.step (Device.demandOff_only ..) rfl ?_
        refine Only.step (Device.setSaf_only ..) rfl ?_
        assumption
      · assumption
theorem execSafeRemind_only (t : Tick) (fn : Fin 4) (src : Fin 12) (s s' : State) (hq : s.Quiet) (h : execSafeRemind t fn src s = .next s') : Only [.safety] (s.dev.ready t) s'.dev := by
  refine State.on_only hq h fun d => ?_
  split
  · exact Only.refl
  · extract_lets +onlyGivenNames n1
    refine Only.ite ?_ ?_
    · exact Only.refl
    · refine Only.step (Device.reminder_only ..) rfl ?_
      refine Only.step (Device.setSaf_only ..) rfl ?_
      exact Only.refl
theorem execSafeChannelPdu_only (t : Tick) (s s' : State) (hq : s.Quiet) (h : execSafeChannelPdu t s = .next s') : Only [.traj, .brk, .seq, .modu, .prot, .safety, .conv, .net] (s.dev.ready t) s'.dev := by
  refine State.on_only hq h fun d => ?_
  split
  · exact Only.refl
  · extract_lets +onlyGivenNames d1
    refine Only.cut d1 ?_ fun hd1 => ?_
    · subst d1
      refine Device.setNet_set (.inl rfl) (.inr fun _ => rfl) ?_
      exact Only.refl
    clear_value d1
    refine Only.ite ?_ ?_
    · assumption
    · extract_lets +onlyGivenNames b2
      extract_lets +onlyGivenNames start3
      extract_lets +onlyGivenNames check4
      refine Only.ite ?_ ?_
      · refine Only.step (Device.pduDiscard_only ..) rfl ?_
        assumption
      · refine Only.ite ?_ ?_
        · extract_lets +onlyGivenNames l5
          extract_lets +onlyGivenNames gap6
          extract_lets +onlyGivenNames cn7
          refine Only.ite ?_ ?_
          · refine Only.step (Device.pduDiscard_only ..) rfl ?_
            assumption
          · refine Only.ite ?_ ?_
            · assumption
            · refine Only.ite ?_ ?_
              · refine Only.step (Device.pduDiscard_only ..) rfl ?_
                assumption
              · refine Only.ite ?_ ?_
                · refine Only.step (Device.pduDiscard_only ..) rfl ?_
                  assumption
                · refine Only.step (Device.pduAccept_only ..) rfl ?_
                  assumption
        · refine Only.ite ?_ ?_
          · refine Only.step (Device.pduDiscard_only ..) rfl ?_
            assumption
          · refine Only.ite ?_ ?_
            · refine Only.step (Device.pduDiscard_only ..) rfl ?_
              assumption
            · refine Only.step (Device.pduAccept_only ..) rfl ?_
              assumption
theorem execSafeChannelWatchdogExpiry_only (t : Tick) (s s' : State) (hq : s.Quiet) (h : execSafeChannelWatchdogExpiry t s = .next s') : Only [.traj, .brk, .seq, .modu, .prot, .safety, .conv] (s.dev.ready t) s'.dev := by
  refine State.on_only hq h fun d => ?_
  refine Only.ite ?_ ?_
  · exact Only.refl
  · extract_lets +onlyGivenNames act1
    extract_lets +onlyGivenNames d2
    refine Only.cut d2 ?_ fun hd2 => ?_
    · subst d2
      refine Only.step (Device.setSafe_only ..) rfl ?_
      exact Only.refl
    clear_value d2
    extract_lets +onlyGivenNames d3
    refine Only.cut d3 ?_ fun hd3 => ?_
    · subst d3
      refine Only.step (Device.raise_only ..) rfl ?_
      assumption
    clear_value d3
    refine Only.foldl (fun x4 b5 hx4 => ?_) ?_
    · refine Only.ite ?_ ?_
      · refine Only.step (Device.demandOn_only ..) rfl ?_
        assumption
      · assumption
    · assumption
theorem execBailsilReset_only (t : Tick) (s s' : State) (hq : s.Quiet) (h : execBailsilReset t s = .next s') : Only [.traj, .brk, .seq, .modu, .prot, .safety, .conv] (s.dev.ready t) s'.dev := by
  refine State.on_only hq h fun d => ?_
  refine Only.step (Device.bailsilReset_only ..) rfl ?_
  exact Only.refl

/-! ## Frames -/

theorem Device.downlink_only (d : Device) (r : Nat) (seq : Nat) : Only [.packs, .link, .posts] d (Device.downlink d r seq).2 := by
  unfold Device.downlink
  refine Only.foldl_snd (fun x1 b2 hx1 => ?_) ?_
  · extract_lets +onlyGivenNames c3
    split
    · assumption
    · extract_lets +onlyGivenNames d4
      refine Only.cut d4 ?_ fun hd4 => ?_
      · subst d4
        refine Only.step (Device.setNode_only ..) rfl ?_
        assumption
      clear_value d4
      refine Only.snd_mk ?_
      refine Only.step (Device.tapRecord_only ..) rfl ?_
      assumption
  · refine Only.snd_mk ?_
    exact Only.refl
theorem Device.txnSent_only (d : Device) (t : NodeTxn) (seq : BitVec 16) : Only [.link, .mail, .posts] d (Device.txnSent d t seq) := by
  unfold Device.txnSent
  refine Only.ite ?_ ?_
  · refine Only.step (Device.complete_only ..) rfl ?_
    refine Only.step (Device.setLink_only ..) rfl ?_
    exact Only.refl
  · refine Only.step (Device.setLink_only ..) rfl ?_
    exact Only.refl
theorem Device.slowPick_only (d : Device) (r : Nat) (seq : BitVec 16) : Only [.link, .mail, .posts] d (Device.slowPick d r seq).2 := by
  unfold Device.slowPick
  split
  · refine Only.snd_mk ?_
    refine Only.ite ?_ ?_
    · refine Only.step (Device.setRing_only ..) rfl ?_
      exact Only.refl
    · exact Only.refl
  · extract_lets +onlyGivenNames host1
    split
    · split
      · refine Only.snd_mk ?_
        exact Only.refl
      · unfold host1
        split
        · refine Only.snd_mk ?_
          refine Only.step (Device.txnSent_only ..) rfl ?_
          exact Only.refl
        · refine Only.snd_mk ?_
          exact Only.refl
    · unfold host1
      split
      · refine Only.snd_mk ?_
        refine Only.step (Device.txnSent_only ..) rfl ?_
        exact Only.refl
      · refine Only.snd_mk ?_
        exact Only.refl
theorem Device.slowMissed_only (d : Device) : Only [.link] d (Device.slowMissed d) := by
  unfold Device.slowMissed
  extract_lets +onlyGivenNames lim1
  extract_lets +onlyGivenNames d2
  refine Only.cut d2 ?_ fun hd2 => ?_
  · subst d2
    refine Only.foldl (fun x3 b4 hx3 => ?_) ?_
    · extract_lets +onlyGivenNames g5
      extract_lets +onlyGivenNames open_6
      refine Only.ite ?_ ?_
      · assumption
      · extract_lets +onlyGivenNames d7
        refine Only.cut d7 ?_ fun hd7 => ?_
        · subst d7
          refine Only.step (Device.setRing_only ..) rfl ?_
          assumption
        clear_value d7
        refine Only.ite ?_ ?_
        · refine Only.step (Device.nodeAbsent_only ..) rfl ?_
          assumption
        · assumption
    · exact Only.refl
  clear_value d2
  refine Only.step (Device.setLink_only ..) rfl ?_
  assumption
theorem Device.corrOf_only (d : Device) (disc : Bool) : Only [] d (Device.corrOf d disc).2 := by
  unfold Device.corrOf
  split
  · refine Only.snd_mk ?_
    exact Only.refl
  · split
    rename_i q1
    refine Only.cut _ (Only.of_snd q1 ?_) fun hx2 => ?_
    · refine Only.step (Device.draw_only ..) rfl ?_
      exact Only.refl
    refine Only.snd_mk ?_
    assumption
theorem Device.launchRing_only (d : Device) (serves : Bool) (resume : Bool) (relayed : Bool) (r : Nat) : Only [.packs, .link, .mail, .posts] d (Device.launchRing d serves resume relayed r) := by
  unfold Device.launchRing
  refine Only.ite ?_ ?_
  · exact Only.refl
  · extract_lets +onlyGivenNames seqN1
    extract_lets +onlyGivenNames seq2
    extract_lets +onlyGivenNames disc3
    split
    rename_i q4
    refine Only.cut _ (Only.of_snd q4 ?_) fun hx5 => ?_
    · refine Only.step (Device.slowPick_only ..) rfl ?_
      exact Only.refl
    split
    rename_i q6
    refine Only.cut _ (Only.of_snd q6 ?_) fun hx7 => ?_
    · split
      · refine Only.snd_mk ?_
        assumption
      · refine Only.step (Device.downlink_only ..) rfl ?_
        assumption
    extract_lets +onlyGivenNames slots8
    extract_lets +onlyGivenNames mk9
    extract_lets +onlyGivenNames mk10
    refine Only.foldl (fun x11 b12 hx11 => ?_) ?_
    · split
      rename_i q13
      refine Only.cut _ (Only.of_snd q13 ?_) fun hx14 => ?_
      · refine Only.step (Device.corrOf_only ..) rfl ?_
        assumption
      extract_lets +onlyGivenNames f15
      refine Only.step (Device.setLink_only ..) rfl ?_
      assumption
    · assumption

/-! ## Twinning -/

theorem Device.setTArm_only (d : Device) (a : Nat) (f : TwinArm → TwinArm) : Only [.twin] d (Device.setTArm d a f) := by
  unfold Device.setTArm
  refine Only.step (Device.setTwin_only ..) rfl ?_
  exact Only.refl
theorem Device.twinStatus_only (d : Device) : Only [.twin] d (Device.twinStatus d) := by
  unfold Device.twinStatus
  refine Only.ite ?_ ?_
  · exact Only.refl
  · extract_lets +onlyGivenNames fails1
    extract_lets +onlyGivenNames w2
    extract_lets +onlyGivenNames ready3
    extract_lets +onlyGivenNames able4
    extract_lets +onlyGivenNames expired5
    extract_lets +onlyGivenNames x6
    extract_lets +onlyGivenNames serving7
    extract_lets +onlyGivenNames on8
    extract_lets +onlyGivenNames first9
    extract_lets +onlyGivenNames claims10
    extract_lets +onlyGivenNames lost11
    extract_lets +onlyGivenNames d12
    refine Only.cut d12 ?_ fun hd12 => ?_
    · subst d12
      refine Only.step (Device.setTwin_only ..) rfl ?_
      exact Only.refl
    clear_value d12
    refine Only.ite ?_ ?_
    · assumption
    · refine Only.step (Device.raise_only ..) rfl ?_
      assumption
theorem Device.block_by {K : List Region} {d e : Device} {good : Bool} {f : Device → Device} (hk : sub [.twin] K = true) (hf : ∀ y, Only K d y → Only K d (f y)) (h : Only K d e) :
    Only K d (e.block good f) :=
  have hp : Only K d (e.pmcPulse 4 6 1) := Only.step (Device.pmcPulse_only ..) rfl h
  Only.ite h (Only.ite (Only.step (Device.setTwin_only ..) hk hp) (Only.ite hp (Only.step (Device.twinStatus_only ..) hk (hf _ hp))))
theorem Device.yieldMaster_only (d : Device) (b : PeerBeacon) : Only [.twin, .clk] d (Device.yieldMaster d b) := by
  unfold Device.yieldMaster
  refine Only.ite ?_ ?_
  · exact Only.refl
  · extract_lets +onlyGivenNames same1
    extract_lets +onlyGivenNames yields2
    refine Only.ite ?_ ?_
    · exact Only.refl
    · extract_lets +onlyGivenNames d3
      refine Only.cut d3 ?_ fun hd3 => ?_
      · subst d3
        refine Only.step (Device.setTwin_only ..) rfl ?_
        exact Only.refl
      clear_value d3
      refine Only.ite ?_ ?_
      · assumption
      · refine Only.step (Device.raise_only ..) rfl ?_
        refine Only.step (Device.setClk_only ..) rfl ?_
        assumption
theorem Device.followState_only (d : Device) (b : PeerBeacon) : Only [.stations, .meas, .law, .ride, .traj, .brk, .seq, .modu, .packs, .link, .prot, .safety, .par, .posts, .conv, .clk, .net, .soffit, .recd] d (Device.followState d b) := by
  unfold Device.followState
  extract_lets +onlyGivenNames upTo1
  refine Only.ite ?_ ?_
  · exact Only.refl
  · extract_lets +onlyGivenNames fresh2
    extract_lets +onlyGivenNames n3
    extract_lets +onlyGivenNames d4
    refine Only.cut d4 ?_ fun hd4 => ?_
    · subst d4
      refine Only.step (Device.afterMove_only ..) rfl ?_
      refine Only.step (Device.transition_only ..) rfl ?_
      exact Only.refl
    clear_value d4
    refine Only.ite ?_ ?_
    · assumption
    · refine Only.foldl (fun x5 b6 hx5 => ?_) ?_
      · extract_lets +onlyGivenNames n7
        refine Only.ite ?_ ?_
        · assumption
        · extract_lets +onlyGivenNames d8
          refine Only.cut d8 ?_ fun hd8 => ?_
          · subst d8
            refine Only.step (Device.setRing_only ..) rfl ?_
            assumption
          clear_value d8
          refine Only.foldl (fun x9 b10 hx9 => ?_) ?_
          · refine Only.step (Device.setNode_only ..) rfl ?_
            assumption
          · assumption
      · assumption
theorem Device.answerAsks_only (d : Device) (b : PeerBeacon) : Only [.twin] d (Device.answerAsks d b) := by
  unfold Device.answerAsks
  refine Only.foldl (fun x1 b2 hx1 => ?_) ?_
  · refine Only.ite ?_ ?_
    · refine Only.step (Device.setTArm_only ..) rfl ?_
      assumption
    · extract_lets +onlyGivenNames cells3
      extract_lets +onlyGivenNames n4
      extract_lets +onlyGivenNames part5
      extract_lets +onlyGivenNames m6
      extract_lets +onlyGivenNames d7
      refine Only.cut d7 ?_ fun hd7 => ?_
      · subst d7
        refine Only.step (Device.activeSend_only ..) rfl ?_
        assumption
      clear_value d7
      refine Only.step (Device.setTArm_only ..) rfl ?_
      assumption
  · exact Only.refl
theorem Device.withCopy_only (d : Device) (arm : Nat) (r : ArmRecord) (ins : List (Rat × Nat)) : Only [.modu, .gates] d (Device.withCopy d arm r ins) := by
  unfold Device.withCopy
  extract_lets +onlyGivenNames x1
  extract_lets +onlyGivenNames c2
  extract_lets +onlyGivenNames cells3
  extract_lets +onlyGivenNames put4
  extract_lets +onlyGivenNames gput5
  refine Device.setProt_set (.inr fun _ => rfl) (.inl rfl) ?_
  refine Only.step (Device.setModu_only ..) rfl ?_
  exact Only.refl
theorem Device.relaySchedule_only (d : Device) (arm : Nat) (resume : Bool) : Only [.modu, .prot, .gates, .twin] d (Device.relaySchedule d arm resume) := by
  unfold Device.relaySchedule
  extract_lets +onlyGivenNames x1
  split
  · refine Only.ite ?_ ?_
    · exact Only.refl
    · extract_lets +onlyGivenNames e2
      refine Only.cut e2 ?_ fun he2 => ?_
      · subst e2
        refine Only.step (Device.withCopy_only ..) rfl ?_
        exact Only.refl
      clear_value e2
      extract_lets +onlyGivenNames first3
      extract_lets +onlyGivenNames e4
      refine Only.cut e4 ?_ fun he4 => ?_
      · subst e4
        refine Only.ite ?_ ?_
        · refine Only.step (Device.setModu_only ..) rfl ?_
          assumption
        · assumption
      clear_value e4
      extract_lets +onlyGivenNames e5
      refine Only.cut e5 ?_ fun he5 => ?_
      · subst e5
        refine Only.ite ?_ ?_
        · refine Only.step (Device.circLoop_only ..) rfl ?_
          assumption
        · assumption
      clear_value e5
      extract_lets +onlyGivenNames e6
      refine Only.cut e6 ?_ fun he6 => ?_
      · subst e6
        refine Only.ite ?_ ?_
        · refine Only.step (Device.resumeArm_only ..) rfl ?_
          assumption
        · refine Only.step (Device.scheduleCore_only ..) rfl ?_
          assumption
      clear_value e6
      extract_lets +onlyGivenNames cells7
      extract_lets +onlyGivenNames m8
      refine Only.step (Device.setTwin_only ..) rfl ?_
      refine Only.step (Device.setTArm_only ..) rfl ?_
      refine Only.set_fresh ?_
      exact Only.refl
  · exact Only.refl
theorem Device.compareStream_only (d : Device) (x : Nat) (peer : Int) : Only [.twin] d (Device.compareStream d x peer) := by
  unfold Device.compareStream
  refine Only.ite ?_ ?_
  · exact Only.refl
  · extract_lets +onlyGivenNames own1
    extract_lets +onlyGivenNames n2
    extract_lets +onlyGivenNames far3
    extract_lets +onlyGivenNames s4
    extract_lets +onlyGivenNames s'5
    extract_lets +onlyGivenNames s'6
    extract_lets +onlyGivenNames d7
    refine Only.cut d7 ?_ fun hd7 => ?_
    · subst d7
      refine Only.step (Device.setTwin_only ..) rfl ?_
      exact Only.refl
    clear_value d7
    refine Only.ite ?_ ?_
    · refine Only.step (Device.raiseRated_only ..) rfl ?_
      assumption
    · assumption
theorem Device.mismatch_only (d : Device) (arm : Nat) : Only [.twin] d (Device.mismatch d arm) := by
  unfold Device.mismatch
  extract_lets +onlyGivenNames run1
  extract_lets +onlyGivenNames lost2
  refine Only.step (Device.setTwin_only ..) rfl ?_
  refine Only.step (Device.setTArm_only ..) rfl ?_
  exact Only.refl
theorem Device.decideArm_only (d : Device) (arm : Nat) : Only [.twin] d (Device.decideArm d arm) := by
  unfold Device.decideArm
  extract_lets +onlyGivenNames x1
  extract_lets +onlyGivenNames choose2
  split
  · unfold choose2
    refine Only.step (Device.setTArm_only ..) rfl ?_
    exact Only.refl
  · refine Only.ite ?_ ?_
    · refine Only.step (Device.setTArm_only ..) rfl ?_
      unfold choose2
      refine Only.step (Device.setTArm_only ..) rfl ?_
      exact Only.refl
    · refine Only.step (Device.mismatch_only ..) rfl ?_
      unfold choose2
      refine Only.step (Device.setTArm_only ..) rfl ?_
      exact Only.refl
  · unfold choose2
    refine Only.step (Device.setTArm_only ..) rfl ?_
    exact Only.refl
theorem Device.takeCopy_only (d : Device) (arm : Nat) : Only [.modu, .gates] d (Device.takeCopy d arm) := by
  unfold Device.takeCopy
  extract_lets +onlyGivenNames x1
  refine Only.ite ?_ ?_
  · exact Only.refl
  · extract_lets +onlyGivenNames c2
    extract_lets +onlyGivenNames cells3
    extract_lets +onlyGivenNames live4
    extract_lets +onlyGivenNames loops5
    refine Device.setProt_set (.inr fun _ => rfl) (.inl rfl) ?_
    refine Only.step (Device.setArm_only ..) rfl ?_
    refine Only.step (Device.setModu_only ..) rfl ?_
    exact Only.refl
theorem Device.roleChange_only (d : Device) (active : Bool) : Only [.brk, .seq, .twin] d (Device.roleChange d active) := by
  unfold Device.roleChange
  extract_lets +onlyGivenNames d1
  refine Only.cut d1 ?_ fun hd1 => ?_
  · subst d1
    refine Only.step (Device.setTwin_only ..) rfl ?_
    exact Only.refl
  clear_value d1
  extract_lets +onlyGivenNames d2
  refine Only.cut d2 ?_ fun hd2 => ?_
  · subst d2
    refine Only.ite ?_ ?_
    · assumption
    · refine Only.step (Device.withdrawClose_only ..) rfl ?_
      refine Only.step (Device.withdrawClose_only ..) rfl ?_
      assumption
  clear_value d2
  refine Only.step (Device.twinStatus_only ..) rfl ?_
  refine Only.step (Device.raise_only ..) rfl ?_
  assumption
theorem Device.splitCheck_only (d : Device) : Only [.twin] d (Device.splitCheck d) := by
  unfold Device.splitCheck
  refine Only.ite ?_ ?_
  · refine Only.step (Device.raise_only ..) rfl ?_
    refine Only.step (Device.setTwin_only ..) rfl ?_
    exact Only.refl
  · refine Only.ite ?_ ?_
    · refine Only.step (Device.setTwin_only ..) rfl ?_
      exact Only.refl
    · exact Only.refl
theorem Device.sendMeter_only (d : Device) : Only [.twin] d (Device.sendMeter d) := by
  unfold Device.sendMeter
  split
  · exact Only.refl
  · refine Only.step (Device.setTwin_only ..) rfl ?_
    refine Only.step (Device.activeSend_only ..) rfl ?_
    exact Only.refl
theorem Device.cycleBlocks_only (d : Device) : Only [.twin] d (Device.cycleBlocks d) := by
  unfold Device.cycleBlocks
  extract_lets +onlyGivenNames d1
  refine Only.cut d1 ?_ fun hd1 => ?_
  · subst d1
    refine Only.step (Device.mdlSend_only ..) rfl ?_
    exact Only.refl
  clear_value d1
  extract_lets +onlyGivenNames d2
  refine Only.cut d2 ?_ fun hd2 => ?_
  · subst d2
    refine Only.foldl (fun x3 b4 hx3 => ?_) ?_
    · refine Only.step (Device.activeSend_only ..) rfl ?_
      assumption
    · assumption
  clear_value d2
  extract_lets +onlyGivenNames d5
  refine Only.cut d5 ?_ fun hd5 => ?_
  · subst d5
    refine Only.step (Device.sendMeter_only ..) rfl ?_
    assumption
  clear_value d5
  extract_lets +onlyGivenNames e6
  extract_lets +onlyGivenNames since7
  extract_lets +onlyGivenNames d8
  refine Only.cut d8 ?_ fun hd8 => ?_
  · subst d8
    refine Only.ite ?_ ?_
    · refine Only.step (Device.mdlSend_only ..) rfl ?_
      assumption
    · assumption
  clear_value d8
  refine Only.ite ?_ ?_
  · refine Only.step (Device.mdlSend_only ..) rfl ?_
    assumption
  · assumption
theorem Device.sendStreams_only (d : Device) : Only [.twin] d (Device.sendStreams d) := by
  unfold Device.sendStreams
  refine Only.step (Device.mdlSend_only ..) rfl ?_
  exact Only.refl
theorem Device.twinCycle_only (d : Device) : Only [.law, .twin] d (Device.twinCycle d) := by
  unfold Device.twinCycle
  refine Only.ite ?_ ?_
  · exact Only.refl
  · extract_lets +onlyGivenNames d1
    refine Only.cut d1 ?_ fun hd1 => ?_
    · subst d1
      refine Only.step (Device.mdlDrain_only ..) rfl ?_
      refine Only.step (Device.splitCheck_only ..) rfl ?_
      exact Only.refl
    clear_value d1
    extract_lets +onlyGivenNames lost2
    extract_lets +onlyGivenNames d3
    refine Only.cut d3 ?_ fun hd3 => ?_
    · subst d3
      refine Only.ite ?_ ?_
      · refine Only.step (Device.setTwin_only ..) rfl ?_
        assumption
      · assumption
    clear_value d3
    extract_lets +onlyGivenNames d4
    refine Only.cut d4 ?_ fun hd4 => ?_
    · subst d4
      split
      · refine Only.ite ?_ ?_
        · refine Only.step (Device.setLaw_only ..) rfl ?_
          assumption
        · assumption
      · assumption
    clear_value d4
    extract_lets +onlyGivenNames d5
    refine Only.cut d5 ?_ fun hd5 => ?_
    · subst d5
      refine Only.step (Device.twinStatus_only ..) rfl ?_
      assumption
    clear_value d5
    extract_lets +onlyGivenNames rows6
    extract_lets +onlyGivenNames d7
    refine Only.cut d7 ?_ fun hd7 => ?_
    · subst d7
      refine Only.step (Device.setTwin_only ..) rfl ?_
      assumption
    clear_value d7
    refine Only.step (Device.cycleBlocks_only ..) rfl ?_
    assumption
theorem Device.twinSecond_only (d : Device) : Only [.twin] d (Device.twinSecond d) := by
  unfold Device.twinSecond
  refine Only.ite ?_ ?_
  · exact Only.refl
  · extract_lets +onlyGivenNames full1
    extract_lets +onlyGivenNames frozen2
    refine Only.step (Device.setTwin_only ..) rfl ?_
    exact Only.refl
theorem execMardalLaneDown_only (t : Tick) (lane : Fin 2) (s s' : State) (hq : s.Quiet) (h : execMardalLaneDown t lane s = .next s') : Only [.twin, .clk] (s.dev.ready t) s'.dev := by
  refine State.on_only hq h fun d => ?_
  refine Only.ite ?_ ?_
  · exact Only.refl
  · extract_lets +onlyGivenNames d1
    refine Only.cut d1 ?_ fun hd1 => ?_
    · subst d1
      refine Only.step (Device.setTwin_only ..) rfl ?_
      refine Only.step (Device.mdlDrain_only ..) rfl ?_
      exact Only.refl
    clear_value d1
    extract_lets +onlyGivenNames d2
    refine Only.cut d2 ?_ fun hd2 => ?_
    · subst d2
      refine Only.step (Device.raiseRated_only ..) rfl ?_
      assumption
    clear_value d2
    refine Only.ite ?_ ?_
    · assumption
    · extract_lets +onlyGivenNames d3
      refine Only.cut d3 ?_ fun hd3 => ?_
      · subst d3
        refine Only.step (Device.setTwin_only ..) rfl ?_
        assumption
      clear_value d3
      refine Only.step (Device.twinStatus_only ..) rfl ?_
      refine Only.ite ?_ ?_
      · refine Only.step (Device.setClk_only ..) rfl ?_
        assumption
      · assumption
theorem execMardalLaneUp_only (t : Tick) (lane : Fin 2) (s s' : State) (hq : s.Quiet) (h : execMardalLaneUp t lane s = .next s') : Only [.twin] (s.dev.ready t) s'.dev := by
  refine State.on_only hq h fun d => ?_
  refine Only.ite ?_ ?_
  · exact Only.refl
  · extract_lets +onlyGivenNames was1
    extract_lets +onlyGivenNames now2
    extract_lets +onlyGivenNames d3
    refine Only.cut d3 ?_ fun hd3 => ?_
    · subst d3
      refine Only.step (Device.mdlDrain_only ..) rfl ?_
      exact Only.refl
    clear_value d3
    extract_lets +onlyGivenNames d4
    refine Only.cut d4 ?_ fun hd4 => ?_
    · subst d4
      refine Only.ite ?_ ?_
      · refine Only.step (Device.setTwin_only ..) rfl ?_
        assumption
      · assumption
    clear_value d4
    extract_lets +onlyGivenNames d5
    refine Only.cut d5 ?_ fun hd5 => ?_
    · subst d5
      refine Only.step (Device.setTwin_only ..) rfl ?_
      assumption
    clear_value d5
    refine Only.step (Device.twinStatus_only ..) rfl ?_
    refine Only.step (Device.raiseRated_only ..) rfl ?_
    assumption
theorem execBeacon_only (t : Tick) (good : Bool) (b : PeerBeacon) (s s' : State) (hq : s.Quiet) (h : execBeacon t good b s = .next s') : Only [.stations, .meas, .law, .ride, .traj, .brk, .seq, .modu, .packs, .link, .prot, .safety, .twin, .par, .posts, .conv, .clk, .net, .soffit, .recd] (s.dev.ready t) s'.dev := by
  refine State.on_only hq h fun d => ?_
  refine Device.block_by rfl (fun x1 hx1 => ?_) ?_
  · refine Only.ite ?_ ?_
    · refine Only.step (Device.raise_only ..) rfl ?_
      refine Only.step (Device.setTwin_only ..) rfl ?_
      assumption
    · extract_lets +onlyGivenNames round2
      extract_lets +onlyGivenNames d3
      refine Only.cut d3 ?_ fun hd3 => ?_
      · subst d3
        refine Only.step (Device.setTwin_only ..) rfl ?_
        assumption
      clear_value d3
      extract_lets +onlyGivenNames d4
      refine Only.cut d4 ?_ fun hd4 => ?_
      · subst d4
        refine Only.ite ?_ ?_
        · assumption
        · refine Only.step (Device.raise_only ..) rfl ?_
          refine Only.step (Device.setTwin_only ..) rfl ?_
          assumption
      clear_value d4
      extract_lets +onlyGivenNames d5
      refine Only.cut d5 ?_ fun hd5 => ?_
      · subst d5
        refine Only.step (Device.yieldMaster_only ..) rfl ?_
        assumption
      clear_value d5
      extract_lets +onlyGivenNames d6
      refine Only.cut d6 ?_ fun hd6 => ?_
      · subst d6
        refine Only.ite ?_ ?_
        · refine Only.step (Device.setClk_only ..) rfl ?_
          assumption
        · assumption
      clear_value d6
      refine Only.step (Device.answerAsks_only ..) rfl ?_
      refine Only.step (Device.followState_only ..) rfl ?_
      assumption
  exact Only.refl
theorem execTimeProbe_only (t : Tick) (good : Bool) (delay : Rat) (ofs : Rat) (cyc : Nat) (s s' : State) (hq : s.Quiet) (h : execTimeProbe t good delay ofs cyc s = .next s') : Only [.time, .cycle, .twin] (s.dev.ready t) s'.dev := by
  refine State.on_only hq h fun d => ?_
  refine Device.block_by rfl (fun x1 hx1 => ?_) ?_
  · extract_lets +onlyGivenNames d2
    refine Only.cut d2 ?_ fun hd2 => ?_
    · subst d2
      refine Only.step (Device.setTwin_only ..) rfl ?_
      assumption
    clear_value d2
    refine Only.ite ?_ ?_
    · refine Only.step (Device.setTwin_only ..) rfl ?_
      assumption
    · refine Only.ite ?_ ?_
      · refine Only.step (Device.setTwin_only ..) rfl ?_
        assumption
      · refine Only.ite ?_ ?_
        · split
          rename_i q3
          refine Only.cut _ (Only.of_snd q3 ?_) fun hx4 => ?_
          · refine Only.step (Device.quant_only ..) rfl ?_
            assumption
          extract_lets +onlyGivenNames ctb5
          extract_lets +onlyGivenNames eK6
          extract_lets +onlyGivenNames d7
          extract_lets +onlyGivenNames d8
          refine Only.cut d8 ?_ fun hd8 => ?_
          · subst d8
            refine Only.set_cycle rfl ?_
            assumption
          clear_value d8
          refine Only.step (Device.setTwin_only ..) rfl ?_
          refine Only.set_now rfl ?_
          assumption
        · refine Only.step (Device.setTwin_only ..) rfl ?_
          assumption
  exact Only.refl
theorem execLawCheckpoint_only (t : Tick) (good : Bool) (cyc : Nat) (st : LawStates) (s s' : State) (hq : s.Quiet) (h : execLawCheckpoint t good cyc st s = .next s') : Only [.twin] (s.dev.ready t) s'.dev := by
  refine State.on_only hq h fun d => ?_
  refine Device.block_by rfl (fun x1 hx1 => ?_) ?_
  · refine Only.ite ?_ ?_
    · refine Only.step (Device.setTwin_only ..) rfl ?_
      assumption
    · assumption
  exact Only.refl
theorem execBattenInputs_only (t : Tick) (good : Bool) (cyc : Nat) (cells : List (Rat × Nat)) (s s' : State) (hq : s.Quiet) (h : execBattenInputs t good cyc cells s = .next s') : Only [.twin] (s.dev.ready t) s'.dev := by
  refine State.on_only hq h fun d => ?_
  refine Device.block_by rfl (fun x1 hx1 => ?_) ?_
  · refine Only.ite ?_ ?_
    · refine Only.step (Device.setTwin_only ..) rfl ?_
      assumption
    · assumption
  exact Only.refl
theorem execMardalArmRecord_only (t : Tick) (cyc : Option Nat) (arm : Fin 3) (r : ArmRecord) (s s' : State) (hq : s.Quiet) (h : execMardalArmRecord t cyc arm r s = .next s') : Only [.modu, .prot, .gates, .twin] (s.dev.ready t) s'.dev := by
  refine State.on_only hq h fun d => ?_
  refine Device.block_by rfl (fun x1 hx1 => ?_) ?_
  · refine Only.ite ?_ ?_
    · refine Only.step (Device.relaySchedule_only ..) rfl ?_
      refine Only.step (Device.setTArm_only ..) rfl ?_
      assumption
    · assumption
  exact Only.refl
theorem execScheduleCheck_only (t : Tick) (cyc : Option Nat) (arm : Fin 3) (notice : Bool) (resume : Bool) (crc : BitVec 32) (s s' : State) (hq : s.Quiet) (h : execScheduleCheck t cyc arm notice resume crc s = .next s') : Only [.modu, .prot, .gates, .twin] (s.dev.ready t) s'.dev := by
  refine State.on_only hq h fun d => ?_
  refine Device.block_by rfl (fun x1 hx1 => ?_) ?_
  · refine Only.ite ?_ ?_
    · assumption
    · extract_lets +onlyGivenNames d2
      refine Only.cut d2 ?_ fun hd2 => ?_
      · subst d2
        refine Only.step (Device.setTArm_only ..) rfl ?_
        assumption
      clear_value d2
      refine Only.ite ?_ ?_
      · refine Only.step (Device.relaySchedule_only ..) rfl ?_
        assumption
      · assumption
  exact Only.refl
theorem execStreamBlock_only (t : Tick) (good : Bool) (vals : List Int) (s s' : State) (hq : s.Quiet) (h : execStreamBlock t good vals s = .next s') : Only [.twin] (s.dev.ready t) s'.dev := by
  refine State.on_only hq h fun d => ?_
  refine Device.block_by rfl (fun x1 hx1 => ?_) ?_
  · refine Only.foldl (fun x2 b3 hx2 => ?_) ?_
    · refine Only.step (Device.compareStream_only ..) rfl ?_
      assumption
    · assumption
  exact Only.refl
theorem execStatusBlock_only (t : Tick) (good : Bool) (ring : Fin 12) (seq : BitVec 16) (bytes : List (BitVec 8)) (s s' : State) (hq : s.Quiet) (h : execStatusBlock t good ring seq bytes s = .next s') : Only [.traj, .brk, .seq, .modu, .link, .prot, .twin, .conv, .recd, .prov] (s.dev.ready t) s'.dev := by
  refine State.on_only hq h fun d => ?_
  refine Device.block_by rfl (fun x1 hx1 => ?_) ?_
  · extract_lets +onlyGivenNames r2
    extract_lets +onlyGivenNames late3
    extract_lets +onlyGivenNames slot4
    extract_lets +onlyGivenNames valid5
    extract_lets +onlyGivenNames use6
    extract_lets +onlyGivenNames d7
    refine Only.cut d7 ?_ fun hd7 => ?_
    · subst d7
      refine Only.foldl (fun x8 b9 hx8 => ?_) ?_
      · refine Only.step (Device.useStatus_only ..) rfl ?_
        assumption
      · assumption
    clear_value d7
    refine Only.ite ?_ ?_
    · assumption
    · refine Only.set_prov rfl ?_
      assumption
  exact Only.refl
theorem execObserverBlock_only (t : Tick) (good : Bool) (cell : Fin 384) (obs : Observer) (row : CellRow) (s s' : State) (hq : s.Quiet) (h : execObserverBlock t good cell obs row s = .next s') : Only [.modu, .packs, .twin] (s.dev.ready t) s'.dev := by
  refine State.on_only hq h fun d => ?_
  refine Device.block_by rfl (fun x1 hx1 => ?_) ?_
  · refine Only.ite ?_ ?_
    · assumption
    · extract_lets +onlyGivenNames d2
      refine Only.cut d2 ?_ fun hd2 => ?_
      · subst d2
        refine Only.step (Device.setCell_only ..) rfl ?_
        refine Only.step (Device.setPack_only ..) rfl ?_
        assumption
      clear_value d2
      refine Only.step (Device.setTwin_only ..) rfl ?_
      assumption
  exact Only.refl
theorem execMeterBlock_only (t : Tick) (good : Bool) (cell : Fin 384) (cnt : PackCounters) (ten : Tenancy) (s s' : State) (hq : s.Quiet) (h : execMeterBlock t good cell cnt ten s = .next s') : Only [.packs, .twin] (s.dev.ready t) s'.dev := by
  refine State.on_only hq h fun d => ?_
  refine Device.block_by rfl (fun x1 hx1 => ?_) ?_
  · refine Only.ite ?_ ?_
    · assumption
    · extract_lets +onlyGivenNames c2
      extract_lets +onlyGivenNames own3
      extract_lets +onlyGivenNames was4
      extract_lets +onlyGivenNames dev5
      extract_lets +onlyGivenNames d6
      refine Only.cut d6 ?_ fun hd6 => ?_
      · subst d6
        refine Only.step (Device.setPack_only ..) rfl ?_
        assumption
      clear_value d6
      extract_lets +onlyGivenNames d7
      refine Only.cut d7 ?_ fun hd7 => ?_
      · subst d7
        refine Only.step (Device.setTwin_only ..) rfl ?_
        assumption
      clear_value d7
      refine Only.ite ?_ ?_
      · refine Only.step (Device.raiseRated_only ..) rfl ?_
        assumption
      · assumption
  exact Only.refl
theorem execDigestBlock_only (t : Tick) (good : Bool) (set : BitVec 256) (fw : BitVec 32) (s s' : State) (hq : s.Quiet) (h : execDigestBlock t good set fw s = .next s') : Only [.twin] (s.dev.ready t) s'.dev := by
  refine State.on_only hq h fun d => ?_
  refine Device.block_by rfl (fun x1 hx1 => ?_) ?_
  · extract_lets +onlyGivenNames same2
    extract_lets +onlyGivenNames sameFw3
    extract_lets +onlyGivenNames d4
    refine Only.cut d4 ?_ fun hd4 => ?_
    · subst d4
      refine Only.step (Device.setTwin_only ..) rfl ?_
      assumption
    clear_value d4
    refine Only.ite ?_ ?_
    · assumption
    · extract_lets +onlyGivenNames cause5
      refine Only.step (Device.raiseRated_only ..) rfl ?_
      refine Only.step (Device.setTwin_only ..) rfl ?_
      assumption
  exact Only.refl
theorem execBattenStateBlock_only (t : Tick) (good : Bool) (arm : Fin 3) (cells : List (Nat × ModCell × Gate × Gate)) (a : ModArm × Circ) (s s' : State) (hq : s.Quiet) (h : execBattenStateBlock t good arm cells a s = .next s') : Only [.twin] (s.dev.ready t) s'.dev := by
  refine State.on_only hq h fun d => ?_
  refine Device.block_by rfl (fun x1 hx1 => ?_) ?_
  · refine Only.ite ?_ ?_
    · assumption
    · extract_lets +onlyGivenNames own2
      extract_lets +onlyGivenNames x3
      extract_lets +onlyGivenNames base4
      extract_lets +onlyGivenNames gbase5
      extract_lets +onlyGivenNames copy6
      extract_lets +onlyGivenNames gates7
      extract_lets +onlyGivenNames parts8
      extract_lets +onlyGivenNames all9
      refine Only.step (Device.setTwin_only ..) rfl ?_
      refine Only.step (Device.setTArm_only ..) rfl ?_
      assumption
  exact Only.refl
theorem execTwinDeadline_only (t : Tick) (s s' : State) (hq : s.Quiet) (h : execTwinDeadline t s = .next s') : Only [.cycle, .traj, .brk, .seq, .modu, .prot, .safety, .twin, .posts, .conv, .eh] (s.dev.ready t) s'.dev := by
  refine State.on_only hq h fun d => ?_
  refine Only.ite ?_ ?_
  · exact Only.refl
  · refine Only.foldl (fun x1 b2 hx1 => ?_) ?_
    · refine Only.ite ?_ ?_
      · refine Only.ite ?_ ?_
        · assumption
        · refine Only.step (Device.sendCheck_only ..) rfl ?_
          assumption
      · extract_lets +onlyGivenNames d3
        refine Only.cut d3 ?_ fun hd3 => ?_
        · subst d3
          refine Only.step (Device.reuseSchedule_only ..) rfl ?_
          assumption
        clear_value d3
        refine Only.ite ?_ ?_
        · refine Only.step (Device.mdlSend_only ..) rfl ?_
          assumption
        · assumption
    · exact Only.refl
theorem execTwinDecision_only (t : Tick) (s s' : State) (hq : s.Quiet) (h : execTwinDecision t s = .next s') : Only [.twin] (s.dev.ready t) s'.dev := by
  refine State.on_only hq h fun d => ?_
  refine Only.ite ?_ ?_
  · exact Only.refl
  · extract_lets +onlyGivenNames served1
    extract_lets +onlyGivenNames d2
    refine Only.cut d2 ?_ fun hd2 => ?_
    · subst d2
      refine Only.step (Device.twinStatus_only ..) rfl ?_
      refine Only.ite ?_ ?_
      · refine Only.step (Device.setTwin_only ..) rfl ?_
        exact Only.refl
      · exact Only.refl
    clear_value d2
    extract_lets +onlyGivenNames ok3
    extract_lets +onlyGivenNames d4
    refine Only.cut d4 ?_ fun hd4 => ?_
    · subst d4
      refine Only.foldl (fun x5 b6 hx5 => ?_) ?_
      · extract_lets +onlyGivenNames d7
        refine Only.cut d7 ?_ fun hd7 => ?_
        · subst d7
          refine Only.step (Device.decideArm_only ..) rfl ?_
          refine Only.step (Device.setTArm_only ..) rfl ?_
          assumption
        clear_value d7
        refine Only.ite ?_ ?_
        · assumption
        · refine Only.step (Device.setTArm_only ..) rfl ?_
          assumption
      · assumption
    clear_value d4
    extract_lets +onlyGivenNames sh8
    extract_lets +onlyGivenNames first9
    extract_lets +onlyGivenNames d10
    refine Only.cut d10 ?_ fun hd10 => ?_
    · subst d10
      refine Only.step (Device.setTwin_only ..) rfl ?_
      assumption
    clear_value d10
    extract_lets +onlyGivenNames d11
    refine Only.cut d11 ?_ fun hd11 => ?_
    · subst d11
      refine Only.ite ?_ ?_
      · refine Only.step (Device.raise_only ..) rfl ?_
        assumption
      · assumption
    clear_value d11
    refine Only.step (Device.twinStatus_only ..) rfl ?_
    assumption
theorem execShadowExpired_only (t : Tick) (s s' : State) (hq : s.Quiet) (h : execShadowExpired t s = .next s') : Only [.twin] (s.dev.ready t) s'.dev := by
  refine State.on_only hq h fun d => ?_
  refine Only.ite ?_ ?_
  · exact Only.refl
  · extract_lets +onlyGivenNames d1
    refine Only.cut d1 ?_ fun hd1 => ?_
    · subst d1
      refine Only.step (Device.setTwin_only ..) rfl ?_
      exact Only.refl
    clear_value d1
    refine Only.step (Device.twinStatus_only ..) rfl ?_
    refine Only.step (Device.raise_only ..) rfl ?_
    assumption
theorem execHealthToggle_only (t : Tick) (s s' : State) (hq : s.Quiet) (h : execHealthToggle t s = .next s') : Only [.twin] (s.dev.ready t) s'.dev := by
  refine State.on_only hq h fun d => ?_
  extract_lets +onlyGivenNames d1
  refine Only.cut d1 ?_ fun hd1 => ?_
  · subst d1
    refine Only.step (Device.twinStatus_only ..) rfl ?_
    exact Only.refl
  clear_value d1
  refine Only.ite ?_ ?_
  · assumption
  · refine Only.step (Device.setTwin_only ..) rfl ?_
    assumption
theorem execArbGrantChange_only (t : Tick) (level : Bool) (heldNs : Rat) (s s' : State) (hq : s.Quiet) (h : execArbGrantChange t level heldNs s = .next s') : Only [.twin] (s.dev.ready t) s'.dev := by
  refine State.on_only hq h fun d => ?_
  refine Only.ite ?_ ?_
  · exact Only.refl
  · refine Only.step (Device.setTwin_only ..) rfl ?_
    exact Only.refl
theorem execTwinRoleChange_only (t : Tick) (s s' : State) (hq : s.Quiet) (h : execTwinRoleChange t s = .next s') : Only [.brk, .seq, .modu, .gates, .twin] (s.dev.ready t) s'.dev := by
  refine State.on_only hq h fun d => ?_
  refine Only.ite ?_ ?_
  · exact Only.refl
  · extract_lets +onlyGivenNames w1
    refine Only.ite ?_ ?_
    · refine Only.ite ?_ ?_
      · exact Only.refl
      · refine Only.ite ?_ ?_
        · refine Only.step (Device.roleChange_only ..) rfl ?_
          refine Only.foldl (fun x2 b3 hx2 => ?_) ?_
          · refine Only.step (Device.takeCopy_only ..) rfl ?_
            assumption
          · exact Only.refl
        · refine Only.step (Device.raise_only ..) rfl ?_
          refine Only.step (Device.setTwin_only ..) rfl ?_
          exact Only.refl
    · refine Only.ite ?_ ?_
      · refine Only.step (Device.roleChange_only ..) rfl ?_
        exact Only.refl
      · exact Only.refl
theorem execCtbSecond_only (t : Tick) (s s' : State) (hq : s.Quiet) (h : execCtbSecond t s = .next s') : Only [.packs, .meter, .twin] (s.dev.ready t) s'.dev := by
  refine State.on_only hq h fun d => ?_
  extract_lets +onlyGivenNames n1
  extract_lets +onlyGivenNames d2
  refine Only.cut d2 ?_ fun hd2 => ?_
  · subst d2
    refine Only.step (Device.ctbSecond_only ..) rfl ?_
    exact Only.refl
  clear_value d2
  refine Only.ite ?_ ?_
  · assumption
  · refine Only.step (Device.twinSecond_only ..) rfl ?_
    assumption

/-! ## LoadAll -/

theorem Device.ringMissing_only (d : Device) (r : Nat) : Only [.link] d (Device.ringMissing d r) := by
  unfold Device.ringMissing
  extract_lets +onlyGivenNames g1
  extract_lets +onlyGivenNames sent2
  extract_lets +onlyGivenNames lost3
  refine Only.step (Device.setRing_only ..) rfl ?_
  exact Only.refl
theorem Device.closeFrames_only (d : Device) : Only [.packs, .link, .prov] d (Device.closeFrames d) := by
  unfold Device.closeFrames
  extract_lets +onlyGivenNames d1
  refine Only.cut d1 ?_ fun hd1 => ?_
  · subst d1
    refine Only.foldl (fun x2 b3 hx2 => ?_) ?_
    · refine Only.step (Device.ringMissing_only ..) rfl ?_
      assumption
    · exact Only.refl
  clear_value d1
  extract_lets +onlyGivenNames r4
  refine Only.cut r4 ?_ fun hr4 => ?_
  · subst r4
    refine Only.step (Device.meterClose_only ..) rfl ?_
    refine Only.step (Device.slowMissed_only ..) rfl ?_
    assumption
  clear_value r4
  refine Only.set_prov rfl ?_
  assumption
theorem Device.restCycle_only (d : Device) : Only [.modu] d (Device.restCycle d) := by
  unfold Device.restCycle
  refine Only.foldl (fun x1 b2 hx1 => ?_) ?_
  · refine Only.ite ?_ ?_
    · refine Only.step (Device.restPack_only ..) rfl ?_
      assumption
    · assumption
  · refine Only.step (Device.countRests_only ..) rfl ?_
    exact Only.refl
theorem Device.bypassSteps_only (d : Device) : Only [.modu, .twin] d (Device.bypassSteps d) := by
  unfold Device.bypassSteps
  extract_lets +onlyGivenNames now1
  extract_lets +onlyGivenNames blocked2
  refine Only.step (Device.setTwin_only ..) rfl ?_
  refine Only.step (Device.setModu_only ..) rfl ?_
  exact Only.refl
theorem Device.restartLaw_only (d : Device) : Only [.law, .ride, .traj, .conv] d (Device.restartLaw d) := by
  unfold Device.restartLaw
  refine Only.ite ?_ ?_
  · exact Only.refl
  · refine Only.ite ?_ ?_
    · extract_lets +onlyGivenNames d1
      refine Only.cut d1 ?_ fun hd1 => ?_
      · subst d1
        refine Only.step (Device.setTraj_only ..) rfl ?_
        refine Only.step (Device.snapToGrid_only ..) rfl ?_
        exact Only.refl
      clear_value d1
      refine Only.step (Device.setConv_only ..) rfl ?_
      refine Only.step (Device.lawEntry_only ..) rfl ?_
      assumption
    · extract_lets +onlyGivenNames f2
      extract_lets +onlyGivenNames d3
      refine Only.cut d3 ?_ fun hd3 => ?_
      · subst d3
        refine Only.step (Device.setAxis_only ..) rfl ?_
        refine Only.step (Device.setAxis_only ..) rfl ?_
        exact Only.refl
      clear_value d3
      refine Only.step (Device.setConv_only ..) rfl ?_
      refine Only.step (Device.lawEntry_only ..) rfl ?_
      assumption
theorem Device.launchResume_only (d : Device) : Only [.law, .ride, .traj, .modu, .prot, .conv] d (Device.launchResume d) := by
  unfold Device.launchResume
  extract_lets +onlyGivenNames e1
  extract_lets +onlyGivenNames d2
  refine Only.cut d2 ?_ fun hd2 => ?_
  · subst d2
    refine Only.step (Device.restartLaw_only ..) rfl ?_
    exact Only.refl
  clear_value d2
  extract_lets +onlyGivenNames d3
  refine Only.cut d3 ?_ fun hd3 => ?_
  · subst d3
    refine Only.foldl (fun x4 b5 hx4 => ?_) ?_
    · refine Only.step (Device.resumeArm_only ..) rfl ?_
      assumption
    · assumption
  clear_value d3
  refine Device.setProt_set (.inl rfl) (.inr fun _ => rfl) ?_
  assumption
theorem Device.chooseArm_only (d : Device) (arm : Nat) : Only [.modu, .gates] d (Device.chooseArm d arm) := by
  unfold Device.chooseArm
  extract_lets +onlyGivenNames x1
  extract_lets +onlyGivenNames own2
  extract_lets +onlyGivenNames give3
  split
  · unfold give3
    extract_lets +onlyGivenNames one4
    refine Only.step (Device.setModu_only ..) rfl ?_
    refine Only.step (Device.takeCopy_only ..) rfl ?_
    exact Only.refl
  · unfold give3
    extract_lets +onlyGivenNames one5
    refine Only.step (Device.setModu_only ..) rfl ?_
    refine Only.step (Device.takeCopy_only ..) rfl ?_
    exact Only.refl
  · exact Only.refl
theorem Device.arms_only (d : Device) : Only [.law, .ride, .traj, .modu, .prot, .gates, .conv] d (Device.arms d).1 := by
  unfold Device.arms
  extract_lets +onlyGivenNames none_1
  split
  · extract_lets +onlyGivenNames resume2
    extract_lets +onlyGivenNames d3
    refine Only.cut d3 ?_ fun hd3 => ?_
    · subst d3
      refine Only.ite ?_ ?_
      · refine Only.ite ?_ ?_
        · refine Only.step (Device.launchResume_only ..) rfl ?_
          exact Only.refl
        · refine Device.setProt_set (.inl rfl) (.inl rfl) ?_
          exact Only.refl
      · unfold none_1
        refine Only.ite ?_ ?_
        · refine Only.step (Device.setModu_only ..) rfl ?_
          exact Only.refl
        · exact Only.refl
    clear_value d3
    refine Only.fst_mk ?_
    refine Only.foldl (fun x4 b5 hx4 => ?_) ?_
    · refine Only.step (Device.chooseArm_only ..) rfl ?_
      assumption
    · assumption
  · split
    · refine Only.fst_mk ?_
      refine Only.step (Device.launchResume_only ..) rfl ?_
      exact Only.refl
    · refine Only.fst_mk ?_
      unfold none_1
      refine Only.ite ?_ ?_
      · refine Only.step (Device.setModu_only ..) rfl ?_
        exact Only.refl
      · exact Only.refl
theorem Device.launch_only (d : Device) (resume : Bool) : Only [.packs, .link, .mail, .posts] d (Device.launch d resume) := by
  unfold Device.launch
  extract_lets +onlyGivenNames relayed1
  extract_lets +onlyGivenNames d2
  refine Only.cut d2 ?_ fun hd2 => ?_
  · subst d2
    refine Only.step (Device.setLink_only ..) rfl ?_
    exact Only.refl
  clear_value d2
  refine Only.ite ?_ ?_
  · assumption
  · extract_lets +onlyGivenNames d3
    refine Only.cut d3 ?_ fun hd3 => ?_
    · subst d3
      refine Only.foldl (fun x4 b5 hx4 => ?_) ?_
      · refine Only.step (Device.launchRing_only ..) rfl ?_
        assumption
      · assumption
    clear_value d3
    extract_lets +onlyGivenNames count6
    refine Only.step (Device.setLink_only ..) rfl ?_
    unfold count6
    extract_lets +onlyGivenNames fs7
    extract_lets +onlyGivenNames fs8
    refine Only.step (Device.pmcPulse_only ..) rfl ?_
    refine Only.step (Device.pmcPulse_only ..) rfl ?_
    refine Only.step (Device.pmcPulse_only ..) rfl ?_
    refine Only.step (Device.pmcPulse_only ..) rfl ?_
    assumption
theorem Device.sentOn_only (d : Device) : Only [.modu] d (Device.sentOn d) := by
  unfold Device.sentOn
  refine Only.step (Device.setModu_only ..) rfl ?_
  exact Only.refl
theorem Device.strobeWatch_only (d : Device) (resume : Bool) : Only [.traj, .brk, .seq, .modu, .prot, .conv] d (Device.strobeWatch d resume) := by
  unfold Device.strobeWatch
  refine Only.ite ?_ ?_
  · refine Only.step (Device.squallTrigger_only ..) rfl ?_
    exact Only.refl
  · exact Only.refl
theorem Device.modShow_only (d : Device) : Only [.modu] d (Device.modShow d) := by
  unfold Device.modShow
  extract_lets +onlyGivenNames m1
  extract_lets +onlyGivenNames a2
  extract_lets +onlyGivenNames three3
  extract_lets +onlyGivenNames cell4
  extract_lets +onlyGivenNames masks5
  extract_lets +onlyGivenNames stat6
  extract_lets +onlyGivenNames words7
  extract_lets +onlyGivenNames d8
  refine Only.cut d8 ?_ fun hd8 => ?_
  · subst d8
    refine Only.step (Device.hwSet_only ..) rfl ?_
    exact Only.refl
  clear_value d8
  refine Only.step (Device.setModu_only ..) rfl ?_
  assumption
theorem execLoadAll_only (t : Tick) (s s' : State) (hq : s.Quiet) (h : execLoadAll t s = .next s') : Only [.law, .ride, .traj, .brk, .seq, .modu, .packs, .link, .prot, .gates, .twin, .mail, .posts, .conv, .prov, .drift] (s.dev.ready t) s'.dev := by
  refine State.on_only hq h fun d => ?_
  refine Only.ite ?_ ?_
  · exact Only.refl
  · extract_lets +onlyGivenNames d1
    refine Only.cut d1 ?_ fun hd1 => ?_
    · subst d1
      refine Only.step (Device.restCycle_only ..) rfl ?_
      refine Only.step (Device.closeFrames_only ..) rfl ?_
      exact Only.refl
    clear_value d1
    extract_lets +onlyGivenNames d2
    refine Only.cut d2 ?_ fun hd2 => ?_
    · subst d2
      refine Only.ite ?_ ?_
      · refine Only.step (Device.bypassSteps_only ..) rfl ?_
        assumption
      · assumption
    clear_value d2
    extract_lets +onlyGivenNames due3
    extract_lets +onlyGivenNames d4
    refine Only.cut d4 ?_ fun hd4 => ?_
    · subst d4
      refine Only.step (Device.setConv_only ..) rfl ?_
      assumption
    clear_value d4
    extract_lets +onlyGivenNames d5
    refine Only.cut d5 ?_ fun hd5 => ?_
    · subst d5
      refine Device.setProt_set (.inl rfl) (.inl rfl) ?_
      assumption
    clear_value d5
    split
    rename_i q6
    refine Only.cut _ (Only.of_fst q6 ?_) fun hx7 => ?_
    · refine Only.step (Device.arms_only ..) rfl ?_
      assumption
    extract_lets +onlyGivenNames d8
    refine Only.cut d8 ?_ fun hd8 => ?_
    · subst d8
      refine Only.step (Device.buildWindows_only ..) rfl ?_
      refine Only.step (Device.bypassSteps_only ..) rfl ?_
      refine Only.step (Device.launchedCells_only ..) rfl ?_
      refine Only.step (Device.sentOn_only ..) rfl ?_
      refine Only.step (Device.launch_only ..) rfl ?_
      assumption
    clear_value d8
    extract_lets +onlyGivenNames d9
    refine Only.cut d9 ?_ fun hd9 => ?_
    · subst d9
      refine Only.ite ?_ ?_
      · assumption
      · refine Only.step (Device.setModu_only ..) rfl ?_
        assumption
    clear_value d9
    extract_lets +onlyGivenNames d10
    refine Only.cut d10 ?_ fun hd10 => ?_
    · subst d10
      refine Only.foldl (fun x11 b12 hx11 => ?_) ?_
      · refine Only.step (Device.availability_only ..) rfl ?_
        assumption
      · assumption
    clear_value d10
    extract_lets +onlyGivenNames d13
    refine Only.cut d13 ?_ fun hd13 => ?_
    · subst d13
      refine Only.step (Device.setTwin_only ..) rfl ?_
      refine Only.step (Device.meterOpen_only ..) rfl ?_
      refine Only.step (Device.modShow_only ..) rfl ?_
      refine Only.step (Device.setModu_only ..) rfl ?_
      assumption
    clear_value d13
    refine Only.step (Device.strobeWatch_only ..) rfl ?_
    refine Only.step (Device.pmcPulse_only ..) rfl ?_
    refine Only.step (Device.stamp_only ..) rfl ?_
    assumption
theorem execNodeAnswerMissed_only (t : Tick) (s s' : State) (hq : s.Quiet) (h : execNodeAnswerMissed t s = .next s') : Only [.link, .mail, .posts] (s.dev.ready t) s'.dev := by
  refine State.on_only hq h fun d => ?_
  extract_lets +onlyGivenNames gone1
  refine Only.foldl (fun x2 b3 hx2 => ?_) ?_
  · refine Only.step (Device.complete_only ..) rfl ?_
    refine Only.step (Device.setLink_only ..) rfl ?_
    assumption
  · exact Only.refl

end Sys2Proof.Machine
end

