-- ==== Sys2Proof/Laws/FrameHost.lean ====
section
/-! SUPPORT. The parts of the device that each operation may change (`Only`): errors, mailbox, commands, masks, counters, housekeeping, rails, registers, the cycle start; then those that each command may change. -/

namespace Sys2Proof.Machine

/-! ## Errors -/

theorem Device.setSec_only (d : Device) (f : Sec → Sec) : Only [.sec] d (Device.setSec d f) := by
  unfold Device.setSec
  refine Only.set_sec rfl ?_
  exact Only.refl
theorem Device.corrected_only (d : Device) (die : Nat) (word : Nat) : Only [.traj, .brk, .seq, .modu, .prot, .safety, .posts, .conv, .eh] d (Device.corrected d die word) := by
  unfold Device.corrected
  extract_lets +onlyGivenNames near1
  extract_lets +onlyGivenNames again2
  extract_lets +onlyGivenNames d3
  refine Only.cut d3 ?_ fun hd3 => ?_
  · subst d3
    refine Only.step (Device.setEh_only ..) rfl ?_
    exact Only.refl
  clear_value d3
  extract_lets +onlyGivenNames d4
  refine Only.cut d4 ?_ fun hd4 => ?_
  · subst d4
    refine Only.step (Device.errReport_only ..) rfl ?_
    assumption
  clear_value d4
  refine Only.ite ?_ ?_
  · refine Only.step (Device.errReport_only ..) rfl ?_
    assumption
  · assumption
theorem Device.slotSentEmpty_only (d : Device) (cell : Nat) : Only [.link] d (Device.slotSentEmpty d cell) := by
  unfold Device.slotSentEmpty
  extract_lets +onlyGivenNames blank1
  refine Only.step (Device.setLink_only ..) rfl ?_
  exact Only.refl
theorem Device.dieFail_only (d : Device) (die : Nat) : Only [.safety, .posts, .conv, .recd] d (Device.dieFail d die) := by
  unfold Device.dieFail
  extract_lets +onlyGivenNames d1
  refine Only.cut d1 ?_ fun hd1 => ?_
  · subst d1
    refine Only.step (Device.setConv_only ..) rfl ?_
    exact Only.refl
  clear_value d1
  refine Only.ite ?_ ?_
  · refine Only.step (Device.setSaf_only ..) rfl ?_
    assumption
  · refine Only.step (Device.recFail_only ..) rfl ?_
    assumption
theorem Device.logPersist_only (d : Device) : Only [.eh] d (Device.logPersist d) := by
  unfold Device.logPersist
  refine Only.step (Device.setEh_only ..) rfl ?_
  exact Only.refl
theorem Device.goFatal_only (d : Device) : Only [.safety, .posts, .regs, .conv, .recd, .eh] d (Device.goFatal d) := by
  unfold Device.goFatal
  extract_lets +onlyGivenNames d1
  refine Only.cut d1 ?_ fun hd1 => ?_
  · subst d1
    refine Only.foldl (fun x2 b3 hx2 => ?_) ?_
    · refine Only.step (Device.dieFail_only ..) rfl ?_
      assumption
    · exact Only.refl
  clear_value d1
  extract_lets +onlyGivenNames d4
  refine Only.cut d4 ?_ fun hd4 => ?_
  · subst d4
    refine Only.step (Device.setConv_only ..) rfl ?_
    refine Only.step (Device.setEh_only ..) rfl ?_
    assumption
  clear_value d4
  refine Device.setHost_set (.inr fun _ => rfl) (.inr fun _ => rfl) (.inl rfl) (.inl rfl) ?_
  refine Only.step (Device.msix_only ..) rfl ?_
  assumption
theorem Device.classAction_only (d : Device) (x : ErrEntry) : Only [.safety, .posts, .regs, .conv, .recd, .eh] d (Device.classAction d x) := by
  unfold Device.classAction
  extract_lets +onlyGivenNames load1
  split
  · refine Only.step (Device.raiseRated_only ..) rfl ?_
    exact Only.refl
  · extract_lets +onlyGivenNames d2
    refine Only.cut d2 ?_ fun hd2 => ?_
    · subst d2
      refine Only.step (Device.setEh_only ..) rfl ?_
      refine Only.step (Device.raise_only ..) rfl ?_
      exact Only.refl
    clear_value d2
    refine Only.step (Device.raise_only ..) rfl ?_
    assumption
  · extract_lets +onlyGivenNames d3
    refine Only.cut d3 ?_ fun hd3 => ?_
    · subst d3
      refine Only.step (Device.dieFail_only ..) rfl ?_
      exact Only.refl
    clear_value d3
    extract_lets +onlyGivenNames d4
    refine Only.cut d4 ?_ fun hd4 => ?_
    · subst d4
      split
      · refine Only.step (Device.dieFail_only ..) rfl ?_
        assumption
      · assumption
    clear_value d4
    refine Only.step (Device.raise_only ..) rfl ?_
    assumption
  · refine Only.step (Device.raise_only ..) rfl ?_
    refine Only.step (Device.goFatal_only ..) rfl ?_
    exact Only.refl
theorem Device.logError_only (d : Device) (x : ErrEntry) : Only [.eh] d (Device.logError d x) := by
  unfold Device.logError
  extract_lets +onlyGivenNames n1
  extract_lets +onlyGivenNames span2
  extract_lets +onlyGivenNames e3
  split
  extract_lets +onlyGivenNames adopt4
  split
  rename_i q5
  refine Only.cut _ (Only.of_snd q5 ?_) fun hx6 => ?_
  · refine Only.step (Device.quant_only ..) rfl ?_
    exact Only.refl
  extract_lets +onlyGivenNames d7
  refine Only.cut d7 ?_ fun hd7 => ?_
  · subst d7
    refine Only.step (Device.setEh_only ..) rfl ?_
    assumption
  clear_value d7
  refine Only.ite ?_ ?_
  · refine Only.step (Device.logPersist_only ..) rfl ?_
    assumption
  · assumption
theorem Device.fwRestart_only (d : Device) : Only [.meter, .link, .safety, .par, .mail, .queue, .posts, .regs, .conv, .clk, .eh, .sec, .dump, .drift, .hk] d (Device.fwRestart d) := by
  unfold Device.fwRestart
  extract_lets +onlyGivenNames d1
  refine Only.cut d1 ?_ fun hd1 => ?_
  · subst d1
    refine Device.setHost_set (.inl rfl) (.inl rfl) (.inl rfl) (.inl rfl) ?_
    exact Only.refl
  clear_value d1
  extract_lets +onlyGivenNames d2
  refine Only.cut d2 ?_ fun hd2 => ?_
  · subst d2
    refine Only.step (Device.setConv_only ..) rfl ?_
    assumption
  clear_value d2
  extract_lets +onlyGivenNames d3
  refine Only.cut d3 ?_ fun hd3 => ?_
  · subst d3
    refine Only.step (Device.setLink_only ..) rfl ?_
    assumption
  clear_value d3
  extract_lets +onlyGivenNames d4
  refine Only.cut d4 ?_ fun hd4 => ?_
  · subst d4
    refine Only.step (Device.setClk_only ..) rfl ?_
    assumption
  clear_value d4
  extract_lets +onlyGivenNames d5
  refine Only.cut d5 ?_ fun hd5 => ?_
  · subst d5
    refine Only.step (Device.setEh_only ..) rfl ?_
    assumption
  clear_value d5
  extract_lets +onlyGivenNames d6
  refine Only.cut d6 ?_ fun hd6 => ?_
  · subst d6
    refine Only.step (Device.setSaf_only ..) rfl ?_
    assumption
  clear_value d6
  extract_lets +onlyGivenNames d7
  extract_lets +onlyGivenNames d8
  extract_lets +onlyGivenNames d9
  extract_lets +onlyGivenNames d10
  extract_lets +onlyGivenNames d11
  refine Only.cut d11 ?_ fun hd11 => ?_
  · subst d11
    refine Only.trans (b := d6) ?_ ⟨fun p hp => by cases p <;> first | rfl | exact absurd (by decide) hp⟩
    assumption
  clear_value d11
  extract_lets +onlyGivenNames d12
  refine Only.cut d12 ?_ fun hd12 => ?_
  · subst d12
    refine Only.step (Device.setSec_only ..) rfl ?_
    assumption
  clear_value d12
  refine Only.step (Device.safetyCopy_only ..) rfl ?_
  refine Only.step (Device.loadParams_only ..) rfl ?_
  refine Only.step (Device.setMeter_only ..) rfl ?_
  assumption
theorem execScrubPass_only (t : Tick) (fixed : List (Fin 3 × BitVec 32)) (bad : List (Fin 3 × BitVec 32)) (s s' : State) (hq : s.Quiet) (h : execScrubPass t fixed bad s = .next s') : Only [.traj, .brk, .seq, .modu, .prot, .safety, .posts, .conv, .eh] (s.dev.ready t) s'.dev := by
  refine State.on_only hq h fun d => ?_
  extract_lets +onlyGivenNames d1
  refine Only.cut d1 ?_ fun hd1 => ?_
  · subst d1
    refine Only.step (Device.setEh_only ..) rfl ?_
    exact Only.refl
  clear_value d1
  extract_lets +onlyGivenNames d2
  refine Only.cut d2 ?_ fun hd2 => ?_
  · subst d2
    refine Only.foldl (fun x3 b4 hx3 => ?_) ?_
    · refine Only.step (Device.corrected_only ..) rfl ?_
      assumption
    · assumption
  clear_value d2
  refine Only.foldl (fun x5 b6 hx5 => ?_) ?_
  · refine Only.step (Device.errReport_only ..) rfl ?_
    assumption
  · assumption
theorem execErrorReport_only (t : Tick) (code : BitVec 16) (island : Fin 10) (kind : Fin 10) (index : BitVec 16) (detail : BitVec 32) (s s' : State) (hq : s.Quiet) (h : execErrorReport t code island kind index detail s = .next s') : Only [.traj, .brk, .seq, .modu, .link, .prot, .safety, .posts, .conv, .eh, .sec] (s.dev.ready t) s'.dev := by
  refine State.on_only hq h fun d => ?_
  extract_lets +onlyGivenNames c1
  extract_lets +onlyGivenNames i2
  extract_lets +onlyGivenNames die3
  extract_lets +onlyGivenNames d4
  refine Only.cut d4 ?_ fun hd4 => ?_
  · subst d4
    refine Only.ite ?_ ?_
    · refine Only.step (Device.setSec_only ..) rfl ?_
      exact Only.refl
    · refine Only.ite ?_ ?_
      · refine Only.step (Device.setArm_only ..) rfl ?_
        exact Only.refl
      · refine Only.ite ?_ ?_
        · refine Only.step (Device.setNode_only ..) rfl ?_
          exact Only.refl
        · refine Only.ite ?_ ?_
          · refine Only.step (Device.slotSentEmpty_only ..) rfl ?_
            exact Only.refl
          · exact Only.refl
  clear_value d4
  refine Only.ite ?_ ?_
  · refine Only.step (Device.corrected_only ..) rfl ?_
    assumption
  · refine Only.step (Device.errReport_only ..) rfl ?_
    assumption
theorem execErrorHandlingDone_only (t : Tick) (s s' : State) (hq : s.Quiet) (h : execErrorHandlingDone t s = .next s') : Only [.safety, .posts, .regs, .conv, .recd, .eh] (s.dev.ready t) s'.dev := by
  refine State.on_only hq h fun d => ?_
  refine Only.ite ?_ ?_
  · exact Only.refl
  · split
    · exact Only.refl
    · refine Only.step (Device.takeError_only ..) rfl ?_
      refine Only.step (Device.setEh_only ..) rfl ?_
      refine Only.step (Device.logError_only ..) rfl ?_
      refine Only.step (Device.classAction_only ..) rfl ?_
      exact Only.refl
theorem execHandlerFault_only (t : Tick) (cause : Fin 5) (s s' : State) (hq : s.Quiet) (h : execHandlerFault t cause s = .next s') : Only [.traj, .brk, .seq, .modu, .prot, .safety, .posts, .conv, .eh] (s.dev.ready t) s'.dev := by
  refine State.on_only hq h fun d => ?_
  split
  · refine Only.ite ?_ ?_
    · refine Only.step (Device.handlerFault_only ..) rfl ?_
      exact Only.refl
    · exact Only.refl
  · refine Only.step (Device.handlerFault_only ..) rfl ?_
    exact Only.refl
  · refine Only.step (Device.handlerFault_only ..) rfl ?_
    exact Only.refl
  · exact Only.refl
theorem execCmdEhLogRead_only (t : Tick) (h : CmdHdr) (a : Args) (dmaOk : Bool) (s s' : State) (hq : s.Quiet) (h : execCmdEhLogRead t h a dmaOk s = .next s') : Only [.mail, .posts, .regs] (s.dev.ready t) s'.dev := by
  refine State.on_only hq h fun d => ?_
  extract_lets +onlyGivenNames n1
  refine Device.cmdIf_by rfl (fun x2 hx2 => ?_) ?_
  · extract_lets +onlyGivenNames l3
    split
    · refine Only.fst_mk ?_
      refine Only.step (Device.dmaFail_only ..) rfl ?_
      assumption
    · refine Only.fst_mk ?_
      refine Only.step (Device.post_only ..) rfl ?_
      assumption
  exact Only.refl
theorem execCmdEhAck_only (t : Tick) (h : CmdHdr) (a : Args) (s s' : State) (hq : s.Quiet) (h : execCmdEhAck t h a s = .next s') : Only [.mail, .posts, .eh] (s.dev.ready t) s'.dev := by
  refine State.on_only hq h fun d => ?_
  refine Device.cmd_by rfl (fun x1 hx1 => ?_) ?_
  · refine Only.fst_mk ?_
    refine Only.step (Device.setEh_only ..) rfl ?_
    assumption
  exact Only.refl
theorem execCmdEhLogClear_only (t : Tick) (h : CmdHdr) (a : Args) (s s' : State) (hq : s.Quiet) (h : execCmdEhLogClear t h a s = .next s') : Only [.mail, .posts, .eh] (s.dev.ready t) s'.dev := by
  refine State.on_only hq h fun d => ?_
  refine Device.cmd_by rfl (fun x1 hx1 => ?_) ?_
  · split
    · refine Only.fst_mk ?_
      assumption
    · refine Only.fst_mk ?_
      refine Only.step (Device.setEh_only ..) rfl ?_
      assumption
  exact Only.refl
theorem execCmdFwRestart_only (t : Tick) (h : CmdHdr) (a : Args) (s s' : State) (hq : s.Quiet) (h : execCmdFwRestart t h a s = .next s') : Only [.meter, .link, .safety, .par, .mail, .queue, .posts, .regs, .conv, .clk, .eh, .sec, .dump, .drift, .hk] (s.dev.ready t) s'.dev := by
  refine State.on_only hq h fun d => ?_
  refine Device.cmd_by rfl (fun x1 hx1 => ?_) ?_
  · split
    · refine Only.fst_mk ?_
      assumption
    · refine Only.fst_mk ?_
      refine Only.step (Device.fwRestart_only ..) rfl ?_
      refine Only.step (Device.complete_only ..) rfl ?_
      assumption
  exact Only.refl
theorem execCmdFwWrite_only (t : Tick) (h : CmdHdr) (a : Args) (image : Option (List (BitVec 8))) (s s' : State) (hq : s.Quiet) (h : execCmdFwWrite t h a image s = .next s') : Only [.mail, .posts, .regs, .sec] (s.dev.ready t) s'.dev := by
  refine State.on_only hq h fun d => ?_
  extract_lets +onlyGivenNames len1
  refine Device.cmdIf_by rfl (fun x2 hx2 => ?_) ?_
  · extract_lets +onlyGivenNames k3
    split
    · refine Only.fst_mk ?_
      assumption
    · extract_lets +onlyGivenNames d4
      refine Only.cut d4 ?_ fun hd4 => ?_
      · subst d4
        refine Only.step (Device.setSec_only ..) rfl ?_
        assumption
      clear_value d4
      split
      · refine Only.fst_mk ?_
        refine Only.step (Device.dmaFail_only ..) rfl ?_
        assumption
      · extract_lets +onlyGivenNames b5
        extract_lets +onlyGivenNames f6
        refine Only.fst_mk ?_
        refine Only.step (Device.setSec_only ..) rfl ?_
        assumption
  exact Only.refl
theorem execFwWriteDone_only (t : Tick) (s s' : State) (hq : s.Quiet) (h : execFwWriteDone t s = .next s') : Only [.mail, .posts, .sec] (s.dev.ready t) s'.dev := by
  refine State.on_only hq h fun d => ?_
  split
  · exact Only.refl
  · extract_lets +onlyGivenNames k1
    extract_lets +onlyGivenNames d2
    extract_lets +onlyGivenNames d3
    refine Only.cut d3 ?_ fun hd3 => ?_
    · subst d3
      refine Only.step (Device.setSec_only ..) rfl ?_
      exact Only.refl
    clear_value d3
    refine Only.step (Device.complete_only ..) rfl ?_
    assumption
theorem execCmdFwCommit_only (t : Tick) (h : CmdHdr) (a : Args) (s s' : State) (hq : s.Quiet) (h : execCmdFwCommit t h a s = .next s') : Only [.mail, .posts, .sec] (s.dev.ready t) s'.dev := by
  refine State.on_only hq h fun d => ?_
  refine Device.cmd_by rfl (fun x1 hx1 => ?_) ?_
  · split
    · refine Only.fst_mk ?_
      assumption
    · split
      · refine Only.fst_mk ?_
        assumption
      · extract_lets +onlyGivenNames c2
        refine Only.fst_mk ?_
        refine Only.step (Device.setSec_only ..) rfl ?_
        assumption
  exact Only.refl
theorem execCmdSecIdentity_only (t : Tick) (h : CmdHdr) (a : Args) (dmaOk : Bool) (s s' : State) (hq : s.Quiet) (h : execCmdSecIdentity t h a dmaOk s = .next s') : Only [.mail, .posts, .regs] (s.dev.ready t) s'.dev := by
  refine State.on_only hq h fun d => ?_
  refine Device.cmd_by rfl (fun x1 hx1 => ?_) ?_
  · split
    · refine Only.fst_mk ?_
      refine Only.step (Device.dmaFail_only ..) rfl ?_
      assumption
    · refine Only.fst_mk ?_
      refine Only.step (Device.post_only ..) rfl ?_
      assumption
  exact Only.refl
theorem execCmdSecAttest_only (t : Tick) (h : CmdHdr) (a : Args) (s s' : State) (hq : s.Quiet) (h : execCmdSecAttest t h a s = .next s') : Only [.mail, .posts, .sec] (s.dev.ready t) s'.dev := by
  refine State.on_only hq h fun d => ?_
  refine Device.cmd_by rfl (fun x1 hx1 => ?_) ?_
  · extract_lets +onlyGivenNames x2
    split
    · refine Only.fst_mk ?_
      assumption
    · split
      · refine Only.fst_mk ?_
        refine Only.step (Device.setSec_only ..) rfl ?_
        assumption
      · split
        · refine Only.fst_mk ?_
          assumption
        · refine Only.fst_mk ?_
          refine Only.step (Device.setSec_only ..) rfl ?_
          assumption
  exact Only.refl
theorem execAttestSigned_only (t : Tick) (dmaOk : Bool) (s s' : State) (hq : s.Quiet) (h : execAttestSigned t dmaOk s = .next s') : Only [.mail, .posts, .regs, .sec] (s.dev.ready t) s'.dev := by
  refine State.on_only hq h fun d => ?_
  split
  · exact Only.refl
  · refine Only.ite ?_ ?_
    · exact Only.refl
    · extract_lets +onlyGivenNames d1
      refine Only.cut d1 ?_ fun hd1 => ?_
      · subst d1
        refine Only.step (Device.setSec_only ..) rfl ?_
        exact Only.refl
      clear_value d1
      refine Only.ite ?_ ?_
      · refine Only.step (Device.complete_only ..) rfl ?_
        assumption
      · refine Only.ite ?_ ?_
        · refine Only.step (Device.complete_only ..) rfl ?_
          refine Only.step (Device.dmaFail_only ..) rfl ?_
          assumption
        · extract_lets +onlyGivenNames body2
          split
          rename_i q3
          refine Only.cut _ (Only.of_third q3 ?_) fun hx4 => ?_
          · refine Only.step (Device.sign_only ..) rfl ?_
            assumption
          refine Only.step (Device.complete_only ..) rfl ?_
          refine Only.step (Device.post_only ..) rfl ?_
          assumption
theorem execCmdDbgChallenge_only (t : Tick) (h : CmdHdr) (a : Args) (dmaOk : Bool) (s s' : State) (hq : s.Quiet) (h : execCmdDbgChallenge t h a dmaOk s = .next s') : Only [.mail, .posts, .regs, .sec] (s.dev.ready t) s'.dev := by
  refine State.on_only hq h fun d => ?_
  refine Device.cmd_by rfl (fun x1 hx1 => ?_) ?_
  · split
    rename_i q2
    refine Only.cut _ (Only.of_snd q2 ?_) fun hx3 => ?_
    · refine Only.step (Device.draw_only ..) rfl ?_
      assumption
    extract_lets +onlyGivenNames c4
    extract_lets +onlyGivenNames d5
    refine Only.cut d5 ?_ fun hd5 => ?_
    · subst d5
      refine Only.step (Device.setSec_only ..) rfl ?_
      assumption
    clear_value d5
    split
    · refine Only.fst_mk ?_
      refine Only.step (Device.dmaFail_only ..) rfl ?_
      assumption
    · refine Only.fst_mk ?_
      refine Only.step (Device.post_only ..) rfl ?_
      assumption
  exact Only.refl
theorem execCmdDbgUnlock_only (t : Tick) (h : CmdHdr) (a : Args) (mem : Option (List (BitVec 8))) (s s' : State) (hq : s.Quiet) (h : execCmdDbgUnlock t h a mem s = .next s') : Only [.mail, .posts, .regs, .sec] (s.dev.ready t) s'.dev := by
  refine State.on_only hq h fun d => ?_
  extract_lets +onlyGivenNames scope1
  refine Device.cmdIf_by rfl (fun x2 hx2 => ?_) ?_
  · split
    · refine Only.fst_mk ?_
      assumption
    · split
      · refine Only.fst_mk ?_
        assumption
      · split
        · refine Only.fst_mk ?_
          refine Only.step (Device.dmaFail_only ..) rfl ?_
          assumption
        · extract_lets +onlyGivenNames sig3
          extract_lets +onlyGivenNames ok4
          split
          · refine Only.fst_mk ?_
            assumption
          · extract_lets +onlyGivenNames d5
            refine Only.cut d5 ?_ fun hd5 => ?_
            · subst d5
              refine Only.step (Device.setSec_only ..) rfl ?_
              assumption
            clear_value d5
            refine Only.fst_mk ?_
            refine Only.step (Device.raise_only ..) rfl ?_
            assumption
  exact Only.refl
theorem execCmdDbgLock_only (t : Tick) (h : CmdHdr) (a : Args) (s s' : State) (hq : s.Quiet) (h : execCmdDbgLock t h a s = .next s') : Only [.mail, .posts, .sec] (s.dev.ready t) s'.dev := by
  refine State.on_only hq h fun d => ?_
  refine Device.cmdIf_by rfl (fun x1 hx1 => ?_) ?_
  · split
    · refine Only.fst_mk ?_
      refine Only.ite ?_ ?_
      · refine Only.step (Device.setSec_only ..) rfl ?_
        assumption
      · assumption
    · split
      · refine Only.fst_mk ?_
        assumption
      · refine Only.fst_mk ?_
        refine Only.step (Device.setSec_only ..) rfl ?_
        assumption
  exact Only.refl

/-! ## Mailbox -/

theorem Device.setPar_only (d : Device) (f : ParamState → ParamState) : Only [.par] d (Device.setPar d f) := by
  unfold Device.setPar
  refine Only.set_par rfl ?_
  exact Only.refl
theorem Device.setChan_only (d : Device) (c : Nat) (f : Channel → Channel) : Only [.mail] d (Device.setChan d c f) := by
  unfold Device.setChan
  refine Device.setHost_set (.inl rfl) (.inr fun _ => rfl) (.inr fun _ => rfl) (.inr fun _ => rfl) ?_
  exact Only.refl
theorem Device.msixUnmask_only (d : Device) (v : Nat) : Only [.posts] d (Device.msixUnmask d v) := by
  unfold Device.msixUnmask
  extract_lets +onlyGivenNames e1
  extract_lets +onlyGivenNames d2
  refine Only.cut d2 ?_ fun hd2 => ?_
  · subst d2
    refine Device.setHost_set (.inr fun _ => rfl) (.inr fun _ => rfl) (.inl rfl) (.inr fun _ => rfl) ?_
    exact Only.refl
  clear_value d2
  refine Only.ite ?_ ?_
  · refine Only.step (Device.msix_only ..) rfl ?_
    assumption
  · assumption
theorem Device.stage_only (d : Device) (pairs : List (Nat × BitVec 32)) : Only [.par] d (Device.stage d pairs).1 := by
  unfold Device.stage
  split
  · refine Only.fst_mk ?_
    exact Only.refl
  · split
    · refine Only.fst_mk ?_
      exact Only.refl
    · refine Only.fst_mk ?_
      refine Only.step (Device.setPar_only ..) rfl ?_
      exact Only.refl
theorem Device.setDirty_only (d : Device) : Only [.par] d (Device.setDirty d) := by
  unfold Device.setDirty
  refine Only.step (Device.setPar_only ..) rfl ?_
  exact Only.refl
theorem Device.commitEffects_only (d : Device) (old : PSet) : Only [.meas, .law, .traj, .brk, .seq, .modu, .packs, .prot, .regs, .conv, .clk] d (Device.commitEffects d old) := by
  unfold Device.commitEffects
  extract_lets +onlyGivenNames d1
  refine Only.cut d1 ?_ fun hd1 => ?_
  · subst d1
    refine Only.step (Device.newForce_only ..) rfl ?_
    exact Only.refl
  clear_value d1
  extract_lets +onlyGivenNames new2
  extract_lets +onlyGivenNames d3
  refine Only.cut d3 ?_ fun hd3 => ?_
  · subst d3
    refine Only.ite ?_ ?_
    · assumption
    · refine Only.step (Device.setLaw_only ..) rfl ?_
      assumption
  clear_value d3
  extract_lets +onlyGivenNames lims4
  extract_lets +onlyGivenNames d5
  refine Only.cut d5 ?_ fun hd5 => ?_
  · subst d5
    refine Only.ite ?_ ?_
    · assumption
    · refine Only.step (Device.setTraj_only ..) rfl ?_
      assumption
  clear_value d5
  extract_lets +onlyGivenNames d6
  refine Only.cut d6 ?_ fun hd6 => ?_
  · subst d6
    refine Only.foldl (fun x7 b8 hx7 => ?_) ?_
    · refine Only.step (Device.refreshTin_only ..) rfl ?_
      assumption
    · assumption
  clear_value d6
  extract_lets +onlyGivenNames d9
  refine Only.cut d9 ?_ fun hd9 => ?_
  · subst d9
    refine Only.foldl (fun x10 b11 hx10 => ?_) ?_
    · refine Only.step (Device.evalCmp_only ..) rfl ?_
      assumption
    · assumption
  clear_value d9
  extract_lets +onlyGivenNames d12
  refine Only.cut d12 ?_ fun hd12 => ?_
  · subst d12
    refine Only.step (Device.commitProfiles_only ..) rfl ?_
    refine Only.step (Device.clkoutCommit_only ..) rfl ?_
    refine Only.step (Device.bypassInput_only ..) rfl ?_
    assumption
  clear_value d12
  refine Only.ite ?_ ?_
  · refine Device.setHost_set (.inr fun _ => rfl) (.inr fun _ => rfl) (.inr fun _ => rfl) (.inl rfl) ?_
    assumption
  · assumption
theorem execChannelEnableWrite_only (t : Tick) (v : BitVec 32) (s s' : State) (hq : s.Quiet) (h : execChannelEnableWrite t v s = .next s') : Only [.mail, .regs] (s.dev.ready t) s'.dev := by
  refine State.on_only hq h fun d => ?_
  extract_lets +onlyGivenNames d1
  refine Only.cut d1 ?_ fun hd1 => ?_
  · subst d1
    refine Only.step (Device.reserved_only ..) rfl ?_
    exact Only.refl
  clear_value d1
  refine Only.foldl (fun x2 b3 hx2 => ?_) ?_
  · extract_lets +onlyGivenNames on4
    refine Only.ite ?_ ?_
    · assumption
    · refine Only.ite ?_ ?_
      · refine Device.setHost_set (.inl rfl) (.inr fun _ => rfl) (.inr fun _ => rfl) (.inl rfl) ?_
        refine Only.step (Device.setChan_only ..) rfl ?_
        assumption
      · extract_lets +onlyGivenNames gone5
        refine Device.setHost_set (.inl rfl) (.inr fun _ => rfl) (.inr fun _ => rfl) (.inl rfl) ?_
        refine Only.step (Device.setChan_only ..) rfl ?_
        assumption
  · assumption
theorem execCommandDoorbell_only (t : Tick) (ch : Fin 8) (v : BitVec 32) (s s' : State) (hq : s.Quiet) (h : execCommandDoorbell t ch v s = .next s') : Only [.mail, .regs] (s.dev.ready t) s'.dev := by
  refine State.on_only hq h fun d => ?_
  extract_lets +onlyGivenNames d1
  refine Only.cut d1 ?_ fun hd1 => ?_
  · subst d1
    refine Only.step (Device.reserved_only ..) rfl ?_
    exact Only.refl
  clear_value d1
  extract_lets +onlyGivenNames n2
  refine Only.ite ?_ ?_
  · refine Only.step (Device.hostErr_only ..) rfl ?_
    assumption
  · refine Only.step (Device.setChan_only ..) rfl ?_
    assumption
theorem execCommandFetch_only (t : Tick) (entry : Option (BitVec 512)) (s s' : State) (hq : s.Quiet) (h : execCommandFetch t entry s = .next s') : Only [.mail, .posts, .regs] (s.dev.ready t) s'.dev := by
  refine State.on_only hq h fun d => ?_
  split
  · split
    · refine Only.step (Device.dmaFail_only ..) rfl ?_
      exact Only.refl
    · extract_lets +onlyGivenNames b1
      extract_lets +onlyGivenNames h2
      extract_lets +onlyGivenNames bad3
      refine Only.ite ?_ ?_
      · exact Only.refl
      · extract_lets +onlyGivenNames d4
        refine Only.cut d4 ?_ fun hd4 => ?_
        · subst d4
          refine Only.step (Device.setChan_only ..) rfl ?_
          exact Only.refl
        clear_value d4
        extract_lets +onlyGivenNames d5
        refine Only.cut d5 ?_ fun hd5 => ?_
        · subst d5
          refine Device.setHost_set (.inl rfl) (.inr fun _ => rfl) (.inl rfl) (.inl rfl) ?_
          assumption
        clear_value d5
        clear_value bad3
        split
        · refine Only.step (Device.complete_only ..) rfl ?_
          assumption
        · assumption
  · exact Only.refl
theorem execEvqEnableWrite_only (t : Tick) (v : BitVec 32) (s s' : State) (hq : s.Quiet) (h : execEvqEnableWrite t v s = .next s') : Only [.queue, .posts, .regs] (s.dev.ready t) s'.dev := by
  refine State.on_only hq h fun d => ?_
  extract_lets +onlyGivenNames d1
  refine Only.cut d1 ?_ fun hd1 => ?_
  · subst d1
    refine Only.step (Device.reserved_only ..) rfl ?_
    exact Only.refl
  clear_value d1
  extract_lets +onlyGivenNames on2
  refine Only.ite ?_ ?_
  · assumption
  · refine Only.ite ?_ ?_
    · refine Only.step (Device.drain_only ..) rfl ?_
      refine Device.setHost_set (.inr fun _ => rfl) (.inl rfl) (.inl rfl) (.inl rfl) ?_
      assumption
    · refine Device.setHost_set (.inr fun _ => rfl) (.inl rfl) (.inl rfl) (.inl rfl) ?_
      assumption
theorem execEvqHeadWrite_only (t : Tick) (v : BitVec 32) (s s' : State) (hq : s.Quiet) (h : execEvqHeadWrite t v s = .next s') : Only [.queue, .posts, .regs] (s.dev.ready t) s'.dev := by
  refine State.on_only hq h fun d => ?_
  refine Only.ite ?_ ?_
  · refine Only.step (Device.hostErr_only ..) rfl ?_
    exact Only.refl
  · refine Only.step (Device.drain_only ..) rfl ?_
    refine Device.setHost_set (.inr fun _ => rfl) (.inl rfl) (.inl rfl) (.inl rfl) ?_
    exact Only.refl
theorem execEventRecordWrite_only (t : Tick) (ok : Bool) (s s' : State) (hq : s.Quiet) (h : execEventRecordWrite t ok s = .next s') : Only [.traj, .brk, .seq, .modu, .prot, .safety, .queue, .posts, .conv, .eh] (s.dev.ready t) s'.dev := by
  refine State.on_only hq h fun d => ?_
  refine Only.ite ?_ ?_
  · refine Only.step (Device.drain_only ..) rfl ?_
    exact Only.refl
  · refine Only.ite ?_ ?_
    · exact Only.refl
    · refine Only.step (Device.errReport_only ..) rfl ?_
      refine Device.setHost_set (.inr fun _ => rfl) (.inl rfl) (.inl rfl) (.inr fun _ => rfl) ?_
      exact Only.refl
theorem execEvqIrqDelayExpiry_only (t : Tick) (s s' : State) (hq : s.Quiet) (h : execEvqIrqDelayExpiry t s = .next s') : Only [.posts] (s.dev.ready t) s'.dev := by
  refine State.on_only hq h fun d => ?_
  extract_lets +onlyGivenNames delay1
  refine Only.ite ?_ ?_
  · refine Only.step (Device.evqSignal_only ..) rfl ?_
    exact Only.refl
  · exact Only.refl
theorem execFenceWrite_only (t : Tick) (s s' : State) (hq : s.Quiet) (h : execFenceWrite t s = .next s') : Only [.mail] (s.dev.ready t) s'.dev := by
  refine State.on_only hq h fun d => ?_
  refine Device.setHost_set (.inl rfl) (.inr fun _ => rfl) (.inr fun _ => rfl) (.inr fun _ => rfl) ?_
  exact Only.refl
theorem execFenceRead_only (t : Tick) (s s' : State) (hq : s.Quiet) (h : execFenceRead t s = .next s') : Only [.mail, .regs] (s.dev.ready t) s'.dev := by
  refine State.on_only hq h fun d => ?_
  extract_lets +onlyGivenNames d1
  refine Only.cut d1 ?_ fun hd1 => ?_
  · subst d1
    refine Only.ite ?_ ?_
    · refine Device.setHost_set (.inl rfl) (.inr fun _ => rfl) (.inr fun _ => rfl) (.inl rfl) ?_
      exact Only.refl
    · exact Only.refl
  clear_value d1
  refine Only.step (Device.answer_only ..) rfl ?_
  assumption
theorem execHostWatchdogWrite_only (t : Tick) (s s' : State) (hq : s.Quiet) (h : execHostWatchdogWrite t s = .next s') : Only [.regs] (s.dev.ready t) s'.dev := by
  refine State.on_only hq h fun d => ?_
  refine Device.setHost_set (.inr fun _ => rfl) (.inr fun _ => rfl) (.inr fun _ => rfl) (.inl rfl) ?_
  exact Only.refl
theorem execHostWatchdogExpiry_only (t : Tick) (s s' : State) (hq : s.Quiet) (h : execHostWatchdogExpiry t s = .next s') : Only [.regs] (s.dev.ready t) s'.dev := by
  refine State.on_only hq h fun d => ?_
  extract_lets +onlyGivenNames w1
  refine Only.ite ?_ ?_
  · exact Only.refl
  · refine Only.step (Device.raise_only ..) rfl ?_
    refine Device.setHost_set (.inr fun _ => rfl) (.inr fun _ => rfl) (.inr fun _ => rfl) (.inl rfl) ?_
    exact Only.refl
theorem execMsixVectorUnmask_only (t : Tick) (v : Fin 32) (s s' : State) (hq : s.Quiet) (h : execMsixVectorUnmask t v s = .next s') : Only [.posts] (s.dev.ready t) s'.dev := by
  refine State.on_only hq h fun d => ?_
  refine Only.step (Device.msixUnmask_only ..) rfl ?_
  exact Only.refl
theorem execHostInterfaceReset_only (t : Tick) (s s' : State) (hq : s.Quiet) (h : execHostInterfaceReset t s = .next s') : Only [.mail, .queue, .posts, .regs] (s.dev.ready t) s'.dev := by
  refine State.on_only hq h fun d => ?_
  refine Device.setHost_set (.inl rfl) (.inl rfl) (.inl rfl) (.inl rfl) ?_
  exact Only.refl
theorem execCmdParamStage_only (t : Tick) (h : CmdHdr) (a : Args) (s s' : State) (hq : s.Quiet) (h : execCmdParamStage t h a s = .next s') : Only [.par, .mail, .posts] (s.dev.ready t) s'.dev := by
  refine State.on_only hq h fun d => ?_
  extract_lets +onlyGivenNames n1
  refine Device.cmdIf_by rfl (fun x2 hx2 => ?_) ?_
  · refine Only.step (Device.stage_only ..) rfl ?_
    assumption
  exact Only.refl
theorem execCmdParamStageList_only (t : Tick) (h : CmdHdr) (a : Args) (mem : Option (List (BitVec 8))) (s s' : State) (hq : s.Quiet) (h : execCmdParamStageList t h a mem s = .next s') : Only [.par, .mail, .posts, .regs] (s.dev.ready t) s'.dev := by
  refine State.on_only hq h fun d => ?_
  extract_lets +onlyGivenNames n1
  refine Device.cmdIf_by rfl (fun x2 hx2 => ?_) ?_
  · split
    · refine Only.fst_mk ?_
      assumption
    · split
      · refine Only.fst_mk ?_
        refine Only.step (Device.dmaFail_only ..) rfl ?_
        assumption
      · refine Only.step (Device.stage_only ..) rfl ?_
        assumption
  exact Only.refl
theorem execCmdParamStageDefaults_only (t : Tick) (h : CmdHdr) (a : Args) (s s' : State) (hq : s.Quiet) (h : execCmdParamStageDefaults t h a s = .next s') : Only [.par, .mail, .posts] (s.dev.ready t) s'.dev := by
  refine State.on_only hq h fun d => ?_
  refine Device.cmd_by rfl (fun x1 hx1 => ?_) ?_
  · split
    · refine Only.fst_mk ?_
      assumption
    · extract_lets +onlyGivenNames c2
      extract_lets +onlyGivenNames ids3
      extract_lets +onlyGivenNames l4
      refine Only.fst_mk ?_
      refine Only.step (Device.setPar_only ..) rfl ?_
      assumption
  exact Only.refl
theorem execCmdParamDiscard_only (t : Tick) (h : CmdHdr) (a : Args) (s s' : State) (hq : s.Quiet) (h : execCmdParamDiscard t h a s = .next s') : Only [.par, .mail, .posts] (s.dev.ready t) s'.dev := by
  refine State.on_only hq h fun d => ?_
  refine Device.cmd_by rfl (fun x1 hx1 => ?_) ?_
  · split
    · refine Only.fst_mk ?_
      assumption
    · refine Only.fst_mk ?_
      refine Only.step (Device.setPar_only ..) rfl ?_
      assumption
  exact Only.refl
theorem execCmdParamCommit_only (t : Tick) (h : CmdHdr) (a : Args) (s s' : State) (hq : s.Quiet) (h : execCmdParamCommit t h a s = .next s') : Only [.par, .mail, .posts] (s.dev.ready t) s'.dev := by
  refine State.on_only hq h fun d => ?_
  refine Device.cmd_by rfl (fun x1 hx1 => ?_) ?_
  · split
    · refine Only.fst_mk ?_
      assumption
    · refine Only.fst_mk ?_
      refine Only.step (Device.setPar_only ..) rfl ?_
      assumption
  exact Only.refl
theorem execCommitCheckDone_only (t : Tick) (s s' : State) (hq : s.Quiet) (h : execCommitCheckDone t s = .next s') : Only [.par, .mail, .posts] (s.dev.ready t) s'.dev := by
  refine State.on_only hq h fun d => ?_
  split
  · exact Only.refl
  · split
    · refine Only.step (Device.complete_only ..) rfl ?_
      refine Only.step (Device.setPar_only ..) rfl ?_
      exact Only.refl
    · extract_lets +onlyGivenNames ids1
      extract_lets +onlyGivenNames cyc2
      refine Only.step (Device.setDirty_only ..) rfl ?_
      refine Only.step (Device.setPar_only ..) rfl ?_
      exact Only.refl
theorem execCommitApply_only (t : Tick) (s s' : State) (hq : s.Quiet) (h : execCommitApply t s = .next s') : Only [.meas, .law, .traj, .brk, .seq, .modu, .packs, .prot, .par, .mail, .posts, .regs, .conv, .clk] (s.dev.ready t) s'.dev := by
  refine State.on_only hq h fun d => ?_
  extract_lets +onlyGivenNames e1
  extract_lets +onlyGivenNames due2
  refine Only.ite ?_ ?_
  · exact Only.refl
  · extract_lets +onlyGivenNames old3
    extract_lets +onlyGivenNames ids4
    extract_lets +onlyGivenNames d5
    refine Only.cut d5 ?_ fun hd5 => ?_
    · subst d5
      refine Only.step (Device.setPar_only ..) rfl ?_
      refine Only.step (Device.applyWaiting_only ..) rfl ?_
      exact Only.refl
    clear_value d5
    refine Only.foldl (fun x6 b7 hx6 => ?_) ?_
    · refine Only.step (Device.complete_only ..) rfl ?_
      assumption
    · refine Only.step (Device.commitEffects_only ..) rfl ?_
      assumption
theorem execCmdParamRead_only (t : Tick) (h : CmdHdr) (a : Args) (s s' : State) (hq : s.Quiet) (h : execCmdParamRead t h a s = .next s') : Only [.mail, .posts] (s.dev.ready t) s'.dev := by
  refine State.on_only hq h fun d => ?_
  refine Device.cmdIf_by rfl (fun x1 hx1 => ?_) ?_
  · extract_lets +onlyGivenNames id2
    split
    · refine Only.fst_mk ?_
      assumption
    · split
      · refine Only.fst_mk ?_
        assumption
      · refine Only.fst_mk ?_
        assumption
  exact Only.refl
theorem execCmdParamPersist_only (t : Tick) (h : CmdHdr) (a : Args) (s s' : State) (hq : s.Quiet) (h : execCmdParamPersist t h a s = .next s') : Only [.par, .mail, .posts] (s.dev.ready t) s'.dev := by
  refine State.on_only hq h fun d => ?_
  refine Device.cmd_by rfl (fun x1 hx1 => ?_) ?_
  · split
    · refine Only.fst_mk ?_
      assumption
    · refine Only.fst_mk ?_
      refine Only.step (Device.setPar_only ..) rfl ?_
      assumption
  exact Only.refl
theorem execParamPersistDone_only (t : Tick) (ok : Bool) (s s' : State) (hq : s.Quiet) (h : execParamPersistDone t ok s = .next s') : Only [.par, .copies, .mail, .posts] (s.dev.ready t) s'.dev := by
  refine State.on_only hq h fun d => ?_
  split
  · exact Only.refl
  · extract_lets +onlyGivenNames n1
    extract_lets +onlyGivenNames last2
    extract_lets +onlyGivenNames set3
    extract_lets +onlyGivenNames d4
    refine Only.cut d4 ?_ fun hd4 => ?_
    · subst d4
      refine Only.set_parCopies rfl ?_
      exact Only.refl
    clear_value d4
    extract_lets +onlyGivenNames d5
    refine Only.cut d5 ?_ fun hd5 => ?_
    · subst d5
      refine Only.step (Device.setDirty_only ..) rfl ?_
      refine Only.step (Device.setPar_only ..) rfl ?_
      assumption
    clear_value d5
    refine Only.step (Device.complete_only ..) rfl ?_
    assumption

/-! ## Commands -/

theorem Device.cellCmd_by {K : List Region} {d e : Device} {h : CmdHdr} {a : Args} {body : Nat → Device → Device × Option Ending}
    (hk : sub [.mail, .posts] K = true) (hb : ∀ c x, Only K d x → Only K d (body c x).1) (hd : Only K d e) : Only K d (e.cellCmd h a body) := Device.cmdIf_by hk (hb _) hd
theorem Device.queueTxn_only (d : Device) (h : CmdHdr) (ring : Nat) (addr : Nat) (q : SlowReq) : Only [.link] d (Device.queueTxn d h ring addr q).1 := by
  unfold Device.queueTxn
  split
  · refine Only.fst_mk ?_
    exact Only.refl
  · refine Only.fst_mk ?_
    refine Only.step (Device.setLink_only ..) rfl ?_
    exact Only.refl
theorem Device.hostClear_only (d : Device) (i : Nat) : Only [.prot] d (Device.hostClear d i).1 := by
  unfold Device.hostClear
  split
  · split
    · refine Only.fst_mk ?_
      refine Only.step (Device.rejectClear_only ..) rfl ?_
      exact Only.refl
    · refine Only.fst_mk ?_
      exact Only.refl
  · refine Only.fst_mk ?_
    refine Only.step (Device.clearRequest_only ..) rfl ?_
    exact Only.refl
theorem refusedOver_by {K : List Region} {d e : Device} {f : Device → Nat → Device × Bool} {l : List Nat} (hf : ∀ x i, Only K d x → Only K d (f x i).1) (h : Only K d e) :
    Only K d (refusedOver f l e).1 := by
  induction l generalizing e with
  | nil => exact h
  | cons i r ih => exact ih (hf _ i h)
theorem Device.tripRearm_only (d : Device) (i : Nat) : Only [.traj, .brk, .seq, .modu, .prot, .conv] d (Device.tripRearm d i).1 := by
  unfold Device.tripRearm
  extract_lets +onlyGivenNames quiet1
  split
  · refine Only.fst_mk ?_
    exact Only.refl
  · refine Only.fst_mk ?_
    refine Only.step (Device.refreshTin_only ..) rfl ?_
    refine Device.setProt_set (.inl rfl) (.inr fun _ => rfl) ?_
    exact Only.refl
theorem Device.sinRearm_only (d : Device) (n : Nat) : Only [.traj, .brk, .seq, .modu, .prot, .safety, .conv] d (Device.sinRearm d n).1 := by
  unfold Device.sinRearm
  extract_lets +onlyGivenNames x1
  split
  · refine Only.fst_mk ?_
    refine Only.step (Device.evalInputs_only ..) rfl ?_
    refine Only.step (Device.setSin_only ..) rfl ?_
    exact Only.refl
  · refine Only.fst_mk ?_
    exact Only.refl
theorem Device.soutRearm_only (d : Device) (n : Nat) : Only [.safety] d (Device.soutRearm d n).1 := by
  unfold Device.soutRearm
  split
  · refine Only.fst_mk ?_
    exact Only.refl
  · refine Only.fst_mk ?_
    refine Only.step (Device.driveOutputs_only ..) rfl ?_
    refine Only.step (Device.setSout_only ..) rfl ?_
    exact Only.refl
theorem execCmdNop_only (t : Tick) (h : CmdHdr) (a : Args) (s s' : State) (hq : s.Quiet) (h : execCmdNop t h a s = .next s') : Only [.mail, .posts] (s.dev.ready t) s'.dev := by
  refine State.on_only hq h fun d => ?_
  refine Device.cmd_by rfl (fun x1 hx1 => ?_) ?_
  · refine Only.fst_mk ?_
    assumption
  exact Only.refl
theorem execCmdStateReq_only (t : Tick) (h : CmdHdr) (a : Args) (s s' : State) (hq : s.Quiet) (h : execCmdStateReq t h a s = .next s') : Only [.mail, .posts, .conv] (s.dev.ready t) s'.dev := by
  refine State.on_only hq h fun d => ?_
  refine Device.cmd_by rfl (fun x1 hx1 => ?_) ?_
  · extract_lets +onlyGivenNames target2
    split
    · refine Only.fst_mk ?_
      assumption
    · refine Only.fst_mk ?_
      refine Only.step (Device.setConv_only ..) rfl ?_
      assumption
  exact Only.refl
theorem execCmdTrMove_only (t : Tick) (h : CmdHdr) (a : Args) (mem : Option (List (BitVec 8))) (s s' : State) (hq : s.Quiet) (h : execCmdTrMove t h a mem s = .next s') : Only [.traj, .mail, .posts, .regs] (s.dev.ready t) s'.dev := by
  refine State.on_only hq h fun d => ?_
  extract_lets +onlyGivenNames n1
  extract_lets +onlyGivenNames bad2
  refine Device.cmdIf_by rfl (fun x3 hx3 => ?_) ?_
  · split
    · refine Only.fst_mk ?_
      assumption
    · split
      · refine Only.fst_mk ?_
        assumption
      · split
        · refine Only.fst_mk ?_
          assumption
        · split
          · refine Only.fst_mk ?_
            assumption
          · split
            · refine Only.fst_mk ?_
              refine Only.step (Device.dmaFail_only ..) rfl ?_
              assumption
            · split
              · refine Only.fst_mk ?_
                assumption
              · extract_lets +onlyGivenNames m4
                extract_lets +onlyGivenNames d5
                refine Only.cut d5 ?_ fun hd5 => ?_
                · subst d5
                  refine Only.step (Device.setTraj_only ..) rfl ?_
                  assumption
                clear_value d5
                refine Only.fst_mk ?_
                assumption
  exact Only.refl
theorem execCmdTrFlush_only (t : Tick) (h : CmdHdr) (a : Args) (s s' : State) (hq : s.Quiet) (h : execCmdTrFlush t h a s = .next s') : Only [.traj, .mail, .posts] (s.dev.ready t) s'.dev := by
  refine State.on_only hq h fun d => ?_
  refine Device.cmd_by rfl (fun x1 hx1 => ?_) ?_
  · split
    · refine Only.fst_mk ?_
      assumption
    · refine Only.fst_mk ?_
      refine Only.step (Device.flushMoves_only ..) rfl ?_
      assumption
  exact Only.refl
theorem execCmdTrTableLoad_only (t : Tick) (h : CmdHdr) (a : Args) (mem : Option (List (BitVec 8))) (s s' : State) (hq : s.Quiet) (h : execCmdTrTableLoad t h a mem s = .next s') : Only [.traj, .mail, .posts, .regs] (s.dev.ready t) s'.dev := by
  refine State.on_only hq h fun d => ?_
  refine Device.cmd_by rfl (fun x1 hx1 => ?_) ?_
  · split
    · refine Only.fst_mk ?_
      assumption
    · split
      · refine Only.fst_mk ?_
        refine Only.step (Device.dmaFail_only ..) rfl ?_
        assumption
      · extract_lets +onlyGivenNames l2
        extract_lets +onlyGivenNames i3
        split
        · refine Only.fst_mk ?_
          assumption
        · refine Only.fst_mk ?_
          refine Only.step (Device.setTraj_only ..) rfl ?_
          assumption
  exact Only.refl
theorem execCmdBlackStart_only (t : Tick) (h : CmdHdr) (a : Args) (s s' : State) (hq : s.Quiet) (h : execCmdBlackStart t h a s = .next s') : Only [.seq, .mail, .posts] (s.dev.ready t) s'.dev := by
  refine State.on_only hq h fun d => ?_
  refine Device.cmd_by rfl (fun x1 hx1 => ?_) ?_
  · split
    · refine Only.fst_mk ?_
      assumption
    · split
      · refine Only.fst_mk ?_
        refine Only.step (Device.raise_only ..) rfl ?_
        assumption
      · split
        · refine Only.fst_mk ?_
          assumption
        · refine Only.fst_mk ?_
          refine Only.step (Device.bsBegin_only ..) rfl ?_
          assumption
  exact Only.refl
theorem execCmdLand_only (t : Tick) (h : CmdHdr) (a : Args) (s s' : State) (hq : s.Quiet) (h : execCmdLand t h a s = .next s') : Only [.mail, .posts, .conv] (s.dev.ready t) s'.dev := by
  refine State.on_only hq h fun d => ?_
  refine Device.cmd_by rfl (fun x1 hx1 => ?_) ?_
  · split
    · refine Only.fst_mk ?_
      assumption
    · split
      · refine Only.fst_mk ?_
        assumption
      · split
        · refine Only.fst_mk ?_
          assumption
        · refine Only.fst_mk ?_
          refine Only.step (Device.setConv_only ..) rfl ?_
          assumption
  exact Only.refl
theorem execCmdLandAbort_only (t : Tick) (h : CmdHdr) (a : Args) (s s' : State) (hq : s.Quiet) (h : execCmdLandAbort t h a s = .next s') : Only [.traj, .brk, .seq, .mail, .posts] (s.dev.ready t) s'.dev := by
  refine State.on_only hq h fun d => ?_
  refine Device.cmd_by rfl (fun x1 hx1 => ?_) ?_
  · split
    · refine Only.fst_mk ?_
      assumption
    · split
      · refine Only.fst_mk ?_
        assumption
      · refine Only.fst_mk ?_
        refine Only.step (Device.landAbort_only ..) rfl ?_
        assumption
  exact Only.refl
theorem execCmdBrkClose_only (t : Tick) (h : CmdHdr) (a : Args) (s s' : State) (hq : s.Quiet) (h : execCmdBrkClose t h a s = .next s') : Only [.brk, .mail, .posts] (s.dev.ready t) s'.dev := by
  refine State.on_only hq h fun d => ?_
  extract_lets +onlyGivenNames b1
  refine Device.cmdIf_by rfl (fun x2 hx2 => ?_) ?_
  · split
    · refine Only.fst_mk ?_
      assumption
    · split
      · refine Only.fst_mk ?_
        assumption
      · split
        · refine Only.fst_mk ?_
          assumption
        · refine Only.fst_mk ?_
          refine Only.step (Device.closeCommand_only ..) rfl ?_
          assumption
  exact Only.refl
theorem execCmdBrkRearm_only (t : Tick) (h : CmdHdr) (a : Args) (s s' : State) (hq : s.Quiet) (h : execCmdBrkRearm t h a s = .next s') : Only [.law, .traj, .brk, .seq, .prot, .mail, .posts, .conv] (s.dev.ready t) s'.dev := by
  refine State.on_only hq h fun d => ?_
  extract_lets +onlyGivenNames b1
  refine Device.cmdIf_by rfl (fun x2 hx2 => ?_) ?_
  · extract_lets +onlyGivenNames x3
    extract_lets +onlyGivenNames x4
    split
    · refine Only.fst_mk ?_
      assumption
    · split
      · refine Only.fst_mk ?_
        assumption
      · extract_lets +onlyGivenNames d5
        refine Only.cut d5 ?_ fun hd5 => ?_
        · subst d5
          refine Device.setProt_set (.inl rfl) (.inr fun _ => rfl) ?_
          assumption
        clear_value d5
        refine Only.fst_mk ?_
        refine Only.step (Device.brkSettle_only ..) rfl ?_
        refine Only.step (Device.setBrk_only ..) rfl ?_
        assumption
  exact Only.refl
theorem execCmdFeedbackRearm_only (t : Tick) (h : CmdHdr) (a : Args) (s s' : State) (hq : s.Quiet) (h : execCmdFeedbackRearm t h a s = .next s') : Only [.law, .mail, .posts] (s.dev.ready t) s'.dev := by
  refine State.on_only hq h fun d => ?_
  extract_lets +onlyGivenNames m1
  refine Device.cmdIf_by rfl (fun x2 hx2 => ?_) ?_
  · refine Only.fst_mk ?_
    refine Only.step (Device.setLaw_only ..) rfl ?_
    assumption
  exact Only.refl
theorem execCmdCellBypass_only (t : Tick) (h : CmdHdr) (a : Args) (s s' : State) (hq : s.Quiet) (h : execCmdCellBypass t h a s = .next s') : Only [.modu, .mail, .posts] (s.dev.ready t) s'.dev := by
  refine State.on_only hq h fun d => ?_
  refine Device.cellCmd_by rfl (fun cx1 x1 hx1 => ?_) ?_
  · refine Only.fst_mk ?_
    refine Only.step (Device.bypass_only ..) rfl ?_
    assumption
  exact Only.refl
theorem execCmdCellReturn_only (t : Tick) (h : CmdHdr) (a : Args) (s s' : State) (hq : s.Quiet) (h : execCmdCellReturn t h a s = .next s') : Only [.traj, .brk, .seq, .modu, .prot, .mail, .posts, .conv] (s.dev.ready t) s'.dev := by
  refine State.on_only hq h fun d => ?_
  refine Device.cellCmd_by rfl (fun cx1 x1 hx1 => ?_) ?_
  · extract_lets +onlyGivenNames flags2
    split
    · refine Only.fst_mk ?_
      assumption
    · split
      · refine Only.fst_mk ?_
        assumption
      · split
        · refine Only.fst_mk ?_
          assumption
        · split
          · refine Only.fst_mk ?_
            assumption
          · extract_lets +onlyGivenNames d3
            refine Only.cut d3 ?_ fun hd3 => ?_
            · subst d3
              refine Only.step (Device.setCell_only ..) rfl ?_
              assumption
            clear_value d3
            refine Only.fst_mk ?_
            refine Only.step (Device.bypassInput_only ..) rfl ?_
            refine Device.setProt_set (.inl rfl) (.inr fun _ => rfl) ?_
            assumption
  exact Only.refl
theorem execCmdPackRearm_only (t : Tick) (h : CmdHdr) (a : Args) (s s' : State) (hq : s.Quiet) (h : execCmdPackRearm t h a s = .next s') : Only [.packs, .mail, .posts] (s.dev.ready t) s'.dev := by
  refine State.on_only hq h fun d => ?_
  refine Device.cellCmd_by rfl (fun cx1 x1 hx1 => ?_) ?_
  · extract_lets +onlyGivenNames d2
    refine Only.cut d2 ?_ fun hd2 => ?_
    · subst d2
      refine Only.step (Device.setPack_only ..) rfl ?_
      assumption
    clear_value d2
    refine Only.fst_mk ?_
    refine Only.step (Device.refreshCauses_only ..) rfl ?_
    assumption
  exact Only.refl
theorem execCmdPackTenancy_only (t : Tick) (h : CmdHdr) (a : Args) (s s' : State) (hq : s.Quiet) (h : execCmdPackTenancy t h a s = .next s') : Only [.packs, .mail, .posts] (s.dev.ready t) s'.dev := by
  refine State.on_only hq h fun d => ?_
  refine Device.cellCmd_by rfl (fun cx1 x1 hx1 => ?_) ?_
  · split
    · refine Only.fst_mk ?_
      assumption
    · split
      · refine Only.fst_mk ?_
        assumption
      · extract_lets +onlyGivenNames d2
        refine Only.cut d2 ?_ fun hd2 => ?_
        · subst d2
          refine Only.step (Device.refreshCauses_only ..) rfl ?_
          refine Only.step (Device.newTenancy_only ..) rfl ?_
          assumption
        clear_value d2
        refine Only.fst_mk ?_
        assumption
  exact Only.refl
theorem execCmdBmsTap_only (t : Tick) (h : CmdHdr) (a : Args) (s s' : State) (hq : s.Quiet) (h : execCmdBmsTap t h a s = .next s') : Only [.packs, .mail, .posts] (s.dev.ready t) s'.dev := by
  refine State.on_only hq h fun d => ?_
  extract_lets +onlyGivenNames c1
  extract_lets +onlyGivenNames n2
  extract_lets +onlyGivenNames stop3
  refine Device.cmdIf_by rfl (fun x4 hx4 => ?_) ?_
  · refine Only.fst_mk ?_
    refine Only.step (Device.setPacks_only ..) rfl ?_
    assumption
  exact Only.refl
theorem execCmdBmsSend_only (t : Tick) (h : CmdHdr) (a : Args) (s s' : State) (hq : s.Quiet) (h : execCmdBmsSend t h a s = .next s') : Only [.link, .mail, .posts] (s.dev.ready t) s'.dev := by
  refine State.on_only hq h fun d => ?_
  extract_lets +onlyGivenNames c1
  extract_lets +onlyGivenNames id2
  refine Device.cmdIf_by rfl (fun x3 hx3 => ?_) ?_
  · split
    · refine Only.fst_mk ?_
      assumption
    · split
      · refine Only.fst_mk ?_
        assumption
      · extract_lets +onlyGivenNames fr4
        refine Only.fst_mk ?_
        refine Only.step (Device.queueDown_only ..) rfl ?_
        assumption
  exact Only.refl
theorem execCmdMeterSnapshot_only (t : Tick) (h : CmdHdr) (a : Args) (s s' : State) (hq : s.Quiet) (h : execCmdMeterSnapshot t h a s = .next s') : Only [.meter, .mail, .posts] (s.dev.ready t) s'.dev := by
  refine State.on_only hq h fun d => ?_
  extract_lets +onlyGivenNames first1
  extract_lets +onlyGivenNames n2
  extract_lets +onlyGivenNames bad3
  refine Device.cmdIf_by rfl (fun x4 hx4 => ?_) ?_
  · split
    · refine Only.fst_mk ?_
      assumption
    · split
      · refine Only.fst_mk ?_
        assumption
      · refine Only.fst_mk ?_
        refine Only.step (Device.setMeter_only ..) rfl ?_
        assumption
  exact Only.refl
theorem execCmdMeterAck_only (t : Tick) (h : CmdHdr) (a : Args) (s s' : State) (hq : s.Quiet) (h : execCmdMeterAck t h a s = .next s') : Only [.meter, .mail, .posts] (s.dev.ready t) s'.dev := by
  refine State.on_only hq h fun d => ?_
  refine Device.cmd_by rfl (fun x1 hx1 => ?_) ?_
  · refine Only.fst_mk ?_
    refine Only.step (Device.setMeter_only ..) rfl ?_
    assumption
  exact Only.refl
theorem execCmdNodeRead_only (t : Tick) (h : CmdHdr) (a : Args) (s s' : State) (hq : s.Quiet) (h : execCmdNodeRead t h a s = .next s') : Only [.link, .mail, .posts] (s.dev.ready t) s'.dev := by
  refine State.on_only hq h fun d => ?_
  extract_lets +onlyGivenNames n1
  extract_lets +onlyGivenNames bad2
  refine Device.cmdIf_by rfl (fun x3 hx3 => ?_) ?_
  · refine Only.step (Device.queueTxn_only ..) rfl ?_
    assumption
  exact Only.refl
theorem execCmdNodeWrite_only (t : Tick) (h : CmdHdr) (a : Args) (s s' : State) (hq : s.Quiet) (h : execCmdNodeWrite t h a s = .next s') : Only [.link, .mail, .posts] (s.dev.ready t) s'.dev := by
  refine State.on_only hq h fun d => ?_
  extract_lets +onlyGivenNames n1
  extract_lets +onlyGivenNames pos2
  extract_lets +onlyGivenNames adr3
  extract_lets +onlyGivenNames bad4
  refine Device.cmdIf_by rfl (fun x5 hx5 => ?_) ?_
  · split
    · refine Only.fst_mk ?_
      assumption
    · split
      · refine Only.fst_mk ?_
        assumption
      · refine Only.step (Device.queueTxn_only ..) rfl ?_
        assumption
  exact Only.refl
theorem execCmdTripClear_only (t : Tick) (h : CmdHdr) (a : Args) (s s' : State) (hq : s.Quiet) (h : execCmdTripClear t h a s = .next s') : Only [.prot, .mail, .posts] (s.dev.ready t) s'.dev := by
  refine State.on_only hq h fun d => ?_
  refine Device.cmd_by rfl (fun x1 hx1 => ?_) ?_
  · refine Only.endsMask ?_
    refine refusedOver_by (fun x2 cx2 hx2 => ?_) ?_
    · refine Only.step (Device.hostClear_only ..) rfl ?_
      assumption
    assumption
  exact Only.refl
theorem execCmdTripRearm_only (t : Tick) (h : CmdHdr) (a : Args) (s s' : State) (hq : s.Quiet) (h : execCmdTripRearm t h a s = .next s') : Only [.traj, .brk, .seq, .modu, .prot, .mail, .posts, .conv] (s.dev.ready t) s'.dev := by
  refine State.on_only hq h fun d => ?_
  refine Device.cmd_by rfl (fun x1 hx1 => ?_) ?_
  · refine Only.endsMask ?_
    refine refusedOver_by (fun x2 cx2 hx2 => ?_) ?_
    · refine Only.step (Device.tripRearm_only ..) rfl ?_
      assumption
    assumption
  exact Only.refl
theorem execCmdTripForce_only (t : Tick) (h : CmdHdr) (a : Args) (s s' : State) (hq : s.Quiet) (h : execCmdTripForce t h a s = .next s') : Only [.traj, .brk, .seq, .modu, .prot, .mail, .posts, .conv] (s.dev.ready t) s'.dev := by
  refine State.on_only hq h fun d => ?_
  refine Device.cmd_by rfl (fun x1 hx1 => ?_) ?_
  · refine Only.fst_mk ?_
    refine Only.step (Device.setSrc_only ..) rfl ?_
    refine Only.step (Device.inputActive_only ..) rfl ?_
    refine Device.setProt_set (.inl rfl) (.inr fun _ => rfl) ?_
    assumption
  exact Only.refl
theorem execCmdGateBaseline_only (t : Tick) (h : CmdHdr) (a : Args) (s s' : State) (hq : s.Quiet) (h : execCmdGateBaseline t h a s = .next s') : Only [.gates, .mail, .posts] (s.dev.ready t) s'.dev := by
  refine State.on_only hq h fun d => ?_
  extract_lets +onlyGivenNames c1
  refine Device.cmdIf_by rfl (fun x2 hx2 => ?_) ?_
  · extract_lets +onlyGivenNames set3
    refine Only.fst_mk ?_
    refine Device.setProt_set (.inr fun _ => rfl) (.inl rfl) ?_
    assumption
  exact Only.refl
theorem execCmdSafeReset_only (t : Tick) (h : CmdHdr) (a : Args) (s s' : State) (hq : s.Quiet) (h : execCmdSafeReset t h a s = .next s') : Only [.prot, .safety, .mail, .posts] (s.dev.ready t) s'.dev := by
  refine State.on_only hq h fun d => ?_
  refine Device.cmd_by rfl (fun x1 hx1 => ?_) ?_
  · split
    · refine Only.fst_mk ?_
      assumption
    · split
      · refine Only.fst_mk ?_
        assumption
      · split
        rename_i q2
        refine Only.cut _ (Only.of_fst q2 ?_) fun hx3 => ?_
        · refine Only.step (Device.safetyReset_only ..) rfl ?_
          assumption
        refine Only.fst_mk ?_
        assumption
  exact Only.refl
theorem execCmdSafeRearm_only (t : Tick) (h : CmdHdr) (a : Args) (s s' : State) (hq : s.Quiet) (h : execCmdSafeRearm t h a s = .next s') : Only [.traj, .brk, .seq, .modu, .prot, .safety, .mail, .posts, .conv] (s.dev.ready t) s'.dev := by
  refine State.on_only hq h fun d => ?_
  extract_lets +onlyGivenNames m1
  extract_lets +onlyGivenNames outs2
  refine Device.cmdIf_by rfl (fun x3 hx3 => ?_) ?_
  · split
    · split
      · refine Only.fst_mk ?_
        assumption
      · refine Only.endsMask ?_
        refine refusedOver_by (fun x4 cx4 hx4 => ?_) ?_
        · refine Only.step (Device.soutRearm_only ..) rfl ?_
          assumption
        assumption
    · refine Only.endsMask ?_
      refine refusedOver_by (fun x5 cx5 hx5 => ?_) ?_
      · refine Only.step (Device.sinRearm_only ..) rfl ?_
        assumption
      assumption
  exact Only.refl

/-! ## Masks -/

theorem Device.setMask_only (d : Device) (m : Nat) (f : MaskRun → MaskRun) : Only [.recd] d (Device.setMask d m f) := by
  unfold Device.setMask
  refine Device.setRec_set (.inr fun _ => rfl) (.inl rfl) ?_
  exact Only.refl
theorem Device.maskViolation_only (d : Device) (m : Nat) (t : Tick) (value : Rat) : Only [.posts, .soffit, .recd] d (Device.maskViolation d m t value) := by
  unfold Device.maskViolation
  split
  rename_i q1
  refine Only.cut _ (Only.of_snd q1 ?_) fun hx2 => ?_
  · refine Only.step (Device.quant_only ..) rfl ?_
    exact Only.refl
  extract_lets +onlyGivenNames d3
  refine Only.cut d3 ?_ fun hd3 => ?_
  · subst d3
    refine Only.step (Device.hwSet_only ..) rfl ?_
    refine Only.step (Device.setMask_only ..) rfl ?_
    assumption
  clear_value d3
  extract_lets +onlyGivenNames d4
  refine Only.cut d4 ?_ fun hd4 => ?_
  · subst d4
    refine Only.step (Device.raise_only ..) rfl ?_
    refine Only.step (Device.onFrame_only ..) rfl ?_
    assumption
  clear_value d4
  extract_lets +onlyGivenNames hit5
  extract_lets +onlyGivenNames d6
  refine Only.cut d6 ?_ fun hd6 => ?_
  · subst d6
    refine Only.foldl (fun x7 b8 hx7 => ?_) ?_
    · refine Only.step (Device.condMet_only ..) rfl ?_
      assumption
    · assumption
  clear_value d6
  refine Only.ite ?_ ?_
  · assumption
  · extract_lets +onlyGivenNames opens9
    refine Only.ite ?_ ?_
    · refine Device.setRec_set (.inl rfl) (.inl rfl) ?_
      assumption
    · refine Only.ite ?_ ?_
      · refine Only.step (Device.recStop_only ..) rfl ?_
        assumption
      · assumption
theorem Device.maskCycle_only (d : Device) (m : Nat) : Only [.posts, .soffit, .recd] d (Device.maskCycle d m) := by
  unfold Device.maskCycle
  extract_lets +onlyGivenNames x1
  refine Only.ite ?_ ?_
  · exact Only.refl
  · refine Only.ite ?_ ?_
    · refine Only.step (Device.setMask_only ..) rfl ?_
      exact Only.refl
    · split
      · refine Only.step (Device.setMask_only ..) rfl ?_
        exact Only.refl
      · refine Only.ite ?_ ?_
        · exact Only.refl
        · extract_lets +onlyGivenNames t2
          extract_lets +onlyGivenNames ms3
          refine Only.ite ?_ ?_
          · exact Only.refl
          · extract_lets +onlyGivenNames out4
            extract_lets +onlyGivenNames n5
            refine Only.ite ?_ ?_
            · refine Only.step (Device.maskViolation_only ..) rfl ?_
              exact Only.refl
            · refine Only.step (Device.setMask_only ..) rfl ?_
              exact Only.refl
theorem Device.maskChecks_only (d : Device) : Only [.posts, .soffit, .recd] d (Device.maskChecks d) := by
  unfold Device.maskChecks
  refine Only.foldl (fun x1 b2 hx1 => ?_) ?_
  · refine Only.step (Device.maskCycle_only ..) rfl ?_
    assumption
  · exact Only.refl
theorem Device.maskStarts_only (d : Device) : Only [.recd] d (Device.maskStarts d) := by
  unfold Device.maskStarts
  extract_lets +onlyGivenNames now1
  extract_lets +onlyGivenNames one2
  refine Device.setRec_set (.inr fun _ => rfl) (.inl rfl) ?_
  exact Only.refl
theorem execMaskPass_only (t : Tick) (s s' : State) (hq : s.Quiet) (h : execMaskPass t s = .next s') : Only [.posts, .soffit, .recd] (s.dev.ready t) s'.dev := by
  refine State.on_only hq h fun d => ?_
  extract_lets +onlyGivenNames ovr1
  refine Only.foldl (fun x2 b3 hx2 => ?_) ?_
  · extract_lets +onlyGivenNames d4
    refine Only.cut d4 ?_ fun hd4 => ?_
    · subst d4
      refine Only.step (Device.maskCycle_only ..) rfl ?_
      assumption
    clear_value d4
    refine Only.ite ?_ ?_
    · assumption
    · extract_lets +onlyGivenNames x5
      refine Only.step (Device.raise_only ..) rfl ?_
      refine Only.step (Device.setMask_only ..) rfl ?_
      assumption
  · exact Only.refl

/-! ## Counters -/

theorem Device.setPmc_only (d : Device) (f : Pmc → Pmc) : Only [.dump] d (Device.setPmc d f) := by
  unfold Device.setPmc
  refine Only.set_zep (.inl rfl) (.inr rfl) (.inr rfl) ?_
  exact Only.refl
theorem Device.setDrift_only (d : Device) (f : Drift → Drift) : Only [.drift] d (Device.setDrift d f) := by
  unfold Device.setDrift
  refine Only.set_zep (.inr rfl) (.inl rfl) (.inr rfl) ?_
  exact Only.refl
theorem Device.driftDraw_only (d : Device) : Only [.drift] d (Device.driftDraw d) := by
  unfold Device.driftDraw
  refine Only.ite ?_ ?_
  · exact Only.refl
  · extract_lets +onlyGivenNames r1
    extract_lets +onlyGivenNames d2
    refine Only.cut d2 ?_ fun hd2 => ?_
    · subst d2
      refine Only.step (Device.setDrift_only ..) rfl ?_
      exact Only.refl
    clear_value d2
    extract_lets +onlyGivenNames n3
    extract_lets +onlyGivenNames l4
    refine Only.ite ?_ ?_
    · assumption
    · split
      rename_i q5
      refine Only.cut _ (Only.of_snd q5 ?_) fun hx6 => ?_
      · refine Only.step (Device.draw_only ..) rfl ?_
        assumption
      extract_lets +onlyGivenNames t07
      extract_lets +onlyGivenNames g8
      extract_lets +onlyGivenNames g9
      refine Only.step (Device.setDrift_only ..) rfl ?_
      assumption
theorem execPmcConfigWrite_only (t : Tick) (b : Fin 7) (i : Fin 16) (v : BitVec 32) (s s' : State) (hq : s.Quiet) (h : execPmcConfigWrite t b i v s = .next s') : Only [.regs] (s.dev.ready t) s'.dev := by
  refine State.on_only hq h fun d => ?_
  extract_lets +onlyGivenNames now1
  extract_lets +onlyGivenNames d2
  refine Only.cut d2 ?_ fun hd2 => ?_
  · subst d2
    refine Only.step (Device.setCtrs_only ..) rfl ?_
    exact Only.refl
  clear_value d2
  refine Only.step (Device.reserved_only ..) rfl ?_
  assumption
theorem execCounterWrap_only (t : Tick) (b : Fin 7) (i : Fin 16) (s s' : State) (hq : s.Quiet) (h : execCounterWrap t b i s = .next s') : Only [] (s.dev.ready t) s'.dev := by
  refine State.on_only hq h fun d => ?_
  refine Only.ite ?_ ?_
  · refine Only.step (Device.ctrAdd_only ..) rfl ?_
    exact Only.refl
  · exact Only.refl
theorem execCounterPageLowRead_only (t : Tick) (offset : BitVec 12) (s s' : State) (hq : s.Quiet) (h : execCounterPageLowRead t offset s = .next s') : Only [.regs, .dump] (s.dev.ready t) s'.dev := by
  refine State.on_only hq h fun d => ?_
  extract_lets +onlyGivenNames o1
  extract_lets +onlyGivenNames w2
  refine Only.ite ?_ ?_
  · refine Only.step (Device.answer_only ..) rfl ?_
    refine Only.step (Device.hostErr_only ..) rfl ?_
    exact Only.refl
  · refine Only.ite ?_ ?_
    · refine Only.step (Device.answer_only ..) rfl ?_
      refine Device.setPmc_set (.inl rfl) ?_
      exact Only.refl
    · refine Only.step (Device.answer_only ..) rfl ?_
      exact Only.refl
theorem execDumpRingEnableWrite_only (t : Tick) (v : BitVec 32) (s s' : State) (hq : s.Quiet) (h : execDumpRingEnableWrite t v s = .next s') : Only [.regs, .dump] (s.dev.ready t) s'.dev := by
  refine State.on_only hq h fun d => ?_
  extract_lets +onlyGivenNames on1
  extract_lets +onlyGivenNames d2
  refine Only.cut d2 ?_ fun hd2 => ?_
  · subst d2
    refine Only.ite ?_ ?_
    · refine Device.setPmc_set (.inl rfl) ?_
      exact Only.refl
    · refine Device.setPmc_set (.inl rfl) ?_
      exact Only.refl
  clear_value d2
  refine Only.step (Device.reserved_only ..) rfl ?_
  assumption
theorem execAnemometerDump_only (t : Tick) (s s' : State) (hq : s.Quiet) (h : execAnemometerDump t s = .next s') : Only [.mail, .posts, .dump] (s.dev.ready t) s'.dev := by
  refine State.on_only hq h fun d => ?_
  extract_lets +onlyGivenNames p1
  extract_lets +onlyGivenNames byCmd2
  extract_lets +onlyGivenNames due3
  refine Only.ite ?_ ?_
  · exact Only.refl
  · extract_lets +onlyGivenNames d4
    refine Only.cut d4 ?_ fun hd4 => ?_
    · subst d4
      refine Device.setPmc_set (.inl rfl) ?_
      exact Only.refl
    clear_value d4
    extract_lets +onlyGivenNames fail5
    refine Only.ite ?_ ?_
    · unfold fail5
      clear_value byCmd2
      split
      · refine Only.step (Device.complete_only ..) rfl ?_
        assumption
      · assumption
    · refine Only.ite ?_ ?_
      · unfold fail5
        clear_value byCmd2
        split
        · refine Only.step (Device.complete_only ..) rfl ?_
          refine Device.setPmc_set (.inl rfl) ?_
          assumption
        · refine Device.setPmc_set (.inl rfl) ?_
          assumption
      · extract_lets +onlyGivenNames base6
        extract_lets +onlyGivenNames w7
        refine Device.setPmc_set (.inl rfl) ?_
        assumption
theorem execDumpWriteDone_only (t : Tick) (ok : Bool) (s s' : State) (hq : s.Quiet) (h : execDumpWriteDone t ok s = .next s') : Only [.traj, .brk, .seq, .modu, .prot, .safety, .mail, .posts, .regs, .conv, .eh, .dump] (s.dev.ready t) s'.dev := by
  refine State.on_only hq h fun d => ?_
  split
  · exact Only.refl
  · extract_lets +onlyGivenNames finish1
    refine Only.ite ?_ ?_
    · extract_lets +onlyGivenNames d2
      extract_lets +onlyGivenNames d3
      refine Only.cut d3 ?_ fun hd3 => ?_
      · subst d3
        refine Only.step (Device.post_only ..) rfl ?_
        exact Only.refl
      clear_value d3
      extract_lets +onlyGivenNames d4
      refine Only.cut d4 ?_ fun hd4 => ?_
      · subst d4
        refine Only.step (Device.msix_only ..) rfl ?_
        refine Device.setPmc_set (.inl rfl) ?_
        assumption
      clear_value d4
      unfold finish1
      split
      · refine Only.step (Device.complete_only ..) rfl ?_
        assumption
      · assumption
    · extract_lets +onlyGivenNames d5
      refine Only.cut d5 ?_ fun hd5 => ?_
      · subst d5
        refine Only.step (Device.dmaFail_only ..) rfl ?_
        refine Device.setPmc_set (.inl rfl) ?_
        exact Only.refl
      clear_value d5
      refine Only.step (Device.errReport_only ..) rfl ?_
      unfold finish1
      split
      · refine Only.step (Device.complete_only ..) rfl ?_
        assumption
      · assumption
theorem execCmdPmcDump_only (t : Tick) (h : CmdHdr) (a : Args) (s s' : State) (hq : s.Quiet) (h : execCmdPmcDump t h a s = .next s') : Only [.mail, .posts, .dump] (s.dev.ready t) s'.dev := by
  refine State.on_only hq h fun d => ?_
  refine Device.cmd_by rfl (fun x1 hx1 => ?_) ?_
  · split
    · refine Only.fst_mk ?_
      assumption
    · split
      · refine Only.fst_mk ?_
        assumption
      · refine Only.fst_mk ?_
        refine Device.setPmc_set (.inl rfl) ?_
        assumption
  exact Only.refl
theorem execCmdPmcClear_only (t : Tick) (h : CmdHdr) (a : Args) (s s' : State) (hq : s.Quiet) (h : execCmdPmcClear t h a s = .next s') : Only [.mail, .posts] (s.dev.ready t) s'.dev := by
  refine State.on_only hq h fun d => ?_
  extract_lets +onlyGivenNames blocks1
  refine Device.cmdIf_by rfl (fun x2 hx2 => ?_) ?_
  · extract_lets +onlyGivenNames sel3
    extract_lets +onlyGivenNames one4
    refine Only.fst_mk ?_
    refine Only.foldl (fun x5 b6 hx5 => ?_) ?_
    · refine Only.step (Device.setCtrs_only ..) rfl ?_
      assumption
    · assumption
  exact Only.refl
theorem execDriftTagEnd_only (t : Tick) (flip : BitVec 32) (s s' : State) (hq : s.Quiet) (h : execDriftTagEnd t flip s = .next s') : Only [.drift] (s.dev.ready t) s'.dev := by
  refine State.on_only hq h fun d => ?_
  split
  · exact Only.refl
  · extract_lets +onlyGivenNames ovr1
    refine Only.ite ?_ ?_
    · exact Only.refl
    · extract_lets +onlyGivenNames x2
      extract_lets +onlyGivenNames acked3
      extract_lets +onlyGivenNames v24
      extract_lets +onlyGivenNames mismatch5
      extract_lets +onlyGivenNames g6
      extract_lets +onlyGivenNames d7
      refine Only.cut d7 ?_ fun hd7 => ?_
      · subst d7
        refine Only.step (Device.setDrift_only ..) rfl ?_
        exact Only.refl
      clear_value d7
      refine Only.ite ?_ ?_
      · refine Only.step (Device.raise_only ..) rfl ?_
        assumption
      · assumption
theorem execCmdDriftRead_only (t : Tick) (h : CmdHdr) (a : Args) (dmaOk : Bool) (s s' : State) (hq : s.Quiet) (h : execCmdDriftRead t h a dmaOk s = .next s') : Only [.mail, .posts, .regs] (s.dev.ready t) s'.dev := by
  refine State.on_only hq h fun d => ?_
  extract_lets +onlyGivenNames n1
  refine Device.cmdIf_by rfl (fun x2 hx2 => ?_) ?_
  · extract_lets +onlyGivenNames l3
    split
    · refine Only.fst_mk ?_
      refine Only.step (Device.dmaFail_only ..) rfl ?_
      assumption
    · refine Only.fst_mk ?_
      refine Only.step (Device.post_only ..) rfl ?_
      assumption
  exact Only.refl

/-! ## Housekeeping -/

theorem Device.setHk_only (d : Device) (f : Hk → Hk) : Only [.hk] d (Device.setHk d f) := by
  unfold Device.setHk
  refine Only.set_zep (.inr rfl) (.inr rfl) (.inl rfl) ?_
  exact Only.refl
theorem Device.setSensor_only (d : Device) (i : Nat) (f : HkSensor → HkSensor) : Only [.hk] d (Device.setSensor d i f) := by
  unfold Device.setSensor
  refine Only.step (Device.setHk_only ..) rfl ?_
  exact Only.refl
theorem Device.setRail_only (d : Device) (v : Nat) (f : HkSensor → HkSensor) : Only [.hk] d (Device.setRail d v f) := by
  unfold Device.setRail
  refine Only.step (Device.setHk_only ..) rfl ?_
  exact Only.refl
theorem Device.setHkDie_only (d : Device) (n : Nat) (f : HkDie → HkDie) : Only [.hk] d (Device.setHkDie d n f) := by
  unfold Device.setHkDie
  refine Only.step (Device.setHk_only ..) rfl ?_
  exact Only.refl
theorem Device.dieReadings_only (d : Device) (die : Nat) (v0 : Int) (v1 : Int) : Only [.hk] d (Device.dieReadings d die v0 v1) := by
  unfold Device.dieReadings
  extract_lets +onlyGivenNames p1
  extract_lets +onlyGivenNames s02
  extract_lets +onlyGivenNames s13
  extract_lets +onlyGivenNames apart4
  extract_lets +onlyGivenNames bad5
  split
  split
  extract_lets +onlyGivenNames d6
  refine Only.cut d6 ?_ fun hd6 => ?_
  · subst d6
    refine Only.step (Device.setSensor_only ..) rfl ?_
    refine Only.step (Device.setSensor_only ..) rfl ?_
    exact Only.refl
  clear_value d6
  extract_lets +onlyGivenNames tell7
  unfold tell7
  refine Only.ite ?_ ?_
  · refine Only.step (Device.raise_only ..) rfl ?_
    refine Only.ite ?_ ?_
    · refine Only.step (Device.raise_only ..) rfl ?_
      assumption
    · assumption
  · refine Only.ite ?_ ?_
    · refine Only.step (Device.raise_only ..) rfl ?_
      assumption
    · assumption
theorem Device.dieLimits_only (d : Device) (die : Nat) : Only [.hk] d (Device.dieLimits d die) := by
  unfold Device.dieLimits
  extract_lets +onlyGivenNames p1
  extract_lets +onlyGivenNames x2
  extract_lets +onlyGivenNames v3
  extract_lets +onlyGivenNames T4
  extract_lets +onlyGivenNames hyst5
  extract_lets +onlyGivenNames warn6
  extract_lets +onlyGivenNames stop7
  extract_lets +onlyGivenNames n8
  extract_lets +onlyGivenNames lim9
  extract_lets +onlyGivenNames rise10
  extract_lets +onlyGivenNames rate11
  extract_lets +onlyGivenNames d12
  refine Only.cut d12 ?_ fun hd12 => ?_
  · subst d12
    refine Only.step (Device.setHkDie_only ..) rfl ?_
    exact Only.refl
  clear_value d12
  extract_lets +onlyGivenNames d13
  refine Only.cut d13 ?_ fun hd13 => ?_
  · subst d13
    refine Only.ite ?_ ?_
    · refine Only.step (Device.raise_only ..) rfl ?_
      assumption
    · assumption
  clear_value d13
  extract_lets +onlyGivenNames d14
  refine Only.cut d14 ?_ fun hd14 => ?_
  · subst d14
    refine Only.ite ?_ ?_
    · refine Only.step (Device.raise_only ..) rfl ?_
      assumption
    · assumption
  clear_value d14
  refine Only.ite ?_ ?_
  · refine Only.step (Device.raise_only ..) rfl ?_
    assumption
  · assumption
theorem Device.dieRound_only (d : Device) (temps : List Int) : Only [.hk] d (Device.dieRound d temps) := by
  unfold Device.dieRound
  refine Only.foldl (fun x1 b2 hx1 => ?_) ?_
  · extract_lets +onlyGivenNames v3
    refine Only.step (Device.dieLimits_only ..) rfl ?_
    refine Only.step (Device.dieReadings_only ..) rfl ?_
    assumption
  · exact Only.refl
theorem Device.railReading_only (d : Device) (v : Nat) (mv : Nat) : Only [.hk] d (Device.railReading d v mv) := by
  unfold Device.railReading
  extract_lets +onlyGivenNames x1
  extract_lets +onlyGivenNames nom2
  split
  extract_lets +onlyGivenNames inside3
  extract_lets +onlyGivenNames outRun4
  extract_lets +onlyGivenNames inRun5
  extract_lets +onlyGivenNames out6
  extract_lets +onlyGivenNames d7
  refine Only.cut d7 ?_ fun hd7 => ?_
  · subst d7
    refine Only.step (Device.setRail_only ..) rfl ?_
    exact Only.refl
  clear_value d7
  extract_lets +onlyGivenNames d8
  refine Only.cut d8 ?_ fun hd8 => ?_
  · subst d8
    refine Only.ite ?_ ?_
    · refine Only.step (Device.raise_only ..) rfl ?_
      assumption
    · assumption
  clear_value d8
  refine Only.ite ?_ ?_
  · refine Only.step (Device.raise_only ..) rfl ?_
    assumption
  · assumption
theorem Device.supplies_only (d : Device) (rails : List Nat) : Only [.hk] d (Device.supplies d rails) := by
  unfold Device.supplies
  refine Only.foldl (fun x1 b2 hx1 => ?_) ?_
  · refine Only.step (Device.railReading_only ..) rfl ?_
    assumption
  · exact Only.refl
theorem Device.references_only (d : Device) (readings : List Rat) : Only [.meas, .traj, .brk, .seq, .modu, .prot, .conv] d (Device.references d readings) := by
  unfold Device.references
  refine Only.foldl (fun x1 b2 hx1 => ?_) ?_
  · refine Only.step (Device.refFault_only ..) rfl ?_
    assumption
  · exact Only.refl
theorem Device.summary_only (d : Device) (r : RateRow) : Only [] d (Device.summary d r) := by
  unfold Device.summary
  refine Only.ite ?_ ?_
  · exact Only.refl
  · extract_lets +onlyGivenNames d1
    refine Only.cut d1 ?_ fun hd1 => ?_
    · subst d1
      refine Device.setHost_set (.inr fun _ => rfl) (.inr fun _ => rfl) (.inr fun _ => rfl) (.inr fun _ => rfl) ?_
      exact Only.refl
    clear_value d1
    refine Only.step (Device.enqueue_only ..) rfl ?_
    assumption
theorem Device.closeRound_only (d : Device) : Only [.hk] d (Device.closeRound d) := by
  unfold Device.closeRound
  split
  · exact Only.refl
  · extract_lets +onlyGivenNames rows1
    extract_lets +onlyGivenNames d2
    refine Only.cut d2 ?_ fun hd2 => ?_
    · subst d2
      refine Device.setHost_set (.inr fun _ => rfl) (.inr fun _ => rfl) (.inr fun _ => rfl) (.inr fun _ => rfl) ?_
      refine Only.step (Device.setHk_only ..) rfl ?_
      exact Only.refl
    clear_value d2
    refine Only.foldl (fun x3 b4 hx3 => ?_) ?_
    · refine Only.step (Device.summary_only ..) rfl ?_
      assumption
    · assumption
theorem Device.verifyNext_only (d : Device) : Only [.link, .hk] d (Device.verifyNext d) := by
  unfold Device.verifyNext
  extract_lets +onlyGivenNames use1
  extract_lets +onlyGivenNames next2
  clear_value next2
  split
  · exact Only.refl
  · refine Only.step (Device.setLink_only ..) rfl ?_
    refine Only.step (Device.setHk_only ..) rfl ?_
    exact Only.refl
theorem Device.correlateRound_only (d : Device) : Only [.clk, .net] d (Device.correlateRound d) := by
  unfold Device.correlateRound
  extract_lets +onlyGivenNames quiet1
  extract_lets +onlyGivenNames d2
  extract_lets +onlyGivenNames d3
  refine Only.cut d3 ?_ fun hd3 => ?_
  · subst d3
    refine Only.set_net (.inl rfl) (.inr rfl) ?_
    exact Only.refl
  clear_value d3
  extract_lets +onlyGivenNames d4
  refine Only.cut d4 ?_ fun hd4 => ?_
  · subst d4
    refine Only.step (Device.correlate_only ..) rfl ?_
    assumption
  clear_value d4
  refine Only.ite ?_ ?_
  · refine Only.set_net (.inl rfl) (.inr rfl) ?_
    assumption
  · assumption
theorem execZephyrRound_only (t : Tick) (temps : List Int) (rails : List Nat) (refs : List Rat) (s s' : State) (hq : s.Quiet) (h : execZephyrRound t temps rails refs s = .next s') : Only [.meas, .traj, .brk, .seq, .modu, .packs, .link, .prot, .conv, .clk, .net, .eh, .hk] (s.dev.ready t) s'.dev := by
  refine State.on_only hq h fun d => ?_
  extract_lets +onlyGivenNames r1
  refine Only.ite ?_ ?_
  · exact Only.refl
  · extract_lets +onlyGivenNames late2
    extract_lets +onlyGivenNames d3
    refine Only.cut d3 ?_ fun hd3 => ?_
    · subst d3
      refine Only.step (Device.closeRound_only ..) rfl ?_
      exact Only.refl
    clear_value d3
    extract_lets +onlyGivenNames n4
    extract_lets +onlyGivenNames d5
    refine Only.cut d5 ?_ fun hd5 => ?_
    · subst d5
      refine Device.setHost_set (.inr fun _ => rfl) (.inr fun _ => rfl) (.inr fun _ => rfl) (.inr fun _ => rfl) ?_
      assumption
    clear_value d5
    extract_lets +onlyGivenNames d6
    refine Only.cut d6 ?_ fun hd6 => ?_
    · subst d6
      refine Only.step (Device.setHk_only ..) rfl ?_
      assumption
    clear_value d6
    extract_lets +onlyGivenNames d7
    refine Only.cut d7 ?_ fun hd7 => ?_
    · subst d7
      refine Only.step (Device.setLink_only ..) rfl ?_
      assumption
    clear_value d7
    extract_lets +onlyGivenNames d8
    refine Only.cut d8 ?_ fun hd8 => ?_
    · subst d8
      refine Only.step (Device.correlateRound_only ..) rfl ?_
      assumption
    clear_value d8
    extract_lets +onlyGivenNames d9
    refine Only.cut d9 ?_ fun hd9 => ?_
    · subst d9
      refine Only.step (Device.references_only ..) rfl ?_
      refine Only.step (Device.supplies_only ..) rfl ?_
      refine Only.step (Device.dieRound_only ..) rfl ?_
      assumption
    clear_value d9
    extract_lets +onlyGivenNames d10
    refine Only.cut d10 ?_ fun hd10 => ?_
    · subst d10
      refine Only.step (Device.verifyNext_only ..) rfl ?_
      refine Only.step (Device.pullUpdate_only ..) rfl ?_
      assumption
    clear_value d10
    extract_lets +onlyGivenNames d11
    refine Only.cut d11 ?_ fun hd11 => ?_
    · subst d11
      refine Only.foldl (fun x12 b13 hx12 => ?_) ?_
      · refine Only.step (Device.xCheckRound_only ..) rfl ?_
        assumption
      · assumption
    clear_value d11
    refine Only.ite ?_ ?_
    · refine Only.step (Device.logPersist_only ..) rfl ?_
      assumption
    · assumption
theorem execZephyrRoundClose_only (t : Tick) (s s' : State) (hq : s.Quiet) (h : execZephyrRoundClose t s = .next s') : Only [.hk] (s.dev.ready t) s'.dev := by
  refine State.on_only hq h fun d => ?_
  refine Only.ite ?_ ?_
  · refine Only.step (Device.closeRound_only ..) rfl ?_
    exact Only.refl
  · exact Only.refl
theorem execCmdHkRearm_only (t : Tick) (h : CmdHdr) (a : Args) (s s' : State) (hq : s.Quiet) (h : execCmdHkRearm t h a s = .next s') : Only [.mail, .posts, .hk] (s.dev.ready t) s'.dev := by
  refine State.on_only hq h fun d => ?_
  refine Device.cmd_by rfl (fun x1 hx1 => ?_) ?_
  · extract_lets +onlyGivenNames mask2
    extract_lets +onlyGivenNames get3
    extract_lets +onlyGivenNames want4
    extract_lets +onlyGivenNames ready5
    extract_lets +onlyGivenNames fix6
    extract_lets +onlyGivenNames d'7
    refine Only.cut d'7 ?_ fun hd'7 => ?_
    · subst d'7
      refine Only.foldl (fun x8 b9 hx8 => ?_) ?_
      · refine Only.ite ?_ ?_
        · refine Only.step (Device.setSensor_only ..) rfl ?_
          assumption
        · refine Only.step (Device.setRail_only ..) rfl ?_
          assumption
      · assumption
    clear_value d'7
    extract_lets +onlyGivenNames refused10
    refine Only.fst_mk ?_
    assumption
  exact Only.refl

/-! ## Rails -/


/-! ## Registers -/

theorem Device.mirrorUpdate_only (d : Device) (island : Nat) : Only [.mirror] d (Device.mirrorUpdate d island) := by
  unfold Device.mirrorUpdate
  refine Only.ite ?_ ?_
  · exact Only.refl
  · extract_lets +onlyGivenNames stamp1
    refine Only.set_mirrors rfl ?_
    exact Only.refl
theorem Device.chanBase_only (d : Device) (off : Nat) (v : BitVec 32) : Only [.mail, .regs] d (Device.chanBase d off v) := by
  unfold Device.chanBase
  extract_lets +onlyGivenNames ch1
  refine Only.ite ?_ ?_
  · refine Only.step (Device.hostErr_only ..) rfl ?_
    exact Only.refl
  · extract_lets +onlyGivenNames one2
    refine Device.setHost_set (.inl rfl) (.inr fun _ => rfl) (.inr fun _ => rfl) (.inl rfl) ?_
    exact Only.refl
theorem Device.evqBase_only (d : Device) (f : HostPort → HostPort) : Only [.mail, .queue, .posts, .regs] d (Device.evqBase d f) := by
  unfold Device.evqBase
  refine Only.ite ?_ ?_
  · refine Only.step (Device.hostErr_only ..) rfl ?_
    exact Only.refl
  · refine Device.setHost_set (.inl rfl) (.inl rfl) (.inl rfl) (.inl rfl) ?_
    exact Only.refl
theorem Device.dumpBase_only (d : Device) (f : Pmc → Pmc) : Only [.regs, .dump] d (Device.dumpBase d f) := by
  unfold Device.dumpBase
  refine Only.ite ?_ ?_
  · refine Only.step (Device.hostErr_only ..) rfl ?_
    exact Only.refl
  · refine Device.setPmc_set (.inl rfl) ?_
    exact Only.refl
theorem Device.scStore_only (d : Device) (x : Nat) (o : Nat) (v : BitVec 32) : Only [.stations, .regs] d (Device.scStore d x o v) := by
  unfold Device.scStore
  split
  · refine Only.step (Device.setSc_only ..) rfl ?_
    exact Only.refl
  · refine Device.scHost_by rfl (fun x1 hx1 => ?_) ?_
    · refine Only.step (Device.setSc_only ..) rfl ?_
      assumption
    exact Only.refl
  · refine Device.scHost_by rfl (fun x2 hx2 => ?_) ?_
    · refine Only.step (Device.setSc_only ..) rfl ?_
      assumption
    exact Only.refl
  · refine Device.scHost_by rfl (fun x3 hx3 => ?_) ?_
    · refine Only.step (Device.setSc_only ..) rfl ?_
      assumption
    exact Only.refl
  · refine Device.scHost_by rfl (fun x4 hx4 => ?_) ?_
    · refine Only.step (Device.setSc_only ..) rfl ?_
      assumption
    exact Only.refl
  · refine Only.step (Device.setSc_only ..) rfl ?_
    exact Only.refl
  · exact Only.refl
theorem Device.regStore_only (d : Device) (off : Nat) (v : BitVec 32) : Only [.stations, .meas, .law, .traj, .modu, .packs, .link, .twin, .mail, .queue, .posts, .regs, .recd, .eh, .dump, .drift, .hk] d (Device.regStore d off v) := by
  unfold Device.regStore
  extract_lets +onlyGivenNames n1
  refine Only.ite ?_ ?_
  · refine Only.step (Device.chanBase_only ..) rfl ?_
    exact Only.refl
  · refine Only.ite ?_ ?_
    · refine Only.step (Device.setCtrs_only ..) rfl ?_
      exact Only.refl
    · refine Only.ite ?_ ?_
      · refine Only.step (Device.setHk_only ..) rfl ?_
        exact Only.refl
      · refine Only.ite ?_ ?_
        · refine Only.step (Device.scStore_only ..) rfl ?_
          exact Only.refl
        · refine Only.ite ?_ ?_
          · refine Only.step (Device.scStore_only ..) rfl ?_
            exact Only.refl
          · split
            · refine Only.step (Device.evqBase_only ..) rfl ?_
              exact Only.refl
            · refine Only.step (Device.evqBase_only ..) rfl ?_
              exact Only.refl
            · refine Only.step (Device.evqBase_only ..) rfl ?_
              exact Only.refl
            · refine Only.step (Device.evqBase_only ..) rfl ?_
              exact Only.refl
            · refine Only.step (Device.evqBase_only ..) rfl ?_
              exact Only.refl
            · refine Device.setHost_set (.inl rfl) (.inl rfl) (.inl rfl) (.inl rfl) ?_
              exact Only.refl
            · refine Only.set_meas rfl ?_
              exact Only.refl
            · refine Only.set_meas rfl ?_
              exact Only.refl
            · refine Only.set_meas rfl ?_
              exact Only.refl
            · refine Only.step (Device.setLaw_only ..) rfl ?_
              exact Only.refl
            · refine Only.step (Device.setLaw_only ..) rfl ?_
              exact Only.refl
            · refine Only.step (Device.setTraj_only ..) rfl ?_
              exact Only.refl
            · refine Only.step (Device.setModu_only ..) rfl ?_
              exact Only.refl
            · refine Only.step (Device.setPacks_only ..) rfl ?_
              exact Only.refl
            · refine Only.step (Device.setPacks_only ..) rfl ?_
              exact Only.refl
            · refine Only.step (Device.setLink_only ..) rfl ?_
              exact Only.refl
            · refine Only.step (Device.setLink_only ..) rfl ?_
              exact Only.refl
            · refine Only.set_twin rfl ?_
              exact Only.refl
            · refine Only.step (Device.setEh_only ..) rfl ?_
              exact Only.refl
            · refine Only.step (Device.dumpBase_only ..) rfl ?_
              exact Only.refl
            · refine Only.step (Device.dumpBase_only ..) rfl ?_
              exact Only.refl
            · refine Only.step (Device.dumpBase_only ..) rfl ?_
              exact Only.refl
            · refine Device.setRec_set (.inr fun _ => rfl) (.inl rfl) ?_
              exact Only.refl
            · refine Device.setRec_set (.inr fun _ => rfl) (.inl rfl) ?_
              exact Only.refl
            · refine Device.setRec_set (.inr fun _ => rfl) (.inl rfl) ?_
              exact Only.refl
            · refine Only.step (Device.setDrift_only ..) rfl ?_
              exact Only.refl
            · exact Only.refl
theorem Device.msixStore_only (d : Device) (off : Nat) (v : BitVec 32) : Only [.posts] d (Device.msixStore d off v) := by
  unfold Device.msixStore
  refine Only.ite ?_ ?_
  · exact Only.refl
  · extract_lets +onlyGivenNames i1
    extract_lets +onlyGivenNames set2
    split
    · unfold set2
      refine Device.setHost_set (.inr fun _ => rfl) (.inr fun _ => rfl) (.inl rfl) (.inr fun _ => rfl) ?_
      exact Only.refl
    · unfold set2
      refine Device.setHost_set (.inr fun _ => rfl) (.inr fun _ => rfl) (.inl rfl) (.inr fun _ => rfl) ?_
      exact Only.refl
    · unfold set2
      refine Device.setHost_set (.inr fun _ => rfl) (.inr fun _ => rfl) (.inl rfl) (.inr fun _ => rfl) ?_
      exact Only.refl
    · refine Only.ite ?_ ?_
      · unfold set2
        refine Device.setHost_set (.inr fun _ => rfl) (.inr fun _ => rfl) (.inl rfl) (.inr fun _ => rfl) ?_
        exact Only.refl
      · refine Only.step (Device.msixUnmask_only ..) rfl ?_
        exact Only.refl
theorem execRegisterWrite_only (t : Tick) (offset : BitVec 26) (v : BitVec 32) (s s' : State) (hq : s.Quiet) (h : execRegisterWrite t offset v s = .next s') : Only [.stations, .meas, .law, .traj, .modu, .packs, .link, .twin, .mail, .queue, .posts, .regs, .soffit, .recd, .eh, .dump, .drift, .hk] (s.dev.ready t) s'.dev := by
  refine State.on_only hq h fun d => ?_
  extract_lets +onlyGivenNames off1
  refine Only.ite ?_ ?_
  · refine Only.ite ?_ ?_
    · refine Only.step (Device.soffitWrite_only ..) rfl ?_
      exact Only.refl
    · exact Only.refl
  · refine Only.ite ?_ ?_
    · exact Only.refl
    · refine Only.ite ?_ ?_
      · refine Only.step (Device.msixStore_only ..) rfl ?_
        exact Only.refl
      · split
        · refine Only.step (Device.hostErr_only ..) rfl ?_
          exact Only.refl
        · refine Only.step (Device.regStore_only ..) rfl ?_
          refine Only.step (Device.reserved_only ..) rfl ?_
          exact Only.refl
theorem execMisalignedAccess_only (t : Tick) (write : Bool) (s s' : State) (hq : s.Quiet) (h : execMisalignedAccess t write s = .next s') : Only [.regs] (s.dev.ready t) s'.dev := by
  refine State.on_only hq h fun d => ?_
  refine Only.ite ?_ ?_
  · refine Only.step (Device.hostErr_only ..) rfl ?_
    exact Only.refl
  · refine Only.step (Device.answer_only ..) rfl ?_
    refine Only.step (Device.hostErr_only ..) rfl ?_
    exact Only.refl

/-! ## Sample -/

theorem Device.frameClose_only (d : Device) : Only [.recd] d (Device.frameClose d) := by
  unfold Device.frameClose
  extract_lets +onlyGivenNames law1
  extract_lets +onlyGivenNames arms2
  extract_lets +onlyGivenNames sched3
  extract_lets +onlyGivenNames done4
  extract_lets +onlyGivenNames reduce5
  refine Device.setRec_set (.inr fun _ => rfl) (.inl rfl) ?_
  refine Only.step (Device.onFrame_only ..) rfl ?_
  exact Only.refl
theorem Device.frameOpen_only (d : Device) : Only [.recd] d (Device.frameOpen d) := by
  unfold Device.frameOpen
  extract_lets +onlyGivenNames f1
  extract_lets +onlyGivenNames f2
  extract_lets +onlyGivenNames frames3
  extract_lets +onlyGivenNames oldest4
  extract_lets +onlyGivenNames now5
  refine Device.setRec_set (.inr fun _ => rfl) (.inl rfl) ?_
  exact Only.refl
theorem Device.statusEnd_only (d : Device) (c : Nat) : Only [.modu, .link] d (Device.statusEnd d c) := by
  unfold Device.statusEnd
  extract_lets +onlyGivenNames n1
  refine Only.ite ?_ ?_
  · exact Only.refl
  · extract_lets +onlyGivenNames got2
    extract_lets +onlyGivenNames d3
    refine Only.cut d3 ?_ fun hd3 => ?_
    · subst d3
      split
      · refine Only.step (Device.tableStatus_only ..) rfl ?_
        exact Only.refl
      · exact Only.refl
    clear_value d3
    extract_lets +onlyGivenNames d4
    refine Only.cut d4 ?_ fun hd4 => ?_
    · subst d4
      refine Only.step (Device.setNode_only ..) rfl ?_
      assumption
    clear_value d4
    refine Only.ite ?_ ?_
    · assumption
    · refine Only.step (Device.setCell_only ..) rfl ?_
      assumption
theorem Device.cycleEnd_only (d : Device) : Only [.cycle, .modu, .link, .prot, .posts, .mirror, .soffit, .recd] d (Device.cycleEnd d) := by
  unfold Device.cycleEnd
  extract_lets +onlyGivenNames d1
  refine Only.cut d1 ?_ fun hd1 => ?_
  · subst d1
    refine Only.step (Device.inputInactive_only ..) rfl ?_
    refine Only.step (Device.maskChecks_only ..) rfl ?_
    exact Only.refl
  clear_value d1
  extract_lets +onlyGivenNames d2
  refine Only.cut d2 ?_ fun hd2 => ?_
  · subst d2
    refine Only.foldl (fun x3 b4 hx3 => ?_) ?_
    · refine Only.step (Device.mirrorUpdate_only ..) rfl ?_
      assumption
    · assumption
  clear_value d2
  extract_lets +onlyGivenNames d5
  refine Only.cut d5 ?_ fun hd5 => ?_
  · subst d5
    refine Only.foldl (fun x6 b7 hx6 => ?_) ?_
    · refine Only.step (Device.statusEnd_only ..) rfl ?_
      assumption
    · refine Only.step (Device.frameClose_only ..) rfl ?_
      assumption
  clear_value d5
  refine Only.set_cycle rfl ?_
  assumption
theorem Device.cycleBegin_only (d : Device) : Only [.cycle, .law, .traj, .modu] d (Device.cycleBegin d) := by
  unfold Device.cycleBegin
  extract_lets +onlyGivenNames e1
  extract_lets +onlyGivenNames d2
  extract_lets +onlyGivenNames d3
  refine Only.cut d3 ?_ fun hd3 => ?_
  · subst d3
    refine Only.set_cycle rfl ?_
    exact Only.refl
  clear_value d3
  extract_lets +onlyGivenNames d4
  refine Only.cut d4 ?_ fun hd4 => ?_
  · subst d4
    refine Only.step (Device.setTraj_only ..) rfl ?_
    assumption
  clear_value d4
  extract_lets +onlyGivenNames d5
  refine Only.cut d5 ?_ fun hd5 => ?_
  · subst d5
    refine Only.step (Device.setLaw_only ..) rfl ?_
    assumption
  clear_value d5
  refine Only.step (Device.setModu_only ..) rfl ?_
  assumption
theorem Device.roundItems_only (d : Device) (before : Tick) : Only [.meas, .traj, .brk, .seq, .modu, .prot, .par, .conv] d (Device.roundItems d before) := by
  unfold Device.roundItems
  refine Only.ite ?_ ?_
  · exact Only.refl
  · extract_lets +onlyGivenNames old1
    refine Only.step (Device.newForce_only ..) rfl ?_
    refine Only.step (Device.applyWaiting_only ..) rfl ?_
    exact Only.refl
theorem Device.boundaryAll_only (d : Device) : Only [.stations, .meas, .law, .ride, .traj, .brk, .seq, .modu, .packs, .link, .prot, .safety, .par, .mail, .posts, .conv, .clk, .net, .soffit, .recd] d (Device.boundaryAll d) := by
  unfold Device.boundaryAll
  extract_lets +onlyGivenNames n1
  extract_lets +onlyGivenNames d2
  refine Only.cut d2 ?_ fun hd2 => ?_
  · subst d2
    refine Only.step (Device.afterMove_only ..) rfl ?_
    refine Only.step (Device.boundary_only ..) rfl ?_
    refine Only.step (Device.closeBoundary_only ..) rfl ?_
    exact Only.refl
  clear_value d2
  extract_lets +onlyGivenNames d3
  refine Only.cut d3 ?_ fun hd3 => ?_
  · subst d3
    refine Only.step (Device.setConv_only ..) rfl ?_
    assumption
  clear_value d3
  refine Only.ite ?_ ?_
  · refine Only.step (Device.lawStop_only ..) rfl ?_
    assumption
  · assumption
theorem execSampleTrigger_only (codes : List (List (BitVec 16))) (s s' : State) (hq : s.Quiet) (h : execSampleTrigger codes s = .next s') : Only [.stations, .cycle, .meas, .law, .ride, .traj, .brk, .seq, .modu, .packs, .meter, .link, .prot, .safety, .twin, .par, .mail, .posts, .mirror, .conv, .clk, .net, .soffit, .recd, .drift] (s.dev.ready s.dev.eNext) s'.dev := by
  refine State.on_only hq h fun d => ?_
  refine Only.ite ?_ ?_
  · exact Only.refl
  · extract_lets +onlyGivenNames before1
    extract_lets +onlyGivenNames d2
    refine Only.cut d2 ?_ fun hd2 => ?_
    · subst d2
      refine Only.step (Device.boundaryAll_only ..) rfl ?_
      refine Only.step (Device.roundItems_only ..) rfl ?_
      refine Only.step (Device.cycleBegin_only ..) rfl ?_
      refine Only.step (Device.cycleEnd_only ..) rfl ?_
      exact Only.refl
    clear_value d2
    extract_lets +onlyGivenNames d3
    refine Only.cut d3 ?_ fun hd3 => ?_
    · subst d3
      refine Only.step (Device.shiftSamples_only ..) rfl ?_
      refine Only.step (Device.setpFrequency_only ..) rfl ?_
      refine Only.step (Device.maskStarts_only ..) rfl ?_
      refine Only.step (Device.frameOpen_only ..) rfl ?_
      refine Device.setProt_set (.inl rfl) (.inr fun _ => rfl) ?_
      assumption
    clear_value d3
    extract_lets +onlyGivenNames d4
    refine Only.cut d4 ?_ fun hd4 => ?_
    · subst d4
      refine Only.step (Device.twinCycle_only ..) rfl ?_
      refine Only.step (Device.slpSample_only ..) rfl ?_
      refine Only.step (Device.freezeSnapshot_only ..) rfl ?_
      assumption
    clear_value d4
    refine Only.step (Device.sendStreams_only ..) rfl ?_
    refine Only.step (Device.cycleSequences_only ..) rfl ?_
    refine Only.step (Device.driftDraw_only ..) rfl ?_
    assumption
theorem execResumeEdge_only (t : Tick) (s s' : State) (hq : s.Quiet) (h : execResumeEdge t s = .next s') : Only [.stations, .meas, .law, .ride, .traj, .brk, .seq, .modu, .packs, .prot, .safety, .par, .posts, .conv, .clk, .net, .soffit, .recd] (s.dev.ready t) s'.dev := by
  refine State.on_only hq h fun d => ?_
  split
  · exact Only.refl
  · refine Only.ite ?_ ?_
    · exact Only.refl
    · extract_lets +onlyGivenNames d1
      refine Only.cut d1 ?_ fun hd1 => ?_
      · subst d1
        refine Device.setProt_set (.inl rfl) (.inr fun _ => rfl) ?_
        exact Only.refl
      clear_value d1
      extract_lets +onlyGivenNames d2
      refine Only.cut d2 ?_ fun hd2 => ?_
      · subst d2
        refine Only.step (Device.decideLatches_only ..) rfl ?_
        assumption
      clear_value d2
      refine Only.ite ?_ ?_
      · assumption
      · extract_lets +onlyGivenNames d3
        refine Only.cut d3 ?_ fun hd3 => ?_
        · subst d3
          refine Device.setProt_set (.inl rfl) (.inr fun _ => rfl) ?_
          assumption
        clear_value d3
        extract_lets +onlyGivenNames d4
        refine Only.cut d4 ?_ fun hd4 => ?_
        · subst d4
          refine Only.ite ?_ ?_
          · refine Only.step (Device.setConv_only ..) rfl ?_
            assumption
          · assumption
        clear_value d4
        extract_lets +onlyGivenNames n5
        extract_lets +onlyGivenNames d6
        refine Only.cut d6 ?_ fun hd6 => ?_
        · subst d6
          refine Only.ite ?_ ?_
          · assumption
          · refine Only.ite ?_ ?_
            · refine Only.step (Device.transition_only ..) rfl ?_
              assumption
            · refine Only.step (Device.transition_only ..) rfl ?_
              assumption
        clear_value d6
        refine Only.step (Device.afterMove_only ..) rfl ?_
        assumption

end Sys2Proof.Machine
end

