-- ==== Sys2Proof/Laws/Blocks.lean ====
section
/-! SUPPORT. `Blocks`: a change that leaves the arms blocked; how such changes add up. -/

namespace Sys2Proof.Machine

variable {d e e' : Device} {α β γ : Type}

/-- If the first device's arms are blocked, the second's are. -/
structure Blocks (d e : Device) : Prop where
  /-- From the first to the second. -/
  keep : d.prot.blocked = true → e.prot.blocked = true

theorem Blocks.refl : Blocks d d := ⟨id⟩
theorem Blocks.trans {a b c : Device} (h : Blocks a b) (g : Blocks b c) : Blocks a c := ⟨fun s => g.keep (h.keep s)⟩
theorem Blocks.of_only {K : List Region} (h : Only K d e) (hk : K.contains .prot = false) : Blocks d e :=
  ⟨fun g => (congrArg Prot.blocked (h.same .prot (by simpa using hk))).symm.trans g⟩
theorem Blocks.step (g : Blocks e e') (h : Blocks d e) : Blocks d e' := h.trans g
theorem Blocks.cut (x : Device) (hx : Blocks d x) (h : Blocks d x → Blocks d e) : Blocks d e := h hx
theorem Blocks.ite {a b : Device} {c : Prop} [Decidable c] (ha : Blocks d a) (hb : Blocks d b) : Blocks d (if c then a else b) := by
  split <;> assumption
theorem Blocks.foldl {f : Device → β → Device} {l : List β} (hf : ∀ x b, Blocks d x → Blocks d (f x b)) (h : Blocks d e) : Blocks d (l.foldl f e) := by
  induction l generalizing e with
  | nil => exact h
  | cons b r ih => exact ih (hf _ b h)
theorem Blocks.foldl_fst {f : Device × α → β → Device × α} {l : List β} {i : Device × α} (hf : ∀ x b, Blocks d x.1 → Blocks d (f x b).1) (h : Blocks d i.1) : Blocks d (l.foldl f i).1 := by
  induction l generalizing i with
  | nil => exact h
  | cons b r ih => exact ih (hf _ b h)
theorem Blocks.foldl_snd {f : α × Device → β → α × Device} {l : List β} {i : α × Device} (hf : ∀ x b, Blocks d x.2 → Blocks d (f x b).2) (h : Blocks d i.2) : Blocks d (l.foldl f i).2 := by
  induction l generalizing i with
  | nil => exact h
  | cons b r ih => exact ih (hf _ b h)
theorem Blocks.foldl_third {f : α × γ × Device → β → α × γ × Device} {l : List β} {i : α × γ × Device} (hf : ∀ x b, Blocks d x.2.2 → Blocks d (f x b).2.2) (h : Blocks d i.2.2) :
    Blocks d (l.foldl f i).2.2 := by
  induction l generalizing i with
  | nil => exact h
  | cons b r ih => exact ih (hf _ b h)
theorem Blocks.of_snd {p : α × Device} {a : α} {x : Device} (hp : p = (a, x)) (h : Blocks d p.2) : Blocks d x := by subst hp; exact h
theorem Blocks.of_fst {p : Device × α} {a : α} {x : Device} (hp : p = (x, a)) (h : Blocks d p.1) : Blocks d x := by subst hp; exact h
theorem Blocks.of_third {p : α × γ × Device} {a : α} {c : γ} {x : Device} (hp : p = (a, c, x)) (h : Blocks d p.2.2) : Blocks d x := by subst hp; exact h
theorem Blocks.fst_mk {x : Device} {a : α} (h : Blocks d x) : Blocks d (x, a).1 := h
theorem Blocks.endsMask {x : Device × Nat} (h : Blocks d x.1) : Blocks d (endsMask x).1 := h
theorem Blocks.snd_mk {x : Device} {a : α} (h : Blocks d x) : Blocks d (a, x).2 := h
theorem Blocks.third_mk {x : Device} {a : α} {c : γ} (h : Blocks d x) : Blocks d (a, c, x).2.2 := h
theorem Blocks.eta (h : Blocks d e) : Blocks d { e with now := e.now } := h

/-! ## One field changed -/

theorem Blocks.set_now {x} (h : Blocks d e) : Blocks d { e with now := x } := h.trans ⟨fun s => s⟩
theorem Blocks.set_fresh {x} (h : Blocks d e) : Blocks d { e with fresh := x } := h.trans ⟨fun s => s⟩
theorem Blocks.set_straps {x} (h : Blocks d e) : Blocks d { e with straps := x } := h.trans ⟨fun s => s⟩
theorem Blocks.set_cycle {x} (h : Blocks d e) : Blocks d { e with cycle := x } := h.trans ⟨fun s => s⟩
theorem Blocks.set_par {x} (h : Blocks d e) : Blocks d { e with par := x } := h.trans ⟨fun s => s⟩
theorem Blocks.set_mirrors {x} (h : Blocks d e) : Blocks d { e with mirrors := x } := h.trans ⟨fun s => s⟩
theorem Blocks.set_conv {x} (h : Blocks d e) : Blocks d { e with conv := x } := h.trans ⟨fun s => s⟩
theorem Blocks.set_eh {x} (h : Blocks d e) : Blocks d { e with eh := x } := h.trans ⟨fun s => s⟩
theorem Blocks.set_prov {x} (h : Blocks d e) : Blocks d { e with prov := x } := h.trans ⟨fun s => s⟩
theorem Blocks.set_sec {x} (h : Blocks d e) : Blocks d { e with sec := x } := h.trans ⟨fun s => s⟩
theorem Blocks.set_rails {x} (h : Blocks d e) : Blocks d { e with rails := x } := h.trans ⟨fun s => s⟩
theorem Blocks.set_meas {x} (h : Blocks d e) : Blocks d { e with meas := x } := h.trans ⟨fun s => s⟩
theorem Blocks.set_law {x} (h : Blocks d e) : Blocks d { e with law := x } := h.trans ⟨fun s => s⟩
theorem Blocks.set_modu {x} (h : Blocks d e) : Blocks d { e with modu := x } := h.trans ⟨fun s => s⟩
theorem Blocks.set_packs {x} (h : Blocks d e) : Blocks d { e with packs := x } := h.trans ⟨fun s => s⟩
theorem Blocks.set_meter {x} (h : Blocks d e) : Blocks d { e with meter := x } := h.trans ⟨fun s => s⟩
theorem Blocks.set_link {x} (h : Blocks d e) : Blocks d { e with link := x } := h.trans ⟨fun s => s⟩
theorem Blocks.set_safety {x} (h : Blocks d e) : Blocks d { e with safety := x } := h.trans ⟨fun s => s⟩
theorem Blocks.set_twin {x} (h : Blocks d e) : Blocks d { e with twin := x } := h.trans ⟨fun s => s⟩
theorem Blocks.set_host {x} (h : Blocks d e) : Blocks d { e with host := x } := h.trans ⟨fun s => s⟩
theorem Blocks.set_clk {x} (h : Blocks d e) : Blocks d { e with clk := x } := h.trans ⟨fun s => s⟩
theorem Blocks.set_net {x} (h : Blocks d e) : Blocks d { e with net := x } := h.trans ⟨fun s => s⟩
theorem Blocks.set_recd {x} (h : Blocks d e) : Blocks d { e with recd := x } := h.trans ⟨fun s => s⟩
theorem Blocks.set_grid {x} (h : Blocks d e) : Blocks d { e with grid := x } := h.trans ⟨fun s => s⟩
theorem Blocks.set_zep {x} (h : Blocks d e) : Blocks d { e with zep := x } := h.trans ⟨fun s => s⟩
theorem Blocks.set_parCopies {x} (h : Blocks d e) : Blocks d { e with parCopies := x } := h.trans ⟨fun s => s⟩
theorem Blocks.set_prot {x} (hx : e.prot.blocked = true → x.blocked = true) (h : Blocks d e) : Blocks d { e with prot := x } := h.trans ⟨fun s => hx s⟩

/-! ## The setters of the parts -/

theorem Device.setConv_blocks {f : Conv → Conv} (h : Blocks d e) : Blocks d (e.setConv f) := Blocks.set_conv h
theorem Device.setSeq_blocks {f : Seq → Seq} (h : Blocks d e) : Blocks d (e.setSeq f) := Blocks.set_grid h
theorem Device.setTraj_blocks {f : Traj → Traj} (h : Blocks d e) : Blocks d (e.setTraj f) := Blocks.set_grid h
theorem Device.setRide_blocks {f : Ride → Ride} (h : Blocks d e) : Blocks d (e.setRide f) := Blocks.set_grid h
theorem Device.setEh_blocks {f : Eh → Eh} (h : Blocks d e) : Blocks d (e.setEh f) := Blocks.set_eh h
theorem Device.setSec_blocks {f : Sec → Sec} (h : Blocks d e) : Blocks d (e.setSec f) := Blocks.set_sec h
theorem Device.setPar_blocks {f : ParamState → ParamState} (h : Blocks d e) : Blocks d (e.setPar f) := Blocks.set_par h
theorem Device.setHk_blocks {f : Hk → Hk} (h : Blocks d e) : Blocks d (e.setHk f) := Blocks.set_zep h
theorem Device.setDrift_blocks {f : Drift → Drift} (h : Blocks d e) : Blocks d (e.setDrift f) := Blocks.set_zep h
theorem Device.setProt_blocks {f : Prot → Prot} (hf : ∀ x : Prot, x.blocked = true → (f x).blocked = true) (h : Blocks d e) : Blocks d (e.setProt f) := Blocks.set_prot (hf _) h
theorem Device.setModu_blocks {f : Modu → Modu} (h : Blocks d e) : Blocks d (e.setModu f) := Blocks.set_modu h
theorem Device.setSaf_blocks {f : Safety → Safety} (h : Blocks d e) : Blocks d (e.setSaf f) := Blocks.set_safety h
theorem Device.setTwin_blocks {f : Twin → Twin} (h : Blocks d e) : Blocks d (e.setTwin f) := Blocks.set_twin h
theorem Device.setHost_blocks {f : HostPort → HostPort} (h : Blocks d e) : Blocks d (e.setHost f) := Blocks.set_host h
theorem Device.setLink_blocks {f : Link → Link} (h : Blocks d e) : Blocks d (e.setLink f) := Blocks.set_link h
theorem Device.setLaw_blocks {f : Law → Law} (h : Blocks d e) : Blocks d (e.setLaw f) := Blocks.set_law h
theorem Device.setPacks_blocks {f : Packs → Packs} (h : Blocks d e) : Blocks d (e.setPacks f) := Blocks.set_packs h
theorem Device.setMeas_blocks {f : Meas → Meas} (h : Blocks d e) : Blocks d (e.setMeas f) := Blocks.set_meas h
theorem Device.setClk_blocks {f : Clk → Clk} (h : Blocks d e) : Blocks d (e.setClk f) := Blocks.set_clk h
theorem Device.setRec_blocks {f : Rec → Rec} (h : Blocks d e) : Blocks d (e.setRec f) := Blocks.set_recd h
theorem Device.setNet_blocks {f : Net → Net} (h : Blocks d e) : Blocks d (e.setNet f) := Blocks.set_net h
theorem Device.setMeter_blocks {f : Meter → Meter} (h : Blocks d e) : Blocks d (e.setMeter f) := Blocks.set_meter h
theorem Device.setPmc_blocks {f : Pmc → Pmc} (h : Blocks d e) : Blocks d (e.setPmc f) := Blocks.set_zep h

end Sys2Proof.Machine
end

