-- ==== Sys2Proof/Laws/BlocksOps.lean ====
section
/-! SUPPORT. Operations and commands that touch protection leave the arms blocked (`Blocks`), all but a device reset and the resume edge. -/

namespace Sys2Proof.Machine

theorem State.on_blocks {s s' : State} {t : Tick} {f : Device → Device} (h : s.on t f = .next s') (hf : ∀ d, Blocks d (f d)) : Blocks s.dev s'.dev := by
  cases h
  have h0 : Blocks s.dev (f (s.dev.ready t)) := (Blocks.of_only (Device.ready_only s.dev t) (by decide)).trans (hf _)
  have h1 : Blocks s.dev (s.dev.at_ t f) := Blocks.step (Blocks.of_only (Device.countEdges_only _) (by decide)) (Blocks.step (Blocks.of_only (Device.logDigital_only _) (by decide))
    (Blocks.step (Blocks.of_only (Device.pmcPulse_only _ _ _ _) (by decide)) h0))
  exact ⟨h1.keep⟩
theorem Device.setSrc_blocks (d : Device) (i : Nat) (f : TripSrc → TripSrc) : Blocks d (Device.setSrc d i f) := by
  unfold Device.setSrc
  refine Device.setProt_blocks (fun _ h => h) ?_
  exact Blocks.refl
theorem Device.squallBegins_blocks (d : Device) : Blocks d (Device.squallBegins d) := by
  unfold Device.squallBegins
  extract_lets +onlyGivenNames d1
  refine Blocks.cut d1 ?_ fun hd1 => ?_
  · subst d1
    refine Device.setProt_blocks (fun _ h => h) ?_
    exact Blocks.refl
  clear_value d1
  extract_lets +onlyGivenNames d2
  refine Blocks.cut d2 ?_ fun hd2 => ?_
  · subst d2
    refine Device.setConv_blocks ?_
    assumption
  clear_value d2
  refine Blocks.ite ?_ ?_
  · refine Blocks.step (Blocks.of_only (Device.raise_only ..) rfl) ?_
    refine Device.setProt_blocks (fun _ h => h) ?_
    assumption
  · assumption
theorem Device.blockArms_blocks (d : Device) : Blocks d (Device.blockArms d) := by
  unfold Device.blockArms
  extract_lets +onlyGivenNames d1
  refine Blocks.cut d1 ?_ fun hd1 => ?_
  · subst d1
    refine Device.setProt_blocks (fun _ _ => rfl) ?_
    exact Blocks.refl
  clear_value d1
  extract_lets +onlyGivenNames d2
  refine Blocks.cut d2 ?_ fun hd2 => ?_
  · subst d2
    refine Device.setConv_blocks ?_
    assumption
  clear_value d2
  refine Device.setModu_blocks ?_
  assumption
theorem Device.squallTrigger_blocks (d : Device) : Blocks d (Device.squallTrigger d) := by
  unfold Device.squallTrigger
  extract_lets +onlyGivenNames first1
  extract_lets +onlyGivenNames d2
  refine Blocks.cut d2 ?_ fun hd2 => ?_
  · subst d2
    refine Device.setProt_blocks (fun _ h => h) ?_
    exact Blocks.refl
  clear_value d2
  extract_lets +onlyGivenNames d3
  refine Blocks.cut d3 ?_ fun hd3 => ?_
  · subst d3
    refine Blocks.ite ?_ ?_
    · refine Blocks.step (Device.squallBegins_blocks ..) ?_
      assumption
    · assumption
  clear_value d3
  extract_lets +onlyGivenNames d4
  refine Blocks.cut d4 ?_ fun hd4 => ?_
  · subst d4
    refine Blocks.step (Device.blockArms_blocks ..) ?_
    assumption
  clear_value d4
  refine Blocks.step (Blocks.of_only (Device.tripSequence_only ..) rfl) ?_
  assumption
theorem Device.recordTrip_blocks (d : Device) (i : Nat) (note : TripNote) : Blocks d (Device.recordTrip d i note) := by
  unfold Device.recordTrip
  extract_lets +onlyGivenNames fresh1
  extract_lets +onlyGivenNames r2
  extract_lets +onlyGivenNames r3
  refine Blocks.ite ?_ ?_
  · exact Blocks.refl
  · extract_lets +onlyGivenNames single4
    extract_lets +onlyGivenNames r'5
    extract_lets +onlyGivenNames d6
    refine Blocks.cut d6 ?_ fun hd6 => ?_
    · subst d6
      refine Device.setProt_blocks (fun _ h => h) ?_
      exact Blocks.refl
    clear_value d6
    refine Blocks.ite ?_ ?_
    · refine Blocks.step (Blocks.of_only (Device.recEvent_only ..) rfl) ?_
      assumption
    · assumption
theorem Device.rejectClear_blocks (d : Device) (i : Nat) (stage : Nat) : Blocks d (Device.rejectClear d i stage) := by
  unfold Device.rejectClear
  extract_lets +onlyGivenNames d1
  refine Blocks.cut d1 ?_ fun hd1 => ?_
  · subst d1
    refine Device.setProt_blocks (fun _ h => h) ?_
    exact Blocks.refl
  clear_value d1
  refine Blocks.ite ?_ ?_
  · refine Blocks.step (Blocks.of_only (Device.raiseRated_only ..) rfl) ?_
    assumption
  · refine Blocks.step (Blocks.of_only (Device.raise_only ..) rfl) ?_
    assumption
theorem Device.assertSrc_blocks (d : Device) (i : Nat) (note : TripNote) : Blocks d (Device.assertSrc d i note) := by
  unfold Device.assertSrc
  extract_lets +onlyGivenNames was1
  refine Blocks.ite ?_ ?_
  · exact Blocks.refl
  · extract_lets +onlyGivenNames d2
    refine Blocks.cut d2 ?_ fun hd2 => ?_
    · subst d2
      refine Blocks.ite ?_ ?_
      · refine Blocks.step (Device.rejectClear_blocks ..) ?_
        exact Blocks.refl
      · exact Blocks.refl
    clear_value d2
    extract_lets +onlyGivenNames d3
    refine Blocks.cut d3 ?_ fun hd3 => ?_
    · subst d3
      refine Blocks.step (Device.recordTrip_blocks ..) ?_
      assumption
    clear_value d3
    extract_lets +onlyGivenNames own4
    extract_lets +onlyGivenNames d5
    refine Blocks.cut d5 ?_ fun hd5 => ?_
    · subst d5
      refine Blocks.step (Device.setSrc_blocks ..) ?_
      assumption
    clear_value d5
    extract_lets +onlyGivenNames d6
    refine Blocks.cut d6 ?_ fun hd6 => ?_
    · subst d6
      refine Blocks.ite ?_ ?_
      · assumption
      · refine Blocks.step (Blocks.of_only (Device.raise_only ..) rfl) ?_
        assumption
    clear_value d6
    refine Blocks.step (Device.squallTrigger_blocks ..) ?_
    assumption
theorem Device.inputActive_blocks (d : Device) (i : Nat) (note : TripNote) : Blocks d (Device.inputActive d i note) := by
  unfold Device.inputActive
  refine Blocks.ite ?_ ?_
  · exact Blocks.refl
  · extract_lets +onlyGivenNames d1
    refine Blocks.cut d1 ?_ fun hd1 => ?_
    · subst d1
      refine Blocks.step (Device.setSrc_blocks ..) ?_
      exact Blocks.refl
    clear_value d1
    refine Blocks.ite ?_ ?_
    · assumption
    · refine Blocks.step (Device.assertSrc_blocks ..) ?_
      assumption
theorem Device.inputInactive_blocks (d : Device) (i : Nat) : Blocks d (Device.inputInactive d i) := by
  unfold Device.inputInactive
  refine Blocks.ite ?_ ?_
  · exact Blocks.refl
  · refine Blocks.step (Device.setSrc_blocks ..) ?_
    exact Blocks.refl
theorem Device.setInput_blocks (d : Device) (i : Nat) (active : Bool) : Blocks d (Device.setInput d i active) := by
  unfold Device.setInput
  refine Blocks.ite ?_ ?_
  · refine Blocks.step (Device.inputActive_blocks ..) ?_
    exact Blocks.refl
  · refine Blocks.step (Device.inputInactive_blocks ..) ?_
    exact Blocks.refl
theorem Device.controlTrip_blocks (d : Device) (cause : Nat) : Blocks d (Device.controlTrip d cause) := by
  unfold Device.controlTrip
  refine Blocks.step (Device.inputActive_blocks ..) ?_
  exact Blocks.refl
theorem Device.desatTrip_blocks (d : Device) (arms : Nat) : Blocks d (Device.desatTrip d arms) := by
  unfold Device.desatTrip
  extract_lets +onlyGivenNames note1
  refine Blocks.ite ?_ ?_
  · refine Blocks.step (Device.recordTrip_blocks ..) ?_
    exact Blocks.refl
  · refine Blocks.step (Device.inputActive_blocks ..) ?_
    exact Blocks.refl
theorem Device.cmdIf_blocksBy {d e : Device} {h : CmdHdr} {a : Args} {used : List (Nat × Nat)} {bad : Option Nat} {body : Device → Device × Option Ending}
    (hb : ∀ x, Blocks d x → Blocks d (body x).1) (hd : Blocks d e) : Blocks d (e.cmdIf h a used bad body) := by
  unfold Device.cmdIf
  refine Blocks.ite hd ?_
  have hp : Blocks d (e.pmcPulse 0 2 1) := Blocks.step (Blocks.of_only (Device.pmcPulse_only ..) rfl) hd
  generalize e.pmcPulse 0 2 1 = x at hp
  have hx := hb x hp
  dsimp only
  split
  · exact Blocks.step (Blocks.of_only (Device.complete_only ..) rfl) hp
  · split
    · next heq => exact Blocks.step (Blocks.of_only (Device.complete_only ..) rfl) (Blocks.of_fst heq hx)
    · next heq => exact Blocks.of_fst heq hx
theorem Device.cmd_blocksBy {d e : Device} {h : CmdHdr} {a : Args} {used : List (Nat × Nat)} {body : Device → Device × Option Ending}
    (hb : ∀ x, Blocks d x → Blocks d (body x).1) (hd : Blocks d e) : Blocks d (e.cmd h a used body) := Device.cmdIf_blocksBy hb hd
theorem Device.countWindow_blocks (d : Device) (j : Nat) : Blocks d (Device.countWindow d j) := by
  unfold Device.countWindow
  refine Device.setProt_blocks (fun _ h => h) ?_
  exact Blocks.refl
theorem Device.fastLevel_blocks (d : Device) (j : Nat) (was : Bool) (now : Bool) : Blocks d (Device.fastLevel d j was now) := by
  unfold Device.fastLevel
  extract_lets +onlyGivenNames d1
  refine Blocks.cut d1 ?_ fun hd1 => ?_
  · subst d1
    refine Blocks.ite ?_ ?_
    · refine Blocks.step (Device.countWindow_blocks ..) ?_
      exact Blocks.refl
    · exact Blocks.refl
  clear_value d1
  extract_lets +onlyGivenNames on2
  refine Blocks.ite ?_ ?_
  · refine Blocks.step (Device.inputActive_blocks ..) ?_
    assumption
  · refine Blocks.ite ?_ ?_
    · assumption
    · refine Blocks.step (Device.inputInactive_blocks ..) ?_
      assumption
theorem Device.hardLevel_blocks (d : Device) (j : Nat) (now : Bool) : Blocks d (Device.hardLevel d j now) := by
  unfold Device.hardLevel
  refine Blocks.step (Device.setInput_blocks ..) ?_
  exact Blocks.refl
theorem Device.evalCmp_blocks (d : Device) (j : Nat) : Blocks d (Device.evalCmp d j) := by
  unfold Device.evalCmp
  extract_lets +onlyGivenNames c1
  extract_lets +onlyGivenNames h2
  extract_lets +onlyGivenNames fast3
  extract_lets +onlyGivenNames hard4
  extract_lets +onlyGivenNames d5
  refine Blocks.cut d5 ?_ fun hd5 => ?_
  · subst d5
    refine Blocks.step (Blocks.of_only (Device.setCmp_only ..) rfl) ?_
    exact Blocks.refl
  clear_value d5
  extract_lets +onlyGivenNames d6
  refine Blocks.cut d6 ?_ fun hd6 => ?_
  · subst d6
    refine Blocks.step (Device.hardLevel_blocks ..) ?_
    assumption
  clear_value d6
  extract_lets +onlyGivenNames d7
  refine Blocks.cut d7 ?_ fun hd7 => ?_
  · subst d7
    refine Blocks.step (Device.fastLevel_blocks ..) ?_
    assumption
  clear_value d7
  refine Blocks.ite ?_ ?_
  · refine Blocks.step (Blocks.of_only (Device.gustRequest_only ..) rfl) ?_
    assumption
  · assumption
theorem Device.refFault_blocks (d : Device) (g : Nat) : Blocks d (Device.refFault d g) := by
  unfold Device.refFault
  refine Blocks.ite ?_ ?_
  · exact Blocks.refl
  · extract_lets +onlyGivenNames d1
    refine Blocks.cut d1 ?_ fun hd1 => ?_
    · subst d1
      refine Blocks.step (Blocks.of_only (Device.raise_only ..) rfl) ?_
      refine Blocks.step (Blocks.of_only (Device.setGrp_only ..) rfl) ?_
      exact Blocks.refl
    clear_value d1
    extract_lets +onlyGivenNames d2
    refine Blocks.cut d2 ?_ fun hd2 => ?_
    · subst d2
      refine Blocks.foldl (fun x3 b4 hx3 => ?_) ?_
      · refine Blocks.step (Blocks.of_only (Device.setStrm_only ..) rfl) ?_
        assumption
      · assumption
    clear_value d2
    refine Blocks.foldl (fun x5 b6 hx5 => ?_) ?_
    · refine Blocks.step (Device.evalCmp_blocks ..) ?_
      assumption
    · assumption
theorem execComparatorLevelChange_blocks (t : Tick) (j : Fin 12) (x : Rat) (s s' : State) (h : execComparatorLevelChange t j x s = .next s') : Blocks s.dev s'.dev := by
  refine State.on_blocks h fun d => ?_
  refine Blocks.step (Device.evalCmp_blocks ..) ?_
  refine Blocks.step (Blocks.of_only (Device.setCmp_only ..) rfl) ?_
  exact Blocks.refl
theorem execSpareDacSwitch_blocks (t : Tick) (j : Fin 12) (s s' : State) (h : execSpareDacSwitch t j s = .next s') : Blocks s.dev s'.dev := by
  refine State.on_blocks h fun d => ?_
  split
  · exact Blocks.refl
  · extract_lets +onlyGivenNames p1
    refine Blocks.step (Device.evalCmp_blocks ..) ?_
    refine Blocks.step (Blocks.of_only (Device.setCmp_only ..) rfl) ?_
    exact Blocks.refl
theorem execReferenceSettleTimeout_blocks (t : Tick) (g : Fin 4) (s s' : State) (h : execReferenceSettleTimeout t g s = .next s') : Blocks s.dev s'.dev := by
  refine State.on_blocks h fun d => ?_
  refine Blocks.ite ?_ ?_
  · refine Blocks.step (Device.refFault_blocks ..) ?_
    exact Blocks.refl
  · exact Blocks.refl
theorem Device.bailsilSafeHold_blocks (d : Device) : Blocks d (Device.bailsilSafeHold d) := by
  unfold Device.bailsilSafeHold
  refine Blocks.ite ?_ ?_
  · exact Blocks.refl
  · extract_lets +onlyGivenNames d1
    refine Blocks.cut d1 ?_ fun hd1 => ?_
    · subst d1
      refine Device.setSaf_blocks ?_
      exact Blocks.refl
    clear_value d1
    extract_lets +onlyGivenNames d2
    refine Blocks.cut d2 ?_ fun hd2 => ?_
    · subst d2
      refine Blocks.step (Blocks.of_only (Device.raise_only ..) rfl) ?_
      assumption
    clear_value d2
    extract_lets +onlyGivenNames d3
    refine Blocks.cut d3 ?_ fun hd3 => ?_
    · subst d3
      refine Blocks.step (Device.inputActive_blocks ..) ?_
      refine Blocks.step (Blocks.of_only (Device.msix_only ..) rfl) ?_
      assumption
    clear_value d3
    refine Blocks.step (Device.squallTrigger_blocks ..) ?_
    assumption
theorem Device.handlerFault_blocks (d : Device) (cause : Nat) : Blocks d (Device.handlerFault d cause) := by
  unfold Device.handlerFault
  refine Blocks.ite ?_ ?_
  · exact Blocks.refl
  · refine Blocks.step (Device.bailsilSafeHold_blocks ..) ?_
    refine Device.setEh_blocks ?_
    exact Blocks.refl
theorem Device.errReport_blocks (d : Device) (code : Nat) (die : Nat) (kind : Nat) (index : Nat) (detail : Nat) (die2 : Option Nat) (second : Bool) : Blocks d (Device.errReport d code die kind index detail die2 second) := by
  unfold Device.errReport
  extract_lets +onlyGivenNames d1
  refine Blocks.cut d1 ?_ fun hd1 => ?_
  · subst d1
    refine Blocks.ite ?_ ?_
    · refine Blocks.step (Blocks.of_only (Device.pmcPulse_only ..) rfl) ?_
      exact Blocks.refl
    · refine Blocks.ite ?_ ?_
      · refine Blocks.step (Blocks.of_only (Device.pmcPulse_only ..) rfl) ?_
        exact Blocks.refl
      · exact Blocks.refl
  clear_value d1
  extract_lets +onlyGivenNames c02
  refine Blocks.ite ?_ ?_
  · refine Blocks.step (Blocks.of_only (Device.countError_only ..) rfl) ?_
    assumption
  · extract_lets +onlyGivenNames merge3
    refine Blocks.ite ?_ ?_
    · refine Device.setEh_blocks ?_
      assumption
    · refine Blocks.ite ?_ ?_
      · refine Blocks.step (Device.handlerFault_blocks ..) ?_
        assumption
      · extract_lets +onlyGivenNames busy4
        extract_lets +onlyGivenNames esc5
        refine Blocks.ite ?_ ?_
        · refine Blocks.step (Device.handlerFault_blocks ..) ?_
          assumption
        · extract_lets +onlyGivenNames cls6
          extract_lets +onlyGivenNames par7
          extract_lets +onlyGivenNames x8
          extract_lets +onlyGivenNames x9
          extract_lets +onlyGivenNames d10
          refine Blocks.cut d10 ?_ fun hd10 => ?_
          · subst d10
            refine Device.setEh_blocks ?_
            refine Blocks.step (Blocks.of_only (Device.countError_only ..) rfl) ?_
            assumption
          clear_value d10
          refine Blocks.step (Blocks.of_only (Device.takeError_only ..) rfl) ?_
          assumption
theorem execPllLossOfLock_blocks (t : Tick) (pll : Fin 4) (s s' : State) (h : execPllLossOfLock t pll s = .next s') : Blocks s.dev s'.dev := by
  refine State.on_blocks h fun d => ?_
  refine Blocks.ite ?_ ?_
  · exact Blocks.refl
  · extract_lets +onlyGivenNames d1
    refine Blocks.cut d1 ?_ fun hd1 => ?_
    · subst d1
      refine Blocks.step (Blocks.of_only (Device.setPll_only ..) rfl) ?_
      exact Blocks.refl
    clear_value d1
    extract_lets +onlyGivenNames d2
    refine Blocks.cut d2 ?_ fun hd2 => ?_
    · subst d2
      refine Blocks.step (Blocks.of_only (Device.raise_only ..) rfl) ?_
      assumption
    clear_value d2
    extract_lets +onlyGivenNames d3
    refine Blocks.cut d3 ?_ fun hd3 => ?_
    · subst d3
      refine Blocks.ite ?_ ?_
      · refine Blocks.step (Blocks.of_only (Device.portsDown_only ..) rfl) ?_
        assumption
      · assumption
    clear_value d3
    split
    refine Blocks.step (Device.errReport_blocks ..) ?_
    assumption
theorem execHoldoverMaxExpiry_blocks (t : Tick) (s s' : State) (h : execHoldoverMaxExpiry t s = .next s') : Blocks s.dev s'.dev := by
  refine State.on_blocks h fun d => ?_
  refine Blocks.ite ?_ ?_
  · exact Blocks.refl
  · extract_lets +onlyGivenNames len1
    refine Blocks.step (Device.errReport_blocks ..) ?_
    refine Device.setClk_blocks ?_
    exact Blocks.refl
theorem Device.scHost_blocksBy {d e : Device} {x : Nat} {f : Device → Device} (hf : ∀ y, Blocks d y → Blocks d (f y)) (h : Blocks d e) : Blocks d (e.scHost x f) :=
  Blocks.ite (hf _ h) (Blocks.step (Blocks.of_only (Device.hostErr_only ..) rfl) h)
theorem Device.overThreshold_blocks (d : Device) (src : Nat) (stream : Nat) (limit : Rat) (from_ : Option Tick) : Blocks d (Device.overThreshold d src stream limit from_).2 := by
  unfold Device.overThreshold
  extract_lets +onlyGivenNames s1
  extract_lets +onlyGivenNames above2
  split
  · refine Blocks.snd_mk ?_
    exact Blocks.refl
  · refine Blocks.snd_mk ?_
    refine Blocks.step (Device.inputInactive_blocks ..) ?_
    exact Blocks.refl
theorem Device.earthStar_blocks (d : Device) : Blocks d (Device.earthStar d) := by
  unfold Device.earthStar
  split
  rename_i q1
  refine Blocks.cut _ (Blocks.of_snd q1 ?_) fun hx2 => ?_
  · refine Blocks.step (Device.overThreshold_blocks ..) ?_
    exact Blocks.refl
  split
  rename_i q3
  refine Blocks.cut _ (Blocks.of_snd q3 ?_) fun hx4 => ?_
  · refine Blocks.step (Device.overThreshold_blocks ..) ?_
    assumption
  refine Device.setProt_blocks (fun _ h => h) ?_
  assumption
theorem Device.lawCycle_blocks (d : Device) : Blocks d (Device.lawCycle d) := by
  unfold Device.lawCycle
  extract_lets +onlyGivenNames d1
  refine Blocks.cut d1 ?_ fun hd1 => ?_
  · subst d1
    refine Device.setLaw_blocks ?_
    exact Blocks.refl
  clear_value d1
  extract_lets +onlyGivenNames d2
  refine Blocks.cut d2 ?_ fun hd2 => ?_
  · subst d2
    refine Blocks.step (Device.earthStar_blocks ..) ?_
    assumption
  clear_value d2
  split
  rename_i q3
  refine Blocks.cut _ (Blocks.of_third q3 ?_) fun hx4 => ?_
  · refine Blocks.step (Blocks.of_only (Device.plausibility_only ..) rfl) ?_
    assumption
  extract_lets +onlyGivenNames d5
  refine Blocks.cut d5 ?_ fun hd5 => ?_
  · subst d5
    refine Device.setLaw_blocks ?_
    assumption
  clear_value d5
  extract_lets +onlyGivenNames d6
  refine Blocks.cut d6 ?_ fun hd6 => ?_
  · subst d6
    refine Blocks.step (Blocks.of_only (Device.meterSamples_only ..) rfl) ?_
    refine Blocks.step (Blocks.of_only (Device.sensorless_only ..) rfl) ?_
    assumption
  clear_value d6
  split
  rename_i q7
  refine Blocks.cut _ (Blocks.of_third q7 ?_) fun hx8 => ?_
  · refine Blocks.step (Blocks.of_only (Device.sequences_only ..) rfl) ?_
    assumption
  extract_lets +onlyGivenNames d9
  refine Blocks.cut d9 ?_ fun hd9 => ?_
  · subst d9
    refine Blocks.step (Blocks.of_only (Device.monitor_only ..) rfl) ?_
    refine Device.setLaw_blocks ?_
    assumption
  clear_value d9
  extract_lets +onlyGivenNames step10
  extract_lets +onlyGivenNames d11
  refine Blocks.cut d11 ?_ fun hd11 => ?_
  · subst d11
    refine Device.setRide_blocks ?_
    refine Blocks.step (Blocks.of_only (Device.landingCycle_only ..) rfl) ?_
    assumption
  clear_value d11
  extract_lets +onlyGivenNames d12
  refine Blocks.cut d12 ?_ fun hd12 => ?_
  · subst d12
    refine Blocks.step (Blocks.of_only (Device.rampImpedance_only ..) rfl) ?_
    refine Blocks.step (Blocks.of_only (Device.setpStep_only ..) rfl) ?_
    refine Blocks.step (Blocks.of_only (Device.setpStep_only ..) rfl) ?_
    refine Blocks.step (Blocks.of_only (Device.rideCheck_only ..) rfl) ?_
    assumption
  clear_value d12
  extract_lets +onlyGivenNames th13
  split
  extract_lets +onlyGivenNames x14
  extract_lets +onlyGivenNames d15
  refine Blocks.cut d15 ?_ fun hd15 => ?_
  · subst d15
    refine Blocks.step (Blocks.of_only (Device.stage2_only ..) rfl) ?_
    assumption
  clear_value d15
  extract_lets +onlyGivenNames d16
  refine Blocks.cut d16 ?_ fun hd16 => ?_
  · subst d16
    refine Blocks.ite ?_ ?_
    · refine Blocks.step (Blocks.of_only (Device.stages4to7_only ..) rfl) ?_
      refine Blocks.step (Blocks.of_only (Device.stage3_only ..) rfl) ?_
      assumption
    · refine Blocks.step (Blocks.of_only (Device.idleReference_only ..) rfl) ?_
      assumption
  clear_value d16
  refine Blocks.step (Blocks.of_only (Device.emfEnds_only ..) rfl) ?_
  assumption
theorem execRtSyncLost_blocks (t : Tick) (s s' : State) (h : execRtSyncLost t s = .next s') : Blocks s.dev s'.dev := by
  refine State.on_blocks h fun d => ?_
  refine Blocks.ite ?_ ?_
  · refine Blocks.step (Device.controlTrip_blocks ..) ?_
    refine Blocks.step (Blocks.of_only (Device.raise_only ..) rfl) ?_
    refine Device.setRide_blocks ?_
    exact Blocks.refl
  · exact Blocks.refl
theorem execRideTimeout_blocks (t : Tick) (s s' : State) (h : execRideTimeout t s = .next s') : Blocks s.dev s'.dev := by
  refine State.on_blocks h fun d => ?_
  refine Blocks.ite ?_ ?_
  · refine Blocks.step (Device.controlTrip_blocks ..) ?_
    refine Blocks.step (Blocks.of_only (Device.raise_only ..) rfl) ?_
    exact Blocks.refl
  · exact Blocks.refl
theorem execSensorlessTrip_blocks (t : Tick) (s s' : State) (h : execSensorlessTrip t s = .next s') : Blocks s.dev s'.dev := by
  refine State.on_blocks h fun d => ?_
  refine Blocks.ite ?_ ?_
  · refine Blocks.step (Device.controlTrip_blocks ..) ?_
    refine Blocks.step (Blocks.of_only (Device.raise_only ..) rfl) ?_
    exact Blocks.refl
  · exact Blocks.refl
theorem execRafterLawEvaluation_blocks (t : Tick) (clocks : Nat) (fail : Fin 3) (s s' : State) (h : execRafterLawEvaluation t clocks fail s = .next s') : Blocks s.dev s'.dev := by
  refine State.on_blocks h fun d => ?_
  refine Blocks.ite ?_ ?_
  · exact Blocks.refl
  · extract_lets +onlyGivenNames d1
    refine Blocks.cut d1 ?_ fun hd1 => ?_
    · subst d1
      refine Device.setLaw_blocks ?_
      exact Blocks.refl
    clear_value d1
    split
    · refine Blocks.step (Blocks.of_only (Device.sendCheckpoint_only ..) rfl) ?_
      refine Blocks.step (Blocks.of_only (Device.stamp_only ..) rfl) ?_
      refine Device.setLaw_blocks ?_
      refine Blocks.step (Device.lawCycle_blocks ..) ?_
      assumption
    · refine Blocks.step (Device.errReport_blocks ..) ?_
      refine Blocks.step (Blocks.of_only (Device.meterSamples_only ..) rfl) ?_
      assumption
    · refine Blocks.step (Device.errReport_blocks ..) ?_
      refine Blocks.step (Blocks.of_only (Device.meterSamples_only ..) rfl) ?_
      assumption
theorem execBreakerContactChange_blocks (t : Tick) (b : Fin 2) (c : Fin 2) (level : Bool × Nat) (s s' : State) (h : execBreakerContactChange t b c level s = .next s') : Blocks s.dev s'.dev := by
  refine State.on_blocks h fun d => ?_
  extract_lets +onlyGivenNames x1
  refine Blocks.ite ?_ ?_
  · exact Blocks.refl
  · extract_lets +onlyGivenNames n2
    extract_lets +onlyGivenNames trans3
    extract_lets +onlyGivenNames d4
    refine Blocks.cut d4 ?_ fun hd4 => ?_
    · subst d4
      refine Blocks.step (Blocks.of_only (Device.setBrk_only ..) rfl) ?_
      exact Blocks.refl
    clear_value d4
    refine Blocks.ite ?_ ?_
    · assumption
    · extract_lets +onlyGivenNames d5
      refine Blocks.cut d5 ?_ fun hd5 => ?_
      · subst d5
        refine Device.setProt_blocks (fun _ h => h) ?_
        assumption
      clear_value d5
      refine Blocks.ite ?_ ?_
      · assumption
      · refine Blocks.step (Blocks.of_only (Device.brkSettle_only ..) rfl) ?_
        refine Blocks.step (Blocks.of_only (Device.raise_only ..) rfl) ?_
        refine Blocks.step (Blocks.of_only (Device.setBrk_only ..) rfl) ?_
        assumption
theorem execBsEnergiseTimeout_blocks (t : Tick) (s s' : State) (h : execBsEnergiseTimeout t s = .next s') : Blocks s.dev s'.dev := by
  refine State.on_blocks h fun d => ?_
  extract_lets +onlyGivenNames q1
  refine Blocks.ite ?_ ?_
  · refine Blocks.step (Device.controlTrip_blocks ..) ?_
    refine Blocks.step (Blocks.of_only (Device.endSequence_only ..) rfl) ?_
    exact Blocks.refl
  · exact Blocks.refl
theorem Device.bypassInput_blocks (d : Device) : Blocks d (Device.bypassInput d) := by
  unfold Device.bypassInput
  extract_lets +onlyGivenNames l1
  refine Blocks.ite ?_ ?_
  · refine Blocks.step (Device.inputInactive_blocks ..) ?_
    exact Blocks.refl
  · extract_lets +onlyGivenNames arms2
    refine Blocks.step (Device.setSrc_blocks ..) ?_
    refine Blocks.step (Device.inputActive_blocks ..) ?_
    exact Blocks.refl
theorem Device.bpClosed_blocks (d : Device) (c : Nat) : Blocks d (Device.bpClosed d c) := by
  unfold Device.bpClosed
  extract_lets +onlyGivenNames m1
  extract_lets +onlyGivenNames d2
  refine Blocks.cut d2 ?_ fun hd2 => ?_
  · subst d2
    refine Blocks.ite ?_ ?_
    · refine Blocks.step (Device.bypassInput_blocks ..) ?_
      refine Device.setProt_blocks (fun _ h => h) ?_
      exact Blocks.refl
    · exact Blocks.refl
  clear_value d2
  refine Blocks.ite ?_ ?_
  · refine Blocks.step (Blocks.of_only (Device.setCell_only ..) rfl) ?_
    assumption
  · assumption
theorem Device.edgeSchedule_blocks (d : Device) (arm : Nat) (v0 : Rat) (v1 : Rat) (ip : Rat) : Blocks d (Device.edgeSchedule d arm v0 v1 ip) := by
  unfold Device.edgeSchedule
  extract_lets +onlyGivenNames T1
  extract_lets +onlyGivenNames rho2
  extract_lets +onlyGivenNames trusted3
  extract_lets +onlyGivenNames parts4
  split
  rename_i q5
  refine Blocks.cut _ (Blocks.of_snd q5 ?_) fun hx6 => ?_
  · refine Blocks.foldl_snd (fun x7 b8 hx7 => ?_) ?_
    · split
      rename_i q9
      refine Blocks.cut _ (Blocks.of_snd q9 ?_) fun hx10 => ?_
      · refine Blocks.step (Blocks.of_only (Device.rank_only ..) rfl) ?_
        assumption
      refine Blocks.snd_mk ?_
      assumption
    · refine Blocks.snd_mk ?_
      exact Blocks.refl
  extract_lets +onlyGivenNames total11
  extract_lets +onlyGivenNames i12
  extract_lets +onlyGivenNames p13
  extract_lets +onlyGivenNames S14
  extract_lets +onlyGivenNames sat15
  extract_lets +onlyGivenNames parts16
  extract_lets +onlyGivenNames ranks17
  split
  rename_i q18
  refine Blocks.cut _ (Blocks.of_snd q18 ?_) fun hx19 => ?_
  · refine Blocks.step (Blocks.of_only (bootstrap_only ..) rfl) ?_
    assumption
  extract_lets +onlyGivenNames want20
  extract_lets +onlyGivenNames cells21
  split
  rename_i q22
  refine Blocks.cut _ (Blocks.of_snd q22 ?_) fun hx23 => ?_
  · refine Blocks.foldl_snd (fun x24 b25 hx24 => ?_) ?_
    · split
      extract_lets +onlyGivenNames m26
      split
      · refine Blocks.snd_mk ?_
        refine Blocks.step (Blocks.of_only (Device.commit_only ..) rfl) ?_
        assumption
      · split
        extract_lets +onlyGivenNames vs27
        extract_lets +onlyGivenNames d28
        refine Blocks.cut d28 ?_ fun hd28 => ?_
        · subst d28
          refine Device.setModu_blocks ?_
          refine Blocks.step (Blocks.of_only (Device.commit_only ..) rfl) ?_
          assumption
        clear_value d28
        refine Blocks.snd_mk ?_
        assumption
    · refine Blocks.snd_mk ?_
      assumption
  extract_lets +onlyGivenNames d29
  refine Blocks.cut d29 ?_ fun hd29 => ?_
  · subst d29
    refine Device.setModu_blocks ?_
    assumption
  clear_value d29
  extract_lets +onlyGivenNames d30
  refine Blocks.cut d30 ?_ fun hd30 => ?_
  · subst d30
    refine Blocks.step (Blocks.of_only (Device.setArm_only ..) rfl) ?_
    assumption
  clear_value d30
  refine Device.setProt_blocks (fun _ h => h) ?_
  refine Blocks.step (Blocks.of_only (Device.setRho_only ..) rfl) ?_
  assumption
theorem Device.scheduleCore_blocks (d : Device) (arm : Nat) : Blocks d (Device.scheduleCore d arm) := by
  unfold Device.scheduleCore
  extract_lets +onlyGivenNames a1
  extract_lets +onlyGivenNames cells2
  extract_lets +onlyGivenNames d3
  refine Blocks.cut d3 ?_ fun hd3 => ?_
  · subst d3
    refine Device.setModu_blocks ?_
    exact Blocks.refl
  clear_value d3
  extract_lets +onlyGivenNames d4
  extract_lets +onlyGivenNames d5
  refine Blocks.cut d5 ?_ fun hd5 => ?_
  · subst d5
    refine Blocks.ite ?_ ?_
    · refine Blocks.step (Blocks.of_only (Device.setArm_only ..) rfl) ?_
      assumption
    · assumption
  clear_value d5
  extract_lets +onlyGivenNames d6
  extract_lets +onlyGivenNames d7
  extract_lets +onlyGivenNames d8
  extract_lets +onlyGivenNames d9
  extract_lets +onlyGivenNames d10
  extract_lets +onlyGivenNames d11
  refine Blocks.cut d11 ?_ fun hd11 => ?_
  · subst d11
    refine Blocks.step (Blocks.of_only (Device.setArm_only ..) rfl) ?_
    assumption
  clear_value d11
  extract_lets +onlyGivenNames d12
  refine Blocks.cut d12 ?_ fun hd12 => ?_
  · subst d12
    refine Blocks.ite ?_ ?_
    · refine Blocks.step (Blocks.of_only (Device.setArm_only ..) rfl) ?_
      assumption
    · refine Blocks.ite ?_ ?_
      · refine Blocks.step (Blocks.of_only (Device.testSchedule_only ..) rfl) ?_
        assumption
      · refine Blocks.ite ?_ ?_
        · refine Blocks.step (Blocks.of_only (Device.centreSchedule_only ..) rfl) ?_
          assumption
        · refine Blocks.ite ?_ ?_
          · refine Blocks.step (Device.edgeSchedule_blocks ..) ?_
            assumption
          · refine Blocks.step (Blocks.of_only (Device.quietSchedule_only ..) rfl) ?_
            assumption
  clear_value d12
  extract_lets +onlyGivenNames d13
  refine Blocks.cut d13 ?_ fun hd13 => ?_
  · subst d13
    refine Blocks.ite ?_ ?_
    · assumption
    · refine Blocks.foldl (fun x14 b15 hx14 => ?_) ?_
      · refine Blocks.ite ?_ ?_
        · refine Blocks.step (Blocks.of_only (Device.commit_only ..) rfl) ?_
          assumption
        · assumption
      · assumption
  clear_value d13
  refine Blocks.step (Blocks.of_only (Device.setArm_only ..) rfl) ?_
  refine Blocks.step (Blocks.of_only (Device.gateLoop_only ..) rfl) ?_
  assumption
theorem Device.scheduleArm_blocks (d : Device) (arm : Nat) : Blocks d (Device.scheduleArm d arm) := by
  unfold Device.scheduleArm
  extract_lets +onlyGivenNames live1
  extract_lets +onlyGivenNames d2
  refine Blocks.cut d2 ?_ fun hd2 => ?_
  · subst d2
    refine Blocks.ite ?_ ?_
    · refine Blocks.step (Blocks.of_only (Device.withRows_only ..) rfl) ?_
      refine Blocks.step (Device.scheduleCore_blocks ..) ?_
      refine Blocks.step (Blocks.of_only (Device.withRows_only ..) rfl) ?_
      exact Blocks.refl
    · refine Blocks.step (Device.scheduleCore_blocks ..) ?_
      exact Blocks.refl
  clear_value d2
  refine Blocks.step (Blocks.of_only (Device.stamp_only ..) rfl) ?_
  refine Blocks.step (Blocks.of_only (Device.pmcPulse_only ..) rfl) ?_
  assumption
theorem Device.overrun_blocks (d : Device) (arm : Nat) (kind : Nat) : Blocks d (Device.overrun d arm kind) := by
  unfold Device.overrun
  extract_lets +onlyGivenNames o1
  extract_lets +onlyGivenNames run2
  extract_lets +onlyGivenNames d3
  extract_lets +onlyGivenNames d4
  refine Blocks.cut d4 ?_ fun hd4 => ?_
  · subst d4
    refine Blocks.set_cycle ?_
    exact Blocks.refl
  clear_value d4
  extract_lets +onlyGivenNames d5
  refine Blocks.cut d5 ?_ fun hd5 => ?_
  · subst d5
    refine Blocks.step (Blocks.of_only (Device.raise_only ..) rfl) ?_
    assumption
  clear_value d5
  refine Blocks.ite ?_ ?_
  · refine Blocks.ite ?_ ?_
    · refine Blocks.step (Device.errReport_blocks ..) ?_
      assumption
    · refine Blocks.step (Device.errReport_blocks ..) ?_
      assumption
  · assumption
theorem Device.reuseSchedule_blocks (d : Device) (arm : Nat) : Blocks d (Device.reuseSchedule d arm) := by
  unfold Device.reuseSchedule
  extract_lets +onlyGivenNames cells1
  extract_lets +onlyGivenNames d2
  refine Blocks.cut d2 ?_ fun hd2 => ?_
  · subst d2
    refine Blocks.foldl (fun x3 b4 hx3 => ?_) ?_
    · refine Blocks.step (Blocks.of_only (Device.setCell_only ..) rfl) ?_
      assumption
    · exact Blocks.refl
  clear_value d2
  extract_lets +onlyGivenNames d5
  refine Blocks.cut d5 ?_ fun hd5 => ?_
  · subst d5
    refine Device.setModu_blocks ?_
    assumption
  clear_value d5
  refine Blocks.step (Blocks.of_only (Device.setArm_only ..) rfl) ?_
  refine Blocks.step (Device.overrun_blocks ..) ?_
  assumption
theorem execBypassCloseTimeout_blocks (t : Tick) (cell : Fin 384) (s s' : State) (h : execBypassCloseTimeout t cell s = .next s') : Blocks s.dev s'.dev := by
  refine State.on_blocks h fun d => ?_
  extract_lets +onlyGivenNames m1
  refine Blocks.ite ?_ ?_
  · exact Blocks.refl
  · extract_lets +onlyGivenNames d2
    refine Blocks.cut d2 ?_ fun hd2 => ?_
    · subst d2
      refine Blocks.step (Blocks.of_only (Device.raise_only ..) rfl) ?_
      refine Blocks.step (Blocks.of_only (Device.setCell_only ..) rfl) ?_
      exact Blocks.refl
    clear_value d2
    refine Blocks.step (Device.bypassInput_blocks ..) ?_
    refine Device.setProt_blocks (fun _ h => h) ?_
    assumption
theorem execArmRecordArrival_blocks (t : Tick) (arm : Fin 3) (differs : Bool) (s s' : State) (h : execArmRecordArrival t arm differs s = .next s') : Blocks s.dev s'.dev := by
  refine State.on_blocks h fun d => ?_
  refine Blocks.ite ?_ ?_
  · exact Blocks.refl
  · extract_lets +onlyGivenNames r1
    extract_lets +onlyGivenNames d2
    refine Blocks.cut d2 ?_ fun hd2 => ?_
    · subst d2
      refine Blocks.step (Blocks.of_only (Device.sendRecord_only ..) rfl) ?_
      refine Blocks.step (Blocks.of_only (Device.stamp_only ..) rfl) ?_
      refine Blocks.step (Blocks.of_only (Device.setArm_only ..) rfl) ?_
      exact Blocks.refl
    clear_value d2
    extract_lets +onlyGivenNames first3
    extract_lets +onlyGivenNames d4
    refine Blocks.cut d4 ?_ fun hd4 => ?_
    · subst d4
      refine Blocks.ite ?_ ?_
      · refine Device.setModu_blocks ?_
        assumption
      · assumption
    clear_value d4
    extract_lets +onlyGivenNames d5
    refine Blocks.cut d5 ?_ fun hd5 => ?_
    · subst d5
      refine Blocks.ite ?_ ?_
      · refine Blocks.step (Blocks.of_only (Device.circLoop_only ..) rfl) ?_
        assumption
      · assumption
    clear_value d5
    refine Blocks.ite ?_ ?_
    · refine Blocks.step (Device.errReport_blocks ..) ?_
      assumption
    · refine Blocks.step (Blocks.of_only (Device.sendCheck_only ..) rfl) ?_
      refine Blocks.step (Device.scheduleArm_blocks ..) ?_
      assumption
theorem execReferenceOverrun_blocks (t : Tick) (arm : Fin 3) (s s' : State) (h : execReferenceOverrun t arm s = .next s') : Blocks s.dev s'.dev := by
  refine State.on_blocks h fun d => ?_
  refine Blocks.ite ?_ ?_
  · exact Blocks.refl
  · extract_lets +onlyGivenNames T1
    extract_lets +onlyGivenNames ext2
    extract_lets +onlyGivenNames d3
    refine Blocks.cut d3 ?_ fun hd3 => ?_
    · subst d3
      refine Blocks.step (Blocks.of_only (Device.setArm_only ..) rfl) ?_
      exact Blocks.refl
    clear_value d3
    extract_lets +onlyGivenNames r4
    extract_lets +onlyGivenNames d5
    refine Blocks.cut d5 ?_ fun hd5 => ?_
    · subst d5
      refine Blocks.ite ?_ ?_
      · refine Device.setModu_blocks ?_
        refine Blocks.step (Blocks.of_only (Device.circLoop_only ..) rfl) ?_
        assumption
      · assumption
    clear_value d5
    extract_lets +onlyGivenNames d6
    refine Blocks.cut d6 ?_ fun hd6 => ?_
    · subst d6
      refine Device.setModu_blocks ?_
      assumption
    clear_value d6
    refine Blocks.step (Blocks.of_only (Device.sendCheck_only ..) rfl) ?_
    refine Blocks.step (Device.scheduleArm_blocks ..) ?_
    refine Blocks.step (Device.overrun_blocks ..) ?_
    assumption
theorem execScheduleOverrun_blocks (t : Tick) (arm : Fin 3) (s s' : State) (h : execScheduleOverrun t arm s = .next s') : Blocks s.dev s'.dev := by
  refine State.on_blocks h fun d => ?_
  refine Blocks.ite ?_ ?_
  · exact Blocks.refl
  · refine Blocks.step (Device.reuseSchedule_blocks ..) ?_
    exact Blocks.refl
theorem execRecorderFrameWrite_blocks (t : Tick) (bad : Bool) (s s' : State) (h : execRecorderFrameWrite t bad s = .next s') : Blocks s.dev s'.dev := by
  refine State.on_blocks h fun d => ?_
  split
  · refine Blocks.ite ?_ ?_
    · exact Blocks.refl
    · refine Blocks.ite ?_ ?_
      · refine Blocks.step (Device.errReport_blocks ..) ?_
        exact Blocks.refl
      · refine Blocks.step (Blocks.of_only (Device.recWrite_only ..) rfl) ?_
        exact Blocks.refl
  · exact Blocks.refl
theorem execSoffitMemoryTestDone_blocks (t : Tick) (pass : Bool) (s s' : State) (h : execSoffitMemoryTestDone t pass s = .next s') : Blocks s.dev s'.dev := by
  refine State.on_blocks h fun d => ?_
  refine Blocks.ite ?_ ?_
  · exact Blocks.refl
  · refine Blocks.ite ?_ ?_
    · refine Blocks.step (Device.errReport_blocks ..) ?_
      refine Blocks.step (Blocks.of_only (Device.raise_only ..) rfl) ?_
      exact Blocks.refl
    · extract_lets +onlyGivenNames d1
      refine Blocks.cut d1 ?_ fun hd1 => ?_
      · subst d1
        refine Device.setRec_blocks ?_
        refine Device.setConv_blocks ?_
        exact Blocks.refl
      clear_value d1
      refine Blocks.ite ?_ ?_
      · refine Blocks.step (Blocks.of_only (Device.recArmAfresh_only ..) rfl) ?_
        assumption
      · refine Blocks.step (Blocks.of_only (Device.recState_only ..) rfl) ?_
        assumption
theorem execBar2Readout_blocks (t : Tick) (write : Bool) (offset : BitVec 30) (len : Nat) (ce : Nat) (ue : Nat) (s s' : State) (h : execBar2Readout t write offset len ce ue s = .next s') : Blocks s.dev s'.dev := by
  refine State.on_blocks h fun d => ?_
  refine Blocks.ite ?_ ?_
  · refine Blocks.step (Blocks.of_only (Device.hostErr_only ..) rfl) ?_
    exact Blocks.refl
  · extract_lets +onlyGivenNames bytes1
    extract_lets +onlyGivenNames d2
    refine Blocks.cut d2 ?_ fun hd2 => ?_
    · subst d2
      refine Device.setHost_blocks ?_
      exact Blocks.refl
    clear_value d2
    extract_lets +onlyGivenNames d3
    refine Blocks.cut d3 ?_ fun hd3 => ?_
    · subst d3
      refine Blocks.step (Blocks.of_only (Device.pmcPulse_only ..) rfl) ?_
      assumption
    clear_value d3
    extract_lets +onlyGivenNames d4
    refine Blocks.cut d4 ?_ fun hd4 => ?_
    · subst d4
      refine Device.setRec_blocks ?_
      assumption
    clear_value d4
    extract_lets +onlyGivenNames d5
    refine Blocks.cut d5 ?_ fun hd5 => ?_
    · subst d5
      refine Blocks.foldl (fun x6 b7 hx6 => ?_) ?_
      · refine Blocks.step (Device.errReport_blocks ..) ?_
        assumption
      · assumption
    clear_value d5
    refine Blocks.foldl (fun x8 b9 hx8 => ?_) ?_
    · refine Blocks.step (Device.errReport_blocks ..) ?_
      assumption
    · assumption
theorem Device.newForce_blocks (d : Device) (old : PSet) : Blocks d (Device.newForce d old) := by
  unfold Device.newForce
  extract_lets +onlyGivenNames new1
  refine Blocks.ite ?_ ?_
  · exact Blocks.refl
  · extract_lets +onlyGivenNames d2
    refine Blocks.cut d2 ?_ fun hd2 => ?_
    · subst d2
      refine Blocks.step (Blocks.of_only (Device.trigRestart_only ..) rfl) ?_
      exact Blocks.refl
    clear_value d2
    extract_lets +onlyGivenNames shape3
    extract_lets +onlyGivenNames d4
    refine Blocks.cut d4 ?_ fun hd4 => ?_
    · subst d4
      refine Blocks.foldl (fun x5 b6 hx5 => ?_) ?_
      · refine Blocks.ite ?_ ?_
        · refine Blocks.step (Blocks.of_only (Device.setStrm_only ..) rfl) ?_
          assumption
        · assumption
      · assumption
    clear_value d4
    extract_lets +onlyGivenNames d7
    refine Blocks.cut d7 ?_ fun hd7 => ?_
    · subst d7
      refine Blocks.foldl (fun x8 b9 hx8 => ?_) ?_
      · refine Blocks.ite ?_ ?_
        · assumption
        · refine Blocks.foldl (fun x10 b11 hx10 => ?_) ?_
          · refine Blocks.step (Device.evalCmp_blocks ..) ?_
            assumption
          · refine Blocks.step (Blocks.of_only (Device.setGrp_only ..) rfl) ?_
            assumption
      · assumption
    clear_value d7
    extract_lets +onlyGivenNames thr12
    refine Blocks.foldl (fun x13 b14 hx13 => ?_) ?_
    · refine Blocks.ite ?_ ?_
      · assumption
      · refine Blocks.step (Blocks.of_only (Device.setCmp_only ..) rfl) ?_
        assumption
    · assumption
theorem Device.applyState_blocks (d : Device) : Blocks d (Device.applyState d) := by
  unfold Device.applyState
  extract_lets +onlyGivenNames tc1
  extract_lets +onlyGivenNames old2
  extract_lets +onlyGivenNames d3
  refine Blocks.cut d3 ?_ fun hd3 => ?_
  · subst d3
    refine Blocks.step (Device.newForce_blocks ..) ?_
    refine Blocks.step (Blocks.of_only (Device.applyWaiting_only ..) rfl) ?_
    exact Blocks.refl
  clear_value d3
  extract_lets +onlyGivenNames d4
  refine Blocks.cut d4 ?_ fun hd4 => ?_
  · subst d4
    refine Blocks.ite ?_ ?_
    · refine Blocks.step (Blocks.of_only (Device.portsDown_only ..) rfl) ?_
      assumption
    · assumption
  clear_value d4
  refine Blocks.ite ?_ ?_
  · refine Blocks.step (Blocks.of_only (Device.recStop_only ..) rfl) ?_
    assumption
  · assumption
theorem Device.transition_blocks (d : Device) (new : Nat) (no : Nat) : Blocks d (Device.transition d new no) := by
  unfold Device.transition
  extract_lets +onlyGivenNames old1
  extract_lets +onlyGivenNames d2
  refine Blocks.cut d2 ?_ fun hd2 => ?_
  · subst d2
    refine Blocks.step (Device.applyState_blocks ..) ?_
    exact Blocks.refl
  clear_value d2
  extract_lets +onlyGivenNames d3
  refine Blocks.cut d3 ?_ fun hd3 => ?_
  · subst d3
    refine Device.setConv_blocks ?_
    refine Blocks.step (Blocks.of_only (Device.seqOnState_only ..) rfl) ?_
    assumption
  clear_value d3
  extract_lets +onlyGivenNames d4
  refine Blocks.cut d4 ?_ fun hd4 => ?_
  · subst d4
    refine Blocks.step (Blocks.of_only (Device.lawOnState_only ..) rfl) ?_
    assumption
  clear_value d4
  extract_lets +onlyGivenNames d5
  refine Blocks.cut d5 ?_ fun hd5 => ?_
  · subst d5
    refine Blocks.ite ?_ ?_
    · refine Blocks.step (Blocks.of_only (Device.recEvent_only ..) rfl) ?_
      assumption
    · assumption
  clear_value d5
  refine Blocks.step (Blocks.of_only (Device.raise_only ..) rfl) ?_
  refine Blocks.step (Blocks.of_only (Device.marginOnState_only ..) rfl) ?_
  assumption
theorem Device.actRequest_blocks (d : Device) (h : CmdHdr) (target : Nat) : Blocks d (Device.actRequest d h target) := by
  unfold Device.actRequest
  split
  · refine Blocks.step (Blocks.of_only (Device.complete_only ..) rfl) ?_
    exact Blocks.refl
  · exact Blocks.refl
  · split
    · refine Blocks.step (Blocks.of_only (Device.complete_only ..) rfl) ?_
      refine Device.setConv_blocks ?_
      exact Blocks.refl
    · refine Blocks.step (Blocks.of_only (Device.complete_only ..) rfl) ?_
      refine Blocks.step (Blocks.of_only (Device.startEnum_only ..) rfl) ?_
      exact Blocks.refl
    · refine Blocks.step (Blocks.of_only (Device.complete_only ..) rfl) ?_
      refine Blocks.step (Blocks.of_only (Device.startCharge_only ..) rfl) ?_
      exact Blocks.refl
    · refine Blocks.ite ?_ ?_
      · refine Device.setConv_blocks ?_
        exact Blocks.refl
      · refine Blocks.step (Blocks.of_only (Device.complete_only ..) rfl) ?_
        refine Blocks.step (Device.transition_blocks ..) ?_
        exact Blocks.refl
theorem Device.boundarySquall_blocks (d : Device) : Blocks d (Device.boundarySquall d).1 := by
  unfold Device.boundarySquall
  extract_lets +onlyGivenNames sq1
  extract_lets +onlyGivenNames d2
  refine Blocks.cut d2 ?_ fun hd2 => ?_
  · subst d2
    refine Device.setConv_blocks ?_
    exact Blocks.refl
  clear_value d2
  split
  · refine Blocks.fst_mk ?_
    assumption
  · extract_lets +onlyGivenNames s3
    split
    · refine Blocks.fst_mk ?_
      refine Blocks.step (Device.transition_blocks ..) ?_
      assumption
    · refine Blocks.fst_mk ?_
      refine Blocks.step (Blocks.of_only (Device.chargeFail_only ..) rfl) ?_
      assumption
theorem Device.boundarySeq_blocks (d : Device) : Blocks d (Device.boundarySeq d).1 := by
  unfold Device.boundarySeq
  split
  · refine Blocks.fst_mk ?_
    exact Blocks.refl
  · split
    · refine Blocks.fst_mk ?_
      exact Blocks.refl
    · extract_lets +onlyGivenNames d1
      refine Blocks.cut d1 ?_ fun hd1 => ?_
      · subst d1
        refine Device.setConv_blocks ?_
        exact Blocks.refl
      clear_value d1
      split
      · refine Blocks.fst_mk ?_
        assumption
      · split
        · refine Blocks.fst_mk ?_
          assumption
        · refine Blocks.fst_mk ?_
          refine Blocks.step (Device.transition_blocks ..) ?_
          assumption
theorem Device.boundaryHost_blocks (d : Device) (moved : Bool) : Blocks d (Device.boundaryHost d moved) := by
  unfold Device.boundaryHost
  extract_lets +onlyGivenNames reqs1
  extract_lets +onlyGivenNames d2
  refine Blocks.cut d2 ?_ fun hd2 => ?_
  · subst d2
    refine Device.setConv_blocks ?_
    exact Blocks.refl
  clear_value d2
  refine Blocks.foldl_fst (fun x3 b4 hx3 => ?_) ?_
  · split
    split
    · refine Blocks.fst_mk ?_
      refine Blocks.step (Blocks.of_only (Device.complete_only ..) rfl) ?_
      assumption
    · extract_lets +onlyGivenNames n5
      extract_lets +onlyGivenNames d6
      refine Blocks.cut d6 ?_ fun hd6 => ?_
      · subst d6
        refine Blocks.step (Device.actRequest_blocks ..) ?_
        assumption
      clear_value d6
      refine Blocks.fst_mk ?_
      assumption
  · refine Blocks.fst_mk ?_
    assumption
theorem Device.boundary_blocks (d : Device) : Blocks d (Device.boundary d) := by
  unfold Device.boundary
  extract_lets +onlyGivenNames d1
  refine Blocks.cut d1 ?_ fun hd1 => ?_
  · subst d1
    refine Blocks.ite ?_ ?_
    · refine Blocks.step (Blocks.of_only (Device.chargeFail_only ..) rfl) ?_
      exact Blocks.refl
    · exact Blocks.refl
  clear_value d1
  split
  rename_i q2
  refine Blocks.cut _ (Blocks.of_fst q2 ?_) fun hx3 => ?_
  · refine Blocks.step (Device.boundarySquall_blocks ..) ?_
    assumption
  extract_lets +onlyGivenNames was4
  extract_lets +onlyGivenNames d5
  refine Blocks.cut d5 ?_ fun hd5 => ?_
  · subst d5
    refine Blocks.step (Blocks.of_only (Device.levelUpdate_only ..) rfl) ?_
    assumption
  clear_value d5
  extract_lets +onlyGivenNames entered6
  extract_lets +onlyGivenNames moved7
  extract_lets +onlyGivenNames mb8
  extract_lets +onlyGivenNames done99
  extract_lets +onlyGivenNames d10
  refine Blocks.cut d10 ?_ fun hd10 => ?_
  · subst d10
    refine Device.setConv_blocks ?_
    assumption
  clear_value d10
  split
  rename_i q11
  refine Blocks.cut _ (Blocks.of_fst q11 ?_) fun hx12 => ?_
  · split
    · refine Blocks.fst_mk ?_
      assumption
    · refine Blocks.step (Device.boundarySeq_blocks ..) ?_
      assumption
  extract_lets +onlyGivenNames d13
  refine Blocks.cut d13 ?_ fun hd13 => ?_
  · subst d13
    refine Blocks.step (Device.boundaryHost_blocks ..) ?_
    assumption
  clear_value d13
  extract_lets +onlyGivenNames lost14
  refine Blocks.ite ?_ ?_
  · refine Device.setConv_blocks ?_
    assumption
  · assumption
theorem Device.refreshTin_blocks (d : Device) (i : Nat) : Blocks d (Device.refreshTin d i) := by
  unfold Device.refreshTin
  refine Blocks.step (Device.setInput_blocks ..) ?_
  exact Blocks.refl
theorem Device.tinLevel_blocks (d : Device) (i : Nat) (level : Bool) : Blocks d (Device.tinLevel d i level) := by
  unfold Device.tinLevel
  refine Blocks.ite ?_ ?_
  · exact Blocks.refl
  · extract_lets +onlyGivenNames n1
    extract_lets +onlyGivenNames trans2
    extract_lets +onlyGivenNames d3
    refine Blocks.cut d3 ?_ fun hd3 => ?_
    · subst d3
      refine Device.setProt_blocks (fun _ h => h) ?_
      exact Blocks.refl
    clear_value d3
    extract_lets +onlyGivenNames d4
    refine Blocks.cut d4 ?_ fun hd4 => ?_
    · subst d4
      refine Blocks.ite ?_ ?_
      · refine Blocks.step (Blocks.of_only (Device.raise_only ..) rfl) ?_
        refine Device.setProt_blocks (fun _ h => h) ?_
        assumption
      · assumption
    clear_value d4
    refine Blocks.step (Device.refreshTin_blocks ..) ?_
    assumption
theorem Device.buildWindows_blocks (d : Device) : Blocks d (Device.buildWindows d) := by
  unfold Device.buildWindows
  extract_lets +onlyGivenNames times1
  extract_lets +onlyGivenNames len2
  extract_lets +onlyGivenNames longest3
  extract_lets +onlyGivenNames build4
  refine Device.setProt_blocks (fun _ h => h) ?_
  exact Blocks.refl
theorem Device.clearRequest_blocks (d : Device) (i : Nat) (auto : Bool) : Blocks d (Device.clearRequest d i auto) := by
  unfold Device.clearRequest
  extract_lets +onlyGivenNames x1
  refine Blocks.ite ?_ ?_
  · exact Blocks.refl
  · refine Blocks.ite ?_ ?_
    · refine Blocks.step (Device.rejectClear_blocks ..) ?_
      exact Blocks.refl
    · refine Blocks.step (Device.setSrc_blocks ..) ?_
      exact Blocks.refl
theorem Device.rejectAtEdge_blocks (d : Device) (i : Nat) : Blocks d (Device.rejectAtEdge d i) := by
  unfold Device.rejectAtEdge
  extract_lets +onlyGivenNames d1
  refine Blocks.cut d1 ?_ fun hd1 => ?_
  · subst d1
    refine Blocks.step (Device.rejectClear_blocks ..) ?_
    exact Blocks.refl
  clear_value d1
  extract_lets +onlyGivenNames d2
  refine Blocks.cut d2 ?_ fun hd2 => ?_
  · subst d2
    refine Blocks.step (Device.recordTrip_blocks ..) ?_
    assumption
  clear_value d2
  refine Blocks.step (Device.squallTrigger_blocks ..) ?_
  refine Blocks.step (Device.setSrc_blocks ..) ?_
  assumption
theorem Device.decideLatches_blocks (d : Device) : Blocks d (Device.decideLatches d) := by
  unfold Device.decideLatches
  extract_lets +onlyGivenNames pend1
  extract_lets +onlyGivenNames go2
  extract_lets +onlyGivenNames bad3
  extract_lets +onlyGivenNames auto4
  extract_lets +onlyGivenNames host5
  extract_lets +onlyGivenNames d6
  refine Blocks.cut d6 ?_ fun hd6 => ?_
  · subst d6
    refine Blocks.foldl (fun x7 b8 hx7 => ?_) ?_
    · refine Blocks.step (Blocks.of_only (Device.raise_only ..) rfl) ?_
      refine Blocks.step (Device.setSrc_blocks ..) ?_
      assumption
    · exact Blocks.refl
  clear_value d6
  extract_lets +onlyGivenNames d9
  refine Blocks.cut d9 ?_ fun hd9 => ?_
  · subst d9
    refine Device.setProt_blocks (fun _ h => h) ?_
    assumption
  clear_value d9
  refine Blocks.foldl (fun x10 b11 hx10 => ?_) ?_
  · refine Blocks.step (Device.rejectAtEdge_blocks ..) ?_
    assumption
  · assumption
theorem execTripInputChange_blocks (t : Tick) (i : Fin 16) (level : Bool) (held : Nat) (s s' : State) (h : execTripInputChange t i level held s = .next s') : Blocks s.dev s'.dev := by
  refine State.on_blocks h fun d => ?_
  refine Blocks.ite ?_ ?_
  · exact Blocks.refl
  · refine Blocks.step (Device.tinLevel_blocks ..) ?_
    exact Blocks.refl
theorem execBlankingWindowEnd_blocks (t : Tick) (j : Fin 12) (s s' : State) (h : execBlankingWindowEnd t j s = .next s') : Blocks s.dev s'.dev := by
  refine State.on_blocks h fun d => ?_
  extract_lets +onlyGivenNames b1
  refine Blocks.ite ?_ ?_
  · exact Blocks.refl
  · extract_lets +onlyGivenNames out2
    extract_lets +onlyGivenNames d3
    refine Blocks.cut d3 ?_ fun hd3 => ?_
    · subst d3
      refine Blocks.ite ?_ ?_
      · refine Blocks.step (Device.countWindow_blocks ..) ?_
        exact Blocks.refl
      · exact Blocks.refl
    clear_value d3
    extract_lets +onlyGivenNames d4
    refine Blocks.cut d4 ?_ fun hd4 => ?_
    · subst d4
      refine Device.setProt_blocks (fun _ h => h) ?_
      assumption
    clear_value d4
    refine Blocks.ite ?_ ?_
    · refine Blocks.step (Device.inputActive_blocks ..) ?_
      refine Blocks.step (Device.inputInactive_blocks ..) ?_
      assumption
    · assumption
theorem execIncomingSquall_blocks (t : Tick) (ring : Fin 12) (s s' : State) (h : execIncomingSquall t ring s = .next s') : Blocks s.dev s'.dev := by
  refine State.on_blocks h fun d => ?_
  refine Blocks.ite ?_ ?_
  · exact Blocks.refl
  · extract_lets +onlyGivenNames d1
    refine Blocks.cut d1 ?_ fun hd1 => ?_
    · subst d1
      refine Blocks.step (Blocks.of_only (Device.hwSet_only ..) rfl) ?_
      refine Device.setLink_blocks ?_
      exact Blocks.refl
    clear_value d1
    extract_lets +onlyGivenNames d2
    refine Blocks.cut d2 ?_ fun hd2 => ?_
    · subst d2
      refine Blocks.step (Blocks.of_only (Device.pmcPulse_only ..) rfl) ?_
      assumption
    clear_value d2
    extract_lets +onlyGivenNames echo3
    extract_lets +onlyGivenNames x4
    extract_lets +onlyGivenNames d5
    refine Blocks.cut d5 ?_ fun hd5 => ?_
    · subst d5
      refine Blocks.ite ?_ ?_
      · refine Device.setProt_blocks (fun _ h => h) ?_
        assumption
      · assumption
    clear_value d5
    extract_lets +onlyGivenNames d6
    refine Blocks.cut d6 ?_ fun hd6 => ?_
    · subst d6
      refine Blocks.ite ?_ ?_
      · refine Device.setProt_blocks (fun _ h => h) ?_
        assumption
      · assumption
    clear_value d6
    refine Blocks.ite ?_ ?_
    · assumption
    · extract_lets +onlyGivenNames d7
      refine Blocks.cut d7 ?_ fun hd7 => ?_
      · subst d7
        refine Blocks.step (Device.inputActive_blocks ..) ?_
        assumption
      clear_value d7
      refine Blocks.ite ?_ ?_
      · refine Blocks.step (Device.squallTrigger_blocks ..) ?_
        assumption
      · assumption
theorem execSquallHoldEnd_blocks (t : Tick) (s s' : State) (h : execSquallHoldEnd t s = .next s') : Blocks s.dev s'.dev := by
  refine State.on_blocks h fun d => ?_
  refine Blocks.ite ?_ ?_
  · refine Blocks.step (Device.inputInactive_blocks ..) ?_
    refine Device.setProt_blocks (fun _ h => h) ?_
    exact Blocks.refl
  · exact Blocks.refl
theorem execBurstEnd_blocks (t : Tick) (s s' : State) (h : execBurstEnd t s = .next s') : Blocks s.dev s'.dev := by
  refine State.on_blocks h fun d => ?_
  refine Blocks.ite ?_ ?_
  · refine Device.setProt_blocks (fun _ h => h) ?_
    exact Blocks.refl
  · exact Blocks.refl
theorem execEchoWindowEnd_blocks (t : Tick) (s s' : State) (h : execEchoWindowEnd t s = .next s') : Blocks s.dev s'.dev := by
  refine State.on_blocks h fun d => ?_
  refine Blocks.ite ?_ ?_
  · refine Device.setProt_blocks (fun _ h => h) ?_
    exact Blocks.refl
  · exact Blocks.refl
theorem execMultiWinElapsed_blocks (t : Tick) (s s' : State) (h : execMultiWinElapsed t s = .next s') : Blocks s.dev s'.dev := by
  refine State.on_blocks h fun d => ?_
  extract_lets +onlyGivenNames r1
  refine Blocks.ite ?_ ?_
  · exact Blocks.refl
  · extract_lets +onlyGivenNames d2
    refine Blocks.cut d2 ?_ fun hd2 => ?_
    · subst d2
      refine Device.setProt_blocks (fun _ h => h) ?_
      exact Blocks.refl
    clear_value d2
    extract_lets +onlyGivenNames d3
    refine Blocks.cut d3 ?_ fun hd3 => ?_
    · subst d3
      refine Blocks.ite ?_ ?_
      · refine Blocks.step (Blocks.of_only (Device.raise_only ..) rfl) ?_
        refine Device.setProt_blocks (fun _ h => h) ?_
        assumption
      · assumption
    clear_value d3
    extract_lets +onlyGivenNames flags4
    refine Blocks.step (Blocks.of_only (Device.raise_only ..) rfl) ?_
    assumption
theorem execAutoClearRequest_blocks (t : Tick) (i : Fin 48) (s s' : State) (h : execAutoClearRequest t i s = .next s') : Blocks s.dev s'.dev := by
  refine State.on_blocks h fun d => ?_
  extract_lets +onlyGivenNames x1
  refine Blocks.ite ?_ ?_
  · exact Blocks.refl
  · refine Blocks.ite ?_ ?_
    · exact Blocks.refl
    · refine Blocks.step (Device.clearRequest_blocks ..) ?_
      exact Blocks.refl
theorem execTripRemind_blocks (t : Tick) (i : Fin 48) (s s' : State) (h : execTripRemind t i s = .next s') : Blocks s.dev s'.dev := by
  refine State.on_blocks h fun d => ?_
  extract_lets +onlyGivenNames x1
  extract_lets +onlyGivenNames n2
  refine Blocks.ite ?_ ?_
  · exact Blocks.refl
  · refine Blocks.step (Blocks.of_only (Device.reminder_only ..) rfl) ?_
    refine Blocks.step (Device.setSrc_blocks ..) ?_
    exact Blocks.refl
theorem execCentreModeRecoveryEnd_blocks (t : Tick) (s s' : State) (h : execCentreModeRecoveryEnd t s = .next s') : Blocks s.dev s'.dev := by
  refine State.on_blocks h fun d => ?_
  split
  · exact Blocks.refl
  · refine Blocks.ite ?_ ?_
    · exact Blocks.refl
    · refine Device.setConv_blocks ?_
      refine Device.setProt_blocks (fun _ h => h) ?_
      exact Blocks.refl
theorem execEarthCurrentTrip_blocks (t : Tick) (s s' : State) (h : execEarthCurrentTrip t s = .next s') : Blocks s.dev s'.dev := by
  refine State.on_blocks h fun d => ?_
  refine Blocks.ite ?_ ?_
  · refine Blocks.step (Device.inputActive_blocks ..) ?_
    exact Blocks.refl
  · exact Blocks.refl
theorem execStarPointTrip_blocks (t : Tick) (s s' : State) (h : execStarPointTrip t s = .next s') : Blocks s.dev s'.dev := by
  refine State.on_blocks h fun d => ?_
  refine Blocks.ite ?_ ?_
  · refine Blocks.step (Device.inputActive_blocks ..) ?_
    exact Blocks.refl
  · exact Blocks.refl
theorem execMeterBankWriteDone_blocks (t : Tick) (ok : Bool) (s s' : State) (h : execMeterBankWriteDone t ok s = .next s') : Blocks s.dev s'.dev := by
  refine State.on_blocks h fun d => ?_
  split
  · exact Blocks.refl
  · extract_lets +onlyGivenNames i1
    extract_lets +onlyGivenNames d2
    refine Blocks.cut d2 ?_ fun hd2 => ?_
    · subst d2
      refine Device.setMeter_blocks ?_
      exact Blocks.refl
    clear_value d2
    refine Blocks.ite ?_ ?_
    · refine Device.setMeter_blocks ?_
      assumption
    · extract_lets +onlyGivenNames d3
      refine Blocks.cut d3 ?_ fun hd3 => ?_
      · subst d3
        refine Device.setMeter_blocks ?_
        assumption
      clear_value d3
      extract_lets +onlyGivenNames d4
      refine Blocks.cut d4 ?_ fun hd4 => ?_
      · subst d4
        refine Blocks.step (Blocks.of_only (Device.raise_only ..) rfl) ?_
        assumption
      clear_value d4
      refine Blocks.ite ?_ ?_
      · refine Blocks.step (Device.errReport_blocks ..) ?_
        assumption
      · assumption
theorem Device.desatOnset_blocks (d : Device) (c : Nat) (seq : BitVec 16) : Blocks d (Device.desatOnset d c seq) := by
  unfold Device.desatOnset
  extract_lets +onlyGivenNames p1
  extract_lets +onlyGivenNames base2
  extract_lets +onlyGivenNames l3
  extract_lets +onlyGivenNames d4
  refine Blocks.cut d4 ?_ fun hd4 => ?_
  · subst d4
    refine Device.setProt_blocks (fun _ h => h) ?_
    exact Blocks.refl
  clear_value d4
  extract_lets +onlyGivenNames arms5
  refine Blocks.ite ?_ ?_
  · refine Blocks.step (Device.desatTrip_blocks ..) ?_
    assumption
  · refine Blocks.ite ?_ ?_
    · refine Blocks.step (Device.desatTrip_blocks ..) ?_
      assumption
    · assumption
theorem Device.useStatus_blocks (d : Device) (c : Nat) (seq : BitVec 16) (slot : Slot) (isP : Bool) (late : Bool) : Blocks d (Device.useStatus d c seq slot isP late) := by
  unfold Device.useStatus
  extract_lets +onlyGivenNames nv1
  extract_lets +onlyGivenNames again2
  extract_lets +onlyGivenNames x3
  extract_lets +onlyGivenNames bits34
  extract_lets +onlyGivenNames onset5
  extract_lets +onlyGivenNames d6
  refine Blocks.cut d6 ?_ fun hd6 => ?_
  · subst d6
    refine Blocks.step (Blocks.of_only (Device.setNode_only ..) rfl) ?_
    exact Blocks.refl
  clear_value d6
  extract_lets +onlyGivenNames d7
  refine Blocks.cut d7 ?_ fun hd7 => ?_
  · subst d7
    refine Blocks.step (Blocks.of_only (Device.onFrameOf_only ..) rfl) ?_
    assumption
  clear_value d7
  extract_lets +onlyGivenNames st8
  extract_lets +onlyGivenNames low9
  extract_lets +onlyGivenNames d10
  refine Blocks.cut d10 ?_ fun hd10 => ?_
  · subst d10
    refine Blocks.step (Blocks.of_only (Device.setCell_only ..) rfl) ?_
    assumption
  clear_value d10
  extract_lets +onlyGivenNames d11
  refine Blocks.cut d11 ?_ fun hd11 => ?_
  · subst d11
    refine Blocks.ite ?_ ?_
    · refine Blocks.step (Blocks.of_only (Device.setNode_only ..) rfl) ?_
      assumption
    · refine Blocks.step (Blocks.of_only (Device.tableStatus_only ..) rfl) ?_
      assumption
  clear_value d11
  extract_lets +onlyGivenNames d12
  refine Blocks.cut d12 ?_ fun hd12 => ?_
  · subst d12
    refine Blocks.ite ?_ ?_
    · refine Blocks.step (Device.desatOnset_blocks ..) ?_
      assumption
    · assumption
  clear_value d12
  extract_lets +onlyGivenNames d13
  refine Blocks.cut d13 ?_ fun hd13 => ?_
  · subst d13
    refine Blocks.ite ?_ ?_
    · refine Device.setProt_blocks (fun _ h => h) ?_
      assumption
    · assumption
  clear_value d13
  extract_lets +onlyGivenNames d14
  refine Blocks.cut d14 ?_ fun hd14 => ?_
  · subst d14
    split
    · refine Blocks.step (Blocks.of_only (Device.bypass_only ..) rfl) ?_
      assumption
    · assumption
  clear_value d14
  extract_lets +onlyGivenNames d15
  refine Blocks.cut d15 ?_ fun hd15 => ?_
  · subst d15
    refine Blocks.ite ?_ ?_
    · refine Blocks.step (Device.bpClosed_blocks ..) ?_
      assumption
    · assumption
  clear_value d15
  refine Blocks.step (Blocks.of_only (Device.timeDiff_only ..) rfl) ?_
  assumption
theorem Device.takeFrame_blocks (d : Device) (r : Nat) (lane : Bool) (sent : TxFrame) (b : List (BitVec 8)) : Blocks d (Device.takeFrame d r lane sent b) := by
  unfold Device.takeFrame
  extract_lets +onlyGivenNames f11
  extract_lets +onlyGivenNames dir2
  extract_lets +onlyGivenNames seqN3
  extract_lets +onlyGivenNames seq4
  extract_lets +onlyGivenNames late5
  extract_lets +onlyGivenNames laneN6
  extract_lets +onlyGivenNames slots7
  extract_lets +onlyGivenNames pre8
  extract_lets +onlyGivenNames good9
  extract_lets +onlyGivenNames bad10
  split
  rename_i q11
  refine Blocks.cut _ (Blocks.of_snd q11 ?_) fun hx12 => ?_
  · refine Blocks.step (Blocks.of_only (Device.quant_only ..) rfl) ?_
    exact Blocks.refl
  extract_lets +onlyGivenNames ret13
  extract_lets +onlyGivenNames d14
  refine Blocks.cut d14 ?_ fun hd14 => ?_
  · subst d14
    refine Device.setLink_blocks ?_
    refine Blocks.step (Blocks.of_only (Device.setRing_only ..) rfl) ?_
    assumption
  clear_value d14
  extract_lets +onlyGivenNames d15
  refine Blocks.cut d15 ?_ fun hd15 => ?_
  · subst d15
    refine Blocks.step (Blocks.of_only (Device.stamp_only ..) rfl) ?_
    refine Blocks.step (Blocks.of_only (Device.ringReturn_only ..) rfl) ?_
    assumption
  clear_value d15
  extract_lets +onlyGivenNames d16
  refine Blocks.cut d16 ?_ fun hd16 => ?_
  · subst d16
    refine Blocks.step (Blocks.of_only (Device.pmcPulse_only ..) rfl) ?_
    refine Blocks.step (Blocks.of_only (Device.pmcPulse_only ..) rfl) ?_
    assumption
  clear_value d16
  extract_lets +onlyGivenNames d17
  refine Blocks.cut d17 ?_ fun hd17 => ?_
  · subst d17
    refine Blocks.ite ?_ ?_
    · refine Blocks.step (Blocks.of_only (Device.linkErr_only ..) rfl) ?_
      refine Blocks.step (Blocks.of_only (Device.setRing_only ..) rfl) ?_
      assumption
    · assumption
  clear_value d17
  extract_lets +onlyGivenNames d18
  refine Blocks.cut d18 ?_ fun hd18 => ?_
  · subst d18
    refine Blocks.foldl (fun x19 b20 hx19 => ?_) ?_
    · refine Blocks.step (Blocks.of_only (Device.linkErr_only ..) rfl) ?_
      refine Blocks.step (Blocks.of_only (Device.setRing_only ..) rfl) ?_
      assumption
    · assumption
  clear_value d18
  extract_lets +onlyGivenNames d21
  extract_lets +onlyGivenNames d22
  refine Blocks.cut d22 ?_ fun hd22 => ?_
  · subst d22
    refine Blocks.ite ?_ ?_
    · refine Blocks.step (Blocks.of_only (Device.setRing_only ..) rfl) ?_
      assumption
    · assumption
  clear_value d22
  extract_lets +onlyGivenNames use23
  extract_lets +onlyGivenNames d24
  refine Blocks.cut d24 ?_ fun hd24 => ?_
  · subst d24
    refine Blocks.foldl (fun x25 b26 hx25 => ?_) ?_
    · refine Blocks.step (Device.useStatus_blocks ..) ?_
      assumption
    · assumption
  clear_value d24
  extract_lets +onlyGivenNames d27
  refine Blocks.cut d27 ?_ fun hd27 => ?_
  · subst d27
    refine Blocks.step (Blocks.of_only (Device.mdlSend_only ..) rfl) ?_
    assumption
  clear_value d27
  extract_lets +onlyGivenNames held28
  extract_lets +onlyGivenNames d29
  refine Blocks.cut d29 ?_ fun hd29 => ?_
  · subst d29
    refine Blocks.ite ?_ ?_
    · assumption
    · refine Blocks.set_prov ?_
      assumption
  clear_value d29
  extract_lets +onlyGivenNames tun30
  extract_lets +onlyGivenNames d31
  refine Blocks.cut d31 ?_ fun hd31 => ?_
  · subst d31
    refine Blocks.step (Blocks.of_only (Device.pmcPulse_only ..) rfl) ?_
    refine Blocks.foldl (fun x32 b33 hx32 => ?_) ?_
    · refine Blocks.step (Blocks.of_only (Device.uplink_only ..) rfl) ?_
      assumption
    · assumption
  clear_value d31
  split
  · refine Blocks.step (Blocks.of_only (Device.slowAnswer_only ..) rfl) ?_
    assumption
  · assumption
theorem execReturningFrame_blocks (t : Tick) (ring : Fin 12) (lane : Bool) (frame : List (BitVec 8)) (s s' : State) (h : execReturningFrame t ring lane frame s = .next s') : Blocks s.dev s'.dev := by
  refine State.on_blocks h fun d => ?_
  extract_lets +onlyGivenNames r1
  extract_lets +onlyGivenNames laneN2
  refine Blocks.ite ?_ ?_
  · exact Blocks.refl
  · extract_lets +onlyGivenNames d3
    refine Blocks.cut d3 ?_ fun hd3 => ?_
    · subst d3
      refine Blocks.ite ?_ ?_
      · refine Device.setTwin_blocks ?_
        exact Blocks.refl
      · exact Blocks.refl
    clear_value d3
    refine Blocks.ite ?_ ?_
    · refine Blocks.step (Blocks.of_only (Device.pmcPulse_only ..) rfl) ?_
      refine Blocks.step (Blocks.of_only (Device.linkErr_only ..) rfl) ?_
      refine Blocks.step (Blocks.of_only (Device.setRing_only ..) rfl) ?_
      assumption
    · extract_lets +onlyGivenNames f14
      extract_lets +onlyGivenNames head5
      split
      · refine Blocks.ite ?_ ?_
        · refine Blocks.step (Blocks.of_only (Device.linkErr_only ..) rfl) ?_
          assumption
        · refine Blocks.step (Device.takeFrame_blocks ..) ?_
          assumption
      · refine Blocks.step (Blocks.of_only (Device.linkErr_only ..) rfl) ?_
        assumption
theorem Device.stepWork_blocks (d : Device) (step : Nat) : Blocks d (Device.stepWork d step) := by
  unfold Device.stepWork
  refine Blocks.ite ?_ ?_
  · extract_lets +onlyGivenNames d1
    refine Blocks.cut d1 ?_ fun hd1 => ?_
    · subst d1
      refine Blocks.step (Device.newForce_blocks ..) ?_
      refine Blocks.step (Blocks.of_only (Device.logRestore_only ..) rfl) ?_
      refine Blocks.step (Blocks.of_only (Device.gateRestore_only ..) rfl) ?_
      refine Blocks.step (Blocks.of_only (Device.meterRestore_only ..) rfl) ?_
      refine Blocks.step (Blocks.of_only (Device.safetyCopy_only ..) rfl) ?_
      refine Blocks.step (Blocks.of_only (Device.loadParams_only ..) rfl) ?_
      exact Blocks.refl
    clear_value d1
    extract_lets +onlyGivenNames d2
    refine Blocks.cut d2 ?_ fun hd2 => ?_
    · subst d2
      refine Device.setLaw_blocks ?_
      refine Blocks.step (Blocks.of_only (Device.clkoutCommit_only ..) rfl) ?_
      assumption
    clear_value d2
    extract_lets +onlyGivenNames d3
    extract_lets +onlyGivenNames d4
    refine Blocks.cut d4 ?_ fun hd4 => ?_
    · subst d4
      refine Blocks.set_sec ?_
      assumption
    clear_value d4
    refine Blocks.foldl (fun x5 b6 hx5 => ?_) ?_
    · refine Blocks.step (Device.refreshTin_blocks ..) ?_
      assumption
    · assumption
  · refine Blocks.ite ?_ ?_
    · refine Blocks.set_safety ?_
      exact Blocks.refl
    · refine Blocks.ite ?_ ?_
      · refine Blocks.step (Device.inputActive_blocks ..) ?_
        exact Blocks.refl
      · refine Blocks.ite ?_ ?_
        · refine Blocks.step (Blocks.of_only (Device.enterOff_only ..) rfl) ?_
          exact Blocks.refl
        · exact Blocks.refl
theorem Device.refFaultAll_blocks (d : Device) : Blocks d (Device.refFaultAll d) := by
  unfold Device.refFaultAll
  refine Blocks.foldl (fun x1 b2 hx1 => ?_) ?_
  · refine Blocks.step (Device.refFault_blocks ..) ?_
    assumption
  · exact Blocks.refl
theorem execBringUpStepDone_blocks (t : Tick) (fail : BitVec 8) (test : BitVec 8) (s s' : State) (h : execBringUpStepDone t fail test s = .next s') : Blocks s.dev s'.dev := by
  refine State.on_blocks h fun d => ?_
  extract_lets +onlyGivenNames n1
  refine Blocks.ite ?_ ?_
  · exact Blocks.refl
  · extract_lets +onlyGivenNames d2
    refine Blocks.cut d2 ?_ fun hd2 => ?_
    · subst d2
      refine Blocks.foldl (fun x3 b4 hx3 => ?_) ?_
      · refine Blocks.ite ?_ ?_
        · refine Blocks.step (Device.errReport_blocks ..) ?_
          refine Blocks.step (Blocks.of_only (Device.raise_only ..) rfl) ?_
          assumption
        · refine Device.setConv_blocks ?_
          assumption
      · exact Blocks.refl
    clear_value d2
    refine Device.setConv_blocks ?_
    refine Blocks.step (Device.stepWork_blocks ..) ?_
    assumption
theorem Device.demandOne_blocks (d : Device) (fn : Nat) (src : Nat) : Blocks d (Device.demandOne d fn src) := by
  unfold Device.demandOne
  refine Blocks.ite ?_ ?_
  · exact Blocks.refl
  · extract_lets +onlyGivenNames d1
    extract_lets +onlyGivenNames d2
    refine Blocks.cut d2 ?_ fun hd2 => ?_
    · subst d2
      refine Device.setSaf_blocks ?_
      exact Blocks.refl
    clear_value d2
    extract_lets +onlyGivenNames d3
    refine Blocks.cut d3 ?_ fun hd3 => ?_
    · subst d3
      refine Blocks.step (Blocks.of_only (Device.latchFn_only ..) rfl) ?_
      assumption
    clear_value d3
    refine Blocks.ite ?_ ?_
    · refine Blocks.ite ?_ ?_
      · refine Blocks.step (Device.squallTrigger_blocks ..) ?_
        assumption
      · refine Blocks.step (Device.inputActive_blocks ..) ?_
        assumption
    · assumption
theorem Device.demandOn_blocks (d : Device) (fn : Nat) (src : Nat) : Blocks d (Device.demandOn d fn src) := by
  unfold Device.demandOn
  refine Blocks.ite ?_ ?_
  · exact Blocks.refl
  · refine Blocks.ite ?_ ?_
    · extract_lets +onlyGivenNames was1
      extract_lets +onlyGivenNames d2
      refine Blocks.cut d2 ?_ fun hd2 => ?_
      · subst d2
        refine Blocks.step (Device.demandOne_blocks ..) ?_
        refine Blocks.step (Device.demandOne_blocks ..) ?_
        exact Blocks.refl
      clear_value d2
      extract_lets +onlyGivenNames d3
      refine Blocks.cut d3 ?_ fun hd3 => ?_
      · subst d3
        refine Blocks.ite ?_ ?_
        · assumption
        · refine Device.setSaf_blocks ?_
          assumption
      clear_value d3
      refine Blocks.step (Blocks.of_only (Device.driveOutputs_only ..) rfl) ?_
      assumption
    · refine Blocks.step (Blocks.of_only (Device.driveOutputs_only ..) rfl) ?_
      refine Blocks.step (Device.demandOne_blocks ..) ?_
      exact Blocks.refl
theorem Device.demandSet_blocks (d : Device) (fn : Nat) (src : Nat) (on : Bool) : Blocks d (Device.demandSet d fn src on) := by
  unfold Device.demandSet
  refine Blocks.ite ?_ ?_
  · refine Blocks.step (Device.demandOn_blocks ..) ?_
    exact Blocks.refl
  · refine Blocks.step (Blocks.of_only (Device.demandOff_only ..) rfl) ?_
    exact Blocks.refl
theorem Device.safetyReset_blocks (d : Device) : Blocks d (Device.safetyReset d).1 := by
  unfold Device.safetyReset
  extract_lets +onlyGivenNames f1
  split
  · refine Blocks.fst_mk ?_
    exact Blocks.refl
  · split
    · refine Blocks.fst_mk ?_
      refine Blocks.step (Blocks.of_only (Device.raiseRated_only ..) rfl) ?_
      refine Device.setSaf_blocks ?_
      exact Blocks.refl
    · extract_lets +onlyGivenNames d2
      refine Blocks.cut d2 ?_ fun hd2 => ?_
      · subst d2
        refine Device.setSaf_blocks ?_
        exact Blocks.refl
      clear_value d2
      extract_lets +onlyGivenNames d3
      refine Blocks.cut d3 ?_ fun hd3 => ?_
      · subst d3
        refine Blocks.step (Blocks.of_only (Device.raise_only ..) rfl) ?_
        assumption
      clear_value d3
      extract_lets +onlyGivenNames d4
      refine Blocks.cut d4 ?_ fun hd4 => ?_
      · subst d4
        refine Blocks.step (Device.setSrc_blocks ..) ?_
        refine Blocks.step (Device.inputInactive_blocks ..) ?_
        assumption
      clear_value d4
      refine Blocks.fst_mk ?_
      refine Blocks.step (Blocks.of_only (Device.driveOutputs_only ..) rfl) ?_
      assumption
theorem Device.sinReset_blocks (d : Device) (n : Nat) : Blocks d (Device.sinReset d n) := by
  unfold Device.sinReset
  extract_lets +onlyGivenNames x1
  refine Blocks.ite ?_ ?_
  · refine Blocks.step (Blocks.of_only (Device.setSin_only ..) rfl) ?_
    exact Blocks.refl
  · split
    · refine Blocks.step (Blocks.of_only (Device.setSin_only ..) rfl) ?_
      exact Blocks.refl
    · extract_lets +onlyGivenNames d2
      refine Blocks.cut d2 ?_ fun hd2 => ?_
      · subst d2
        refine Blocks.step (Blocks.of_only (Device.setSin_only ..) rfl) ?_
        exact Blocks.refl
      clear_value d2
      extract_lets +onlyGivenNames held3
      refine Blocks.ite ?_ ?_
      · refine Blocks.step (Device.safetyReset_blocks ..) ?_
        assumption
      · assumption
    · exact Blocks.refl
theorem Device.evalInputs_blocks (d : Device) : Blocks d (Device.evalInputs d) := by
  unfold Device.evalInputs
  refine Blocks.ite ?_ ?_
  · exact Blocks.refl
  · extract_lets +onlyGivenNames d1
    refine Blocks.cut d1 ?_ fun hd1 => ?_
    · subst d1
      refine Blocks.foldl (fun x2 b3 hx2 => ?_) ?_
      · extract_lets +onlyGivenNames d4
        refine Blocks.cut d4 ?_ fun hd4 => ?_
        · subst d4
          refine Blocks.step (Blocks.of_only (Device.sinTransitions_only ..) rfl) ?_
          assumption
        clear_value d4
        extract_lets +onlyGivenNames agree5
        extract_lets +onlyGivenNames span6
        extract_lets +onlyGivenNames d7
        refine Blocks.cut d7 ?_ fun hd7 => ?_
        · subst d7
          refine Blocks.step (Blocks.of_only (Device.setSin_only ..) rfl) ?_
          assumption
        clear_value d7
        extract_lets +onlyGivenNames on8
        extract_lets +onlyGivenNames d9
        refine Blocks.cut d9 ?_ fun hd9 => ?_
        · subst d9
          refine Blocks.foldl (fun x10 b11 hx10 => ?_) ?_
          · refine Blocks.step (Device.demandSet_blocks ..) ?_
            assumption
          · assumption
        clear_value d9
        refine Blocks.step (Device.sinReset_blocks ..) ?_
        assumption
      · exact Blocks.refl
    clear_value d1
    refine Device.setSaf_blocks ?_
    assumption
theorem Device.fallBack_blocks (d : Device) (cause : Nat) : Blocks d (Device.fallBack d cause) := by
  unfold Device.fallBack
  refine Blocks.ite ?_ ?_
  · exact Blocks.refl
  · extract_lets +onlyGivenNames d1
    refine Blocks.cut d1 ?_ fun hd1 => ?_
    · subst d1
      refine Device.setSaf_blocks ?_
      exact Blocks.refl
    clear_value d1
    extract_lets +onlyGivenNames d2
    refine Blocks.cut d2 ?_ fun hd2 => ?_
    · subst d2
      refine Blocks.ite ?_ ?_
      · assumption
      · refine Blocks.step (Blocks.of_only (Device.msix_only ..) rfl) ?_
        refine Blocks.step (Blocks.of_only (Device.raise_only ..) rfl) ?_
        refine Device.setEh_blocks ?_
        assumption
    clear_value d2
    extract_lets +onlyGivenNames d3
    refine Blocks.cut d3 ?_ fun hd3 => ?_
    · subst d3
      refine Blocks.step (Device.demandOn_blocks ..) ?_
      assumption
    clear_value d3
    refine Blocks.foldl (fun x4 b5 hx4 => ?_) ?_
    · refine Blocks.ite ?_ ?_
      · refine Blocks.step (Device.demandOn_blocks ..) ?_
        assumption
      · assumption
    · assumption
theorem Device.pduAccept_blocks (d : Device) (cn : Nat) (b : List (BitVec 8)) (start : Bool) : Blocks d (Device.pduAccept d cn b start) := by
  unfold Device.pduAccept
  extract_lets +onlyGivenNames permit1
  extract_lets +onlyGivenNames reset2
  extract_lets +onlyGivenNames rise3
  extract_lets +onlyGivenNames ends4
  extract_lets +onlyGivenNames d5
  refine Blocks.cut d5 ?_ fun hd5 => ?_
  · subst d5
    refine Blocks.step (Blocks.of_only (Device.setSafe_only ..) rfl) ?_
    exact Blocks.refl
  clear_value d5
  extract_lets +onlyGivenNames d6
  refine Blocks.cut d6 ?_ fun hd6 => ?_
  · subst d6
    refine Blocks.foldl (fun x7 b8 hx7 => ?_) ?_
    · refine Blocks.step (Device.demandSet_blocks ..) ?_
      assumption
    · assumption
  clear_value d6
  extract_lets +onlyGivenNames d9
  refine Blocks.cut d9 ?_ fun hd9 => ?_
  · subst d9
    refine Blocks.ite ?_ ?_
    · refine Blocks.foldl (fun x10 b11 hx10 => ?_) ?_
      · refine Blocks.step (Blocks.of_only (Device.demandOff_only ..) rfl) ?_
        assumption
      · assumption
    · assumption
  clear_value d9
  extract_lets +onlyGivenNames d12
  refine Blocks.cut d12 ?_ fun hd12 => ?_
  · subst d12
    refine Device.setSaf_blocks ?_
    assumption
  clear_value d12
  extract_lets +onlyGivenNames d13
  refine Blocks.cut d13 ?_ fun hd13 => ?_
  · subst d13
    refine Blocks.ite ?_ ?_
    · refine Blocks.step (Device.safetyReset_blocks ..) ?_
      assumption
    · assumption
  clear_value d13
  refine Blocks.step (Blocks.of_only (Device.statusPdu_only ..) rfl) ?_
  assumption
theorem Device.bailsilReset_blocks (d : Device) : Blocks d (Device.bailsilReset d) := by
  unfold Device.bailsilReset
  extract_lets +onlyGivenNames f1
  extract_lets +onlyGivenNames fresh2
  extract_lets +onlyGivenNames fresh3
  extract_lets +onlyGivenNames d4
  refine Blocks.cut d4 ?_ fun hd4 => ?_
  · subst d4
    refine Blocks.foldl (fun x5 b6 hx5 => ?_) ?_
    · refine Blocks.step (Blocks.of_only (Device.latchFn_only ..) rfl) ?_
      assumption
    · exact Blocks.refl
  clear_value d4
  extract_lets +onlyGivenNames d7
  refine Blocks.cut d7 ?_ fun hd7 => ?_
  · subst d7
    refine Device.setSaf_blocks ?_
    assumption
  clear_value d7
  refine Blocks.step (Blocks.of_only (Device.driveOutputs_only ..) rfl) ?_
  refine Blocks.step (Device.evalInputs_blocks ..) ?_
  refine Blocks.step (Device.inputActive_blocks ..) ?_
  refine Blocks.step (Blocks.of_only (Device.scFollow_only ..) rfl) ?_
  refine Blocks.step (Blocks.of_only (Device.safetyCopy_only ..) rfl) ?_
  assumption
theorem Device.afterMove_blocks (d : Device) (n : Nat) : Blocks d (Device.afterMove d n) := by
  unfold Device.afterMove
  refine Blocks.ite ?_ ?_
  · exact Blocks.refl
  · refine Blocks.step (Blocks.of_only (Device.driveOutputs_only ..) rfl) ?_
    refine Blocks.step (Device.evalInputs_blocks ..) ?_
    refine Blocks.step (Blocks.of_only (Device.scFollow_only ..) rfl) ?_
    refine Blocks.step (Blocks.of_only (Device.safetyCopy_only ..) rfl) ?_
    refine Blocks.step (Blocks.of_only (Device.applyProfiles_only ..) rfl) ?_
    exact Blocks.refl
theorem execSafetyInputChange_blocks (t : Tick) (n : Fin 4) (chB : Bool) (level : Bool) (heldNs : Rat) (s s' : State) (h : execSafetyInputChange t n chB level heldNs s = .next s') : Blocks s.dev s'.dev := by
  refine State.on_blocks h fun d => ?_
  extract_lets +onlyGivenNames d1
  refine Blocks.cut d1 ?_ fun hd1 => ?_
  · subst d1
    refine Device.setSaf_blocks ?_
    exact Blocks.refl
  clear_value d1
  extract_lets +onlyGivenNames x2
  refine Blocks.ite ?_ ?_
  · assumption
  · extract_lets +onlyGivenNames edge3
    refine Blocks.step (Device.evalInputs_blocks ..) ?_
    refine Blocks.step (Blocks.of_only (Device.setSin_only ..) rfl) ?_
    assumption
theorem execSinDiscrepancy_blocks (t : Tick) (n : Fin 4) (s s' : State) (h : execSinDiscrepancy t n s = .next s') : Blocks s.dev s'.dev := by
  refine State.on_blocks h fun d => ?_
  split
  · exact Blocks.refl
  · refine Blocks.ite ?_ ?_
    · refine Blocks.step (Device.evalInputs_blocks ..) ?_
      refine Blocks.step (Blocks.of_only (Device.sinFault_only ..) rfl) ?_
      exact Blocks.refl
    · exact Blocks.refl
theorem execTpaTpbTestPulse_blocks (t : Tick) (tpb : Bool) (s s' : State) (h : execTpaTpbTestPulse t tpb s = .next s') : Blocks s.dev s'.dev := by
  refine State.on_blocks h fun d => ?_
  extract_lets +onlyGivenNames f1
  extract_lets +onlyGivenNames due2
  refine Blocks.ite ?_ ?_
  · exact Blocks.refl
  · refine Blocks.step (Device.evalInputs_blocks ..) ?_
    refine Device.setSaf_blocks ?_
    exact Blocks.refl
theorem execSinPulseMissed_blocks (t : Tick) (n : Fin 4) (chB : Bool) (cross : Bool) (s s' : State) (h : execSinPulseMissed t n chB cross s = .next s') : Blocks s.dev s'.dev := by
  refine State.on_blocks h fun d => ?_
  extract_lets +onlyGivenNames x1
  extract_lets +onlyGivenNames level2
  extract_lets +onlyGivenNames fell3
  extract_lets +onlyGivenNames rose4
  split
  · exact Blocks.refl
  · refine Blocks.ite ?_ ?_
    · exact Blocks.refl
    · refine Blocks.ite ?_ ?_
      · refine Blocks.ite ?_ ?_
        · refine Blocks.step (Device.evalInputs_blocks ..) ?_
          refine Blocks.step (Blocks.of_only (Device.sinFault_only ..) rfl) ?_
          exact Blocks.refl
        · exact Blocks.refl
      · refine Blocks.ite ?_ ?_
        · refine Blocks.step (Device.evalInputs_blocks ..) ?_
          refine Blocks.step (Blocks.of_only (Device.sinFault_only ..) rfl) ?_
          exact Blocks.refl
        · exact Blocks.refl
theorem execChannelComparison_blocks (t : Tick) (differs : Bool) (oscBad : Bool) (s s' : State) (h : execChannelComparison t differs oscBad s = .next s') : Blocks s.dev s'.dev := by
  refine State.on_blocks h fun d => ?_
  refine Blocks.ite ?_ ?_
  · exact Blocks.refl
  · extract_lets +onlyGivenNames d1
    refine Blocks.cut d1 ?_ fun hd1 => ?_
    · subst d1
      refine Device.setSaf_blocks ?_
      exact Blocks.refl
    clear_value d1
    refine Blocks.ite ?_ ?_
    · refine Blocks.step (Device.bailsilSafeHold_blocks ..) ?_
      assumption
    · refine Blocks.step (Blocks.of_only (Device.driveOutputs_only ..) rfl) ?_
      refine Blocks.step (Device.evalInputs_blocks ..) ?_
      refine Blocks.step (Blocks.of_only (Device.scFollow_only ..) rfl) ?_
      refine Blocks.step (Blocks.of_only (Device.scReturn_only ..) rfl) ?_
      assumption
theorem execHeartbeat_blocks (t : Tick) (flip : BitVec 4) (seq : Nat) (s s' : State) (h : execHeartbeat t flip seq s = .next s') : Blocks s.dev s'.dev := by
  refine State.on_blocks h fun d => ?_
  refine Blocks.ite ?_ ?_
  · exact Blocks.refl
  · extract_lets +onlyGivenNames d1
    refine Blocks.cut d1 ?_ fun hd1 => ?_
    · subst d1
      refine Blocks.step (Device.demandSet_blocks ..) ?_
      exact Blocks.refl
    clear_value d1
    extract_lets +onlyGivenNames own2
    extract_lets +onlyGivenNames p3
    extract_lets +onlyGivenNames d4
    refine Blocks.cut d4 ?_ fun hd4 => ?_
    · subst d4
      refine Device.setSaf_blocks ?_
      assumption
    clear_value d4
    refine Blocks.foldl (fun x5 b6 hx5 => ?_) ?_
    · refine Blocks.step (Device.demandSet_blocks ..) ?_
      assumption
    · assumption
theorem execHeartbeatTimeout_blocks (t : Tick) (s s' : State) (h : execHeartbeatTimeout t s = .next s') : Blocks s.dev s'.dev := by
  refine State.on_blocks h fun d => ?_
  refine Blocks.ite ?_ ?_
  · refine Blocks.step (Device.fallBack_blocks ..) ?_
    exact Blocks.refl
  · exact Blocks.refl
theorem execLockstepMismatch_blocks (t : Tick) (s s' : State) (h : execLockstepMismatch t s = .next s') : Blocks s.dev s'.dev := by
  refine State.on_blocks h fun d => ?_
  refine Blocks.step (Device.fallBack_blocks ..) ?_
  exact Blocks.refl
theorem execChannelDisagreementTimeout_blocks (t : Tick) (s s' : State) (h : execChannelDisagreementTimeout t s = .next s') : Blocks s.dev s'.dev := by
  refine State.on_blocks h fun d => ?_
  refine Blocks.ite ?_ ?_
  · refine Blocks.step (Device.fallBack_blocks ..) ?_
    exact Blocks.refl
  · exact Blocks.refl
theorem execSlpMonitor_blocks (t : Tick) (s s' : State) (h : execSlpMonitor t s = .next s') : Blocks s.dev s'.dev := by
  refine State.on_blocks h fun d => ?_
  refine Blocks.ite ?_ ?_
  · exact Blocks.refl
  · extract_lets +onlyGivenNames f1
    extract_lets +onlyGivenNames target2
    extract_lets +onlyGivenNames ramp3
    extract_lets +onlyGivenNames step4
    extract_lets +onlyGivenNames limit5
    extract_lets +onlyGivenNames n6
    extract_lets +onlyGivenNames mean7
    extract_lets +onlyGivenNames a8
    extract_lets +onlyGivenNames b9
    extract_lets +onlyGivenNames p10
    extract_lets +onlyGivenNames ovr11
    extract_lets +onlyGivenNames d12
    refine Blocks.cut d12 ?_ fun hd12 => ?_
    · subst d12
      refine Device.setSaf_blocks ?_
      exact Blocks.refl
    clear_value d12
    refine Blocks.ite ?_ ?_
    · refine Blocks.ite ?_ ?_
      · assumption
      · split
        rename_i q13
        refine Blocks.cut _ (Blocks.of_snd q13 ?_) fun hx14 => ?_
        · refine Blocks.step (Blocks.of_only (Device.quant_only ..) rfl) ?_
          assumption
        refine Blocks.step (Device.demandOn_blocks ..) ?_
        refine Blocks.step (Blocks.of_only (Device.raise_only ..) rfl) ?_
        refine Device.setSaf_blocks ?_
        assumption
    · refine Blocks.ite ?_ ?_
      · refine Blocks.step (Blocks.of_only (Device.demandOff_only ..) rfl) ?_
        refine Device.setSaf_blocks ?_
        assumption
      · assumption
theorem execSafeChannelPdu_blocks (t : Tick) (s s' : State) (h : execSafeChannelPdu t s = .next s') : Blocks s.dev s'.dev := by
  refine State.on_blocks h fun d => ?_
  split
  · exact Blocks.refl
  · extract_lets +onlyGivenNames d1
    refine Blocks.cut d1 ?_ fun hd1 => ?_
    · subst d1
      refine Device.setNet_blocks ?_
      exact Blocks.refl
    clear_value d1
    refine Blocks.ite ?_ ?_
    · assumption
    · extract_lets +onlyGivenNames b2
      extract_lets +onlyGivenNames start3
      extract_lets +onlyGivenNames check4
      refine Blocks.ite ?_ ?_
      · refine Blocks.step (Blocks.of_only (Device.pduDiscard_only ..) rfl) ?_
        assumption
      · refine Blocks.ite ?_ ?_
        · extract_lets +onlyGivenNames l5
          extract_lets +onlyGivenNames gap6
          extract_lets +onlyGivenNames cn7
          refine Blocks.ite ?_ ?_
          · refine Blocks.step (Blocks.of_only (Device.pduDiscard_only ..) rfl) ?_
            assumption
          · refine Blocks.ite ?_ ?_
            · assumption
            · refine Blocks.ite ?_ ?_
              · refine Blocks.step (Blocks.of_only (Device.pduDiscard_only ..) rfl) ?_
                assumption
              · refine Blocks.ite ?_ ?_
                · refine Blocks.step (Blocks.of_only (Device.pduDiscard_only ..) rfl) ?_
                  assumption
                · refine Blocks.step (Device.pduAccept_blocks ..) ?_
                  assumption
        · refine Blocks.ite ?_ ?_
          · refine Blocks.step (Blocks.of_only (Device.pduDiscard_only ..) rfl) ?_
            assumption
          · refine Blocks.ite ?_ ?_
            · refine Blocks.step (Blocks.of_only (Device.pduDiscard_only ..) rfl) ?_
              assumption
            · refine Blocks.step (Device.pduAccept_blocks ..) ?_
              assumption
theorem execSafeChannelWatchdogExpiry_blocks (t : Tick) (s s' : State) (h : execSafeChannelWatchdogExpiry t s = .next s') : Blocks s.dev s'.dev := by
  refine State.on_blocks h fun d => ?_
  refine Blocks.ite ?_ ?_
  · exact Blocks.refl
  · extract_lets +onlyGivenNames act1
    extract_lets +onlyGivenNames d2
    refine Blocks.cut d2 ?_ fun hd2 => ?_
    · subst d2
      refine Blocks.step (Blocks.of_only (Device.setSafe_only ..) rfl) ?_
      exact Blocks.refl
    clear_value d2
    extract_lets +onlyGivenNames d3
    refine Blocks.cut d3 ?_ fun hd3 => ?_
    · subst d3
      refine Blocks.step (Blocks.of_only (Device.raise_only ..) rfl) ?_
      assumption
    clear_value d3
    refine Blocks.foldl (fun x4 b5 hx4 => ?_) ?_
    · refine Blocks.ite ?_ ?_
      · refine Blocks.step (Device.demandOn_blocks ..) ?_
        assumption
      · assumption
    · assumption
theorem execBailsilReset_blocks (t : Tick) (s s' : State) (h : execBailsilReset t s = .next s') : Blocks s.dev s'.dev := by
  refine State.on_blocks h fun d => ?_
  refine Blocks.step (Device.bailsilReset_blocks ..) ?_
  exact Blocks.refl
theorem Device.block_blocksBy {d e : Device} {good : Bool} {f : Device → Device} (hf : ∀ y, Blocks d y → Blocks d (f y)) (h : Blocks d e) : Blocks d (e.block good f) :=
  have hp : Blocks d (e.pmcPulse 4 6 1) := Blocks.step (Blocks.of_only (Device.pmcPulse_only ..) rfl) h
  Blocks.ite h (Blocks.ite (Device.setTwin_blocks hp) (Blocks.ite hp (Blocks.step (Blocks.of_only (Device.twinStatus_only ..) rfl) (hf _ hp))))
theorem Device.followState_blocks (d : Device) (b : PeerBeacon) : Blocks d (Device.followState d b) := by
  unfold Device.followState
  extract_lets +onlyGivenNames upTo1
  refine Blocks.ite ?_ ?_
  · exact Blocks.refl
  · extract_lets +onlyGivenNames fresh2
    extract_lets +onlyGivenNames n3
    extract_lets +onlyGivenNames d4
    refine Blocks.cut d4 ?_ fun hd4 => ?_
    · subst d4
      refine Blocks.step (Device.afterMove_blocks ..) ?_
      refine Blocks.step (Device.transition_blocks ..) ?_
      exact Blocks.refl
    clear_value d4
    refine Blocks.ite ?_ ?_
    · assumption
    · refine Blocks.foldl (fun x5 b6 hx5 => ?_) ?_
      · extract_lets +onlyGivenNames n7
        refine Blocks.ite ?_ ?_
        · assumption
        · extract_lets +onlyGivenNames d8
          refine Blocks.cut d8 ?_ fun hd8 => ?_
          · subst d8
            refine Blocks.step (Blocks.of_only (Device.setRing_only ..) rfl) ?_
            assumption
          clear_value d8
          refine Blocks.foldl (fun x9 b10 hx9 => ?_) ?_
          · refine Blocks.step (Blocks.of_only (Device.setNode_only ..) rfl) ?_
            assumption
          · assumption
      · assumption
theorem Device.relaySchedule_blocks (d : Device) (arm : Nat) (resume : Bool) : Blocks d (Device.relaySchedule d arm resume) := by
  unfold Device.relaySchedule
  extract_lets +onlyGivenNames x1
  split
  · refine Blocks.ite ?_ ?_
    · exact Blocks.refl
    · extract_lets +onlyGivenNames e2
      refine Blocks.cut e2 ?_ fun he2 => ?_
      · subst e2
        refine Blocks.step (Blocks.of_only (Device.withCopy_only ..) rfl) ?_
        exact Blocks.refl
      clear_value e2
      extract_lets +onlyGivenNames first3
      extract_lets +onlyGivenNames e4
      refine Blocks.cut e4 ?_ fun he4 => ?_
      · subst e4
        refine Blocks.ite ?_ ?_
        · refine Device.setModu_blocks ?_
          assumption
        · assumption
      clear_value e4
      extract_lets +onlyGivenNames e5
      refine Blocks.cut e5 ?_ fun he5 => ?_
      · subst e5
        refine Blocks.ite ?_ ?_
        · refine Blocks.step (Blocks.of_only (Device.circLoop_only ..) rfl) ?_
          assumption
        · assumption
      clear_value e5
      extract_lets +onlyGivenNames e6
      refine Blocks.cut e6 ?_ fun he6 => ?_
      · subst e6
        refine Blocks.ite ?_ ?_
        · refine Blocks.step (Blocks.of_only (Device.resumeArm_only ..) rfl) ?_
          assumption
        · refine Blocks.step (Device.scheduleCore_blocks ..) ?_
          assumption
      clear_value e6
      extract_lets +onlyGivenNames cells7
      extract_lets +onlyGivenNames m8
      refine Device.setTwin_blocks ?_
      refine Blocks.step (Blocks.of_only (Device.setTArm_only ..) rfl) ?_
      refine Blocks.set_fresh ?_
      exact Blocks.refl
  · exact Blocks.refl
theorem execBeacon_blocks (t : Tick) (good : Bool) (b : PeerBeacon) (s s' : State) (h : execBeacon t good b s = .next s') : Blocks s.dev s'.dev := by
  refine State.on_blocks h fun d => ?_
  refine Device.block_blocksBy (fun x1 hx1 => ?_) ?_
  · refine Blocks.ite ?_ ?_
    · refine Blocks.step (Blocks.of_only (Device.raise_only ..) rfl) ?_
      refine Device.setTwin_blocks ?_
      assumption
    · extract_lets +onlyGivenNames round2
      extract_lets +onlyGivenNames d3
      refine Blocks.cut d3 ?_ fun hd3 => ?_
      · subst d3
        refine Device.setTwin_blocks ?_
        assumption
      clear_value d3
      extract_lets +onlyGivenNames d4
      refine Blocks.cut d4 ?_ fun hd4 => ?_
      · subst d4
        refine Blocks.ite ?_ ?_
        · assumption
        · refine Blocks.step (Blocks.of_only (Device.raise_only ..) rfl) ?_
          refine Device.setTwin_blocks ?_
          assumption
      clear_value d4
      extract_lets +onlyGivenNames d5
      refine Blocks.cut d5 ?_ fun hd5 => ?_
      · subst d5
        refine Blocks.step (Blocks.of_only (Device.yieldMaster_only ..) rfl) ?_
        assumption
      clear_value d5
      extract_lets +onlyGivenNames d6
      refine Blocks.cut d6 ?_ fun hd6 => ?_
      · subst d6
        refine Blocks.ite ?_ ?_
        · refine Device.setClk_blocks ?_
          assumption
        · assumption
      clear_value d6
      refine Blocks.step (Blocks.of_only (Device.answerAsks_only ..) rfl) ?_
      refine Blocks.step (Device.followState_blocks ..) ?_
      assumption
  exact Blocks.refl
theorem execMardalArmRecord_blocks (t : Tick) (cyc : Option Nat) (arm : Fin 3) (r : ArmRecord) (s s' : State) (h : execMardalArmRecord t cyc arm r s = .next s') : Blocks s.dev s'.dev := by
  refine State.on_blocks h fun d => ?_
  refine Device.block_blocksBy (fun x1 hx1 => ?_) ?_
  · refine Blocks.ite ?_ ?_
    · refine Blocks.step (Device.relaySchedule_blocks ..) ?_
      refine Blocks.step (Blocks.of_only (Device.setTArm_only ..) rfl) ?_
      assumption
    · assumption
  exact Blocks.refl
theorem execScheduleCheck_blocks (t : Tick) (cyc : Option Nat) (arm : Fin 3) (notice : Bool) (resume : Bool) (crc : BitVec 32) (s s' : State) (h : execScheduleCheck t cyc arm notice resume crc s = .next s') : Blocks s.dev s'.dev := by
  refine State.on_blocks h fun d => ?_
  refine Device.block_blocksBy (fun x1 hx1 => ?_) ?_
  · refine Blocks.ite ?_ ?_
    · assumption
    · extract_lets +onlyGivenNames d2
      refine Blocks.cut d2 ?_ fun hd2 => ?_
      · subst d2
        refine Blocks.step (Blocks.of_only (Device.setTArm_only ..) rfl) ?_
        assumption
      clear_value d2
      refine Blocks.ite ?_ ?_
      · refine Blocks.step (Device.relaySchedule_blocks ..) ?_
        assumption
      · assumption
  exact Blocks.refl
theorem execStatusBlock_blocks (t : Tick) (good : Bool) (ring : Fin 12) (seq : BitVec 16) (bytes : List (BitVec 8)) (s s' : State) (h : execStatusBlock t good ring seq bytes s = .next s') : Blocks s.dev s'.dev := by
  refine State.on_blocks h fun d => ?_
  refine Device.block_blocksBy (fun x1 hx1 => ?_) ?_
  · extract_lets +onlyGivenNames r2
    extract_lets +onlyGivenNames late3
    extract_lets +onlyGivenNames slot4
    extract_lets +onlyGivenNames valid5
    extract_lets +onlyGivenNames use6
    extract_lets +onlyGivenNames d7
    refine Blocks.cut d7 ?_ fun hd7 => ?_
    · subst d7
      refine Blocks.foldl (fun x8 b9 hx8 => ?_) ?_
      · refine Blocks.step (Device.useStatus_blocks ..) ?_
        assumption
      · assumption
    clear_value d7
    refine Blocks.ite ?_ ?_
    · assumption
    · refine Blocks.set_prov ?_
      assumption
  exact Blocks.refl
theorem execTwinDeadline_blocks (t : Tick) (s s' : State) (h : execTwinDeadline t s = .next s') : Blocks s.dev s'.dev := by
  refine State.on_blocks h fun d => ?_
  refine Blocks.ite ?_ ?_
  · exact Blocks.refl
  · refine Blocks.foldl (fun x1 b2 hx1 => ?_) ?_
    · refine Blocks.ite ?_ ?_
      · refine Blocks.ite ?_ ?_
        · assumption
        · refine Blocks.step (Blocks.of_only (Device.sendCheck_only ..) rfl) ?_
          assumption
      · extract_lets +onlyGivenNames d3
        refine Blocks.cut d3 ?_ fun hd3 => ?_
        · subst d3
          refine Blocks.step (Device.reuseSchedule_blocks ..) ?_
          assumption
        clear_value d3
        refine Blocks.ite ?_ ?_
        · refine Blocks.step (Blocks.of_only (Device.mdlSend_only ..) rfl) ?_
          assumption
        · assumption
    · exact Blocks.refl
theorem Device.launchResume_blocks (d : Device) : Blocks d (Device.launchResume d) := by
  unfold Device.launchResume
  extract_lets +onlyGivenNames e1
  extract_lets +onlyGivenNames d2
  refine Blocks.cut d2 ?_ fun hd2 => ?_
  · subst d2
    refine Blocks.step (Blocks.of_only (Device.restartLaw_only ..) rfl) ?_
    exact Blocks.refl
  clear_value d2
  extract_lets +onlyGivenNames d3
  refine Blocks.cut d3 ?_ fun hd3 => ?_
  · subst d3
    refine Blocks.foldl (fun x4 b5 hx4 => ?_) ?_
    · refine Blocks.step (Blocks.of_only (Device.resumeArm_only ..) rfl) ?_
      assumption
    · assumption
  clear_value d3
  refine Device.setProt_blocks (fun _ h => h) ?_
  assumption
theorem Device.arms_blocks (d : Device) : Blocks d (Device.arms d).1 := by
  unfold Device.arms
  extract_lets +onlyGivenNames none_1
  split
  · extract_lets +onlyGivenNames resume2
    extract_lets +onlyGivenNames d3
    refine Blocks.cut d3 ?_ fun hd3 => ?_
    · subst d3
      refine Blocks.ite ?_ ?_
      · refine Blocks.ite ?_ ?_
        · refine Blocks.step (Device.launchResume_blocks ..) ?_
          exact Blocks.refl
        · refine Device.setProt_blocks (fun _ h => h) ?_
          exact Blocks.refl
      · unfold none_1
        refine Blocks.ite ?_ ?_
        · refine Device.setModu_blocks ?_
          exact Blocks.refl
        · exact Blocks.refl
    clear_value d3
    refine Blocks.fst_mk ?_
    refine Blocks.foldl (fun x4 b5 hx4 => ?_) ?_
    · refine Blocks.step (Blocks.of_only (Device.chooseArm_only ..) rfl) ?_
      assumption
    · assumption
  · split
    · refine Blocks.fst_mk ?_
      refine Blocks.step (Device.launchResume_blocks ..) ?_
      exact Blocks.refl
    · refine Blocks.fst_mk ?_
      unfold none_1
      refine Blocks.ite ?_ ?_
      · refine Device.setModu_blocks ?_
        exact Blocks.refl
      · exact Blocks.refl
theorem Device.strobeWatch_blocks (d : Device) (resume : Bool) : Blocks d (Device.strobeWatch d resume) := by
  unfold Device.strobeWatch
  refine Blocks.ite ?_ ?_
  · refine Blocks.step (Device.squallTrigger_blocks ..) ?_
    exact Blocks.refl
  · exact Blocks.refl
theorem execLoadAll_blocks (t : Tick) (s s' : State) (h : execLoadAll t s = .next s') : Blocks s.dev s'.dev := by
  refine State.on_blocks h fun d => ?_
  refine Blocks.ite ?_ ?_
  · exact Blocks.refl
  · extract_lets +onlyGivenNames d1
    refine Blocks.cut d1 ?_ fun hd1 => ?_
    · subst d1
      refine Blocks.step (Blocks.of_only (Device.restCycle_only ..) rfl) ?_
      refine Blocks.step (Blocks.of_only (Device.closeFrames_only ..) rfl) ?_
      exact Blocks.refl
    clear_value d1
    extract_lets +onlyGivenNames d2
    refine Blocks.cut d2 ?_ fun hd2 => ?_
    · subst d2
      refine Blocks.ite ?_ ?_
      · refine Blocks.step (Blocks.of_only (Device.bypassSteps_only ..) rfl) ?_
        assumption
      · assumption
    clear_value d2
    extract_lets +onlyGivenNames due3
    extract_lets +onlyGivenNames d4
    refine Blocks.cut d4 ?_ fun hd4 => ?_
    · subst d4
      refine Device.setConv_blocks ?_
      assumption
    clear_value d4
    extract_lets +onlyGivenNames d5
    refine Blocks.cut d5 ?_ fun hd5 => ?_
    · subst d5
      refine Device.setProt_blocks (fun _ h => h) ?_
      assumption
    clear_value d5
    split
    rename_i q6
    refine Blocks.cut _ (Blocks.of_fst q6 ?_) fun hx7 => ?_
    · refine Blocks.step (Device.arms_blocks ..) ?_
      assumption
    extract_lets +onlyGivenNames d8
    refine Blocks.cut d8 ?_ fun hd8 => ?_
    · subst d8
      refine Blocks.step (Device.buildWindows_blocks ..) ?_
      refine Blocks.step (Blocks.of_only (Device.bypassSteps_only ..) rfl) ?_
      refine Blocks.step (Blocks.of_only (Device.launchedCells_only ..) rfl) ?_
      refine Blocks.step (Blocks.of_only (Device.sentOn_only ..) rfl) ?_
      refine Blocks.step (Blocks.of_only (Device.launch_only ..) rfl) ?_
      assumption
    clear_value d8
    extract_lets +onlyGivenNames d9
    refine Blocks.cut d9 ?_ fun hd9 => ?_
    · subst d9
      refine Blocks.ite ?_ ?_
      · assumption
      · refine Device.setModu_blocks ?_
        assumption
    clear_value d9
    extract_lets +onlyGivenNames d10
    refine Blocks.cut d10 ?_ fun hd10 => ?_
    · subst d10
      refine Blocks.foldl (fun x11 b12 hx11 => ?_) ?_
      · refine Blocks.step (Blocks.of_only (Device.availability_only ..) rfl) ?_
        assumption
      · assumption
    clear_value d10
    extract_lets +onlyGivenNames d13
    refine Blocks.cut d13 ?_ fun hd13 => ?_
    · subst d13
      refine Device.setTwin_blocks ?_
      refine Blocks.step (Blocks.of_only (Device.meterOpen_only ..) rfl) ?_
      refine Blocks.step (Blocks.of_only (Device.modShow_only ..) rfl) ?_
      refine Device.setModu_blocks ?_
      assumption
    clear_value d13
    refine Blocks.step (Device.strobeWatch_blocks ..) ?_
    refine Blocks.step (Blocks.of_only (Device.pmcPulse_only ..) rfl) ?_
    refine Blocks.step (Blocks.of_only (Device.stamp_only ..) rfl) ?_
    assumption
theorem Device.corrected_blocks (d : Device) (die : Nat) (word : Nat) : Blocks d (Device.corrected d die word) := by
  unfold Device.corrected
  extract_lets +onlyGivenNames near1
  extract_lets +onlyGivenNames again2
  extract_lets +onlyGivenNames d3
  refine Blocks.cut d3 ?_ fun hd3 => ?_
  · subst d3
    refine Device.setEh_blocks ?_
    exact Blocks.refl
  clear_value d3
  extract_lets +onlyGivenNames d4
  refine Blocks.cut d4 ?_ fun hd4 => ?_
  · subst d4
    refine Blocks.step (Device.errReport_blocks ..) ?_
    assumption
  clear_value d4
  refine Blocks.ite ?_ ?_
  · refine Blocks.step (Device.errReport_blocks ..) ?_
    assumption
  · assumption
theorem execScrubPass_blocks (t : Tick) (fixed : List (Fin 3 × BitVec 32)) (bad : List (Fin 3 × BitVec 32)) (s s' : State) (h : execScrubPass t fixed bad s = .next s') : Blocks s.dev s'.dev := by
  refine State.on_blocks h fun d => ?_
  extract_lets +onlyGivenNames d1
  refine Blocks.cut d1 ?_ fun hd1 => ?_
  · subst d1
    refine Device.setEh_blocks ?_
    exact Blocks.refl
  clear_value d1
  extract_lets +onlyGivenNames d2
  refine Blocks.cut d2 ?_ fun hd2 => ?_
  · subst d2
    refine Blocks.foldl (fun x3 b4 hx3 => ?_) ?_
    · refine Blocks.step (Device.corrected_blocks ..) ?_
      assumption
    · assumption
  clear_value d2
  refine Blocks.foldl (fun x5 b6 hx5 => ?_) ?_
  · refine Blocks.step (Device.errReport_blocks ..) ?_
    assumption
  · assumption
theorem execErrorReport_blocks (t : Tick) (code : BitVec 16) (island : Fin 10) (kind : Fin 10) (index : BitVec 16) (detail : BitVec 32) (s s' : State) (h : execErrorReport t code island kind index detail s = .next s') : Blocks s.dev s'.dev := by
  refine State.on_blocks h fun d => ?_
  extract_lets +onlyGivenNames c1
  extract_lets +onlyGivenNames i2
  extract_lets +onlyGivenNames die3
  extract_lets +onlyGivenNames d4
  refine Blocks.cut d4 ?_ fun hd4 => ?_
  · subst d4
    refine Blocks.ite ?_ ?_
    · refine Device.setSec_blocks ?_
      exact Blocks.refl
    · refine Blocks.ite ?_ ?_
      · refine Blocks.step (Blocks.of_only (Device.setArm_only ..) rfl) ?_
        exact Blocks.refl
      · refine Blocks.ite ?_ ?_
        · refine Blocks.step (Blocks.of_only (Device.setNode_only ..) rfl) ?_
          exact Blocks.refl
        · refine Blocks.ite ?_ ?_
          · refine Blocks.step (Blocks.of_only (Device.slotSentEmpty_only ..) rfl) ?_
            exact Blocks.refl
          · exact Blocks.refl
  clear_value d4
  refine Blocks.ite ?_ ?_
  · refine Blocks.step (Device.corrected_blocks ..) ?_
    assumption
  · refine Blocks.step (Device.errReport_blocks ..) ?_
    assumption
theorem execHandlerFault_blocks (t : Tick) (cause : Fin 5) (s s' : State) (h : execHandlerFault t cause s = .next s') : Blocks s.dev s'.dev := by
  refine State.on_blocks h fun d => ?_
  split
  · refine Blocks.ite ?_ ?_
    · refine Blocks.step (Device.handlerFault_blocks ..) ?_
      exact Blocks.refl
    · exact Blocks.refl
  · refine Blocks.step (Device.handlerFault_blocks ..) ?_
    exact Blocks.refl
  · refine Blocks.step (Device.handlerFault_blocks ..) ?_
    exact Blocks.refl
  · exact Blocks.refl
theorem Device.commitEffects_blocks (d : Device) (old : PSet) : Blocks d (Device.commitEffects d old) := by
  unfold Device.commitEffects
  extract_lets +onlyGivenNames d1
  refine Blocks.cut d1 ?_ fun hd1 => ?_
  · subst d1
    refine Blocks.step (Device.newForce_blocks ..) ?_
    exact Blocks.refl
  clear_value d1
  extract_lets +onlyGivenNames new2
  extract_lets +onlyGivenNames d3
  refine Blocks.cut d3 ?_ fun hd3 => ?_
  · subst d3
    refine Blocks.ite ?_ ?_
    · assumption
    · refine Device.setLaw_blocks ?_
      assumption
  clear_value d3
  extract_lets +onlyGivenNames lims4
  extract_lets +onlyGivenNames d5
  refine Blocks.cut d5 ?_ fun hd5 => ?_
  · subst d5
    refine Blocks.ite ?_ ?_
    · assumption
    · refine Device.setTraj_blocks ?_
      assumption
  clear_value d5
  extract_lets +onlyGivenNames d6
  refine Blocks.cut d6 ?_ fun hd6 => ?_
  · subst d6
    refine Blocks.foldl (fun x7 b8 hx7 => ?_) ?_
    · refine Blocks.step (Device.refreshTin_blocks ..) ?_
      assumption
    · assumption
  clear_value d6
  extract_lets +onlyGivenNames d9
  refine Blocks.cut d9 ?_ fun hd9 => ?_
  · subst d9
    refine Blocks.foldl (fun x10 b11 hx10 => ?_) ?_
    · refine Blocks.step (Device.evalCmp_blocks ..) ?_
      assumption
    · assumption
  clear_value d9
  extract_lets +onlyGivenNames d12
  refine Blocks.cut d12 ?_ fun hd12 => ?_
  · subst d12
    refine Blocks.step (Blocks.of_only (Device.commitProfiles_only ..) rfl) ?_
    refine Blocks.step (Blocks.of_only (Device.clkoutCommit_only ..) rfl) ?_
    refine Blocks.step (Device.bypassInput_blocks ..) ?_
    assumption
  clear_value d12
  refine Blocks.ite ?_ ?_
  · refine Device.setHost_blocks ?_
    assumption
  · assumption
theorem execEventRecordWrite_blocks (t : Tick) (ok : Bool) (s s' : State) (h : execEventRecordWrite t ok s = .next s') : Blocks s.dev s'.dev := by
  refine State.on_blocks h fun d => ?_
  refine Blocks.ite ?_ ?_
  · refine Blocks.step (Blocks.of_only (Device.drain_only ..) rfl) ?_
    exact Blocks.refl
  · refine Blocks.ite ?_ ?_
    · exact Blocks.refl
    · refine Blocks.step (Device.errReport_blocks ..) ?_
      refine Device.setHost_blocks ?_
      exact Blocks.refl
theorem execCommitApply_blocks (t : Tick) (s s' : State) (h : execCommitApply t s = .next s') : Blocks s.dev s'.dev := by
  refine State.on_blocks h fun d => ?_
  extract_lets +onlyGivenNames e1
  extract_lets +onlyGivenNames due2
  refine Blocks.ite ?_ ?_
  · exact Blocks.refl
  · extract_lets +onlyGivenNames old3
    extract_lets +onlyGivenNames ids4
    extract_lets +onlyGivenNames d5
    refine Blocks.cut d5 ?_ fun hd5 => ?_
    · subst d5
      refine Device.setPar_blocks ?_
      refine Blocks.step (Blocks.of_only (Device.applyWaiting_only ..) rfl) ?_
      exact Blocks.refl
    clear_value d5
    refine Blocks.foldl (fun x6 b7 hx6 => ?_) ?_
    · refine Blocks.step (Blocks.of_only (Device.complete_only ..) rfl) ?_
      assumption
    · refine Blocks.step (Device.commitEffects_blocks ..) ?_
      assumption
theorem Device.cellCmd_blocksBy {d e : Device} {h : CmdHdr} {a : Args} {body : Nat → Device → Device × Option Ending}
    (hb : ∀ c x, Blocks d x → Blocks d (body c x).1) (hd : Blocks d e) : Blocks d (e.cellCmd h a body) := Device.cmdIf_blocksBy (hb _) hd
theorem Device.hostClear_blocks (d : Device) (i : Nat) : Blocks d (Device.hostClear d i).1 := by
  unfold Device.hostClear
  split
  · split
    · refine Blocks.fst_mk ?_
      refine Blocks.step (Device.rejectClear_blocks ..) ?_
      exact Blocks.refl
    · refine Blocks.fst_mk ?_
      exact Blocks.refl
  · refine Blocks.fst_mk ?_
    refine Blocks.step (Device.clearRequest_blocks ..) ?_
    exact Blocks.refl
theorem refusedOver_blocksBy {d e : Device} {f : Device → Nat → Device × Bool} {l : List Nat} (hf : ∀ x i, Blocks d x → Blocks d (f x i).1) (h : Blocks d e) :
    Blocks d (refusedOver f l e).1 := by
  induction l generalizing e with
  | nil => exact h
  | cons i r ih => exact ih (hf _ i h)
theorem Device.tripRearm_blocks (d : Device) (i : Nat) : Blocks d (Device.tripRearm d i).1 := by
  unfold Device.tripRearm
  extract_lets +onlyGivenNames quiet1
  split
  · refine Blocks.fst_mk ?_
    exact Blocks.refl
  · refine Blocks.fst_mk ?_
    refine Blocks.step (Device.refreshTin_blocks ..) ?_
    refine Device.setProt_blocks (fun _ h => h) ?_
    exact Blocks.refl
theorem Device.sinRearm_blocks (d : Device) (n : Nat) : Blocks d (Device.sinRearm d n).1 := by
  unfold Device.sinRearm
  extract_lets +onlyGivenNames x1
  split
  · refine Blocks.fst_mk ?_
    refine Blocks.step (Device.evalInputs_blocks ..) ?_
    refine Blocks.step (Blocks.of_only (Device.setSin_only ..) rfl) ?_
    exact Blocks.refl
  · refine Blocks.fst_mk ?_
    exact Blocks.refl
theorem execCmdBrkRearm_blocks (t : Tick) (h : CmdHdr) (a : Args) (s s' : State) (h : execCmdBrkRearm t h a s = .next s') : Blocks s.dev s'.dev := by
  refine State.on_blocks h fun d => ?_
  extract_lets +onlyGivenNames b1
  refine Device.cmdIf_blocksBy (fun x2 hx2 => ?_) ?_
  · extract_lets +onlyGivenNames x3
    extract_lets +onlyGivenNames x4
    split
    · refine Blocks.fst_mk ?_
      assumption
    · split
      · refine Blocks.fst_mk ?_
        assumption
      · extract_lets +onlyGivenNames d5
        refine Blocks.cut d5 ?_ fun hd5 => ?_
        · subst d5
          refine Device.setProt_blocks (fun _ h => h) ?_
          assumption
        clear_value d5
        refine Blocks.fst_mk ?_
        refine Blocks.step (Blocks.of_only (Device.brkSettle_only ..) rfl) ?_
        refine Blocks.step (Blocks.of_only (Device.setBrk_only ..) rfl) ?_
        assumption
  exact Blocks.refl
theorem execCmdCellReturn_blocks (t : Tick) (h : CmdHdr) (a : Args) (s s' : State) (h : execCmdCellReturn t h a s = .next s') : Blocks s.dev s'.dev := by
  refine State.on_blocks h fun d => ?_
  refine Device.cellCmd_blocksBy (fun cx1 x1 hx1 => ?_) ?_
  · extract_lets +onlyGivenNames flags2
    split
    · refine Blocks.fst_mk ?_
      assumption
    · split
      · refine Blocks.fst_mk ?_
        assumption
      · split
        · refine Blocks.fst_mk ?_
          assumption
        · split
          · refine Blocks.fst_mk ?_
            assumption
          · extract_lets +onlyGivenNames d3
            refine Blocks.cut d3 ?_ fun hd3 => ?_
            · subst d3
              refine Blocks.step (Blocks.of_only (Device.setCell_only ..) rfl) ?_
              assumption
            clear_value d3
            refine Blocks.fst_mk ?_
            refine Blocks.step (Device.bypassInput_blocks ..) ?_
            refine Device.setProt_blocks (fun _ h => h) ?_
            assumption
  exact Blocks.refl
theorem execCmdTripClear_blocks (t : Tick) (h : CmdHdr) (a : Args) (s s' : State) (h : execCmdTripClear t h a s = .next s') : Blocks s.dev s'.dev := by
  refine State.on_blocks h fun d => ?_
  refine Device.cmd_blocksBy (fun x1 hx1 => ?_) ?_
  · refine Blocks.endsMask ?_
    refine refusedOver_blocksBy (fun x2 cx2 hx2 => ?_) ?_
    · refine Blocks.step (Device.hostClear_blocks ..) ?_
      assumption
    assumption
  exact Blocks.refl
theorem execCmdTripRearm_blocks (t : Tick) (h : CmdHdr) (a : Args) (s s' : State) (h : execCmdTripRearm t h a s = .next s') : Blocks s.dev s'.dev := by
  refine State.on_blocks h fun d => ?_
  refine Device.cmd_blocksBy (fun x1 hx1 => ?_) ?_
  · refine Blocks.endsMask ?_
    refine refusedOver_blocksBy (fun x2 cx2 hx2 => ?_) ?_
    · refine Blocks.step (Device.tripRearm_blocks ..) ?_
      assumption
    assumption
  exact Blocks.refl
theorem execCmdTripForce_blocks (t : Tick) (h : CmdHdr) (a : Args) (s s' : State) (h : execCmdTripForce t h a s = .next s') : Blocks s.dev s'.dev := by
  refine State.on_blocks h fun d => ?_
  refine Device.cmd_blocksBy (fun x1 hx1 => ?_) ?_
  · refine Blocks.fst_mk ?_
    refine Blocks.step (Device.setSrc_blocks ..) ?_
    refine Blocks.step (Device.inputActive_blocks ..) ?_
    refine Device.setProt_blocks (fun _ h => h) ?_
    assumption
  exact Blocks.refl
theorem execCmdSafeReset_blocks (t : Tick) (h : CmdHdr) (a : Args) (s s' : State) (h : execCmdSafeReset t h a s = .next s') : Blocks s.dev s'.dev := by
  refine State.on_blocks h fun d => ?_
  refine Device.cmd_blocksBy (fun x1 hx1 => ?_) ?_
  · split
    · refine Blocks.fst_mk ?_
      assumption
    · split
      · refine Blocks.fst_mk ?_
        assumption
      · split
        rename_i q2
        refine Blocks.cut _ (Blocks.of_fst q2 ?_) fun hx3 => ?_
        · refine Blocks.step (Device.safetyReset_blocks ..) ?_
          assumption
        refine Blocks.fst_mk ?_
        assumption
  exact Blocks.refl
theorem execCmdSafeRearm_blocks (t : Tick) (h : CmdHdr) (a : Args) (s s' : State) (h : execCmdSafeRearm t h a s = .next s') : Blocks s.dev s'.dev := by
  refine State.on_blocks h fun d => ?_
  extract_lets +onlyGivenNames m1
  extract_lets +onlyGivenNames outs2
  refine Device.cmdIf_blocksBy (fun x3 hx3 => ?_) ?_
  · split
    · split
      · refine Blocks.fst_mk ?_
        assumption
      · refine Blocks.endsMask ?_
        refine refusedOver_blocksBy (fun x4 cx4 hx4 => ?_) ?_
        · refine Blocks.step (Blocks.of_only (Device.soutRearm_only ..) rfl) ?_
          assumption
        assumption
    · refine Blocks.endsMask ?_
      refine refusedOver_blocksBy (fun x5 cx5 hx5 => ?_) ?_
      · refine Blocks.step (Device.sinRearm_blocks ..) ?_
        assumption
      assumption
  exact Blocks.refl
theorem execDumpWriteDone_blocks (t : Tick) (ok : Bool) (s s' : State) (h : execDumpWriteDone t ok s = .next s') : Blocks s.dev s'.dev := by
  refine State.on_blocks h fun d => ?_
  split
  · exact Blocks.refl
  · extract_lets +onlyGivenNames finish1
    refine Blocks.ite ?_ ?_
    · extract_lets +onlyGivenNames d2
      extract_lets +onlyGivenNames d3
      refine Blocks.cut d3 ?_ fun hd3 => ?_
      · subst d3
        refine Blocks.step (Blocks.of_only (Device.post_only ..) rfl) ?_
        exact Blocks.refl
      clear_value d3
      extract_lets +onlyGivenNames d4
      refine Blocks.cut d4 ?_ fun hd4 => ?_
      · subst d4
        refine Blocks.step (Blocks.of_only (Device.msix_only ..) rfl) ?_
        refine Device.setPmc_blocks ?_
        assumption
      clear_value d4
      unfold finish1
      split
      · refine Blocks.step (Blocks.of_only (Device.complete_only ..) rfl) ?_
        assumption
      · assumption
    · extract_lets +onlyGivenNames d5
      refine Blocks.cut d5 ?_ fun hd5 => ?_
      · subst d5
        refine Blocks.step (Blocks.of_only (Device.dmaFail_only ..) rfl) ?_
        refine Device.setPmc_blocks ?_
        exact Blocks.refl
      clear_value d5
      refine Blocks.step (Device.errReport_blocks ..) ?_
      unfold finish1
      split
      · refine Blocks.step (Blocks.of_only (Device.complete_only ..) rfl) ?_
        assumption
      · assumption
theorem Device.references_blocks (d : Device) (readings : List Rat) : Blocks d (Device.references d readings) := by
  unfold Device.references
  refine Blocks.foldl (fun x1 b2 hx1 => ?_) ?_
  · refine Blocks.step (Device.refFault_blocks ..) ?_
    assumption
  · exact Blocks.refl
theorem execZephyrRound_blocks (t : Tick) (temps : List Int) (rails : List Nat) (refs : List Rat) (s s' : State) (h : execZephyrRound t temps rails refs s = .next s') : Blocks s.dev s'.dev := by
  refine State.on_blocks h fun d => ?_
  extract_lets +onlyGivenNames r1
  refine Blocks.ite ?_ ?_
  · exact Blocks.refl
  · extract_lets +onlyGivenNames late2
    extract_lets +onlyGivenNames d3
    refine Blocks.cut d3 ?_ fun hd3 => ?_
    · subst d3
      refine Blocks.step (Blocks.of_only (Device.closeRound_only ..) rfl) ?_
      exact Blocks.refl
    clear_value d3
    extract_lets +onlyGivenNames n4
    extract_lets +onlyGivenNames d5
    refine Blocks.cut d5 ?_ fun hd5 => ?_
    · subst d5
      refine Device.setHost_blocks ?_
      assumption
    clear_value d5
    extract_lets +onlyGivenNames d6
    refine Blocks.cut d6 ?_ fun hd6 => ?_
    · subst d6
      refine Device.setHk_blocks ?_
      assumption
    clear_value d6
    extract_lets +onlyGivenNames d7
    refine Blocks.cut d7 ?_ fun hd7 => ?_
    · subst d7
      refine Device.setLink_blocks ?_
      assumption
    clear_value d7
    extract_lets +onlyGivenNames d8
    refine Blocks.cut d8 ?_ fun hd8 => ?_
    · subst d8
      refine Blocks.step (Blocks.of_only (Device.correlateRound_only ..) rfl) ?_
      assumption
    clear_value d8
    extract_lets +onlyGivenNames d9
    refine Blocks.cut d9 ?_ fun hd9 => ?_
    · subst d9
      refine Blocks.step (Device.references_blocks ..) ?_
      refine Blocks.step (Blocks.of_only (Device.supplies_only ..) rfl) ?_
      refine Blocks.step (Blocks.of_only (Device.dieRound_only ..) rfl) ?_
      assumption
    clear_value d9
    extract_lets +onlyGivenNames d10
    refine Blocks.cut d10 ?_ fun hd10 => ?_
    · subst d10
      refine Blocks.step (Blocks.of_only (Device.verifyNext_only ..) rfl) ?_
      refine Blocks.step (Blocks.of_only (Device.pullUpdate_only ..) rfl) ?_
      assumption
    clear_value d10
    extract_lets +onlyGivenNames d11
    refine Blocks.cut d11 ?_ fun hd11 => ?_
    · subst d11
      refine Blocks.foldl (fun x12 b13 hx12 => ?_) ?_
      · refine Blocks.step (Blocks.of_only (Device.xCheckRound_only ..) rfl) ?_
        assumption
      · assumption
    clear_value d11
    refine Blocks.ite ?_ ?_
    · refine Blocks.step (Blocks.of_only (Device.logPersist_only ..) rfl) ?_
      assumption
    · assumption
theorem Device.cycleEnd_blocks (d : Device) : Blocks d (Device.cycleEnd d) := by
  unfold Device.cycleEnd
  extract_lets +onlyGivenNames d1
  refine Blocks.cut d1 ?_ fun hd1 => ?_
  · subst d1
    refine Blocks.step (Device.inputInactive_blocks ..) ?_
    refine Blocks.step (Blocks.of_only (Device.maskChecks_only ..) rfl) ?_
    exact Blocks.refl
  clear_value d1
  extract_lets +onlyGivenNames d2
  refine Blocks.cut d2 ?_ fun hd2 => ?_
  · subst d2
    refine Blocks.foldl (fun x3 b4 hx3 => ?_) ?_
    · refine Blocks.step (Blocks.of_only (Device.mirrorUpdate_only ..) rfl) ?_
      assumption
    · assumption
  clear_value d2
  extract_lets +onlyGivenNames d5
  refine Blocks.cut d5 ?_ fun hd5 => ?_
  · subst d5
    refine Blocks.foldl (fun x6 b7 hx6 => ?_) ?_
    · refine Blocks.step (Blocks.of_only (Device.statusEnd_only ..) rfl) ?_
      assumption
    · refine Blocks.step (Blocks.of_only (Device.frameClose_only ..) rfl) ?_
      assumption
  clear_value d5
  refine Blocks.set_cycle ?_
  assumption
theorem Device.roundItems_blocks (d : Device) (before : Tick) : Blocks d (Device.roundItems d before) := by
  unfold Device.roundItems
  refine Blocks.ite ?_ ?_
  · exact Blocks.refl
  · extract_lets +onlyGivenNames old1
    refine Blocks.step (Device.newForce_blocks ..) ?_
    refine Blocks.step (Blocks.of_only (Device.applyWaiting_only ..) rfl) ?_
    exact Blocks.refl
theorem Device.boundaryAll_blocks (d : Device) : Blocks d (Device.boundaryAll d) := by
  unfold Device.boundaryAll
  extract_lets +onlyGivenNames n1
  extract_lets +onlyGivenNames d2
  refine Blocks.cut d2 ?_ fun hd2 => ?_
  · subst d2
    refine Blocks.step (Device.afterMove_blocks ..) ?_
    refine Blocks.step (Device.boundary_blocks ..) ?_
    refine Blocks.step (Blocks.of_only (Device.closeBoundary_only ..) rfl) ?_
    exact Blocks.refl
  clear_value d2
  extract_lets +onlyGivenNames d3
  refine Blocks.cut d3 ?_ fun hd3 => ?_
  · subst d3
    refine Device.setConv_blocks ?_
    assumption
  clear_value d3
  refine Blocks.ite ?_ ?_
  · refine Blocks.step (Blocks.of_only (Device.lawStop_only ..) rfl) ?_
    assumption
  · assumption
theorem execSampleTrigger_blocks (codes : List (List (BitVec 16))) (s s' : State) (h : execSampleTrigger codes s = .next s') : Blocks s.dev s'.dev := by
  refine State.on_blocks h fun d => ?_
  refine Blocks.ite ?_ ?_
  · exact Blocks.refl
  · extract_lets +onlyGivenNames before1
    extract_lets +onlyGivenNames d2
    refine Blocks.cut d2 ?_ fun hd2 => ?_
    · subst d2
      refine Blocks.step (Device.boundaryAll_blocks ..) ?_
      refine Blocks.step (Device.roundItems_blocks ..) ?_
      refine Blocks.step (Blocks.of_only (Device.cycleBegin_only ..) rfl) ?_
      refine Blocks.step (Device.cycleEnd_blocks ..) ?_
      exact Blocks.refl
    clear_value d2
    extract_lets +onlyGivenNames d3
    refine Blocks.cut d3 ?_ fun hd3 => ?_
    · subst d3
      refine Blocks.step (Blocks.of_only (Device.shiftSamples_only ..) rfl) ?_
      refine Blocks.step (Blocks.of_only (Device.setpFrequency_only ..) rfl) ?_
      refine Blocks.step (Blocks.of_only (Device.maskStarts_only ..) rfl) ?_
      refine Blocks.step (Blocks.of_only (Device.frameOpen_only ..) rfl) ?_
      refine Device.setProt_blocks (fun _ h => h) ?_
      assumption
    clear_value d3
    extract_lets +onlyGivenNames d4
    refine Blocks.cut d4 ?_ fun hd4 => ?_
    · subst d4
      refine Blocks.step (Blocks.of_only (Device.twinCycle_only ..) rfl) ?_
      refine Blocks.step (Blocks.of_only (Device.slpSample_only ..) rfl) ?_
      refine Blocks.step (Blocks.of_only (Device.freezeSnapshot_only ..) rfl) ?_
      assumption
    clear_value d4
    refine Blocks.step (Blocks.of_only (Device.sendStreams_only ..) rfl) ?_
    refine Blocks.step (Blocks.of_only (Device.cycleSequences_only ..) rfl) ?_
    refine Blocks.step (Blocks.of_only (Device.driftDraw_only ..) rfl) ?_
    assumption

end Sys2Proof.Machine
end

