-- ==== Sys2Proof/Laws/State.lean ====
section
/-! SUPPORT. What each setter of a part of the device changes and leaves: one lemma per part. -/

namespace Sys2Proof.Machine

variable (s : State) (d : Device) (q : List Instr)

@[simp] theorem State.setPending_dev : ({ s with pending := q } : State).dev = s.dev := rfl
@[simp] theorem State.setDev_pending : ({ s with dev := d } : State).pending = s.pending := rfl

section
variable (f : Seq → Seq)
@[simp] theorem Device.setSeq_seq : (d.setSeq f).grid.seq = f d.grid.seq := rfl
@[simp] theorem Device.setSeq_ride : (d.setSeq f).grid.ride = d.grid.ride := rfl
@[simp] theorem Device.setSeq_tr : (d.setSeq f).grid.tr = d.grid.tr := rfl
@[simp] theorem Device.setSeq_brk : (d.setSeq f).grid.brk = d.grid.brk := rfl
@[simp] theorem Device.setSeq_now : (d.setSeq f).now = d.now := rfl
@[simp] theorem Device.setSeq_fresh : (d.setSeq f).fresh = d.fresh := rfl
@[simp] theorem Device.setSeq_justSet : (d.setSeq f).justSet = d.justSet := rfl
@[simp] theorem Device.setSeq_straps : (d.setSeq f).straps = d.straps := rfl
@[simp] theorem Device.setSeq_cycle : (d.setSeq f).cycle = d.cycle := rfl
@[simp] theorem Device.setSeq_meas : (d.setSeq f).meas = d.meas := rfl
@[simp] theorem Device.setSeq_law : (d.setSeq f).law = d.law := rfl
@[simp] theorem Device.setSeq_modu : (d.setSeq f).modu = d.modu := rfl
@[simp] theorem Device.setSeq_packs : (d.setSeq f).packs = d.packs := rfl
@[simp] theorem Device.setSeq_meter : (d.setSeq f).meter = d.meter := rfl
@[simp] theorem Device.setSeq_link : (d.setSeq f).link = d.link := rfl
@[simp] theorem Device.setSeq_prot : (d.setSeq f).prot = d.prot := rfl
@[simp] theorem Device.setSeq_safety : (d.setSeq f).safety = d.safety := rfl
@[simp] theorem Device.setSeq_twin : (d.setSeq f).twin = d.twin := rfl
@[simp] theorem Device.setSeq_par : (d.setSeq f).par = d.par := rfl
@[simp] theorem Device.setSeq_parCopies : (d.setSeq f).parCopies = d.parCopies := rfl
@[simp] theorem Device.setSeq_host : (d.setSeq f).host = d.host := rfl
@[simp] theorem Device.setSeq_mirrors : (d.setSeq f).mirrors = d.mirrors := rfl
@[simp] theorem Device.setSeq_conv : (d.setSeq f).conv = d.conv := rfl
@[simp] theorem Device.setSeq_clk : (d.setSeq f).clk = d.clk := rfl
@[simp] theorem Device.setSeq_net : (d.setSeq f).net = d.net := rfl
@[simp] theorem Device.setSeq_recd : (d.setSeq f).recd = d.recd := rfl
@[simp] theorem Device.setSeq_eh : (d.setSeq f).eh = d.eh := rfl
@[simp] theorem Device.setSeq_prov : (d.setSeq f).prov = d.prov := rfl
@[simp] theorem Device.setSeq_sec : (d.setSeq f).sec = d.sec := rfl
@[simp] theorem Device.setSeq_zep : (d.setSeq f).zep = d.zep := rfl
@[simp] theorem Device.setSeq_rails : (d.setSeq f).rails = d.rails := rfl
end

section
variable (f : Traj → Traj)
@[simp] theorem Device.setTraj_tr : (d.setTraj f).grid.tr = f d.grid.tr := rfl
@[simp] theorem Device.setTraj_ride : (d.setTraj f).grid.ride = d.grid.ride := rfl
@[simp] theorem Device.setTraj_brk : (d.setTraj f).grid.brk = d.grid.brk := rfl
@[simp] theorem Device.setTraj_seq : (d.setTraj f).grid.seq = d.grid.seq := rfl
@[simp] theorem Device.setTraj_now : (d.setTraj f).now = d.now := rfl
@[simp] theorem Device.setTraj_fresh : (d.setTraj f).fresh = d.fresh := rfl
@[simp] theorem Device.setTraj_justSet : (d.setTraj f).justSet = d.justSet := rfl
@[simp] theorem Device.setTraj_straps : (d.setTraj f).straps = d.straps := rfl
@[simp] theorem Device.setTraj_cycle : (d.setTraj f).cycle = d.cycle := rfl
@[simp] theorem Device.setTraj_meas : (d.setTraj f).meas = d.meas := rfl
@[simp] theorem Device.setTraj_law : (d.setTraj f).law = d.law := rfl
@[simp] theorem Device.setTraj_modu : (d.setTraj f).modu = d.modu := rfl
@[simp] theorem Device.setTraj_packs : (d.setTraj f).packs = d.packs := rfl
@[simp] theorem Device.setTraj_meter : (d.setTraj f).meter = d.meter := rfl
@[simp] theorem Device.setTraj_link : (d.setTraj f).link = d.link := rfl
@[simp] theorem Device.setTraj_prot : (d.setTraj f).prot = d.prot := rfl
@[simp] theorem Device.setTraj_safety : (d.setTraj f).safety = d.safety := rfl
@[simp] theorem Device.setTraj_twin : (d.setTraj f).twin = d.twin := rfl
@[simp] theorem Device.setTraj_par : (d.setTraj f).par = d.par := rfl
@[simp] theorem Device.setTraj_parCopies : (d.setTraj f).parCopies = d.parCopies := rfl
@[simp] theorem Device.setTraj_host : (d.setTraj f).host = d.host := rfl
@[simp] theorem Device.setTraj_mirrors : (d.setTraj f).mirrors = d.mirrors := rfl
@[simp] theorem Device.setTraj_conv : (d.setTraj f).conv = d.conv := rfl
@[simp] theorem Device.setTraj_clk : (d.setTraj f).clk = d.clk := rfl
@[simp] theorem Device.setTraj_net : (d.setTraj f).net = d.net := rfl
@[simp] theorem Device.setTraj_recd : (d.setTraj f).recd = d.recd := rfl
@[simp] theorem Device.setTraj_eh : (d.setTraj f).eh = d.eh := rfl
@[simp] theorem Device.setTraj_prov : (d.setTraj f).prov = d.prov := rfl
@[simp] theorem Device.setTraj_sec : (d.setTraj f).sec = d.sec := rfl
@[simp] theorem Device.setTraj_zep : (d.setTraj f).zep = d.zep := rfl
@[simp] theorem Device.setTraj_rails : (d.setTraj f).rails = d.rails := rfl
end

section
variable (f : Ride → Ride)
@[simp] theorem Device.setRide_ride : (d.setRide f).grid.ride = f d.grid.ride := rfl
@[simp] theorem Device.setRide_tr : (d.setRide f).grid.tr = d.grid.tr := rfl
@[simp] theorem Device.setRide_brk : (d.setRide f).grid.brk = d.grid.brk := rfl
@[simp] theorem Device.setRide_seq : (d.setRide f).grid.seq = d.grid.seq := rfl
@[simp] theorem Device.setRide_now : (d.setRide f).now = d.now := rfl
@[simp] theorem Device.setRide_fresh : (d.setRide f).fresh = d.fresh := rfl
@[simp] theorem Device.setRide_justSet : (d.setRide f).justSet = d.justSet := rfl
@[simp] theorem Device.setRide_straps : (d.setRide f).straps = d.straps := rfl
@[simp] theorem Device.setRide_cycle : (d.setRide f).cycle = d.cycle := rfl
@[simp] theorem Device.setRide_meas : (d.setRide f).meas = d.meas := rfl
@[simp] theorem Device.setRide_law : (d.setRide f).law = d.law := rfl
@[simp] theorem Device.setRide_modu : (d.setRide f).modu = d.modu := rfl
@[simp] theorem Device.setRide_packs : (d.setRide f).packs = d.packs := rfl
@[simp] theorem Device.setRide_meter : (d.setRide f).meter = d.meter := rfl
@[simp] theorem Device.setRide_link : (d.setRide f).link = d.link := rfl
@[simp] theorem Device.setRide_prot : (d.setRide f).prot = d.prot := rfl
@[simp] theorem Device.setRide_safety : (d.setRide f).safety = d.safety := rfl
@[simp] theorem Device.setRide_twin : (d.setRide f).twin = d.twin := rfl
@[simp] theorem Device.setRide_par : (d.setRide f).par = d.par := rfl
@[simp] theorem Device.setRide_parCopies : (d.setRide f).parCopies = d.parCopies := rfl
@[simp] theorem Device.setRide_host : (d.setRide f).host = d.host := rfl
@[simp] theorem Device.setRide_mirrors : (d.setRide f).mirrors = d.mirrors := rfl
@[simp] theorem Device.setRide_conv : (d.setRide f).conv = d.conv := rfl
@[simp] theorem Device.setRide_clk : (d.setRide f).clk = d.clk := rfl
@[simp] theorem Device.setRide_net : (d.setRide f).net = d.net := rfl
@[simp] theorem Device.setRide_recd : (d.setRide f).recd = d.recd := rfl
@[simp] theorem Device.setRide_eh : (d.setRide f).eh = d.eh := rfl
@[simp] theorem Device.setRide_prov : (d.setRide f).prov = d.prov := rfl
@[simp] theorem Device.setRide_sec : (d.setRide f).sec = d.sec := rfl
@[simp] theorem Device.setRide_zep : (d.setRide f).zep = d.zep := rfl
@[simp] theorem Device.setRide_rails : (d.setRide f).rails = d.rails := rfl
end

section
variable (f : Conv → Conv)
@[simp] theorem Device.setConv_conv : (d.setConv f).conv = f d.conv := rfl
@[simp] theorem Device.setConv_now : (d.setConv f).now = d.now := rfl
@[simp] theorem Device.setConv_fresh : (d.setConv f).fresh = d.fresh := rfl
@[simp] theorem Device.setConv_justSet : (d.setConv f).justSet = d.justSet := rfl
@[simp] theorem Device.setConv_straps : (d.setConv f).straps = d.straps := rfl
@[simp] theorem Device.setConv_cycle : (d.setConv f).cycle = d.cycle := rfl
@[simp] theorem Device.setConv_meas : (d.setConv f).meas = d.meas := rfl
@[simp] theorem Device.setConv_law : (d.setConv f).law = d.law := rfl
@[simp] theorem Device.setConv_grid : (d.setConv f).grid = d.grid := rfl
@[simp] theorem Device.setConv_modu : (d.setConv f).modu = d.modu := rfl
@[simp] theorem Device.setConv_packs : (d.setConv f).packs = d.packs := rfl
@[simp] theorem Device.setConv_meter : (d.setConv f).meter = d.meter := rfl
@[simp] theorem Device.setConv_link : (d.setConv f).link = d.link := rfl
@[simp] theorem Device.setConv_prot : (d.setConv f).prot = d.prot := rfl
@[simp] theorem Device.setConv_safety : (d.setConv f).safety = d.safety := rfl
@[simp] theorem Device.setConv_twin : (d.setConv f).twin = d.twin := rfl
@[simp] theorem Device.setConv_par : (d.setConv f).par = d.par := rfl
@[simp] theorem Device.setConv_parCopies : (d.setConv f).parCopies = d.parCopies := rfl
@[simp] theorem Device.setConv_host : (d.setConv f).host = d.host := rfl
@[simp] theorem Device.setConv_mirrors : (d.setConv f).mirrors = d.mirrors := rfl
@[simp] theorem Device.setConv_clk : (d.setConv f).clk = d.clk := rfl
@[simp] theorem Device.setConv_net : (d.setConv f).net = d.net := rfl
@[simp] theorem Device.setConv_recd : (d.setConv f).recd = d.recd := rfl
@[simp] theorem Device.setConv_eh : (d.setConv f).eh = d.eh := rfl
@[simp] theorem Device.setConv_prov : (d.setConv f).prov = d.prov := rfl
@[simp] theorem Device.setConv_sec : (d.setConv f).sec = d.sec := rfl
@[simp] theorem Device.setConv_zep : (d.setConv f).zep = d.zep := rfl
@[simp] theorem Device.setConv_rails : (d.setConv f).rails = d.rails := rfl
end

section
variable (f : Prot → Prot)
@[simp] theorem Device.setProt_prot : (d.setProt f).prot = f d.prot := rfl
@[simp] theorem Device.setProt_now : (d.setProt f).now = d.now := rfl
@[simp] theorem Device.setProt_fresh : (d.setProt f).fresh = d.fresh := rfl
@[simp] theorem Device.setProt_justSet : (d.setProt f).justSet = d.justSet := rfl
@[simp] theorem Device.setProt_straps : (d.setProt f).straps = d.straps := rfl
@[simp] theorem Device.setProt_cycle : (d.setProt f).cycle = d.cycle := rfl
@[simp] theorem Device.setProt_meas : (d.setProt f).meas = d.meas := rfl
@[simp] theorem Device.setProt_law : (d.setProt f).law = d.law := rfl
@[simp] theorem Device.setProt_grid : (d.setProt f).grid = d.grid := rfl
@[simp] theorem Device.setProt_modu : (d.setProt f).modu = d.modu := rfl
@[simp] theorem Device.setProt_packs : (d.setProt f).packs = d.packs := rfl
@[simp] theorem Device.setProt_meter : (d.setProt f).meter = d.meter := rfl
@[simp] theorem Device.setProt_link : (d.setProt f).link = d.link := rfl
@[simp] theorem Device.setProt_safety : (d.setProt f).safety = d.safety := rfl
@[simp] theorem Device.setProt_twin : (d.setProt f).twin = d.twin := rfl
@[simp] theorem Device.setProt_par : (d.setProt f).par = d.par := rfl
@[simp] theorem Device.setProt_parCopies : (d.setProt f).parCopies = d.parCopies := rfl
@[simp] theorem Device.setProt_host : (d.setProt f).host = d.host := rfl
@[simp] theorem Device.setProt_mirrors : (d.setProt f).mirrors = d.mirrors := rfl
@[simp] theorem Device.setProt_conv : (d.setProt f).conv = d.conv := rfl
@[simp] theorem Device.setProt_clk : (d.setProt f).clk = d.clk := rfl
@[simp] theorem Device.setProt_net : (d.setProt f).net = d.net := rfl
@[simp] theorem Device.setProt_recd : (d.setProt f).recd = d.recd := rfl
@[simp] theorem Device.setProt_eh : (d.setProt f).eh = d.eh := rfl
@[simp] theorem Device.setProt_prov : (d.setProt f).prov = d.prov := rfl
@[simp] theorem Device.setProt_sec : (d.setProt f).sec = d.sec := rfl
@[simp] theorem Device.setProt_zep : (d.setProt f).zep = d.zep := rfl
@[simp] theorem Device.setProt_rails : (d.setProt f).rails = d.rails := rfl
end

section
variable (f : Modu → Modu)
@[simp] theorem Device.setModu_modu : (d.setModu f).modu = f d.modu := rfl
@[simp] theorem Device.setModu_now : (d.setModu f).now = d.now := rfl
@[simp] theorem Device.setModu_fresh : (d.setModu f).fresh = d.fresh := rfl
@[simp] theorem Device.setModu_justSet : (d.setModu f).justSet = d.justSet := rfl
@[simp] theorem Device.setModu_straps : (d.setModu f).straps = d.straps := rfl
@[simp] theorem Device.setModu_cycle : (d.setModu f).cycle = d.cycle := rfl
@[simp] theorem Device.setModu_meas : (d.setModu f).meas = d.meas := rfl
@[simp] theorem Device.setModu_law : (d.setModu f).law = d.law := rfl
@[simp] theorem Device.setModu_grid : (d.setModu f).grid = d.grid := rfl
@[simp] theorem Device.setModu_packs : (d.setModu f).packs = d.packs := rfl
@[simp] theorem Device.setModu_meter : (d.setModu f).meter = d.meter := rfl
@[simp] theorem Device.setModu_link : (d.setModu f).link = d.link := rfl
@[simp] theorem Device.setModu_prot : (d.setModu f).prot = d.prot := rfl
@[simp] theorem Device.setModu_safety : (d.setModu f).safety = d.safety := rfl
@[simp] theorem Device.setModu_twin : (d.setModu f).twin = d.twin := rfl
@[simp] theorem Device.setModu_par : (d.setModu f).par = d.par := rfl
@[simp] theorem Device.setModu_parCopies : (d.setModu f).parCopies = d.parCopies := rfl
@[simp] theorem Device.setModu_host : (d.setModu f).host = d.host := rfl
@[simp] theorem Device.setModu_mirrors : (d.setModu f).mirrors = d.mirrors := rfl
@[simp] theorem Device.setModu_conv : (d.setModu f).conv = d.conv := rfl
@[simp] theorem Device.setModu_clk : (d.setModu f).clk = d.clk := rfl
@[simp] theorem Device.setModu_net : (d.setModu f).net = d.net := rfl
@[simp] theorem Device.setModu_recd : (d.setModu f).recd = d.recd := rfl
@[simp] theorem Device.setModu_eh : (d.setModu f).eh = d.eh := rfl
@[simp] theorem Device.setModu_prov : (d.setModu f).prov = d.prov := rfl
@[simp] theorem Device.setModu_sec : (d.setModu f).sec = d.sec := rfl
@[simp] theorem Device.setModu_zep : (d.setModu f).zep = d.zep := rfl
@[simp] theorem Device.setModu_rails : (d.setModu f).rails = d.rails := rfl
end

section
variable (f : Safety → Safety)
@[simp] theorem Device.setSaf_safety : (d.setSaf f).safety = f d.safety := rfl
@[simp] theorem Device.setSaf_now : (d.setSaf f).now = d.now := rfl
@[simp] theorem Device.setSaf_fresh : (d.setSaf f).fresh = d.fresh := rfl
@[simp] theorem Device.setSaf_justSet : (d.setSaf f).justSet = d.justSet := rfl
@[simp] theorem Device.setSaf_straps : (d.setSaf f).straps = d.straps := rfl
@[simp] theorem Device.setSaf_cycle : (d.setSaf f).cycle = d.cycle := rfl
@[simp] theorem Device.setSaf_meas : (d.setSaf f).meas = d.meas := rfl
@[simp] theorem Device.setSaf_law : (d.setSaf f).law = d.law := rfl
@[simp] theorem Device.setSaf_grid : (d.setSaf f).grid = d.grid := rfl
@[simp] theorem Device.setSaf_modu : (d.setSaf f).modu = d.modu := rfl
@[simp] theorem Device.setSaf_packs : (d.setSaf f).packs = d.packs := rfl
@[simp] theorem Device.setSaf_meter : (d.setSaf f).meter = d.meter := rfl
@[simp] theorem Device.setSaf_link : (d.setSaf f).link = d.link := rfl
@[simp] theorem Device.setSaf_prot : (d.setSaf f).prot = d.prot := rfl
@[simp] theorem Device.setSaf_twin : (d.setSaf f).twin = d.twin := rfl
@[simp] theorem Device.setSaf_par : (d.setSaf f).par = d.par := rfl
@[simp] theorem Device.setSaf_parCopies : (d.setSaf f).parCopies = d.parCopies := rfl
@[simp] theorem Device.setSaf_host : (d.setSaf f).host = d.host := rfl
@[simp] theorem Device.setSaf_mirrors : (d.setSaf f).mirrors = d.mirrors := rfl
@[simp] theorem Device.setSaf_conv : (d.setSaf f).conv = d.conv := rfl
@[simp] theorem Device.setSaf_clk : (d.setSaf f).clk = d.clk := rfl
@[simp] theorem Device.setSaf_net : (d.setSaf f).net = d.net := rfl
@[simp] theorem Device.setSaf_recd : (d.setSaf f).recd = d.recd := rfl
@[simp] theorem Device.setSaf_eh : (d.setSaf f).eh = d.eh := rfl
@[simp] theorem Device.setSaf_prov : (d.setSaf f).prov = d.prov := rfl
@[simp] theorem Device.setSaf_sec : (d.setSaf f).sec = d.sec := rfl
@[simp] theorem Device.setSaf_zep : (d.setSaf f).zep = d.zep := rfl
@[simp] theorem Device.setSaf_rails : (d.setSaf f).rails = d.rails := rfl
end

section
variable (f : Twin → Twin)
@[simp] theorem Device.setTwin_twin : (d.setTwin f).twin = f d.twin := rfl
@[simp] theorem Device.setTwin_now : (d.setTwin f).now = d.now := rfl
@[simp] theorem Device.setTwin_fresh : (d.setTwin f).fresh = d.fresh := rfl
@[simp] theorem Device.setTwin_justSet : (d.setTwin f).justSet = d.justSet := rfl
@[simp] theorem Device.setTwin_straps : (d.setTwin f).straps = d.straps := rfl
@[simp] theorem Device.setTwin_cycle : (d.setTwin f).cycle = d.cycle := rfl
@[simp] theorem Device.setTwin_meas : (d.setTwin f).meas = d.meas := rfl
@[simp] theorem Device.setTwin_law : (d.setTwin f).law = d.law := rfl
@[simp] theorem Device.setTwin_grid : (d.setTwin f).grid = d.grid := rfl
@[simp] theorem Device.setTwin_modu : (d.setTwin f).modu = d.modu := rfl
@[simp] theorem Device.setTwin_packs : (d.setTwin f).packs = d.packs := rfl
@[simp] theorem Device.setTwin_meter : (d.setTwin f).meter = d.meter := rfl
@[simp] theorem Device.setTwin_link : (d.setTwin f).link = d.link := rfl
@[simp] theorem Device.setTwin_prot : (d.setTwin f).prot = d.prot := rfl
@[simp] theorem Device.setTwin_safety : (d.setTwin f).safety = d.safety := rfl
@[simp] theorem Device.setTwin_par : (d.setTwin f).par = d.par := rfl
@[simp] theorem Device.setTwin_parCopies : (d.setTwin f).parCopies = d.parCopies := rfl
@[simp] theorem Device.setTwin_host : (d.setTwin f).host = d.host := rfl
@[simp] theorem Device.setTwin_mirrors : (d.setTwin f).mirrors = d.mirrors := rfl
@[simp] theorem Device.setTwin_conv : (d.setTwin f).conv = d.conv := rfl
@[simp] theorem Device.setTwin_clk : (d.setTwin f).clk = d.clk := rfl
@[simp] theorem Device.setTwin_net : (d.setTwin f).net = d.net := rfl
@[simp] theorem Device.setTwin_recd : (d.setTwin f).recd = d.recd := rfl
@[simp] theorem Device.setTwin_eh : (d.setTwin f).eh = d.eh := rfl
@[simp] theorem Device.setTwin_prov : (d.setTwin f).prov = d.prov := rfl
@[simp] theorem Device.setTwin_sec : (d.setTwin f).sec = d.sec := rfl
@[simp] theorem Device.setTwin_zep : (d.setTwin f).zep = d.zep := rfl
@[simp] theorem Device.setTwin_rails : (d.setTwin f).rails = d.rails := rfl
end

section
variable (f : HostPort → HostPort)
@[simp] theorem Device.setHost_host : (d.setHost f).host = f d.host := rfl
@[simp] theorem Device.setHost_now : (d.setHost f).now = d.now := rfl
@[simp] theorem Device.setHost_fresh : (d.setHost f).fresh = d.fresh := rfl
@[simp] theorem Device.setHost_justSet : (d.setHost f).justSet = d.justSet := rfl
@[simp] theorem Device.setHost_straps : (d.setHost f).straps = d.straps := rfl
@[simp] theorem Device.setHost_cycle : (d.setHost f).cycle = d.cycle := rfl
@[simp] theorem Device.setHost_meas : (d.setHost f).meas = d.meas := rfl
@[simp] theorem Device.setHost_law : (d.setHost f).law = d.law := rfl
@[simp] theorem Device.setHost_grid : (d.setHost f).grid = d.grid := rfl
@[simp] theorem Device.setHost_modu : (d.setHost f).modu = d.modu := rfl
@[simp] theorem Device.setHost_packs : (d.setHost f).packs = d.packs := rfl
@[simp] theorem Device.setHost_meter : (d.setHost f).meter = d.meter := rfl
@[simp] theorem Device.setHost_link : (d.setHost f).link = d.link := rfl
@[simp] theorem Device.setHost_prot : (d.setHost f).prot = d.prot := rfl
@[simp] theorem Device.setHost_safety : (d.setHost f).safety = d.safety := rfl
@[simp] theorem Device.setHost_twin : (d.setHost f).twin = d.twin := rfl
@[simp] theorem Device.setHost_par : (d.setHost f).par = d.par := rfl
@[simp] theorem Device.setHost_parCopies : (d.setHost f).parCopies = d.parCopies := rfl
@[simp] theorem Device.setHost_mirrors : (d.setHost f).mirrors = d.mirrors := rfl
@[simp] theorem Device.setHost_conv : (d.setHost f).conv = d.conv := rfl
@[simp] theorem Device.setHost_clk : (d.setHost f).clk = d.clk := rfl
@[simp] theorem Device.setHost_net : (d.setHost f).net = d.net := rfl
@[simp] theorem Device.setHost_recd : (d.setHost f).recd = d.recd := rfl
@[simp] theorem Device.setHost_eh : (d.setHost f).eh = d.eh := rfl
@[simp] theorem Device.setHost_prov : (d.setHost f).prov = d.prov := rfl
@[simp] theorem Device.setHost_sec : (d.setHost f).sec = d.sec := rfl
@[simp] theorem Device.setHost_zep : (d.setHost f).zep = d.zep := rfl
@[simp] theorem Device.setHost_rails : (d.setHost f).rails = d.rails := rfl
end

section
variable (f : Link → Link)
@[simp] theorem Device.setLink_link : (d.setLink f).link = f d.link := rfl
@[simp] theorem Device.setLink_now : (d.setLink f).now = d.now := rfl
@[simp] theorem Device.setLink_fresh : (d.setLink f).fresh = d.fresh := rfl
@[simp] theorem Device.setLink_justSet : (d.setLink f).justSet = d.justSet := rfl
@[simp] theorem Device.setLink_straps : (d.setLink f).straps = d.straps := rfl
@[simp] theorem Device.setLink_cycle : (d.setLink f).cycle = d.cycle := rfl
@[simp] theorem Device.setLink_meas : (d.setLink f).meas = d.meas := rfl
@[simp] theorem Device.setLink_law : (d.setLink f).law = d.law := rfl
@[simp] theorem Device.setLink_grid : (d.setLink f).grid = d.grid := rfl
@[simp] theorem Device.setLink_modu : (d.setLink f).modu = d.modu := rfl
@[simp] theorem Device.setLink_packs : (d.setLink f).packs = d.packs := rfl
@[simp] theorem Device.setLink_meter : (d.setLink f).meter = d.meter := rfl
@[simp] theorem Device.setLink_prot : (d.setLink f).prot = d.prot := rfl
@[simp] theorem Device.setLink_safety : (d.setLink f).safety = d.safety := rfl
@[simp] theorem Device.setLink_twin : (d.setLink f).twin = d.twin := rfl
@[simp] theorem Device.setLink_par : (d.setLink f).par = d.par := rfl
@[simp] theorem Device.setLink_parCopies : (d.setLink f).parCopies = d.parCopies := rfl
@[simp] theorem Device.setLink_host : (d.setLink f).host = d.host := rfl
@[simp] theorem Device.setLink_mirrors : (d.setLink f).mirrors = d.mirrors := rfl
@[simp] theorem Device.setLink_conv : (d.setLink f).conv = d.conv := rfl
@[simp] theorem Device.setLink_clk : (d.setLink f).clk = d.clk := rfl
@[simp] theorem Device.setLink_net : (d.setLink f).net = d.net := rfl
@[simp] theorem Device.setLink_recd : (d.setLink f).recd = d.recd := rfl
@[simp] theorem Device.setLink_eh : (d.setLink f).eh = d.eh := rfl
@[simp] theorem Device.setLink_prov : (d.setLink f).prov = d.prov := rfl
@[simp] theorem Device.setLink_sec : (d.setLink f).sec = d.sec := rfl
@[simp] theorem Device.setLink_zep : (d.setLink f).zep = d.zep := rfl
@[simp] theorem Device.setLink_rails : (d.setLink f).rails = d.rails := rfl
end

section
variable (f : Law → Law)
@[simp] theorem Device.setLaw_law : (d.setLaw f).law = f d.law := rfl
@[simp] theorem Device.setLaw_now : (d.setLaw f).now = d.now := rfl
@[simp] theorem Device.setLaw_fresh : (d.setLaw f).fresh = d.fresh := rfl
@[simp] theorem Device.setLaw_justSet : (d.setLaw f).justSet = d.justSet := rfl
@[simp] theorem Device.setLaw_straps : (d.setLaw f).straps = d.straps := rfl
@[simp] theorem Device.setLaw_cycle : (d.setLaw f).cycle = d.cycle := rfl
@[simp] theorem Device.setLaw_meas : (d.setLaw f).meas = d.meas := rfl
@[simp] theorem Device.setLaw_grid : (d.setLaw f).grid = d.grid := rfl
@[simp] theorem Device.setLaw_modu : (d.setLaw f).modu = d.modu := rfl
@[simp] theorem Device.setLaw_packs : (d.setLaw f).packs = d.packs := rfl
@[simp] theorem Device.setLaw_meter : (d.setLaw f).meter = d.meter := rfl
@[simp] theorem Device.setLaw_link : (d.setLaw f).link = d.link := rfl
@[simp] theorem Device.setLaw_prot : (d.setLaw f).prot = d.prot := rfl
@[simp] theorem Device.setLaw_safety : (d.setLaw f).safety = d.safety := rfl
@[simp] theorem Device.setLaw_twin : (d.setLaw f).twin = d.twin := rfl
@[simp] theorem Device.setLaw_par : (d.setLaw f).par = d.par := rfl
@[simp] theorem Device.setLaw_parCopies : (d.setLaw f).parCopies = d.parCopies := rfl
@[simp] theorem Device.setLaw_host : (d.setLaw f).host = d.host := rfl
@[simp] theorem Device.setLaw_mirrors : (d.setLaw f).mirrors = d.mirrors := rfl
@[simp] theorem Device.setLaw_conv : (d.setLaw f).conv = d.conv := rfl
@[simp] theorem Device.setLaw_clk : (d.setLaw f).clk = d.clk := rfl
@[simp] theorem Device.setLaw_net : (d.setLaw f).net = d.net := rfl
@[simp] theorem Device.setLaw_recd : (d.setLaw f).recd = d.recd := rfl
@[simp] theorem Device.setLaw_eh : (d.setLaw f).eh = d.eh := rfl
@[simp] theorem Device.setLaw_prov : (d.setLaw f).prov = d.prov := rfl
@[simp] theorem Device.setLaw_sec : (d.setLaw f).sec = d.sec := rfl
@[simp] theorem Device.setLaw_zep : (d.setLaw f).zep = d.zep := rfl
@[simp] theorem Device.setLaw_rails : (d.setLaw f).rails = d.rails := rfl
end

section
variable (f : Packs → Packs)
@[simp] theorem Device.setPacks_packs : (d.setPacks f).packs = f d.packs := rfl
@[simp] theorem Device.setPacks_now : (d.setPacks f).now = d.now := rfl
@[simp] theorem Device.setPacks_fresh : (d.setPacks f).fresh = d.fresh := rfl
@[simp] theorem Device.setPacks_justSet : (d.setPacks f).justSet = d.justSet := rfl
@[simp] theorem Device.setPacks_straps : (d.setPacks f).straps = d.straps := rfl
@[simp] theorem Device.setPacks_cycle : (d.setPacks f).cycle = d.cycle := rfl
@[simp] theorem Device.setPacks_meas : (d.setPacks f).meas = d.meas := rfl
@[simp] theorem Device.setPacks_law : (d.setPacks f).law = d.law := rfl
@[simp] theorem Device.setPacks_grid : (d.setPacks f).grid = d.grid := rfl
@[simp] theorem Device.setPacks_modu : (d.setPacks f).modu = d.modu := rfl
@[simp] theorem Device.setPacks_meter : (d.setPacks f).meter = d.meter := rfl
@[simp] theorem Device.setPacks_link : (d.setPacks f).link = d.link := rfl
@[simp] theorem Device.setPacks_prot : (d.setPacks f).prot = d.prot := rfl
@[simp] theorem Device.setPacks_safety : (d.setPacks f).safety = d.safety := rfl
@[simp] theorem Device.setPacks_twin : (d.setPacks f).twin = d.twin := rfl
@[simp] theorem Device.setPacks_par : (d.setPacks f).par = d.par := rfl
@[simp] theorem Device.setPacks_parCopies : (d.setPacks f).parCopies = d.parCopies := rfl
@[simp] theorem Device.setPacks_host : (d.setPacks f).host = d.host := rfl
@[simp] theorem Device.setPacks_mirrors : (d.setPacks f).mirrors = d.mirrors := rfl
@[simp] theorem Device.setPacks_conv : (d.setPacks f).conv = d.conv := rfl
@[simp] theorem Device.setPacks_clk : (d.setPacks f).clk = d.clk := rfl
@[simp] theorem Device.setPacks_net : (d.setPacks f).net = d.net := rfl
@[simp] theorem Device.setPacks_recd : (d.setPacks f).recd = d.recd := rfl
@[simp] theorem Device.setPacks_eh : (d.setPacks f).eh = d.eh := rfl
@[simp] theorem Device.setPacks_prov : (d.setPacks f).prov = d.prov := rfl
@[simp] theorem Device.setPacks_sec : (d.setPacks f).sec = d.sec := rfl
@[simp] theorem Device.setPacks_zep : (d.setPacks f).zep = d.zep := rfl
@[simp] theorem Device.setPacks_rails : (d.setPacks f).rails = d.rails := rfl
end

section
variable (f : Meas → Meas)
@[simp] theorem Device.setMeas_meas : (d.setMeas f).meas = f d.meas := rfl
@[simp] theorem Device.setMeas_now : (d.setMeas f).now = d.now := rfl
@[simp] theorem Device.setMeas_fresh : (d.setMeas f).fresh = d.fresh := rfl
@[simp] theorem Device.setMeas_justSet : (d.setMeas f).justSet = d.justSet := rfl
@[simp] theorem Device.setMeas_straps : (d.setMeas f).straps = d.straps := rfl
@[simp] theorem Device.setMeas_cycle : (d.setMeas f).cycle = d.cycle := rfl
@[simp] theorem Device.setMeas_law : (d.setMeas f).law = d.law := rfl
@[simp] theorem Device.setMeas_grid : (d.setMeas f).grid = d.grid := rfl
@[simp] theorem Device.setMeas_modu : (d.setMeas f).modu = d.modu := rfl
@[simp] theorem Device.setMeas_packs : (d.setMeas f).packs = d.packs := rfl
@[simp] theorem Device.setMeas_meter : (d.setMeas f).meter = d.meter := rfl
@[simp] theorem Device.setMeas_link : (d.setMeas f).link = d.link := rfl
@[simp] theorem Device.setMeas_prot : (d.setMeas f).prot = d.prot := rfl
@[simp] theorem Device.setMeas_safety : (d.setMeas f).safety = d.safety := rfl
@[simp] theorem Device.setMeas_twin : (d.setMeas f).twin = d.twin := rfl
@[simp] theorem Device.setMeas_par : (d.setMeas f).par = d.par := rfl
@[simp] theorem Device.setMeas_parCopies : (d.setMeas f).parCopies = d.parCopies := rfl
@[simp] theorem Device.setMeas_host : (d.setMeas f).host = d.host := rfl
@[simp] theorem Device.setMeas_mirrors : (d.setMeas f).mirrors = d.mirrors := rfl
@[simp] theorem Device.setMeas_conv : (d.setMeas f).conv = d.conv := rfl
@[simp] theorem Device.setMeas_clk : (d.setMeas f).clk = d.clk := rfl
@[simp] theorem Device.setMeas_net : (d.setMeas f).net = d.net := rfl
@[simp] theorem Device.setMeas_recd : (d.setMeas f).recd = d.recd := rfl
@[simp] theorem Device.setMeas_eh : (d.setMeas f).eh = d.eh := rfl
@[simp] theorem Device.setMeas_prov : (d.setMeas f).prov = d.prov := rfl
@[simp] theorem Device.setMeas_sec : (d.setMeas f).sec = d.sec := rfl
@[simp] theorem Device.setMeas_zep : (d.setMeas f).zep = d.zep := rfl
@[simp] theorem Device.setMeas_rails : (d.setMeas f).rails = d.rails := rfl
end

section
variable (f : Clk → Clk)
@[simp] theorem Device.setClk_clk : (d.setClk f).clk = f d.clk := rfl
@[simp] theorem Device.setClk_now : (d.setClk f).now = d.now := rfl
@[simp] theorem Device.setClk_fresh : (d.setClk f).fresh = d.fresh := rfl
@[simp] theorem Device.setClk_justSet : (d.setClk f).justSet = d.justSet := rfl
@[simp] theorem Device.setClk_straps : (d.setClk f).straps = d.straps := rfl
@[simp] theorem Device.setClk_cycle : (d.setClk f).cycle = d.cycle := rfl
@[simp] theorem Device.setClk_meas : (d.setClk f).meas = d.meas := rfl
@[simp] theorem Device.setClk_law : (d.setClk f).law = d.law := rfl
@[simp] theorem Device.setClk_grid : (d.setClk f).grid = d.grid := rfl
@[simp] theorem Device.setClk_modu : (d.setClk f).modu = d.modu := rfl
@[simp] theorem Device.setClk_packs : (d.setClk f).packs = d.packs := rfl
@[simp] theorem Device.setClk_meter : (d.setClk f).meter = d.meter := rfl
@[simp] theorem Device.setClk_link : (d.setClk f).link = d.link := rfl
@[simp] theorem Device.setClk_prot : (d.setClk f).prot = d.prot := rfl
@[simp] theorem Device.setClk_safety : (d.setClk f).safety = d.safety := rfl
@[simp] theorem Device.setClk_twin : (d.setClk f).twin = d.twin := rfl
@[simp] theorem Device.setClk_par : (d.setClk f).par = d.par := rfl
@[simp] theorem Device.setClk_parCopies : (d.setClk f).parCopies = d.parCopies := rfl
@[simp] theorem Device.setClk_host : (d.setClk f).host = d.host := rfl
@[simp] theorem Device.setClk_mirrors : (d.setClk f).mirrors = d.mirrors := rfl
@[simp] theorem Device.setClk_conv : (d.setClk f).conv = d.conv := rfl
@[simp] theorem Device.setClk_net : (d.setClk f).net = d.net := rfl
@[simp] theorem Device.setClk_recd : (d.setClk f).recd = d.recd := rfl
@[simp] theorem Device.setClk_eh : (d.setClk f).eh = d.eh := rfl
@[simp] theorem Device.setClk_prov : (d.setClk f).prov = d.prov := rfl
@[simp] theorem Device.setClk_sec : (d.setClk f).sec = d.sec := rfl
@[simp] theorem Device.setClk_zep : (d.setClk f).zep = d.zep := rfl
@[simp] theorem Device.setClk_rails : (d.setClk f).rails = d.rails := rfl
end

section
variable (f : Eh → Eh)
@[simp] theorem Device.setEh_eh : (d.setEh f).eh = f d.eh := rfl
@[simp] theorem Device.setEh_now : (d.setEh f).now = d.now := rfl
@[simp] theorem Device.setEh_fresh : (d.setEh f).fresh = d.fresh := rfl
@[simp] theorem Device.setEh_justSet : (d.setEh f).justSet = d.justSet := rfl
@[simp] theorem Device.setEh_straps : (d.setEh f).straps = d.straps := rfl
@[simp] theorem Device.setEh_cycle : (d.setEh f).cycle = d.cycle := rfl
@[simp] theorem Device.setEh_meas : (d.setEh f).meas = d.meas := rfl
@[simp] theorem Device.setEh_law : (d.setEh f).law = d.law := rfl
@[simp] theorem Device.setEh_grid : (d.setEh f).grid = d.grid := rfl
@[simp] theorem Device.setEh_modu : (d.setEh f).modu = d.modu := rfl
@[simp] theorem Device.setEh_packs : (d.setEh f).packs = d.packs := rfl
@[simp] theorem Device.setEh_meter : (d.setEh f).meter = d.meter := rfl
@[simp] theorem Device.setEh_link : (d.setEh f).link = d.link := rfl
@[simp] theorem Device.setEh_prot : (d.setEh f).prot = d.prot := rfl
@[simp] theorem Device.setEh_safety : (d.setEh f).safety = d.safety := rfl
@[simp] theorem Device.setEh_twin : (d.setEh f).twin = d.twin := rfl
@[simp] theorem Device.setEh_par : (d.setEh f).par = d.par := rfl
@[simp] theorem Device.setEh_parCopies : (d.setEh f).parCopies = d.parCopies := rfl
@[simp] theorem Device.setEh_host : (d.setEh f).host = d.host := rfl
@[simp] theorem Device.setEh_mirrors : (d.setEh f).mirrors = d.mirrors := rfl
@[simp] theorem Device.setEh_conv : (d.setEh f).conv = d.conv := rfl
@[simp] theorem Device.setEh_clk : (d.setEh f).clk = d.clk := rfl
@[simp] theorem Device.setEh_net : (d.setEh f).net = d.net := rfl
@[simp] theorem Device.setEh_recd : (d.setEh f).recd = d.recd := rfl
@[simp] theorem Device.setEh_prov : (d.setEh f).prov = d.prov := rfl
@[simp] theorem Device.setEh_sec : (d.setEh f).sec = d.sec := rfl
@[simp] theorem Device.setEh_zep : (d.setEh f).zep = d.zep := rfl
@[simp] theorem Device.setEh_rails : (d.setEh f).rails = d.rails := rfl
end

section
variable (f : Rec → Rec)
@[simp] theorem Device.setRec_recd : (d.setRec f).recd = f d.recd := rfl
@[simp] theorem Device.setRec_now : (d.setRec f).now = d.now := rfl
@[simp] theorem Device.setRec_fresh : (d.setRec f).fresh = d.fresh := rfl
@[simp] theorem Device.setRec_justSet : (d.setRec f).justSet = d.justSet := rfl
@[simp] theorem Device.setRec_straps : (d.setRec f).straps = d.straps := rfl
@[simp] theorem Device.setRec_cycle : (d.setRec f).cycle = d.cycle := rfl
@[simp] theorem Device.setRec_meas : (d.setRec f).meas = d.meas := rfl
@[simp] theorem Device.setRec_law : (d.setRec f).law = d.law := rfl
@[simp] theorem Device.setRec_grid : (d.setRec f).grid = d.grid := rfl
@[simp] theorem Device.setRec_modu : (d.setRec f).modu = d.modu := rfl
@[simp] theorem Device.setRec_packs : (d.setRec f).packs = d.packs := rfl
@[simp] theorem Device.setRec_meter : (d.setRec f).meter = d.meter := rfl
@[simp] theorem Device.setRec_link : (d.setRec f).link = d.link := rfl
@[simp] theorem Device.setRec_prot : (d.setRec f).prot = d.prot := rfl
@[simp] theorem Device.setRec_safety : (d.setRec f).safety = d.safety := rfl
@[simp] theorem Device.setRec_twin : (d.setRec f).twin = d.twin := rfl
@[simp] theorem Device.setRec_par : (d.setRec f).par = d.par := rfl
@[simp] theorem Device.setRec_parCopies : (d.setRec f).parCopies = d.parCopies := rfl
@[simp] theorem Device.setRec_host : (d.setRec f).host = d.host := rfl
@[simp] theorem Device.setRec_mirrors : (d.setRec f).mirrors = d.mirrors := rfl
@[simp] theorem Device.setRec_conv : (d.setRec f).conv = d.conv := rfl
@[simp] theorem Device.setRec_clk : (d.setRec f).clk = d.clk := rfl
@[simp] theorem Device.setRec_net : (d.setRec f).net = d.net := rfl
@[simp] theorem Device.setRec_eh : (d.setRec f).eh = d.eh := rfl
@[simp] theorem Device.setRec_prov : (d.setRec f).prov = d.prov := rfl
@[simp] theorem Device.setRec_sec : (d.setRec f).sec = d.sec := rfl
@[simp] theorem Device.setRec_zep : (d.setRec f).zep = d.zep := rfl
@[simp] theorem Device.setRec_rails : (d.setRec f).rails = d.rails := rfl
end

section
variable (f : Net → Net)
@[simp] theorem Device.setNet_net : (d.setNet f).net = f d.net := rfl
@[simp] theorem Device.setNet_now : (d.setNet f).now = d.now := rfl
@[simp] theorem Device.setNet_fresh : (d.setNet f).fresh = d.fresh := rfl
@[simp] theorem Device.setNet_justSet : (d.setNet f).justSet = d.justSet := rfl
@[simp] theorem Device.setNet_straps : (d.setNet f).straps = d.straps := rfl
@[simp] theorem Device.setNet_cycle : (d.setNet f).cycle = d.cycle := rfl
@[simp] theorem Device.setNet_meas : (d.setNet f).meas = d.meas := rfl
@[simp] theorem Device.setNet_law : (d.setNet f).law = d.law := rfl
@[simp] theorem Device.setNet_grid : (d.setNet f).grid = d.grid := rfl
@[simp] theorem Device.setNet_modu : (d.setNet f).modu = d.modu := rfl
@[simp] theorem Device.setNet_packs : (d.setNet f).packs = d.packs := rfl
@[simp] theorem Device.setNet_meter : (d.setNet f).meter = d.meter := rfl
@[simp] theorem Device.setNet_link : (d.setNet f).link = d.link := rfl
@[simp] theorem Device.setNet_prot : (d.setNet f).prot = d.prot := rfl
@[simp] theorem Device.setNet_safety : (d.setNet f).safety = d.safety := rfl
@[simp] theorem Device.setNet_twin : (d.setNet f).twin = d.twin := rfl
@[simp] theorem Device.setNet_par : (d.setNet f).par = d.par := rfl
@[simp] theorem Device.setNet_parCopies : (d.setNet f).parCopies = d.parCopies := rfl
@[simp] theorem Device.setNet_host : (d.setNet f).host = d.host := rfl
@[simp] theorem Device.setNet_mirrors : (d.setNet f).mirrors = d.mirrors := rfl
@[simp] theorem Device.setNet_conv : (d.setNet f).conv = d.conv := rfl
@[simp] theorem Device.setNet_clk : (d.setNet f).clk = d.clk := rfl
@[simp] theorem Device.setNet_recd : (d.setNet f).recd = d.recd := rfl
@[simp] theorem Device.setNet_eh : (d.setNet f).eh = d.eh := rfl
@[simp] theorem Device.setNet_prov : (d.setNet f).prov = d.prov := rfl
@[simp] theorem Device.setNet_sec : (d.setNet f).sec = d.sec := rfl
@[simp] theorem Device.setNet_zep : (d.setNet f).zep = d.zep := rfl
@[simp] theorem Device.setNet_rails : (d.setNet f).rails = d.rails := rfl
end

section
variable (f : Meter → Meter)
@[simp] theorem Device.setMeter_meter : (d.setMeter f).meter = f d.meter := rfl
@[simp] theorem Device.setMeter_now : (d.setMeter f).now = d.now := rfl
@[simp] theorem Device.setMeter_fresh : (d.setMeter f).fresh = d.fresh := rfl
@[simp] theorem Device.setMeter_justSet : (d.setMeter f).justSet = d.justSet := rfl
@[simp] theorem Device.setMeter_straps : (d.setMeter f).straps = d.straps := rfl
@[simp] theorem Device.setMeter_cycle : (d.setMeter f).cycle = d.cycle := rfl
@[simp] theorem Device.setMeter_meas : (d.setMeter f).meas = d.meas := rfl
@[simp] theorem Device.setMeter_law : (d.setMeter f).law = d.law := rfl
@[simp] theorem Device.setMeter_grid : (d.setMeter f).grid = d.grid := rfl
@[simp] theorem Device.setMeter_modu : (d.setMeter f).modu = d.modu := rfl
@[simp] theorem Device.setMeter_packs : (d.setMeter f).packs = d.packs := rfl
@[simp] theorem Device.setMeter_link : (d.setMeter f).link = d.link := rfl
@[simp] theorem Device.setMeter_prot : (d.setMeter f).prot = d.prot := rfl
@[simp] theorem Device.setMeter_safety : (d.setMeter f).safety = d.safety := rfl
@[simp] theorem Device.setMeter_twin : (d.setMeter f).twin = d.twin := rfl
@[simp] theorem Device.setMeter_par : (d.setMeter f).par = d.par := rfl
@[simp] theorem Device.setMeter_parCopies : (d.setMeter f).parCopies = d.parCopies := rfl
@[simp] theorem Device.setMeter_host : (d.setMeter f).host = d.host := rfl
@[simp] theorem Device.setMeter_mirrors : (d.setMeter f).mirrors = d.mirrors := rfl
@[simp] theorem Device.setMeter_conv : (d.setMeter f).conv = d.conv := rfl
@[simp] theorem Device.setMeter_clk : (d.setMeter f).clk = d.clk := rfl
@[simp] theorem Device.setMeter_net : (d.setMeter f).net = d.net := rfl
@[simp] theorem Device.setMeter_recd : (d.setMeter f).recd = d.recd := rfl
@[simp] theorem Device.setMeter_eh : (d.setMeter f).eh = d.eh := rfl
@[simp] theorem Device.setMeter_prov : (d.setMeter f).prov = d.prov := rfl
@[simp] theorem Device.setMeter_sec : (d.setMeter f).sec = d.sec := rfl
@[simp] theorem Device.setMeter_zep : (d.setMeter f).zep = d.zep := rfl
@[simp] theorem Device.setMeter_rails : (d.setMeter f).rails = d.rails := rfl
end

section
variable (f : Sec → Sec)
@[simp] theorem Device.setSec_sec : (d.setSec f).sec = f d.sec := rfl
@[simp] theorem Device.setSec_now : (d.setSec f).now = d.now := rfl
@[simp] theorem Device.setSec_fresh : (d.setSec f).fresh = d.fresh := rfl
@[simp] theorem Device.setSec_justSet : (d.setSec f).justSet = d.justSet := rfl
@[simp] theorem Device.setSec_straps : (d.setSec f).straps = d.straps := rfl
@[simp] theorem Device.setSec_cycle : (d.setSec f).cycle = d.cycle := rfl
@[simp] theorem Device.setSec_meas : (d.setSec f).meas = d.meas := rfl
@[simp] theorem Device.setSec_law : (d.setSec f).law = d.law := rfl
@[simp] theorem Device.setSec_grid : (d.setSec f).grid = d.grid := rfl
@[simp] theorem Device.setSec_modu : (d.setSec f).modu = d.modu := rfl
@[simp] theorem Device.setSec_packs : (d.setSec f).packs = d.packs := rfl
@[simp] theorem Device.setSec_meter : (d.setSec f).meter = d.meter := rfl
@[simp] theorem Device.setSec_link : (d.setSec f).link = d.link := rfl
@[simp] theorem Device.setSec_prot : (d.setSec f).prot = d.prot := rfl
@[simp] theorem Device.setSec_safety : (d.setSec f).safety = d.safety := rfl
@[simp] theorem Device.setSec_twin : (d.setSec f).twin = d.twin := rfl
@[simp] theorem Device.setSec_par : (d.setSec f).par = d.par := rfl
@[simp] theorem Device.setSec_parCopies : (d.setSec f).parCopies = d.parCopies := rfl
@[simp] theorem Device.setSec_host : (d.setSec f).host = d.host := rfl
@[simp] theorem Device.setSec_mirrors : (d.setSec f).mirrors = d.mirrors := rfl
@[simp] theorem Device.setSec_conv : (d.setSec f).conv = d.conv := rfl
@[simp] theorem Device.setSec_clk : (d.setSec f).clk = d.clk := rfl
@[simp] theorem Device.setSec_net : (d.setSec f).net = d.net := rfl
@[simp] theorem Device.setSec_recd : (d.setSec f).recd = d.recd := rfl
@[simp] theorem Device.setSec_eh : (d.setSec f).eh = d.eh := rfl
@[simp] theorem Device.setSec_prov : (d.setSec f).prov = d.prov := rfl
@[simp] theorem Device.setSec_zep : (d.setSec f).zep = d.zep := rfl
@[simp] theorem Device.setSec_rails : (d.setSec f).rails = d.rails := rfl
end

section
variable (f : ParamState → ParamState)
@[simp] theorem Device.setPar_par : (d.setPar f).par = f d.par := rfl
@[simp] theorem Device.setPar_now : (d.setPar f).now = d.now := rfl
@[simp] theorem Device.setPar_fresh : (d.setPar f).fresh = d.fresh := rfl
@[simp] theorem Device.setPar_justSet : (d.setPar f).justSet = d.justSet := rfl
@[simp] theorem Device.setPar_straps : (d.setPar f).straps = d.straps := rfl
@[simp] theorem Device.setPar_cycle : (d.setPar f).cycle = d.cycle := rfl
@[simp] theorem Device.setPar_meas : (d.setPar f).meas = d.meas := rfl
@[simp] theorem Device.setPar_law : (d.setPar f).law = d.law := rfl
@[simp] theorem Device.setPar_grid : (d.setPar f).grid = d.grid := rfl
@[simp] theorem Device.setPar_modu : (d.setPar f).modu = d.modu := rfl
@[simp] theorem Device.setPar_packs : (d.setPar f).packs = d.packs := rfl
@[simp] theorem Device.setPar_meter : (d.setPar f).meter = d.meter := rfl
@[simp] theorem Device.setPar_link : (d.setPar f).link = d.link := rfl
@[simp] theorem Device.setPar_prot : (d.setPar f).prot = d.prot := rfl
@[simp] theorem Device.setPar_safety : (d.setPar f).safety = d.safety := rfl
@[simp] theorem Device.setPar_twin : (d.setPar f).twin = d.twin := rfl
@[simp] theorem Device.setPar_parCopies : (d.setPar f).parCopies = d.parCopies := rfl
@[simp] theorem Device.setPar_host : (d.setPar f).host = d.host := rfl
@[simp] theorem Device.setPar_mirrors : (d.setPar f).mirrors = d.mirrors := rfl
@[simp] theorem Device.setPar_conv : (d.setPar f).conv = d.conv := rfl
@[simp] theorem Device.setPar_clk : (d.setPar f).clk = d.clk := rfl
@[simp] theorem Device.setPar_net : (d.setPar f).net = d.net := rfl
@[simp] theorem Device.setPar_recd : (d.setPar f).recd = d.recd := rfl
@[simp] theorem Device.setPar_eh : (d.setPar f).eh = d.eh := rfl
@[simp] theorem Device.setPar_prov : (d.setPar f).prov = d.prov := rfl
@[simp] theorem Device.setPar_sec : (d.setPar f).sec = d.sec := rfl
@[simp] theorem Device.setPar_zep : (d.setPar f).zep = d.zep := rfl
@[simp] theorem Device.setPar_rails : (d.setPar f).rails = d.rails := rfl
end

section
variable (f : Pmc → Pmc)
@[simp] theorem Device.setPmc_pmc : (d.setPmc f).zep.pmc = f d.zep.pmc := rfl
@[simp] theorem Device.setPmc_drift : (d.setPmc f).zep.drift = d.zep.drift := rfl
@[simp] theorem Device.setPmc_hk : (d.setPmc f).zep.hk = d.zep.hk := rfl
@[simp] theorem Device.setPmc_now : (d.setPmc f).now = d.now := rfl
@[simp] theorem Device.setPmc_fresh : (d.setPmc f).fresh = d.fresh := rfl
@[simp] theorem Device.setPmc_justSet : (d.setPmc f).justSet = d.justSet := rfl
@[simp] theorem Device.setPmc_straps : (d.setPmc f).straps = d.straps := rfl
@[simp] theorem Device.setPmc_cycle : (d.setPmc f).cycle = d.cycle := rfl
@[simp] theorem Device.setPmc_meas : (d.setPmc f).meas = d.meas := rfl
@[simp] theorem Device.setPmc_law : (d.setPmc f).law = d.law := rfl
@[simp] theorem Device.setPmc_grid : (d.setPmc f).grid = d.grid := rfl
@[simp] theorem Device.setPmc_modu : (d.setPmc f).modu = d.modu := rfl
@[simp] theorem Device.setPmc_packs : (d.setPmc f).packs = d.packs := rfl
@[simp] theorem Device.setPmc_meter : (d.setPmc f).meter = d.meter := rfl
@[simp] theorem Device.setPmc_link : (d.setPmc f).link = d.link := rfl
@[simp] theorem Device.setPmc_prot : (d.setPmc f).prot = d.prot := rfl
@[simp] theorem Device.setPmc_safety : (d.setPmc f).safety = d.safety := rfl
@[simp] theorem Device.setPmc_twin : (d.setPmc f).twin = d.twin := rfl
@[simp] theorem Device.setPmc_par : (d.setPmc f).par = d.par := rfl
@[simp] theorem Device.setPmc_parCopies : (d.setPmc f).parCopies = d.parCopies := rfl
@[simp] theorem Device.setPmc_host : (d.setPmc f).host = d.host := rfl
@[simp] theorem Device.setPmc_mirrors : (d.setPmc f).mirrors = d.mirrors := rfl
@[simp] theorem Device.setPmc_conv : (d.setPmc f).conv = d.conv := rfl
@[simp] theorem Device.setPmc_clk : (d.setPmc f).clk = d.clk := rfl
@[simp] theorem Device.setPmc_net : (d.setPmc f).net = d.net := rfl
@[simp] theorem Device.setPmc_recd : (d.setPmc f).recd = d.recd := rfl
@[simp] theorem Device.setPmc_eh : (d.setPmc f).eh = d.eh := rfl
@[simp] theorem Device.setPmc_prov : (d.setPmc f).prov = d.prov := rfl
@[simp] theorem Device.setPmc_sec : (d.setPmc f).sec = d.sec := rfl
@[simp] theorem Device.setPmc_rails : (d.setPmc f).rails = d.rails := rfl
end

section
variable (f : Hk → Hk)
@[simp] theorem Device.setHk_hk : (d.setHk f).zep.hk = f d.zep.hk := rfl
@[simp] theorem Device.setHk_pmc : (d.setHk f).zep.pmc = d.zep.pmc := rfl
@[simp] theorem Device.setHk_drift : (d.setHk f).zep.drift = d.zep.drift := rfl
@[simp] theorem Device.setHk_now : (d.setHk f).now = d.now := rfl
@[simp] theorem Device.setHk_fresh : (d.setHk f).fresh = d.fresh := rfl
@[simp] theorem Device.setHk_justSet : (d.setHk f).justSet = d.justSet := rfl
@[simp] theorem Device.setHk_straps : (d.setHk f).straps = d.straps := rfl
@[simp] theorem Device.setHk_cycle : (d.setHk f).cycle = d.cycle := rfl
@[simp] theorem Device.setHk_meas : (d.setHk f).meas = d.meas := rfl
@[simp] theorem Device.setHk_law : (d.setHk f).law = d.law := rfl
@[simp] theorem Device.setHk_grid : (d.setHk f).grid = d.grid := rfl
@[simp] theorem Device.setHk_modu : (d.setHk f).modu = d.modu := rfl
@[simp] theorem Device.setHk_packs : (d.setHk f).packs = d.packs := rfl
@[simp] theorem Device.setHk_meter : (d.setHk f).meter = d.meter := rfl
@[simp] theorem Device.setHk_link : (d.setHk f).link = d.link := rfl
@[simp] theorem Device.setHk_prot : (d.setHk f).prot = d.prot := rfl
@[simp] theorem Device.setHk_safety : (d.setHk f).safety = d.safety := rfl
@[simp] theorem Device.setHk_twin : (d.setHk f).twin = d.twin := rfl
@[simp] theorem Device.setHk_par : (d.setHk f).par = d.par := rfl
@[simp] theorem Device.setHk_parCopies : (d.setHk f).parCopies = d.parCopies := rfl
@[simp] theorem Device.setHk_host : (d.setHk f).host = d.host := rfl
@[simp] theorem Device.setHk_mirrors : (d.setHk f).mirrors = d.mirrors := rfl
@[simp] theorem Device.setHk_conv : (d.setHk f).conv = d.conv := rfl
@[simp] theorem Device.setHk_clk : (d.setHk f).clk = d.clk := rfl
@[simp] theorem Device.setHk_net : (d.setHk f).net = d.net := rfl
@[simp] theorem Device.setHk_recd : (d.setHk f).recd = d.recd := rfl
@[simp] theorem Device.setHk_eh : (d.setHk f).eh = d.eh := rfl
@[simp] theorem Device.setHk_prov : (d.setHk f).prov = d.prov := rfl
@[simp] theorem Device.setHk_sec : (d.setHk f).sec = d.sec := rfl
@[simp] theorem Device.setHk_rails : (d.setHk f).rails = d.rails := rfl
end

section
variable (f : Drift → Drift)
@[simp] theorem Device.setDrift_drift : (d.setDrift f).zep.drift = f d.zep.drift := rfl
@[simp] theorem Device.setDrift_pmc : (d.setDrift f).zep.pmc = d.zep.pmc := rfl
@[simp] theorem Device.setDrift_hk : (d.setDrift f).zep.hk = d.zep.hk := rfl
@[simp] theorem Device.setDrift_now : (d.setDrift f).now = d.now := rfl
@[simp] theorem Device.setDrift_fresh : (d.setDrift f).fresh = d.fresh := rfl
@[simp] theorem Device.setDrift_justSet : (d.setDrift f).justSet = d.justSet := rfl
@[simp] theorem Device.setDrift_straps : (d.setDrift f).straps = d.straps := rfl
@[simp] theorem Device.setDrift_cycle : (d.setDrift f).cycle = d.cycle := rfl
@[simp] theorem Device.setDrift_meas : (d.setDrift f).meas = d.meas := rfl
@[simp] theorem Device.setDrift_law : (d.setDrift f).law = d.law := rfl
@[simp] theorem Device.setDrift_grid : (d.setDrift f).grid = d.grid := rfl
@[simp] theorem Device.setDrift_modu : (d.setDrift f).modu = d.modu := rfl
@[simp] theorem Device.setDrift_packs : (d.setDrift f).packs = d.packs := rfl
@[simp] theorem Device.setDrift_meter : (d.setDrift f).meter = d.meter := rfl
@[simp] theorem Device.setDrift_link : (d.setDrift f).link = d.link := rfl
@[simp] theorem Device.setDrift_prot : (d.setDrift f).prot = d.prot := rfl
@[simp] theorem Device.setDrift_safety : (d.setDrift f).safety = d.safety := rfl
@[simp] theorem Device.setDrift_twin : (d.setDrift f).twin = d.twin := rfl
@[simp] theorem Device.setDrift_par : (d.setDrift f).par = d.par := rfl
@[simp] theorem Device.setDrift_parCopies : (d.setDrift f).parCopies = d.parCopies := rfl
@[simp] theorem Device.setDrift_host : (d.setDrift f).host = d.host := rfl
@[simp] theorem Device.setDrift_mirrors : (d.setDrift f).mirrors = d.mirrors := rfl
@[simp] theorem Device.setDrift_conv : (d.setDrift f).conv = d.conv := rfl
@[simp] theorem Device.setDrift_clk : (d.setDrift f).clk = d.clk := rfl
@[simp] theorem Device.setDrift_net : (d.setDrift f).net = d.net := rfl
@[simp] theorem Device.setDrift_recd : (d.setDrift f).recd = d.recd := rfl
@[simp] theorem Device.setDrift_eh : (d.setDrift f).eh = d.eh := rfl
@[simp] theorem Device.setDrift_prov : (d.setDrift f).prov = d.prov := rfl
@[simp] theorem Device.setDrift_sec : (d.setDrift f).sec = d.sec := rfl
@[simp] theorem Device.setDrift_rails : (d.setDrift f).rails = d.rails := rfl
end

end Sys2Proof.Machine
end

