-- ==== Sys2Proof/Laws/Outcome.lean ====
section
/-! SUPPORT. A command's outcome, part by part: every part but those that any command moves is what the effect makes of it, and the effect starts from the device as it stood. -/

namespace Sys2Proof.Machine

variable {s : State} {d a b : Device} {t : Tick} {f : Device → Device} {q : List Instr} {p : Device → Prop}

theorem Device.at_same (r : Region) : r.same (f (d.ready t)) (d.at_ t f) :=
  (Only.step (K := []) (Device.countEdges_only ..) rfl (Only.step (Device.logDigital_only ..) rfl (Only.step (Device.pmcPulse_only ..) rfl Only.refl))).same r (by simp)
theorem Device.ready_same (r : Region) (hr : sub [r] [.time, .stations] = false) : r.same d (d.ready t) :=
  (Device.ready_only d t).same r (by cases r <;> first | decide | exact absurd hr (by decide))

/-- The timebase stands at the command's instant, or where it stood if that is past. -/
@[simp] theorem Device.ready_now : (d.ready t).now = max t d.now := by
  unfold Device.ready Device.advance
  by_cases h : t ≤ d.now
  · simp only [h, if_true]
    exact (Nat.max_eq_right h).symm
  · simp only [h, if_false]
    exact (Nat.max_eq_left (Nat.le_of_not_le h)).symm
@[simp] theorem Device.ready_P : (d.ready t).P = d.P := congrArg ParamState.force (Device.ready_same (d := d) (t := t) .par rfl).symm

/-- A command's outcome in terms of its effect. -/
@[simp] theorem gives_on : Gives (s.on t f) q p ↔ s.pending = q ∧ p (s.dev.carryOut (s.dev.at_ t f)) := by
  constructor
  · rintro ⟨s', h, h1, h2⟩
    cases h
    exact ⟨h1, h2⟩
  · rintro ⟨h1, h2⟩
    exact ⟨_, rfl, h1, h2⟩

@[simp] theorem Device.at_straps : (d.at_ t f).straps = (f (d.ready t)).straps := (Device.at_same (d := d) (t := t) (f := f) .straps).symm
@[simp] theorem Device.ready_straps : (d.ready t).straps = d.straps := (Device.ready_same (d := d) (t := t) .straps rfl).symm
@[simp] theorem Device.carryOut_straps : (a.carryOut b).straps = b.straps := rfl
@[simp] theorem Device.at_cycle : (d.at_ t f).cycle = (f (d.ready t)).cycle := (Device.at_same (d := d) (t := t) (f := f) .cycle).symm
@[simp] theorem Device.ready_cycle : (d.ready t).cycle = d.cycle := (Device.ready_same (d := d) (t := t) .cycle rfl).symm
@[simp] theorem Device.carryOut_cycle : (a.carryOut b).cycle = b.cycle := rfl
@[simp] theorem Device.at_meas : (d.at_ t f).meas = (f (d.ready t)).meas := (Device.at_same (d := d) (t := t) (f := f) .meas).symm
@[simp] theorem Device.ready_meas : (d.ready t).meas = d.meas := (Device.ready_same (d := d) (t := t) .meas rfl).symm
@[simp] theorem Device.carryOut_meas : (a.carryOut b).meas = b.meas := rfl
@[simp] theorem Device.at_law : (d.at_ t f).law = (f (d.ready t)).law := (Device.at_same (d := d) (t := t) (f := f) .law).symm
@[simp] theorem Device.ready_law : (d.ready t).law = d.law := (Device.ready_same (d := d) (t := t) .law rfl).symm
@[simp] theorem Device.carryOut_law : (a.carryOut b).law = b.law := rfl
@[simp] theorem Device.at_modu : (d.at_ t f).modu = (f (d.ready t)).modu := (Device.at_same (d := d) (t := t) (f := f) .modu).symm
@[simp] theorem Device.ready_modu : (d.ready t).modu = d.modu := (Device.ready_same (d := d) (t := t) .modu rfl).symm
@[simp] theorem Device.carryOut_modu : (a.carryOut b).modu = b.modu := rfl
@[simp] theorem Device.at_packs : (d.at_ t f).packs = (f (d.ready t)).packs := (Device.at_same (d := d) (t := t) (f := f) .packs).symm
@[simp] theorem Device.ready_packs : (d.ready t).packs = d.packs := (Device.ready_same (d := d) (t := t) .packs rfl).symm
@[simp] theorem Device.carryOut_packs : (a.carryOut b).packs = b.packs := rfl
@[simp] theorem Device.at_meter : (d.at_ t f).meter = (f (d.ready t)).meter := (Device.at_same (d := d) (t := t) (f := f) .meter).symm
@[simp] theorem Device.ready_meter : (d.ready t).meter = d.meter := (Device.ready_same (d := d) (t := t) .meter rfl).symm
@[simp] theorem Device.carryOut_meter : (a.carryOut b).meter = b.meter := rfl
@[simp] theorem Device.at_link : (d.at_ t f).link = (f (d.ready t)).link := (Device.at_same (d := d) (t := t) (f := f) .link).symm
@[simp] theorem Device.ready_link : (d.ready t).link = d.link := (Device.ready_same (d := d) (t := t) .link rfl).symm
@[simp] theorem Device.carryOut_link : (a.carryOut b).link = b.link := rfl
@[simp] theorem Device.at_safety : (d.at_ t f).safety = (f (d.ready t)).safety := (Device.at_same (d := d) (t := t) (f := f) .safety).symm
@[simp] theorem Device.ready_safety : (d.ready t).safety = d.safety := (Device.ready_same (d := d) (t := t) .safety rfl).symm
@[simp] theorem Device.carryOut_safety : (a.carryOut b).safety = b.safety := rfl
@[simp] theorem Device.at_twin : (d.at_ t f).twin = (f (d.ready t)).twin := (Device.at_same (d := d) (t := t) (f := f) .twin).symm
@[simp] theorem Device.ready_twin : (d.ready t).twin = d.twin := (Device.ready_same (d := d) (t := t) .twin rfl).symm
@[simp] theorem Device.carryOut_twin : (a.carryOut b).twin = b.twin := rfl
@[simp] theorem Device.at_par : (d.at_ t f).par = (f (d.ready t)).par := (Device.at_same (d := d) (t := t) (f := f) .par).symm
@[simp] theorem Device.ready_par : (d.ready t).par = d.par := (Device.ready_same (d := d) (t := t) .par rfl).symm
@[simp] theorem Device.carryOut_par : (a.carryOut b).par = b.par := rfl
@[simp] theorem Device.at_parCopies : (d.at_ t f).parCopies = (f (d.ready t)).parCopies := (Device.at_same (d := d) (t := t) (f := f) .copies).symm
@[simp] theorem Device.ready_parCopies : (d.ready t).parCopies = d.parCopies := (Device.ready_same (d := d) (t := t) .copies rfl).symm
@[simp] theorem Device.carryOut_parCopies : (a.carryOut b).parCopies = b.parCopies := rfl
@[simp] theorem Device.at_mirrors : (d.at_ t f).mirrors = (f (d.ready t)).mirrors := (Device.at_same (d := d) (t := t) (f := f) .mirror).symm
@[simp] theorem Device.ready_mirrors : (d.ready t).mirrors = d.mirrors := (Device.ready_same (d := d) (t := t) .mirror rfl).symm
@[simp] theorem Device.carryOut_mirrors : (a.carryOut b).mirrors = b.mirrors := rfl
@[simp] theorem Device.at_conv : (d.at_ t f).conv = (f (d.ready t)).conv := (Device.at_same (d := d) (t := t) (f := f) .conv).symm
@[simp] theorem Device.ready_conv : (d.ready t).conv = d.conv := (Device.ready_same (d := d) (t := t) .conv rfl).symm
@[simp] theorem Device.carryOut_conv : (a.carryOut b).conv = b.conv := rfl
@[simp] theorem Device.at_clk : (d.at_ t f).clk = (f (d.ready t)).clk := (Device.at_same (d := d) (t := t) (f := f) .clk).symm
@[simp] theorem Device.ready_clk : (d.ready t).clk = d.clk := (Device.ready_same (d := d) (t := t) .clk rfl).symm
@[simp] theorem Device.carryOut_clk : (a.carryOut b).clk = b.clk := rfl
@[simp] theorem Device.at_eh : (d.at_ t f).eh = (f (d.ready t)).eh := (Device.at_same (d := d) (t := t) (f := f) .eh).symm
@[simp] theorem Device.ready_eh : (d.ready t).eh = d.eh := (Device.ready_same (d := d) (t := t) .eh rfl).symm
@[simp] theorem Device.carryOut_eh : (a.carryOut b).eh = b.eh := rfl
@[simp] theorem Device.at_prov : (d.at_ t f).prov = (f (d.ready t)).prov := (Device.at_same (d := d) (t := t) (f := f) .prov).symm
@[simp] theorem Device.ready_prov : (d.ready t).prov = d.prov := (Device.ready_same (d := d) (t := t) .prov rfl).symm
@[simp] theorem Device.carryOut_prov : (a.carryOut b).prov = b.prov := rfl
@[simp] theorem Device.at_sec : (d.at_ t f).sec = (f (d.ready t)).sec := (Device.at_same (d := d) (t := t) (f := f) .sec).symm
@[simp] theorem Device.ready_sec : (d.ready t).sec = d.sec := (Device.ready_same (d := d) (t := t) .sec rfl).symm
@[simp] theorem Device.carryOut_sec : (a.carryOut b).sec = b.sec := rfl
@[simp] theorem Device.at_rails : (d.at_ t f).rails = (f (d.ready t)).rails := (Device.at_same (d := d) (t := t) (f := f) .rails).symm
@[simp] theorem Device.ready_rails : (d.ready t).rails = d.rails := (Device.ready_same (d := d) (t := t) .rails rfl).symm
@[simp] theorem Device.carryOut_rails : (a.carryOut b).rails = b.rails := rfl
@[simp] theorem Device.at_ride : (d.at_ t f).grid.ride = (f (d.ready t)).grid.ride := (Device.at_same (d := d) (t := t) (f := f) .ride).symm
@[simp] theorem Device.ready_ride : (d.ready t).grid.ride = d.grid.ride := (Device.ready_same (d := d) (t := t) .ride rfl).symm
@[simp] theorem Device.carryOut_ride : (a.carryOut b).grid.ride = b.grid.ride := rfl
@[simp] theorem Device.at_tr : (d.at_ t f).grid.tr = (f (d.ready t)).grid.tr := (Device.at_same (d := d) (t := t) (f := f) .traj).symm
@[simp] theorem Device.ready_tr : (d.ready t).grid.tr = d.grid.tr := (Device.ready_same (d := d) (t := t) .traj rfl).symm
@[simp] theorem Device.carryOut_tr : (a.carryOut b).grid.tr = b.grid.tr := rfl
@[simp] theorem Device.at_brk : (d.at_ t f).grid.brk = (f (d.ready t)).grid.brk := (Device.at_same (d := d) (t := t) (f := f) .brk).symm
@[simp] theorem Device.ready_brk : (d.ready t).grid.brk = d.grid.brk := (Device.ready_same (d := d) (t := t) .brk rfl).symm
@[simp] theorem Device.carryOut_brk : (a.carryOut b).grid.brk = b.grid.brk := rfl
@[simp] theorem Device.at_seq : (d.at_ t f).grid.seq = (f (d.ready t)).grid.seq := (Device.at_same (d := d) (t := t) (f := f) .seq).symm
@[simp] theorem Device.ready_seq : (d.ready t).grid.seq = d.grid.seq := (Device.ready_same (d := d) (t := t) .seq rfl).symm
@[simp] theorem Device.carryOut_seq : (a.carryOut b).grid.seq = b.grid.seq := rfl
@[simp] theorem Device.at_host_chans : (d.at_ t f).host.chans = (f (d.ready t)).host.chans := (congrArg (·.1) (Device.at_same (d := d) (t := t) (f := f) .mail)).symm
@[simp] theorem Device.ready_host_chans : (d.ready t).host.chans = d.host.chans := (congrArg (·.1) (Device.ready_same (d := d) (t := t) .mail rfl)).symm
@[simp] theorem Device.carryOut_host_chans : (a.carryOut b).host.chans = b.host.chans := rfl
@[simp] theorem Device.at_host_rr : (d.at_ t f).host.rr = (f (d.ready t)).host.rr := (congrArg (·.2.1) (Device.at_same (d := d) (t := t) (f := f) .mail)).symm
@[simp] theorem Device.ready_host_rr : (d.ready t).host.rr = d.host.rr := (congrArg (·.2.1) (Device.ready_same (d := d) (t := t) .mail rfl)).symm
@[simp] theorem Device.carryOut_host_rr : (a.carryOut b).host.rr = b.host.rr := rfl
@[simp] theorem Device.at_host_outstanding : (d.at_ t f).host.outstanding = (f (d.ready t)).host.outstanding := (congrArg (·.2.2.1) (Device.at_same (d := d) (t := t) (f := f) .mail)).symm
@[simp] theorem Device.ready_host_outstanding : (d.ready t).host.outstanding = d.host.outstanding := (congrArg (·.2.2.1) (Device.ready_same (d := d) (t := t) .mail rfl)).symm
@[simp] theorem Device.carryOut_host_outstanding : (a.carryOut b).host.outstanding = b.host.outstanding := rfl
@[simp] theorem Device.at_host_discarding : (d.at_ t f).host.discarding = (f (d.ready t)).host.discarding := (congrArg (·.2.2.2.1) (Device.at_same (d := d) (t := t) (f := f) .mail)).symm
@[simp] theorem Device.ready_host_discarding : (d.ready t).host.discarding = d.host.discarding := (congrArg (·.2.2.2.1) (Device.ready_same (d := d) (t := t) .mail rfl)).symm
@[simp] theorem Device.carryOut_host_discarding : (a.carryOut b).host.discarding = b.host.discarding := rfl
@[simp] theorem Device.at_host_fences : (d.at_ t f).host.fences = (f (d.ready t)).host.fences := (congrArg (·.2.2.2.2.1) (Device.at_same (d := d) (t := t) (f := f) .mail)).symm
@[simp] theorem Device.ready_host_fences : (d.ready t).host.fences = d.host.fences := (congrArg (·.2.2.2.2.1) (Device.ready_same (d := d) (t := t) .mail rfl)).symm
@[simp] theorem Device.carryOut_host_fences : (a.carryOut b).host.fences = b.host.fences := rfl
@[simp] theorem Device.at_host_fencePend : (d.at_ t f).host.fencePend = (f (d.ready t)).host.fencePend := (congrArg (·.2.2.2.2.2) (Device.at_same (d := d) (t := t) (f := f) .mail)).symm
@[simp] theorem Device.ready_host_fencePend : (d.ready t).host.fencePend = d.host.fencePend := (congrArg (·.2.2.2.2.2) (Device.ready_same (d := d) (t := t) .mail rfl)).symm
@[simp] theorem Device.carryOut_host_fencePend : (a.carryOut b).host.fencePend = b.host.fencePend := rfl
@[simp] theorem Device.at_host_evqBaseL : (d.at_ t f).host.evqBaseL = (f (d.ready t)).host.evqBaseL := (congrArg (·.1) (Device.at_same (d := d) (t := t) (f := f) .queue)).symm
@[simp] theorem Device.ready_host_evqBaseL : (d.ready t).host.evqBaseL = d.host.evqBaseL := (congrArg (·.1) (Device.ready_same (d := d) (t := t) .queue rfl)).symm
@[simp] theorem Device.carryOut_host_evqBaseL : (a.carryOut b).host.evqBaseL = b.host.evqBaseL := rfl
@[simp] theorem Device.at_host_evqBaseH : (d.at_ t f).host.evqBaseH = (f (d.ready t)).host.evqBaseH := (congrArg (·.2.1) (Device.at_same (d := d) (t := t) (f := f) .queue)).symm
@[simp] theorem Device.ready_host_evqBaseH : (d.ready t).host.evqBaseH = d.host.evqBaseH := (congrArg (·.2.1) (Device.ready_same (d := d) (t := t) .queue rfl)).symm
@[simp] theorem Device.carryOut_host_evqBaseH : (a.carryOut b).host.evqBaseH = b.host.evqBaseH := rfl
@[simp] theorem Device.at_host_evqSize : (d.at_ t f).host.evqSize = (f (d.ready t)).host.evqSize := (congrArg (·.2.2.1) (Device.at_same (d := d) (t := t) (f := f) .queue)).symm
@[simp] theorem Device.ready_host_evqSize : (d.ready t).host.evqSize = d.host.evqSize := (congrArg (·.2.2.1) (Device.ready_same (d := d) (t := t) .queue rfl)).symm
@[simp] theorem Device.carryOut_host_evqSize : (a.carryOut b).host.evqSize = b.host.evqSize := rfl
@[simp] theorem Device.at_host_evqOn : (d.at_ t f).host.evqOn = (f (d.ready t)).host.evqOn := (congrArg (·.2.2.2.1) (Device.at_same (d := d) (t := t) (f := f) .queue)).symm
@[simp] theorem Device.ready_host_evqOn : (d.ready t).host.evqOn = d.host.evqOn := (congrArg (·.2.2.2.1) (Device.ready_same (d := d) (t := t) .queue rfl)).symm
@[simp] theorem Device.carryOut_host_evqOn : (a.carryOut b).host.evqOn = b.host.evqOn := rfl
@[simp] theorem Device.at_host_evqHead : (d.at_ t f).host.evqHead = (f (d.ready t)).host.evqHead := (congrArg (·.2.2.2.2.1) (Device.at_same (d := d) (t := t) (f := f) .queue)).symm
@[simp] theorem Device.ready_host_evqHead : (d.ready t).host.evqHead = d.host.evqHead := (congrArg (·.2.2.2.2.1) (Device.ready_same (d := d) (t := t) .queue rfl)).symm
@[simp] theorem Device.carryOut_host_evqHead : (a.carryOut b).host.evqHead = b.host.evqHead := rfl
@[simp] theorem Device.at_host_shadowL : (d.at_ t f).host.shadowL = (f (d.ready t)).host.shadowL := (congrArg (·.2.2.2.2.2.1) (Device.at_same (d := d) (t := t) (f := f) .queue)).symm
@[simp] theorem Device.ready_host_shadowL : (d.ready t).host.shadowL = d.host.shadowL := (congrArg (·.2.2.2.2.2.1) (Device.ready_same (d := d) (t := t) .queue rfl)).symm
@[simp] theorem Device.carryOut_host_shadowL : (a.carryOut b).host.shadowL = b.host.shadowL := rfl
@[simp] theorem Device.at_host_shadowH : (d.at_ t f).host.shadowH = (f (d.ready t)).host.shadowH := (congrArg (·.2.2.2.2.2.2.1) (Device.at_same (d := d) (t := t) (f := f) .queue)).symm
@[simp] theorem Device.ready_host_shadowH : (d.ready t).host.shadowH = d.host.shadowH := (congrArg (·.2.2.2.2.2.2.1) (Device.ready_same (d := d) (t := t) .queue rfl)).symm
@[simp] theorem Device.carryOut_host_shadowH : (a.carryOut b).host.shadowH = b.host.shadowH := rfl
@[simp] theorem Device.at_host_evqIrq : (d.at_ t f).host.evqIrq = (f (d.ready t)).host.evqIrq := (congrArg (·.2.2.2.2.2.2.2.1) (Device.at_same (d := d) (t := t) (f := f) .queue)).symm
@[simp] theorem Device.ready_host_evqIrq : (d.ready t).host.evqIrq = d.host.evqIrq := (congrArg (·.2.2.2.2.2.2.2.1) (Device.ready_same (d := d) (t := t) .queue rfl)).symm
@[simp] theorem Device.carryOut_host_evqIrq : (a.carryOut b).host.evqIrq = b.host.evqIrq := rfl
@[simp] theorem Device.at_host_evqErr : (d.at_ t f).host.evqErr = (f (d.ready t)).host.evqErr := (congrArg (·.2.2.2.2.2.2.2.2) (Device.at_same (d := d) (t := t) (f := f) .queue)).symm
@[simp] theorem Device.ready_host_evqErr : (d.ready t).host.evqErr = d.host.evqErr := (congrArg (·.2.2.2.2.2.2.2.2) (Device.ready_same (d := d) (t := t) .queue rfl)).symm
@[simp] theorem Device.carryOut_host_evqErr : (a.carryOut b).host.evqErr = b.host.evqErr := rfl
@[simp] theorem Device.at_host_outbox : (d.at_ t f).host.outbox = (f (d.ready t)).host.outbox := (congrArg (·.1) (Device.at_same (d := d) (t := t) (f := f) .posts)).symm
@[simp] theorem Device.ready_host_outbox : (d.ready t).host.outbox = d.host.outbox := (congrArg (·.1) (Device.ready_same (d := d) (t := t) .posts rfl)).symm
@[simp] theorem Device.carryOut_host_outbox : (a.carryOut b).host.outbox = b.host.outbox := rfl
@[simp] theorem Device.at_host_evqTail : (d.at_ t f).host.evqTail = (f (d.ready t)).host.evqTail := (congrArg (·.2.1) (Device.at_same (d := d) (t := t) (f := f) .posts)).symm
@[simp] theorem Device.ready_host_evqTail : (d.ready t).host.evqTail = d.host.evqTail := (congrArg (·.2.1) (Device.ready_same (d := d) (t := t) .posts rfl)).symm
@[simp] theorem Device.carryOut_host_evqTail : (a.carryOut b).host.evqTail = b.host.evqTail := rfl
@[simp] theorem Device.at_host_evqSeq : (d.at_ t f).host.evqSeq = (f (d.ready t)).host.evqSeq := (congrArg (·.2.2.1) (Device.at_same (d := d) (t := t) (f := f) .posts)).symm
@[simp] theorem Device.ready_host_evqSeq : (d.ready t).host.evqSeq = d.host.evqSeq := (congrArg (·.2.2.1) (Device.ready_same (d := d) (t := t) .posts rfl)).symm
@[simp] theorem Device.carryOut_host_evqSeq : (a.carryOut b).host.evqSeq = b.host.evqSeq := rfl
@[simp] theorem Device.at_host_unreported : (d.at_ t f).host.unreported = (f (d.ready t)).host.unreported := (congrArg (·.2.2.2.1) (Device.at_same (d := d) (t := t) (f := f) .posts)).symm
@[simp] theorem Device.ready_host_unreported : (d.ready t).host.unreported = d.host.unreported := (congrArg (·.2.2.2.1) (Device.ready_same (d := d) (t := t) .posts rfl)).symm
@[simp] theorem Device.carryOut_host_unreported : (a.carryOut b).host.unreported = b.host.unreported := rfl
@[simp] theorem Device.at_host_visFrom : (d.at_ t f).host.visFrom = (f (d.ready t)).host.visFrom := (congrArg (·.2.2.2.2.1) (Device.at_same (d := d) (t := t) (f := f) .posts)).symm
@[simp] theorem Device.ready_host_visFrom : (d.ready t).host.visFrom = d.host.visFrom := (congrArg (·.2.2.2.2.1) (Device.ready_same (d := d) (t := t) .posts rfl)).symm
@[simp] theorem Device.carryOut_host_visFrom : (a.carryOut b).host.visFrom = b.host.visFrom := rfl
@[simp] theorem Device.at_host_msix : (d.at_ t f).host.msix = (f (d.ready t)).host.msix := (congrArg (·.2.2.2.2.2) (Device.at_same (d := d) (t := t) (f := f) .posts)).symm
@[simp] theorem Device.ready_host_msix : (d.ready t).host.msix = d.host.msix := (congrArg (·.2.2.2.2.2) (Device.ready_same (d := d) (t := t) .posts rfl)).symm
@[simp] theorem Device.carryOut_host_msix : (a.carryOut b).host.msix = b.host.msix := rfl
@[simp] theorem Device.at_host_fwRunning : (d.at_ t f).host.fwRunning = (f (d.ready t)).host.fwRunning := (congrArg (·.1) (Device.at_same (d := d) (t := t) (f := f) .regs)).symm
@[simp] theorem Device.ready_host_fwRunning : (d.ready t).host.fwRunning = d.host.fwRunning := (congrArg (·.1) (Device.ready_same (d := d) (t := t) .regs rfl)).symm
@[simp] theorem Device.carryOut_host_fwRunning : (a.carryOut b).host.fwRunning = b.host.fwRunning := rfl
@[simp] theorem Device.at_host_dmaErr : (d.at_ t f).host.dmaErr = (f (d.ready t)).host.dmaErr := (congrArg (·.2.1) (Device.at_same (d := d) (t := t) (f := f) .regs)).symm
@[simp] theorem Device.ready_host_dmaErr : (d.ready t).host.dmaErr = d.host.dmaErr := (congrArg (·.2.1) (Device.ready_same (d := d) (t := t) .regs rfl)).symm
@[simp] theorem Device.carryOut_host_dmaErr : (a.carryOut b).host.dmaErr = b.host.dmaErr := rfl
@[simp] theorem Device.at_host_hostLost : (d.at_ t f).host.hostLost = (f (d.ready t)).host.hostLost := (congrArg (·.2.2.1) (Device.at_same (d := d) (t := t) (f := f) .regs)).symm
@[simp] theorem Device.ready_host_hostLost : (d.ready t).host.hostLost = d.host.hostLost := (congrArg (·.2.2.1) (Device.ready_same (d := d) (t := t) .regs rfl)).symm
@[simp] theorem Device.carryOut_host_hostLost : (a.carryOut b).host.hostLost = b.host.hostLost := rfl
@[simp] theorem Device.at_host_errCnt : (d.at_ t f).host.errCnt = (f (d.ready t)).host.errCnt := (congrArg (·.2.2.2.1) (Device.at_same (d := d) (t := t) (f := f) .regs)).symm
@[simp] theorem Device.ready_host_errCnt : (d.ready t).host.errCnt = d.host.errCnt := (congrArg (·.2.2.2.1) (Device.ready_same (d := d) (t := t) .regs rfl)).symm
@[simp] theorem Device.carryOut_host_errCnt : (a.carryOut b).host.errCnt = b.host.errCnt := rfl
@[simp] theorem Device.at_host_wdAt : (d.at_ t f).host.wdAt = (f (d.ready t)).host.wdAt := (congrArg (·.2.2.2.2.1) (Device.at_same (d := d) (t := t) (f := f) .regs)).symm
@[simp] theorem Device.ready_host_wdAt : (d.ready t).host.wdAt = d.host.wdAt := (congrArg (·.2.2.2.2.1) (Device.ready_same (d := d) (t := t) .regs rfl)).symm
@[simp] theorem Device.carryOut_host_wdAt : (a.carryOut b).host.wdAt = b.host.wdAt := rfl
@[simp] theorem Device.at_host_reply : (d.at_ t f).host.reply = (f (d.ready t)).host.reply := (congrArg (·.2.2.2.2.2.1) (Device.at_same (d := d) (t := t) (f := f) .regs)).symm
@[simp] theorem Device.ready_host_reply : (d.ready t).host.reply = d.host.reply := (congrArg (·.2.2.2.2.2.1) (Device.ready_same (d := d) (t := t) .regs rfl)).symm
@[simp] theorem Device.carryOut_host_reply : (a.carryOut b).host.reply = b.host.reply := rfl
@[simp] theorem Device.at_host_replyBytes : (d.at_ t f).host.replyBytes = (f (d.ready t)).host.replyBytes := (congrArg (·.2.2.2.2.2.2.1) (Device.at_same (d := d) (t := t) (f := f) .regs)).symm
@[simp] theorem Device.ready_host_replyBytes : (d.ready t).host.replyBytes = d.host.replyBytes := (congrArg (·.2.2.2.2.2.2.1) (Device.ready_same (d := d) (t := t) .regs rfl)).symm
@[simp] theorem Device.carryOut_host_replyBytes : (a.carryOut b).host.replyBytes = b.host.replyBytes := rfl
@[simp] theorem Device.at_host_poisoned : (d.at_ t f).host.poisoned = (f (d.ready t)).host.poisoned := (congrArg (·.2.2.2.2.2.2.2.1) (Device.at_same (d := d) (t := t) (f := f) .regs)).symm
@[simp] theorem Device.ready_host_poisoned : (d.ready t).host.poisoned = d.host.poisoned := (congrArg (·.2.2.2.2.2.2.2.1) (Device.ready_same (d := d) (t := t) .regs rfl)).symm
@[simp] theorem Device.carryOut_host_poisoned : (a.carryOut b).host.poisoned = b.host.poisoned := rfl
@[simp] theorem Device.at_host_pci : (d.at_ t f).host.pci = (f (d.ready t)).host.pci := (congrArg (·.2.2.2.2.2.2.2.2) (Device.at_same (d := d) (t := t) (f := f) .regs)).symm
@[simp] theorem Device.ready_host_pci : (d.ready t).host.pci = d.host.pci := (congrArg (·.2.2.2.2.2.2.2.2) (Device.ready_same (d := d) (t := t) .regs rfl)).symm
@[simp] theorem Device.carryOut_host_pci : (a.carryOut b).host.pci = b.host.pci := rfl
@[simp] theorem Device.at_recd_state : (d.at_ t f).recd.state = (f (d.ready t)).recd.state := (congrArg Rec.state (Device.at_same (d := d) (t := t) (f := f) .recd)).symm
@[simp] theorem Device.ready_recd_state : (d.ready t).recd.state = d.recd.state := (congrArg Rec.state (Device.ready_same (d := d) (t := t) .recd rfl)).symm
@[simp] theorem Device.carryOut_recd_state : (a.carryOut b).recd.state = b.recd.state := rfl
@[simp] theorem Device.at_recd_postClamped : (d.at_ t f).recd.postClamped = (f (d.ready t)).recd.postClamped := (congrArg Rec.postClamped (Device.at_same (d := d) (t := t) (f := f) .recd)).symm
@[simp] theorem Device.ready_recd_postClamped : (d.ready t).recd.postClamped = d.recd.postClamped := (congrArg Rec.postClamped (Device.ready_same (d := d) (t := t) .recd rfl)).symm
@[simp] theorem Device.carryOut_recd_postClamped : (a.carryOut b).recd.postClamped = b.recd.postClamped := rfl
@[simp] theorem Device.at_recd_preCut : (d.at_ t f).recd.preCut = (f (d.ready t)).recd.preCut := (congrArg Rec.preCut (Device.at_same (d := d) (t := t) (f := f) .recd)).symm
@[simp] theorem Device.ready_recd_preCut : (d.ready t).recd.preCut = d.recd.preCut := (congrArg Rec.preCut (Device.ready_same (d := d) (t := t) .recd rfl)).symm
@[simp] theorem Device.carryOut_recd_preCut : (a.carryOut b).recd.preCut = b.recd.preCut := rfl
@[simp] theorem Device.at_recd_preShort : (d.at_ t f).recd.preShort = (f (d.ready t)).recd.preShort := (congrArg Rec.preShort (Device.at_same (d := d) (t := t) (f := f) .recd)).symm
@[simp] theorem Device.ready_recd_preShort : (d.ready t).recd.preShort = d.recd.preShort := (congrArg Rec.preShort (Device.ready_same (d := d) (t := t) .recd rfl)).symm
@[simp] theorem Device.carryOut_recd_preShort : (a.carryOut b).recd.preShort = b.recd.preShort := rfl
@[simp] theorem Device.at_recd_stopPend : (d.at_ t f).recd.stopPend = (f (d.ready t)).recd.stopPend := (congrArg Rec.stopPend (Device.at_same (d := d) (t := t) (f := f) .recd)).symm
@[simp] theorem Device.ready_recd_stopPend : (d.ready t).recd.stopPend = d.recd.stopPend := (congrArg Rec.stopPend (Device.ready_same (d := d) (t := t) .recd rfl)).symm
@[simp] theorem Device.carryOut_recd_stopPend : (a.carryOut b).recd.stopPend = b.recd.stopPend := rfl
@[simp] theorem Device.at_recd_stopMask : (d.at_ t f).recd.stopMask = (f (d.ready t)).recd.stopMask := (congrArg Rec.stopMask (Device.at_same (d := d) (t := t) (f := f) .recd)).symm
@[simp] theorem Device.ready_recd_stopMask : (d.ready t).recd.stopMask = d.recd.stopMask := (congrArg Rec.stopMask (Device.ready_same (d := d) (t := t) .recd rfl)).symm
@[simp] theorem Device.carryOut_recd_stopMask : (a.carryOut b).recd.stopMask = b.recd.stopMask := rfl
@[simp] theorem Device.at_recd_recNum : (d.at_ t f).recd.recNum = (f (d.ready t)).recd.recNum := (congrArg Rec.recNum (Device.at_same (d := d) (t := t) (f := f) .recd)).symm
@[simp] theorem Device.ready_recd_recNum : (d.ready t).recd.recNum = d.recd.recNum := (congrArg Rec.recNum (Device.ready_same (d := d) (t := t) .recd rfl)).symm
@[simp] theorem Device.carryOut_recd_recNum : (a.carryOut b).recd.recNum = b.recd.recNum := rfl
@[simp] theorem Device.at_recd_p : (d.at_ t f).recd.p = (f (d.ready t)).recd.p := (congrArg Rec.p (Device.at_same (d := d) (t := t) (f := f) .recd)).symm
@[simp] theorem Device.ready_recd_p : (d.ready t).recd.p = d.recd.p := (congrArg Rec.p (Device.ready_same (d := d) (t := t) .recd rfl)).symm
@[simp] theorem Device.carryOut_recd_p : (a.carryOut b).recd.p = b.recd.p := rfl
@[simp] theorem Device.at_recd_q : (d.at_ t f).recd.q = (f (d.ready t)).recd.q := (congrArg Rec.q (Device.at_same (d := d) (t := t) (f := f) .recd)).symm
@[simp] theorem Device.ready_recd_q : (d.ready t).recd.q = d.recd.q := (congrArg Rec.q (Device.ready_same (d := d) (t := t) .recd rfl)).symm
@[simp] theorem Device.carryOut_recd_q : (a.carryOut b).recd.q = b.recd.q := rfl
@[simp] theorem Device.at_recd_armAt : (d.at_ t f).recd.armAt = (f (d.ready t)).recd.armAt := (congrArg Rec.armAt (Device.at_same (d := d) (t := t) (f := f) .recd)).symm
@[simp] theorem Device.ready_recd_armAt : (d.ready t).recd.armAt = d.recd.armAt := (congrArg Rec.armAt (Device.ready_same (d := d) (t := t) .recd rfl)).symm
@[simp] theorem Device.carryOut_recd_armAt : (a.carryOut b).recd.armAt = b.recd.armAt := rfl
@[simp] theorem Device.at_recd_wrJ : (d.at_ t f).recd.wrJ = (f (d.ready t)).recd.wrJ := (congrArg Rec.wrJ (Device.at_same (d := d) (t := t) (f := f) .recd)).symm
@[simp] theorem Device.ready_recd_wrJ : (d.ready t).recd.wrJ = d.recd.wrJ := (congrArg Rec.wrJ (Device.ready_same (d := d) (t := t) .recd rfl)).symm
@[simp] theorem Device.carryOut_recd_wrJ : (a.carryOut b).recd.wrJ = b.recd.wrJ := rfl
@[simp] theorem Device.at_recd_armedAt : (d.at_ t f).recd.armedAt = (f (d.ready t)).recd.armedAt := (congrArg Rec.armedAt (Device.at_same (d := d) (t := t) (f := f) .recd)).symm
@[simp] theorem Device.ready_recd_armedAt : (d.ready t).recd.armedAt = d.recd.armedAt := (congrArg Rec.armedAt (Device.ready_same (d := d) (t := t) .recd rfl)).symm
@[simp] theorem Device.carryOut_recd_armedAt : (a.carryOut b).recd.armedAt = b.recd.armedAt := rfl
@[simp] theorem Device.at_recd_fInForce : (d.at_ t f).recd.fInForce = (f (d.ready t)).recd.fInForce := (congrArg Rec.fInForce (Device.at_same (d := d) (t := t) (f := f) .recd)).symm
@[simp] theorem Device.ready_recd_fInForce : (d.ready t).recd.fInForce = d.recd.fInForce := (congrArg Rec.fInForce (Device.ready_same (d := d) (t := t) .recd rfl)).symm
@[simp] theorem Device.carryOut_recd_fInForce : (a.carryOut b).recd.fInForce = b.recd.fInForce := rfl
@[simp] theorem Device.at_recd_win : (d.at_ t f).recd.win = (f (d.ready t)).recd.win := (congrArg Rec.win (Device.at_same (d := d) (t := t) (f := f) .recd)).symm
@[simp] theorem Device.ready_recd_win : (d.ready t).recd.win = d.recd.win := (congrArg Rec.win (Device.ready_same (d := d) (t := t) .recd rfl)).symm
@[simp] theorem Device.carryOut_recd_win : (a.carryOut b).recd.win = b.recd.win := rfl
@[simp] theorem Device.at_recd_trigMet : (d.at_ t f).recd.trigMet = (f (d.ready t)).recd.trigMet := (congrArg Rec.trigMet (Device.at_same (d := d) (t := t) (f := f) .recd)).symm
@[simp] theorem Device.ready_recd_trigMet : (d.ready t).recd.trigMet = d.recd.trigMet := (congrArg Rec.trigMet (Device.ready_same (d := d) (t := t) .recd rfl)).symm
@[simp] theorem Device.carryOut_recd_trigMet : (a.carryOut b).recd.trigMet = b.recd.trigMet := rfl
@[simp] theorem Device.at_recd_records : (d.at_ t f).recd.records = (f (d.ready t)).recd.records := (congrArg Rec.records (Device.at_same (d := d) (t := t) (f := f) .recd)).symm
@[simp] theorem Device.ready_recd_records : (d.ready t).recd.records = d.recd.records := (congrArg Rec.records (Device.ready_same (d := d) (t := t) .recd rfl)).symm
@[simp] theorem Device.carryOut_recd_records : (a.carryOut b).recd.records = b.recd.records := rfl
@[simp] theorem Device.at_recd_ecCe : (d.at_ t f).recd.ecCe = (f (d.ready t)).recd.ecCe := (congrArg Rec.ecCe (Device.at_same (d := d) (t := t) (f := f) .recd)).symm
@[simp] theorem Device.ready_recd_ecCe : (d.ready t).recd.ecCe = d.recd.ecCe := (congrArg Rec.ecCe (Device.ready_same (d := d) (t := t) .recd rfl)).symm
@[simp] theorem Device.carryOut_recd_ecCe : (a.carryOut b).recd.ecCe = b.recd.ecCe := rfl
@[simp] theorem Device.at_recd_ecUe : (d.at_ t f).recd.ecUe = (f (d.ready t)).recd.ecUe := (congrArg Rec.ecUe (Device.at_same (d := d) (t := t) (f := f) .recd)).symm
@[simp] theorem Device.ready_recd_ecUe : (d.ready t).recd.ecUe = d.recd.ecUe := (congrArg Rec.ecUe (Device.ready_same (d := d) (t := t) .recd rfl)).symm
@[simp] theorem Device.carryOut_recd_ecUe : (a.carryOut b).recd.ecUe = b.recd.ecUe := rfl
@[simp] theorem Device.at_recd_missing : (d.at_ t f).recd.missing = (f (d.ready t)).recd.missing := (congrArg Rec.missing (Device.at_same (d := d) (t := t) (f := f) .recd)).symm
@[simp] theorem Device.ready_recd_missing : (d.ready t).recd.missing = d.recd.missing := (congrArg Rec.missing (Device.ready_same (d := d) (t := t) .recd rfl)).symm
@[simp] theorem Device.carryOut_recd_missing : (a.carryOut b).recd.missing = b.recd.missing := rfl
@[simp] theorem Device.at_recd_failed : (d.at_ t f).recd.failed = (f (d.ready t)).recd.failed := (congrArg Rec.failed (Device.at_same (d := d) (t := t) (f := f) .recd)).symm
@[simp] theorem Device.ready_recd_failed : (d.ready t).recd.failed = d.recd.failed := (congrArg Rec.failed (Device.ready_same (d := d) (t := t) .recd rfl)).symm
@[simp] theorem Device.carryOut_recd_failed : (a.carryOut b).recd.failed = b.recd.failed := rfl
@[simp] theorem Device.at_recd_memTested : (d.at_ t f).recd.memTested = (f (d.ready t)).recd.memTested := (congrArg Rec.memTested (Device.at_same (d := d) (t := t) (f := f) .recd)).symm
@[simp] theorem Device.ready_recd_memTested : (d.ready t).recd.memTested = d.recd.memTested := (congrArg Rec.memTested (Device.ready_same (d := d) (t := t) .recd rfl)).symm
@[simp] theorem Device.carryOut_recd_memTested : (a.carryOut b).recd.memTested = b.recd.memTested := rfl
@[simp] theorem Device.at_recd_frames : (d.at_ t f).recd.frames = (f (d.ready t)).recd.frames := (congrArg Rec.frames (Device.at_same (d := d) (t := t) (f := f) .recd)).symm
@[simp] theorem Device.ready_recd_frames : (d.ready t).recd.frames = d.recd.frames := (congrArg Rec.frames (Device.ready_same (d := d) (t := t) .recd rfl)).symm
@[simp] theorem Device.carryOut_recd_frames : (a.carryOut b).recd.frames = b.recd.frames := rfl
@[simp] theorem Device.at_recd_cur : (d.at_ t f).recd.cur = (f (d.ready t)).recd.cur := (congrArg Rec.cur (Device.at_same (d := d) (t := t) (f := f) .recd)).symm
@[simp] theorem Device.ready_recd_cur : (d.ready t).recd.cur = d.recd.cur := (congrArg Rec.cur (Device.ready_same (d := d) (t := t) .recd rfl)).symm
@[simp] theorem Device.carryOut_recd_cur : (a.carryOut b).recd.cur = b.recd.cur := rfl
@[simp] theorem Device.at_recd_past : (d.at_ t f).recd.past = (f (d.ready t)).recd.past := (congrArg Rec.past (Device.at_same (d := d) (t := t) (f := f) .recd)).symm
@[simp] theorem Device.ready_recd_past : (d.ready t).recd.past = d.recd.past := (congrArg Rec.past (Device.ready_same (d := d) (t := t) .recd rfl)).symm
@[simp] theorem Device.carryOut_recd_past : (a.carryOut b).recd.past = b.recd.past := rfl
@[simp] theorem Device.at_recd_reds : (d.at_ t f).recd.reds = (f (d.ready t)).recd.reds := (congrArg Rec.reds (Device.at_same (d := d) (t := t) (f := f) .recd)).symm
@[simp] theorem Device.ready_recd_reds : (d.ready t).recd.reds = d.recd.reds := (congrArg Rec.reds (Device.ready_same (d := d) (t := t) .recd rfl)).symm
@[simp] theorem Device.carryOut_recd_reds : (a.carryOut b).recd.reds = b.recd.reds := rfl
@[simp] theorem Device.at_recd_redDone : (d.at_ t f).recd.redDone = (f (d.ready t)).recd.redDone := (congrArg Rec.redDone (Device.at_same (d := d) (t := t) (f := f) .recd)).symm
@[simp] theorem Device.ready_recd_redDone : (d.ready t).recd.redDone = d.recd.redDone := (congrArg Rec.redDone (Device.ready_same (d := d) (t := t) .recd rfl)).symm
@[simp] theorem Device.carryOut_recd_redDone : (a.carryOut b).recd.redDone = b.recd.redDone := rfl
@[simp] theorem Device.at_recd_masks : (d.at_ t f).recd.masks = (f (d.ready t)).recd.masks := (congrArg Rec.masks (Device.at_same (d := d) (t := t) (f := f) .recd)).symm
@[simp] theorem Device.ready_recd_masks : (d.ready t).recd.masks = d.recd.masks := (congrArg Rec.masks (Device.ready_same (d := d) (t := t) .recd rfl)).symm
@[simp] theorem Device.carryOut_recd_masks : (a.carryOut b).recd.masks = b.recd.masks := rfl
@[simp] theorem Device.at_recd_regd : (d.at_ t f).recd.regd = (f (d.ready t)).recd.regd := (congrArg Rec.regd (Device.at_same (d := d) (t := t) (f := f) .recd)).symm
@[simp] theorem Device.ready_recd_regd : (d.ready t).recd.regd = d.recd.regd := (congrArg Rec.regd (Device.ready_same (d := d) (t := t) .recd rfl)).symm
@[simp] theorem Device.carryOut_recd_regd : (a.carryOut b).recd.regd = b.recd.regd := rfl
@[simp] theorem Device.at_recd_missJ : (d.at_ t f).recd.missJ = (f (d.ready t)).recd.missJ := (congrArg Rec.missJ (Device.at_same (d := d) (t := t) (f := f) .recd)).symm
@[simp] theorem Device.ready_recd_missJ : (d.ready t).recd.missJ = d.recd.missJ := (congrArg Rec.missJ (Device.ready_same (d := d) (t := t) .recd rfl)).symm
@[simp] theorem Device.carryOut_recd_missJ : (a.carryOut b).recd.missJ = b.recd.missJ := rfl
@[simp] theorem Device.at_net_links : (d.at_ t f).net.links = (f (d.ready t)).net.links := (congrArg Net.links (Device.at_same (d := d) (t := t) (f := f) .net)).symm
@[simp] theorem Device.ready_net_links : (d.ready t).net.links = d.net.links := (congrArg Net.links (Device.ready_same (d := d) (t := t) .net rfl)).symm
@[simp] theorem Device.carryOut_net_links : (a.carryOut b).net.links = b.net.links := rfl
@[simp] theorem Device.at_net_ringClosed : (d.at_ t f).net.ringClosed = (f (d.ready t)).net.ringClosed := (congrArg Net.ringClosed (Device.at_same (d := d) (t := t) (f := f) .net)).symm
@[simp] theorem Device.ready_net_ringClosed : (d.ready t).net.ringClosed = d.net.ringClosed := (congrArg Net.ringClosed (Device.ready_same (d := d) (t := t) .net rfl)).symm
@[simp] theorem Device.carryOut_net_ringClosed : (a.carryOut b).net.ringClosed = b.net.ringClosed := rfl
@[simp] theorem Device.at_net_ownBack : (d.at_ t f).net.ownBack = (f (d.ready t)).net.ownBack := (congrArg Net.ownBack (Device.at_same (d := d) (t := t) (f := f) .net)).symm
@[simp] theorem Device.ready_net_ownBack : (d.ready t).net.ownBack = d.net.ownBack := (congrArg Net.ownBack (Device.ready_same (d := d) (t := t) .net rfl)).symm
@[simp] theorem Device.carryOut_net_ownBack : (a.carryOut b).net.ownBack = b.net.ownBack := rfl
@[simp] theorem Device.at_net_domDiff : (d.at_ t f).net.domDiff = (f (d.ready t)).net.domDiff := (congrArg Net.domDiff (Device.at_same (d := d) (t := t) (f := f) .net)).symm
@[simp] theorem Device.ready_net_domDiff : (d.ready t).net.domDiff = d.net.domDiff := (congrArg Net.domDiff (Device.ready_same (d := d) (t := t) .net rfl)).symm
@[simp] theorem Device.carryOut_net_domDiff : (a.carryOut b).net.domDiff = b.net.domDiff := rfl
@[simp] theorem Device.at_net_domOkRound : (d.at_ t f).net.domOkRound = (f (d.ready t)).net.domOkRound := (congrArg Net.domOkRound (Device.at_same (d := d) (t := t) (f := f) .net)).symm
@[simp] theorem Device.ready_net_domOkRound : (d.ready t).net.domOkRound = d.net.domOkRound := (congrArg Net.domOkRound (Device.ready_same (d := d) (t := t) .net rfl)).symm
@[simp] theorem Device.carryOut_net_domOkRound : (a.carryOut b).net.domOkRound = b.net.domOkRound := rfl
@[simp] theorem Device.at_net_nodeFull : (d.at_ t f).net.nodeFull = (f (d.ready t)).net.nodeFull := (congrArg Net.nodeFull (Device.at_same (d := d) (t := t) (f := f) .net)).symm
@[simp] theorem Device.ready_net_nodeFull : (d.ready t).net.nodeFull = d.net.nodeFull := (congrArg Net.nodeFull (Device.ready_same (d := d) (t := t) .net rfl)).symm
@[simp] theorem Device.carryOut_net_nodeFull : (a.carryOut b).net.nodeFull = b.net.nodeFull := rfl
@[simp] theorem Device.at_net_dup : (d.at_ t f).net.dup = (f (d.ready t)).net.dup := (congrArg Net.dup (Device.at_same (d := d) (t := t) (f := f) .net)).symm
@[simp] theorem Device.ready_net_dup : (d.ready t).net.dup = d.net.dup := (congrArg Net.dup (Device.ready_same (d := d) (t := t) .net rfl)).symm
@[simp] theorem Device.carryOut_net_dup : (a.carryOut b).net.dup = b.net.dup := rfl
@[simp] theorem Device.at_net_wrong : (d.at_ t f).net.wrong = (f (d.ready t)).net.wrong := (congrArg Net.wrong (Device.at_same (d := d) (t := t) (f := f) .net)).symm
@[simp] theorem Device.ready_net_wrong : (d.ready t).net.wrong = d.net.wrong := (congrArg Net.wrong (Device.ready_same (d := d) (t := t) .net rfl)).symm
@[simp] theorem Device.carryOut_net_wrong : (a.carryOut b).net.wrong = b.net.wrong := rfl
@[simp] theorem Device.at_net_disc : (d.at_ t f).net.disc = (f (d.ready t)).net.disc := (congrArg Net.disc (Device.at_same (d := d) (t := t) (f := f) .net)).symm
@[simp] theorem Device.ready_net_disc : (d.ready t).net.disc = d.net.disc := (congrArg Net.disc (Device.ready_same (d := d) (t := t) .net rfl)).symm
@[simp] theorem Device.carryOut_net_disc : (a.carryOut b).net.disc = b.net.disc := rfl
@[simp] theorem Device.at_net_scDisc : (d.at_ t f).net.scDisc = (f (d.ready t)).net.scDisc := (congrArg Net.scDisc (Device.at_same (d := d) (t := t) (f := f) .net)).symm
@[simp] theorem Device.ready_net_scDisc : (d.ready t).net.scDisc = d.net.scDisc := (congrArg Net.scDisc (Device.ready_same (d := d) (t := t) .net rfl)).symm
@[simp] theorem Device.carryOut_net_scDisc : (a.carryOut b).net.scDisc = b.net.scDisc := rfl
@[simp] theorem Device.at_net_fwd : (d.at_ t f).net.fwd = (f (d.ready t)).net.fwd := (congrArg Net.fwd (Device.at_same (d := d) (t := t) (f := f) .net)).symm
@[simp] theorem Device.ready_net_fwd : (d.ready t).net.fwd = d.net.fwd := (congrArg Net.fwd (Device.ready_same (d := d) (t := t) .net rfl)).symm
@[simp] theorem Device.carryOut_net_fwd : (a.carryOut b).net.fwd = b.net.fwd := rfl
@[simp] theorem Device.at_net_nodes : (d.at_ t f).net.nodes = (f (d.ready t)).net.nodes := (congrArg Net.nodes (Device.at_same (d := d) (t := t) (f := f) .net)).symm
@[simp] theorem Device.ready_net_nodes : (d.ready t).net.nodes = d.net.nodes := (congrArg Net.nodes (Device.ready_same (d := d) (t := t) .net rfl)).symm
@[simp] theorem Device.carryOut_net_nodes : (a.carryOut b).net.nodes = b.net.nodes := rfl
@[simp] theorem Device.at_net_dups : (d.at_ t f).net.dups = (f (d.ready t)).net.dups := (congrArg Net.dups (Device.at_same (d := d) (t := t) (f := f) .net)).symm
@[simp] theorem Device.ready_net_dups : (d.ready t).net.dups = d.net.dups := (congrArg Net.dups (Device.ready_same (d := d) (t := t) .net rfl)).symm
@[simp] theorem Device.carryOut_net_dups : (a.carryOut b).net.dups = b.net.dups := rfl
@[simp] theorem Device.at_net_seq : (d.at_ t f).net.seq = (f (d.ready t)).net.seq := (congrArg Net.seq (Device.at_same (d := d) (t := t) (f := f) .net)).symm
@[simp] theorem Device.ready_net_seq : (d.ready t).net.seq = d.net.seq := (congrArg Net.seq (Device.ready_same (d := d) (t := t) .net rfl)).symm
@[simp] theorem Device.carryOut_net_seq : (a.carryOut b).net.seq = b.net.seq := rfl
@[simp] theorem Device.at_net_supAt : (d.at_ t f).net.supAt = (f (d.ready t)).net.supAt := (congrArg Net.supAt (Device.at_same (d := d) (t := t) (f := f) .net)).symm
@[simp] theorem Device.ready_net_supAt : (d.ready t).net.supAt = d.net.supAt := (congrArg Net.supAt (Device.ready_same (d := d) (t := t) .net rfl)).symm
@[simp] theorem Device.carryOut_net_supAt : (a.carryOut b).net.supAt = b.net.supAt := rfl
@[simp] theorem Device.at_net_scPeer : (d.at_ t f).net.scPeer = (f (d.ready t)).net.scPeer := (congrArg Net.scPeer (Device.at_same (d := d) (t := t) (f := f) .net)).symm
@[simp] theorem Device.ready_net_scPeer : (d.ready t).net.scPeer = d.net.scPeer := (congrArg Net.scPeer (Device.ready_same (d := d) (t := t) .net rfl)).symm
@[simp] theorem Device.carryOut_net_scPeer : (a.carryOut b).net.scPeer = b.net.scPeer := rfl
@[simp] theorem Device.at_net_pdelay : (d.at_ t f).net.pdelay = (f (d.ready t)).net.pdelay := (congrArg Net.pdelay (Device.at_same (d := d) (t := t) (f := f) .net)).symm
@[simp] theorem Device.ready_net_pdelay : (d.ready t).net.pdelay = d.net.pdelay := (congrArg Net.pdelay (Device.ready_same (d := d) (t := t) .net rfl)).symm
@[simp] theorem Device.carryOut_net_pdelay : (a.carryOut b).net.pdelay = b.net.pdelay := rfl
@[simp] theorem Device.at_net_pdReq : (d.at_ t f).net.pdReq = (f (d.ready t)).net.pdReq := (congrArg Net.pdReq (Device.at_same (d := d) (t := t) (f := f) .net)).symm
@[simp] theorem Device.ready_net_pdReq : (d.ready t).net.pdReq = d.net.pdReq := (congrArg Net.pdReq (Device.ready_same (d := d) (t := t) .net rfl)).symm
@[simp] theorem Device.carryOut_net_pdReq : (a.carryOut b).net.pdReq = b.net.pdReq := rfl
@[simp] theorem Device.at_net_pdSeq : (d.at_ t f).net.pdSeq = (f (d.ready t)).net.pdSeq := (congrArg Net.pdSeq (Device.at_same (d := d) (t := t) (f := f) .net)).symm
@[simp] theorem Device.ready_net_pdSeq : (d.ready t).net.pdSeq = d.net.pdSeq := (congrArg Net.pdSeq (Device.ready_same (d := d) (t := t) .net rfl)).symm
@[simp] theorem Device.carryOut_net_pdSeq : (a.carryOut b).net.pdSeq = b.net.pdSeq := rfl
@[simp] theorem Device.at_net_best : (d.at_ t f).net.best = (f (d.ready t)).net.best := (congrArg Net.best (Device.at_same (d := d) (t := t) (f := f) .net)).symm
@[simp] theorem Device.ready_net_best : (d.ready t).net.best = d.net.best := (congrArg Net.best (Device.ready_same (d := d) (t := t) .net rfl)).symm
@[simp] theorem Device.carryOut_net_best : (a.carryOut b).net.best = b.net.best := rfl
@[simp] theorem Device.at_net_passive : (d.at_ t f).net.passive = (f (d.ready t)).net.passive := (congrArg Net.passive (Device.at_same (d := d) (t := t) (f := f) .net)).symm
@[simp] theorem Device.ready_net_passive : (d.ready t).net.passive = d.net.passive := (congrArg Net.passive (Device.ready_same (d := d) (t := t) .net rfl)).symm
@[simp] theorem Device.carryOut_net_passive : (a.carryOut b).net.passive = b.net.passive := rfl
@[simp] theorem Device.at_net_held : (d.at_ t f).net.held = (f (d.ready t)).net.held := (congrArg Net.held (Device.at_same (d := d) (t := t) (f := f) .net)).symm
@[simp] theorem Device.ready_net_held : (d.ready t).net.held = d.net.held := (congrArg Net.held (Device.ready_same (d := d) (t := t) .net rfl)).symm
@[simp] theorem Device.carryOut_net_held : (a.carryOut b).net.held = b.net.held := rfl
@[simp] theorem Device.at_net_diff : (d.at_ t f).net.diff = (f (d.ready t)).net.diff := (congrArg Net.diff (Device.at_same (d := d) (t := t) (f := f) .net)).symm
@[simp] theorem Device.ready_net_diff : (d.ready t).net.diff = d.net.diff := (congrArg Net.diff (Device.ready_same (d := d) (t := t) .net rfl)).symm
@[simp] theorem Device.carryOut_net_diff : (a.carryOut b).net.diff = b.net.diff := rfl
@[simp] theorem Device.at_net_tx : (d.at_ t f).net.tx = (f (d.ready t)).net.tx := (congrArg Net.tx (Device.at_same (d := d) (t := t) (f := f) .net)).symm
@[simp] theorem Device.ready_net_tx : (d.ready t).net.tx = d.net.tx := (congrArg Net.tx (Device.ready_same (d := d) (t := t) .net rfl)).symm
@[simp] theorem Device.carryOut_net_tx : (a.carryOut b).net.tx = b.net.tx := rfl
@[simp] theorem Device.at_net_scRx : (d.at_ t f).net.scRx = (f (d.ready t)).net.scRx := (congrArg Net.scRx (Device.at_same (d := d) (t := t) (f := f) .net)).symm
@[simp] theorem Device.ready_net_scRx : (d.ready t).net.scRx = d.net.scRx := (congrArg Net.scRx (Device.ready_same (d := d) (t := t) .net rfl)).symm
@[simp] theorem Device.carryOut_net_scRx : (a.carryOut b).net.scRx = b.net.scRx := rfl
@[simp] theorem Device.at_pmc_upper : (d.at_ t f).zep.pmc.upper = (f (d.ready t)).zep.pmc.upper := (congrArg Pmc.upper (Device.at_same (d := d) (t := t) (f := f) .dump)).symm
@[simp] theorem Device.ready_pmc_upper : (d.ready t).zep.pmc.upper = d.zep.pmc.upper := (congrArg Pmc.upper (Device.ready_same (d := d) (t := t) .dump rfl)).symm
@[simp] theorem Device.carryOut_pmc_upper : (a.carryOut b).zep.pmc.upper = b.zep.pmc.upper := rfl
@[simp] theorem Device.at_pmc_baseL : (d.at_ t f).zep.pmc.baseL = (f (d.ready t)).zep.pmc.baseL := (congrArg Pmc.baseL (Device.at_same (d := d) (t := t) (f := f) .dump)).symm
@[simp] theorem Device.ready_pmc_baseL : (d.ready t).zep.pmc.baseL = d.zep.pmc.baseL := (congrArg Pmc.baseL (Device.ready_same (d := d) (t := t) .dump rfl)).symm
@[simp] theorem Device.carryOut_pmc_baseL : (a.carryOut b).zep.pmc.baseL = b.zep.pmc.baseL := rfl
@[simp] theorem Device.at_pmc_baseH : (d.at_ t f).zep.pmc.baseH = (f (d.ready t)).zep.pmc.baseH := (congrArg Pmc.baseH (Device.at_same (d := d) (t := t) (f := f) .dump)).symm
@[simp] theorem Device.ready_pmc_baseH : (d.ready t).zep.pmc.baseH = d.zep.pmc.baseH := (congrArg Pmc.baseH (Device.ready_same (d := d) (t := t) .dump rfl)).symm
@[simp] theorem Device.carryOut_pmc_baseH : (a.carryOut b).zep.pmc.baseH = b.zep.pmc.baseH := rfl
@[simp] theorem Device.at_pmc_size : (d.at_ t f).zep.pmc.size = (f (d.ready t)).zep.pmc.size := (congrArg Pmc.size (Device.at_same (d := d) (t := t) (f := f) .dump)).symm
@[simp] theorem Device.ready_pmc_size : (d.ready t).zep.pmc.size = d.zep.pmc.size := (congrArg Pmc.size (Device.ready_same (d := d) (t := t) .dump rfl)).symm
@[simp] theorem Device.carryOut_pmc_size : (a.carryOut b).zep.pmc.size = b.zep.pmc.size := rfl
@[simp] theorem Device.at_pmc_on : (d.at_ t f).zep.pmc.on = (f (d.ready t)).zep.pmc.on := (congrArg Pmc.on (Device.at_same (d := d) (t := t) (f := f) .dump)).symm
@[simp] theorem Device.ready_pmc_on : (d.ready t).zep.pmc.on = d.zep.pmc.on := (congrArg Pmc.on (Device.ready_same (d := d) (t := t) .dump rfl)).symm
@[simp] theorem Device.carryOut_pmc_on : (a.carryOut b).zep.pmc.on = b.zep.pmc.on := rfl
@[simp] theorem Device.at_pmc_seq : (d.at_ t f).zep.pmc.seq = (f (d.ready t)).zep.pmc.seq := (congrArg Pmc.seq (Device.at_same (d := d) (t := t) (f := f) .dump)).symm
@[simp] theorem Device.ready_pmc_seq : (d.ready t).zep.pmc.seq = d.zep.pmc.seq := (congrArg Pmc.seq (Device.ready_same (d := d) (t := t) .dump rfl)).symm
@[simp] theorem Device.carryOut_pmc_seq : (a.carryOut b).zep.pmc.seq = b.zep.pmc.seq := rfl
@[simp] theorem Device.at_pmc_lastSeq : (d.at_ t f).zep.pmc.lastSeq = (f (d.ready t)).zep.pmc.lastSeq := (congrArg Pmc.lastSeq (Device.at_same (d := d) (t := t) (f := f) .dump)).symm
@[simp] theorem Device.ready_pmc_lastSeq : (d.ready t).zep.pmc.lastSeq = d.zep.pmc.lastSeq := (congrArg Pmc.lastSeq (Device.ready_same (d := d) (t := t) .dump rfl)).symm
@[simp] theorem Device.carryOut_pmc_lastSeq : (a.carryOut b).zep.pmc.lastSeq = b.zep.pmc.lastSeq := rfl
@[simp] theorem Device.at_pmc_skip : (d.at_ t f).zep.pmc.skip = (f (d.ready t)).zep.pmc.skip := (congrArg Pmc.skip (Device.at_same (d := d) (t := t) (f := f) .dump)).symm
@[simp] theorem Device.ready_pmc_skip : (d.ready t).zep.pmc.skip = d.zep.pmc.skip := (congrArg Pmc.skip (Device.ready_same (d := d) (t := t) .dump rfl)).symm
@[simp] theorem Device.carryOut_pmc_skip : (a.carryOut b).zep.pmc.skip = b.zep.pmc.skip := rfl
@[simp] theorem Device.at_pmc_err : (d.at_ t f).zep.pmc.err = (f (d.ready t)).zep.pmc.err := (congrArg Pmc.err (Device.at_same (d := d) (t := t) (f := f) .dump)).symm
@[simp] theorem Device.ready_pmc_err : (d.ready t).zep.pmc.err = d.zep.pmc.err := (congrArg Pmc.err (Device.ready_same (d := d) (t := t) .dump rfl)).symm
@[simp] theorem Device.carryOut_pmc_err : (a.carryOut b).zep.pmc.err = b.zep.pmc.err := rfl
@[simp] theorem Device.at_pmc_writing : (d.at_ t f).zep.pmc.writing = (f (d.ready t)).zep.pmc.writing := (congrArg Pmc.writing (Device.at_same (d := d) (t := t) (f := f) .dump)).symm
@[simp] theorem Device.ready_pmc_writing : (d.ready t).zep.pmc.writing = d.zep.pmc.writing := (congrArg Pmc.writing (Device.ready_same (d := d) (t := t) .dump rfl)).symm
@[simp] theorem Device.carryOut_pmc_writing : (a.carryOut b).zep.pmc.writing = b.zep.pmc.writing := rfl
@[simp] theorem Device.at_pmc_cmd : (d.at_ t f).zep.pmc.cmd = (f (d.ready t)).zep.pmc.cmd := (congrArg Pmc.cmd (Device.at_same (d := d) (t := t) (f := f) .dump)).symm
@[simp] theorem Device.ready_pmc_cmd : (d.ready t).zep.pmc.cmd = d.zep.pmc.cmd := (congrArg Pmc.cmd (Device.ready_same (d := d) (t := t) .dump rfl)).symm
@[simp] theorem Device.carryOut_pmc_cmd : (a.carryOut b).zep.pmc.cmd = b.zep.pmc.cmd := rfl
@[simp] theorem Device.at_pmc_cmdFrom : (d.at_ t f).zep.pmc.cmdFrom = (f (d.ready t)).zep.pmc.cmdFrom := (congrArg Pmc.cmdFrom (Device.at_same (d := d) (t := t) (f := f) .dump)).symm
@[simp] theorem Device.ready_pmc_cmdFrom : (d.ready t).zep.pmc.cmdFrom = d.zep.pmc.cmdFrom := (congrArg Pmc.cmdFrom (Device.ready_same (d := d) (t := t) .dump rfl)).symm
@[simp] theorem Device.carryOut_pmc_cmdFrom : (a.carryOut b).zep.pmc.cmdFrom = b.zep.pmc.cmdFrom := rfl
@[simp] theorem Device.at_pmc_dumped : (d.at_ t f).zep.pmc.dumped = (f (d.ready t)).zep.pmc.dumped := (congrArg Pmc.dumped (Device.at_same (d := d) (t := t) (f := f) .dump)).symm
@[simp] theorem Device.ready_pmc_dumped : (d.ready t).zep.pmc.dumped = d.zep.pmc.dumped := (congrArg Pmc.dumped (Device.ready_same (d := d) (t := t) .dump rfl)).symm
@[simp] theorem Device.carryOut_pmc_dumped : (a.carryOut b).zep.pmc.dumped = b.zep.pmc.dumped := rfl
@[simp] theorem Device.at_prot_srcs : (d.at_ t f).prot.srcs = (f (d.ready t)).prot.srcs := (congrArg Prot.srcs (Device.at_same (d := d) (t := t) (f := f) .prot)).symm
@[simp] theorem Device.ready_prot_srcs : (d.ready t).prot.srcs = d.prot.srcs := (congrArg Prot.srcs (Device.ready_same (d := d) (t := t) .prot rfl)).symm
@[simp] theorem Device.carryOut_prot_srcs : (a.carryOut b).prot.srcs = b.prot.srcs := rfl
@[simp] theorem Device.at_prot_tins : (d.at_ t f).prot.tins = (f (d.ready t)).prot.tins := (congrArg Prot.tins (Device.at_same (d := d) (t := t) (f := f) .prot)).symm
@[simp] theorem Device.ready_prot_tins : (d.ready t).prot.tins = d.prot.tins := (congrArg Prot.tins (Device.ready_same (d := d) (t := t) .prot rfl)).symm
@[simp] theorem Device.carryOut_prot_tins : (a.carryOut b).prot.tins = b.prot.tins := rfl
@[simp] theorem Device.at_prot_contactChat : (d.at_ t f).prot.contactChat = (f (d.ready t)).prot.contactChat := (congrArg Prot.contactChat (Device.at_same (d := d) (t := t) (f := f) .prot)).symm
@[simp] theorem Device.ready_prot_contactChat : (d.ready t).prot.contactChat = d.prot.contactChat := (congrArg Prot.contactChat (Device.ready_same (d := d) (t := t) .prot rfl)).symm
@[simp] theorem Device.carryOut_prot_contactChat : (a.carryOut b).prot.contactChat = b.prot.contactChat := rfl
@[simp] theorem Device.at_prot_blank : (d.at_ t f).prot.blank = (f (d.ready t)).prot.blank := (congrArg Prot.blank (Device.at_same (d := d) (t := t) (f := f) .prot)).symm
@[simp] theorem Device.ready_prot_blank : (d.ready t).prot.blank = d.prot.blank := (congrArg Prot.blank (Device.ready_same (d := d) (t := t) .prot rfl)).symm
@[simp] theorem Device.carryOut_prot_blank : (a.carryOut b).prot.blank = b.prot.blank := rfl
@[simp] theorem Device.at_prot_burst : (d.at_ t f).prot.burst = (f (d.ready t)).prot.burst := (congrArg Prot.burst (Device.at_same (d := d) (t := t) (f := f) .prot)).symm
@[simp] theorem Device.ready_prot_burst : (d.ready t).prot.burst = d.prot.burst := (congrArg Prot.burst (Device.ready_same (d := d) (t := t) .prot rfl)).symm
@[simp] theorem Device.carryOut_prot_burst : (a.carryOut b).prot.burst = b.prot.burst := rfl
@[simp] theorem Device.at_prot_lastTrigger : (d.at_ t f).prot.lastTrigger = (f (d.ready t)).prot.lastTrigger := (congrArg Prot.lastTrigger (Device.at_same (d := d) (t := t) (f := f) .prot)).symm
@[simp] theorem Device.ready_prot_lastTrigger : (d.ready t).prot.lastTrigger = d.prot.lastTrigger := (congrArg Prot.lastTrigger (Device.ready_same (d := d) (t := t) .prot rfl)).symm
@[simp] theorem Device.carryOut_prot_lastTrigger : (a.carryOut b).prot.lastTrigger = b.prot.lastTrigger := rfl
@[simp] theorem Device.at_prot_sqFrom : (d.at_ t f).prot.sqFrom = (f (d.ready t)).prot.sqFrom := (congrArg Prot.sqFrom (Device.at_same (d := d) (t := t) (f := f) .prot)).symm
@[simp] theorem Device.ready_prot_sqFrom : (d.ready t).prot.sqFrom = d.prot.sqFrom := (congrArg Prot.sqFrom (Device.ready_same (d := d) (t := t) .prot rfl)).symm
@[simp] theorem Device.carryOut_prot_sqFrom : (a.carryOut b).prot.sqFrom = b.prot.sqFrom := rfl
@[simp] theorem Device.at_prot_echoFrom : (d.at_ t f).prot.echoFrom = (f (d.ready t)).prot.echoFrom := (congrArg Prot.echoFrom (Device.at_same (d := d) (t := t) (f := f) .prot)).symm
@[simp] theorem Device.ready_prot_echoFrom : (d.ready t).prot.echoFrom = d.prot.echoFrom := (congrArg Prot.echoFrom (Device.ready_same (d := d) (t := t) .prot rfl)).symm
@[simp] theorem Device.carryOut_prot_echoFrom : (a.carryOut b).prot.echoFrom = b.prot.echoFrom := rfl
@[simp] theorem Device.at_prot_blocked : (d.at_ t f).prot.blocked = (f (d.ready t)).prot.blocked := (congrArg Prot.blocked (Device.at_same (d := d) (t := t) (f := f) .prot)).symm
@[simp] theorem Device.ready_prot_blocked : (d.ready t).prot.blocked = d.prot.blocked := (congrArg Prot.blocked (Device.ready_same (d := d) (t := t) .prot rfl)).symm
@[simp] theorem Device.carryOut_prot_blocked : (a.carryOut b).prot.blocked = b.prot.blocked := rfl
@[simp] theorem Device.at_prot_resumed : (d.at_ t f).prot.resumed = (f (d.ready t)).prot.resumed := (congrArg Prot.resumed (Device.at_same (d := d) (t := t) (f := f) .prot)).symm
@[simp] theorem Device.ready_prot_resumed : (d.ready t).prot.resumed = d.prot.resumed := (congrArg Prot.resumed (Device.ready_same (d := d) (t := t) .prot rfl)).symm
@[simp] theorem Device.carryOut_prot_resumed : (a.carryOut b).prot.resumed = b.prot.resumed := rfl
@[simp] theorem Device.at_prot_resumeEdge : (d.at_ t f).prot.resumeEdge = (f (d.ready t)).prot.resumeEdge := (congrArg Prot.resumeEdge (Device.at_same (d := d) (t := t) (f := f) .prot)).symm
@[simp] theorem Device.ready_prot_resumeEdge : (d.ready t).prot.resumeEdge = d.prot.resumeEdge := (congrArg Prot.resumeEdge (Device.ready_same (d := d) (t := t) .prot rfl)).symm
@[simp] theorem Device.carryOut_prot_resumeEdge : (a.carryOut b).prot.resumeEdge = b.prot.resumeEdge := rfl
@[simp] theorem Device.at_prot_autoDisabled : (d.at_ t f).prot.autoDisabled = (f (d.ready t)).prot.autoDisabled := (congrArg Prot.autoDisabled (Device.at_same (d := d) (t := t) (f := f) .prot)).symm
@[simp] theorem Device.ready_prot_autoDisabled : (d.ready t).prot.autoDisabled = d.prot.autoDisabled := (congrArg Prot.autoDisabled (Device.ready_same (d := d) (t := t) .prot rfl)).symm
@[simp] theorem Device.carryOut_prot_autoDisabled : (a.carryOut b).prot.autoDisabled = b.prot.autoDisabled := rfl
@[simp] theorem Device.at_prot_autoResumes : (d.at_ t f).prot.autoResumes = (f (d.ready t)).prot.autoResumes := (congrArg Prot.autoResumes (Device.at_same (d := d) (t := t) (f := f) .prot)).symm
@[simp] theorem Device.ready_prot_autoResumes : (d.ready t).prot.autoResumes = d.prot.autoResumes := (congrArg Prot.autoResumes (Device.ready_same (d := d) (t := t) .prot rfl)).symm
@[simp] theorem Device.carryOut_prot_autoResumes : (a.carryOut b).prot.autoResumes = b.prot.autoResumes := rfl
@[simp] theorem Device.at_prot_recoverUntil : (d.at_ t f).prot.recoverUntil = (f (d.ready t)).prot.recoverUntil := (congrArg Prot.recoverUntil (Device.at_same (d := d) (t := t) (f := f) .prot)).symm
@[simp] theorem Device.ready_prot_recoverUntil : (d.ready t).prot.recoverUntil = d.prot.recoverUntil := (congrArg Prot.recoverUntil (Device.ready_same (d := d) (t := t) .prot rfl)).symm
@[simp] theorem Device.carryOut_prot_recoverUntil : (a.carryOut b).prot.recoverUntil = b.prot.recoverUntil := rfl
@[simp] theorem Device.at_prot_gateFrozen : (d.at_ t f).prot.gateFrozen = (f (d.ready t)).prot.gateFrozen := (congrArg Prot.gateFrozen (Device.at_same (d := d) (t := t) (f := f) .prot)).symm
@[simp] theorem Device.ready_prot_gateFrozen : (d.ready t).prot.gateFrozen = d.prot.gateFrozen := (congrArg Prot.gateFrozen (Device.ready_same (d := d) (t := t) .prot rfl)).symm
@[simp] theorem Device.carryOut_prot_gateFrozen : (a.carryOut b).prot.gateFrozen = b.prot.gateFrozen := rfl
@[simp] theorem Device.at_prot_rxPair : (d.at_ t f).prot.rxPair = (f (d.ready t)).prot.rxPair := (congrArg Prot.rxPair (Device.at_same (d := d) (t := t) (f := f) .prot)).symm
@[simp] theorem Device.ready_prot_rxPair : (d.ready t).prot.rxPair = d.prot.rxPair := (congrArg Prot.rxPair (Device.ready_same (d := d) (t := t) .prot rfl)).symm
@[simp] theorem Device.carryOut_prot_rxPair : (a.carryOut b).prot.rxPair = b.prot.rxPair := rfl
@[simp] theorem Device.at_prot_hostTripUntil : (d.at_ t f).prot.hostTripUntil = (f (d.ready t)).prot.hostTripUntil := (congrArg Prot.hostTripUntil (Device.at_same (d := d) (t := t) (f := f) .prot)).symm
@[simp] theorem Device.ready_prot_hostTripUntil : (d.ready t).prot.hostTripUntil = d.prot.hostTripUntil := (congrArg Prot.hostTripUntil (Device.ready_same (d := d) (t := t) .prot rfl)).symm
@[simp] theorem Device.carryOut_prot_hostTripUntil : (a.carryOut b).prot.hostTripUntil = b.prot.hostTripUntil := rfl
@[simp] theorem Device.at_prot_record : (d.at_ t f).prot.record = (f (d.ready t)).prot.record := (congrArg Prot.record (Device.at_same (d := d) (t := t) (f := f) .prot)).symm
@[simp] theorem Device.ready_prot_record : (d.ready t).prot.record = d.prot.record := (congrArg Prot.record (Device.ready_same (d := d) (t := t) .prot rfl)).symm
@[simp] theorem Device.carryOut_prot_record : (a.carryOut b).prot.record = b.prot.record := rfl
@[simp] theorem Device.at_prot_sqCnt : (d.at_ t f).prot.sqCnt = (f (d.ready t)).prot.sqCnt := (congrArg Prot.sqCnt (Device.at_same (d := d) (t := t) (f := f) .prot)).symm
@[simp] theorem Device.ready_prot_sqCnt : (d.ready t).prot.sqCnt = d.prot.sqCnt := (congrArg Prot.sqCnt (Device.ready_same (d := d) (t := t) .prot rfl)).symm
@[simp] theorem Device.carryOut_prot_sqCnt : (a.carryOut b).prot.sqCnt = b.prot.sqCnt := rfl
@[simp] theorem Device.at_prot_rejCnt : (d.at_ t f).prot.rejCnt = (f (d.ready t)).prot.rejCnt := (congrArg Prot.rejCnt (Device.at_same (d := d) (t := t) (f := f) .prot)).symm
@[simp] theorem Device.ready_prot_rejCnt : (d.ready t).prot.rejCnt = d.prot.rejCnt := (congrArg Prot.rejCnt (Device.ready_same (d := d) (t := t) .prot rfl)).symm
@[simp] theorem Device.carryOut_prot_rejCnt : (a.carryOut b).prot.rejCnt = b.prot.rejCnt := rfl
@[simp] theorem Device.at_prot_echoCnt : (d.at_ t f).prot.echoCnt = (f (d.ready t)).prot.echoCnt := (congrArg Prot.echoCnt (Device.at_same (d := d) (t := t) (f := f) .prot)).symm
@[simp] theorem Device.ready_prot_echoCnt : (d.ready t).prot.echoCnt = d.prot.echoCnt := (congrArg Prot.echoCnt (Device.ready_same (d := d) (t := t) .prot rfl)).symm
@[simp] theorem Device.carryOut_prot_echoCnt : (a.carryOut b).prot.echoCnt = b.prot.echoCnt := rfl
@[simp] theorem Device.at_prot_desatCnt : (d.at_ t f).prot.desatCnt = (f (d.ready t)).prot.desatCnt := (congrArg Prot.desatCnt (Device.at_same (d := d) (t := t) (f := f) .prot)).symm
@[simp] theorem Device.ready_prot_desatCnt : (d.ready t).prot.desatCnt = d.prot.desatCnt := (congrArg Prot.desatCnt (Device.ready_same (d := d) (t := t) .prot rfl)).symm
@[simp] theorem Device.carryOut_prot_desatCnt : (a.carryOut b).prot.desatCnt = b.prot.desatCnt := rfl
@[simp] theorem Device.at_prot_chopCnt : (d.at_ t f).prot.chopCnt = (f (d.ready t)).prot.chopCnt := (congrArg Prot.chopCnt (Device.at_same (d := d) (t := t) (f := f) .prot)).symm
@[simp] theorem Device.ready_prot_chopCnt : (d.ready t).prot.chopCnt = d.prot.chopCnt := (congrArg Prot.chopCnt (Device.ready_same (d := d) (t := t) .prot rfl)).symm
@[simp] theorem Device.carryOut_prot_chopCnt : (a.carryOut b).prot.chopCnt = b.prot.chopCnt := rfl
@[simp] theorem Device.at_prot_desatArms : (d.at_ t f).prot.desatArms = (f (d.ready t)).prot.desatArms := (congrArg Prot.desatArms (Device.at_same (d := d) (t := t) (f := f) .prot)).symm
@[simp] theorem Device.ready_prot_desatArms : (d.ready t).prot.desatArms = d.prot.desatArms := (congrArg Prot.desatArms (Device.ready_same (d := d) (t := t) .prot rfl)).symm
@[simp] theorem Device.carryOut_prot_desatArms : (a.carryOut b).prot.desatArms = b.prot.desatArms := rfl
@[simp] theorem Device.at_prot_desatSeq : (d.at_ t f).prot.desatSeq = (f (d.ready t)).prot.desatSeq := (congrArg Prot.desatSeq (Device.at_same (d := d) (t := t) (f := f) .prot)).symm
@[simp] theorem Device.ready_prot_desatSeq : (d.ready t).prot.desatSeq = d.prot.desatSeq := (congrArg Prot.desatSeq (Device.ready_same (d := d) (t := t) .prot rfl)).symm
@[simp] theorem Device.carryOut_prot_desatSeq : (a.carryOut b).prot.desatSeq = b.prot.desatSeq := rfl
@[simp] theorem Device.at_prot_efFrom : (d.at_ t f).prot.efFrom = (f (d.ready t)).prot.efFrom := (congrArg Prot.efFrom (Device.at_same (d := d) (t := t) (f := f) .prot)).symm
@[simp] theorem Device.ready_prot_efFrom : (d.ready t).prot.efFrom = d.prot.efFrom := (congrArg Prot.efFrom (Device.ready_same (d := d) (t := t) .prot rfl)).symm
@[simp] theorem Device.carryOut_prot_efFrom : (a.carryOut b).prot.efFrom = b.prot.efFrom := rfl
@[simp] theorem Device.at_prot_spFrom : (d.at_ t f).prot.spFrom = (f (d.ready t)).prot.spFrom := (congrArg Prot.spFrom (Device.at_same (d := d) (t := t) (f := f) .prot)).symm
@[simp] theorem Device.ready_prot_spFrom : (d.ready t).prot.spFrom = d.prot.spFrom := (congrArg Prot.spFrom (Device.ready_same (d := d) (t := t) .prot rfl)).symm
@[simp] theorem Device.carryOut_prot_spFrom : (a.carryOut b).prot.spFrom = b.prot.spFrom := rfl
@[simp] theorem Device.at_prot_bypFailed : (d.at_ t f).prot.bypFailed = (f (d.ready t)).prot.bypFailed := (congrArg Prot.bypFailed (Device.at_same (d := d) (t := t) (f := f) .prot)).symm
@[simp] theorem Device.ready_prot_bypFailed : (d.ready t).prot.bypFailed = d.prot.bypFailed := (congrArg Prot.bypFailed (Device.ready_same (d := d) (t := t) .prot rfl)).symm
@[simp] theorem Device.carryOut_prot_bypFailed : (a.carryOut b).prot.bypFailed = b.prot.bypFailed := rfl
@[simp] theorem Device.at_prot_gates : (d.at_ t f).prot.gates = (f (d.ready t)).prot.gates := (congrArg (·.1) (Device.at_same (d := d) (t := t) (f := f) .gates)).symm
@[simp] theorem Device.ready_prot_gates : (d.ready t).prot.gates = d.prot.gates := (congrArg (·.1) (Device.ready_same (d := d) (t := t) .gates rfl)).symm
@[simp] theorem Device.carryOut_prot_gates : (a.carryOut b).prot.gates = b.prot.gates := rfl
@[simp] theorem Device.at_prot_gateStore : (d.at_ t f).prot.gateStore = (f (d.ready t)).prot.gateStore := (congrArg (·.2.1) (Device.at_same (d := d) (t := t) (f := f) .gates)).symm
@[simp] theorem Device.ready_prot_gateStore : (d.ready t).prot.gateStore = d.prot.gateStore := (congrArg (·.2.1) (Device.ready_same (d := d) (t := t) .gates rfl)).symm
@[simp] theorem Device.carryOut_prot_gateStore : (a.carryOut b).prot.gateStore = b.prot.gateStore := rfl
@[simp] theorem Device.at_prot_gateSaved : (d.at_ t f).prot.gateSaved = (f (d.ready t)).prot.gateSaved := (congrArg (·.2.2.1) (Device.at_same (d := d) (t := t) (f := f) .gates)).symm
@[simp] theorem Device.ready_prot_gateSaved : (d.ready t).prot.gateSaved = d.prot.gateSaved := (congrArg (·.2.2.1) (Device.ready_same (d := d) (t := t) .gates rfl)).symm
@[simp] theorem Device.carryOut_prot_gateSaved : (a.carryOut b).prot.gateSaved = b.prot.gateSaved := rfl
@[simp] theorem Device.at_prot_gateSel : (d.at_ t f).prot.gateSel = (f (d.ready t)).prot.gateSel := (congrArg (·.2.2.2.1) (Device.at_same (d := d) (t := t) (f := f) .gates)).symm
@[simp] theorem Device.ready_prot_gateSel : (d.ready t).prot.gateSel = d.prot.gateSel := (congrArg (·.2.2.2.1) (Device.ready_same (d := d) (t := t) .gates rfl)).symm
@[simp] theorem Device.carryOut_prot_gateSel : (a.carryOut b).prot.gateSel = b.prot.gateSel := rfl
@[simp] theorem Device.at_prot_gateReady : (d.at_ t f).prot.gateReady = (f (d.ready t)).prot.gateReady := (congrArg (·.2.2.2.2.1) (Device.at_same (d := d) (t := t) (f := f) .gates)).symm
@[simp] theorem Device.ready_prot_gateReady : (d.ready t).prot.gateReady = d.prot.gateReady := (congrArg (·.2.2.2.2.1) (Device.ready_same (d := d) (t := t) .gates rfl)).symm
@[simp] theorem Device.carryOut_prot_gateReady : (a.carryOut b).prot.gateReady = b.prot.gateReady := rfl
@[simp] theorem Device.at_prot_gateRegs : (d.at_ t f).prot.gateRegs = (f (d.ready t)).prot.gateRegs := (congrArg (·.2.2.2.2.2) (Device.at_same (d := d) (t := t) (f := f) .gates)).symm
@[simp] theorem Device.ready_prot_gateRegs : (d.ready t).prot.gateRegs = d.prot.gateRegs := (congrArg (·.2.2.2.2.2) (Device.ready_same (d := d) (t := t) .gates rfl)).symm
@[simp] theorem Device.carryOut_prot_gateRegs : (a.carryOut b).prot.gateRegs = b.prot.gateRegs := rfl
@[simp] theorem Device.at_drift : (d.at_ t f).zep.drift = (f (d.ready t)).zep.drift := (Device.at_same (d := d) (t := t) (f := f) .drift).symm
@[simp] theorem Device.ready_drift : (d.ready t).zep.drift = d.zep.drift := (Device.ready_same (d := d) (t := t) .drift rfl).symm
@[simp] theorem Device.carryOut_drift : (a.carryOut b).zep.drift = b.zep.drift := rfl
@[simp] theorem Device.at_hk : (d.at_ t f).zep.hk = (f (d.ready t)).zep.hk := (Device.at_same (d := d) (t := t) (f := f) .hk).symm
@[simp] theorem Device.ready_hk : (d.ready t).zep.hk = d.zep.hk := (Device.ready_same (d := d) (t := t) .hk rfl).symm
@[simp] theorem Device.carryOut_hk : (a.carryOut b).zep.hk = b.zep.hk := rfl

end Sys2Proof.Machine
end

