-- ==== Sys2Proof/Laws/Events.lean ====
section
/-! SUPPORT. Events, completions and error reports: what raising, completing and reporting leave. -/

namespace Sys2Proof.Machine

variable {a b c d : Device} {t : Tick} {f : Device → Device} {h : CmdHdr} {e : Ending} {name : String} {payload : List Int}

/-! ## The backlog grows -/

/-- The backlog of the second device is that of the first with more behind it. -/
def Grows (a b : Device) : Prop := ∃ l, b.host.backlog = a.host.backlog ++ l

theorem Grows.refl : Grows a a := ⟨[], (List.append_nil _).symm⟩
theorem Grows.same (h : b.host = a.host) : Grows a b := ⟨[], by rw [h, List.append_nil]⟩
theorem Grows.trans (h : Grows a b) (g : Grows b c) : Grows a c := by
  obtain ⟨l, hl⟩ := h
  obtain ⟨m, hm⟩ := g
  exact ⟨l ++ m, by rw [hm, hl, List.append_assoc]⟩
theorem Grows.foldl {α : Type} {g : Device → α → Device} {l : List α} (hg : ∀ x y, Grows x (g x y)) (h : Grows a b) : Grows a (l.foldl g b) := by
  induction l generalizing b with
  | nil => exact h
  | cons y r ih => exact ih (h.trans (hg b y))

theorem Device.condMet_host (d : Device) (x : Nat) (at_ : Tick) (v : Int) : (d.condMet x at_ v).host = d.host := rfl
theorem foldl_host {α : Type} {g : Device → α → Device} {l : List α} (hg : ∀ x y, (g x y).host = x.host) : (l.foldl g d).host = d.host := by
  induction l generalizing d with
  | nil => rfl
  | cons y r ih => exact (ih).trans (hg d y)
theorem Device.recEvent_host (d : Device) (k : Nat) (at_ : Tick) : (d.recEvent k at_).host = d.host := foldl_host fun _ _ => rfl
theorem Device.trigSample_host (d : Device) (x : Nat) (at_ : Tick) (v : Int) : (d.trigSample x at_ v).host = d.host := by
  unfold Device.trigSample
  exact foldl_host fun _ _ => rfl
theorem Device.trigFeed_host (d : Device) (x : Nat) (at_ : Tick) (v : Int) : (d.trigFeed x at_ v).host = d.host := foldl_host fun _ _ => Device.trigSample_host ..
theorem Device.trigDigital_host (d : Device) (x y : BitVec 128) (at_ : Tick) : (d.trigDigital x y at_).host = d.host := by
  unfold Device.trigDigital
  refine foldl_host fun _ _ => ?_
  exact (Device.trigFeed_host ..).trans (foldl_host fun _ _ => Device.trigSample_host ..)
theorem Device.logDigital_host (d : Device) : d.logDigital.host = d.host := by
  unfold Device.logDigital
  extract_lets w last
  split
  · rfl
  · exact Device.trigDigital_host ..

theorem Device.enqueue_grows (d : Device) (e : Event) : Grows d (d.enqueue e) := by
  unfold Device.enqueue
  split
  · simp only []
    split
    · exact ⟨_, rfl⟩
    · exact Grows.refl
  · exact ⟨_, rfl⟩
theorem Device.raiseEv_grows (d : Device) (e : Event) : Grows d (d.raiseEv e) := by
  unfold Device.raiseEv
  refine Grows.trans ?_ (Device.enqueue_grows ..)
  simp only []
  split
  · exact ⟨[], (List.append_nil _).symm⟩
  · exact ⟨[], by rw [Device.recEvent_host, List.append_nil]⟩
theorem Device.raise_grows (d : Device) (n : String) (i k x : Nat) (p : List Int) : Grows d (d.raise n i k x p) := Device.raiseEv_grows ..
theorem Device.raiseRated_grows (d : Device) (n : String) (i k x : Nat) (p : List Int) : Grows d (d.raiseRated n i k x p) := by
  unfold Device.raiseRated
  split
  · exact ⟨[], (List.append_nil _).symm⟩
  · exact (Device.raise_grows d n i k x p).trans ⟨[], (List.append_nil _).symm⟩
theorem Device.ctrWrap_grows (n : Nat) (d : Device) (b i : Nat) : Grows d (Device.ctrWrap n d b i) := by
  induction n generalizing d i with
  | zero => exact Grows.refl
  | succ n ih =>
    unfold Device.ctrWrap
    extract_lets up
    split
    · split
      · exact Grows.refl
      · split
        · exact Grows.same rfl
        · exact Grows.trans (Grows.same rfl) (ih _ _)
    · exact Grows.trans (Grows.same rfl) (Device.raiseRated_grows ..)
theorem Device.ctrAdd_grows (d : Device) (b i n : Nat) : Grows d (d.ctrAdd b i n) := by
  unfold Device.ctrAdd
  extract_lets v d'
  split
  · exact Grows.same rfl
  · exact Grows.trans (Grows.same rfl) (Device.ctrWrap_grows ..)
theorem Device.pmcPulse_grows (d : Device) (b x n : Nat) : Grows d (d.pmcPulse b x n) := by
  unfold Device.pmcPulse
  refine Grows.foldl (fun x y => ?_) Grows.refl
  simp only []
  split
  · exact Grows.refl
  · split
    · exact Device.ctrAdd_grows ..
    · split
      · exact Device.ctrAdd_grows ..
      · exact Grows.trans (Grows.same rfl) (Device.ctrAdd_grows ..)
theorem Device.pmcRise_grows (d : Device) (b x n : Nat) : Grows d (d.pmcRise b x n) := by
  unfold Device.pmcRise
  refine Grows.foldl (fun x y => ?_) Grows.refl
  simp only []
  split
  · exact Device.ctrAdd_grows ..
  · exact Grows.refl
theorem Device.countEdges_grows (d : Device) : Grows d d.countEdges := by
  unfold Device.countEdges
  extract_lets now rose e
  exact Grows.trans (Grows.foldl (fun _ _ => Device.pmcRise_grows ..) Grows.refl) (Grows.same rfl)
theorem Device.tail_grows (d : Device) (n : Nat) : Grows d ((d.pmcPulse 0 3 n).logDigital.countEdges) :=
  ((Device.pmcPulse_grows ..).trans (Grows.same (Device.logDigital_host _))).trans (Device.countEdges_grows _)
theorem Device.at_grows : Grows (f (d.ready t)) (d.at_ t f) := by
  have h : d.at_ t f = (((f (d.ready t)).pmcPulse 0 3 ((f (d.ready t)).host.evqSeq - (d.ready t).host.evqSeq).toNat).logDigital).countEdges := by
    unfold Device.at_ Device.ready
    rfl
  rw [h]
  exact Device.tail_grows ..

/-! ## Events -/

theorem Device.EventWaits.grow (h : a.EventWaits name payload) (g : Grows a b) (hn : b.now = a.now) : b.EventWaits name payload := by
  obtain ⟨l, hl⟩ := g
  obtain ⟨e, h1, h2, h3, h4⟩ := h
  exact ⟨e, by rw [hl]; exact List.mem_append_left _ h1, h2, h3, h4.trans hn.symm⟩
theorem Device.EventWaits.carry (h : b.EventWaits name payload) : (a.carryOut b).EventWaits name payload := h
theorem Device.EventWaits.of_at (h : (f (d.ready t)).EventWaits name payload) : (a.carryOut (d.at_ t f)).EventWaits name payload :=
  (h.grow Device.at_grows (Device.at_same .time).symm).carry

theorem Device.raise_waits (d : Device) (i k x : Nat) (h : d.backlogFull = false) : (d.raise name i k x payload).EventWaits name payload := by
  have hr : ∀ d : Device, d.backlogFull = false → ∀ e : Event, e.name = name → e.payload = payload → e.ctb = d.now → (d.enqueue e).EventWaits name payload := by
    intro d h e h1 h2 h3
    unfold Device.enqueue
    rw [h]
    exact ⟨e, List.mem_append_right _ (List.mem_singleton.mpr rfl), h1, h2, h3⟩
  unfold Device.raise Device.raiseEv
  simp only []
  split
  · exact hr ({ d with host := { d.host with cmdEvents := true } }) h _ rfl rfl rfl
  · refine hr _ ?_ _ rfl rfl ?_
    · unfold Device.backlogFull at h ⊢
      rw [Device.recEvent_host]
      exact h
    · exact (Device.recEvent_only ({ d with host := { d.host with cmdEvents := true } }) _ _).same .time (by decide)

/-! ## Completions -/

/-- What the second device has posted to the host is what the first had, with more behind it; the channels and the commands to discard stand as before. -/
def Posts (a b : Device) : Prop := (∃ l, b.host.outbox = a.host.outbox ++ l) ∧ b.host.chans = a.host.chans ∧ b.host.discarding = a.host.discarding ∧ b.now = a.now

theorem Posts.refl : Posts a a := ⟨⟨[], (List.append_nil _).symm⟩, rfl, rfl, rfl⟩
theorem Posts.trans (h : Posts a b) (g : Posts b c) : Posts a c := by
  obtain ⟨⟨l, hl⟩, h1, h2, h3⟩ := h
  obtain ⟨⟨m, hm⟩, g1, g2, g3⟩ := g
  exact ⟨⟨l ++ m, by rw [hm, hl, List.append_assoc]⟩, g1.trans h1, g2.trans h2, g3.trans h3⟩
/-- An effect that leaves the mailbox, the posts and the timebase. -/
theorem Posts.only {K : List Region} (h : Only K a b) (hm : Region.mail ∉ K) (hp : Region.posts ∉ K) (ht : Region.time ∉ K) : Posts a b := by
  have h1 := h.same .posts hp
  have h2 := h.same .mail hm
  have h3 := h.same .time ht
  simp only [Region.same, HostPort.posts, HostPort.mail, Prod.mk.injEq] at h1 h2 h3
  exact ⟨⟨[], by rw [List.append_nil]; exact h1.1.symm⟩, h2.1.symm, h2.2.2.2.1.symm, h3.symm⟩
theorem Device.post_posts (d : Device) (w : HostWrite) : Posts d (d.post w) := ⟨⟨[w], rfl⟩, rfl, rfl, rfl⟩
theorem Device.msix_posts (d : Device) (v : Nat) : Posts d (d.msix v) := by
  unfold Device.msix
  split
  · exact Posts.refl
  · split
    · exact ⟨⟨[], (List.append_nil _).symm⟩, rfl, rfl, rfl⟩
    · exact Device.post_posts ..
theorem Device.writeRecord_posts (d : Device) (e : Event) : Posts d (d.writeRecord e) := ⟨⟨_, rfl⟩, rfl, rfl, rfl⟩
theorem Device.writeBacklog_posts (n : Nat) (d : Device) : Posts d (Device.writeBacklog n d) := by
  induction n generalizing d with
  | zero => exact Posts.refl
  | succ n ih =>
    unfold Device.writeBacklog
    split
    · exact Posts.refl
    · split
      · exact Posts.refl
      · simp only []
        split
        all_goals
          refine Posts.trans ?_ (ih _)
          exact ⟨⟨_, rfl⟩, rfl, rfl, rfl⟩
theorem Device.evqSignal_posts (d : Device) : Posts d d.evqSignal := (Device.msix_posts d 0).trans ⟨⟨[], (List.append_nil _).symm⟩, rfl, rfl, rfl⟩
theorem Device.drainRecords_posts (d : Device) : Posts d d.drainRecords := Device.writeBacklog_posts _ d
theorem Device.drainShadow_posts (d : Device) : Posts d d.drainShadow := by
  unfold Device.drainShadow
  extract_lets addr shadow src x
  have h : Posts d x := Device.post_posts ..
  split
  · exact h.trans (Device.evqSignal_posts _)
  · exact h

theorem Device.Completed.more (h1 : Device.Completed a b h e) (g : Posts b c) : Device.Completed a c h e := by
  obtain ⟨⟨m, hm⟩, -, -, gn⟩ := g
  obtain ⟨x, y, w, k, h2, h3, h4, h5, h6, h7, h8⟩ := h1
  exact ⟨x, y ++ m, w, k, by rw [hm, h2]; simp, h3, h4, h5, h6, h7, h8.trans gn.symm⟩

/-- Completing a command posts its completion. -/
theorem Device.complete_completed (hp : Posts a d) (ha : a.Answers h) : Device.Completed a (d.complete h e) h e := by
  obtain ⟨⟨l, hl⟩, hc, hd, hn⟩ := hp
  obtain ⟨h1, h2⟩ := ha
  obtain ⟨ch, h2, h3⟩ : ∃ ch, a.host.chans[h.chan]? = some ch ∧ ch.enabled = true := by
    rw [List.getD_eq_getElem?_getD] at h2
    cases hx : a.host.chans[h.chan]? with
    | none => rw [hx] at h2; exact absurd h2 (by decide)
    | some ch => exact ⟨ch, rfl, by rw [hx] at h2; exact h2⟩
  unfold Device.complete
  rw [hd, if_neg (by rw [h1]; decide)]
  extract_lets evs wrote x rest
  have hx : Posts d x := by
    unfold x
    split
    · exact Device.drainRecords_posts d
    · exact Posts.refl
  have hrest : ∀ y, Posts y (rest y) := by
    intro y
    unfold rest
    split
    · exact Device.drainShadow_posts y
    · exact Posts.refl
  obtain ⟨⟨m, hm⟩, gc, gd, gn⟩ := hx
  rw [show x.host.chans[h.chan]? = some ch from by rw [gc, hc]; exact h2]
  simp only [h3, Bool.not_true, Bool.false_eq_true, if_false]
  have key : ∀ y : Device, ∀ w : HostWrite, ∀ c : Completion, y.host.outbox = x.host.outbox ++ [w] → w.cpl = some c → c.hdr = h → c.status = e.status →
      c.detail = BitVec.ofNat 32 e.detail → c.result = BitVec.ofNat 64 e.result → c.ctb = y.now → Device.Completed a y h e := by
    intro y w c k1 k2 k3 k4 k5 k6 k7
    exact ⟨l ++ m, [], w, c, by rw [k1, hm, hl]; simp, k2, k3, k4, k5, k6, k7⟩
  split
  · refine Device.Completed.more ?_ (hrest _)
    exact key _ _ _ rfl rfl rfl rfl rfl rfl rfl
  · refine Device.Completed.more (Device.Completed.more ?_ (hrest _)) (Device.msix_posts _ _)
    exact key _ _ _ rfl rfl rfl rfl rfl rfl rfl

/-- A completion posted by the effect stands posted after the command. -/
theorem Device.Completed.of_at {x : Device} (k : Device.Completed (d.ready t) (f (d.ready t)) h e) : Device.Completed d (x.carryOut (d.at_ t f)) h e := by
  obtain ⟨u, v, w, c, h1, h2, h3, h4, h5, h6, h7⟩ := k
  have hp := Device.at_same (d := d) (t := t) (f := f) .posts
  have hr := Device.ready_same (d := d) (t := t) .posts rfl
  have ht := Device.at_same (d := d) (t := t) (f := f) .time
  simp only [Region.same, HostPort.posts, Prod.mk.injEq] at hp hr ht
  exact ⟨u, v, w, c, by rw [show (x.carryOut (d.at_ t f)).host.outbox = (d.at_ t f).host.outbox from rfl, ← hp.1, h1, hr.1], h2, h3, h4, h5, h6, h7.trans ht⟩
theorem Device.Answers.ready (k : d.Answers h) : (d.ready t).Answers h := by
  have hm := Device.ready_same (d := d) (t := t) .mail rfl
  simp only [Region.same, HostPort.mail, Prod.mk.injEq] at hm
  exact ⟨by rw [← hm.2.2.2.1]; exact k.1, by rw [← hm.1]; exact k.2⟩

/-! ## Error reports -/

/-- A report to an idle handler is taken at once, at its own class. -/
theorem Device.errReport_idle (d : Device) (code die kind index detail : Nat) (die2 : Option Nat) (second : Bool) (h : d.eh.Idle) (hc : d.codeClass code ≠ 0) :
    (d.errReport code die kind index detail die2 second).eh.Handles code die (d.codeClass code) := by
  have ⟨h1, h2, h3, h4⟩ := h
  have hk : ∀ x : Device, x.eh = d.eh → x.par = d.par → (x.eh = d.eh ∧ x.codeClass code = d.codeClass code) := by
    intro x hx hp
    refine ⟨hx, ?_⟩
    unfold Device.codeClass Device.P
    rw [hp]
  have hq : ∀ b y n, (d.pmcPulse b y n).eh = d.eh ∧ (d.pmcPulse b y n).codeClass code = d.codeClass code := fun b y n =>
    hk _ ((Device.pmcPulse_only d b y n).same .eh (by decide)).symm ((Device.pmcPulse_only d b y n).same .par (by decide)).symm
  unfold Device.errReport
  extract_lets x c0 merge busy esc cls par src y z
  have hx : x.eh = d.eh ∧ x.codeClass code = d.codeClass code := by
    unfold x
    split
    · exact hq ..
    · split
      · exact hq ..
      · exact ⟨rfl, rfl⟩
  obtain ⟨hx, hk⟩ := hx
  have hc0 : c0 = d.codeClass code := hk
  have hb : busy = [] := by simp [busy, Eh.inHandling, hx, h1, h2]
  have he : esc = false := by simp [esc, hb]
  have hcls : cls = d.codeClass code := by simp [cls, he, hc0]
  have hin : d.eh.inHandling = [] := hx ▸ hb
  have hz : z.eh.handling = none ∧ z.eh.queue = [y] := by simp [z, Device.setEh, Device.countError, hx, h1, h2]
  simp [y, hz.1, hz.2, Device.takeError, Device.setEh, hx, h2, h3, h4, hc0, hc, hin, he, Eh.Handles, hcls]

end Sys2Proof.Machine
end

