-- ==== Sys2Proof/Laws/Commands.lean ====
section
/-! SUPPORT. Mailbox commands: a well-formed command that is carried out runs its body, and completes where the body ends. -/

namespace Sys2Proof.Machine

variable {s : State} {t : Tick} {h : CmdHdr} {a : Args} {used : List (Nat × Nat)} {bad : List (Nat × Bool)} {body : Device → Device × Option Ending} {d d' : Device} {e : Ending}

/-- The device that a command's body starts from: the instant is reached, and the start is counted. -/
def Device.started (d : Device) (t : Tick) : Device := (d.ready t).pmcPulse 0 2 1

theorem Device.started_only (d : Device) (t : Tick) : Only [.time, .stations] d (d.started t) :=
  Only.step (Device.pmcPulse_only ..) rfl (Device.ready_only d t)
theorem Device.started_now : (d.started t).now = max t d.now :=
  ((Device.pmcPulse_only (d.ready t) 0 2 1).same .time (by decide)).symm.trans Device.ready_now
theorem Device.started_posts : Posts (d.ready t) (d.started t) := Posts.only (Device.pmcPulse_only ..) (by decide) (by decide) (by decide)

theorem Device.fenced_ready : (d.ready t).fenced h = d.fenced h := by
  unfold Device.fenced
  rw [Device.ready_host_outstanding]

theorem cmdIf_runs (hx : d.fenced h = false) (hf : fits a used bad) : d.cmdIf h a used (firstBad bad) body =
    match body (d.pmcPulse 0 2 1) with
    | (x, some e) => x.complete h e
    | (x, none) => x := by
  unfold Device.cmdIf
  simp only [hx, Bool.false_eq_true, if_false]
  rw [show minOpt (firstStray a used) (firstBad bad) = none from hf] <;> rfl

theorem Device.carryOut_same {a b : Device} (r : Region) (hn : r ≠ .soffit) : r.same b (a.carryOut b) := by
  cases r <;> first | rfl | exact absurd rfl hn

/-- A well-formed command whose body ends: its completion is posted, and beside the mailbox and the posts the device is as the body leaves it. -/
theorem cmd_ends (hx : s.dev.Accepts h) (hf : fits a used bad) (hb : body (s.dev.started t) = (d', some e)) (hp : Posts (s.dev.started t) d') {p : Device → Prop}
    (hq : ∀ x, Device.Completed s.dev x h e → (∀ r : Region, r ∉ [.mail, .posts, .soffit] → r.same d' x) → p x) :
    Gives (s.on t fun d => d.cmdIf h a used (firstBad bad) body) s.pending p := by
  have hr := cmdIf_runs (body := body) (Device.fenced_ready (t := t) ▸ hx.2) hf
  rw [show (s.dev.ready t).pmcPulse 0 2 1 = s.dev.started t from rfl, hb] at hr
  rw [gives_on]
  refine ⟨rfl, hq _ ?_ fun r hn => ?_⟩
  · refine Device.Completed.of_at ?_
    rw [hr]
    exact Device.complete_completed (Device.started_posts.trans hp) hx.1.ready
  · have h1 := (Device.complete_only d' h e).same r fun hm => hn (sub_mem (L := [.mail, .posts]) rfl hm)
    have h2 := Device.at_same (d := s.dev) (t := t) (f := fun d => d.cmdIf h a used (firstBad bad) body) r
    rw [hr] at h2
    refine Region.same_trans h1 (Region.same_trans h2 ?_)
    exact Device.carryOut_same r fun hs => hn (by rw [hs]; decide)

/-- A well-formed command that ends later: the device is as the body leaves it. -/
theorem cmd_waits (hx : s.dev.Accepts h) (hf : fits a used bad) (hb : body (s.dev.started t) = (d', none)) {p : Device → Prop}
    (hq : ∀ x, (∀ r : Region, r ≠ .soffit → r.same d' x) → p x) :
    Gives (s.on t fun d => d.cmdIf h a used (firstBad bad) body) s.pending p := by
  have hr := cmdIf_runs (body := body) (Device.fenced_ready (t := t) ▸ hx.2) hf
  rw [show (s.dev.ready t).pmcPulse 0 2 1 = s.dev.started t from rfl, hb] at hr
  rw [gives_on]
  refine ⟨rfl, hq _ fun r hn => ?_⟩
  have h2 := Device.at_same (d := s.dev) (t := t) (f := fun d => d.cmdIf h a used (firstBad bad) body) r
  rw [hr] at h2
  exact Region.same_trans h2 (Device.carryOut_same r hn)

end Sys2Proof.Machine
end

