-- ==== Sys2Proof/Laws/Kept.lean ====
section
/-! SUPPORT. `Kept`: a device that has as many of each thing as the spec gives it still has them after a change; how changes add up. -/

namespace Sys2Proof.Machine

variable {d e e' : Device} {α β γ : Type}

/-- If the first device has its counts, the second has them. -/
structure Kept (d e : Device) : Prop where
  /-- From the first to the second. -/
  keep : d.Shaped → e.Shaped

theorem upd_all {p : α → Prop} {l : List α} {i : Nat} {f : α → α} (h : ∀ a ∈ l, p a) (hf : ∀ a, p a → p (f a)) : ∀ a ∈ upd l i f, p a := by
  intro a ha
  obtain ⟨j, hj, rfl⟩ := List.mem_iff_getElem.mp ha
  have hj' : j < l.length := by simpa [upd] using hj
  simp only [upd, List.getElem_modify]
  split
  · exact hf _ (h _ (List.getElem_mem hj'))
  · exact h _ (List.getElem_mem hj')

theorem Kept.refl : Kept d d := ⟨id⟩
theorem Kept.trans {a b c : Device} (h : Kept a b) (g : Kept b c) : Kept a c := ⟨fun s => g.keep (h.keep s)⟩
theorem Kept.step (g : Kept e e') (h : Kept d e) : Kept d e' := h.trans g
theorem Kept.cut (x : Device) (hx : Kept d x) (h : Kept d x → Kept d e) : Kept d e := h hx
theorem Kept.ite {a b : Device} {c : Prop} [Decidable c] (ha : Kept d a) (hb : Kept d b) : Kept d (if c then a else b) := by
  split <;> assumption
theorem Kept.foldl {f : Device → β → Device} {l : List β} (hf : ∀ x b, Kept d x → Kept d (f x b)) (h : Kept d e) : Kept d (l.foldl f e) := by
  induction l generalizing e with
  | nil => exact h
  | cons b r ih => exact ih (hf _ b h)
theorem Kept.foldl_fst {f : Device × α → β → Device × α} {l : List β} {i : Device × α} (hf : ∀ x b, Kept d x.1 → Kept d (f x b).1) (h : Kept d i.1) : Kept d (l.foldl f i).1 := by
  induction l generalizing i with
  | nil => exact h
  | cons b r ih => exact ih (hf _ b h)
theorem Kept.foldl_snd {f : α × Device → β → α × Device} {l : List β} {i : α × Device} (hf : ∀ x b, Kept d x.2 → Kept d (f x b).2) (h : Kept d i.2) : Kept d (l.foldl f i).2 := by
  induction l generalizing i with
  | nil => exact h
  | cons b r ih => exact ih (hf _ b h)
theorem Kept.foldl_third {f : α × γ × Device → β → α × γ × Device} {l : List β} {i : α × γ × Device} (hf : ∀ x b, Kept d x.2.2 → Kept d (f x b).2.2) (h : Kept d i.2.2) :
    Kept d (l.foldl f i).2.2 := by
  induction l generalizing i with
  | nil => exact h
  | cons b r ih => exact ih (hf _ b h)
theorem Kept.of_snd {p : α × Device} {a : α} {x : Device} (hp : p = (a, x)) (h : Kept d p.2) : Kept d x := by subst hp; exact h
theorem Kept.of_fst {p : Device × α} {a : α} {x : Device} (hp : p = (x, a)) (h : Kept d p.1) : Kept d x := by subst hp; exact h
theorem Kept.of_third {p : α × γ × Device} {a : α} {c : γ} {x : Device} (hp : p = (a, c, x)) (h : Kept d p.2.2) : Kept d x := by subst hp; exact h
theorem Kept.fst_mk {x : Device} {a : α} (h : Kept d x) : Kept d (x, a).1 := h
theorem Kept.endsMask {x : Device × Nat} (h : Kept d x.1) : Kept d (endsMask x).1 := h
theorem Kept.snd_mk {x : Device} {a : α} (h : Kept d x) : Kept d (a, x).2 := h
theorem Kept.third_mk {x : Device} {a : α} {c : γ} (h : Kept d x) : Kept d (a, c, x).2.2 := h
theorem Kept.eta (h : Kept d e) : Kept d { e with now := e.now } := h

/-! ## One field changed -/

theorem Kept.set_now {x} (h : Kept d e) : Kept d { e with now := x } := h.trans ⟨fun s => ⟨s.clk, s.host, s.parCopies, s.brk, s.modu, s.packs, s.meter, s.link, s.prot, s.safety, s.twin, s.meas, s.law, s.recd, s.pmc, s.net⟩⟩
theorem Kept.set_fresh {x} (h : Kept d e) : Kept d { e with fresh := x } := h.trans ⟨fun s => ⟨s.clk, s.host, s.parCopies, s.brk, s.modu, s.packs, s.meter, s.link, s.prot, s.safety, s.twin, s.meas, s.law, s.recd, s.pmc, s.net⟩⟩
theorem Kept.set_justSet {x} (h : Kept d e) : Kept d { e with justSet := x } := h.trans ⟨fun s => ⟨s.clk, s.host, s.parCopies, s.brk, s.modu, s.packs, s.meter, s.link, s.prot, s.safety, s.twin, s.meas, s.law, s.recd, s.pmc, s.net⟩⟩
theorem Kept.set_straps {x} (h : Kept d e) : Kept d { e with straps := x } := h.trans ⟨fun s => ⟨s.clk, s.host, s.parCopies, s.brk, s.modu, s.packs, s.meter, s.link, s.prot, s.safety, s.twin, s.meas, s.law, s.recd, s.pmc, s.net⟩⟩
theorem Kept.set_cycle {x} (h : Kept d e) : Kept d { e with cycle := x } := h.trans ⟨fun s => ⟨s.clk, s.host, s.parCopies, s.brk, s.modu, s.packs, s.meter, s.link, s.prot, s.safety, s.twin, s.meas, s.law, s.recd, s.pmc, s.net⟩⟩
theorem Kept.set_par {x} (h : Kept d e) : Kept d { e with par := x } := h.trans ⟨fun s => ⟨s.clk, s.host, s.parCopies, s.brk, s.modu, s.packs, s.meter, s.link, s.prot, s.safety, s.twin, s.meas, s.law, s.recd, s.pmc, s.net⟩⟩
theorem Kept.set_mirrors {x} (h : Kept d e) : Kept d { e with mirrors := x } := h.trans ⟨fun s => ⟨s.clk, s.host, s.parCopies, s.brk, s.modu, s.packs, s.meter, s.link, s.prot, s.safety, s.twin, s.meas, s.law, s.recd, s.pmc, s.net⟩⟩
theorem Kept.set_conv {x} (h : Kept d e) : Kept d { e with conv := x } := h.trans ⟨fun s => ⟨s.clk, s.host, s.parCopies, s.brk, s.modu, s.packs, s.meter, s.link, s.prot, s.safety, s.twin, s.meas, s.law, s.recd, s.pmc, s.net⟩⟩
theorem Kept.set_eh {x} (h : Kept d e) : Kept d { e with eh := x } := h.trans ⟨fun s => ⟨s.clk, s.host, s.parCopies, s.brk, s.modu, s.packs, s.meter, s.link, s.prot, s.safety, s.twin, s.meas, s.law, s.recd, s.pmc, s.net⟩⟩
theorem Kept.set_prov {x} (h : Kept d e) : Kept d { e with prov := x } := h.trans ⟨fun s => ⟨s.clk, s.host, s.parCopies, s.brk, s.modu, s.packs, s.meter, s.link, s.prot, s.safety, s.twin, s.meas, s.law, s.recd, s.pmc, s.net⟩⟩
theorem Kept.set_sec {x} (h : Kept d e) : Kept d { e with sec := x } := h.trans ⟨fun s => ⟨s.clk, s.host, s.parCopies, s.brk, s.modu, s.packs, s.meter, s.link, s.prot, s.safety, s.twin, s.meas, s.law, s.recd, s.pmc, s.net⟩⟩
theorem Kept.set_rails {x} (h : Kept d e) : Kept d { e with rails := x } := h.trans ⟨fun s => ⟨s.clk, s.host, s.parCopies, s.brk, s.modu, s.packs, s.meter, s.link, s.prot, s.safety, s.twin, s.meas, s.law, s.recd, s.pmc, s.net⟩⟩
theorem Kept.set_meas {x} (hx : e.meas.Shaped → x.Shaped) (h : Kept d e) : Kept d { e with meas := x } := h.trans ⟨fun s => ⟨s.clk, s.host, s.parCopies, s.brk, s.modu, s.packs, s.meter, s.link, s.prot, s.safety, s.twin, hx s.meas, s.law, s.recd, s.pmc, s.net⟩⟩
theorem Kept.set_law {x} (hx : e.law.Shaped → x.Shaped) (h : Kept d e) : Kept d { e with law := x } := h.trans ⟨fun s => ⟨s.clk, s.host, s.parCopies, s.brk, s.modu, s.packs, s.meter, s.link, s.prot, s.safety, s.twin, s.meas, hx s.law, s.recd, s.pmc, s.net⟩⟩
theorem Kept.set_modu {x} (hx : e.modu.Shaped → x.Shaped) (h : Kept d e) : Kept d { e with modu := x } := h.trans ⟨fun s => ⟨s.clk, s.host, s.parCopies, s.brk, hx s.modu, s.packs, s.meter, s.link, s.prot, s.safety, s.twin, s.meas, s.law, s.recd, s.pmc, s.net⟩⟩
theorem Kept.set_packs {x} (hx : e.packs.Shaped → x.Shaped) (h : Kept d e) : Kept d { e with packs := x } := h.trans ⟨fun s => ⟨s.clk, s.host, s.parCopies, s.brk, s.modu, hx s.packs, s.meter, s.link, s.prot, s.safety, s.twin, s.meas, s.law, s.recd, s.pmc, s.net⟩⟩
theorem Kept.set_meter {x} (hx : e.meter.Shaped → x.Shaped) (h : Kept d e) : Kept d { e with meter := x } := h.trans ⟨fun s => ⟨s.clk, s.host, s.parCopies, s.brk, s.modu, s.packs, hx s.meter, s.link, s.prot, s.safety, s.twin, s.meas, s.law, s.recd, s.pmc, s.net⟩⟩
theorem Kept.set_link {x} (hx : e.link.Shaped → x.Shaped) (h : Kept d e) : Kept d { e with link := x } := h.trans ⟨fun s => ⟨s.clk, s.host, s.parCopies, s.brk, s.modu, s.packs, s.meter, hx s.link, s.prot, s.safety, s.twin, s.meas, s.law, s.recd, s.pmc, s.net⟩⟩
theorem Kept.set_prot {x} (hx : e.prot.Shaped → x.Shaped) (h : Kept d e) : Kept d { e with prot := x } := h.trans ⟨fun s => ⟨s.clk, s.host, s.parCopies, s.brk, s.modu, s.packs, s.meter, s.link, hx s.prot, s.safety, s.twin, s.meas, s.law, s.recd, s.pmc, s.net⟩⟩
theorem Kept.set_safety {x} (hx : e.safety.Shaped → x.Shaped) (h : Kept d e) : Kept d { e with safety := x } := h.trans ⟨fun s => ⟨s.clk, s.host, s.parCopies, s.brk, s.modu, s.packs, s.meter, s.link, s.prot, hx s.safety, s.twin, s.meas, s.law, s.recd, s.pmc, s.net⟩⟩
theorem Kept.set_twin {x} (hx : e.twin.Shaped → x.Shaped) (h : Kept d e) : Kept d { e with twin := x } := h.trans ⟨fun s => ⟨s.clk, s.host, s.parCopies, s.brk, s.modu, s.packs, s.meter, s.link, s.prot, s.safety, hx s.twin, s.meas, s.law, s.recd, s.pmc, s.net⟩⟩
theorem Kept.set_host {x} (hx : e.host.Shaped → x.Shaped) (h : Kept d e) : Kept d { e with host := x } := h.trans ⟨fun s => ⟨s.clk, hx s.host, s.parCopies, s.brk, s.modu, s.packs, s.meter, s.link, s.prot, s.safety, s.twin, s.meas, s.law, s.recd, s.pmc, s.net⟩⟩
theorem Kept.set_clk {x} (hx : e.clk.Shaped → x.Shaped) (h : Kept d e) : Kept d { e with clk := x } := h.trans ⟨fun s => ⟨hx s.clk, s.host, s.parCopies, s.brk, s.modu, s.packs, s.meter, s.link, s.prot, s.safety, s.twin, s.meas, s.law, s.recd, s.pmc, s.net⟩⟩
theorem Kept.set_net {x} (hx : e.net.Shaped → x.Shaped) (h : Kept d e) : Kept d { e with net := x } := h.trans ⟨fun s => ⟨s.clk, s.host, s.parCopies, s.brk, s.modu, s.packs, s.meter, s.link, s.prot, s.safety, s.twin, s.meas, s.law, s.recd, s.pmc, hx s.net⟩⟩
theorem Kept.set_recd {x} (hx : e.recd.Shaped → x.Shaped) (h : Kept d e) : Kept d { e with recd := x } := h.trans ⟨fun s => ⟨s.clk, s.host, s.parCopies, s.brk, s.modu, s.packs, s.meter, s.link, s.prot, s.safety, s.twin, s.meas, s.law, hx s.recd, s.pmc, s.net⟩⟩
theorem Kept.set_grid {x} (hx : e.grid.brk.length = 2 → x.brk.length = 2) (h : Kept d e) : Kept d { e with grid := x } := h.trans ⟨fun s => ⟨s.clk, s.host, s.parCopies, hx s.brk, s.modu, s.packs, s.meter, s.link, s.prot, s.safety, s.twin, s.meas, s.law, s.recd, s.pmc, s.net⟩⟩
theorem Kept.set_zep {x} (hx : e.zep.pmc.Shaped → x.pmc.Shaped) (h : Kept d e) : Kept d { e with zep := x } := h.trans ⟨fun s => ⟨s.clk, s.host, s.parCopies, s.brk, s.modu, s.packs, s.meter, s.link, s.prot, s.safety, s.twin, s.meas, s.law, s.recd, hx s.pmc, s.net⟩⟩
theorem Kept.set_parCopies {x} (hx : e.parCopies.length = 2 → x.length = 2) (h : Kept d e) : Kept d { e with parCopies := x } := h.trans ⟨fun s => ⟨s.clk, s.host, hx s.parCopies, s.brk, s.modu, s.packs, s.meter, s.link, s.prot, s.safety, s.twin, s.meas, s.law, s.recd, s.pmc, s.net⟩⟩

/-! ## The setters of the parts -/

theorem Device.setConv_kept {f : Conv → Conv} (h : Kept d e) : Kept d (e.setConv f) := Kept.set_conv h
theorem Device.setSeq_kept {f : Seq → Seq} (h : Kept d e) : Kept d (e.setSeq f) := Kept.set_grid id h
theorem Device.setTraj_kept {f : Traj → Traj} (h : Kept d e) : Kept d (e.setTraj f) := Kept.set_grid id h
theorem Device.setRide_kept {f : Ride → Ride} (h : Kept d e) : Kept d (e.setRide f) := Kept.set_grid id h
theorem Device.setEh_kept {f : Eh → Eh} (h : Kept d e) : Kept d (e.setEh f) := Kept.set_eh h
theorem Device.setSec_kept {f : Sec → Sec} (h : Kept d e) : Kept d (e.setSec f) := Kept.set_sec h
theorem Device.setPar_kept {f : ParamState → ParamState} (h : Kept d e) : Kept d (e.setPar f) := Kept.set_par h
theorem Device.setHk_kept {f : Hk → Hk} (h : Kept d e) : Kept d (e.setHk f) := Kept.set_zep id h
theorem Device.setDrift_kept {f : Drift → Drift} (h : Kept d e) : Kept d (e.setDrift f) := Kept.set_zep id h
theorem Device.setProt_kept {f : Prot → Prot} (hf : ∀ x : Prot, x.Shaped → (f x).Shaped) (h : Kept d e) : Kept d (e.setProt f) := Kept.set_prot (hf _) h
theorem Device.setModu_kept {f : Modu → Modu} (hf : ∀ x : Modu, x.Shaped → (f x).Shaped) (h : Kept d e) : Kept d (e.setModu f) := Kept.set_modu (hf _) h
theorem Device.setSaf_kept {f : Safety → Safety} (hf : ∀ x : Safety, x.Shaped → (f x).Shaped) (h : Kept d e) : Kept d (e.setSaf f) := Kept.set_safety (hf _) h
theorem Device.setTwin_kept {f : Twin → Twin} (hf : ∀ x : Twin, x.Shaped → (f x).Shaped) (h : Kept d e) : Kept d (e.setTwin f) := Kept.set_twin (hf _) h
theorem Device.setHost_kept {f : HostPort → HostPort} (hf : ∀ x : HostPort, x.Shaped → (f x).Shaped) (h : Kept d e) : Kept d (e.setHost f) := Kept.set_host (hf _) h
theorem Device.setLink_kept {f : Link → Link} (hf : ∀ x : Link, x.Shaped → (f x).Shaped) (h : Kept d e) : Kept d (e.setLink f) := Kept.set_link (hf _) h
theorem Device.setLaw_kept {f : Law → Law} (hf : ∀ x : Law, x.Shaped → (f x).Shaped) (h : Kept d e) : Kept d (e.setLaw f) := Kept.set_law (hf _) h
theorem Device.setPacks_kept {f : Packs → Packs} (hf : ∀ x : Packs, x.Shaped → (f x).Shaped) (h : Kept d e) : Kept d (e.setPacks f) := Kept.set_packs (hf _) h
theorem Device.setMeas_kept {f : Meas → Meas} (hf : ∀ x : Meas, x.Shaped → (f x).Shaped) (h : Kept d e) : Kept d (e.setMeas f) := Kept.set_meas (hf _) h
theorem Device.setClk_kept {f : Clk → Clk} (hf : ∀ x : Clk, x.Shaped → (f x).Shaped) (h : Kept d e) : Kept d (e.setClk f) := Kept.set_clk (hf _) h
theorem Device.setRec_kept {f : Rec → Rec} (hf : ∀ x : Rec, x.Shaped → (f x).Shaped) (h : Kept d e) : Kept d (e.setRec f) := Kept.set_recd (hf _) h
theorem Device.setNet_kept {f : Net → Net} (hf : ∀ x : Net, x.Shaped → (f x).Shaped) (h : Kept d e) : Kept d (e.setNet f) := Kept.set_net (hf _) h
theorem Device.setMeter_kept {f : Meter → Meter} (hf : ∀ x : Meter, x.Shaped → (f x).Shaped) (h : Kept d e) : Kept d (e.setMeter f) := Kept.set_meter (hf _) h
theorem Device.setPmc_kept {f : Pmc → Pmc} (hf : ∀ x : Pmc, x.Shaped → (f x).Shaped) (h : Kept d e) : Kept d (e.setPmc f) := Kept.set_zep (hf _) h

end Sys2Proof.Machine
end

