-- ==== Sys2Proof/Laws/KeptCore.lean ====
section
/-! SUPPORT. Every operation, and then every command, leaves the device the counts the spec gives it (`Kept`): the shared operations: events, counters, time, sequences, trips, mailbox commands. -/

namespace Sys2Proof.Machine

/-! ## Base -/

theorem Device.draw_kept (d : Device) : Kept d (Device.draw d).2 := by
  unfold Device.draw
  refine Kept.snd_mk ?_
  refine Kept.set_fresh ?_
  exact Kept.refl

/-! ## Triggers -/

theorem Device.condMet_kept (d : Device) (x : Nat) (at_ : Tick) (v : Int) : Kept d (Device.condMet d x at_ v) := by
  unfold Device.condMet
  extract_lets +onlyGivenNames r1
  refine Kept.set_recd (fun h => by simpa [Rec.Shaped, upd, clearBits] using h) ?_
  exact Kept.refl
theorem Device.recEvent_kept (d : Device) (k : Nat) (at_ : Tick) : Kept d (Device.recEvent d k at_) := by
  unfold Device.recEvent
  refine Kept.foldl (fun x1 b2 hx1 => ?_) ?_
  · refine Kept.step (Device.condMet_kept ..) ?_
    assumption
  · exact Kept.refl
theorem Device.trigSample_kept (d : Device) (x : Nat) (at_ : Tick) (v : Int) : Kept d (Device.trigSample d x at_ v) := by
  unfold Device.trigSample
  extract_lets +onlyGivenNames c1
  split
  extract_lets +onlyGivenNames d2
  extract_lets +onlyGivenNames d3
  refine Kept.cut d3 ?_ fun hd3 => ?_
  · subst d3
    refine Kept.set_recd (fun h => by simpa [Rec.Shaped, upd, clearBits] using h) ?_
    exact Kept.refl
  clear_value d3
  extract_lets +onlyGivenNames shown4
  refine Kept.foldl (fun x5 b6 hx5 => ?_) ?_
  · refine Kept.step (Device.condMet_kept ..) ?_
    assumption
  · assumption
theorem Device.trigFeed_kept (d : Device) (src : Nat) (at_ : Tick) (v : Int) : Kept d (Device.trigFeed d src at_ v) := by
  unfold Device.trigFeed
  refine Kept.foldl (fun x1 b2 hx1 => ?_) ?_
  · refine Kept.step (Device.trigSample_kept ..) ?_
    assumption
  · exact Kept.refl
theorem Device.trigDigital_kept (d : Device) (old : BitVec 128) (new : BitVec 128) (since : Tick) : Kept d (Device.trigDigital d old new since) := by
  unfold Device.trigDigital
  refine Kept.foldl (fun x1 b2 hx1 => ?_) ?_
  · extract_lets +onlyGivenNames src3
    extract_lets +onlyGivenNames d4
    refine Kept.cut d4 ?_ fun hd4 => ?_
    · subst d4
      refine Kept.foldl (fun x5 b6 hx5 => ?_) ?_
      · refine Kept.step (Device.trigSample_kept ..) ?_
        assumption
      · assumption
    clear_value d4
    refine Kept.step (Device.trigFeed_kept ..) ?_
    assumption
  · exact Kept.refl
theorem Device.trigTimeouts_kept (d : Device) : Kept d (Device.trigTimeouts d) := by
  unfold Device.trigTimeouts
  refine Kept.foldl (fun x1 b2 hx1 => ?_) ?_
  · extract_lets +onlyGivenNames c3
    extract_lets +onlyGivenNames e4
    extract_lets +onlyGivenNames due5
    extract_lets +onlyGivenNames up6
    extract_lets +onlyGivenNames dn7
    extract_lets +onlyGivenNames e'8
    extract_lets +onlyGivenNames e'9
    extract_lets +onlyGivenNames e'10
    extract_lets +onlyGivenNames d11
    extract_lets +onlyGivenNames d12
    refine Kept.cut d12 ?_ fun hd12 => ?_
    · subst d12
      refine Kept.set_recd (fun h => by simpa [Rec.Shaped, upd, clearBits] using h) ?_
      assumption
    clear_value d12
    refine Kept.foldl (fun x13 b14 hx13 => ?_) ?_
    · refine Kept.step (Device.condMet_kept ..) ?_
      assumption
    · assumption
  · exact Kept.refl
theorem Device.trigRestart_kept (d : Device) (old : PSet) : Kept d (Device.trigRestart d old) := by
  unfold Device.trigRestart
  extract_lets +onlyGivenNames cfg1
  extract_lets +onlyGivenNames one2
  refine Kept.set_recd (fun h => by simpa [Rec.Shaped, upd, clearBits] using h) ?_
  exact Kept.refl

/-! ## Ops -/

theorem Device.post_kept (d : Device) (w : HostWrite) : Kept d (Device.post d w) := by
  unfold Device.post
  refine Kept.set_host (fun h => by simpa [HostPort.Shaped, upd, clearBits] using h) ?_
  exact Kept.refl
theorem Device.msix_kept (d : Device) (v : Nat) : Kept d (Device.msix d v) := by
  unfold Device.msix
  split
  · exact Kept.refl
  · refine Kept.ite ?_ ?_
    · refine Kept.set_host (fun h => by simpa [HostPort.Shaped, upd, clearBits] using h) ?_
      exact Kept.refl
    · refine Kept.step (Device.post_kept ..) ?_
      exact Kept.refl
theorem Device.hwSet_kept (d : Device) (off : Nat) (mask : Nat) : Kept d (Device.hwSet d off mask) := by
  unfold Device.hwSet
  refine Kept.set_justSet ?_
  exact Kept.refl
theorem Device.enqueue_kept (d : Device) (e : Event) : Kept d (Device.enqueue d e) := by
  unfold Device.enqueue
  refine Kept.ite ?_ ?_
  · extract_lets +onlyGivenNames run1
    refine Kept.set_host (fun h => by simpa [HostPort.Shaped, upd, clearBits] using h) ?_
    exact Kept.refl
  · refine Kept.set_host (fun h => by simpa [HostPort.Shaped, upd, clearBits] using h) ?_
    exact Kept.refl
theorem Device.raiseEv_kept (d : Device) (e : Event) : Kept d (Device.raiseEv d e) := by
  unfold Device.raiseEv
  extract_lets +onlyGivenNames d1
  extract_lets +onlyGivenNames d2
  refine Kept.cut d2 ?_ fun hd2 => ?_
  · subst d2
    refine Kept.set_host (fun h => by simpa [HostPort.Shaped, upd, clearBits] using h) ?_
    exact Kept.refl
  clear_value d2
  extract_lets +onlyGivenNames d3
  refine Kept.cut d3 ?_ fun hd3 => ?_
  · subst d3
    split
    · assumption
    · refine Kept.step (Device.recEvent_kept ..) ?_
      assumption
  clear_value d3
  refine Kept.step (Device.enqueue_kept ..) ?_
  assumption
theorem Device.raise_kept (d : Device) (name : String) (island : Nat) (kind : Nat) (index : Nat) (payload : List Int) : Kept d (Device.raise d name island kind index payload) := by
  unfold Device.raise
  refine Kept.step (Device.raiseEv_kept ..) ?_
  exact Kept.refl
theorem Device.raiseRated_kept (d : Device) (name : String) (island : Nat) (kind : Nat) (index : Nat) (payload : List Int) : Kept d (Device.raiseRated d name island kind index payload) := by
  unfold Device.raiseRated
  refine Kept.ite ?_ ?_
  · extract_lets +onlyGivenNames rates1
    refine Kept.set_host (fun h => by simpa [HostPort.Shaped, upd, clearBits] using h) ?_
    exact Kept.refl
  · extract_lets +onlyGivenNames d2
    refine Kept.cut d2 ?_ fun hd2 => ?_
    · subst d2
      refine Kept.step (Device.raise_kept ..) ?_
      exact Kept.refl
    clear_value d2
    extract_lets +onlyGivenNames row3
    extract_lets +onlyGivenNames row4
    refine Kept.set_host (fun h => by simpa [HostPort.Shaped, upd, clearBits] using h) ?_
    assumption
theorem Device.reminder_kept (d : Device) (name : String) (island : Nat) (kind : Nat) (index : Nat) (payload : List Int) : Kept d (Device.reminder d name island kind index payload) := by
  unfold Device.reminder
  refine Kept.step (Device.raiseEv_kept ..) ?_
  exact Kept.refl
theorem Device.writeRecord_kept (d : Device) (e : Event) : Kept d (Device.writeRecord d e) := by
  unfold Device.writeRecord
  extract_lets +onlyGivenNames h1
  extract_lets +onlyGivenNames n2
  extract_lets +onlyGivenNames base3
  extract_lets +onlyGivenNames w4
  extract_lets +onlyGivenNames w5
  refine Kept.set_host (fun h => by simpa [HostPort.Shaped, upd, clearBits] using h) ?_
  exact Kept.refl
theorem Device.writeBacklog_kept (n : Nat) (d : Device) : Kept d (Device.writeBacklog n d) := by
  induction n generalizing d with
  | zero => exact Kept.refl
  | succ n ih =>
    unfold Device.writeBacklog
    refine Kept.ite Kept.refl ?_
    split
    · exact Kept.refl
    · next rest _ =>
      have h1 : Kept d { d with host := { d.host with backlog := rest } } := Kept.set_host id Kept.refl
      split
      · exact Kept.step (ih _) (h1.trans (Device.writeRecord_kept ..))
      · exact Kept.step (ih _) (Kept.set_host id (h1.trans (Device.writeRecord_kept ..)))
theorem Device.evqSignal_kept (d : Device) : Kept d (Device.evqSignal d) := by
  unfold Device.evqSignal
  extract_lets +onlyGivenNames d1
  refine Kept.cut d1 ?_ fun hd1 => ?_
  · subst d1
    refine Kept.step (Device.msix_kept ..) ?_
    exact Kept.refl
  clear_value d1
  refine Kept.set_host (fun h => by simpa [HostPort.Shaped, upd, clearBits] using h) ?_
  assumption
theorem Device.drainRecords_kept (d : Device) : Kept d (Device.drainRecords d) := by
  unfold Device.drainRecords
  refine Kept.step (Device.writeBacklog_kept ..) ?_
  exact Kept.refl
theorem Device.drainShadow_kept (d : Device) : Kept d (Device.drainShadow d) := by
  unfold Device.drainShadow
  extract_lets +onlyGivenNames addr1
  extract_lets +onlyGivenNames shadow2
  extract_lets +onlyGivenNames d3
  extract_lets +onlyGivenNames d4
  refine Kept.cut d4 ?_ fun hd4 => ?_
  · subst d4
    refine Kept.step (Device.post_kept ..) ?_
    exact Kept.refl
  clear_value d4
  refine Kept.ite ?_ ?_
  · refine Kept.step (Device.evqSignal_kept ..) ?_
    assumption
  · assumption
theorem Device.drain_kept (d : Device) : Kept d (Device.drain d) := by
  unfold Device.drain
  refine Kept.ite ?_ ?_
  · refine Kept.step (Device.drainShadow_kept ..) ?_
    refine Kept.step (Device.drainRecords_kept ..) ?_
    exact Kept.refl
  · exact Kept.refl
theorem Device.complete_kept (d : Device) (h : CmdHdr) (e : Ending) : Kept d (Device.complete d h e) := by
  unfold Device.complete
  refine Kept.ite ?_ ?_
  · refine Kept.set_host (fun h => by simpa [HostPort.Shaped, upd, clearBits] using h) ?_
    exact Kept.refl
  · extract_lets +onlyGivenNames evs1
    extract_lets +onlyGivenNames wrote2
    extract_lets +onlyGivenNames d3
    refine Kept.cut d3 ?_ fun hd3 => ?_
    · subst d3
      refine Kept.ite ?_ ?_
      · refine Kept.step (Device.drainRecords_kept ..) ?_
        exact Kept.refl
      · exact Kept.refl
    clear_value d3
    extract_lets +onlyGivenNames rest4
    split
    · unfold rest4
      refine Kept.ite ?_ ?_
      · refine Kept.step (Device.drainShadow_kept ..) ?_
        assumption
      · assumption
    · refine Kept.ite ?_ ?_
      · unfold rest4
        refine Kept.ite ?_ ?_
        · refine Kept.step (Device.drainShadow_kept ..) ?_
          assumption
        · assumption
      · extract_lets +onlyGivenNames base5
        extract_lets +onlyGivenNames c6
        extract_lets +onlyGivenNames d7
        extract_lets +onlyGivenNames d8
        refine Kept.cut d8 ?_ fun hd8 => ?_
        · subst d8
          refine Kept.step (Device.post_kept ..) ?_
          assumption
        clear_value d8
        extract_lets +onlyGivenNames d9
        extract_lets +onlyGivenNames d10
        refine Kept.cut d10 ?_ fun hd10 => ?_
        · subst d10
          refine Kept.set_host (fun h => by simpa [HostPort.Shaped, upd, clearBits] using h) ?_
          assumption
        clear_value d10
        extract_lets +onlyGivenNames d11
        refine Kept.cut d11 ?_ fun hd11 => ?_
        · subst d11
          unfold rest4
          refine Kept.ite ?_ ?_
          · refine Kept.step (Device.drainShadow_kept ..) ?_
            assumption
          · assumption
        clear_value d11
        refine Kept.ite ?_ ?_
        · assumption
        · refine Kept.step (Device.msix_kept ..) ?_
          assumption
theorem Device.dmaFail_kept (d : Device) : Kept d (Device.dmaFail d) := by
  unfold Device.dmaFail
  refine Kept.set_host (fun h => by simpa [HostPort.Shaped, upd, clearBits] using h) ?_
  exact Kept.refl
theorem Device.hostErr_kept (d : Device) : Kept d (Device.hostErr d) := by
  unfold Device.hostErr
  refine Kept.set_host (fun h => by simpa [HostPort.Shaped, upd, clearBits] using h) ?_
  exact Kept.refl
theorem Device.reserved_kept (d : Device) (v : BitVec 32) (mask : Nat) : Kept d (Device.reserved d v mask) := by
  unfold Device.reserved
  refine Kept.ite ?_ ?_
  · exact Kept.refl
  · refine Kept.step (Device.hostErr_kept ..) ?_
    exact Kept.refl

/-! ## Soffit -/

theorem Device.soffitWrite_kept (d : Device) (addr : Nat) (l : List (BitVec 8)) : Kept d (Device.soffitWrite d addr l) := by
  unfold Device.soffitWrite
  refine Kept.set_recd (fun h => by simpa [Rec.Shaped, upd, clearBits] using h) ?_
  exact Kept.refl
theorem Device.carryOut_kept (a b : Device) : Kept b (a.carryOut b) := Kept.set_recd id Kept.refl

/-! ## Time -/

theorem Device.setCtrs_kept (d : Device) (b : Nat) (f : List PmcCounter → List PmcCounter) (hf : ∀ l, (f l).length = l.length) : Kept d (d.setCtrs b f) :=
  Kept.set_zep (fun h => ⟨by simpa [upd] using h.1, upd_all h.2 fun l hl => (hf l).trans hl⟩) Kept.refl
theorem Device.ctrWrap_kept (n : Nat) (d : Device) (b i : Nat) : Kept d (Device.ctrWrap n d b i) := by
  induction n generalizing d i with
  | zero => exact Kept.refl
  | succ n ih =>
    unfold Device.ctrWrap
    have hs : ∀ d j f, Kept d (Device.setCtrs d b fun l => upd l j f) := fun d j f => Device.setCtrs_kept _ _ _ (by simp [upd])
    refine Kept.ite (Kept.ite Kept.refl (Kept.ite ?_ ((hs ..).trans (ih ..)))) (((hs ..).trans (Device.hwSet_kept ..)).trans (Device.raiseRated_kept ..))
    exact hs ..
theorem Device.ctrAdd_kept (d : Device) (b : Nat) (i : Nat) (n : Nat) : Kept d (Device.ctrAdd d b i n) := by
  unfold Device.ctrAdd
  extract_lets +onlyGivenNames v1
  extract_lets +onlyGivenNames d'2
  refine Kept.cut d'2 ?_ fun hd'2 => ?_
  · subst d'2
    refine Kept.step (Device.setCtrs_kept _ _ _ fun l => by simp [upd]) ?_
    exact Kept.refl
  clear_value d'2
  refine Kept.ite ?_ ?_
  · assumption
  · refine Kept.step (Device.ctrWrap_kept ..) ?_
    assumption
theorem Device.pmcPulse_kept (d : Device) (b : Nat) (code : Nat) (n : Nat) : Kept d (Device.pmcPulse d b code n) := by
  unfold Device.pmcPulse
  refine Kept.foldl (fun x1 b2 hx1 => ?_) ?_
  · extract_lets +onlyGivenNames c3
    refine Kept.ite ?_ ?_
    · assumption
    · refine Kept.ite ?_ ?_
      · refine Kept.step (Device.ctrAdd_kept ..) ?_
        assumption
      · refine Kept.ite ?_ ?_
        · refine Kept.step (Device.ctrAdd_kept ..) ?_
          assumption
        · split
          rename_i q4
          refine Kept.cut _ (Kept.of_snd q4 ?_) fun hx5 => ?_
          · refine Kept.step (Device.draw_kept ..) ?_
            assumption
          refine Kept.step (Device.ctrAdd_kept ..) ?_
          assumption
  · exact Kept.refl
theorem Device.pmcRise_kept (d : Device) (b : Nat) (code : Nat) (n : Nat) : Kept d (Device.pmcRise d b code n) := by
  unfold Device.pmcRise
  refine Kept.foldl (fun x1 b2 hx1 => ?_) ?_
  · extract_lets +onlyGivenNames c3
    refine Kept.ite ?_ ?_
    · refine Kept.step (Device.ctrAdd_kept ..) ?_
      assumption
    · assumption
  · exact Kept.refl
theorem Device.pmcSpan_kept (d : Device) (span : Nat) : Kept d (Device.pmcSpan d span) := by
  unfold Device.pmcSpan
  refine Kept.ite ?_ ?_
  · exact Kept.refl
  · extract_lets +onlyGivenNames opened1
    refine Kept.foldl (fun x2 b3 hx2 => ?_) ?_
    · refine Kept.foldl (fun x4 b5 hx4 => ?_) ?_
      · extract_lets +onlyGivenNames c6
        refine Kept.ite ?_ ?_
        · assumption
        · refine Kept.ite ?_ ?_
          · refine Kept.step (Device.ctrAdd_kept ..) ?_
            assumption
          · split
            · refine Kept.ite ?_ ?_
              · refine Kept.step (Device.ctrAdd_kept ..) ?_
                assumption
              · assumption
            · refine Kept.ite ?_ ?_
              · split
                rename_i q7
                refine Kept.cut _ (Kept.of_snd q7 ?_) fun hx8 => ?_
                · refine Kept.step (Device.draw_kept ..) ?_
                  assumption
                refine Kept.step (Device.ctrAdd_kept ..) ?_
                assumption
              · assumption
      · assumption
    · exact Kept.refl
theorem Device.scSpan_kept (d : Device) (span : Nat) : Kept d (Device.scSpan d span) := by
  unfold Device.scSpan
  extract_lets +onlyGivenNames total1
  extract_lets +onlyGivenNames k2
  refine Kept.set_net (fun h => by simpa [Net.Shaped, upd, clearBits] using h) ?_
  exact Kept.refl
theorem Device.advance_kept (d : Device) (t : Tick) : Kept d (Device.advance d t) := by
  unfold Device.advance
  refine Kept.ite ?_ ?_
  · exact Kept.refl
  · extract_lets +onlyGivenNames span1
    extract_lets +onlyGivenNames r2
    refine Kept.cut r2 ?_ fun hr2 => ?_
    · subst r2
      refine Kept.step (Device.pmcSpan_kept ..) ?_
      refine Kept.step (Device.scSpan_kept ..) ?_
      exact Kept.refl
    clear_value r2
    refine Kept.set_now ?_
    assumption
theorem Device.logDigital_kept (d : Device) : Kept d (Device.logDigital d) := by
  unfold Device.logDigital
  extract_lets +onlyGivenNames w1
  extract_lets +onlyGivenNames last2
  refine Kept.ite ?_ ?_
  · exact Kept.refl
  · extract_lets +onlyGivenNames d3
    refine Kept.cut d3 ?_ fun hd3 => ?_
    · subst d3
      refine Kept.step (Device.trigDigital_kept ..) ?_
      exact Kept.refl
    clear_value d3
    refine Kept.set_recd (fun h => by simpa [Rec.Shaped, upd, clearBits] using h) ?_
    assumption
theorem Device.countEdges_kept (d : Device) : Kept d (Device.countEdges d) := by
  unfold Device.countEdges
  extract_lets +onlyGivenNames now1
  extract_lets +onlyGivenNames rose2
  extract_lets +onlyGivenNames d3
  refine Kept.cut d3 ?_ fun hd3 => ?_
  · subst d3
    refine Kept.foldl (fun x4 b5 hx4 => ?_) ?_
    · refine Kept.step (Device.pmcRise_kept ..) ?_
      assumption
    · exact Kept.refl
  clear_value d3
  refine Kept.set_zep (fun h => by simpa [Pmc.Shaped, upd, clearBits] using h) ?_
  assumption
theorem Device.ready_kept (d : Device) (t : Tick) : Kept d (d.ready t) := Kept.set_host id (Device.advance_kept ..)
theorem State.on_kept {s s' : State} {t : Tick} {f : Device → Device} (h : s.on t f = .next s') (hf : ∀ d, Kept d (f d)) : Kept s.dev s'.dev := by
  cases h
  exact Kept.step (Device.carryOut_kept ..) (Kept.step (Device.countEdges_kept ..) (Kept.step (Device.logDigital_kept ..) (Kept.step (Device.pmcPulse_kept ..)
    ((Device.ready_kept ..).trans (hf _)))))

/-! ## Sequence -/

theorem Device.setBrk_kept (d : Device) (b : Nat) (f : Breaker → Breaker) : Kept d (Device.setBrk d b f) := by
  unfold Device.setBrk
  refine Kept.set_grid (fun h => by simpa [upd] using h) ?_
  exact Kept.refl
theorem Device.closeCommand_kept (d : Device) (b : Nat) : Kept d (Device.closeCommand d b) := by
  unfold Device.closeCommand
  refine Kept.ite ?_ ?_
  · exact Kept.refl
  · refine Kept.step (Device.setBrk_kept ..) ?_
    exact Kept.refl
theorem Device.withdrawClose_kept (d : Device) (b : Nat) : Kept d (Device.withdrawClose d b) := by
  unfold Device.withdrawClose
  extract_lets +onlyGivenNames x1
  refine Kept.ite ?_ ?_
  · refine Device.setSeq_kept ?_
    refine Kept.step (Device.setBrk_kept ..) ?_
    exact Kept.refl
  · exact Kept.refl
theorem Device.flushMoves_kept (d : Device) : Kept d (Device.flushMoves d) := by
  unfold Device.flushMoves
  extract_lets +onlyGivenNames n1
  refine Kept.step (Device.raise_kept ..) ?_
  refine Device.setTraj_kept ?_
  exact Kept.refl
theorem Device.dropMoves_kept (d : Device) : Kept d (Device.dropMoves d) := by
  unfold Device.dropMoves
  refine Device.setTraj_kept ?_
  exact Kept.refl
theorem Device.endSequence_kept (d : Device) (reason : Nat) : Kept d (Device.endSequence d reason) := by
  unfold Device.endSequence
  refine Kept.ite ?_ ?_
  · exact Kept.refl
  · refine Device.setSeq_kept ?_
    refine Device.setTraj_kept ?_
    refine Kept.step (Device.withdrawClose_kept ..) ?_
    exact Kept.refl
theorem Device.landAbort_kept (d : Device) (reason : Nat) : Kept d (Device.landAbort d reason) := by
  unfold Device.landAbort
  refine Kept.ite ?_ ?_
  · exact Kept.refl
  · refine Kept.step (Device.raise_kept ..) ?_
    refine Device.setSeq_kept ?_
    refine Device.setTraj_kept ?_
    refine Kept.step (Device.withdrawClose_kept ..) ?_
    exact Kept.refl
theorem Device.tripSequence_kept (d : Device) : Kept d (Device.tripSequence d) := by
  unfold Device.tripSequence
  refine Kept.ite ?_ ?_
  · refine Kept.step (Device.landAbort_kept ..) ?_
    exact Kept.refl
  · refine Kept.ite ?_ ?_
    · refine Kept.step (Device.endSequence_kept ..) ?_
      exact Kept.refl
    · exact Kept.refl

/-! ## Trip -/

theorem Device.setSrc_kept (d : Device) (i : Nat) (f : TripSrc → TripSrc) : Kept d (Device.setSrc d i f) := by
  unfold Device.setSrc
  refine Device.setProt_kept (fun _ h => by simpa [Prot.Shaped, upd, clearBits] using h) ?_
  exact Kept.refl
theorem Device.squallBegins_kept (d : Device) : Kept d (Device.squallBegins d) := by
  unfold Device.squallBegins
  extract_lets +onlyGivenNames d1
  refine Kept.cut d1 ?_ fun hd1 => ?_
  · subst d1
    refine Device.setProt_kept (fun _ h => by simpa [Prot.Shaped, upd, clearBits] using h) ?_
    exact Kept.refl
  clear_value d1
  extract_lets +onlyGivenNames d2
  refine Kept.cut d2 ?_ fun hd2 => ?_
  · subst d2
    refine Device.setConv_kept ?_
    assumption
  clear_value d2
  refine Kept.ite ?_ ?_
  · refine Kept.step (Device.raise_kept ..) ?_
    refine Device.setProt_kept (fun _ h => by simpa [Prot.Shaped, upd, clearBits] using h) ?_
    assumption
  · assumption
theorem Device.blockArms_kept (d : Device) : Kept d (Device.blockArms d) := by
  unfold Device.blockArms
  extract_lets +onlyGivenNames d1
  refine Kept.cut d1 ?_ fun hd1 => ?_
  · subst d1
    refine Device.setProt_kept (fun _ h => by simpa [Prot.Shaped, upd, clearBits] using h) ?_
    exact Kept.refl
  clear_value d1
  extract_lets +onlyGivenNames d2
  refine Kept.cut d2 ?_ fun hd2 => ?_
  · subst d2
    refine Device.setConv_kept ?_
    assumption
  clear_value d2
  refine Device.setModu_kept (fun _ h => by simpa [Modu.Shaped, upd, clearBits] using h) ?_
  assumption
theorem Device.squallTrigger_kept (d : Device) : Kept d (Device.squallTrigger d) := by
  unfold Device.squallTrigger
  extract_lets +onlyGivenNames first1
  extract_lets +onlyGivenNames d2
  refine Kept.cut d2 ?_ fun hd2 => ?_
  · subst d2
    refine Device.setProt_kept (fun _ h => by simpa [Prot.Shaped, upd, clearBits] using h) ?_
    exact Kept.refl
  clear_value d2
  extract_lets +onlyGivenNames d3
  refine Kept.cut d3 ?_ fun hd3 => ?_
  · subst d3
    refine Kept.ite ?_ ?_
    · refine Kept.step (Device.squallBegins_kept ..) ?_
      assumption
    · assumption
  clear_value d3
  extract_lets +onlyGivenNames d4
  refine Kept.cut d4 ?_ fun hd4 => ?_
  · subst d4
    refine Kept.step (Device.blockArms_kept ..) ?_
    assumption
  clear_value d4
  refine Kept.step (Device.tripSequence_kept ..) ?_
  assumption
theorem Device.recordTrip_kept (d : Device) (i : Nat) (note : TripNote) : Kept d (Device.recordTrip d i note) := by
  unfold Device.recordTrip
  extract_lets +onlyGivenNames fresh1
  extract_lets +onlyGivenNames r2
  extract_lets +onlyGivenNames r3
  refine Kept.ite ?_ ?_
  · exact Kept.refl
  · extract_lets +onlyGivenNames single4
    extract_lets +onlyGivenNames r'5
    extract_lets +onlyGivenNames d6
    refine Kept.cut d6 ?_ fun hd6 => ?_
    · subst d6
      refine Device.setProt_kept (fun _ h => by simpa [Prot.Shaped, upd, clearBits] using h) ?_
      exact Kept.refl
    clear_value d6
    refine Kept.ite ?_ ?_
    · refine Kept.step (Device.recEvent_kept ..) ?_
      assumption
    · assumption
theorem Device.rejectClear_kept (d : Device) (i : Nat) (stage : Nat) : Kept d (Device.rejectClear d i stage) := by
  unfold Device.rejectClear
  extract_lets +onlyGivenNames d1
  refine Kept.cut d1 ?_ fun hd1 => ?_
  · subst d1
    refine Device.setProt_kept (fun _ h => by simpa [Prot.Shaped, upd, clearBits] using h) ?_
    exact Kept.refl
  clear_value d1
  refine Kept.ite ?_ ?_
  · refine Kept.step (Device.raiseRated_kept ..) ?_
    assumption
  · refine Kept.step (Device.raise_kept ..) ?_
    assumption
theorem Device.assertSrc_kept (d : Device) (i : Nat) (note : TripNote) : Kept d (Device.assertSrc d i note) := by
  unfold Device.assertSrc
  extract_lets +onlyGivenNames was1
  refine Kept.ite ?_ ?_
  · exact Kept.refl
  · extract_lets +onlyGivenNames d2
    refine Kept.cut d2 ?_ fun hd2 => ?_
    · subst d2
      refine Kept.ite ?_ ?_
      · refine Kept.step (Device.rejectClear_kept ..) ?_
        exact Kept.refl
      · exact Kept.refl
    clear_value d2
    extract_lets +onlyGivenNames d3
    refine Kept.cut d3 ?_ fun hd3 => ?_
    · subst d3
      refine Kept.step (Device.recordTrip_kept ..) ?_
      assumption
    clear_value d3
    extract_lets +onlyGivenNames own4
    extract_lets +onlyGivenNames d5
    refine Kept.cut d5 ?_ fun hd5 => ?_
    · subst d5
      refine Kept.step (Device.setSrc_kept ..) ?_
      assumption
    clear_value d5
    extract_lets +onlyGivenNames d6
    refine Kept.cut d6 ?_ fun hd6 => ?_
    · subst d6
      refine Kept.ite ?_ ?_
      · assumption
      · refine Kept.step (Device.raise_kept ..) ?_
        assumption
    clear_value d6
    refine Kept.step (Device.squallTrigger_kept ..) ?_
    assumption
theorem Device.inputActive_kept (d : Device) (i : Nat) (note : TripNote) : Kept d (Device.inputActive d i note) := by
  unfold Device.inputActive
  refine Kept.ite ?_ ?_
  · exact Kept.refl
  · extract_lets +onlyGivenNames d1
    refine Kept.cut d1 ?_ fun hd1 => ?_
    · subst d1
      refine Kept.step (Device.setSrc_kept ..) ?_
      exact Kept.refl
    clear_value d1
    refine Kept.ite ?_ ?_
    · assumption
    · refine Kept.step (Device.assertSrc_kept ..) ?_
      assumption
theorem Device.inputInactive_kept (d : Device) (i : Nat) : Kept d (Device.inputInactive d i) := by
  unfold Device.inputInactive
  refine Kept.ite ?_ ?_
  · exact Kept.refl
  · refine Kept.step (Device.setSrc_kept ..) ?_
    exact Kept.refl
theorem Device.setInput_kept (d : Device) (i : Nat) (active : Bool) : Kept d (Device.setInput d i active) := by
  unfold Device.setInput
  refine Kept.ite ?_ ?_
  · refine Kept.step (Device.inputActive_kept ..) ?_
    exact Kept.refl
  · refine Kept.step (Device.inputInactive_kept ..) ?_
    exact Kept.refl
theorem Device.controlTrip_kept (d : Device) (cause : Nat) : Kept d (Device.controlTrip d cause) := by
  unfold Device.controlTrip
  refine Kept.step (Device.inputActive_kept ..) ?_
  exact Kept.refl
theorem Device.desatTrip_kept (d : Device) (arms : Nat) : Kept d (Device.desatTrip d arms) := by
  unfold Device.desatTrip
  extract_lets +onlyGivenNames note1
  refine Kept.ite ?_ ?_
  · refine Kept.step (Device.recordTrip_kept ..) ?_
    exact Kept.refl
  · refine Kept.step (Device.inputActive_kept ..) ?_
    exact Kept.refl

/-! ## Operands -/

theorem Device.cmdIf_carry {d e : Device} {h : CmdHdr} {a : Args} {used : List (Nat × Nat)} {bad : Option Nat} {body : Device → Device × Option Ending}
    (hb : ∀ x, Kept d x → Kept d (body x).1) (hd : Kept d e) : Kept d (e.cmdIf h a used bad body) := by
  unfold Device.cmdIf
  refine Kept.ite hd ?_
  have hp : Kept d (e.pmcPulse 0 2 1) := Kept.step (Device.pmcPulse_kept ..) hd
  generalize e.pmcPulse 0 2 1 = x at hp
  have hx := hb x hp
  dsimp only
  split
  · exact Kept.step (Device.complete_kept ..) hp
  · split
    · next heq => exact Kept.step (Device.complete_kept ..) (Kept.of_fst heq hx)
    · next heq => exact Kept.of_fst heq hx
theorem Device.cmd_carry {d e : Device} {h : CmdHdr} {a : Args} {used : List (Nat × Nat)} {body : Device → Device × Option Ending}
    (hb : ∀ x, Kept d x → Kept d (body x).1) (hd : Kept d e) : Kept d (e.cmd h a used body) := Device.cmdIf_carry hb hd

end Sys2Proof.Machine
end

