-- ==== Sys2Proof/Laws/KeptMeasurement.lean ====
section
/-! SUPPORT. Every operation, and then every command, leaves the device the counts the spec gives it (`Kept`): parameters, capture, measurement, error reports, the twin link. -/

namespace Sys2Proof.Machine

/-! ## ParamOps -/

theorem Device.applyWaiting_kept (d : Device) (p : Nat → Bool) : Kept d (Device.applyWaiting d p) := by
  unfold Device.applyWaiting
  extract_lets +onlyGivenNames go1
  extract_lets +onlyGivenNames force2
  refine Kept.set_par ?_
  exact Kept.refl
theorem Device.loadParams_kept (d : Device) : Kept d (Device.loadParams d) := by
  unfold Device.loadParams
  extract_lets +onlyGivenNames base1
  extract_lets +onlyGivenNames base2
  split
  · refine Kept.set_par ?_
    exact Kept.refl
  · refine Kept.step (Device.raise_kept ..) ?_
    refine Kept.set_par ?_
    exact Kept.refl

/-! ## Filter -/

theorem Device.quant_kept (d : Device) (x : Rat) : Kept d (Device.quant d x).2 := by
  unfold Device.quant
  split
  · refine Kept.snd_mk ?_
    exact Kept.refl
  · split
    rename_i q1
    refine Kept.cut _ (Kept.of_snd q1 ?_) fun hx2 => ?_
    · refine Kept.step (Device.draw_kept ..) ?_
      exact Kept.refl
    refine Kept.snd_mk ?_
    assumption

/-! ## Capture -/

theorem Device.raiseAtClose_kept (d : Device) (name : String) (island : Nat) (kind : Nat) (index : Nat) (mask : Nat) : Kept d (Device.raiseAtClose d name island kind index mask) := by
  unfold Device.raiseAtClose
  refine Kept.ite ?_ ?_
  · extract_lets +onlyGivenNames rates1
    refine Kept.set_host (fun h => by simpa [HostPort.Shaped, upd, clearBits] using h) ?_
    exact Kept.refl
  · extract_lets +onlyGivenNames row2
    extract_lets +onlyGivenNames row3
    refine Kept.set_host (fun h => by simpa [HostPort.Shaped, upd, clearBits] using h) ?_
    exact Kept.refl
theorem Device.recState_kept (d : Device) (st : Nat) : Kept d (Device.recState d st) := by
  unfold Device.recState
  refine Kept.ite ?_ ?_
  · exact Kept.refl
  · refine Kept.step (Device.msix_kept ..) ?_
    refine Device.setRec_kept (fun _ h => by simpa [Rec.Shaped, upd, clearBits] using h) ?_
    exact Kept.refl
theorem Device.onFrameAt_kept (d : Device) (t : Tick) (f : RecFrame → RecFrame) : Kept d (Device.onFrameAt d t f) := by
  unfold Device.onFrameAt
  extract_lets +onlyGivenNames n1
  refine Kept.ite ?_ ?_
  · exact Kept.refl
  · refine Device.setRec_kept (fun _ h => by simpa [Rec.Shaped, upd, clearBits] using h) ?_
    exact Kept.refl
theorem Device.onFrameOf_kept (d : Device) (seq : BitVec 16) (f : RecFrame → RecFrame) : Kept d (Device.onFrameOf d seq f) := by
  unfold Device.onFrameOf
  extract_lets +onlyGivenNames one1
  refine Device.setRec_kept (fun _ h => by simpa [Rec.Shaped, upd, clearBits] using h) ?_
  exact Kept.refl
theorem Device.onFrame_kept (d : Device) (f : RecFrame → RecFrame) : Kept d (Device.onFrame d f) := by
  unfold Device.onFrame
  refine Device.setRec_kept (fun _ h => by simpa [Rec.Shaped, upd, clearBits] using h) ?_
  exact Kept.refl
theorem Device.redClose_kept (d : Device) (c : Nat) (scale : Rat) : Kept d (Device.redClose d c scale) := by
  unfold Device.redClose
  extract_lets +onlyGivenNames ch1
  split
  rename_i q2
  refine Kept.cut _ (Kept.of_snd q2 ?_) fun hx3 => ?_
  · refine Kept.step (Device.quant_kept ..) ?_
    exact Kept.refl
  split
  rename_i q4
  refine Kept.cut _ (Kept.of_snd q4 ?_) fun hx5 => ?_
  · refine Kept.step (Device.quant_kept ..) ?_
    assumption
  extract_lets +onlyGivenNames words6
  refine Device.setRec_kept (fun _ h => by simpa [Rec.Shaped, upd, clearBits] using h) ?_
  assumption
theorem Device.redTake_kept (d : Device) (c : Nat) (v : Int) (scale : Rat) : Kept d (Device.redTake d c v scale) := by
  unfold Device.redTake
  extract_lets +onlyGivenNames d1
  refine Kept.cut d1 ?_ fun hd1 => ?_
  · subst d1
    refine Device.setRec_kept (fun _ h => by simpa [Rec.Shaped, upd, clearBits] using h) ?_
    exact Kept.refl
  clear_value d1
  refine Kept.ite ?_ ?_
  · refine Kept.step (Device.redClose_kept ..) ?_
    assumption
  · assumption
theorem Device.reduceFrom_kept (d : Device) (src : Nat) (v : Int) (scale : Rat) : Kept d (Device.reduceFrom d src v scale) := by
  unfold Device.reduceFrom
  refine Kept.ite ?_ ?_
  · exact Kept.refl
  · refine Kept.foldl (fun x1 b2 hx1 => ?_) ?_
    · refine Kept.step (Device.redTake_kept ..) ?_
      assumption
    · exact Kept.refl
theorem Device.rawSample_kept (d : Device) (adc : Nat) (mux : Nat) (code : Nat) (at_ : Tick) (refns : Bool) (gust : Bool) : Kept d (Device.rawSample d adc mux code at_ refns gust) := by
  unfold Device.rawSample
  extract_lets +onlyGivenNames w1
  extract_lets +onlyGivenNames d2
  refine Kept.cut d2 ?_ fun hd2 => ?_
  · subst d2
    refine Kept.step (Device.onFrameAt_kept ..) ?_
    exact Kept.refl
  clear_value d2
  refine Kept.step (Device.pmcPulse_kept ..) ?_
  refine Kept.step (Device.trigFeed_kept ..) ?_
  refine Kept.step (Device.reduceFrom_kept ..) ?_
  assumption
theorem Device.maskStart_kept (d : Device) (k : Nat) (trig : Nat) : Kept d (Device.maskStart d k trig) := by
  unfold Device.maskStart
  extract_lets +onlyGivenNames p1
  extract_lets +onlyGivenNames one2
  refine Device.setRec_kept (fun _ h => by simpa [Rec.Shaped, upd, clearBits] using h) ?_
  exact Kept.refl
theorem Device.recFail_kept (d : Device) : Kept d (Device.recFail d) := by
  unfold Device.recFail
  extract_lets +onlyGivenNames d1
  refine Kept.cut d1 ?_ fun hd1 => ?_
  · subst d1
    refine Kept.step (Device.recState_kept ..) ?_
    exact Kept.refl
  clear_value d1
  refine Device.setRec_kept (fun _ h => by simpa [Rec.Shaped, upd, clearBits] using h) ?_
  assumption

/-! ## Measurement -/

theorem Device.setStrm_kept (d : Device) (x : Nat) (f : Stream → Stream) : Kept d (Device.setStrm d x f) := by
  unfold Device.setStrm
  refine Device.setMeas_kept (fun _ h => by simpa [Meas.Shaped, upd, clearBits] using h) ?_
  exact Kept.refl
theorem Device.setAdc_kept (d : Device) (n : Nat) (f : Adc → Adc) : Kept d (Device.setAdc d n f) := by
  unfold Device.setAdc
  refine Device.setMeas_kept (fun _ h => by simpa [Meas.Shaped, upd, clearBits] using h) ?_
  exact Kept.refl
theorem Device.setGrp_kept (d : Device) (g : Nat) (f : RefGroup → RefGroup) : Kept d (Device.setGrp d g f) := by
  unfold Device.setGrp
  refine Device.setMeas_kept (fun _ h => by simpa [Meas.Shaped, upd, clearBits] using h) ?_
  exact Kept.refl
theorem Device.setCmp_kept (d : Device) (j : Nat) (f : Comparator → Comparator) : Kept d (Device.setCmp d j f) := by
  unfold Device.setCmp
  refine Device.setMeas_kept (fun _ h => by simpa [Meas.Shaped, upd, clearBits] using h) ?_
  exact Kept.refl
theorem Device.setSetp_kept (d : Device) (f : Setp → Setp) : Kept d (Device.setSetp d f) := by
  unfold Device.setSetp
  refine Device.setMeas_kept (fun _ h => by simpa [Meas.Shaped, upd, clearBits] using h) ?_
  exact Kept.refl
theorem Device.crossing_kept (d : Device) (x : Nat) (low : Bool) : Kept d (Device.crossing d x low) := by
  unfold Device.crossing
  extract_lets +onlyGivenNames d1
  refine Kept.cut d1 ?_ fun hd1 => ?_
  · subst d1
    refine Kept.step (Device.hwSet_kept ..) ?_
    refine Kept.step (Device.setStrm_kept ..) ?_
    exact Kept.refl
  clear_value d1
  refine Kept.step (Device.raiseRated_kept ..) ?_
  assumption
theorem Device.thresholds_kept (d : Device) (x : Nat) : Kept d (Device.thresholds d x) := by
  unfold Device.thresholds
  extract_lets +onlyGivenNames s1
  extract_lets +onlyGivenNames y2
  extract_lets +onlyGivenNames hi3
  extract_lets +onlyGivenNames lo4
  extract_lets +onlyGivenNames hyst5
  extract_lets +onlyGivenNames en6
  extract_lets +onlyGivenNames n7
  extract_lets +onlyGivenNames hiRun8
  extract_lets +onlyGivenNames loRun9
  extract_lets +onlyGivenNames hiCross10
  extract_lets +onlyGivenNames loCross11
  extract_lets +onlyGivenNames d12
  refine Kept.cut d12 ?_ fun hd12 => ?_
  · subst d12
    refine Kept.step (Device.setStrm_kept ..) ?_
    exact Kept.refl
  clear_value d12
  extract_lets +onlyGivenNames d13
  refine Kept.cut d13 ?_ fun hd13 => ?_
  · subst d13
    refine Kept.ite ?_ ?_
    · refine Kept.step (Device.crossing_kept ..) ?_
      assumption
    · assumption
  clear_value d13
  refine Kept.ite ?_ ?_
  · refine Kept.step (Device.crossing_kept ..) ?_
    assumption
  · assumption
theorem Device.ainCheck_kept (d : Device) (x : Nat) : Kept d (Device.ainCheck d x) := by
  unfold Device.ainCheck
  refine Kept.ite ?_ ?_
  · exact Kept.refl
  · extract_lets +onlyGivenNames c1
    extract_lets +onlyGivenNames out2
    extract_lets +onlyGivenNames p3
    extract_lets +onlyGivenNames run4
    refine Kept.ite ?_ ?_
    · refine Kept.step (Device.setSetp_kept ..) ?_
      exact Kept.refl
    · refine Kept.step (Device.setSetp_kept ..) ?_
      exact Kept.refl
theorem Device.newOutput_kept (d : Device) (x : Nat) (c : Rat) (fault : Bool) : Kept d (Device.newOutput d x c fault) := by
  unfold Device.newOutput
  split
  rename_i q1
  refine Kept.cut _ (Kept.of_snd q1 ?_) fun hx2 => ?_
  · refine Kept.step (Device.quant_kept ..) ?_
    exact Kept.refl
  extract_lets +onlyGivenNames top3
  extract_lets +onlyGivenNames sat4
  extract_lets +onlyGivenNames y5
  extract_lets +onlyGivenNames d6
  refine Kept.cut d6 ?_ fun hd6 => ?_
  · subst d6
    refine Kept.step (Device.setStrm_kept ..) ?_
    assumption
  clear_value d6
  refine Kept.ite ?_ ?_
  · assumption
  · refine Kept.step (Device.trigFeed_kept ..) ?_
    refine Kept.step (Device.reduceFrom_kept ..) ?_
    refine Kept.step (Device.ainCheck_kept ..) ?_
    refine Kept.step (Device.thresholds_kept ..) ?_
    assumption
theorem Device.feed_kept (d : Device) (x : Nat) (smp : Sample) (fault : Bool) : Kept d (Device.feed d x smp fault) := by
  unfold Device.feed
  extract_lets +onlyGivenNames win1
  extract_lets +onlyGivenNames code2
  extract_lets +onlyGivenNames taps3
  extract_lets +onlyGivenNames s4
  extract_lets +onlyGivenNames n5
  extract_lets +onlyGivenNames rank6
  extract_lets +onlyGivenNames mid7
  extract_lets +onlyGivenNames resp8
  extract_lets +onlyGivenNames settled9
  extract_lets +onlyGivenNames d10
  refine Kept.cut d10 ?_ fun hd10 => ?_
  · subst d10
    refine Kept.step (Device.setStrm_kept ..) ?_
    exact Kept.refl
  clear_value d10
  refine Kept.ite ?_ ?_
  · refine Kept.step (Device.newOutput_kept ..) ?_
    assumption
  · assumption
theorem Device.chainIn_kept (d : Device) (w : RawWord) : Kept d (Device.chainIn d w) := by
  unfold Device.chainIn
  refine Kept.ite ?_ ?_
  · exact Kept.refl
  · extract_lets +onlyGivenNames x1
    extract_lets +onlyGivenNames fault2
    extract_lets +onlyGivenNames s3
    refine Kept.ite ?_ ?_
    · extract_lets +onlyGivenNames smp4
      extract_lets +onlyGivenNames d5
      refine Kept.cut d5 ?_ fun hd5 => ?_
      · subst d5
        refine Kept.step (Device.setStrm_kept ..) ?_
        exact Kept.refl
      clear_value d5
      refine Kept.step (Device.feed_kept ..) ?_
      assumption
    · extract_lets +onlyGivenNames d6
      refine Kept.cut d6 ?_ fun hd6 => ?_
      · subst d6
        refine Kept.step (Device.pmcPulse_kept ..) ?_
        refine Device.setMeas_kept (fun _ h => by simpa [Meas.Shaped, upd, clearBits] using h) ?_
        exact Kept.refl
      clear_value d6
      extract_lets +onlyGivenNames d7
      refine Kept.cut d7 ?_ fun hd7 => ?_
      · subst d7
        refine Kept.step (Device.setStrm_kept ..) ?_
        assumption
      clear_value d7
      refine Kept.ite ?_ ?_
      · refine Kept.step (Device.feed_kept ..) ?_
        assumption
      · extract_lets +onlyGivenNames d8
        refine Kept.cut d8 ?_ fun hd8 => ?_
        · subst d8
          refine Kept.step (Device.setStrm_kept ..) ?_
          assumption
        clear_value d8
        refine Kept.ite ?_ ?_
        · refine Kept.step (Device.raise_kept ..) ?_
          assumption
        · assumption
theorem Device.convert_kept (d : Device) (n : Nat) (e : Nat) (entry : Nat) (codes : List Nat) (first : Tick) (tag : Bool) (gust : Bool) : Kept d (Device.convert d n e entry codes first tag gust).2 := by
  unfold Device.convert
  extract_lets +onlyGivenNames refns1
  extract_lets +onlyGivenNames d2
  refine Kept.cut d2 ?_ fun hd2 => ?_
  · subst d2
    refine Kept.foldl (fun x3 b4 hx3 => ?_) ?_
    · refine Kept.step (Device.rawSample_kept ..) ?_
      assumption
    · exact Kept.refl
  clear_value d2
  refine Kept.snd_mk ?_
  assumption
theorem Device.cycleSequences_kept (d : Device) (codes : List (List (BitVec 16))) : Kept d (Device.cycleSequences d codes) := by
  unfold Device.cycleSequences
  extract_lets +onlyGivenNames d1
  refine Kept.cut d1 ?_ fun hd1 => ?_
  · subst d1
    refine Device.setMeas_kept (fun _ h => by simpa [Meas.Shaped, upd, clearBits] using h) ?_
    exact Kept.refl
  clear_value d1
  refine Kept.foldl (fun x2 b3 hx2 => ?_) ?_
  · extract_lets +onlyGivenNames es4
    refine Kept.foldl (fun x5 b6 hx5 => ?_) ?_
    · extract_lets +onlyGivenNames ent7
      extract_lets +onlyGivenNames skip8
      extract_lets +onlyGivenNames tag9
      split
      rename_i q10
      refine Kept.cut _ (Kept.of_snd q10 ?_) fun hx11 => ?_
      · refine Kept.step (Device.convert_kept ..) ?_
        assumption
      refine Device.setMeas_kept (fun _ h => by simpa [Meas.Shaped, upd, clearBits] using h) ?_
      assumption
    · assumption
  · assumption
theorem Device.stamp_kept (d : Device) (j : Nat) (f : DriftTag → DriftTag) : Kept d (Device.stamp d j f) := by
  unfold Device.stamp
  split
  · exact Kept.refl
  · refine Kept.ite ?_ ?_
    · exact Kept.refl
    · extract_lets +onlyGivenNames g'1
      refine Kept.set_zep (fun h => by simpa [Pmc.Shaped, upd, clearBits] using h) ?_
      exact Kept.refl
theorem Device.auxStart_kept (d : Device) (n : Nat) : Kept d (Device.auxStart d n) := by
  unfold Device.auxStart
  refine Kept.ite ?_ ?_
  · exact Kept.refl
  · refine Kept.step (Device.setAdc_kept ..) ?_
    exact Kept.refl
theorem Device.gustRequest_kept (d : Device) (n : Nat) : Kept d (Device.gustRequest d n) := by
  unfold Device.gustRequest
  extract_lets +onlyGivenNames a1
  refine Kept.ite ?_ ?_
  · exact Kept.refl
  · refine Kept.ite ?_ ?_
    · refine Kept.step (Device.pmcPulse_kept ..) ?_
      refine Kept.step (Device.setAdc_kept ..) ?_
      exact Kept.refl
    · refine Kept.ite ?_ ?_
      · refine Kept.step (Device.setAdc_kept ..) ?_
        exact Kept.refl
      · refine Kept.step (Device.raiseAtClose_kept ..) ?_
        refine Kept.step (Device.hwSet_kept ..) ?_
        refine Kept.step (Device.setAdc_kept ..) ?_
        exact Kept.refl
theorem Device.countWindow_kept (d : Device) (j : Nat) : Kept d (Device.countWindow d j) := by
  unfold Device.countWindow
  refine Device.setProt_kept (fun _ h => by simpa [Prot.Shaped, upd, clearBits] using h) ?_
  exact Kept.refl
theorem Device.fastLevel_kept (d : Device) (j : Nat) (was : Bool) (now : Bool) : Kept d (Device.fastLevel d j was now) := by
  unfold Device.fastLevel
  extract_lets +onlyGivenNames d1
  refine Kept.cut d1 ?_ fun hd1 => ?_
  · subst d1
    refine Kept.ite ?_ ?_
    · refine Kept.step (Device.countWindow_kept ..) ?_
      exact Kept.refl
    · exact Kept.refl
  clear_value d1
  extract_lets +onlyGivenNames on2
  refine Kept.ite ?_ ?_
  · refine Kept.step (Device.inputActive_kept ..) ?_
    assumption
  · refine Kept.ite ?_ ?_
    · assumption
    · refine Kept.step (Device.inputInactive_kept ..) ?_
      assumption
theorem Device.hardLevel_kept (d : Device) (j : Nat) (now : Bool) : Kept d (Device.hardLevel d j now) := by
  unfold Device.hardLevel
  refine Kept.step (Device.setInput_kept ..) ?_
  exact Kept.refl
theorem Device.evalCmp_kept (d : Device) (j : Nat) : Kept d (Device.evalCmp d j) := by
  unfold Device.evalCmp
  extract_lets +onlyGivenNames c1
  extract_lets +onlyGivenNames h2
  extract_lets +onlyGivenNames fast3
  extract_lets +onlyGivenNames hard4
  extract_lets +onlyGivenNames d5
  refine Kept.cut d5 ?_ fun hd5 => ?_
  · subst d5
    refine Kept.step (Device.setCmp_kept ..) ?_
    exact Kept.refl
  clear_value d5
  extract_lets +onlyGivenNames d6
  refine Kept.cut d6 ?_ fun hd6 => ?_
  · subst d6
    refine Kept.step (Device.hardLevel_kept ..) ?_
    assumption
  clear_value d6
  extract_lets +onlyGivenNames d7
  refine Kept.cut d7 ?_ fun hd7 => ?_
  · subst d7
    refine Kept.step (Device.fastLevel_kept ..) ?_
    assumption
  clear_value d7
  refine Kept.ite ?_ ?_
  · refine Kept.step (Device.gustRequest_kept ..) ?_
    assumption
  · assumption
theorem Device.refFault_kept (d : Device) (g : Nat) : Kept d (Device.refFault d g) := by
  unfold Device.refFault
  refine Kept.ite ?_ ?_
  · exact Kept.refl
  · extract_lets +onlyGivenNames d1
    refine Kept.cut d1 ?_ fun hd1 => ?_
    · subst d1
      refine Kept.step (Device.raise_kept ..) ?_
      refine Kept.step (Device.setGrp_kept ..) ?_
      exact Kept.refl
    clear_value d1
    extract_lets +onlyGivenNames d2
    refine Kept.cut d2 ?_ fun hd2 => ?_
    · subst d2
      refine Kept.foldl (fun x3 b4 hx3 => ?_) ?_
      · refine Kept.step (Device.setStrm_kept ..) ?_
        assumption
      · assumption
    clear_value d2
    refine Kept.foldl (fun x5 b6 hx5 => ?_) ?_
    · refine Kept.step (Device.evalCmp_kept ..) ?_
      assumption
    · assumption
theorem Device.setpFrequency_kept (d : Device) : Kept d (Device.setpFrequency d) := by
  unfold Device.setpFrequency
  extract_lets +onlyGivenNames eK1
  extract_lets +onlyGivenNames gate2
  extract_lets +onlyGivenNames kept3
  extract_lets +onlyGivenNames inGate4
  extract_lets +onlyGivenNames d5
  refine Kept.cut d5 ?_ fun hd5 => ?_
  · subst d5
    refine Kept.step (Device.setSetp_kept ..) ?_
    exact Kept.refl
  clear_value d5
  split
  · refine Kept.ite ?_ ?_
    · refine Kept.step (Device.setSetp_kept ..) ?_
      assumption
    · extract_lets +onlyGivenNames f6
      split
      rename_i q7
      refine Kept.cut _ (Kept.of_snd q7 ?_) fun hx8 => ?_
      · refine Kept.step (Device.quant_kept ..) ?_
        assumption
      refine Kept.step (Device.setSetp_kept ..) ?_
      assumption
  · refine Kept.step (Device.setSetp_kept ..) ?_
    assumption
theorem execFilterChainOutput_kept (t : Tick) (flips : List (Nat × BitVec 32)) (s s' : State) (h : execFilterChainOutput t flips s = .next s') : Kept s.dev s'.dev := by
  refine State.on_kept h fun d => ?_
  extract_lets +onlyGivenNames words1
  extract_lets +onlyGivenNames d2
  refine Kept.cut d2 ?_ fun hd2 => ?_
  · subst d2
    refine Device.setMeas_kept (fun _ h => by simpa [Meas.Shaped, upd, clearBits] using h) ?_
    exact Kept.refl
  clear_value d2
  extract_lets +onlyGivenNames d3
  refine Kept.cut d3 ?_ fun hd3 => ?_
  · subst d3
    refine Kept.foldl (fun x4 b5 hx4 => ?_) ?_
    · refine Kept.step (Device.chainIn_kept ..) ?_
      assumption
    · assumption
  clear_value d3
  extract_lets +onlyGivenNames d6
  refine Kept.cut d6 ?_ fun hd6 => ?_
  · subst d6
    refine Kept.step (Device.stamp_kept ..) ?_
    assumption
  clear_value d6
  refine Kept.step (Device.onFrame_kept ..) ?_
  assumption
theorem execAuxSequenceStart_kept (t : Tick) (n : Fin 16) (s s' : State) (h : execAuxSequenceStart t n s = .next s') : Kept s.dev s'.dev := by
  refine State.on_kept h fun d => ?_
  split
  · refine Kept.ite ?_ ?_
    · refine Kept.step (Device.auxStart_kept ..) ?_
      exact Kept.refl
    · exact Kept.refl
  · refine Kept.step (Device.auxStart_kept ..) ?_
    exact Kept.refl
  · refine Kept.step (Device.auxStart_kept ..) ?_
    exact Kept.refl
  · exact Kept.refl
theorem execAuxEntryEnd_kept (t : Tick) (n : Fin 16) (codes : List (BitVec 16)) (flip : BitVec 32) (s s' : State) (h : execAuxEntryEnd t n codes flip s = .next s') : Kept s.dev s'.dev := by
  refine State.on_kept h fun d => ?_
  extract_lets +onlyGivenNames a1
  extract_lets +onlyGivenNames es2
  split
  · exact Kept.refl
  · extract_lets +onlyGivenNames dur3
    refine Kept.ite ?_ ?_
    · exact Kept.refl
    · extract_lets +onlyGivenNames first4
      split
      rename_i q5
      refine Kept.cut _ (Kept.of_snd q5 ?_) fun hx6 => ?_
      · refine Kept.step (Device.convert_kept ..) ?_
        exact Kept.refl
      extract_lets +onlyGivenNames d7
      refine Kept.cut d7 ?_ fun hd7 => ?_
      · subst d7
        refine Kept.step (Device.setAdc_kept ..) ?_
        assumption
      clear_value d7
      refine Kept.step (Device.chainIn_kept ..) ?_
      assumption
theorem execGustComplete_kept (t : Tick) (n : Fin 16) (codes : List (List (BitVec 16))) (s s' : State) (h : execGustComplete t n codes s = .next s') : Kept s.dev s'.dev := by
  refine State.on_kept h fun d => ?_
  extract_lets +onlyGivenNames es1
  split
  refine Kept.ite ?_ ?_
  · exact Kept.refl
  · extract_lets +onlyGivenNames first2
    extract_lets +onlyGivenNames d3
    refine Kept.cut d3 ?_ fun hd3 => ?_
    · subst d3
      refine Kept.foldl (fun x4 b5 hx4 => ?_) ?_
      · extract_lets +onlyGivenNames ent6
        split
        rename_i q7
        refine Kept.cut _ (Kept.of_snd q7 ?_) fun hx8 => ?_
        · refine Kept.step (Device.convert_kept ..) ?_
          assumption
        extract_lets +onlyGivenNames d9
        refine Kept.cut d9 ?_ fun hd9 => ?_
        · subst d9
          refine Kept.step (Device.setAdc_kept ..) ?_
          assumption
        clear_value d9
        refine Kept.step (Device.onFrame_kept ..) ?_
        assumption
      · exact Kept.refl
    clear_value d3
    extract_lets +onlyGivenNames again10
    extract_lets +onlyGivenNames d11
    refine Kept.cut d11 ?_ fun hd11 => ?_
    · subst d11
      refine Kept.step (Device.setAdc_kept ..) ?_
      assumption
    clear_value d11
    extract_lets +onlyGivenNames d12
    refine Kept.cut d12 ?_ fun hd12 => ?_
    · subst d12
      refine Kept.ite ?_ ?_
      · refine Kept.step (Device.pmcPulse_kept ..) ?_
        assumption
      · assumption
    clear_value d12
    refine Kept.step (Device.recEvent_kept ..) ?_
    assumption
theorem execGustRequestWrite_kept (t : Tick) (v : BitVec 32) (s s' : State) (h : execGustRequestWrite t v s = .next s') : Kept s.dev s'.dev := by
  refine State.on_kept h fun d => ?_
  refine Kept.foldl (fun x1 b2 hx1 => ?_) ?_
  · refine Kept.step (Device.gustRequest_kept ..) ?_
    assumption
  · refine Kept.step (Device.reserved_kept ..) ?_
    exact Kept.refl
theorem execAtrigEdge_kept (t : Tick) (pin : Fin 4) (rising : Bool) (heldNs : Rat) (s s' : State) (h : execAtrigEdge t pin rising heldNs s = .next s') : Kept s.dev s'.dev := by
  refine State.on_kept h fun d => ?_
  refine Kept.ite ?_ ?_
  · exact Kept.refl
  · extract_lets +onlyGivenNames d1
    refine Kept.cut d1 ?_ fun hd1 => ?_
    · subst d1
      refine Device.setMeas_kept (fun _ h => by simpa [Meas.Shaped, upd, clearBits] using h) ?_
      exact Kept.refl
    clear_value d1
    extract_lets +onlyGivenNames edge2
    refine Kept.ite ?_ ?_
    · assumption
    · refine Kept.foldl (fun x3 b4 hx3 => ?_) ?_
      · extract_lets +onlyGivenNames d5
        refine Kept.cut d5 ?_ fun hd5 => ?_
        · subst d5
          refine Kept.ite ?_ ?_
          · refine Kept.ite ?_ ?_
            · refine Kept.step (Device.raiseAtClose_kept ..) ?_
              refine Device.setMeas_kept (fun _ h => by simpa [Meas.Shaped, upd, clearBits] using h) ?_
              assumption
            · refine Kept.step (Device.auxStart_kept ..) ?_
              assumption
          · assumption
        clear_value d5
        refine Kept.ite ?_ ?_
        · refine Kept.step (Device.gustRequest_kept ..) ?_
          assumption
        · assumption
      · assumption
theorem execComparatorLevelChange_kept (t : Tick) (j : Fin 12) (x : Rat) (s s' : State) (h : execComparatorLevelChange t j x s = .next s') : Kept s.dev s'.dev := by
  refine State.on_kept h fun d => ?_
  refine Kept.step (Device.evalCmp_kept ..) ?_
  refine Kept.step (Device.setCmp_kept ..) ?_
  exact Kept.refl
theorem execSpareDacSwitch_kept (t : Tick) (j : Fin 12) (s s' : State) (h : execSpareDacSwitch t j s = .next s') : Kept s.dev s'.dev := by
  refine State.on_kept h fun d => ?_
  split
  · exact Kept.refl
  · extract_lets +onlyGivenNames p1
    refine Kept.step (Device.evalCmp_kept ..) ?_
    refine Kept.step (Device.setCmp_kept ..) ?_
    exact Kept.refl
theorem execReferenceSettleEnd_kept (t : Tick) (g : Fin 4) (reading : Rat) (s s' : State) (h : execReferenceSettleEnd t g reading s = .next s') : Kept s.dev s'.dev := by
  refine State.on_kept h fun d => ?_
  refine Kept.ite ?_ ?_
  · refine Kept.step (Device.setGrp_kept ..) ?_
    exact Kept.refl
  · exact Kept.refl
theorem execReferenceSettleTimeout_kept (t : Tick) (g : Fin 4) (s s' : State) (h : execReferenceSettleTimeout t g s = .next s') : Kept s.dev s'.dev := by
  refine State.on_kept h fun d => ?_
  refine Kept.ite ?_ ?_
  · refine Kept.step (Device.refFault_kept ..) ?_
    exact Kept.refl
  · exact Kept.refl
theorem execSetpPulseEdge_kept (t : Tick) (rising : Bool) (s s' : State) (h : execSetpPulseEdge t rising s = .next s') : Kept s.dev s'.dev := by
  refine State.on_kept h fun d => ?_
  extract_lets +onlyGivenNames p1
  refine Kept.ite ?_ ?_
  · exact Kept.refl
  · extract_lets +onlyGivenNames short2
    refine Kept.step (Device.setSetp_kept ..) ?_
    exact Kept.refl

/-! ## ErrOps -/

theorem Device.bailsilSafeHold_kept (d : Device) : Kept d (Device.bailsilSafeHold d) := by
  unfold Device.bailsilSafeHold
  refine Kept.ite ?_ ?_
  · exact Kept.refl
  · extract_lets +onlyGivenNames d1
    refine Kept.cut d1 ?_ fun hd1 => ?_
    · subst d1
      refine Device.setSaf_kept (fun _ h => by simpa [Safety.Shaped, upd, clearBits] using h) ?_
      exact Kept.refl
    clear_value d1
    extract_lets +onlyGivenNames d2
    refine Kept.cut d2 ?_ fun hd2 => ?_
    · subst d2
      refine Kept.step (Device.raise_kept ..) ?_
      assumption
    clear_value d2
    extract_lets +onlyGivenNames d3
    refine Kept.cut d3 ?_ fun hd3 => ?_
    · subst d3
      refine Kept.step (Device.inputActive_kept ..) ?_
      refine Kept.step (Device.msix_kept ..) ?_
      assumption
    clear_value d3
    refine Kept.step (Device.squallTrigger_kept ..) ?_
    assumption
theorem Device.handlerFault_kept (d : Device) (cause : Nat) : Kept d (Device.handlerFault d cause) := by
  unfold Device.handlerFault
  refine Kept.ite ?_ ?_
  · exact Kept.refl
  · refine Kept.step (Device.bailsilSafeHold_kept ..) ?_
    refine Device.setEh_kept ?_
    exact Kept.refl
theorem Device.takeError_kept (d : Device) : Kept d (Device.takeError d) := by
  unfold Device.takeError
  split
  · refine Device.setEh_kept ?_
    exact Kept.refl
  · exact Kept.refl
theorem Device.countError_kept (d : Device) (cls : Nat) : Kept d (Device.countError d cls) := by
  unfold Device.countError
  refine Device.setEh_kept ?_
  exact Kept.refl
theorem Device.errReport_kept (d : Device) (code : Nat) (die : Nat) (kind : Nat) (index : Nat) (detail : Nat) (die2 : Option Nat) (second : Bool) : Kept d (Device.errReport d code die kind index detail die2 second) := by
  unfold Device.errReport
  extract_lets +onlyGivenNames d1
  refine Kept.cut d1 ?_ fun hd1 => ?_
  · subst d1
    refine Kept.ite ?_ ?_
    · refine Kept.step (Device.pmcPulse_kept ..) ?_
      exact Kept.refl
    · refine Kept.ite ?_ ?_
      · refine Kept.step (Device.pmcPulse_kept ..) ?_
        exact Kept.refl
      · exact Kept.refl
  clear_value d1
  extract_lets +onlyGivenNames c02
  refine Kept.ite ?_ ?_
  · refine Kept.step (Device.countError_kept ..) ?_
    assumption
  · extract_lets +onlyGivenNames merge3
    refine Kept.ite ?_ ?_
    · refine Device.setEh_kept ?_
      assumption
    · refine Kept.ite ?_ ?_
      · refine Kept.step (Device.handlerFault_kept ..) ?_
        assumption
      · extract_lets +onlyGivenNames busy4
        extract_lets +onlyGivenNames esc5
        refine Kept.ite ?_ ?_
        · refine Kept.step (Device.handlerFault_kept ..) ?_
          assumption
        · extract_lets +onlyGivenNames cls6
          extract_lets +onlyGivenNames par7
          extract_lets +onlyGivenNames x8
          extract_lets +onlyGivenNames x9
          extract_lets +onlyGivenNames d10
          refine Kept.cut d10 ?_ fun hd10 => ?_
          · subst d10
            refine Device.setEh_kept ?_
            refine Kept.step (Device.countError_kept ..) ?_
            assumption
          clear_value d10
          refine Kept.step (Device.takeError_kept ..) ?_
          assumption

/-! ## Mardal -/

theorem Twin.launchBlock_shaped (w : Twin) (now : Tick) (h : w.Shaped) : (w.launchBlock now).Shaped := by
  unfold Twin.launchBlock
  split
  · exact h
  · simp only []
    split
    · exact h
    · exact h
theorem Device.mdlDrain_kept (d : Device) : Kept d (Device.mdlDrain d) := by
  have hl : ∀ (l : List Nat) (w : Twin), w.Shaped → (l.foldl (fun w _ => w.launchBlock d.now) w).Shaped := by
    intro l
    induction l with
    | nil => exact fun _ h => h
    | cons _ r ih => exact fun w h => ih _ (Twin.launchBlock_shaped w d.now h)
  exact Device.setTwin_kept (fun w h => hl _ w h) Kept.refl
theorem Device.mdlSend_kept (d : Device) (ty : Nat) (sub : Nat) (len : Nat) (b : MdlBody) : Kept d (Device.mdlSend d ty sub len b) := by
  unfold Device.mdlSend
  refine Kept.ite ?_ ?_
  · exact Kept.refl
  · extract_lets +onlyGivenNames blk1
    refine Kept.step (Device.mdlDrain_kept ..) ?_
    refine Device.setTwin_kept (fun _ h => by simpa [Twin.Shaped, upd, clearBits] using h) ?_
    refine Kept.step (Device.mdlDrain_kept ..) ?_
    exact Kept.refl
theorem Device.activeSend_kept (d : Device) (ty : Nat) (sub : Nat) (len : Nat) (b : MdlBody) : Kept d (Device.activeSend d ty sub len b) := by
  unfold Device.activeSend
  refine Kept.ite ?_ ?_
  · refine Kept.step (Device.mdlSend_kept ..) ?_
    exact Kept.refl
  · exact Kept.refl

end Sys2Proof.Machine
end

