-- ==== Sys2Proof/Laws/KeptControl.lean ====
section
/-! SUPPORT. Every operation, and then every command, leaves the device the counts the spec gives it (`Kept`): clocks, network, feedback, trajectories, the control law, breakers. -/

namespace Sys2Proof.Machine

/-! ## Clocks -/

theorem Device.setPll_kept (d : Device) (n : Nat) (f : Pll → Pll) : Kept d (Device.setPll d n f) := by
  unfold Device.setPll
  refine Device.setClk_kept (fun _ h => by simpa [Clk.Shaped, upd, clearBits] using h) ?_
  exact Kept.refl
theorem Device.setSc_kept (d : Device) (x : Nat) (f : StClock → StClock) : Kept d (Device.setSc d x f) := by
  unfold Device.setSc
  refine Kept.set_net (fun h => by simpa [Net.Shaped, upd, clearBits] using h) ?_
  exact Kept.refl
theorem Device.setScs_kept (d : Device) (f : StClock → StClock) : Kept d (Device.setScs d f) := by
  unfold Device.setScs
  extract_lets +onlyGivenNames l1
  refine Kept.set_net (fun h => by simpa [Net.Shaped, l1] using h) ?_
  exact Kept.refl
theorem Device.answer_kept (d : Device) (v : Nat) : Kept d (Device.answer d v) := by
  unfold Device.answer
  refine Kept.set_host (fun h => by simpa [HostPort.Shaped, upd, clearBits] using h) ?_
  exact Kept.refl
theorem Device.feedbacks_kept (d : Device) : Kept d (Device.feedbacks d) := by
  unfold Device.feedbacks
  split
  · exact Kept.refl
  · extract_lets +onlyGivenNames scale1
    refine Device.setClk_kept (fun _ h => by simpa [Clk.Shaped, upd, clearBits] using h) ?_
    exact Kept.refl
theorem Device.pllLocked_kept (d : Device) (n : Nat) : Kept d (Device.pllLocked d n) := by
  unfold Device.pllLocked
  extract_lets +onlyGivenNames seed1
  refine Kept.step (Device.setPll_kept ..) ?_
  exact Kept.refl
theorem Device.ctbStart_kept (d : Device) : Kept d (Device.ctbStart d) := by
  unfold Device.ctbStart
  refine Kept.ite ?_ ?_
  · exact Kept.refl
  · refine Kept.trans (b := d) ?_ ⟨fun s => ⟨s.clk, s.host, s.parCopies, s.brk, s.modu, s.packs, s.meter, s.link, s.prot, by simpa [Safety.rebase, Safety.Shaped] using s.safety, s.twin, s.meas, s.law, s.recd, s.pmc, s.net⟩⟩
    exact Kept.refl
theorem Device.holdoverEnd_kept (d : Device) : Kept d (Device.holdoverEnd d) := by
  unfold Device.holdoverEnd
  refine Kept.ite ?_ ?_
  · refine Device.setClk_kept (fun _ h => by simpa [Clk.Shaped, upd, clearBits] using h) ?_
    exact Kept.refl
  · exact Kept.refl
theorem Device.portsDown_kept (d : Device) : Kept d (Device.portsDown d) := by
  unfold Device.portsDown
  refine Kept.foldl (fun x1 b2 hx1 => ?_) ?_
  · refine Kept.ite ?_ ?_
    · assumption
    · refine Kept.step (Device.raiseRated_kept ..) ?_
      refine Kept.set_net (fun h => by simpa [Net.Shaped, upd, clearBits] using h) ?_
      assumption
  · exact Kept.refl
theorem Device.scLose_kept (d : Device) (x : Nat) (stepped : Bool) : Kept d (Device.scLose d x stepped) := by
  unfold Device.scLose
  extract_lets +onlyGivenNames c1
  refine Kept.ite ?_ ?_
  · exact Kept.refl
  · extract_lets +onlyGivenNames d2
    refine Kept.cut d2 ?_ fun hd2 => ?_
    · subst d2
      refine Kept.step (Device.setSc_kept ..) ?_
      exact Kept.refl
    clear_value d2
    extract_lets +onlyGivenNames d3
    refine Kept.cut d3 ?_ fun hd3 => ?_
    · subst d3
      refine Kept.step (Device.raise_kept ..) ?_
      assumption
    clear_value d3
    extract_lets +onlyGivenNames d4
    refine Kept.cut d4 ?_ fun hd4 => ?_
    · subst d4
      refine Kept.ite ?_ ?_
      · refine Device.setClk_kept (fun _ h => by simpa [Clk.Shaped, upd, clearBits] using h) ?_
        assumption
      · assumption
    clear_value d4
    refine Kept.ite ?_ ?_
    · refine Kept.step (Device.raise_kept ..) ?_
      refine Device.setClk_kept (fun _ h => by simpa [Clk.Shaped, upd, clearBits] using h) ?_
      assumption
    · assumption
theorem Device.marginRelock_kept (d : Device) (pct : Rat) : Kept d (Device.marginRelock d pct) := by
  unfold Device.marginRelock
  extract_lets +onlyGivenNames d1
  refine Kept.cut d1 ?_ fun hd1 => ?_
  · subst d1
    refine Kept.step (Device.setPll_kept ..) ?_
    exact Kept.refl
  clear_value d1
  extract_lets +onlyGivenNames d2
  refine Kept.cut d2 ?_ fun hd2 => ?_
  · subst d2
    refine Device.setClk_kept (fun _ h => by simpa [Clk.Shaped, upd, clearBits] using h) ?_
    assumption
  clear_value d2
  extract_lets +onlyGivenNames d3
  refine Kept.cut d3 ?_ fun hd3 => ?_
  · subst d3
    refine Kept.step (Device.scLose_kept ..) ?_
    refine Kept.step (Device.scLose_kept ..) ?_
    assumption
  clear_value d3
  refine Kept.step (Device.setScs_kept ..) ?_
  assumption
theorem Device.marginOnState_kept (d : Device) (old : Nat) (new : Nat) : Kept d (Device.marginOnState d old new) := by
  unfold Device.marginOnState
  extract_lets +onlyGivenNames pct1
  refine Kept.ite ?_ ?_
  · refine Kept.step (Device.marginRelock_kept ..) ?_
    exact Kept.refl
  · refine Kept.ite ?_ ?_
    · refine Kept.step (Device.marginRelock_kept ..) ?_
      exact Kept.refl
    · exact Kept.refl
theorem Device.clkoutCommit_kept (d : Device) : Kept d (Device.clkoutCommit d) := by
  unfold Device.clkoutCommit
  refine Kept.foldl (fun x1 b2 hx1 => ?_) ?_
  · extract_lets +onlyGivenNames c3
    extract_lets +onlyGivenNames n4
    extract_lets +onlyGivenNames was5
    refine Kept.ite ?_ ?_
    · assumption
    · refine Device.setClk_kept (fun _ h => by simpa [Clk.Shaped, upd, clearBits] using h) ?_
      assumption
  · exact Kept.refl
theorem Device.correlate_kept (d : Device) : Kept d (Device.correlate d) := by
  unfold Device.correlate
  extract_lets +onlyGivenNames a1
  extract_lets +onlyGivenNames b2
  extract_lets +onlyGivenNames x3
  extract_lets +onlyGivenNames d4
  refine Kept.cut d4 ?_ fun hd4 => ?_
  · subst d4
    refine Device.setClk_kept (fun _ h => by simpa [Clk.Shaped, upd, clearBits] using h) ?_
    exact Kept.refl
  clear_value d4
  refine Kept.ite ?_ ?_
  · assumption
  · extract_lets +onlyGivenNames diff5
    extract_lets +onlyGivenNames d6
    extract_lets +onlyGivenNames d7
    refine Kept.cut d7 ?_ fun hd7 => ?_
    · subst d7
      refine Kept.set_net (fun h => by simpa [Net.Shaped, upd, clearBits] using h) ?_
      assumption
    clear_value d7
    refine Kept.ite ?_ ?_
    · extract_lets +onlyGivenNames first8
      extract_lets +onlyGivenNames d9
      extract_lets +onlyGivenNames d10
      refine Kept.cut d10 ?_ fun hd10 => ?_
      · subst d10
        refine Kept.set_net (fun h => by simpa [Net.Shaped, upd, clearBits] using h) ?_
        assumption
      clear_value d10
      refine Kept.ite ?_ ?_
      · split
        rename_i q11
        refine Kept.cut _ (Kept.of_snd q11 ?_) fun hx12 => ?_
        · refine Kept.step (Device.quant_kept ..) ?_
          assumption
        refine Kept.step (Device.raise_kept ..) ?_
        assumption
      · assumption
    · assumption
theorem Device.takeSource_kept (d : Device) : Kept d (Device.takeSource d) := by
  unfold Device.takeSource
  extract_lets +onlyGivenNames commit1
  extract_lets +onlyGivenNames slave2
  refine Kept.ite ?_ ?_
  · refine Device.setClk_kept (fun _ h => by simpa [Clk.Shaped, upd, clearBits] using h) ?_
    exact Kept.refl
  · refine Kept.ite ?_ ?_
    · refine Device.setClk_kept (fun _ h => by simpa [Clk.Shaped, upd, clearBits] using h) ?_
      exact Kept.refl
    · extract_lets +onlyGivenNames x3
      refine Kept.ite ?_ ?_
      · exact Kept.refl
      · extract_lets +onlyGivenNames other4
        refine Kept.ite ?_ ?_
        · refine Kept.step (Device.raise_kept ..) ?_
          refine Device.setClk_kept (fun _ h => by simpa [Clk.Shaped, upd, clearBits] using h) ?_
          exact Kept.refl
        · exact Kept.refl
theorem Device.pullUpdate_kept (d : Device) : Kept d (Device.pullUpdate d) := by
  unfold Device.pullUpdate
  extract_lets +onlyGivenNames d1
  refine Kept.cut d1 ?_ fun hd1 => ?_
  · subst d1
    refine Kept.step (Device.takeSource_kept ..) ?_
    exact Kept.refl
  clear_value d1
  extract_lets +onlyGivenNames d2
  refine Kept.cut d2 ?_ fun hd2 => ?_
  · subst d2
    refine Device.setClk_kept (fun _ h => by simpa [Clk.Shaped, upd, clearBits] using h) ?_
    assumption
  clear_value d2
  refine Kept.ite ?_ ?_
  · refine Device.setClk_kept (fun _ h => by simpa [Clk.Shaped, upd, clearBits] using h) ?_
    assumption
  · split
    · refine Kept.ite ?_ ?_
      · refine Device.setClk_kept (fun _ h => by simpa [Clk.Shaped, upd, clearBits] using h) ?_
        assumption
      · refine Device.setClk_kept (fun _ h => by simpa [Clk.Shaped, upd, clearBits] using h) ?_
        assumption
    · extract_lets +onlyGivenNames target3
      extract_lets +onlyGivenNames e4
      extract_lets +onlyGivenNames d5
      refine Kept.cut d5 ?_ fun hd5 => ?_
      · subst d5
        refine Device.setClk_kept (fun _ h => by simpa [Clk.Shaped, upd, clearBits] using h) ?_
        assumption
      clear_value d5
      split
      · refine Device.setClk_kept (fun _ h => by simpa [Clk.Shaped, upd, clearBits] using h) ?_
        assumption
      · refine Kept.ite ?_ ?_
        · assumption
        · extract_lets +onlyGivenNames a6
          extract_lets +onlyGivenNames m7
          extract_lets +onlyGivenNames r8
          extract_lets +onlyGivenNames p9
          extract_lets +onlyGivenNames brake10
          extract_lets +onlyGivenNames goal11
          extract_lets +onlyGivenNames p'12
          extract_lets +onlyGivenNames rateRun13
          extract_lets +onlyGivenNames alignRun14
          extract_lets +onlyGivenNames aligned15
          extract_lets +onlyGivenNames first16
          extract_lets +onlyGivenNames d17
          refine Kept.cut d17 ?_ fun hd17 => ?_
          · subst d17
            refine Device.setClk_kept (fun _ h => by simpa [Clk.Shaped, upd, clearBits] using h) ?_
            assumption
          clear_value d17
          extract_lets +onlyGivenNames d18
          refine Kept.cut d18 ?_ fun hd18 => ?_
          · subst d18
            refine Kept.step (Device.feedbacks_kept ..) ?_
            assumption
          clear_value d18
          refine Kept.ite ?_ ?_
          · refine Kept.step (Device.raise_kept ..) ?_
            assumption
          · assumption
theorem execReferenceDetection_kept (t : Tick) (mhz : Rat) (s s' : State) (h : execReferenceDetection t mhz s = .next s') : Kept s.dev s'.dev := by
  refine State.on_kept h fun d => ?_
  refine Kept.ite ?_ ?_
  · exact Kept.refl
  · refine Kept.step (Device.feedbacks_kept ..) ?_
    refine Device.setClk_kept (fun _ h => by simpa [Clk.Shaped, upd, clearBits] using h) ?_
    exact Kept.refl
theorem execPllLock_kept (t : Tick) (pll : Fin 4) (s s' : State) (h : execPllLock t pll s = .next s') : Kept s.dev s'.dev := by
  refine State.on_kept h fun d => ?_
  refine Kept.ite ?_ ?_
  · exact Kept.refl
  · extract_lets +onlyGivenNames d1
    refine Kept.cut d1 ?_ fun hd1 => ?_
    · subst d1
      refine Kept.step (Device.pllLocked_kept ..) ?_
      exact Kept.refl
    clear_value d1
    refine Kept.step (Device.holdoverEnd_kept ..) ?_
    refine Kept.ite ?_ ?_
    · refine Kept.step (Device.ctbStart_kept ..) ?_
      assumption
    · assumption
theorem execPllLossOfLock_kept (t : Tick) (pll : Fin 4) (s s' : State) (h : execPllLossOfLock t pll s = .next s') : Kept s.dev s'.dev := by
  refine State.on_kept h fun d => ?_
  refine Kept.ite ?_ ?_
  · exact Kept.refl
  · extract_lets +onlyGivenNames d1
    refine Kept.cut d1 ?_ fun hd1 => ?_
    · subst d1
      refine Kept.step (Device.setPll_kept ..) ?_
      exact Kept.refl
    clear_value d1
    extract_lets +onlyGivenNames d2
    refine Kept.cut d2 ?_ fun hd2 => ?_
    · subst d2
      refine Kept.step (Device.raise_kept ..) ?_
      assumption
    clear_value d2
    extract_lets +onlyGivenNames d3
    refine Kept.cut d3 ?_ fun hd3 => ?_
    · subst d3
      refine Kept.ite ?_ ?_
      · refine Kept.step (Device.portsDown_kept ..) ?_
        assumption
      · assumption
    clear_value d3
    split
    refine Kept.step (Device.errReport_kept ..) ?_
    assumption
theorem execReferenceLost_kept (t : Tick) (s s' : State) (h : execReferenceLost t s = .next s') : Kept s.dev s'.dev := by
  refine State.on_kept h fun d => ?_
  refine Kept.ite ?_ ?_
  · exact Kept.refl
  · refine Kept.step (Device.raise_kept ..) ?_
    refine Device.setClk_kept (fun _ h => by simpa [Clk.Shaped, upd, clearBits] using h) ?_
    exact Kept.refl
theorem execReferenceRestored_kept (t : Tick) (s s' : State) (h : execReferenceRestored t s = .next s') : Kept s.dev s'.dev := by
  refine State.on_kept h fun d => ?_
  refine Kept.ite ?_ ?_
  · exact Kept.refl
  · extract_lets +onlyGivenNames len1
    extract_lets +onlyGivenNames d2
    refine Kept.cut d2 ?_ fun hd2 => ?_
    · subst d2
      refine Device.setClk_kept (fun _ h => by simpa [Clk.Shaped, upd, clearBits] using h) ?_
      exact Kept.refl
    clear_value d2
    refine Kept.step (Device.holdoverEnd_kept ..) ?_
    refine Kept.step (Device.raise_kept ..) ?_
    assumption
theorem execHoldoverMaxExpiry_kept (t : Tick) (s s' : State) (h : execHoldoverMaxExpiry t s = .next s') : Kept s.dev s'.dev := by
  refine State.on_kept h fun d => ?_
  refine Kept.ite ?_ ?_
  · exact Kept.refl
  · extract_lets +onlyGivenNames len1
    refine Kept.step (Device.errReport_kept ..) ?_
    refine Device.setClk_kept (fun _ h => by simpa [Clk.Shaped, upd, clearBits] using h) ?_
    exact Kept.refl
theorem execPllRelockDone_kept (t : Tick) (s s' : State) (h : execPllRelockDone t s = .next s') : Kept s.dev s'.dev := by
  refine State.on_kept h fun d => ?_
  split
  · exact Kept.refl
  · extract_lets +onlyGivenNames us1
    extract_lets +onlyGivenNames last2
    extract_lets +onlyGivenNames d3
    refine Kept.cut d3 ?_ fun hd3 => ?_
    · subst d3
      refine Kept.step (Device.feedbacks_kept ..) ?_
      refine Device.setClk_kept (fun _ h => by simpa [Clk.Shaped, upd, clearBits] using h) ?_
      refine Kept.step (Device.pllLocked_kept ..) ?_
      exact Kept.refl
    clear_value d3
    refine Kept.ite ?_ ?_
    · refine Kept.step (Device.holdoverEnd_kept ..) ?_
      refine Kept.step (Device.setScs_kept ..) ?_
      assumption
    · refine Kept.step (Device.holdoverEnd_kept ..) ?_
      assumption
theorem execClkoutChangeApply_kept (t : Tick) (o : Fin 2) (s s' : State) (h : execClkoutChangeApply t o s = .next s') : Kept s.dev s'.dev := by
  refine State.on_kept h fun d => ?_
  extract_lets +onlyGivenNames c1
  split
  · exact Kept.refl
  · extract_lets +onlyGivenNames edge2
    refine Kept.ite ?_ ?_
    · exact Kept.refl
    · extract_lets +onlyGivenNames first3
      refine Device.setClk_kept (fun _ h => by simpa [Clk.Shaped, upd, clearBits] using h) ?_
      exact Kept.refl
theorem execCtbNowRead_kept (t : Tick) (s s' : State) (h : execCtbNowRead t s = .next s') : Kept s.dev s'.dev := by
  refine State.on_kept h fun d => ?_
  refine Kept.step (Device.answer_kept ..) ?_
  refine Device.setClk_kept (fun _ h => by simpa [Clk.Shaped, upd, clearBits] using h) ?_
  exact Kept.refl
theorem execCtbCycRead_kept (t : Tick) (s s' : State) (h : execCtbCycRead t s = .next s') : Kept s.dev s'.dev := by
  refine State.on_kept h fun d => ?_
  refine Kept.step (Device.answer_kept ..) ?_
  refine Device.setClk_kept (fun _ h => by simpa [Clk.Shaped, upd, clearBits] using h) ?_
  exact Kept.refl
theorem execCorrelationSampleRequest_kept (w : Tick × BitVec 32) (s s' : State) (h : execCorrelationSampleRequest w s = .next s') : Kept s.dev s'.dev := by
  refine State.on_kept h fun d => ?_
  extract_lets +onlyGivenNames d1
  refine Kept.cut d1 ?_ fun hd1 => ?_
  · subst d1
    refine Kept.step (Device.reserved_kept ..) ?_
    exact Kept.refl
  clear_value d1
  refine Kept.ite ?_ ?_
  · refine Kept.step (Device.correlate_kept ..) ?_
    assumption
  · assumption
theorem execCtbSourceReturn_kept (t : Tick) (s s' : State) (h : execCtbSourceReturn t s = .next s') : Kept s.dev s'.dev := by
  refine State.on_kept h fun d => ?_
  extract_lets +onlyGivenNames c1
  refine Kept.ite ?_ ?_
  · exact Kept.refl
  · extract_lets +onlyGivenNames old2
    refine Kept.step (Device.raise_kept ..) ?_
    refine Device.setClk_kept (fun _ h => by simpa [Clk.Shaped, upd, clearBits] using h) ?_
    exact Kept.refl

/-! ## Net -/

theorem Device.ethSend_kept (d : Device) (x : EthTx) : Kept d (Device.ethSend d x) := by
  unfold Device.ethSend
  refine Kept.ite ?_ ?_
  · exact Kept.refl
  · extract_lets +onlyGivenNames l1
    refine Device.setNet_kept (fun _ h => by simpa [Net.Shaped, upd, clearBits] using h) ?_
    exact Kept.refl
theorem Device.enterFrame_kept (d : Device) (src : BitVec 48) (seq : Nat) (dir : Nat) : Kept d (Device.enterFrame d src seq dir) := by
  unfold Device.enterFrame
  extract_lets +onlyGivenNames l1
  refine Device.setNet_kept (fun _ h => by simpa [Net.Shaped, upd, clearBits] using h) ?_
  exact Kept.refl
theorem Device.nodeSeen_kept (d : Device) (src : BitVec 48) : Kept d (Device.nodeSeen d src) := by
  unfold Device.nodeSeen
  refine Kept.ite ?_ ?_
  · exact Kept.refl
  · refine Kept.ite ?_ ?_
    · refine Device.setNet_kept (fun _ h => by simpa [Net.Shaped, upd, clearBits] using h) ?_
      exact Kept.refl
    · refine Device.setNet_kept (fun _ h => by simpa [Net.Shaped, upd, clearBits] using h) ?_
      exact Kept.refl
theorem Device.ownReturned_kept (d : Device) (port : Nat) (supervision : Bool) : Kept d (Device.ownReturned d port supervision) := by
  unfold Device.ownReturned
  refine Kept.ite ?_ ?_
  · exact Kept.refl
  · extract_lets +onlyGivenNames d1
    refine Kept.cut d1 ?_ fun hd1 => ?_
    · subst d1
      refine Device.setNet_kept (fun _ h => by simpa [Net.Shaped, upd, clearBits] using h) ?_
      exact Kept.refl
    clear_value d1
    refine Device.setNet_kept (fun _ h => by simpa [Net.Shaped, upd, clearBits] using h) ?_
    assumption
theorem Device.safeSend_kept (d : Device) (pdu : BitVec 192) : Kept d (Device.safeSend d pdu) := by
  unfold Device.safeSend
  extract_lets +onlyGivenNames dst1
  extract_lets +onlyGivenNames tag2
  refine Kept.step (Device.ethSend_kept ..) ?_
  exact Kept.refl
theorem Device.scStep_kept (d : Device) (x : Nat) (step : Rat) (f : StClock → StClock) : Kept d (Device.scStep d x step f) := by
  unfold Device.scStep
  extract_lets +onlyGivenNames d1
  refine Kept.cut d1 ?_ fun hd1 => ?_
  · subst d1
    refine Kept.step (Device.hwSet_kept ..) ?_
    refine Kept.step (Device.setSc_kept ..) ?_
    exact Kept.refl
  clear_value d1
  split
  rename_i q2
  refine Kept.cut _ (Kept.of_snd q2 ?_) fun hx3 => ?_
  · refine Kept.step (Device.quant_kept ..) ?_
    assumption
  extract_lets +onlyGivenNames d4
  refine Kept.cut d4 ?_ fun hd4 => ?_
  · subst d4
    refine Kept.step (Device.raise_kept ..) ?_
    assumption
  clear_value d4
  refine Kept.step (Device.scLose_kept ..) ?_
  assumption
theorem Device.scIncrement_kept (d : Device) (x : Nat) (inc : Nat) : Kept d (Device.scIncrement d x inc) := by
  unfold Device.scIncrement
  extract_lets +onlyGivenNames nom1
  refine Kept.ite ?_ ?_
  · refine Kept.step (Device.hwSet_kept ..) ?_
    refine Kept.step (Device.setSc_kept ..) ?_
    exact Kept.refl
  · refine Kept.step (Device.setSc_kept ..) ?_
    exact Kept.refl
theorem Device.servo_kept (d : Device) (x : Nat) (offset : Rat) : Kept d (Device.servo d x offset) := by
  unfold Device.servo
  extract_lets +onlyGivenNames c1
  extract_lets +onlyGivenNames beyond2
  extract_lets +onlyGivenNames run3
  extract_lets +onlyGivenNames d4
  refine Kept.cut d4 ?_ fun hd4 => ?_
  · subst d4
    refine Kept.step (Device.setSc_kept ..) ?_
    exact Kept.refl
  clear_value d4
  refine Kept.ite ?_ ?_
  · assumption
  · refine Kept.ite ?_ ?_
    · refine Kept.step (Device.scStep_kept ..) ?_
      assumption
    · split
      extract_lets +onlyGivenNames inc5
      extract_lets +onlyGivenNames d6
      refine Kept.cut d6 ?_ fun hd6 => ?_
      · subst d6
        refine Kept.step (Device.setSc_kept ..) ?_
        assumption
      clear_value d6
      refine Kept.step (Device.scIncrement_kept ..) ?_
      assumption
theorem Device.scGain_kept (d : Device) (x : Nat) : Kept d (Device.scGain d x) := by
  unfold Device.scGain
  extract_lets +onlyGivenNames d1
  refine Kept.cut d1 ?_ fun hd1 => ?_
  · subst d1
    refine Kept.step (Device.setSc_kept ..) ?_
    exact Kept.refl
  clear_value d1
  extract_lets +onlyGivenNames d2
  refine Kept.cut d2 ?_ fun hd2 => ?_
  · subst d2
    refine Kept.step (Device.raise_kept ..) ?_
    assumption
  clear_value d2
  refine Kept.ite ?_ ?_
  · refine Device.setClk_kept (fun _ h => by simpa [Clk.Shaped, upd, clearBits] using h) ?_
    assumption
  · assumption
theorem Device.scOffset_kept (d : Device) (x : Nat) (offset : Rat) : Kept d (Device.scOffset d x offset) := by
  unfold Device.scOffset
  extract_lets +onlyGivenNames d1
  refine Kept.cut d1 ?_ fun hd1 => ?_
  · subst d1
    refine Kept.step (Device.setSc_kept ..) ?_
    exact Kept.refl
  clear_value d1
  extract_lets +onlyGivenNames steps2
  extract_lets +onlyGivenNames d3
  refine Kept.cut d3 ?_ fun hd3 => ?_
  · subst d3
    refine Kept.step (Device.servo_kept ..) ?_
    assumption
  clear_value d3
  refine Kept.ite ?_ ?_
  · assumption
  · extract_lets +onlyGivenNames good4
    extract_lets +onlyGivenNames d5
    refine Kept.cut d5 ?_ fun hd5 => ?_
    · subst d5
      refine Kept.step (Device.setSc_kept ..) ?_
      assumption
    clear_value d5
    extract_lets +onlyGivenNames c6
    extract_lets +onlyGivenNames blocked7
    refine Kept.ite ?_ ?_
    · refine Kept.step (Device.scGain_kept ..) ?_
      assumption
    · refine Kept.ite ?_ ?_
      · refine Kept.step (Device.scLose_kept ..) ?_
        assumption
      · assumption
theorem Device.setBest_kept (d : Device) (x : Nat) (port : Nat) (f : BestMaster → BestMaster) : Kept d (Device.setBest d x port f) := by
  unfold Device.setBest
  refine Device.setNet_kept (fun _ h => ⟨h.1, h.2.1, h.2.2.1, h.2.2.2.1, h.2.2.2.2.1, by simpa [upd] using h.2.2.2.2.2.1, upd_all h.2.2.2.2.2.2 fun _ g => by simpa [upd] using g⟩) ?_
  exact Kept.refl
theorem Device.selectPort_kept (d : Device) (x : Nat) : Kept d (Device.selectPort d x) := by
  unfold Device.selectPort
  extract_lets +onlyGivenNames p1
  extract_lets +onlyGivenNames c2
  extract_lets +onlyGivenNames b3
  extract_lets +onlyGivenNames gm4
  extract_lets +onlyGivenNames d5
  refine Kept.cut d5 ?_ fun hd5 => ?_
  · subst d5
    refine Kept.ite ?_ ?_
    · exact Kept.refl
    · refine Kept.step (Device.hwSet_kept ..) ?_
      exact Kept.refl
  clear_value d5
  extract_lets +onlyGivenNames d6
  refine Kept.cut d6 ?_ fun hd6 => ?_
  · subst d6
    refine Kept.step (Device.setSc_kept ..) ?_
    assumption
  clear_value d6
  refine Kept.ite ?_ ?_
  · assumption
  · refine Kept.step (Device.raise_kept ..) ?_
    assumption
theorem Device.takeOffset_kept (d : Device) (x : Nat) (port : Nat) (offset : Rat) : Kept d (Device.takeOffset d x port offset) := by
  unfold Device.takeOffset
  refine Kept.ite ?_ ?_
  · refine Kept.step (Device.scOffset_kept ..) ?_
    exact Kept.refl
  · refine Device.setNet_kept (fun _ h => by simpa [Net.Shaped, upd, clearBits] using h) ?_
    exact Kept.refl
theorem Device.scHost_carry {d e : Device} {x : Nat} {f : Device → Device} (hf : ∀ y, Kept d y → Kept d (f y)) (h : Kept d e) : Kept d (e.scHost x f) :=
  Kept.ite (hf _ h) (Kept.step (Device.hostErr_kept ..) h)
theorem execEthPortLinkChange_kept (t : Tick) (port : Fin 2) (up : Bool) (gigabit : Bool) (s s' : State) (h : execEthPortLinkChange t port up gigabit s = .next s') : Kept s.dev s'.dev := by
  refine State.on_kept h fun d => ?_
  extract_lets +onlyGivenNames now1
  refine Kept.ite ?_ ?_
  · exact Kept.refl
  · refine Kept.step (Device.raiseRated_kept ..) ?_
    refine Device.setNet_kept (fun _ h => by simpa [Net.Shaped, upd, clearBits] using h) ?_
    exact Kept.refl
theorem execEthFrameReceived_kept (t : Tick) (port : Fin 2) (len : Nat) (src : BitVec 48) (kind : Fin 5) (tag : Option (Nat × Nat)) (mine : Bool) (s s' : State) (h : execEthFrameReceived t port len src kind tag mine s = .next s') : Kept s.dev s'.dev := by
  refine State.on_kept h fun d => ?_
  extract_lets +onlyGivenNames mode1
  extract_lets +onlyGivenNames discard2
  refine Kept.ite ?_ ?_
  · exact Kept.refl
  · extract_lets +onlyGivenNames d3
    refine Kept.cut d3 ?_ fun hd3 => ?_
    · subst d3
      refine Kept.step (Device.pmcPulse_kept ..) ?_
      exact Kept.refl
    clear_value d3
    refine Kept.ite ?_ ?_
    · unfold discard2
      refine Device.setNet_kept (fun _ h => by simpa [Net.Shaped, upd, clearBits] using h) ?_
      assumption
    · refine Kept.ite ?_ ?_
      · refine Kept.step (Device.ownReturned_kept ..) ?_
        assumption
      · extract_lets +onlyGivenNames wrong4
        extract_lets +onlyGivenNames d5
        refine Kept.cut d5 ?_ fun hd5 => ?_
        · subst d5
          refine Kept.ite ?_ ?_
          · refine Kept.step (Device.raiseRated_kept ..) ?_
            refine Device.setNet_kept (fun _ h => by simpa [Net.Shaped, upd, clearBits] using h) ?_
            assumption
          · assumption
        clear_value d5
        extract_lets +onlyGivenNames copy6
        extract_lets +onlyGivenNames dup7
        refine Kept.ite ?_ ?_
        · refine Device.setNet_kept (fun _ h => by simpa [Net.Shaped, upd, clearBits] using h) ?_
          assumption
        · extract_lets +onlyGivenNames d8
          refine Kept.cut d8 ?_ fun hd8 => ?_
          · subst d8
            clear_value copy6
            split
            · refine Kept.step (Device.enterFrame_kept ..) ?_
              assumption
            · assumption
          clear_value d8
          refine Kept.ite ?_ ?_
          · refine Kept.step (Device.nodeSeen_kept ..) ?_
            assumption
          · refine Kept.ite ?_ ?_
            · refine Kept.ite ?_ ?_
              · assumption
              · unfold discard2
                refine Device.setNet_kept (fun _ h => by simpa [Net.Shaped, upd, clearBits] using h) ?_
                assumption
            · assumption
theorem execHsrForward_kept (t : Tick) (port : Fin 2) (src : BitVec 48) (dst : BitVec 48) (seq : Nat) (pcp : Option (Fin 8)) (event : Fin 3) (dom : Nat) (ptpSeq : Nat) (ptpSrc : BitVec 80) (corr : Rat) (resid : Rat) (s s' : State) (h : execHsrForward t port src dst seq pcp event dom ptpSeq ptpSrc corr resid s = .next s') : Kept s.dev s'.dev := by
  refine State.on_kept h fun d => ?_
  extract_lets +onlyGivenNames out1
  refine Kept.ite ?_ ?_
  · exact Kept.refl
  · refine Kept.ite ?_ ?_
    · exact Kept.refl
    · extract_lets +onlyGivenNames d2
      refine Kept.cut d2 ?_ fun hd2 => ?_
      · subst d2
        refine Kept.ite ?_ ?_
        · refine Kept.step (Device.enterFrame_kept ..) ?_
          exact Kept.refl
        · exact Kept.refl
      clear_value d2
      extract_lets +onlyGivenNames add3
      extract_lets +onlyGivenNames x4
      extract_lets +onlyGivenNames x5
      extract_lets +onlyGivenNames d6
      refine Kept.cut d6 ?_ fun hd6 => ?_
      · subst d6
        refine Device.setNet_kept (fun _ h => by simpa [Net.Shaped, upd, clearBits] using h) ?_
        assumption
      clear_value d6
      refine Kept.ite ?_ ?_
      · extract_lets +onlyGivenNames h7
        extract_lets +onlyGivenNames h8
        refine Device.setNet_kept (fun _ h => by simpa [Net.Shaped, upd, clearBits] using h) ?_
        assumption
      · assumption
theorem execSupervisionFrameSend_kept (t : Tick) (s s' : State) (h : execSupervisionFrameSend t s = .next s') : Kept s.dev s'.dev := by
  refine State.on_kept h fun d => ?_
  refine Kept.ite ?_ ?_
  · exact Kept.refl
  · refine Device.setNet_kept (fun _ h => by simpa [Net.Shaped, upd, clearBits] using h) ?_
    refine Kept.step (Device.ethSend_kept ..) ?_
    exact Kept.refl
theorem execRingClosedTimeout_kept (t : Tick) (s s' : State) (h : execRingClosedTimeout t s = .next s') : Kept s.dev s'.dev := by
  refine State.on_kept h fun d => ?_
  refine Kept.ite ?_ ?_
  · exact Kept.refl
  · refine Device.setNet_kept (fun _ h => by simpa [Net.Shaped, upd, clearBits] using h) ?_
    exact Kept.refl
theorem execSafeChannelFrame_kept (t : Tick) (src : BitVec 48) (mine : Bool) (etherType : BitVec 16) (version : BitVec 16) (pdu : BitVec 192) (s s' : State) (h : execSafeChannelFrame t src mine etherType version pdu s = .next s') : Kept s.dev s'.dev := by
  refine State.on_kept h fun d => ?_
  refine Kept.ite ?_ ?_
  · exact Kept.refl
  · refine Kept.ite ?_ ?_
    · refine Device.setNet_kept (fun _ h => by simpa [Net.Shaped, upd, clearBits] using h) ?_
      exact Kept.refl
    · refine Kept.ite ?_ ?_
      · refine Device.setNet_kept (fun _ h => by simpa [Net.Shaped, upd, clearBits] using h) ?_
        exact Kept.refl
      · refine Device.setNet_kept (fun _ h => by simpa [Net.Shaped, upd, clearBits] using h) ?_
        exact Kept.refl
theorem execPtpAnnounce_kept (t : Tick) (dom : Nat) (port : Fin 2) (src : BitVec 80) (gm : BitVec 64) (rank : List Nat) (interval : Rat) (utc : BitVec 17) (s s' : State) (h : execPtpAnnounce t dom port src gm rank interval utc s = .next s') : Kept s.dev s'.dev := by
  refine State.on_kept h fun d => ?_
  refine Kept.ite ?_ ?_
  · exact Kept.refl
  · refine Kept.foldl (fun x1 b2 hx1 => ?_) ?_
    · extract_lets +onlyGivenNames b3
      refine Kept.ite ?_ ?_
      · assumption
      · extract_lets +onlyGivenNames d4
        refine Kept.cut d4 ?_ fun hd4 => ?_
        · subst d4
          refine Kept.step (Device.selectPort_kept ..) ?_
          refine Kept.step (Device.setBest_kept ..) ?_
          assumption
        clear_value d4
        refine Kept.ite ?_ ?_
        · refine Kept.step (Device.setSc_kept ..) ?_
          assumption
        · assumption
    · exact Kept.refl
theorem execDomainSilent_kept (t : Tick) (x : Fin 2) (s s' : State) (h : execDomainSilent t x s = .next s') : Kept s.dev s'.dev := by
  refine State.on_kept h fun d => ?_
  extract_lets +onlyGivenNames c1
  refine Kept.ite ?_ ?_
  · exact Kept.refl
  · extract_lets +onlyGivenNames d2
    refine Kept.cut d2 ?_ fun hd2 => ?_
    · subst d2
      refine Kept.step (Device.scLose_kept ..) ?_
      refine Kept.step (Device.setBest_kept ..) ?_
      exact Kept.refl
    clear_value d2
    extract_lets +onlyGivenNames d3
    refine Kept.cut d3 ?_ fun hd3 => ?_
    · subst d3
      refine Kept.step (Device.selectPort_kept ..) ?_
      assumption
    clear_value d3
    refine Kept.step (Device.setSc_kept ..) ?_
    assumption
theorem execPtpSync_kept (t : Tick) (dom : Nat) (port : Fin 2) (src : BitVec 80) (seq : Nat) (twoStep : Bool) (origin : Rat) (corr : Rat) (err : Rat) (s s' : State) (h : execPtpSync t dom port src seq twoStep origin corr err s = .next s') : Kept s.dev s'.dev := by
  refine State.on_kept h fun d => ?_
  refine Kept.foldl (fun x1 b2 hx1 => ?_) ?_
  · extract_lets +onlyGivenNames b3
    refine Kept.ite ?_ ?_
    · assumption
    · extract_lets +onlyGivenNames ts4
      refine Kept.ite ?_ ?_
      · extract_lets +onlyGivenNames h5
        extract_lets +onlyGivenNames h6
        refine Device.setNet_kept (fun _ h => by simpa [Net.Shaped, upd, clearBits] using h) ?_
        assumption
      · refine Kept.step (Device.takeOffset_kept ..) ?_
        assumption
  · exact Kept.refl
theorem execPtpFollowUp_kept (t : Tick) (dom : Nat) (port : Fin 2) (src : BitVec 80) (seq : Nat) (mac : BitVec 48) (origin : Rat) (corr : Rat) (s s' : State) (h : execPtpFollowUp t dom port src seq mac origin corr s = .next s') : Kept s.dev s'.dev := by
  refine State.on_kept h fun d => ?_
  refine Kept.ite ?_ ?_
  · exact Kept.refl
  · extract_lets +onlyGivenNames fwd1
    extract_lets +onlyGivenNames mine2
    extract_lets +onlyGivenNames out3
    extract_lets +onlyGivenNames d4
    extract_lets +onlyGivenNames d5
    extract_lets +onlyGivenNames d6
    extract_lets +onlyGivenNames d7
    refine Kept.cut d7 ?_ fun hd7 => ?_
    · subst d7
      refine Kept.ite ?_ ?_
      · refine Device.setNet_kept (fun _ h => by simpa [Net.Shaped, upd, clearBits] using h) ?_
        exact Kept.refl
      · exact Kept.refl
    clear_value d7
    extract_lets +onlyGivenNames d8
    refine Kept.cut d8 ?_ fun hd8 => ?_
    · subst d8
      refine Device.setNet_kept (fun _ h => by simpa [Net.Shaped, upd, clearBits] using h) ?_
      assumption
    clear_value d8
    clear_value mine2
    split
    · assumption
    · refine Kept.foldl (fun x9 b10 hx9 => ?_) ?_
      · refine Kept.step (Device.takeOffset_kept ..) ?_
        assumption
      · assumption
theorem execPdelayReq_kept (t : Tick) (port : Fin 2) (src : BitVec 48) (seq : Nat) (corr : Rat) (turn : Rat) (s s' : State) (h : execPdelayReq t port src seq corr turn s = .next s') : Kept s.dev s'.dev := by
  refine State.on_kept h fun d => ?_
  refine Kept.ite ?_ ?_
  · exact Kept.refl
  · extract_lets +onlyGivenNames x1
    extract_lets +onlyGivenNames x2
    refine Device.setNet_kept (fun _ h => by simpa [Net.Shaped, upd, clearBits] using h) ?_
    exact Kept.refl
theorem execPdelayReqInterval_kept (t : Tick) (s s' : State) (h : execPdelayReqInterval t s = .next s') : Kept s.dev s'.dev := by
  refine State.on_kept h fun d => ?_
  refine Kept.ite ?_ ?_
  · exact Kept.refl
  · extract_lets +onlyGivenNames q1
    extract_lets +onlyGivenNames l2
    extract_lets +onlyGivenNames l3
    refine Device.setNet_kept (fun _ h => by simpa [Net.Shaped, upd, clearBits] using h) ?_
    exact Kept.refl
theorem execPdelayRespReceived_kept (t : Tick) (port : Fin 2) (seq : Nat) (corr : Rat) (err : Rat) (s s' : State) (h : execPdelayRespReceived t port seq corr err s = .next s') : Kept s.dev s'.dev := by
  refine State.on_kept h fun d => ?_
  split
  · exact Kept.refl
  · refine Kept.ite ?_ ?_
    · exact Kept.refl
    · extract_lets +onlyGivenNames turn1
      refine Device.setNet_kept (fun _ h => by simpa [Net.Shaped, upd, clearBits] using h) ?_
      exact Kept.refl
theorem execScTimeRead_kept (t : Tick) (x : Fin 2) (s s' : State) (h : execScTimeRead t x s = .next s') : Kept s.dev s'.dev := by
  refine State.on_kept h fun d => ?_
  refine Kept.step (Device.answer_kept ..) ?_
  refine Kept.step (Device.setSc_kept ..) ?_
  exact Kept.refl
theorem execScIncrementWrite_kept (t : Tick) (x : Fin 2) (frac : BitVec 32) (s s' : State) (h : execScIncrementWrite t x frac s = .next s') : Kept s.dev s'.dev := by
  refine State.on_kept h fun d => ?_
  refine Device.scHost_carry (fun x1 hx1 => ?_) ?_
  · extract_lets +onlyGivenNames d2
    refine Kept.cut d2 ?_ fun hd2 => ?_
    · subst d2
      refine Kept.step (Device.setSc_kept ..) ?_
      assumption
    clear_value d2
    refine Kept.step (Device.scIncrement_kept ..) ?_
    assumption
  exact Kept.refl
theorem execScApplySet_kept (t : Tick) (w : Fin 2 × BitVec 32) (s s' : State) (h : execScApplySet t w s = .next s') : Kept s.dev s'.dev := by
  refine State.on_kept h fun d => ?_
  refine Device.scHost_carry (fun x1 hx1 => ?_) ?_
  · extract_lets +onlyGivenNames c2
    extract_lets +onlyGivenNames sec3
    extract_lets +onlyGivenNames ns4
    extract_lets +onlyGivenNames step5
    refine Kept.step (Device.scStep_kept ..) ?_
    assumption
  refine Kept.step (Device.reserved_kept ..) ?_
  exact Kept.refl
theorem execScApplyStep_kept (t : Tick) (w : Fin 2 × BitVec 32) (s s' : State) (h : execScApplyStep t w s = .next s') : Kept s.dev s'.dev := by
  refine State.on_kept h fun d => ?_
  refine Device.scHost_carry (fun x1 hx1 => ?_) ?_
  · refine Kept.ite ?_ ?_
    · assumption
    · extract_lets +onlyGivenNames n2
      refine Kept.step (Device.scStep_kept ..) ?_
      assumption
  refine Kept.step (Device.reserved_kept ..) ?_
  exact Kept.refl

/-! ## Feedback -/

theorem Device.rearmRun_kept (d : Device) (sensor : Nat) (ok : Bool) : Kept d (Device.rearmRun d sensor ok) := by
  unfold Device.rearmRun
  refine Device.setLaw_kept (fun _ h => by simpa [Law.Shaped, upd, clearBits] using h) ?_
  exact Kept.refl
theorem Device.votePhase_kept (d : Device) (a : Nat) (b : Nat) (main : Rat × Bool) (sec : Option (Rat × Bool)) (model : Rat) (t : Rat) (v : Vote) : Kept d (Device.votePhase d a b main sec model t v).2.2 := by
  unfold Device.votePhase
  extract_lets +onlyGivenNames raw1
  split
  · extract_lets +onlyGivenNames ok2
    extract_lets +onlyGivenNames d3
    refine Kept.cut d3 ?_ fun hd3 => ?_
    · subst d3
      refine Kept.step (Device.rearmRun_kept ..) ?_
      refine Kept.step (Device.rearmRun_kept ..) ?_
      exact Kept.refl
    clear_value d3
    refine Kept.third_mk ?_
    assumption
  · extract_lets +onlyGivenNames r4
    extract_lets +onlyGivenNames ms5
    extract_lets +onlyGivenNames d6
    refine Kept.cut d6 ?_ fun hd6 => ?_
    · subst d6
      refine Kept.step (Device.rearmRun_kept ..) ?_
      refine Kept.step (Device.rearmRun_kept ..) ?_
      exact Kept.refl
    clear_value d6
    refine Kept.third_mk ?_
    assumption
theorem Device.plausibility_kept (d : Device) : Kept d (Device.plausibility d).2.2 := by
  unfold Device.plausibility
  extract_lets +onlyGivenNames p1
  extract_lets +onlyGivenNames st2
  extract_lets +onlyGivenNames l3
  extract_lets +onlyGivenNames r4
  extract_lets +onlyGivenNames k5
  extract_lets +onlyGivenNames ue6
  extract_lets +onlyGivenNames g7
  extract_lets +onlyGivenNames iM8
  extract_lets +onlyGivenNames main9
  extract_lets +onlyGivenNames sec10
  extract_lets +onlyGivenNames gr11
  split
  rename_i q12
  refine Kept.cut _ (Kept.of_third q12 ?_) fun hx13 => ?_
  · refine Kept.foldl_third (fun x14 b15 hx14 => ?_) ?_
    · split
      extract_lets +onlyGivenNames t16
      split
      rename_i q17
      refine Kept.cut _ (Kept.of_third q17 ?_) fun hx18 => ?_
      · refine Kept.step (Device.votePhase_kept ..) ?_
        assumption
      refine Kept.third_mk ?_
      assumption
    · refine Kept.third_mk ?_
      exact Kept.refl
  extract_lets +onlyGivenNames vM19
  extract_lets +onlyGivenNames conv20
  extract_lets +onlyGivenNames pcc21
  extract_lets +onlyGivenNames closed22
  split
  rename_i q23
  refine Kept.cut _ (Kept.of_third q23 ?_) fun hx24 => ?_
  · refine Kept.foldl_third (fun x25 b26 hx25 => ?_) ?_
    · split
      extract_lets +onlyGivenNames s27
      split
      rename_i q28
      refine Kept.cut _ (Kept.of_third q28 ?_) fun hx29 => ?_
      · refine Kept.step (Device.votePhase_kept ..) ?_
        assumption
      refine Kept.third_mk ?_
      assumption
    · refine Kept.third_mk ?_
      assumption
  extract_lets +onlyGivenNames iEst30
  extract_lets +onlyGivenNames d31
  refine Kept.cut d31 ?_ fun hd31 => ?_
  · subst d31
    refine Device.setLaw_kept (fun _ h => by simpa [Law.Shaped, upd, clearBits] using h) ?_
    assumption
  clear_value d31
  refine Kept.third_mk ?_
  assumption
theorem Device.sensorless_kept (d : Device) : Kept d (Device.sensorless d) := by
  unfold Device.sensorless
  refine Kept.ite ?_ ?_
  · exact Kept.refl
  · extract_lets +onlyGivenNames i1
    extract_lets +onlyGivenNames v2
    extract_lets +onlyGivenNames w3
    extract_lets +onlyGivenNames enter4
    extract_lets +onlyGivenNames d5
    refine Kept.cut d5 ?_ fun hd5 => ?_
    · subst d5
      refine Device.setLaw_kept (fun _ h => by simpa [Law.Shaped, upd, clearBits] using h) ?_
      exact Kept.refl
    clear_value d5
    refine Kept.ite ?_ ?_
    · refine Kept.step (Device.raise_kept ..) ?_
      assumption
    · assumption
theorem Device.sequences_kept (d : Device) (vSel : List Rat) : Kept d (Device.sequences d vSel).2.2 := by
  unfold Device.sequences
  extract_lets +onlyGivenNames x1
  extract_lets +onlyGivenNames n2
  extract_lets +onlyGivenNames old3
  split
  extract_lets +onlyGivenNames ang4
  extract_lets +onlyGivenNames r5
  extract_lets +onlyGivenNames x6
  split
  extract_lets +onlyGivenNames span7
  extract_lets +onlyGivenNames d8
  refine Kept.cut d8 ?_ fun hd8 => ?_
  · subst d8
    refine Device.setRide_kept ?_
    exact Kept.refl
  clear_value d8
  refine Kept.third_mk ?_
  assumption

/-! ## Trajectory -/

theorem Device.setAxis_kept (d : Device) (amp : Bool) (f : Axis → Axis) : Kept d (Device.setAxis d amp f) := by
  unfold Device.setAxis
  refine Device.setTraj_kept ?_
  exact Kept.refl
theorem Device.planSegment_kept (d : Device) (amp : Bool) : Kept d (Device.planSegment d amp) := by
  unfold Device.planSegment
  extract_lets +onlyGivenNames a1
  split
  · exact Kept.refl
  · extract_lets +onlyGivenNames left2
    extract_lets +onlyGivenNames amax3
    extract_lets +onlyGivenNames vmax4
    extract_lets +onlyGivenNames n5
    extract_lets +onlyGivenNames d6
    refine Kept.cut d6 ?_ fun hd6 => ?_
    · subst d6
      refine Kept.step (Device.setAxis_kept ..) ?_
      exact Kept.refl
    clear_value d6
    refine Kept.ite ?_ ?_
    · assumption
    · extract_lets +onlyGivenNames d7
      refine Kept.cut d7 ?_ fun hd7 => ?_
      · subst d7
        refine Kept.step (Device.hwSet_kept ..) ?_
        refine Device.setTraj_kept ?_
        assumption
      clear_value d7
      refine Kept.step (Device.raiseRated_kept ..) ?_
      assumption
theorem Device.beginSegment_kept (d : Device) (amp : Bool) (i : Nat) : Kept d (Device.beginSegment d amp i) := by
  unfold Device.beginSegment
  extract_lets +onlyGivenNames dur1
  refine Kept.step (Device.planSegment_kept ..) ?_
  refine Kept.step (Device.setAxis_kept ..) ?_
  exact Kept.refl
theorem Device.startMove_kept (d : Device) (m : Move) : Kept d (Device.startMove d m) := by
  unfold Device.startMove
  extract_lets +onlyGivenNames d1
  refine Kept.cut d1 ?_ fun hd1 => ?_
  · subst d1
    refine Kept.step (Device.applyWaiting_kept ..) ?_
    exact Kept.refl
  clear_value d1
  extract_lets +onlyGivenNames d2
  refine Kept.cut d2 ?_ fun hd2 => ?_
  · subst d2
    refine Kept.step (Device.setAxis_kept ..) ?_
    assumption
  clear_value d2
  refine Kept.step (Device.beginSegment_kept ..) ?_
  refine Device.setTraj_kept ?_
  assumption
theorem Device.stepPhase_kept (d : Device) : Kept d (Device.stepPhase d).1 := by
  unfold Device.stepPhase
  extract_lets +onlyGivenNames T1
  extract_lets +onlyGivenNames fn2
  extract_lets +onlyGivenNames d3
  refine Kept.cut d3 ?_ fun hd3 => ?_
  · subst d3
    refine Kept.ite ?_ ?_
    · refine Kept.step (Device.planSegment_kept ..) ?_
      exact Kept.refl
    · exact Kept.refl
  clear_value d3
  extract_lets +onlyGivenNames a4
  split
  · extract_lets +onlyGivenNames lim5
    split
    refine Kept.fst_mk ?_
    refine Kept.step (Device.setAxis_kept ..) ?_
    assumption
  · extract_lets +onlyGivenNames b6
    extract_lets +onlyGivenNames locked7
    extract_lets +onlyGivenNames vel8
    extract_lets +onlyGivenNames adv9
    refine Kept.fst_mk ?_
    refine Kept.step (Device.setAxis_kept ..) ?_
    assumption
theorem Device.stepAmp_kept (d : Device) : Kept d (Device.stepAmp d) := by
  unfold Device.stepAmp
  extract_lets +onlyGivenNames T1
  extract_lets +onlyGivenNames d2
  refine Kept.cut d2 ?_ fun hd2 => ?_
  · subst d2
    refine Kept.ite ?_ ?_
    · refine Kept.step (Device.planSegment_kept ..) ?_
      exact Kept.refl
    · exact Kept.refl
  clear_value d2
  extract_lets +onlyGivenNames a3
  refine Kept.ite ?_ ?_
  · refine Kept.ite ?_ ?_
    · refine Kept.step (Device.setAxis_kept ..) ?_
      assumption
    · split
      · refine Kept.step (Device.setAxis_kept ..) ?_
        assumption
      · split
        refine Kept.step (Device.setAxis_kept ..) ?_
        assumption
  · extract_lets +onlyGivenNames b4
    extract_lets +onlyGivenNames pos5
    refine Kept.step (Device.setAxis_kept ..) ?_
    assumption
theorem Device.turnTheta_kept (d : Device) (turns : Rat) : Kept d (Device.turnTheta d turns) := by
  unfold Device.turnTheta
  split
  rename_i q1
  refine Kept.cut _ (Kept.of_snd q1 ?_) fun hx2 => ?_
  · refine Kept.step (Device.quant_kept ..) ?_
    exact Kept.refl
  refine Device.setTraj_kept ?_
  assumption
theorem Device.stage2_kept (d : Device) (step : Rat) : Kept d (Device.stage2 d step) := by
  unfold Device.stage2
  extract_lets +onlyGivenNames locked1
  split
  rename_i q2
  refine Kept.cut _ (Kept.of_fst q2 ?_) fun hx3 => ?_
  · refine Kept.step (Device.stepPhase_kept ..) ?_
    exact Kept.refl
  refine Kept.step (Device.turnTheta_kept ..) ?_
  refine Kept.step (Device.stepAmp_kept ..) ?_
  assumption
theorem Device.snapToGrid_kept (d : Device) (off : Rat) : Kept d (Device.snapToGrid d off) := by
  unfold Device.snapToGrid
  extract_lets +onlyGivenNames ahead1
  extract_lets +onlyGivenNames d2
  refine Kept.cut d2 ?_ fun hd2 => ?_
  · subst d2
    refine Kept.step (Device.turnTheta_kept ..) ?_
    exact Kept.refl
  clear_value d2
  extract_lets +onlyGivenNames d3
  refine Kept.cut d3 ?_ fun hd3 => ?_
  · subst d3
    refine Kept.step (Device.setAxis_kept ..) ?_
    assumption
  clear_value d3
  refine Kept.step (Device.setAxis_kept ..) ?_
  assumption
theorem execMoveStart_kept (t : Tick) (axis : Fin 2) (s s' : State) (h : execMoveStart t axis s = .next s') : Kept s.dev s'.dev := by
  refine State.on_kept h fun d => ?_
  extract_lets +onlyGivenNames amp1
  split
  · exact Kept.refl
  · extract_lets +onlyGivenNames due2
    extract_lets +onlyGivenNames may3
    refine Kept.ite ?_ ?_
    · exact Kept.refl
    · refine Kept.step (Device.startMove_kept ..) ?_
      refine Device.setTraj_kept ?_
      exact Kept.refl
theorem execSegmentStart_kept (t : Tick) (axis : Fin 2) (s s' : State) (h : execSegmentStart t axis s = .next s') : Kept s.dev s'.dev := by
  refine State.on_kept h fun d => ?_
  extract_lets +onlyGivenNames amp1
  extract_lets +onlyGivenNames a2
  split
  · exact Kept.refl
  · refine Kept.ite ?_ ?_
    · refine Kept.step (Device.beginSegment_kept ..) ?_
      exact Kept.refl
    · exact Kept.refl
theorem execMoveEnd_kept (t : Tick) (axis : Fin 2) (s s' : State) (h : execMoveEnd t axis s = .next s') : Kept s.dev s'.dev := by
  refine State.on_kept h fun d => ?_
  extract_lets +onlyGivenNames amp1
  extract_lets +onlyGivenNames a2
  split
  · exact Kept.refl
  · refine Kept.ite ?_ ?_
    · exact Kept.refl
    · extract_lets +onlyGivenNames d3
      refine Kept.cut d3 ?_ fun hd3 => ?_
      · subst d3
        refine Kept.step (Device.setAxis_kept ..) ?_
        exact Kept.refl
      clear_value d3
      refine Kept.ite ?_ ?_
      · refine Device.setSeq_kept ?_
        assumption
      · assumption

/-! ## Law -/

theorem Device.setpStep_kept (d : Device) (target : Nat) : Kept d (Device.setpStep d target) := by
  unfold Device.setpStep
  extract_lets +onlyGivenNames p1
  extract_lets +onlyGivenNames isQ2
  extract_lets +onlyGivenNames host3
  extract_lets +onlyGivenNames src4
  split
  extract_lets +onlyGivenNames x5
  extract_lets +onlyGivenNames fresh6
  extract_lets +onlyGivenNames failed7
  extract_lets +onlyGivenNames held8
  extract_lets +onlyGivenNames want9
  extract_lets +onlyGivenNames lo10
  extract_lets +onlyGivenNames hi11
  extract_lets +onlyGivenNames lim12
  extract_lets +onlyGivenNames rate13
  extract_lets +onlyGivenNames upTo14
  extract_lets +onlyGivenNames active15
  extract_lets +onlyGivenNames x'16
  extract_lets +onlyGivenNames d17
  refine Kept.cut d17 ?_ fun hd17 => ?_
  · subst d17
    refine Device.setLaw_kept (fun _ h => by simpa [Law.Shaped, upd, clearBits] using h) ?_
    exact Kept.refl
  clear_value d17
  refine Kept.ite ?_ ?_
  · refine Kept.step (Device.raise_kept ..) ?_
    assumption
  · assumption
theorem Device.clampNote_kept (d : Device) (i : Nat) (cut : Bool) (stands : Bool) (value : Rat) : Kept d (Device.clampNote d i cut stands value) := by
  unfold Device.clampNote
  extract_lets +onlyGivenNames was1
  extract_lets +onlyGivenNames now2
  extract_lets +onlyGivenNames d3
  refine Kept.cut d3 ?_ fun hd3 => ?_
  · subst d3
    refine Device.setLaw_kept (fun _ h => by simpa [Law.Shaped, upd, clearBits] using h) ?_
    exact Kept.refl
  clear_value d3
  refine Kept.ite ?_ ?_
  · extract_lets +onlyGivenNames d4
    refine Kept.cut d4 ?_ fun hd4 => ?_
    · subst d4
      refine Kept.step (Device.hwSet_kept ..) ?_
      refine Device.setLaw_kept (fun _ h => by simpa [Law.Shaped, upd, clearBits] using h) ?_
      assumption
    clear_value d4
    split
    rename_i q5
    refine Kept.cut _ (Kept.of_snd q5 ?_) fun hx6 => ?_
    · refine Kept.step (Device.quant_kept ..) ?_
      assumption
    refine Kept.step (Device.raiseRated_kept ..) ?_
    assumption
  · assumption
theorem Device.stage3_kept (d : Device) (v : DQ) (i : DQ) : Kept d (Device.stage3 d v i) := by
  unfold Device.stage3
  extract_lets +onlyGivenNames p1
  extract_lets +onlyGivenNames T2
  extract_lets +onlyGivenNames st3
  extract_lets +onlyGivenNames pw4
  extract_lets +onlyGivenNames qw5
  extract_lets +onlyGivenNames gain6
  extract_lets +onlyGivenNames pF7
  extract_lets +onlyGivenNames qF8
  extract_lets +onlyGivenNames w9
  extract_lets +onlyGivenNames slp10
  extract_lets +onlyGivenNames pRef11
  extract_lets +onlyGivenNames w'12
  extract_lets +onlyGivenNames wf13
  extract_lets +onlyGivenNames wc14
  extract_lets +onlyGivenNames E15
  extract_lets +onlyGivenNames err16
  extract_lets +onlyGivenNames ride17
  extract_lets +onlyGivenNames stuck18
  extract_lets +onlyGivenNames m19
  extract_lets +onlyGivenNames xNew20
  extract_lets +onlyGivenNames xQv21
  extract_lets +onlyGivenNames et22
  extract_lets +onlyGivenNames ec23
  extract_lets +onlyGivenNames d24
  refine Kept.cut d24 ?_ fun hd24 => ?_
  · subst d24
    refine Device.setLaw_kept (fun _ h => by simpa [Law.Shaped, upd, clearBits] using h) ?_
    exact Kept.refl
  clear_value d24
  refine Kept.step (Device.clampNote_kept ..) ?_
  refine Kept.step (Device.clampNote_kept ..) ?_
  refine Kept.step (Device.clampNote_kept ..) ?_
  assumption
theorem Device.rampImpedance_kept (d : Device) : Kept d (Device.rampImpedance d) := by
  unfold Device.rampImpedance
  extract_lets +onlyGivenNames st1
  refine Kept.ite ?_ ?_
  · exact Kept.refl
  · extract_lets +onlyGivenNames last2
    refine Device.setLaw_kept (fun _ h => by simpa [Law.Shaped, upd, clearBits] using h) ?_
    exact Kept.refl
theorem Device.resonant_kept (d : Device) (e : DQ) (th : Rat) (held : Bool) : Kept d (Device.resonant d e th held).2 := by
  unfold Device.resonant
  extract_lets +onlyGivenNames p1
  extract_lets +onlyGivenNames n2
  extract_lets +onlyGivenNames sum3
  extract_lets +onlyGivenNames step4
  split
  extract_lets +onlyGivenNames d5
  refine Kept.cut d5 ?_ fun hd5 => ?_
  · subst d5
    refine Device.setLaw_kept (fun _ h => by simpa [Law.Shaped, upd, clearBits] using h) ?_
    exact Kept.refl
  clear_value d5
  refine Kept.snd_mk ?_
  refine Kept.step (Device.clampNote_kept ..) ?_
  assumption
theorem Device.stage7_kept (d : Device) (u : DQ) (un : DQ) (ip : DQ) (iz : DQ) (adv : Rat) : Kept d (Device.stage7 d u un ip iz adv).2 := by
  unfold Device.stage7
  extract_lets +onlyGivenNames T1
  extract_lets +onlyGivenNames a12
  extract_lets +onlyGivenNames a23
  split
  split
  split
  split
  extract_lets +onlyGivenNames r14
  extract_lets +onlyGivenNames r25
  extract_lets +onlyGivenNames li6
  extract_lets +onlyGivenNames circ7
  extract_lets +onlyGivenNames ai8
  extract_lets +onlyGivenNames limOne9
  extract_lets +onlyGivenNames l110
  extract_lets +onlyGivenNames l211
  extract_lets +onlyGivenNames sat12
  extract_lets +onlyGivenNames word13
  extract_lets +onlyGivenNames us14
  split
  rename_i q15
  refine Kept.cut _ (Kept.of_snd q15 ?_) fun hx16 => ?_
  · refine Kept.foldl_snd (fun x17 b18 hx17 => ?_) ?_
    · split
      split
      rename_i q19
      refine Kept.cut _ (Kept.of_snd q19 ?_) fun hx20 => ?_
      · unfold word13
        split
        rename_i q21
        refine Kept.cut _ (Kept.of_snd q21 ?_) fun hx22 => ?_
        · refine Kept.step (Device.quant_kept ..) ?_
          assumption
        refine Kept.snd_mk ?_
        assumption
      split
      rename_i q23
      refine Kept.cut _ (Kept.of_snd q23 ?_) fun hx24 => ?_
      · unfold word13
        split
        rename_i q25
        refine Kept.cut _ (Kept.of_snd q25 ?_) fun hx26 => ?_
        · refine Kept.step (Device.quant_kept ..) ?_
          assumption
        refine Kept.snd_mk ?_
        assumption
      split
      rename_i q27
      refine Kept.cut _ (Kept.of_snd q27 ?_) fun hx28 => ?_
      · unfold word13
        split
        rename_i q29
        refine Kept.cut _ (Kept.of_snd q29 ?_) fun hx30 => ?_
        · refine Kept.step (Device.quant_kept ..) ?_
          assumption
        refine Kept.snd_mk ?_
        assumption
      refine Kept.snd_mk ?_
      assumption
    · refine Kept.snd_mk ?_
      exact Kept.refl
  split
  rename_i q31
  refine Kept.cut _ (Kept.of_snd q31 ?_) fun hx32 => ?_
  · unfold word13
    split
    rename_i q33
    refine Kept.cut _ (Kept.of_snd q33 ?_) fun hx34 => ?_
    · refine Kept.step (Device.quant_kept ..) ?_
      assumption
    refine Kept.snd_mk ?_
    assumption
  split
  rename_i q35
  refine Kept.cut _ (Kept.of_snd q35 ?_) fun hx36 => ?_
  · unfold word13
    split
    rename_i q37
    refine Kept.cut _ (Kept.of_snd q37 ?_) fun hx38 => ?_
    · refine Kept.step (Device.quant_kept ..) ?_
      assumption
    refine Kept.snd_mk ?_
    assumption
  split
  rename_i q39
  refine Kept.cut _ (Kept.of_snd q39 ?_) fun hx40 => ?_
  · unfold word13
    split
    rename_i q41
    refine Kept.cut _ (Kept.of_snd q41 ?_) fun hx42 => ?_
    · refine Kept.step (Device.quant_kept ..) ?_
      assumption
    refine Kept.snd_mk ?_
    assumption
  extract_lets +onlyGivenNames recs43
  extract_lets +onlyGivenNames d44
  refine Kept.cut d44 ?_ fun hd44 => ?_
  · subst d44
    refine Device.setModu_kept (fun _ h => by simpa [Modu.Shaped, upd, clearBits] using h) ?_
    assumption
  clear_value d44
  extract_lets +onlyGivenNames d45
  refine Kept.cut d45 ?_ fun hd45 => ?_
  · subst d45
    refine Device.setLaw_kept (fun _ h => by simpa [Law.Shaped, upd, clearBits] using h) ?_
    assumption
  clear_value d45
  split
  · extract_lets +onlyGivenNames g46
    extract_lets +onlyGivenNames ph47
    refine Kept.snd_mk ?_
    assumption
  · refine Kept.snd_mk ?_
    assumption
theorem Device.stages4to7_kept (d : Device) (x : Sampled) : Kept d (Device.stages4to7 d x) := by
  unfold Device.stages4to7
  extract_lets +onlyGivenNames p1
  extract_lets +onlyGivenNames T2
  extract_lets +onlyGivenNames st3
  extract_lets +onlyGivenNames w4
  extract_lets +onlyGivenNames two5
  extract_lets +onlyGivenNames k6
  extract_lets +onlyGivenNames pr7
  extract_lets +onlyGivenNames turn8
  extract_lets +onlyGivenNames r9
  extract_lets +onlyGivenNames ip10
  extract_lets +onlyGivenNames vp11
  extract_lets +onlyGivenNames inp12
  extract_lets +onlyGivenNames vnp13
  split
  extract_lets +onlyGivenNames rv14
  extract_lets +onlyGivenNames xv15
  extract_lets +onlyGivenNames E16
  extract_lets +onlyGivenNames vRef17
  extract_lets +onlyGivenNames ev18
  split
  rename_i q19
  refine Kept.cut _ (Kept.of_snd q19 ?_) fun hx20 => ?_
  · refine Kept.step (Device.resonant_kept ..) ?_
    exact Kept.refl
  extract_lets +onlyGivenNames ref21
  extract_lets +onlyGivenNames neg22
  extract_lets +onlyGivenNames lim23
  extract_lets +onlyGivenNames mV24
  split
  extract_lets +onlyGivenNames recv25
  extract_lets +onlyGivenNames d26
  refine Kept.cut d26 ?_ fun hd26 => ?_
  · subst d26
    refine Device.setRide_kept ?_
    assumption
  clear_value d26
  extract_lets +onlyGivenNames kp27
  extract_lets +onlyGivenNames wl28
  extract_lets +onlyGivenNames iz29
  extract_lets +onlyGivenNames iPos30
  extract_lets +onlyGivenNames vPos31
  extract_lets +onlyGivenNames ei32
  extract_lets +onlyGivenNames u33
  extract_lets +onlyGivenNames en34
  extract_lets +onlyGivenNames un35
  split
  rename_i q36
  refine Kept.cut _ (Kept.of_snd q36 ?_) fun hx37 => ?_
  · refine Kept.step (Device.stage7_kept ..) ?_
    assumption
  extract_lets +onlyGivenNames a138
  extract_lets +onlyGivenNames sat39
  extract_lets +onlyGivenNames ki40
  extract_lets +onlyGivenNames m41
  split
  split
  extract_lets +onlyGivenNames d42
  refine Kept.cut d42 ?_ fun hd42 => ?_
  · subst d42
    refine Device.setLaw_kept (fun _ h => by simpa [Law.Shaped, upd, clearBits] using h) ?_
    assumption
  clear_value d42
  refine Kept.step (Device.clampNote_kept ..) ?_
  refine Kept.step (Device.clampNote_kept ..) ?_
  refine Kept.step (Device.clampNote_kept ..) ?_
  refine Kept.step (Device.clampNote_kept ..) ?_
  assumption
theorem Device.rideEntry_kept (d : Device) (cond : Nat) : Kept d (Device.rideEntry d cond) := by
  unfold Device.rideEntry
  extract_lets +onlyGivenNames r1
  extract_lets +onlyGivenNames old2
  extract_lets +onlyGivenNames pre3
  extract_lets +onlyGivenNames d4
  refine Kept.cut d4 ?_ fun hd4 => ?_
  · subst d4
    refine Device.setRide_kept ?_
    exact Kept.refl
  clear_value d4
  extract_lets +onlyGivenNames d5
  refine Kept.cut d5 ?_ fun hd5 => ?_
  · subst d5
    refine Kept.step (Device.flushMoves_kept ..) ?_
    assumption
  clear_value d5
  split
  rename_i q6
  refine Kept.cut _ (Kept.of_snd q6 ?_) fun hx7 => ?_
  · refine Kept.step (Device.quant_kept ..) ?_
    assumption
  refine Kept.step (Device.maskStart_kept ..) ?_
  refine Kept.step (Device.recEvent_kept ..) ?_
  refine Kept.step (Device.raise_kept ..) ?_
  assumption
theorem Device.phaseJump_kept (d : Device) (jump : Rat) : Kept d (Device.phaseJump d jump) := by
  unfold Device.phaseJump
  extract_lets +onlyGivenNames deg1
  refine Kept.ite ?_ ?_
  · refine Device.setRide_kept ?_
    exact Kept.refl
  · extract_lets +onlyGivenNames ovr2
    extract_lets +onlyGivenNames step3
    split
    rename_i q4
    refine Kept.cut _ (Kept.of_snd q4 ?_) fun hx5 => ?_
    · refine Kept.step (Device.quant_kept ..) ?_
      exact Kept.refl
    split
    rename_i q6
    refine Kept.cut _ (Kept.of_snd q6 ?_) fun hx7 => ?_
    · refine Kept.step (Device.quant_kept ..) ?_
      assumption
    refine Kept.step (Device.raise_kept ..) ?_
    refine Device.setRide_kept ?_
    assumption
theorem Device.rideCheck_kept (d : Device) (jump : Rat) : Kept d (Device.rideCheck d jump) := by
  unfold Device.rideCheck
  refine Kept.ite ?_ ?_
  · refine Device.setRide_kept ?_
    exact Kept.refl
  · extract_lets +onlyGivenNames p1
    extract_lets +onlyGivenNames d2
    refine Kept.cut d2 ?_ fun hd2 => ?_
    · subst d2
      refine Kept.step (Device.phaseJump_kept ..) ?_
      exact Kept.refl
    clear_value d2
    extract_lets +onlyGivenNames r3
    extract_lets +onlyGivenNames apart4
    extract_lets +onlyGivenNames d5
    refine Kept.cut d5 ?_ fun hd5 => ?_
    · subst d5
      refine Device.setRide_kept ?_
      assumption
    clear_value d5
    refine Kept.ite ?_ ?_
    · extract_lets +onlyGivenNames good6
      refine Device.setRide_kept ?_
      assumption
    · refine Kept.ite ?_ ?_
      · refine Kept.step (Device.rideEntry_kept ..) ?_
        assumption
      · refine Kept.ite ?_ ?_
        · refine Kept.step (Device.rideEntry_kept ..) ?_
          assumption
        · refine Kept.ite ?_ ?_
          · refine Kept.step (Device.rideEntry_kept ..) ?_
            assumption
          · refine Kept.ite ?_ ?_
            · refine Kept.step (Device.rideEntry_kept ..) ?_
              assumption
            · assumption
theorem Device.monitor_kept (d : Device) : Kept d (Device.monitor d) := by
  unfold Device.monitor
  extract_lets +onlyGivenNames pcc1
  extract_lets +onlyGivenNames conv2
  extract_lets +onlyGivenNames n3
  extract_lets +onlyGivenNames q4
  extract_lets +onlyGivenNames sq5
  extract_lets +onlyGivenNames qc6
  split
  extract_lets +onlyGivenNames ang7
  extract_lets +onlyGivenNames r8
  extract_lets +onlyGivenNames dth9
  extract_lets +onlyGivenNames df10
  extract_lets +onlyGivenNames d11
  refine Kept.cut d11 ?_ fun hd11 => ?_
  · subst d11
    refine Device.setSeq_kept ?_
    exact Kept.refl
  clear_value d11
  extract_lets +onlyGivenNames b12
  refine Device.setSeq_kept ?_
  assumption
theorem Device.landingCycle_kept (d : Device) : Kept d (Device.landingCycle d) := by
  unfold Device.landingCycle
  refine Kept.ite ?_ ?_
  · exact Kept.refl
  · refine Kept.ite ?_ ?_
    · refine Kept.step (Device.landAbort_kept ..) ?_
      exact Kept.refl
    · refine Kept.ite ?_ ?_
      · refine Kept.step (Device.landAbort_kept ..) ?_
        exact Kept.refl
      · extract_lets +onlyGivenNames ok1
        clear_value ok1
        split
        · refine Device.setSeq_kept ?_
          exact Kept.refl
        · refine Device.setSeq_kept ?_
          exact Kept.refl
        · refine Kept.step (Device.raise_kept ..) ?_
          refine Device.setSeq_kept ?_
          refine Kept.step (Device.withdrawClose_kept ..) ?_
          exact Kept.refl
        · exact Kept.refl
theorem Device.emfEnds_kept (d : Device) : Kept d (Device.emfEnds d) := by
  unfold Device.emfEnds
  extract_lets +onlyGivenNames E1
  refine Kept.ite ?_ ?_
  · refine Device.setConv_kept ?_
    exact Kept.refl
  · refine Kept.ite ?_ ?_
    · refine Device.setConv_kept ?_
      exact Kept.refl
    · refine Kept.ite ?_ ?_
      · refine Device.setConv_kept ?_
        exact Kept.refl
      · refine Kept.ite ?_ ?_
        · refine Device.setConv_kept ?_
          exact Kept.refl
        · refine Kept.ite ?_ ?_
          · refine Device.setConv_kept ?_
            exact Kept.refl
          · exact Kept.refl
theorem Device.lawEntry_kept (d : Device) : Kept d (Device.lawEntry d) := by
  unfold Device.lawEntry
  extract_lets +onlyGivenNames th1
  extract_lets +onlyGivenNames st2
  extract_lets +onlyGivenNames v3
  extract_lets +onlyGivenNames i4
  extract_lets +onlyGivenNames u5
  extract_lets +onlyGivenNames w6
  extract_lets +onlyGivenNames two7
  extract_lets +onlyGivenNames vn8
  extract_lets +onlyGivenNames st'9
  extract_lets +onlyGivenNames d10
  refine Kept.cut d10 ?_ fun hd10 => ?_
  · subst d10
    refine Device.setLaw_kept (fun _ h => by simpa [Law.Shaped, upd, clearBits] using h) ?_
    exact Kept.refl
  clear_value d10
  refine Device.setRide_kept ?_
  assumption
theorem Device.lawStop_kept (d : Device) : Kept d (Device.lawStop d) := by
  unfold Device.lawStop
  extract_lets +onlyGivenNames d1
  refine Kept.cut d1 ?_ fun hd1 => ?_
  · subst d1
    refine Device.setLaw_kept (fun _ h => by simpa [Law.Shaped, upd, clearBits] using h) ?_
    exact Kept.refl
  clear_value d1
  extract_lets +onlyGivenNames d2
  refine Kept.cut d2 ?_ fun hd2 => ?_
  · subst d2
    refine Device.setRide_kept ?_
    assumption
  clear_value d2
  refine Kept.step (Device.dropMoves_kept ..) ?_
  refine Device.setModu_kept (fun _ h => by simpa [Modu.Shaped, upd, clearBits] using h) ?_
  assumption
theorem Device.idleReference_kept (d : Device) : Kept d (Device.idleReference d) := by
  unfold Device.idleReference
  extract_lets +onlyGivenNames d1
  refine Kept.cut d1 ?_ fun hd1 => ?_
  · subst d1
    refine Device.setModu_kept (fun _ h => by simpa [Modu.Shaped, upd, clearBits] using h) ?_
    exact Kept.refl
  clear_value d1
  refine Kept.ite ?_ ?_
  · assumption
  · extract_lets +onlyGivenNames u2
    refine Kept.step (Device.stage7_kept ..) ?_
    assumption
theorem Device.overThreshold_kept (d : Device) (src : Nat) (stream : Nat) (limit : Rat) (from_ : Option Tick) : Kept d (Device.overThreshold d src stream limit from_).2 := by
  unfold Device.overThreshold
  extract_lets +onlyGivenNames s1
  extract_lets +onlyGivenNames above2
  split
  · refine Kept.snd_mk ?_
    exact Kept.refl
  · refine Kept.snd_mk ?_
    refine Kept.step (Device.inputInactive_kept ..) ?_
    exact Kept.refl
theorem Device.earthStar_kept (d : Device) : Kept d (Device.earthStar d) := by
  unfold Device.earthStar
  split
  rename_i q1
  refine Kept.cut _ (Kept.of_snd q1 ?_) fun hx2 => ?_
  · refine Kept.step (Device.overThreshold_kept ..) ?_
    exact Kept.refl
  split
  rename_i q3
  refine Kept.cut _ (Kept.of_snd q3 ?_) fun hx4 => ?_
  · refine Kept.step (Device.overThreshold_kept ..) ?_
    assumption
  refine Device.setProt_kept (fun _ h => by simpa [Prot.Shaped, upd, clearBits] using h) ?_
  assumption
theorem Device.meterSamples_kept (d : Device) : Kept d (Device.meterSamples d) := by
  unfold Device.meterSamples
  extract_lets +onlyGivenNames m1
  extract_lets +onlyGivenNames one2
  extract_lets +onlyGivenNames l3
  refine Device.setPacks_kept (fun _ h => by simpa [Packs.Shaped, upd, clearBits] using h) ?_
  exact Kept.refl
theorem Device.lawCycle_kept (d : Device) : Kept d (Device.lawCycle d) := by
  unfold Device.lawCycle
  extract_lets +onlyGivenNames d1
  refine Kept.cut d1 ?_ fun hd1 => ?_
  · subst d1
    refine Device.setLaw_kept (fun _ h => by simpa [Law.Shaped, upd, clearBits] using h) ?_
    exact Kept.refl
  clear_value d1
  extract_lets +onlyGivenNames d2
  refine Kept.cut d2 ?_ fun hd2 => ?_
  · subst d2
    refine Kept.step (Device.earthStar_kept ..) ?_
    assumption
  clear_value d2
  split
  rename_i q3
  refine Kept.cut _ (Kept.of_third q3 ?_) fun hx4 => ?_
  · refine Kept.step (Device.plausibility_kept ..) ?_
    assumption
  extract_lets +onlyGivenNames d5
  refine Kept.cut d5 ?_ fun hd5 => ?_
  · subst d5
    refine Device.setLaw_kept (fun _ h => by simpa [Law.Shaped, upd, clearBits] using h) ?_
    assumption
  clear_value d5
  extract_lets +onlyGivenNames d6
  refine Kept.cut d6 ?_ fun hd6 => ?_
  · subst d6
    refine Kept.step (Device.meterSamples_kept ..) ?_
    refine Kept.step (Device.sensorless_kept ..) ?_
    assumption
  clear_value d6
  split
  rename_i q7
  refine Kept.cut _ (Kept.of_third q7 ?_) fun hx8 => ?_
  · refine Kept.step (Device.sequences_kept ..) ?_
    assumption
  extract_lets +onlyGivenNames d9
  refine Kept.cut d9 ?_ fun hd9 => ?_
  · subst d9
    refine Kept.step (Device.monitor_kept ..) ?_
    refine Device.setLaw_kept (fun _ h => by simpa [Law.Shaped, upd, clearBits] using h) ?_
    assumption
  clear_value d9
  extract_lets +onlyGivenNames step10
  extract_lets +onlyGivenNames d11
  refine Kept.cut d11 ?_ fun hd11 => ?_
  · subst d11
    refine Device.setRide_kept ?_
    refine Kept.step (Device.landingCycle_kept ..) ?_
    assumption
  clear_value d11
  extract_lets +onlyGivenNames d12
  refine Kept.cut d12 ?_ fun hd12 => ?_
  · subst d12
    refine Kept.step (Device.rampImpedance_kept ..) ?_
    refine Kept.step (Device.setpStep_kept ..) ?_
    refine Kept.step (Device.setpStep_kept ..) ?_
    refine Kept.step (Device.rideCheck_kept ..) ?_
    assumption
  clear_value d12
  extract_lets +onlyGivenNames th13
  split
  extract_lets +onlyGivenNames x14
  extract_lets +onlyGivenNames d15
  refine Kept.cut d15 ?_ fun hd15 => ?_
  · subst d15
    refine Kept.step (Device.stage2_kept ..) ?_
    assumption
  clear_value d15
  extract_lets +onlyGivenNames d16
  refine Kept.cut d16 ?_ fun hd16 => ?_
  · subst d16
    refine Kept.ite ?_ ?_
    · refine Kept.step (Device.stages4to7_kept ..) ?_
      refine Kept.step (Device.stage3_kept ..) ?_
      assumption
    · refine Kept.step (Device.idleReference_kept ..) ?_
      assumption
  clear_value d16
  refine Kept.step (Device.emfEnds_kept ..) ?_
  assumption
theorem Device.sendCheckpoint_kept (d : Device) : Kept d (Device.sendCheckpoint d) := by
  unfold Device.sendCheckpoint
  refine Kept.foldl (fun x1 b2 hx1 => ?_) ?_
  · refine Kept.step (Device.activeSend_kept ..) ?_
    assumption
  · exact Kept.refl
theorem execSetpRecovered_kept (t : Tick) (target : Fin 2) (s s' : State) (h : execSetpRecovered t target s = .next s') : Kept s.dev s'.dev := by
  refine State.on_kept h fun d => ?_
  extract_lets +onlyGivenNames x1
  refine Kept.ite ?_ ?_
  · extract_lets +onlyGivenNames x'2
    refine Kept.step (Device.raise_kept ..) ?_
    refine Device.setLaw_kept (fun _ h => by simpa [Law.Shaped, upd, clearBits] using h) ?_
    exact Kept.refl
  · exact Kept.refl
theorem execRtSyncLost_kept (t : Tick) (s s' : State) (h : execRtSyncLost t s = .next s') : Kept s.dev s'.dev := by
  refine State.on_kept h fun d => ?_
  refine Kept.ite ?_ ?_
  · refine Kept.step (Device.controlTrip_kept ..) ?_
    refine Kept.step (Device.raise_kept ..) ?_
    refine Device.setRide_kept ?_
    exact Kept.refl
  · exact Kept.refl
theorem execRideExit_kept (t : Tick) (s s' : State) (h : execRideExit t s = .next s') : Kept s.dev s'.dev := by
  refine State.on_kept h fun d => ?_
  refine Kept.ite ?_ ?_
  · refine Kept.step (Device.raise_kept ..) ?_
    refine Device.setRide_kept ?_
    exact Kept.refl
  · exact Kept.refl
theorem execRideTimeout_kept (t : Tick) (s s' : State) (h : execRideTimeout t s = .next s') : Kept s.dev s'.dev := by
  refine State.on_kept h fun d => ?_
  refine Kept.ite ?_ ?_
  · refine Kept.step (Device.controlTrip_kept ..) ?_
    refine Kept.step (Device.raise_kept ..) ?_
    exact Kept.refl
  · exact Kept.refl
theorem execRecoveryEnd_kept (t : Tick) (s s' : State) (h : execRecoveryEnd t s = .next s') : Kept s.dev s'.dev := by
  refine State.on_kept h fun d => ?_
  refine Kept.ite ?_ ?_
  · refine Device.setRide_kept ?_
    exact Kept.refl
  · exact Kept.refl
theorem execFeedbackSensorFault_kept (t : Tick) (s s' : State) (h : execFeedbackSensorFault t s = .next s') : Kept s.dev s'.dev := by
  refine State.on_kept h fun d => ?_
  extract_lets +onlyGivenNames d1
  refine Kept.cut d1 ?_ fun hd1 => ?_
  · subst d1
    refine Kept.foldl (fun x2 b3 hx2 => ?_) ?_
    · refine Kept.step (Device.raise_kept ..) ?_
      refine Device.setLaw_kept (fun _ h => by simpa [Law.Shaped, upd, clearBits] using h) ?_
      assumption
    · exact Kept.refl
  clear_value d1
  extract_lets +onlyGivenNames dev4
  refine Kept.ite ?_ ?_
  · refine Kept.step (Device.raise_kept ..) ?_
    refine Device.setLaw_kept (fun _ h => by simpa [Law.Shaped, upd, clearBits] using h) ?_
    assumption
  · assumption
theorem execSensorReadmission_kept (t : Tick) (sensor : Fin 12) (s s' : State) (h : execSensorReadmission t sensor s = .next s') : Kept s.dev s'.dev := by
  refine State.on_kept h fun d => ?_
  extract_lets +onlyGivenNames x1
  refine Kept.ite ?_ ?_
  · refine Device.setLaw_kept (fun _ h => by simpa [Law.Shaped, upd, clearBits] using h) ?_
    exact Kept.refl
  · exact Kept.refl
theorem execSensorlessExit_kept (t : Tick) (s s' : State) (h : execSensorlessExit t s = .next s') : Kept s.dev s'.dev := by
  refine State.on_kept h fun d => ?_
  refine Kept.ite ?_ ?_
  · refine Kept.step (Device.raise_kept ..) ?_
    refine Device.setLaw_kept (fun _ h => by simpa [Law.Shaped, upd, clearBits] using h) ?_
    exact Kept.refl
  · exact Kept.refl
theorem execSensorlessTrip_kept (t : Tick) (s s' : State) (h : execSensorlessTrip t s = .next s') : Kept s.dev s'.dev := by
  refine State.on_kept h fun d => ?_
  refine Kept.ite ?_ ?_
  · refine Kept.step (Device.controlTrip_kept ..) ?_
    refine Kept.step (Device.raise_kept ..) ?_
    exact Kept.refl
  · exact Kept.refl
theorem execRafterLawEvaluation_kept (t : Tick) (clocks : Nat) (fail : Fin 3) (s s' : State) (h : execRafterLawEvaluation t clocks fail s = .next s') : Kept s.dev s'.dev := by
  refine State.on_kept h fun d => ?_
  refine Kept.ite ?_ ?_
  · exact Kept.refl
  · extract_lets +onlyGivenNames d1
    refine Kept.cut d1 ?_ fun hd1 => ?_
    · subst d1
      refine Device.setLaw_kept (fun _ h => by simpa [Law.Shaped, upd, clearBits] using h) ?_
      exact Kept.refl
    clear_value d1
    split
    · refine Kept.step (Device.sendCheckpoint_kept ..) ?_
      refine Kept.step (Device.stamp_kept ..) ?_
      refine Device.setLaw_kept (fun _ h => by simpa [Law.Shaped, upd, clearBits] using h) ?_
      refine Kept.step (Device.lawCycle_kept ..) ?_
      assumption
    · refine Kept.step (Device.errReport_kept ..) ?_
      refine Kept.step (Device.meterSamples_kept ..) ?_
      assumption
    · refine Kept.step (Device.errReport_kept ..) ?_
      refine Kept.step (Device.meterSamples_kept ..) ?_
      assumption

/-! ## Breakers -/

theorem Device.q24_kept (d : Device) (x : Rat) : Kept d (Device.q24 d x).2 := by
  unfold Device.q24
  refine Kept.step (Device.quant_kept ..) ?_
  exact Kept.refl
theorem Device.landClosed_kept (d : Device) : Kept d (Device.landClosed d) := by
  unfold Device.landClosed
  extract_lets +onlyGivenNames q1
  extract_lets +onlyGivenNames late2
  split
  rename_i q3
  refine Kept.cut _ (Kept.of_snd q3 ?_) fun hx4 => ?_
  · refine Kept.step (Device.quant_kept ..) ?_
    exact Kept.refl
  split
  rename_i q5
  refine Kept.cut _ (Kept.of_snd q5 ?_) fun hx6 => ?_
  · refine Kept.step (Device.quant_kept ..) ?_
    assumption
  split
  rename_i q7
  refine Kept.cut _ (Kept.of_snd q7 ?_) fun hx8 => ?_
  · refine Kept.step (Device.quant_kept ..) ?_
    assumption
  extract_lets +onlyGivenNames d9
  refine Kept.cut d9 ?_ fun hd9 => ?_
  · subst d9
    refine Device.setTraj_kept ?_
    assumption
  clear_value d9
  extract_lets +onlyGivenNames no10
  extract_lets +onlyGivenNames d11
  refine Kept.cut d11 ?_ fun hd11 => ?_
  · subst d11
    refine Device.setConv_kept ?_
    assumption
  clear_value d11
  extract_lets +onlyGivenNames d12
  refine Kept.cut d12 ?_ fun hd12 => ?_
  · subst d12
    refine Device.setSeq_kept ?_
    assumption
  clear_value d12
  refine Kept.step (Device.raise_kept ..) ?_
  assumption
theorem Device.mbOpened_kept (d : Device) : Kept d (Device.mbOpened d) := by
  unfold Device.mbOpened
  refine Kept.ite ?_ ?_
  · exact Kept.refl
  · extract_lets +onlyGivenNames d1
    refine Kept.cut d1 ?_ fun hd1 => ?_
    · subst d1
      refine Kept.step (Device.raise_kept ..) ?_
      exact Kept.refl
    clear_value d1
    extract_lets +onlyGivenNames zero2
    extract_lets +onlyGivenNames d3
    refine Kept.cut d3 ?_ fun hd3 => ?_
    · subst d3
      refine Device.setLaw_kept (fun _ h => by simpa [Law.Shaped, upd, clearBits] using h) ?_
      assumption
    clear_value d3
    extract_lets +onlyGivenNames d4
    refine Kept.cut d4 ?_ fun hd4 => ?_
    · subst d4
      refine Device.setSeq_kept ?_
      assumption
    clear_value d4
    extract_lets +onlyGivenNames d5
    refine Kept.cut d5 ?_ fun hd5 => ?_
    · subst d5
      refine Device.setTraj_kept ?_
      assumption
    clear_value d5
    refine Device.setConv_kept ?_
    assumption
theorem Device.brkMoved_kept (d : Device) (b : Nat) (pos : Nat) : Kept d (Device.brkMoved d b pos) := by
  unfold Device.brkMoved
  extract_lets +onlyGivenNames d1
  extract_lets +onlyGivenNames d2
  refine Kept.cut d2 ?_ fun hd2 => ?_
  · subst d2
    refine Kept.ite ?_ ?_
    · refine Kept.step (Device.setBrk_kept ..) ?_
      exact Kept.refl
    · exact Kept.refl
  clear_value d2
  extract_lets +onlyGivenNames ph3
  extract_lets +onlyGivenNames abort4
  refine Kept.ite ?_ ?_
  · refine Kept.step (Device.landClosed_kept ..) ?_
    assumption
  · refine Kept.ite ?_ ?_
    · refine Kept.step (Device.landAbort_kept ..) ?_
      assumption
    · refine Kept.ite ?_ ?_
      · refine Device.setConv_kept ?_
        assumption
      · refine Kept.ite ?_ ?_
        · refine Kept.step (Device.mbOpened_kept ..) ?_
          assumption
        · assumption
theorem Device.brkSettle_kept (d : Device) (b : Nat) : Kept d (Device.brkSettle d b) := by
  unfold Device.brkSettle
  extract_lets +onlyGivenNames x1
  extract_lets +onlyGivenNames travel2
  extract_lets +onlyGivenNames d3
  refine Kept.cut d3 ?_ fun hd3 => ?_
  · subst d3
    refine Kept.step (Device.setBrk_kept ..) ?_
    exact Kept.refl
  clear_value d3
  extract_lets +onlyGivenNames pos4
  refine Kept.ite ?_ ?_
  · assumption
  · extract_lets +onlyGivenNames d5
    refine Kept.cut d5 ?_ fun hd5 => ?_
    · subst d5
      refine Kept.step (Device.setBrk_kept ..) ?_
      assumption
    clear_value d5
    refine Kept.step (Device.brkMoved_kept ..) ?_
    refine Kept.step (Device.raise_kept ..) ?_
    assumption
theorem Device.closeBoundary_kept (d : Device) : Kept d (Device.closeBoundary d) := by
  unfold Device.closeBoundary
  extract_lets +onlyGivenNames off1
  extract_lets +onlyGivenNames step2
  refine Kept.set_grid (fun h => by simpa [upd] using h) ?_
  exact Kept.refl
theorem Device.seqPhase_kept (d : Device) (ph : Nat) : Kept d (Device.seqPhase d ph) := by
  unfold Device.seqPhase
  refine Device.setSeq_kept ?_
  exact Kept.refl
theorem Device.bsBegin_kept (d : Device) : Kept d (Device.bsBegin d) := by
  unfold Device.bsBegin
  refine Kept.step (Device.seqPhase_kept ..) ?_
  refine Device.setSeq_kept ?_
  exact Kept.refl
theorem Device.lateLive_kept (d : Device) : Kept d (Device.lateLive d) := by
  unfold Device.lateLive
  refine Kept.step (Device.raise_kept ..) ?_
  refine Device.setSeq_kept ?_
  refine Kept.step (Device.snapToGrid_kept ..) ?_
  exact Kept.refl
theorem Device.landEntry_kept (d : Device) : Kept d (Device.landEntry d) := by
  unfold Device.landEntry
  extract_lets +onlyGivenNames d1
  refine Kept.cut d1 ?_ fun hd1 => ?_
  · subst d1
    refine Kept.step (Device.lawEntry_kept ..) ?_
    refine Kept.step (Device.snapToGrid_kept ..) ?_
    refine Kept.step (Device.applyWaiting_kept ..) ?_
    exact Kept.refl
  clear_value d1
  extract_lets +onlyGivenNames zero2
  extract_lets +onlyGivenNames d3
  refine Kept.cut d3 ?_ fun hd3 => ?_
  · subst d3
    refine Device.setLaw_kept (fun _ h => by simpa [Law.Shaped, upd, clearBits] using h) ?_
    assumption
  clear_value d3
  extract_lets +onlyGivenNames d4
  refine Kept.cut d4 ?_ fun hd4 => ?_
  · subst d4
    refine Device.setSeq_kept ?_
    assumption
  clear_value d4
  extract_lets +onlyGivenNames ramp5
  refine Kept.step (Device.raise_kept ..) ?_
  refine Kept.step (Device.startMove_kept ..) ?_
  assumption
theorem execBreakerContactChange_kept (t : Tick) (b : Fin 2) (c : Fin 2) (level : Bool × Nat) (s s' : State) (h : execBreakerContactChange t b c level s = .next s') : Kept s.dev s'.dev := by
  refine State.on_kept h fun d => ?_
  extract_lets +onlyGivenNames x1
  refine Kept.ite ?_ ?_
  · exact Kept.refl
  · extract_lets +onlyGivenNames n2
    extract_lets +onlyGivenNames trans3
    extract_lets +onlyGivenNames d4
    refine Kept.cut d4 ?_ fun hd4 => ?_
    · subst d4
      refine Kept.step (Device.setBrk_kept ..) ?_
      exact Kept.refl
    clear_value d4
    refine Kept.ite ?_ ?_
    · assumption
    · extract_lets +onlyGivenNames d5
      refine Kept.cut d5 ?_ fun hd5 => ?_
      · subst d5
        refine Device.setProt_kept (fun _ h => by simpa [Prot.Shaped, upd, clearBits] using h) ?_
        assumption
      clear_value d5
      refine Kept.ite ?_ ?_
      · assumption
      · refine Kept.step (Device.brkSettle_kept ..) ?_
        refine Kept.step (Device.raise_kept ..) ?_
        refine Kept.step (Device.setBrk_kept ..) ?_
        assumption
theorem execBreakerDebounceDone_kept (t : Tick) (b : Fin 2) (c : Fin 2) (s s' : State) (h : execBreakerDebounceDone t b c s = .next s') : Kept s.dev s'.dev := by
  refine State.on_kept h fun d => ?_
  extract_lets +onlyGivenNames x1
  refine Kept.ite ?_ ?_
  · exact Kept.refl
  · refine Kept.step (Device.brkSettle_kept ..) ?_
    refine Kept.step (Device.setBrk_kept ..) ?_
    exact Kept.refl
theorem execBreakerDiscrepancy_kept (t : Tick) (b : Fin 2) (s s' : State) (h : execBreakerDiscrepancy t b s = .next s') : Kept s.dev s'.dev := by
  refine State.on_kept h fun d => ?_
  extract_lets +onlyGivenNames x1
  split
  · exact Kept.refl
  · refine Kept.ite ?_ ?_
    · exact Kept.refl
    · refine Kept.step (Device.brkSettle_kept ..) ?_
      refine Kept.step (Device.raise_kept ..) ?_
      refine Kept.step (Device.setBrk_kept ..) ?_
      exact Kept.refl
theorem execClosePulseExpiry_kept (t : Tick) (b : Fin 2) (s s' : State) (h : execClosePulseExpiry t b s = .next s') : Kept s.dev s'.dev := by
  refine State.on_kept h fun d => ?_
  extract_lets +onlyGivenNames x1
  refine Kept.ite ?_ ?_
  · refine Kept.step (Device.setBrk_kept ..) ?_
    exact Kept.refl
  · exact Kept.refl
theorem execCloseMaxExpiry_kept (t : Tick) (b : Fin 2) (s s' : State) (h : execCloseMaxExpiry t b s = .next s') : Kept s.dev s'.dev := by
  refine State.on_kept h fun d => ?_
  extract_lets +onlyGivenNames x1
  refine Kept.ite ?_ ?_
  · exact Kept.refl
  · refine Kept.step (Device.landAbort_kept ..) ?_
    refine Kept.step (Device.raise_kept ..) ?_
    refine Kept.step (Device.setBrk_kept ..) ?_
    exact Kept.refl
theorem execBsDeadConfirmed_kept (t : Tick) (s s' : State) (h : execBsDeadConfirmed t s = .next s') : Kept s.dev s'.dev := by
  refine State.on_kept h fun d => ?_
  extract_lets +onlyGivenNames q1
  refine Kept.ite ?_ ?_
  · exact Kept.refl
  · refine Kept.ite ?_ ?_
    · extract_lets +onlyGivenNames h2
      split
      rename_i q3
      refine Kept.cut _ (Kept.of_snd q3 ?_) fun hx4 => ?_
      · refine Kept.step (Device.quant_kept ..) ?_
        exact Kept.refl
      refine Kept.step (Device.raise_kept ..) ?_
      refine Kept.step (Device.seqPhase_kept ..) ?_
      refine Device.setSeq_kept ?_
      assumption
    · refine Kept.ite ?_ ?_
      · refine Kept.step (Device.seqPhase_kept ..) ?_
        refine Device.setSeq_kept ?_
        exact Kept.refl
      · exact Kept.refl
theorem execBsHoldoffEnd_kept (t : Tick) (s s' : State) (h : execBsHoldoffEnd t s = .next s') : Kept s.dev s'.dev := by
  refine State.on_kept h fun d => ?_
  extract_lets +onlyGivenNames q1
  refine Kept.ite ?_ ?_
  · exact Kept.refl
  · refine Kept.ite ?_ ?_
    · refine Kept.step (Device.seqPhase_kept ..) ?_
      refine Kept.step (Device.closeCommand_kept ..) ?_
      exact Kept.refl
    · refine Kept.step (Device.seqPhase_kept ..) ?_
      exact Kept.refl
theorem execBsBusBandChange_kept (t : Tick) (s s' : State) (h : execBsBusBandChange t s = .next s') : Kept s.dev s'.dev := by
  refine State.on_kept h fun d => ?_
  extract_lets +onlyGivenNames band1
  extract_lets +onlyGivenNames d2
  refine Kept.cut d2 ?_ fun hd2 => ?_
  · subst d2
    refine Device.setSeq_kept ?_
    exact Kept.refl
  clear_value d2
  extract_lets +onlyGivenNames q3
  refine Kept.ite ?_ ?_
  · refine Kept.step (Device.seqPhase_kept ..) ?_
    assumption
  · refine Kept.ite ?_ ?_
    · refine Kept.step (Device.lateLive_kept ..) ?_
      assumption
    · assumption
theorem execBsLiveConfirmed_kept (t : Tick) (s s' : State) (h : execBsLiveConfirmed t s = .next s') : Kept s.dev s'.dev := by
  refine State.on_kept h fun d => ?_
  extract_lets +onlyGivenNames q1
  refine Kept.ite ?_ ?_
  · refine Device.setConv_kept ?_
    exact Kept.refl
  · exact Kept.refl
theorem execBsConfirmTimeout_kept (t : Tick) (s s' : State) (h : execBsConfirmTimeout t s = .next s') : Kept s.dev s'.dev := by
  refine State.on_kept h fun d => ?_
  extract_lets +onlyGivenNames q1
  refine Kept.ite ?_ ?_
  · refine Kept.step (Device.endSequence_kept ..) ?_
    exact Kept.refl
  · exact Kept.refl
theorem execBsEnergiseTimeout_kept (t : Tick) (s s' : State) (h : execBsEnergiseTimeout t s = .next s') : Kept s.dev s'.dev := by
  refine State.on_kept h fun d => ?_
  extract_lets +onlyGivenNames q1
  refine Kept.ite ?_ ?_
  · refine Kept.step (Device.controlTrip_kept ..) ?_
    refine Kept.step (Device.endSequence_kept ..) ?_
    exact Kept.refl
  · exact Kept.refl
theorem execLandTrimStep_kept (t : Tick) (s s' : State) (h : execLandTrimStep t s = .next s') : Kept s.dev s'.dev := by
  refine State.on_kept h fun d => ?_
  extract_lets +onlyGivenNames q1
  refine Kept.ite ?_ ?_
  · exact Kept.refl
  · extract_lets +onlyGivenNames inside2
    extract_lets +onlyGivenNames d3
    refine Kept.cut d3 ?_ fun hd3 => ?_
    · subst d3
      refine Kept.ite ?_ ?_
      · exact Kept.refl
      · refine Kept.step (Device.applyWaiting_kept ..) ?_
        exact Kept.refl
    clear_value d3
    extract_lets +onlyGivenNames n4
    extract_lets +onlyGivenNames d5
    refine Kept.cut d5 ?_ fun hd5 => ?_
    · subst d5
      refine Device.setSeq_kept ?_
      assumption
    clear_value d5
    refine Kept.ite ?_ ?_
    · assumption
    · extract_lets +onlyGivenNames move6
      extract_lets +onlyGivenNames v7
      extract_lets +onlyGivenNames mv8
      refine Device.setTraj_kept ?_
      assumption
theorem execLandDwellComplete_kept (t : Tick) (s s' : State) (h : execLandDwellComplete t s = .next s') : Kept s.dev s'.dev := by
  refine State.on_kept h fun d => ?_
  refine Kept.ite ?_ ?_
  · refine Kept.step (Device.seqPhase_kept ..) ?_
    refine Kept.step (Device.closeCommand_kept ..) ?_
    exact Kept.refl
  · exact Kept.refl
theorem execLandTimeout_kept (t : Tick) (s s' : State) (h : execLandTimeout t s = .next s') : Kept s.dev s'.dev := by
  refine State.on_kept h fun d => ?_
  extract_lets +onlyGivenNames q1
  refine Kept.ite ?_ ?_
  · refine Kept.step (Device.landAbort_kept ..) ?_
    exact Kept.refl
  · exact Kept.refl
theorem execLandAbortHoldEnd_kept (t : Tick) (s s' : State) (h : execLandAbortHoldEnd t s = .next s') : Kept s.dev s'.dev := by
  refine State.on_kept h fun d => ?_
  extract_lets +onlyGivenNames q1
  refine Kept.ite ?_ ?_
  · refine Device.setSeq_kept ?_
    exact Kept.refl
  · exact Kept.refl

end Sys2Proof.Machine
end

