-- ==== Sys2Proof/Laws/KeptModulation.lean ====
section
/-! SUPPORT. Every operation, and then every command, leaves the device the counts the spec gives it (`Kept`): gate records, schedules, the recorder, converter states, protection. -/

namespace Sys2Proof.Machine

/-! ## Gate -/

theorem Device.setNode_kept (d : Device) (c : Nat) (f : NodeView → NodeView) : Kept d (Device.setNode d c f) := by
  unfold Device.setNode
  refine Device.setLink_kept (fun _ h => by simpa [Link.Shaped, upd, clearBits] using h) ?_
  exact Kept.refl
theorem Device.setCell_kept (d : Device) (c : Nat) (f : ModCell → ModCell) : Kept d (Device.setCell d c f) := by
  unfold Device.setCell
  refine Device.setModu_kept (fun _ h => by simpa [Modu.Shaped, upd, clearBits] using h) ?_
  exact Kept.refl
theorem Device.setArm_kept (d : Device) (a : Nat) (f : ModArm → ModArm) : Kept d (Device.setArm d a f) := by
  unfold Device.setArm
  refine Device.setModu_kept (fun _ h => by simpa [Modu.Shaped, upd, clearBits] using h) ?_
  exact Kept.refl
theorem Device.setGate_kept (d : Device) (c : Nat) (off : Bool) (f : Gate → Gate) : Kept d (Device.setGate d c off f) := by
  unfold Device.setGate
  refine Device.setProt_kept (fun _ h => by simpa [Prot.Shaped, upd, clearBits] using h) ?_
  exact Kept.refl
theorem Device.gateTake_kept (d : Device) (c : Nat) (off : Bool) (tsw : Nat) : Kept d (Device.gateTake d c off tsw) := by
  unfold Device.gateTake
  extract_lets +onlyGivenNames p1
  extract_lets +onlyGivenNames g2
  extract_lets +onlyGivenNames err3
  extract_lets +onlyGivenNames db4
  extract_lets +onlyGivenNames code5
  extract_lets +onlyGivenNames atEnd6
  extract_lets +onlyGivenNames run7
  extract_lets +onlyGivenNames sat8
  extract_lets +onlyGivenNames mean9
  extract_lets +onlyGivenNames first10
  extract_lets +onlyGivenNames g'11
  extract_lets +onlyGivenNames age12
  extract_lets +onlyGivenNames d13
  refine Kept.cut d13 ?_ fun hd13 => ?_
  · subst d13
    refine Kept.step (Device.setGate_kept ..) ?_
    exact Kept.refl
  clear_value d13
  extract_lets +onlyGivenNames d14
  refine Kept.cut d14 ?_ fun hd14 => ?_
  · subst d14
    refine Kept.ite ?_ ?_
    · refine Kept.step (Device.raise_kept ..) ?_
      assumption
    · assumption
  clear_value d14
  refine Kept.ite ?_ ?_
  · refine Kept.step (Device.raise_kept ..) ?_
    assumption
  · assumption
theorem Device.gateCell_kept (d : Device) (arm : Nat) (c : Nat) : Kept d (Device.gateCell d arm c) := by
  unfold Device.gateCell
  extract_lets +onlyGivenNames nv1
  split
  · exact Kept.refl
  · refine Kept.ite ?_ ?_
    · exact Kept.refl
    · extract_lets +onlyGivenNames edge2
      extract_lets +onlyGivenNames i3
      extract_lets +onlyGivenNames ok4
      refine Kept.ite ?_ ?_
      · exact Kept.refl
      · extract_lets +onlyGivenNames d5
        refine Kept.cut d5 ?_ fun hd5 => ?_
        · subst d5
          refine Kept.ite ?_ ?_
          · refine Kept.step (Device.gateTake_kept ..) ?_
            exact Kept.refl
          · exact Kept.refl
        clear_value d5
        refine Kept.ite ?_ ?_
        · refine Kept.step (Device.gateTake_kept ..) ?_
          assumption
        · assumption
theorem Device.gateLoop_kept (d : Device) (arm : Nat) (cells : List Nat) : Kept d (Device.gateLoop d arm cells) := by
  unfold Device.gateLoop
  refine Kept.ite ?_ ?_
  · extract_lets +onlyGivenNames init1
    extract_lets +onlyGivenNames put2
    refine Kept.foldl (fun x3 b4 hx3 => ?_) ?_
    · refine Kept.step (Device.setGate_kept ..) ?_
      refine Kept.step (Device.setGate_kept ..) ?_
      assumption
    · exact Kept.refl
  · refine Kept.ite ?_ ?_
    · exact Kept.refl
    · refine Kept.foldl (fun x5 b6 hx5 => ?_) ?_
      · refine Kept.step (Device.gateCell_kept ..) ?_
        assumption
      · exact Kept.refl
theorem execGateAgeingPersist_kept (t : Tick) (s s' : State) (h : execGateAgeingPersist t s = .next s') : Kept s.dev s'.dev := by
  refine State.on_kept h fun d => ?_
  refine Kept.ite ?_ ?_
  · extract_lets +onlyGivenNames keep1
    refine Device.setProt_kept (fun _ h => by simpa [Prot.Shaped, upd, clearBits] using h) ?_
    exact Kept.refl
  · exact Kept.refl
theorem execGateSelectWrite_kept (t : Tick) (v : BitVec 32) (s s' : State) (h : execGateSelectWrite t v s = .next s') : Kept s.dev s'.dev := by
  refine State.on_kept h fun d => ?_
  extract_lets +onlyGivenNames d1
  refine Kept.cut d1 ?_ fun hd1 => ?_
  · subst d1
    refine Kept.step (Device.reserved_kept ..) ?_
    exact Kept.refl
  clear_value d1
  extract_lets +onlyGivenNames c2
  extract_lets +onlyGivenNames a3
  extract_lets +onlyGivenNames b4
  split
  rename_i q5
  refine Kept.cut _ (Kept.of_snd q5 ?_) fun hx6 => ?_
  · refine Kept.step (Device.quant_kept ..) ?_
    assumption
  split
  rename_i q7
  refine Kept.cut _ (Kept.of_snd q7 ?_) fun hx8 => ?_
  · refine Kept.step (Device.quant_kept ..) ?_
    assumption
  split
  rename_i q9
  refine Kept.cut _ (Kept.of_snd q9 ?_) fun hx10 => ?_
  · refine Kept.step (Device.quant_kept ..) ?_
    assumption
  split
  rename_i q11
  refine Kept.cut _ (Kept.of_snd q11 ?_) fun hx12 => ?_
  · refine Kept.step (Device.quant_kept ..) ?_
    assumption
  extract_lets +onlyGivenNames pair13
  extract_lets +onlyGivenNames code14
  refine Device.setProt_kept (fun _ h => by simpa [Prot.Shaped, upd, clearBits] using h) ?_
  assumption

/-! ## Schedule -/

theorem Device.rank_kept (d : Device) (arm : Nat) (discharge : Bool) (trusted : Bool) : Kept d (Device.rank d arm discharge trusted).2 := by
  unfold Device.rank
  extract_lets +onlyGivenNames soc1
  extract_lets +onlyGivenNames cs2
  split
  rename_i q3
  refine Kept.cut _ (Kept.of_snd q3 ?_) fun hx4 => ?_
  · refine Kept.foldl_snd (fun x5 b6 hx5 => ?_) ?_
    · split
      rename_i q7
      refine Kept.cut _ (Kept.of_snd q7 ?_) fun hx8 => ?_
      · refine Kept.step (Device.quant_kept ..) ?_
        assumption
      refine Kept.snd_mk ?_
      assumption
    · refine Kept.snd_mk ?_
      exact Kept.refl
  refine Kept.snd_mk ?_
  assumption

/-! ## Modulation -/

theorem Device.bypass_kept (d : Device) (c : Nat) (cause : Nat) : Kept d (Device.bypass d c cause) := by
  unfold Device.bypass
  refine Kept.ite ?_ ?_
  · exact Kept.refl
  · extract_lets +onlyGivenNames zl1
    refine Kept.step (Device.raise_kept ..) ?_
    refine Kept.step (Device.setCell_kept ..) ?_
    exact Kept.refl
theorem Device.bypassInput_kept (d : Device) : Kept d (Device.bypassInput d) := by
  unfold Device.bypassInput
  extract_lets +onlyGivenNames l1
  refine Kept.ite ?_ ?_
  · refine Kept.step (Device.inputInactive_kept ..) ?_
    exact Kept.refl
  · extract_lets +onlyGivenNames arms2
    refine Kept.step (Device.setSrc_kept ..) ?_
    refine Kept.step (Device.inputActive_kept ..) ?_
    exact Kept.refl
theorem Device.bpClosed_kept (d : Device) (c : Nat) : Kept d (Device.bpClosed d c) := by
  unfold Device.bpClosed
  extract_lets +onlyGivenNames m1
  extract_lets +onlyGivenNames d2
  refine Kept.cut d2 ?_ fun hd2 => ?_
  · subst d2
    refine Kept.ite ?_ ?_
    · refine Kept.step (Device.bypassInput_kept ..) ?_
      refine Device.setProt_kept (fun _ h => by simpa [Prot.Shaped, upd, clearBits] using h) ?_
      exact Kept.refl
    · exact Kept.refl
  clear_value d2
  refine Kept.ite ?_ ?_
  · refine Kept.step (Device.setCell_kept ..) ?_
    assumption
  · assumption
theorem Device.countRests_kept (d : Device) : Kept d (Device.countRests d) := by
  unfold Device.countRests
  extract_lets +onlyGivenNames step1
  refine Device.setModu_kept (fun _ h => by simpa [Modu.Shaped, upd, clearBits] using h) ?_
  exact Kept.refl
theorem Device.circLoop_kept (d : Device) (i0ref : Rat) (i0 : Rat) (held : Bool) : Kept d (Device.circLoop d i0ref i0 held) := by
  unfold Device.circLoop
  extract_lets +onlyGivenNames p1
  extract_lets +onlyGivenNames e2
  extract_lets +onlyGivenNames m3
  extract_lets +onlyGivenNames free4
  extract_lets +onlyGivenNames vc5
  extract_lets +onlyGivenNames stuck6
  extract_lets +onlyGivenNames x7
  extract_lets +onlyGivenNames volt8
  refine Device.setModu_kept (fun _ h => by simpa [Modu.Shaped, upd, clearBits] using h) ?_
  exact Kept.refl
theorem Device.commit_kept (d : Device) (c : Nat) (edges : List Edge) : Kept d (Device.commit d c edges) := by
  unfold Device.commit
  extract_lets +onlyGivenNames moved1
  extract_lets +onlyGivenNames d2
  refine Kept.cut d2 ?_ fun hd2 => ?_
  · subst d2
    refine Kept.step (Device.setCell_kept ..) ?_
    exact Kept.refl
  clear_value d2
  refine Kept.ite ?_ ?_
  · refine Device.setModu_kept (fun _ h => by simpa [Modu.Shaped, upd, clearBits] using h) ?_
    assumption
  · assumption
theorem Device.launchedCells_kept (d : Device) : Kept d (Device.launchedCells d) := by
  unfold Device.launchedCells
  extract_lets +onlyGivenNames p1
  extract_lets +onlyGivenNames fade2
  extract_lets +onlyGivenNames one3
  refine Device.setTwin_kept (fun _ h => by simpa [Twin.Shaped, upd, clearBits] using h) ?_
  refine Device.setModu_kept (fun _ h => by simpa [Modu.Shaped, upd, clearBits] using h) ?_
  exact Kept.refl
theorem Device.setRho_kept (d : Device) (arm : Nat) (rho : Rat) : Kept d (Device.setRho d arm rho) := by
  unfold Device.setRho
  extract_lets +onlyGivenNames m1
  extract_lets +onlyGivenNames r2
  extract_lets +onlyGivenNames d3
  refine Kept.cut d3 ?_ fun hd3 => ?_
  · subst d3
    refine Kept.step (Device.setArm_kept ..) ?_
    exact Kept.refl
  clear_value d3
  refine Kept.ite ?_ ?_
  · assumption
  · extract_lets +onlyGivenNames d4
    refine Kept.cut d4 ?_ fun hd4 => ?_
    · subst d4
      refine Device.setModu_kept (fun _ h => by simpa [Modu.Shaped, upd, clearBits] using h) ?_
      assumption
    clear_value d4
    split
    rename_i q5
    refine Kept.cut _ (Kept.of_snd q5 ?_) fun hx6 => ?_
    · refine Kept.step (Device.quant_kept ..) ?_
      assumption
    refine Kept.step (Device.raiseRated_kept ..) ?_
    assumption
theorem Device.bsForced_kept (d : Device) (arm : Nat) (c : Nat) : Kept d (Device.bsForced d arm c) := by
  unfold Device.bsForced
  refine Kept.step (Device.raiseRated_kept ..) ?_
  refine Device.setModu_kept (fun _ h => by simpa [Modu.Shaped, upd, clearBits] using h) ?_
  exact Kept.refl
theorem bootstrap_kept (n0 : Nat) (n1 : Device) (n2 : Nat) (n3 : List Part) (n4 : List (List Nat)) (n5 : List Nat) : Kept n1 (bootstrap n0 n1 n2 n3 n4 n5).2 := by
  unfold bootstrap
  split
  · refine Kept.snd_mk ?_
    exact Kept.refl
  · extract_lets +onlyGivenNames T1
    extract_lets +onlyGivenNames r2
    extract_lets +onlyGivenNames ins3
    extract_lets +onlyGivenNames used4
    split
    · refine Kept.snd_mk ?_
      exact Kept.refl
    · extract_lets +onlyGivenNames own5
      split
      · extract_lets +onlyGivenNames d6
        refine Kept.cut d6 ?_ fun hd6 => ?_
        · subst d6
          refine Device.setModu_kept (fun _ h => by simpa [Modu.Shaped, upd, clearBits] using h) ?_
          refine Kept.step (Device.setCell_kept ..) ?_
          exact Kept.refl
        clear_value d6
        refine Kept.step (bootstrap_kept ..) ?_
        assumption
      · refine Kept.step (bootstrap_kept ..) ?_
        refine Kept.step (Device.bsForced_kept ..) ?_
        exact Kept.refl
theorem Device.edgeSchedule_kept (d : Device) (arm : Nat) (v0 : Rat) (v1 : Rat) (ip : Rat) : Kept d (Device.edgeSchedule d arm v0 v1 ip) := by
  unfold Device.edgeSchedule
  extract_lets +onlyGivenNames T1
  extract_lets +onlyGivenNames rho2
  extract_lets +onlyGivenNames trusted3
  extract_lets +onlyGivenNames parts4
  split
  rename_i q5
  refine Kept.cut _ (Kept.of_snd q5 ?_) fun hx6 => ?_
  · refine Kept.foldl_snd (fun x7 b8 hx7 => ?_) ?_
    · split
      rename_i q9
      refine Kept.cut _ (Kept.of_snd q9 ?_) fun hx10 => ?_
      · refine Kept.step (Device.rank_kept ..) ?_
        assumption
      refine Kept.snd_mk ?_
      assumption
    · refine Kept.snd_mk ?_
      exact Kept.refl
  extract_lets +onlyGivenNames total11
  extract_lets +onlyGivenNames i12
  extract_lets +onlyGivenNames p13
  extract_lets +onlyGivenNames S14
  extract_lets +onlyGivenNames sat15
  extract_lets +onlyGivenNames parts16
  extract_lets +onlyGivenNames ranks17
  split
  rename_i q18
  refine Kept.cut _ (Kept.of_snd q18 ?_) fun hx19 => ?_
  · refine Kept.step (bootstrap_kept ..) ?_
    assumption
  extract_lets +onlyGivenNames want20
  extract_lets +onlyGivenNames cells21
  split
  rename_i q22
  refine Kept.cut _ (Kept.of_snd q22 ?_) fun hx23 => ?_
  · refine Kept.foldl_snd (fun x24 b25 hx24 => ?_) ?_
    · split
      extract_lets +onlyGivenNames m26
      split
      · refine Kept.snd_mk ?_
        refine Kept.step (Device.commit_kept ..) ?_
        assumption
      · split
        extract_lets +onlyGivenNames vs27
        extract_lets +onlyGivenNames d28
        refine Kept.cut d28 ?_ fun hd28 => ?_
        · subst d28
          refine Device.setModu_kept (fun _ h => by simpa [Modu.Shaped, upd, clearBits] using h) ?_
          refine Kept.step (Device.commit_kept ..) ?_
          assumption
        clear_value d28
        refine Kept.snd_mk ?_
        assumption
    · refine Kept.snd_mk ?_
      assumption
  extract_lets +onlyGivenNames d29
  refine Kept.cut d29 ?_ fun hd29 => ?_
  · subst d29
    refine Device.setModu_kept (fun _ h => by simpa [Modu.Shaped, upd, clearBits] using h) ?_
    assumption
  clear_value d29
  extract_lets +onlyGivenNames d30
  refine Kept.cut d30 ?_ fun hd30 => ?_
  · subst d30
    refine Kept.step (Device.setArm_kept ..) ?_
    assumption
  clear_value d30
  refine Device.setProt_kept (fun _ h => by simpa [Prot.Shaped, upd, clearBits] using h) ?_
  refine Kept.step (Device.setRho_kept ..) ?_
  assumption
theorem Device.centreSchedule_kept (d : Device) (arm : Nat) (v0 : Rat) (v1 : Rat) (ip : Rat) (resume : Bool) : Kept d (Device.centreSchedule d arm v0 v1 ip resume) := by
  unfold Device.centreSchedule
  extract_lets +onlyGivenNames T1
  extract_lets +onlyGivenNames P2
  extract_lets +onlyGivenNames avail3
  extract_lets +onlyGivenNames part4
  extract_lets +onlyGivenNames S5
  extract_lets +onlyGivenNames n6
  extract_lets +onlyGivenNames d07
  extract_lets +onlyGivenNames d18
  extract_lets +onlyGivenNames ovr9
  extract_lets +onlyGivenNames base10
  extract_lets +onlyGivenNames d11
  refine Kept.cut d11 ?_ fun hd11 => ?_
  · subst d11
    refine Kept.foldl (fun x12 b13 hx12 => ?_) ?_
    · extract_lets +onlyGivenNames m14
      refine Kept.ite ?_ ?_
      · assumption
      · refine Kept.ite ?_ ?_
        · refine Kept.step (Device.commit_kept ..) ?_
          assumption
        · refine Kept.ite ?_ ?_
          · refine Kept.step (Device.commit_kept ..) ?_
            assumption
          · extract_lets +onlyGivenNames d15
            refine Kept.cut d15 ?_ fun hd15 => ?_
            · subst d15
              refine Kept.ite ?_ ?_
              · refine Kept.step (Device.setCell_kept ..) ?_
                assumption
              · assumption
            clear_value d15
            extract_lets +onlyGivenNames j16
            extract_lets +onlyGivenNames x17
            extract_lets +onlyGivenNames ph18
            extract_lets +onlyGivenNames ins19
            extract_lets +onlyGivenNames force20
            extract_lets +onlyGivenNames d21
            refine Kept.cut d21 ?_ fun hd21 => ?_
            · subst d21
              refine Kept.ite ?_ ?_
              · refine Kept.step (Device.bsForced_kept ..) ?_
                assumption
              · assumption
            clear_value d21
            extract_lets +onlyGivenNames ins22
            split
            extract_lets +onlyGivenNames es23
            extract_lets +onlyGivenNames es24
            refine Device.setModu_kept (fun _ h => by simpa [Modu.Shaped, upd, clearBits] using h) ?_
            refine Kept.step (Device.commit_kept ..) ?_
            assumption
    · exact Kept.refl
  clear_value d11
  extract_lets +onlyGivenNames d25
  refine Kept.cut d25 ?_ fun hd25 => ?_
  · subst d25
    refine Device.setModu_kept (fun _ h => by simpa [Modu.Shaped, upd, clearBits] using h) ?_
    assumption
  clear_value d25
  refine Kept.step (Device.setArm_kept ..) ?_
  assumption
theorem Device.quietSchedule_kept (d : Device) (arm : Nat) : Kept d (Device.quietSchedule d arm) := by
  unfold Device.quietSchedule
  extract_lets +onlyGivenNames d1
  refine Kept.cut d1 ?_ fun hd1 => ?_
  · subst d1
    refine Kept.foldl (fun x2 b3 hx2 => ?_) ?_
    · extract_lets +onlyGivenNames m4
      refine Kept.ite ?_ ?_
      · assumption
      · refine Kept.step (Device.commit_kept ..) ?_
        assumption
    · exact Kept.refl
  clear_value d1
  refine Kept.step (Device.setArm_kept ..) ?_
  assumption
theorem Device.testSchedule_kept (d : Device) (arm : Nat) : Kept d (Device.testSchedule d arm) := by
  unfold Device.testSchedule
  refine Kept.foldl (fun x1 b2 hx1 => ?_) ?_
  · refine Kept.step (Device.setCell_kept ..) ?_
    refine Kept.step (Device.commit_kept ..) ?_
    assumption
  · exact Kept.refl
theorem Device.scheduleCore_kept (d : Device) (arm : Nat) : Kept d (Device.scheduleCore d arm) := by
  unfold Device.scheduleCore
  extract_lets +onlyGivenNames a1
  extract_lets +onlyGivenNames cells2
  extract_lets +onlyGivenNames d3
  refine Kept.cut d3 ?_ fun hd3 => ?_
  · subst d3
    refine Device.setModu_kept (fun _ h => by simpa [Modu.Shaped, upd, clearBits] using h) ?_
    exact Kept.refl
  clear_value d3
  extract_lets +onlyGivenNames d4
  extract_lets +onlyGivenNames d5
  refine Kept.cut d5 ?_ fun hd5 => ?_
  · subst d5
    refine Kept.ite ?_ ?_
    · refine Kept.step (Device.setArm_kept ..) ?_
      assumption
    · assumption
  clear_value d5
  extract_lets +onlyGivenNames d6
  extract_lets +onlyGivenNames d7
  extract_lets +onlyGivenNames d8
  extract_lets +onlyGivenNames d9
  extract_lets +onlyGivenNames d10
  extract_lets +onlyGivenNames d11
  refine Kept.cut d11 ?_ fun hd11 => ?_
  · subst d11
    refine Kept.step (Device.setArm_kept ..) ?_
    assumption
  clear_value d11
  extract_lets +onlyGivenNames d12
  refine Kept.cut d12 ?_ fun hd12 => ?_
  · subst d12
    refine Kept.ite ?_ ?_
    · refine Kept.step (Device.setArm_kept ..) ?_
      assumption
    · refine Kept.ite ?_ ?_
      · refine Kept.step (Device.testSchedule_kept ..) ?_
        assumption
      · refine Kept.ite ?_ ?_
        · refine Kept.step (Device.centreSchedule_kept ..) ?_
          assumption
        · refine Kept.ite ?_ ?_
          · refine Kept.step (Device.edgeSchedule_kept ..) ?_
            assumption
          · refine Kept.step (Device.quietSchedule_kept ..) ?_
            assumption
  clear_value d12
  extract_lets +onlyGivenNames d13
  refine Kept.cut d13 ?_ fun hd13 => ?_
  · subst d13
    refine Kept.ite ?_ ?_
    · assumption
    · refine Kept.foldl (fun x14 b15 hx14 => ?_) ?_
      · refine Kept.ite ?_ ?_
        · refine Kept.step (Device.commit_kept ..) ?_
          assumption
        · assumption
      · assumption
  clear_value d13
  refine Kept.step (Device.setArm_kept ..) ?_
  refine Kept.step (Device.gateLoop_kept ..) ?_
  assumption
theorem Device.resumeArm_kept (d : Device) (arm : Nat) : Kept d (Device.resumeArm d arm) := by
  unfold Device.resumeArm
  extract_lets +onlyGivenNames cells1
  extract_lets +onlyGivenNames r2
  extract_lets +onlyGivenNames left3
  extract_lets +onlyGivenNames d4
  refine Kept.cut d4 ?_ fun hd4 => ?_
  · subst d4
    refine Device.setModu_kept (fun _ h => by simpa [Modu.Shaped, upd, clearBits] using h) ?_
    exact Kept.refl
  clear_value d4
  extract_lets +onlyGivenNames d5
  refine Kept.cut d5 ?_ fun hd5 => ?_
  · subst d5
    refine Kept.step (Device.setArm_kept ..) ?_
    assumption
  clear_value d5
  refine Kept.step (Device.setArm_kept ..) ?_
  refine Kept.step (Device.centreSchedule_kept ..) ?_
  assumption
theorem Device.withRows_kept (d : Device) (rows : List CellRow) : Kept d (Device.withRows d rows) := by
  unfold Device.withRows
  refine Device.setModu_kept (fun _ h => by simpa [Modu.Shaped, upd, clearBits] using h) ?_
  exact Kept.refl
theorem Device.scheduleArm_kept (d : Device) (arm : Nat) : Kept d (Device.scheduleArm d arm) := by
  unfold Device.scheduleArm
  extract_lets +onlyGivenNames live1
  extract_lets +onlyGivenNames d2
  refine Kept.cut d2 ?_ fun hd2 => ?_
  · subst d2
    refine Kept.ite ?_ ?_
    · refine Kept.step (Device.withRows_kept ..) ?_
      refine Kept.step (Device.scheduleCore_kept ..) ?_
      refine Kept.step (Device.withRows_kept ..) ?_
      exact Kept.refl
    · refine Kept.step (Device.scheduleCore_kept ..) ?_
      exact Kept.refl
  clear_value d2
  refine Kept.step (Device.stamp_kept ..) ?_
  refine Kept.step (Device.pmcPulse_kept ..) ?_
  assumption
theorem Device.sendCheck_kept (d : Device) (arm : Nat) : Kept d (Device.sendCheck d arm) := by
  unfold Device.sendCheck
  refine Kept.ite ?_ ?_
  · exact Kept.refl
  · extract_lets +onlyGivenNames resume1
    extract_lets +onlyGivenNames e2
    refine Kept.cut e2 ?_ fun he2 => ?_
    · subst e2
      refine Kept.ite ?_ ?_
      · refine Kept.step (Device.resumeArm_kept ..) ?_
        exact Kept.refl
      · exact Kept.refl
    clear_value e2
    refine Device.setTwin_kept (fun _ h => by simpa [Twin.Shaped, upd, clearBits] using h) ?_
    refine Kept.step (Device.mdlSend_kept ..) ?_
    exact Kept.refl
theorem Device.sendRecord_kept (d : Device) (arm : Nat) (r : ArmRecord) : Kept d (Device.sendRecord d arm r) := by
  unfold Device.sendRecord
  refine Kept.ite ?_ ?_
  · refine Kept.step (Device.activeSend_kept ..) ?_
    exact Kept.refl
  · exact Kept.refl
theorem Device.overrun_kept (d : Device) (arm : Nat) (kind : Nat) : Kept d (Device.overrun d arm kind) := by
  unfold Device.overrun
  extract_lets +onlyGivenNames o1
  extract_lets +onlyGivenNames run2
  extract_lets +onlyGivenNames d3
  extract_lets +onlyGivenNames d4
  refine Kept.cut d4 ?_ fun hd4 => ?_
  · subst d4
    refine Kept.set_cycle ?_
    exact Kept.refl
  clear_value d4
  extract_lets +onlyGivenNames d5
  refine Kept.cut d5 ?_ fun hd5 => ?_
  · subst d5
    refine Kept.step (Device.raise_kept ..) ?_
    assumption
  clear_value d5
  refine Kept.ite ?_ ?_
  · refine Kept.ite ?_ ?_
    · refine Kept.step (Device.errReport_kept ..) ?_
      assumption
    · refine Kept.step (Device.errReport_kept ..) ?_
      assumption
  · assumption
theorem Device.reuseSchedule_kept (d : Device) (arm : Nat) : Kept d (Device.reuseSchedule d arm) := by
  unfold Device.reuseSchedule
  extract_lets +onlyGivenNames cells1
  extract_lets +onlyGivenNames d2
  refine Kept.cut d2 ?_ fun hd2 => ?_
  · subst d2
    refine Kept.foldl (fun x3 b4 hx3 => ?_) ?_
    · refine Kept.step (Device.setCell_kept ..) ?_
      assumption
    · exact Kept.refl
  clear_value d2
  extract_lets +onlyGivenNames d5
  refine Kept.cut d5 ?_ fun hd5 => ?_
  · subst d5
    refine Device.setModu_kept (fun _ h => by simpa [Modu.Shaped, upd, clearBits] using h) ?_
    assumption
  clear_value d5
  refine Kept.step (Device.setArm_kept ..) ?_
  refine Kept.step (Device.overrun_kept ..) ?_
  assumption
theorem Device.availability_kept (d : Device) (arm : Nat) : Kept d (Device.availability d arm) := by
  unfold Device.availability
  extract_lets +onlyGivenNames cs1
  extract_lets +onlyGivenNames av2
  extract_lets +onlyGivenNames sum3
  extract_lets +onlyGivenNames sd4
  extract_lets +onlyGivenNames sc5
  extract_lets +onlyGivenNames sm6
  extract_lets +onlyGivenNames band7
  refine Kept.step (Device.setArm_kept ..) ?_
  exact Kept.refl
theorem execBypassCloseTimeout_kept (t : Tick) (cell : Fin 384) (s s' : State) (h : execBypassCloseTimeout t cell s = .next s') : Kept s.dev s'.dev := by
  refine State.on_kept h fun d => ?_
  extract_lets +onlyGivenNames m1
  refine Kept.ite ?_ ?_
  · exact Kept.refl
  · extract_lets +onlyGivenNames d2
    refine Kept.cut d2 ?_ fun hd2 => ?_
    · subst d2
      refine Kept.step (Device.raise_kept ..) ?_
      refine Kept.step (Device.setCell_kept ..) ?_
      exact Kept.refl
    clear_value d2
    refine Kept.step (Device.bypassInput_kept ..) ?_
    refine Device.setProt_kept (fun _ h => by simpa [Prot.Shaped, upd, clearBits] using h) ?_
    assumption
theorem execCellRestEnd_kept (t : Tick) (cell : Fin 384) (s s' : State) (h : execCellRestEnd t cell s = .next s') : Kept s.dev s'.dev := by
  refine State.on_kept h fun d => ?_
  extract_lets +onlyGivenNames p1
  extract_lets +onlyGivenNames gone2
  refine Kept.step (Device.setCell_kept ..) ?_
  exact Kept.refl
theorem execArmRecordArrival_kept (t : Tick) (arm : Fin 3) (differs : Bool) (s s' : State) (h : execArmRecordArrival t arm differs s = .next s') : Kept s.dev s'.dev := by
  refine State.on_kept h fun d => ?_
  refine Kept.ite ?_ ?_
  · exact Kept.refl
  · extract_lets +onlyGivenNames r1
    extract_lets +onlyGivenNames d2
    refine Kept.cut d2 ?_ fun hd2 => ?_
    · subst d2
      refine Kept.step (Device.sendRecord_kept ..) ?_
      refine Kept.step (Device.stamp_kept ..) ?_
      refine Kept.step (Device.setArm_kept ..) ?_
      exact Kept.refl
    clear_value d2
    extract_lets +onlyGivenNames first3
    extract_lets +onlyGivenNames d4
    refine Kept.cut d4 ?_ fun hd4 => ?_
    · subst d4
      refine Kept.ite ?_ ?_
      · refine Device.setModu_kept (fun _ h => by simpa [Modu.Shaped, upd, clearBits] using h) ?_
        assumption
      · assumption
    clear_value d4
    extract_lets +onlyGivenNames d5
    refine Kept.cut d5 ?_ fun hd5 => ?_
    · subst d5
      refine Kept.ite ?_ ?_
      · refine Kept.step (Device.circLoop_kept ..) ?_
        assumption
      · assumption
    clear_value d5
    refine Kept.ite ?_ ?_
    · refine Kept.step (Device.errReport_kept ..) ?_
      assumption
    · refine Kept.step (Device.sendCheck_kept ..) ?_
      refine Kept.step (Device.scheduleArm_kept ..) ?_
      assumption
theorem execReferenceOverrun_kept (t : Tick) (arm : Fin 3) (s s' : State) (h : execReferenceOverrun t arm s = .next s') : Kept s.dev s'.dev := by
  refine State.on_kept h fun d => ?_
  refine Kept.ite ?_ ?_
  · exact Kept.refl
  · extract_lets +onlyGivenNames T1
    extract_lets +onlyGivenNames ext2
    extract_lets +onlyGivenNames d3
    refine Kept.cut d3 ?_ fun hd3 => ?_
    · subst d3
      refine Kept.step (Device.setArm_kept ..) ?_
      exact Kept.refl
    clear_value d3
    extract_lets +onlyGivenNames r4
    extract_lets +onlyGivenNames d5
    refine Kept.cut d5 ?_ fun hd5 => ?_
    · subst d5
      refine Kept.ite ?_ ?_
      · refine Device.setModu_kept (fun _ h => by simpa [Modu.Shaped, upd, clearBits] using h) ?_
        refine Kept.step (Device.circLoop_kept ..) ?_
        assumption
      · assumption
    clear_value d5
    extract_lets +onlyGivenNames d6
    refine Kept.cut d6 ?_ fun hd6 => ?_
    · subst d6
      refine Device.setModu_kept (fun _ h => by simpa [Modu.Shaped, upd, clearBits] using h) ?_
      assumption
    clear_value d6
    refine Kept.step (Device.sendCheck_kept ..) ?_
    refine Kept.step (Device.scheduleArm_kept ..) ?_
    refine Kept.step (Device.overrun_kept ..) ?_
    assumption
theorem execScheduleOverrun_kept (t : Tick) (arm : Fin 3) (s s' : State) (h : execScheduleOverrun t arm s = .next s') : Kept s.dev s'.dev := by
  refine State.on_kept h fun d => ?_
  refine Kept.ite ?_ ?_
  · exact Kept.refl
  · refine Kept.step (Device.reuseSchedule_kept ..) ?_
    exact Kept.refl
theorem execArmRedundancyChange_kept (t : Tick) (arm : Fin 3) (s s' : State) (h : execArmRedundancyChange t arm s = .next s') : Kept s.dev s'.dev := by
  refine State.on_kept h fun d => ?_
  extract_lets +onlyGivenNames a1
  refine Kept.ite ?_ ?_
  · exact Kept.refl
  · extract_lets +onlyGivenNames d2
    refine Kept.cut d2 ?_ fun hd2 => ?_
    · subst d2
      refine Kept.step (Device.setArm_kept ..) ?_
      exact Kept.refl
    clear_value d2
    split
    rename_i q3
    refine Kept.cut _ (Kept.of_snd q3 ?_) fun hx4 => ?_
    · refine Kept.step (Device.quant_kept ..) ?_
      assumption
    refine Kept.ite ?_ ?_
    · refine Kept.step (Device.raise_kept ..) ?_
      assumption
    · refine Kept.ite ?_ ?_
      · refine Kept.step (Device.raise_kept ..) ?_
        assumption
      · assumption

/-! ## Recorder -/

theorem Device.writeHeader_kept (d : Device) (r : RecHdr) : Kept d (Device.writeHeader d r).2 := by
  unfold Device.writeHeader
  extract_lets +onlyGivenNames r1
  split
  · refine Kept.snd_mk ?_
    exact Kept.refl
  · refine Kept.snd_mk ?_
    refine Kept.step (Device.soffitWrite_kept ..) ?_
    exact Kept.refl
theorem Device.openRecord_kept (d : Device) (h : TrigHit) : Kept d (Device.openRecord d h) := by
  unfold Device.openRecord
  extract_lets +onlyGivenNames s1
  extract_lets +onlyGivenNames f2
  extract_lets +onlyGivenNames r03
  extract_lets +onlyGivenNames r04
  extract_lets +onlyGivenNames r5
  extract_lets +onlyGivenNames d6
  refine Kept.cut d6 ?_ fun hd6 => ?_
  · subst d6
    refine Device.setRec_kept (fun _ h => by simpa [Rec.Shaped, upd, clearBits] using h) ?_
    exact Kept.refl
  clear_value d6
  split
  rename_i q7
  refine Kept.cut _ (Kept.of_snd q7 ?_) fun hx8 => ?_
  · refine Kept.step (Device.writeHeader_kept ..) ?_
    assumption
  extract_lets +onlyGivenNames d9
  refine Kept.cut d9 ?_ fun hd9 => ?_
  · subst d9
    refine Kept.step (Device.recState_kept ..) ?_
    refine Device.setRec_kept (fun _ h => by simpa [Rec.Shaped, upd, clearBits] using h) ?_
    assumption
  clear_value d9
  refine Kept.step (Device.raise_kept ..) ?_
  assumption
theorem Device.followRecord_kept (d : Device) (h : TrigHit) : Kept d (Device.followRecord d h) := by
  unfold Device.followRecord
  split
  · exact Kept.refl
  · extract_lets +onlyGivenNames r1
    refine Device.setRec_kept (fun _ h => by simpa [Rec.Shaped, upd, clearBits] using h) ?_
    exact Kept.refl
theorem Device.register_kept (d : Device) (x : Nat) (at_ : Tick) (v : Int) : Kept d (Device.register d x at_ v) := by
  unfold Device.register
  refine Kept.ite ?_ ?_
  · exact Kept.refl
  · extract_lets +onlyGivenNames h1
    extract_lets +onlyGivenNames again2
    extract_lets +onlyGivenNames d3
    refine Kept.cut d3 ?_ fun hd3 => ?_
    · subst d3
      refine Kept.step (Device.maskStart_kept ..) ?_
      refine Kept.step (Device.hwSet_kept ..) ?_
      refine Device.setRec_kept (fun _ h => by simpa [Rec.Shaped, upd, clearBits] using h) ?_
      exact Kept.refl
    clear_value d3
    refine Kept.ite ?_ ?_
    · assumption
    · extract_lets +onlyGivenNames d4
      refine Kept.cut d4 ?_ fun hd4 => ?_
      · subst d4
        refine Device.setRec_kept (fun _ h => by simpa [Rec.Shaped, upd, clearBits] using h) ?_
        assumption
      clear_value d4
      refine Kept.ite ?_ ?_
      · refine Kept.step (Device.openRecord_kept ..) ?_
        assumption
      · refine Kept.ite ?_ ?_
        · refine Kept.step (Device.followRecord_kept ..) ?_
          assumption
        · assumption
theorem Device.recArm_kept (d : Device) : Kept d (Device.recArm d) := by
  unfold Device.recArm
  split
  extract_lets +onlyGivenNames d1
  extract_lets +onlyGivenNames d2
  refine Kept.cut d2 ?_ fun hd2 => ?_
  · subst d2
    refine Device.setRec_kept (fun _ h => by simpa [Rec.Shaped, upd, clearBits] using h) ?_
    exact Kept.refl
  clear_value d2
  extract_lets +onlyGivenNames d3
  refine Kept.cut d3 ?_ fun hd3 => ?_
  · subst d3
    refine Kept.step (Device.recState_kept ..) ?_
    assumption
  clear_value d3
  refine Kept.ite ?_ ?_
  · refine Kept.step (Device.raise_kept ..) ?_
    assumption
  · assumption
theorem Device.recArmAfresh_kept (d : Device) : Kept d (Device.recArmAfresh d) := by
  unfold Device.recArmAfresh
  extract_lets +onlyGivenNames f1
  extract_lets +onlyGivenNames place2
  refine Kept.step (Device.recArm_kept ..) ?_
  refine Device.setRec_kept (fun _ h => by simpa [Rec.Shaped, upd, clearBits] using h) ?_
  exact Kept.refl
theorem Device.recAbort_kept (d : Device) : Kept d (Device.recAbort d) := by
  unfold Device.recAbort
  split
  · exact Kept.refl
  · split
    rename_i q1
    refine Kept.cut _ (Kept.of_snd q1 ?_) fun hx2 => ?_
    · refine Kept.step (Device.writeHeader_kept ..) ?_
      exact Kept.refl
    refine Kept.step (Device.raise_kept ..) ?_
    refine Device.setRec_kept (fun _ h => by simpa [Rec.Shaped, upd, clearBits] using h) ?_
    assumption
theorem Device.recStop_kept (d : Device) (st : Nat) : Kept d (Device.recStop d st) := by
  unfold Device.recStop
  extract_lets +onlyGivenNames d1
  refine Kept.cut d1 ?_ fun hd1 => ?_
  · subst d1
    refine Device.setRec_kept (fun _ h => by simpa [Rec.Shaped, upd, clearBits] using h) ?_
    refine Kept.step (Device.recAbort_kept ..) ?_
    exact Kept.refl
  clear_value d1
  refine Kept.step (Device.recState_kept ..) ?_
  assumption
theorem Device.recComplete_kept (d : Device) : Kept d (Device.recComplete d) := by
  unfold Device.recComplete
  split
  · exact Kept.refl
  · refine Kept.ite ?_ ?_
    · exact Kept.refl
    · extract_lets +onlyGivenNames some_1
      split
      rename_i q2
      refine Kept.cut _ (Kept.of_snd q2 ?_) fun hx3 => ?_
      · refine Kept.step (Device.writeHeader_kept ..) ?_
        exact Kept.refl
      extract_lets +onlyGivenNames d4
      refine Kept.cut d4 ?_ fun hd4 => ?_
      · subst d4
        refine Device.setRec_kept (fun _ h => by simpa [Rec.Shaped, upd, clearBits] using h) ?_
        assumption
      clear_value d4
      extract_lets +onlyGivenNames d5
      refine Kept.cut d5 ?_ fun hd5 => ?_
      · subst d5
        refine Kept.step (Device.raise_kept ..) ?_
        assumption
      clear_value d5
      refine Kept.ite ?_ ?_
      · refine Kept.step (Device.recStop_kept ..) ?_
        assumption
      · refine Kept.ite ?_ ?_
        · refine Kept.step (Device.recArm_kept ..) ?_
          assumption
        · refine Kept.step (Device.recStop_kept ..) ?_
          assumption
theorem Device.recOverwrite_kept (d : Device) : Kept d (Device.recOverwrite d) := by
  unfold Device.recOverwrite
  extract_lets +onlyGivenNames seg1
  extract_lets +onlyGivenNames gone2
  refine Kept.foldl (fun x3 b4 hx3 => ?_) ?_
  · split
    rename_i q5
    refine Kept.cut _ (Kept.of_snd q5 ?_) fun hx6 => ?_
    · refine Kept.step (Device.writeHeader_kept ..) ?_
      assumption
    refine Kept.step (Device.raiseRated_kept ..) ?_
    refine Device.setRec_kept (fun _ h => by simpa [Rec.Shaped, upd, clearBits] using h) ?_
    assumption
  · exact Kept.refl
theorem Device.recWrite_kept (d : Device) (f : RecFrame) : Kept d (Device.recWrite d f) := by
  unfold Device.recWrite
  extract_lets +onlyGivenNames j1
  extract_lets +onlyGivenNames trigger2
  extract_lets +onlyGivenNames missing3
  extract_lets +onlyGivenNames d4
  refine Kept.cut d4 ?_ fun hd4 => ?_
  · subst d4
    refine Device.setRec_kept (fun _ h => by simpa [Rec.Shaped, upd, clearBits] using h) ?_
    refine Kept.step (Device.soffitWrite_kept ..) ?_
    refine Kept.step (Device.recOverwrite_kept ..) ?_
    exact Kept.refl
  clear_value d4
  refine Kept.step (Device.recComplete_kept ..) ?_
  refine Kept.step (Device.pmcPulse_kept ..) ?_
  assumption
theorem execTriggerCondition_kept (t : Tick) (s s' : State) (h : execTriggerCondition t s = .next s') : Kept s.dev s'.dev := by
  refine State.on_kept h fun d => ?_
  extract_lets +onlyGivenNames d1
  refine Kept.cut d1 ?_ fun hd1 => ?_
  · subst d1
    refine Kept.step (Device.trigTimeouts_kept ..) ?_
    exact Kept.refl
  clear_value d1
  split
  · assumption
  · refine Kept.step (Device.register_kept ..) ?_
    refine Device.setRec_kept (fun _ h => by simpa [Rec.Shaped, upd, clearBits] using h) ?_
    assumption
theorem execRecorderFrameWrite_kept (t : Tick) (bad : Bool) (s s' : State) (h : execRecorderFrameWrite t bad s = .next s') : Kept s.dev s'.dev := by
  refine State.on_kept h fun d => ?_
  split
  · refine Kept.ite ?_ ?_
    · exact Kept.refl
    · refine Kept.ite ?_ ?_
      · refine Kept.step (Device.errReport_kept ..) ?_
        exact Kept.refl
      · refine Kept.step (Device.recWrite_kept ..) ?_
        exact Kept.refl
  · exact Kept.refl
theorem execSoffitMemoryTestDone_kept (t : Tick) (pass : Bool) (s s' : State) (h : execSoffitMemoryTestDone t pass s = .next s') : Kept s.dev s'.dev := by
  refine State.on_kept h fun d => ?_
  refine Kept.ite ?_ ?_
  · exact Kept.refl
  · refine Kept.ite ?_ ?_
    · refine Kept.step (Device.errReport_kept ..) ?_
      refine Kept.step (Device.raise_kept ..) ?_
      exact Kept.refl
    · extract_lets +onlyGivenNames d1
      refine Kept.cut d1 ?_ fun hd1 => ?_
      · subst d1
        refine Device.setRec_kept (fun _ h => by simpa [Rec.Shaped, upd, clearBits] using h) ?_
        refine Device.setConv_kept ?_
        exact Kept.refl
      clear_value d1
      refine Kept.ite ?_ ?_
      · refine Kept.step (Device.recArmAfresh_kept ..) ?_
        assumption
      · refine Kept.step (Device.recState_kept ..) ?_
        assumption
theorem execCmdRecArm_kept (t : Tick) (h : CmdHdr) (a : Args) (s s' : State) (h : execCmdRecArm t h a s = .next s') : Kept s.dev s'.dev := by
  refine State.on_kept h fun d => ?_
  refine Device.cmd_carry (fun x1 hx1 => ?_) ?_
  · split
    · refine Kept.fst_mk ?_
      assumption
    · split
      · refine Kept.fst_mk ?_
        assumption
      · extract_lets +onlyGivenNames d2
        refine Kept.cut d2 ?_ fun hd2 => ?_
        · subst d2
          refine Kept.step (Device.recArmAfresh_kept ..) ?_
          assumption
        clear_value d2
        refine Kept.fst_mk ?_
        assumption
  exact Kept.refl
theorem execCmdRecStop_kept (t : Tick) (h : CmdHdr) (a : Args) (s s' : State) (h : execCmdRecStop t h a s = .next s') : Kept s.dev s'.dev := by
  refine State.on_kept h fun d => ?_
  extract_lets +onlyGivenNames mode1
  refine Device.cmdIf_carry (fun x2 hx2 => ?_) ?_
  · extract_lets +onlyGivenNames num3
    split
    · refine Kept.fst_mk ?_
      refine Kept.ite ?_ ?_
      · refine Kept.step (Device.recStop_kept ..) ?_
        assumption
      · assumption
    · refine Kept.fst_mk ?_
      refine Kept.ite ?_ ?_
      · refine Device.setRec_kept (fun _ h => by simpa [Rec.Shaped, upd, clearBits] using h) ?_
        assumption
      · assumption
  exact Kept.refl
theorem execCmdRecTrigger_kept (t : Tick) (h : CmdHdr) (a : Args) (s s' : State) (h : execCmdRecTrigger t h a s = .next s') : Kept s.dev s'.dev := by
  refine State.on_kept h fun d => ?_
  refine Device.cmd_carry (fun x1 hx1 => ?_) ?_
  · extract_lets +onlyGivenNames armed2
    extract_lets +onlyGivenNames num3
    extract_lets +onlyGivenNames d4
    refine Kept.cut d4 ?_ fun hd4 => ?_
    · subst d4
      refine Device.setRec_kept (fun _ h => by simpa [Rec.Shaped, upd, clearBits] using h) ?_
      assumption
    clear_value d4
    extract_lets +onlyGivenNames d5
    refine Kept.cut d5 ?_ fun hd5 => ?_
    · subst d5
      refine Kept.step (Device.register_kept ..) ?_
      assumption
    clear_value d5
    refine Kept.fst_mk ?_
    assumption
  exact Kept.refl
theorem execCmdRecMaskStart_kept (t : Tick) (h : CmdHdr) (a : Args) (s s' : State) (h : execCmdRecMaskStart t h a s = .next s') : Kept s.dev s'.dev := by
  refine State.on_kept h fun d => ?_
  extract_lets +onlyGivenNames m1
  refine Device.cmdIf_carry (fun x2 hx2 => ?_) ?_
  · split
    · refine Kept.fst_mk ?_
      assumption
    · extract_lets +onlyGivenNames one3
      refine Kept.fst_mk ?_
      refine Device.setRec_kept (fun _ h => by simpa [Rec.Shaped, upd, clearBits] using h) ?_
      assumption
  exact Kept.refl
theorem execBar2Readout_kept (t : Tick) (write : Bool) (offset : BitVec 30) (len : Nat) (ce : Nat) (ue : Nat) (s s' : State) (h : execBar2Readout t write offset len ce ue s = .next s') : Kept s.dev s'.dev := by
  refine State.on_kept h fun d => ?_
  refine Kept.ite ?_ ?_
  · refine Kept.step (Device.hostErr_kept ..) ?_
    exact Kept.refl
  · extract_lets +onlyGivenNames bytes1
    extract_lets +onlyGivenNames d2
    refine Kept.cut d2 ?_ fun hd2 => ?_
    · subst d2
      refine Device.setHost_kept (fun _ h => by simpa [HostPort.Shaped, upd, clearBits] using h) ?_
      exact Kept.refl
    clear_value d2
    extract_lets +onlyGivenNames d3
    refine Kept.cut d3 ?_ fun hd3 => ?_
    · subst d3
      refine Kept.step (Device.pmcPulse_kept ..) ?_
      assumption
    clear_value d3
    extract_lets +onlyGivenNames d4
    refine Kept.cut d4 ?_ fun hd4 => ?_
    · subst d4
      refine Device.setRec_kept (fun _ h => by simpa [Rec.Shaped, upd, clearBits] using h) ?_
      assumption
    clear_value d4
    extract_lets +onlyGivenNames d5
    refine Kept.cut d5 ?_ fun hd5 => ?_
    · subst d5
      refine Kept.foldl (fun x6 b7 hx6 => ?_) ?_
      · refine Kept.step (Device.errReport_kept ..) ?_
        assumption
      · assumption
    clear_value d5
    refine Kept.foldl (fun x8 b9 hx8 => ?_) ?_
    · refine Kept.step (Device.errReport_kept ..) ?_
      assumption
    · assumption

/-! ## Converter -/

theorem Device.levelUpdate_kept (d : Device) : Kept d (Device.levelUpdate d) := by
  unfold Device.levelUpdate
  refine Kept.ite ?_ ?_
  · exact Kept.refl
  · split
    extract_lets +onlyGivenNames old1
    refine Kept.ite ?_ ?_
    · exact Kept.refl
    · refine Kept.step (Device.raise_kept ..) ?_
      refine Device.setConv_kept ?_
      exact Kept.refl
theorem Device.chargeFail_kept (d : Device) (cause : Nat) : Kept d (Device.chargeFail d cause) := by
  unfold Device.chargeFail
  refine Kept.ite ?_ ?_
  · exact Kept.refl
  · extract_lets +onlyGivenNames ph1
    refine Kept.step (Device.raise_kept ..) ?_
    refine Device.setConv_kept ?_
    exact Kept.refl
theorem Device.newForce_kept (d : Device) (old : PSet) : Kept d (Device.newForce d old) := by
  unfold Device.newForce
  extract_lets +onlyGivenNames new1
  refine Kept.ite ?_ ?_
  · exact Kept.refl
  · extract_lets +onlyGivenNames d2
    refine Kept.cut d2 ?_ fun hd2 => ?_
    · subst d2
      refine Kept.step (Device.trigRestart_kept ..) ?_
      exact Kept.refl
    clear_value d2
    extract_lets +onlyGivenNames shape3
    extract_lets +onlyGivenNames d4
    refine Kept.cut d4 ?_ fun hd4 => ?_
    · subst d4
      refine Kept.foldl (fun x5 b6 hx5 => ?_) ?_
      · refine Kept.ite ?_ ?_
        · refine Kept.step (Device.setStrm_kept ..) ?_
          assumption
        · assumption
      · assumption
    clear_value d4
    extract_lets +onlyGivenNames d7
    refine Kept.cut d7 ?_ fun hd7 => ?_
    · subst d7
      refine Kept.foldl (fun x8 b9 hx8 => ?_) ?_
      · refine Kept.ite ?_ ?_
        · assumption
        · refine Kept.foldl (fun x10 b11 hx10 => ?_) ?_
          · refine Kept.step (Device.evalCmp_kept ..) ?_
            assumption
          · refine Kept.step (Device.setGrp_kept ..) ?_
            assumption
      · assumption
    clear_value d7
    extract_lets +onlyGivenNames thr12
    refine Kept.foldl (fun x13 b14 hx13 => ?_) ?_
    · refine Kept.ite ?_ ?_
      · assumption
      · refine Kept.step (Device.setCmp_kept ..) ?_
        assumption
    · assumption
theorem Device.applyState_kept (d : Device) : Kept d (Device.applyState d) := by
  unfold Device.applyState
  extract_lets +onlyGivenNames tc1
  extract_lets +onlyGivenNames old2
  extract_lets +onlyGivenNames d3
  refine Kept.cut d3 ?_ fun hd3 => ?_
  · subst d3
    refine Kept.step (Device.newForce_kept ..) ?_
    refine Kept.step (Device.applyWaiting_kept ..) ?_
    exact Kept.refl
  clear_value d3
  extract_lets +onlyGivenNames d4
  refine Kept.cut d4 ?_ fun hd4 => ?_
  · subst d4
    refine Kept.ite ?_ ?_
    · refine Kept.step (Device.portsDown_kept ..) ?_
      assumption
    · assumption
  clear_value d4
  refine Kept.ite ?_ ?_
  · refine Kept.step (Device.recStop_kept ..) ?_
    assumption
  · assumption
theorem Device.lawOnState_kept (d : Device) (new : Nat) (no : Nat) : Kept d (Device.lawOnState d new no) := by
  unfold Device.lawOnState
  extract_lets +onlyGivenNames zero1
  extract_lets +onlyGivenNames fromZero2
  refine Kept.ite ?_ ?_
  · refine Device.setSeq_kept ?_
    refine Kept.step (Device.lawEntry_kept ..) ?_
    exact Kept.refl
  · refine Kept.ite ?_ ?_
    · refine Kept.step (Device.landEntry_kept ..) ?_
      exact Kept.refl
    · refine Kept.ite ?_ ?_
      · extract_lets +onlyGivenNames d3
        refine Kept.cut d3 ?_ fun hd3 => ?_
        · subst d3
          refine Kept.ite ?_ ?_
          · exact Kept.refl
          · refine Kept.step (Device.lawEntry_kept ..) ?_
            exact Kept.refl
        clear_value d3
        refine Kept.ite ?_ ?_
        · unfold fromZero2
          refine Device.setLaw_kept (fun _ h => by simpa [Law.Shaped, upd, clearBits] using h) ?_
          assumption
        · assumption
      · refine Kept.step (Device.dropMoves_kept ..) ?_
        refine Kept.ite ?_ ?_
        · refine Kept.step (Device.lawStop_kept ..) ?_
          exact Kept.refl
        · exact Kept.refl
theorem Device.seqOnState_kept (d : Device) (new : Nat) : Kept d (Device.seqOnState d new) := by
  unfold Device.seqOnState
  refine Kept.ite ?_ ?_
  · exact Kept.refl
  · refine Device.setSeq_kept ?_
    refine Device.setTraj_kept ?_
    refine Kept.step (Device.withdrawClose_kept ..) ?_
    exact Kept.refl
theorem Device.transition_kept (d : Device) (new : Nat) (no : Nat) : Kept d (Device.transition d new no) := by
  unfold Device.transition
  extract_lets +onlyGivenNames old1
  extract_lets +onlyGivenNames d2
  refine Kept.cut d2 ?_ fun hd2 => ?_
  · subst d2
    refine Kept.step (Device.applyState_kept ..) ?_
    exact Kept.refl
  clear_value d2
  extract_lets +onlyGivenNames d3
  refine Kept.cut d3 ?_ fun hd3 => ?_
  · subst d3
    refine Device.setConv_kept ?_
    refine Kept.step (Device.seqOnState_kept ..) ?_
    assumption
  clear_value d3
  extract_lets +onlyGivenNames d4
  refine Kept.cut d4 ?_ fun hd4 => ?_
  · subst d4
    refine Kept.step (Device.lawOnState_kept ..) ?_
    assumption
  clear_value d4
  extract_lets +onlyGivenNames d5
  refine Kept.cut d5 ?_ fun hd5 => ?_
  · subst d5
    refine Kept.ite ?_ ?_
    · refine Kept.step (Device.recEvent_kept ..) ?_
      assumption
    · assumption
  clear_value d5
  refine Kept.step (Device.raise_kept ..) ?_
  refine Kept.step (Device.marginOnState_kept ..) ?_
  assumption
theorem Device.startEnum_kept (d : Device) : Kept d (Device.startEnum d) := by
  unfold Device.startEnum
  refine Kept.ite ?_ ?_
  · exact Kept.refl
  · extract_lets +onlyGivenNames d1
    refine Kept.cut d1 ?_ fun hd1 => ?_
    · subst d1
      refine Device.setConv_kept ?_
      exact Kept.refl
    clear_value d1
    refine Device.setLink_kept (fun _ h => by simpa [Link.Shaped, upd, clearBits] using h) ?_
    assumption
theorem Device.startCharge_kept (d : Device) : Kept d (Device.startCharge d) := by
  unfold Device.startCharge
  refine Kept.ite ?_ ?_
  · exact Kept.refl
  · refine Device.setConv_kept ?_
    exact Kept.refl
theorem Device.actRequest_kept (d : Device) (h : CmdHdr) (target : Nat) : Kept d (Device.actRequest d h target) := by
  unfold Device.actRequest
  split
  · refine Kept.step (Device.complete_kept ..) ?_
    exact Kept.refl
  · exact Kept.refl
  · split
    · refine Kept.step (Device.complete_kept ..) ?_
      refine Device.setConv_kept ?_
      exact Kept.refl
    · refine Kept.step (Device.complete_kept ..) ?_
      refine Kept.step (Device.startEnum_kept ..) ?_
      exact Kept.refl
    · refine Kept.step (Device.complete_kept ..) ?_
      refine Kept.step (Device.startCharge_kept ..) ?_
      exact Kept.refl
    · refine Kept.ite ?_ ?_
      · refine Device.setConv_kept ?_
        exact Kept.refl
      · refine Kept.step (Device.complete_kept ..) ?_
        refine Kept.step (Device.transition_kept ..) ?_
        exact Kept.refl
theorem Device.boundarySquall_kept (d : Device) : Kept d (Device.boundarySquall d).1 := by
  unfold Device.boundarySquall
  extract_lets +onlyGivenNames sq1
  extract_lets +onlyGivenNames d2
  refine Kept.cut d2 ?_ fun hd2 => ?_
  · subst d2
    refine Device.setConv_kept ?_
    exact Kept.refl
  clear_value d2
  split
  · refine Kept.fst_mk ?_
    assumption
  · extract_lets +onlyGivenNames s3
    split
    · refine Kept.fst_mk ?_
      refine Kept.step (Device.transition_kept ..) ?_
      assumption
    · refine Kept.fst_mk ?_
      refine Kept.step (Device.chargeFail_kept ..) ?_
      assumption
theorem Device.boundarySeq_kept (d : Device) : Kept d (Device.boundarySeq d).1 := by
  unfold Device.boundarySeq
  split
  · refine Kept.fst_mk ?_
    exact Kept.refl
  · split
    · refine Kept.fst_mk ?_
      exact Kept.refl
    · extract_lets +onlyGivenNames d1
      refine Kept.cut d1 ?_ fun hd1 => ?_
      · subst d1
        refine Device.setConv_kept ?_
        exact Kept.refl
      clear_value d1
      split
      · refine Kept.fst_mk ?_
        assumption
      · split
        · refine Kept.fst_mk ?_
          assumption
        · refine Kept.fst_mk ?_
          refine Kept.step (Device.transition_kept ..) ?_
          assumption
theorem Device.boundaryHost_kept (d : Device) (moved : Bool) : Kept d (Device.boundaryHost d moved) := by
  unfold Device.boundaryHost
  extract_lets +onlyGivenNames reqs1
  extract_lets +onlyGivenNames d2
  refine Kept.cut d2 ?_ fun hd2 => ?_
  · subst d2
    refine Device.setConv_kept ?_
    exact Kept.refl
  clear_value d2
  refine Kept.foldl_fst (fun x3 b4 hx3 => ?_) ?_
  · split
    split
    · refine Kept.fst_mk ?_
      refine Kept.step (Device.complete_kept ..) ?_
      assumption
    · extract_lets +onlyGivenNames n5
      extract_lets +onlyGivenNames d6
      refine Kept.cut d6 ?_ fun hd6 => ?_
      · subst d6
        refine Kept.step (Device.actRequest_kept ..) ?_
        assumption
      clear_value d6
      refine Kept.fst_mk ?_
      assumption
  · refine Kept.fst_mk ?_
    assumption
theorem Device.boundary_kept (d : Device) : Kept d (Device.boundary d) := by
  unfold Device.boundary
  extract_lets +onlyGivenNames d1
  refine Kept.cut d1 ?_ fun hd1 => ?_
  · subst d1
    refine Kept.ite ?_ ?_
    · refine Kept.step (Device.chargeFail_kept ..) ?_
      exact Kept.refl
    · exact Kept.refl
  clear_value d1
  split
  rename_i q2
  refine Kept.cut _ (Kept.of_fst q2 ?_) fun hx3 => ?_
  · refine Kept.step (Device.boundarySquall_kept ..) ?_
    assumption
  extract_lets +onlyGivenNames was4
  extract_lets +onlyGivenNames d5
  refine Kept.cut d5 ?_ fun hd5 => ?_
  · subst d5
    refine Kept.step (Device.levelUpdate_kept ..) ?_
    assumption
  clear_value d5
  extract_lets +onlyGivenNames entered6
  extract_lets +onlyGivenNames moved7
  extract_lets +onlyGivenNames mb8
  extract_lets +onlyGivenNames done99
  extract_lets +onlyGivenNames d10
  refine Kept.cut d10 ?_ fun hd10 => ?_
  · subst d10
    refine Device.setConv_kept ?_
    assumption
  clear_value d10
  split
  rename_i q11
  refine Kept.cut _ (Kept.of_fst q11 ?_) fun hx12 => ?_
  · split
    · refine Kept.fst_mk ?_
      assumption
    · refine Kept.step (Device.boundarySeq_kept ..) ?_
      assumption
  extract_lets +onlyGivenNames d13
  refine Kept.cut d13 ?_ fun hd13 => ?_
  · subst d13
    refine Kept.step (Device.boundaryHost_kept ..) ?_
    assumption
  clear_value d13
  extract_lets +onlyGivenNames lost14
  refine Kept.ite ?_ ?_
  · refine Device.setConv_kept ?_
    assumption
  · assumption

/-! ## Protection -/

theorem Device.refreshTin_kept (d : Device) (i : Nat) : Kept d (Device.refreshTin d i) := by
  unfold Device.refreshTin
  refine Kept.step (Device.setInput_kept ..) ?_
  exact Kept.refl
theorem Device.tinLevel_kept (d : Device) (i : Nat) (level : Bool) : Kept d (Device.tinLevel d i level) := by
  unfold Device.tinLevel
  refine Kept.ite ?_ ?_
  · exact Kept.refl
  · extract_lets +onlyGivenNames n1
    extract_lets +onlyGivenNames trans2
    extract_lets +onlyGivenNames d3
    refine Kept.cut d3 ?_ fun hd3 => ?_
    · subst d3
      refine Device.setProt_kept (fun _ h => by simpa [Prot.Shaped, upd, clearBits] using h) ?_
      exact Kept.refl
    clear_value d3
    extract_lets +onlyGivenNames d4
    refine Kept.cut d4 ?_ fun hd4 => ?_
    · subst d4
      refine Kept.ite ?_ ?_
      · refine Kept.step (Device.raise_kept ..) ?_
        refine Device.setProt_kept (fun _ h => by simpa [Prot.Shaped, upd, clearBits] using h) ?_
        assumption
      · assumption
    clear_value d4
    refine Kept.step (Device.refreshTin_kept ..) ?_
    assumption
theorem Device.buildWindows_kept (d : Device) : Kept d (Device.buildWindows d) := by
  unfold Device.buildWindows
  extract_lets +onlyGivenNames times1
  extract_lets +onlyGivenNames len2
  extract_lets +onlyGivenNames longest3
  extract_lets +onlyGivenNames build4
  refine Device.setProt_kept (fun _ h => by simpa [Prot.Shaped, upd, clearBits] using h) ?_
  exact Kept.refl
theorem Device.clearRequest_kept (d : Device) (i : Nat) (auto : Bool) : Kept d (Device.clearRequest d i auto) := by
  unfold Device.clearRequest
  extract_lets +onlyGivenNames x1
  refine Kept.ite ?_ ?_
  · exact Kept.refl
  · refine Kept.ite ?_ ?_
    · refine Kept.step (Device.rejectClear_kept ..) ?_
      exact Kept.refl
    · refine Kept.step (Device.setSrc_kept ..) ?_
      exact Kept.refl
theorem Device.rejectAtEdge_kept (d : Device) (i : Nat) : Kept d (Device.rejectAtEdge d i) := by
  unfold Device.rejectAtEdge
  extract_lets +onlyGivenNames d1
  refine Kept.cut d1 ?_ fun hd1 => ?_
  · subst d1
    refine Kept.step (Device.rejectClear_kept ..) ?_
    exact Kept.refl
  clear_value d1
  extract_lets +onlyGivenNames d2
  refine Kept.cut d2 ?_ fun hd2 => ?_
  · subst d2
    refine Kept.step (Device.recordTrip_kept ..) ?_
    assumption
  clear_value d2
  refine Kept.step (Device.squallTrigger_kept ..) ?_
  refine Kept.step (Device.setSrc_kept ..) ?_
  assumption
theorem Device.decideLatches_kept (d : Device) : Kept d (Device.decideLatches d) := by
  unfold Device.decideLatches
  extract_lets +onlyGivenNames pend1
  extract_lets +onlyGivenNames go2
  extract_lets +onlyGivenNames bad3
  extract_lets +onlyGivenNames auto4
  extract_lets +onlyGivenNames host5
  extract_lets +onlyGivenNames d6
  refine Kept.cut d6 ?_ fun hd6 => ?_
  · subst d6
    refine Kept.foldl (fun x7 b8 hx7 => ?_) ?_
    · refine Kept.step (Device.raise_kept ..) ?_
      refine Kept.step (Device.setSrc_kept ..) ?_
      assumption
    · exact Kept.refl
  clear_value d6
  extract_lets +onlyGivenNames d9
  refine Kept.cut d9 ?_ fun hd9 => ?_
  · subst d9
    refine Device.setProt_kept (fun _ h => by simpa [Prot.Shaped, upd, clearBits] using h) ?_
    assumption
  clear_value d9
  refine Kept.foldl (fun x10 b11 hx10 => ?_) ?_
  · refine Kept.step (Device.rejectAtEdge_kept ..) ?_
    assumption
  · assumption
theorem execTripInputChange_kept (t : Tick) (i : Fin 16) (level : Bool) (held : Nat) (s s' : State) (h : execTripInputChange t i level held s = .next s') : Kept s.dev s'.dev := by
  refine State.on_kept h fun d => ?_
  refine Kept.ite ?_ ?_
  · exact Kept.refl
  · refine Kept.step (Device.tinLevel_kept ..) ?_
    exact Kept.refl
theorem execBlankingWindowEnd_kept (t : Tick) (j : Fin 12) (s s' : State) (h : execBlankingWindowEnd t j s = .next s') : Kept s.dev s'.dev := by
  refine State.on_kept h fun d => ?_
  extract_lets +onlyGivenNames b1
  refine Kept.ite ?_ ?_
  · exact Kept.refl
  · extract_lets +onlyGivenNames out2
    extract_lets +onlyGivenNames d3
    refine Kept.cut d3 ?_ fun hd3 => ?_
    · subst d3
      refine Kept.ite ?_ ?_
      · refine Kept.step (Device.countWindow_kept ..) ?_
        exact Kept.refl
      · exact Kept.refl
    clear_value d3
    extract_lets +onlyGivenNames d4
    refine Kept.cut d4 ?_ fun hd4 => ?_
    · subst d4
      refine Device.setProt_kept (fun _ h => by simpa [Prot.Shaped, upd, clearBits] using h) ?_
      assumption
    clear_value d4
    refine Kept.ite ?_ ?_
    · refine Kept.step (Device.inputActive_kept ..) ?_
      refine Kept.step (Device.inputInactive_kept ..) ?_
      assumption
    · assumption
theorem execIncomingSquall_kept (t : Tick) (ring : Fin 12) (s s' : State) (h : execIncomingSquall t ring s = .next s') : Kept s.dev s'.dev := by
  refine State.on_kept h fun d => ?_
  refine Kept.ite ?_ ?_
  · exact Kept.refl
  · extract_lets +onlyGivenNames d1
    refine Kept.cut d1 ?_ fun hd1 => ?_
    · subst d1
      refine Kept.step (Device.hwSet_kept ..) ?_
      refine Device.setLink_kept (fun _ h => by simpa [Link.Shaped, upd, clearBits] using h) ?_
      exact Kept.refl
    clear_value d1
    extract_lets +onlyGivenNames d2
    refine Kept.cut d2 ?_ fun hd2 => ?_
    · subst d2
      refine Kept.step (Device.pmcPulse_kept ..) ?_
      assumption
    clear_value d2
    extract_lets +onlyGivenNames echo3
    extract_lets +onlyGivenNames x4
    extract_lets +onlyGivenNames d5
    refine Kept.cut d5 ?_ fun hd5 => ?_
    · subst d5
      refine Kept.ite ?_ ?_
      · refine Device.setProt_kept (fun _ h => by simpa [Prot.Shaped, upd, clearBits] using h) ?_
        assumption
      · assumption
    clear_value d5
    extract_lets +onlyGivenNames d6
    refine Kept.cut d6 ?_ fun hd6 => ?_
    · subst d6
      refine Kept.ite ?_ ?_
      · refine Device.setProt_kept (fun _ h => by simpa [Prot.Shaped, upd, clearBits] using h) ?_
        assumption
      · assumption
    clear_value d6
    refine Kept.ite ?_ ?_
    · assumption
    · extract_lets +onlyGivenNames d7
      refine Kept.cut d7 ?_ fun hd7 => ?_
      · subst d7
        refine Kept.step (Device.inputActive_kept ..) ?_
        assumption
      clear_value d7
      refine Kept.ite ?_ ?_
      · refine Kept.step (Device.squallTrigger_kept ..) ?_
        assumption
      · assumption
theorem execSquallHoldEnd_kept (t : Tick) (s s' : State) (h : execSquallHoldEnd t s = .next s') : Kept s.dev s'.dev := by
  refine State.on_kept h fun d => ?_
  refine Kept.ite ?_ ?_
  · refine Kept.step (Device.inputInactive_kept ..) ?_
    refine Device.setProt_kept (fun _ h => by simpa [Prot.Shaped, upd, clearBits] using h) ?_
    exact Kept.refl
  · exact Kept.refl
theorem execBurstEnd_kept (t : Tick) (s s' : State) (h : execBurstEnd t s = .next s') : Kept s.dev s'.dev := by
  refine State.on_kept h fun d => ?_
  refine Kept.ite ?_ ?_
  · refine Device.setProt_kept (fun _ h => by simpa [Prot.Shaped, upd, clearBits] using h) ?_
    exact Kept.refl
  · exact Kept.refl
theorem execEchoWindowEnd_kept (t : Tick) (s s' : State) (h : execEchoWindowEnd t s = .next s') : Kept s.dev s'.dev := by
  refine State.on_kept h fun d => ?_
  refine Kept.ite ?_ ?_
  · refine Device.setProt_kept (fun _ h => by simpa [Prot.Shaped, upd, clearBits] using h) ?_
    exact Kept.refl
  · exact Kept.refl
theorem execMultiWinElapsed_kept (t : Tick) (s s' : State) (h : execMultiWinElapsed t s = .next s') : Kept s.dev s'.dev := by
  refine State.on_kept h fun d => ?_
  extract_lets +onlyGivenNames r1
  refine Kept.ite ?_ ?_
  · exact Kept.refl
  · extract_lets +onlyGivenNames d2
    refine Kept.cut d2 ?_ fun hd2 => ?_
    · subst d2
      refine Device.setProt_kept (fun _ h => by simpa [Prot.Shaped, upd, clearBits] using h) ?_
      exact Kept.refl
    clear_value d2
    extract_lets +onlyGivenNames d3
    refine Kept.cut d3 ?_ fun hd3 => ?_
    · subst d3
      refine Kept.ite ?_ ?_
      · refine Kept.step (Device.raise_kept ..) ?_
        refine Device.setProt_kept (fun _ h => by simpa [Prot.Shaped, upd, clearBits] using h) ?_
        assumption
      · assumption
    clear_value d3
    extract_lets +onlyGivenNames flags4
    refine Kept.step (Device.raise_kept ..) ?_
    assumption
theorem execAutoClearRequest_kept (t : Tick) (i : Fin 48) (s s' : State) (h : execAutoClearRequest t i s = .next s') : Kept s.dev s'.dev := by
  refine State.on_kept h fun d => ?_
  extract_lets +onlyGivenNames x1
  refine Kept.ite ?_ ?_
  · exact Kept.refl
  · refine Kept.ite ?_ ?_
    · exact Kept.refl
    · refine Kept.step (Device.clearRequest_kept ..) ?_
      exact Kept.refl
theorem execTripRemind_kept (t : Tick) (i : Fin 48) (s s' : State) (h : execTripRemind t i s = .next s') : Kept s.dev s'.dev := by
  refine State.on_kept h fun d => ?_
  extract_lets +onlyGivenNames x1
  extract_lets +onlyGivenNames n2
  refine Kept.ite ?_ ?_
  · exact Kept.refl
  · refine Kept.step (Device.reminder_kept ..) ?_
    refine Kept.step (Device.setSrc_kept ..) ?_
    exact Kept.refl
theorem execCentreModeRecoveryEnd_kept (t : Tick) (s s' : State) (h : execCentreModeRecoveryEnd t s = .next s') : Kept s.dev s'.dev := by
  refine State.on_kept h fun d => ?_
  split
  · exact Kept.refl
  · refine Kept.ite ?_ ?_
    · exact Kept.refl
    · refine Device.setConv_kept ?_
      refine Device.setProt_kept (fun _ h => by simpa [Prot.Shaped, upd, clearBits] using h) ?_
      exact Kept.refl
theorem execEarthCurrentTrip_kept (t : Tick) (s s' : State) (h : execEarthCurrentTrip t s = .next s') : Kept s.dev s'.dev := by
  refine State.on_kept h fun d => ?_
  refine Kept.ite ?_ ?_
  · refine Kept.step (Device.inputActive_kept ..) ?_
    exact Kept.refl
  · exact Kept.refl
theorem execStarPointTrip_kept (t : Tick) (s s' : State) (h : execStarPointTrip t s = .next s') : Kept s.dev s'.dev := by
  refine State.on_kept h fun d => ?_
  refine Kept.ite ?_ ?_
  · refine Kept.step (Device.inputActive_kept ..) ?_
    exact Kept.refl
  · exact Kept.refl

end Sys2Proof.Machine
end

