-- ==== Sys2Proof/Laws/KeptCells.lean ====
section
/-! SUPPORT. Every operation, and then every command, leaves the device the counts the spec gives it (`Kept`): packs, metering, cell links. -/

namespace Sys2Proof.Machine

/-! ## Packs -/

theorem Device.setPack_kept (d : Device) (c : Nat) (f : Pack → Pack) : Kept d (Device.setPack d c f) := by
  unfold Device.setPack
  refine Device.setPacks_kept (fun _ h => by simpa [Packs.Shaped, upd, clearBits] using h) ?_
  exact Kept.refl
theorem Device.ocvInverse_kept (d : Device) (tbl : Nat) (v : Rat) (temp : Rat) : Kept d (Device.ocvInverse d tbl v temp).2 := by
  unfold Device.ocvInverse
  extract_lets +onlyGivenNames g1
  split
  · refine Kept.snd_mk ?_
    exact Kept.refl
  · split
    · refine Kept.snd_mk ?_
      exact Kept.refl
    · extract_lets +onlyGivenNames lo2
      split
      · split
        rename_i q3
        refine Kept.cut _ (Kept.of_snd q3 ?_) fun hx4 => ?_
        · refine Kept.step (Device.draw_kept ..) ?_
          exact Kept.refl
        refine Kept.snd_mk ?_
        assumption
      · refine Kept.snd_mk ?_
        exact Kept.refl
theorem Device.setCauses_kept (d : Device) (c : Nat) (mask : Nat) : Kept d (Device.setCauses d c mask) := by
  unfold Device.setCauses
  refine Kept.ite ?_ ?_
  · exact Kept.refl
  · refine Kept.step (Device.raiseRated_kept ..) ?_
    refine Kept.step (Device.setPack_kept ..) ?_
    exact Kept.refl
theorem Device.refreshCauses_kept (d : Device) (c : Nat) (add : Nat) (remove : Nat) : Kept d (Device.refreshCauses d c add remove) := by
  unfold Device.refreshCauses
  extract_lets +onlyGivenNames m1
  refine Kept.step (Device.setCauses_kept ..) ?_
  exact Kept.refl
theorem Device.restPack_kept (d : Device) (c : Nat) : Kept d (Device.restPack d c) := by
  unfold Device.restPack
  refine Kept.ite ?_ ?_
  · refine Kept.step (Device.setCell_kept ..) ?_
    exact Kept.refl
  · exact Kept.refl
theorem Device.xCheck_kept (d : Device) (c : Nat) (q : Nat) (dev : Rat) (bms : Rat) (tol : Rat) : Kept d (Device.xCheck d c q dev bms tol) := by
  unfold Device.xCheck
  extract_lets +onlyGivenNames run1
  extract_lets +onlyGivenNames mine2
  extract_lets +onlyGivenNames was3
  extract_lets +onlyGivenNames d4
  refine Kept.cut d4 ?_ fun hd4 => ?_
  · subst d4
    refine Kept.step (Device.setPack_kept ..) ?_
    exact Kept.refl
  clear_value d4
  refine Kept.ite ?_ ?_
  · assumption
  · extract_lets +onlyGivenNames d5
    refine Kept.cut d5 ?_ fun hd5 => ?_
    · subst d5
      refine Kept.step (Device.setPack_kept ..) ?_
      assumption
    clear_value d5
    split
    rename_i q6
    refine Kept.cut _ (Kept.of_snd q6 ?_) fun hx7 => ?_
    · refine Kept.step (Device.quant_kept ..) ?_
      assumption
    split
    rename_i q8
    refine Kept.cut _ (Kept.of_snd q8 ?_) fun hx9 => ?_
    · refine Kept.step (Device.quant_kept ..) ?_
      assumption
    extract_lets +onlyGivenNames d10
    refine Kept.cut d10 ?_ fun hd10 => ?_
    · subst d10
      refine Kept.step (Device.raise_kept ..) ?_
      assumption
    clear_value d10
    refine Kept.ite ?_ ?_
    · refine Kept.step (Device.refreshCauses_kept ..) ?_
      assumption
    · assumption
theorem Device.xCheckV_kept (d : Device) (c : Nat) (bms : Rat) (stamp : Tick) : Kept d (Device.xCheckV d c bms stamp) := by
  unfold Device.xCheckV
  extract_lets +onlyGivenNames l1
  refine Kept.ite ?_ ?_
  · exact Kept.refl
  · extract_lets +onlyGivenNames v2
    refine Kept.step (Device.xCheck_kept ..) ?_
    exact Kept.refl
theorem Device.xCheckI_kept (d : Device) (c : Nat) (sec : Nat) : Kept d (Device.xCheckI d c sec) := by
  unfold Device.xCheckI
  extract_lets +onlyGivenNames from_1
  extract_lets +onlyGivenNames l2
  refine Kept.ite ?_ ?_
  · exact Kept.refl
  · extract_lets +onlyGivenNames i3
    refine Kept.step (Device.xCheck_kept ..) ?_
    exact Kept.refl
theorem Device.xCheckRound_kept (d : Device) (c : Nat) (soh : Bool) : Kept d (Device.xCheckRound d c soh) := by
  unfold Device.xCheckRound
  extract_lets +onlyGivenNames o1
  refine Kept.ite ?_ ?_
  · exact Kept.refl
  · extract_lets +onlyGivenNames d2
    refine Kept.cut d2 ?_ fun hd2 => ?_
    · subst d2
      split
      · exact Kept.refl
      · refine Kept.step (Device.xCheck_kept ..) ?_
        exact Kept.refl
    clear_value d2
    refine Kept.ite ?_ ?_
    · assumption
    · split
      · assumption
      · refine Kept.step (Device.xCheck_kept ..) ?_
        assumption
theorem Device.newTenancy_kept (d : Device) (c : Nat) (ident : BitVec 64) : Kept d (Device.newTenancy d c ident) := by
  unfold Device.newTenancy
  extract_lets +onlyGivenNames d1
  refine Kept.cut d1 ?_ fun hd1 => ?_
  · subst d1
    refine Kept.step (Device.setPack_kept ..) ?_
    exact Kept.refl
  clear_value d1
  refine Kept.step (Device.raise_kept ..) ?_
  assumption
theorem Device.identReport_kept (d : Device) (c : Nat) (ident : BitVec 64) : Kept d (Device.identReport d c ident) := by
  unfold Device.identReport
  extract_lets +onlyGivenNames d1
  refine Kept.cut d1 ?_ fun hd1 => ?_
  · subst d1
    refine Kept.step (Device.setPack_kept ..) ?_
    exact Kept.refl
  clear_value d1
  refine Kept.ite ?_ ?_
  · refine Kept.step (Device.refreshCauses_kept ..) ?_
    assumption
  · refine Kept.ite ?_ ?_
    · refine Kept.ite ?_ ?_
      · assumption
      · refine Kept.step (Device.newTenancy_kept ..) ?_
        assumption
    · refine Kept.step (Device.raise_kept ..) ?_
      refine Kept.step (Device.refreshCauses_kept ..) ?_
      assumption
theorem Device.identHalves_kept (d : Device) (c : Nat) : Kept d (Device.identHalves d c) := by
  unfold Device.identHalves
  extract_lets +onlyGivenNames p1
  extract_lets +onlyGivenNames part2
  refine Kept.ite ?_ ?_
  · exact Kept.refl
  · split
    · refine Kept.step (Device.identReport_kept ..) ?_
      refine Kept.step (Device.setPack_kept ..) ?_
      exact Kept.refl
    · exact Kept.refl
theorem Device.tapRecord_kept (d : Device) (c : Nat) (fr : TunRec) (stamp : Tick) (matched : Bool) (down : Bool) : Kept d (Device.tapRecord d c fr stamp matched down) := by
  unfold Device.tapRecord
  split
  · exact Kept.refl
  · refine Kept.ite ?_ ?_
    · exact Kept.refl
    · extract_lets +onlyGivenNames j1
      extract_lets +onlyGivenNames id2
      extract_lets +onlyGivenNames bytes3
      extract_lets +onlyGivenNames d4
      extract_lets +onlyGivenNames d5
      refine Kept.cut d5 ?_ fun hd5 => ?_
      · subst d5
        refine Kept.step (Device.post_kept ..) ?_
        exact Kept.refl
      clear_value d5
      refine Kept.step (Device.msix_kept ..) ?_
      refine Device.setPacks_kept (fun _ h => by simpa [Packs.Shaped, upd, clearBits] using h) ?_
      assumption
theorem Device.profileMatch_kept (d : Device) (c : Nat) (fr : TunRec) : Kept d (Device.profileMatch d c fr) := by
  unfold Device.profileMatch
  refine Kept.ite ?_ ?_
  · exact Kept.refl
  · extract_lets +onlyGivenNames l1
    split
    · exact Kept.refl
    · refine Kept.step (Device.setPack_kept ..) ?_
      exact Kept.refl
theorem Device.takeField_kept (d : Device) (c : Nat) (m : Mapping) (data : BitVec 64) (stamp : Tick) : Kept d (Device.takeField d c m data stamp) := by
  unfold Device.takeField
  extract_lets +onlyGivenNames v1
  extract_lets +onlyGivenNames raw2
  refine Kept.step (Device.setPack_kept ..) ?_
  exact Kept.refl
theorem Device.bmsFrame_kept (d : Device) (c : Nat) (fr : TunRec) (stamp : Tick) : Kept d (Device.bmsFrame d c fr stamp) := by
  unfold Device.bmsFrame
  extract_lets +onlyGivenNames id1
  extract_lets +onlyGivenNames maps2
  extract_lets +onlyGivenNames d3
  refine Kept.cut d3 ?_ fun hd3 => ?_
  · subst d3
    refine Kept.step (Device.tapRecord_kept ..) ?_
    exact Kept.refl
  clear_value d3
  extract_lets +onlyGivenNames d4
  refine Kept.cut d4 ?_ fun hd4 => ?_
  · subst d4
    refine Kept.step (Device.profileMatch_kept ..) ?_
    assumption
  clear_value d4
  refine Kept.ite ?_ ?_
  · refine Device.setPacks_kept (fun _ h => by simpa [Packs.Shaped, upd, clearBits] using h) ?_
    assumption
  · extract_lets +onlyGivenNames d5
    refine Kept.cut d5 ?_ fun hd5 => ?_
    · subst d5
      refine Kept.foldl (fun x6 b7 hx6 => ?_) ?_
      · refine Kept.step (Device.takeField_kept ..) ?_
        assumption
      · assumption
    clear_value d5
    extract_lets +onlyGivenNames d8
    refine Kept.cut d8 ?_ fun hd8 => ?_
    · subst d8
      refine Kept.ite ?_ ?_
      · refine Kept.step (Device.identHalves_kept ..) ?_
        assumption
      · assumption
    clear_value d8
    extract_lets +onlyGivenNames d9
    refine Kept.cut d9 ?_ fun hd9 => ?_
    · subst d9
      split
      · assumption
      · refine Kept.step (Device.xCheckV_kept ..) ?_
        assumption
    clear_value d9
    refine Kept.step (Device.refreshCauses_kept ..) ?_
    assumption
theorem Device.queueDown_kept (d : Device) (c : Nat) (f : DownFrame) : Kept d (Device.queueDown d c f) := by
  unfold Device.queueDown
  extract_lets +onlyGivenNames q1
  refine Kept.ite ?_ ?_
  · refine Kept.step (Device.setNode_kept ..) ?_
    exact Kept.refl
  · extract_lets +onlyGivenNames i2
    refine Kept.ite ?_ ?_
    · refine Kept.step (Device.setNode_kept ..) ?_
      exact Kept.refl
    · exact Kept.refl
theorem Device.applyProfiles_kept (d : Device) : Kept d (Device.applyProfiles d) := by
  unfold Device.applyProfiles
  refine Kept.foldl (fun x1 b2 hx1 => ?_) ?_
  · extract_lets +onlyGivenNames new3
    extract_lets +onlyGivenNames d4
    refine Kept.cut d4 ?_ fun hd4 => ?_
    · subst d4
      refine Kept.ite ?_ ?_
      · assumption
      · refine Kept.step (Device.setPack_kept ..) ?_
        assumption
    clear_value d4
    extract_lets +onlyGivenNames unknown5
    extract_lets +onlyGivenNames d6
    refine Kept.cut d6 ?_ fun hd6 => ?_
    · subst d6
      refine Kept.step (Device.setPack_kept ..) ?_
      assumption
    clear_value d6
    refine Kept.step (Device.refreshCauses_kept ..) ?_
    assumption
  · exact Kept.refl
theorem Device.noProfiles_kept (d : Device) : Kept d (Device.noProfiles d) := by
  unfold Device.noProfiles
  refine Kept.foldl (fun x1 b2 hx1 => ?_) ?_
  · refine Kept.ite ?_ ?_
    · refine Kept.step (Device.refreshCauses_kept ..) ?_
      assumption
    · assumption
  · exact Kept.refl
theorem Device.commitProfiles_kept (d : Device) : Kept d (Device.commitProfiles d) := by
  unfold Device.commitProfiles
  refine Kept.ite ?_ ?_
  · exact Kept.refl
  · refine Kept.foldl (fun x1 b2 hx1 => ?_) ?_
    · refine Kept.ite ?_ ?_
      · refine Kept.step (Device.refreshCauses_kept ..) ?_
        assumption
      · refine Kept.step (Device.refreshCauses_kept ..) ?_
        assumption
    · exact Kept.refl
theorem execBmsTransmitFrame_kept (t : Tick) (cell : Fin 384) (q : Fin 2) (s s' : State) (h : execBmsTransmitFrame t cell q s = .next s') : Kept s.dev s'.dev := by
  refine State.on_kept h fun d => ?_
  extract_lets +onlyGivenNames pk1
  split
  · exact Kept.refl
  · extract_lets +onlyGivenNames ctl2
    extract_lets +onlyGivenNames period3
    refine Kept.ite ?_ ?_
    · exact Kept.refl
    · extract_lets +onlyGivenNames cnt4
      extract_lets +onlyGivenNames roll5
      extract_lets +onlyGivenNames id6
      extract_lets +onlyGivenNames fr7
      extract_lets +onlyGivenNames d8
      refine Kept.cut d8 ?_ fun hd8 => ?_
      · subst d8
        refine Kept.step (Device.setPack_kept ..) ?_
        exact Kept.refl
      clear_value d8
      refine Kept.step (Device.queueDown_kept ..) ?_
      assumption
theorem execPackSelectWrite_kept (t : Tick) (v : BitVec 32) (s s' : State) (h : execPackSelectWrite t v s = .next s') : Kept s.dev s'.dev := by
  refine State.on_kept h fun d => ?_
  extract_lets +onlyGivenNames d1
  refine Kept.cut d1 ?_ fun hd1 => ?_
  · subst d1
    refine Kept.step (Device.reserved_kept ..) ?_
    exact Kept.refl
  clear_value d1
  extract_lets +onlyGivenNames c2
  extract_lets +onlyGivenNames p3
  split
  rename_i q4
  refine Kept.cut _ (Kept.of_snd q4 ?_) fun hx5 => ?_
  · refine Kept.step (Device.quant_kept ..) ?_
    assumption
  split
  rename_i q6
  refine Kept.cut _ (Kept.of_snd q6 ?_) fun hx7 => ?_
  · refine Kept.step (Device.quant_kept ..) ?_
    assumption
  split
  rename_i q8
  refine Kept.cut _ (Kept.of_snd q8 ?_) fun hx9 => ?_
  · refine Kept.step (Device.quant_kept ..) ?_
    assumption
  split
  rename_i q10
  refine Kept.cut _ (Kept.of_snd q10 ?_) fun hx11 => ?_
  · refine Kept.step (Device.quant_kept ..) ?_
    assumption
  split
  rename_i q12
  refine Kept.cut _ (Kept.of_snd q12 ?_) fun hx13 => ?_
  · refine Kept.step (Device.quant_kept ..) ?_
    assumption
  extract_lets +onlyGivenNames flags14
  extract_lets +onlyGivenNames l15
  refine Device.setPacks_kept (fun _ h => by simpa [Packs.Shaped, upd, clearBits] using h) ?_
  assumption

/-! ## Meter -/

theorem Device.meterPiece_kept (d : Device) (c : Nat) (from_ : Tick) (i0 : Rat) (i1 : Rat) (v : Rat) (n : Nat) (p : Piece) : Kept d (Device.meterPiece d c from_ i0 i1 v n p) := by
  unfold Device.meterPiece
  extract_lets +onlyGivenNames q1
  extract_lets +onlyGivenNames k2
  split
  rename_i q3
  refine Kept.cut _ (Kept.of_snd q3 ?_) fun hx4 => ?_
  · refine Kept.step (Device.quant_kept ..) ?_
    exact Kept.refl
  split
  rename_i q5
  refine Kept.cut _ (Kept.of_snd q5 ?_) fun hx6 => ?_
  · refine Kept.step (Device.quant_kept ..) ?_
    assumption
  split
  rename_i q7
  refine Kept.cut _ (Kept.of_snd q7 ?_) fun hx8 => ?_
  · refine Kept.step (Device.quant_kept ..) ?_
    assumption
  split
  rename_i q9
  refine Kept.cut _ (Kept.of_snd q9 ?_) fun hx10 => ?_
  · refine Kept.step (Device.quant_kept ..) ?_
    assumption
  extract_lets +onlyGivenNames net11
  extract_lets +onlyGivenNames late12
  extract_lets +onlyGivenNames lateS13
  refine Kept.step (Device.setPack_kept ..) ?_
  assumption
theorem Device.windowV_kept (d : Device) (c : Nat) (from_ : Tick) (upTo : Tick) (v : Rat) (ok : Bool) : Kept d (Device.windowV d c from_ upTo v ok) := by
  unfold Device.windowV
  extract_lets +onlyGivenNames e1
  extract_lets +onlyGivenNames inNow2
  extract_lets +onlyGivenNames inNext3
  refine Kept.step (Device.setPack_kept ..) ?_
  exact Kept.refl
theorem Device.meterCell_kept (d : Device) (c : Nat) (edges : List Edge) (v : Rat) (est : Bool) : Kept d (Device.meterCell d c edges v est) := by
  unfold Device.meterCell
  extract_lets +onlyGivenNames x1
  extract_lets +onlyGivenNames arm2
  extract_lets +onlyGivenNames from_3
  extract_lets +onlyGivenNames upTo4
  refine Kept.ite ?_ ?_
  · exact Kept.refl
  · extract_lets +onlyGivenNames n5
    extract_lets +onlyGivenNames i6
    extract_lets +onlyGivenNames dt7
    extract_lets +onlyGivenNames used8
    extract_lets +onlyGivenNames blk9
    extract_lets +onlyGivenNames ps10
    extract_lets +onlyGivenNames d11
    refine Kept.cut d11 ?_ fun hd11 => ?_
    · subst d11
      refine Kept.foldl (fun x12 b13 hx12 => ?_) ?_
      · refine Kept.step (Device.meterPiece_kept ..) ?_
        assumption
      · exact Kept.refl
    clear_value d11
    extract_lets +onlyGivenNames d14
    refine Kept.cut d14 ?_ fun hd14 => ?_
    · subst d14
      refine Kept.step (Device.windowV_kept ..) ?_
      assumption
    clear_value d14
    extract_lets +onlyGivenNames kind15
    extract_lets +onlyGivenNames f16
    extract_lets +onlyGivenNames last17
    refine Kept.step (Device.setPack_kept ..) ?_
    assumption
theorem Device.meterClose_kept (d : Device) : Kept d (Device.meterClose d) := by
  unfold Device.meterClose
  refine Kept.foldl (fun x1 b2 hx1 => ?_) ?_
  · refine Kept.ite ?_ ?_
    · refine Kept.step (Device.meterCell_kept ..) ?_
      assumption
    · assumption
  · exact Kept.refl
theorem Device.meterOpen_kept (d : Device) : Kept d (Device.meterOpen d) := by
  unfold Device.meterOpen
  refine Device.setPacks_kept (fun _ h => by simpa [Packs.Shaped, upd, clearBits] using h) ?_
  exact Kept.refl
theorem Device.shiftSamples_kept (d : Device) : Kept d (Device.shiftSamples d) := by
  unfold Device.shiftSamples
  refine Device.setPacks_kept (fun _ h => by simpa [Packs.Shaped, upd, clearBits] using h) ?_
  exact Kept.refl
theorem Device.bankWrite_kept (d : Device) : Kept d (Device.bankWrite d) := by
  unfold Device.bankWrite
  extract_lets +onlyGivenNames m1
  extract_lets +onlyGivenNames b2
  extract_lets +onlyGivenNames b3
  extract_lets +onlyGivenNames b4
  refine Device.setMeter_kept (fun _ h => by simpa [Meter.Shaped, upd, clearBits] using h) ?_
  exact Kept.refl
theorem Device.ctbSecond_kept (d : Device) : Kept d (Device.ctbSecond d) := by
  unfold Device.ctbSecond
  extract_lets +onlyGivenNames n1
  refine Kept.ite ?_ ?_
  · exact Kept.refl
  · extract_lets +onlyGivenNames d2
    refine Kept.cut d2 ?_ fun hd2 => ?_
    · subst d2
      refine Kept.foldl (fun x3 b4 hx3 => ?_) ?_
      · refine Kept.step (Device.xCheckI_kept ..) ?_
        assumption
      · exact Kept.refl
    clear_value d2
    extract_lets +onlyGivenNames frozen5
    extract_lets +onlyGivenNames d6
    refine Kept.cut d6 ?_ fun hd6 => ?_
    · subst d6
      refine Device.setMeter_kept (fun _ h => by simpa [Meter.Shaped, upd, clearBits] using h) ?_
      assumption
    clear_value d6
    extract_lets +onlyGivenNames roll7
    extract_lets +onlyGivenNames d8
    refine Kept.cut d8 ?_ fun hd8 => ?_
    · subst d8
      refine Device.setPacks_kept (fun _ h => by simpa [Packs.Shaped, upd, clearBits] using h) ?_
      assumption
    clear_value d8
    refine Kept.step (Device.bankWrite_kept ..) ?_
    assumption
theorem Device.meterRestore_kept (d : Device) : Kept d (Device.meterRestore d) := by
  unfold Device.meterRestore
  extract_lets +onlyGivenNames good1
  extract_lets +onlyGivenNames best2
  clear_value best2
  split
  · extract_lets +onlyGivenNames d3
    refine Kept.cut d3 ?_ fun hd3 => ?_
    · subst d3
      refine Device.setMeter_kept (fun _ h => by simpa [Meter.Shaped, upd, clearBits] using h) ?_
      exact Kept.refl
    clear_value d3
    refine Kept.step (Device.bankWrite_kept ..) ?_
    refine Kept.step (Device.raise_kept ..) ?_
    assumption
  · extract_lets +onlyGivenNames b4
    extract_lets +onlyGivenNames d5
    refine Kept.cut d5 ?_ fun hd5 => ?_
    · subst d5
      refine Device.setMeter_kept (fun _ h => by simpa [Meter.Shaped, upd, clearBits] using h) ?_
      exact Kept.refl
    clear_value d5
    extract_lets +onlyGivenNames put6
    refine Kept.step (Device.bankWrite_kept ..) ?_
    refine Device.setPacks_kept (fun _ h => by simpa [Packs.Shaped, upd, clearBits] using h) ?_
    assumption
theorem Device.freezeSnapshot_kept (d : Device) : Kept d (Device.freezeSnapshot d) := by
  unfold Device.freezeSnapshot
  split
  · exact Kept.refl
  · refine Kept.ite ?_ ?_
    · exact Kept.refl
    · extract_lets +onlyGivenNames d1
      refine Kept.cut d1 ?_ fun hd1 => ?_
      · subst d1
        refine Device.setMeter_kept (fun _ h => by simpa [Meter.Shaped, upd, clearBits] using h) ?_
        exact Kept.refl
      clear_value d1
      extract_lets +onlyGivenNames cells2
      extract_lets +onlyGivenNames rec_3
      extract_lets +onlyGivenNames d4
      refine Kept.cut d4 ?_ fun hd4 => ?_
      · subst d4
        refine Kept.foldl (fun x5 b6 hx5 => ?_) ?_
        · refine Kept.step (Device.setPack_kept ..) ?_
          assumption
        · assumption
      clear_value d4
      refine Device.setMeter_kept (fun _ h => by simpa [Meter.Shaped, upd, clearBits] using h) ?_
      assumption
theorem Device.sign_kept (d : Device) (domain : Nat) (l : List (BitVec 8)) : Kept d (Device.sign d domain l).2.2 := by
  unfold Device.sign
  split
  rename_i q1
  refine Kept.cut _ (Kept.of_snd q1 ?_) fun hx2 => ?_
  · refine Kept.step (Device.draw_kept ..) ?_
    exact Kept.refl
  extract_lets +onlyGivenNames msg3
  extract_lets +onlyGivenNames len4
  refine Kept.third_mk ?_
  assumption
theorem Device.temperatures_kept (d : Device) (c : Nat) : Kept d (Device.temperatures d c) := by
  unfold Device.temperatures
  extract_lets +onlyGivenNames p1
  split
  · exact Kept.refl
  · refine Kept.ite ?_ ?_
    · extract_lets +onlyGivenNames onset2
      extract_lets +onlyGivenNames d3
      refine Kept.cut d3 ?_ fun hd3 => ?_
      · subst d3
        refine Kept.step (Device.setPack_kept ..) ?_
        exact Kept.refl
      clear_value d3
      extract_lets +onlyGivenNames d4
      refine Kept.cut d4 ?_ fun hd4 => ?_
      · subst d4
        refine Kept.step (Device.refreshCauses_kept ..) ?_
        assumption
      clear_value d4
      refine Kept.ite ?_ ?_
      · refine Kept.step (Device.raise_kept ..) ?_
        assumption
      · assumption
    · extract_lets +onlyGivenNames hi5
      extract_lets +onlyGivenNames lo6
      extract_lets +onlyGivenNames s7
      extract_lets +onlyGivenNames h8
      extract_lets +onlyGivenNames d9
      refine Kept.cut d9 ?_ fun hd9 => ?_
      · subst d9
        refine Kept.step (Device.setPack_kept ..) ?_
        exact Kept.refl
      clear_value d9
      refine Kept.ite ?_ ?_
      · refine Kept.step (Device.refreshCauses_kept ..) ?_
        assumption
      · assumption
theorem Device.obsInit_kept (d : Device) (c : Nat) (keep : Bool) : Kept d (Device.obsInit d c keep) := by
  unfold Device.obsInit
  extract_lets +onlyGivenNames x1
  split
  · exact Kept.refl
  · refine Kept.ite ?_ ?_
    · exact Kept.refl
    · extract_lets +onlyGivenNames s2
      extract_lets +onlyGivenNames temp3
      extract_lets +onlyGivenNames v4
      split
      rename_i q5
      refine Kept.cut _ (Kept.of_snd q5 ?_) fun hx6 => ?_
      · split
        · refine Kept.snd_mk ?_
          exact Kept.refl
        · refine Kept.step (Device.ocvInverse_kept ..) ?_
          exact Kept.refl
      extract_lets +onlyGivenNames ref7
      extract_lets +onlyGivenNames qn8
      extract_lets +onlyGivenNames o9
      extract_lets +onlyGivenNames start10
      extract_lets +onlyGivenNames rs11
      extract_lets +onlyGivenNames qi12
      refine Kept.step (Device.setPack_kept ..) ?_
      assumption
theorem Device.obsDiverge_kept (d : Device) (c : Nat) : Kept d (Device.obsDiverge d c) := by
  unfold Device.obsDiverge
  extract_lets +onlyGivenNames x1
  extract_lets +onlyGivenNames again2
  extract_lets +onlyGivenNames d3
  refine Kept.cut d3 ?_ fun hd3 => ?_
  · subst d3
    refine Kept.step (Device.setPack_kept ..) ?_
    exact Kept.refl
  clear_value d3
  extract_lets +onlyGivenNames d4
  refine Kept.cut d4 ?_ fun hd4 => ?_
  · subst d4
    refine Device.setPacks_kept (fun _ h => by simpa [Packs.Shaped, upd, clearBits] using h) ?_
    assumption
  clear_value d4
  extract_lets +onlyGivenNames d5
  refine Kept.cut d5 ?_ fun hd5 => ?_
  · subst d5
    refine Kept.step (Device.raise_kept ..) ?_
    assumption
  clear_value d5
  extract_lets +onlyGivenNames d6
  refine Kept.cut d6 ?_ fun hd6 => ?_
  · subst d6
    refine Kept.ite ?_ ?_
    · refine Kept.step (Device.refreshCauses_kept ..) ?_
      assumption
    · assumption
  clear_value d6
  refine Kept.step (Device.obsInit_kept ..) ?_
  assumption
theorem Device.writeRow_kept (d : Device) (c : Nat) : Kept d (Device.writeRow d c) := by
  unfold Device.writeRow
  extract_lets +onlyGivenNames p1
  extract_lets +onlyGivenNames ref2
  refine Kept.step (Device.restPack_kept ..) ?_
  refine Kept.step (Device.setCell_kept ..) ?_
  exact Kept.refl
theorem Device.roundPack_kept (d : Device) (c : Nat) : Kept d (Device.roundPack d c) := by
  unfold Device.roundPack
  extract_lets +onlyGivenNames d1
  refine Kept.cut d1 ?_ fun hd1 => ?_
  · subst d1
    refine Kept.step (Device.temperatures_kept ..) ?_
    exact Kept.refl
  clear_value d1
  extract_lets +onlyGivenNames x2
  extract_lets +onlyGivenNames d3
  extract_lets +onlyGivenNames d4
  extract_lets +onlyGivenNames d5
  refine Kept.cut d5 ?_ fun hd5 => ?_
  · subst d5
    split
    · assumption
    · refine Kept.ite ?_ ?_
      · refine Kept.step (Device.obsInit_kept ..) ?_
        assumption
      · split
        extract_lets +onlyGivenNames run6
        extract_lets +onlyGivenNames d7
        refine Kept.cut d7 ?_ fun hd7 => ?_
        · subst d7
          refine Kept.step (Device.setPack_kept ..) ?_
          assumption
        clear_value d7
        refine Kept.ite ?_ ?_
        · refine Kept.step (Device.obsDiverge_kept ..) ?_
          assumption
        · assumption
  clear_value d5
  refine Kept.step (Device.writeRow_kept ..) ?_
  refine Kept.step (Device.refreshCauses_kept ..) ?_
  assumption
theorem Device.balanceLoop_kept (d : Device) : Kept d (Device.balanceLoop d) := by
  unfold Device.balanceLoop
  extract_lets +onlyGivenNames s1
  extract_lets +onlyGivenNames mean2
  extract_lets +onlyGivenNames db3
  extract_lets +onlyGivenNames e4
  extract_lets +onlyGivenNames g5
  extract_lets +onlyGivenNames eab6
  extract_lets +onlyGivenNames kp7
  extract_lets +onlyGivenNames m8
  extract_lets +onlyGivenNames held9
  extract_lets +onlyGivenNames x10
  refine Device.setModu_kept (fun _ h => by simpa [Modu.Shaped, upd, clearBits] using h) ?_
  exact Kept.refl
theorem Device.roundLate_kept (d : Device) : Kept d (Device.roundLate d) := by
  unfold Device.roundLate
  extract_lets +onlyGivenNames l1
  refine Kept.ite ?_ ?_
  · exact Kept.refl
  · extract_lets +onlyGivenNames d2
    refine Kept.cut d2 ?_ fun hd2 => ?_
    · subst d2
      refine Kept.foldl (fun x3 b4 hx3 => ?_) ?_
      · refine Kept.step (Device.setPack_kept ..) ?_
        assumption
      · exact Kept.refl
    clear_value d2
    extract_lets +onlyGivenNames d5
    refine Kept.cut d5 ?_ fun hd5 => ?_
    · subst d5
      refine Kept.step (Device.hwSet_kept ..) ?_
      refine Device.setPacks_kept (fun _ h => by simpa [Packs.Shaped, upd, clearBits] using h) ?_
      assumption
    clear_value d5
    refine Kept.ite ?_ ?_
    · assumption
    · refine Kept.step (Device.raiseRated_kept ..) ?_
      assumption
theorem Device.sendObservers_kept (d : Device) (done : List Nat) : Kept d (Device.sendObservers d done) := by
  unfold Device.sendObservers
  refine Kept.foldl (fun x1 b2 hx1 => ?_) ?_
  · extract_lets +onlyGivenNames l3
    refine Kept.step (Device.activeSend_kept ..) ?_
    assumption
  · exact Kept.refl
theorem execValidationMarker_kept (t : Tick) (ring : Fin 13) (id : BitVec 16) (valid : Bool) (s s' : State) (h : execValidationMarker t ring id valid s = .next s') : Kept s.dev s'.dev := by
  refine State.on_kept h fun d => ?_
  extract_lets +onlyGivenNames mine1
  extract_lets +onlyGivenNames take2
  extract_lets +onlyGivenNames d3
  refine Kept.cut d3 ?_ fun hd3 => ?_
  · subst d3
    refine Kept.set_prov ?_
    exact Kept.refl
  clear_value d3
  refine Kept.ite ?_ ?_
  · assumption
  · refine Kept.foldl (fun x4 b5 hx4 => ?_) ?_
    · refine Kept.foldl (fun x6 b7 hx6 => ?_) ?_
      · refine Kept.step (Device.meterCell_kept ..) ?_
        assumption
      · assumption
    · assumption
theorem execMeterBankWriteDone_kept (t : Tick) (ok : Bool) (s s' : State) (h : execMeterBankWriteDone t ok s = .next s') : Kept s.dev s'.dev := by
  refine State.on_kept h fun d => ?_
  split
  · exact Kept.refl
  · extract_lets +onlyGivenNames i1
    extract_lets +onlyGivenNames d2
    refine Kept.cut d2 ?_ fun hd2 => ?_
    · subst d2
      refine Device.setMeter_kept (fun _ h => by simpa [Meter.Shaped, upd, clearBits] using h) ?_
      exact Kept.refl
    clear_value d2
    refine Kept.ite ?_ ?_
    · refine Device.setMeter_kept (fun _ h => by simpa [Meter.Shaped, upd, clearBits] using h) ?_
      assumption
    · extract_lets +onlyGivenNames d3
      refine Kept.cut d3 ?_ fun hd3 => ?_
      · subst d3
        refine Device.setMeter_kept (fun _ h => by simpa [Meter.Shaped, upd, clearBits] using h) ?_
        assumption
      clear_value d3
      extract_lets +onlyGivenNames d4
      refine Kept.cut d4 ?_ fun hd4 => ?_
      · subst d4
        refine Kept.step (Device.raise_kept ..) ?_
        assumption
      clear_value d4
      refine Kept.ite ?_ ?_
      · refine Kept.step (Device.errReport_kept ..) ?_
        assumption
      · assumption
theorem execSnapshotSigned_kept (t : Tick) (dmaOk : Bool) (s s' : State) (h : execSnapshotSigned t dmaOk s = .next s') : Kept s.dev s'.dev := by
  refine State.on_kept h fun d => ?_
  split
  · exact Kept.refl
  · refine Kept.ite ?_ ?_
    · exact Kept.refl
    · extract_lets +onlyGivenNames d1
      refine Kept.cut d1 ?_ fun hd1 => ?_
      · subst d1
        refine Device.setMeter_kept (fun _ h => by simpa [Meter.Shaped, upd, clearBits] using h) ?_
        exact Kept.refl
      clear_value d1
      refine Kept.ite ?_ ?_
      · refine Kept.step (Device.complete_kept ..) ?_
        assumption
      · refine Kept.ite ?_ ?_
        · refine Kept.step (Device.complete_kept ..) ?_
          refine Kept.step (Device.dmaFail_kept ..) ?_
          assumption
        · split
          rename_i q2
          refine Kept.cut _ (Kept.of_third q2 ?_) fun hx3 => ?_
          · refine Kept.step (Device.sign_kept ..) ?_
            assumption
          extract_lets +onlyGivenNames r4
          extract_lets +onlyGivenNames d5
          extract_lets +onlyGivenNames d6
          refine Kept.cut d6 ?_ fun hd6 => ?_
          · subst d6
            refine Kept.step (Device.post_kept ..) ?_
            assumption
          clear_value d6
          refine Kept.step (Device.complete_kept ..) ?_
          assumption
theorem execObserverRoundStart_kept (t : Tick) (left : Fin 385) (us : BitVec 16) (s s' : State) (h : execObserverRoundStart t left us s = .next s') : Kept s.dev s'.dev := by
  refine State.on_kept h fun d => ?_
  extract_lets +onlyGivenNames n1
  refine Kept.ite ?_ ?_
  · exact Kept.refl
  · extract_lets +onlyGivenNames d2
    refine Kept.cut d2 ?_ fun hd2 => ?_
    · subst d2
      refine Kept.step (Device.roundLate_kept ..) ?_
      exact Kept.refl
    clear_value d2
    extract_lets +onlyGivenNames adopts3
    extract_lets +onlyGivenNames d4
    refine Kept.cut d4 ?_ fun hd4 => ?_
    · subst d4
      refine Device.setTwin_kept (fun _ h => by simpa [Twin.Shaped, upd, clearBits] using h) ?_
      assumption
    clear_value d4
    extract_lets +onlyGivenNames cells5
    extract_lets +onlyGivenNames done6
    extract_lets +onlyGivenNames rest7
    extract_lets +onlyGivenNames d8
    refine Kept.cut d8 ?_ fun hd8 => ?_
    · subst d8
      refine Kept.step (Device.sendObservers_kept ..) ?_
      refine Kept.step (Device.pmcPulse_kept ..) ?_
      refine Kept.foldl (fun x9 b10 hx9 => ?_) ?_
      · refine Kept.step (Device.roundPack_kept ..) ?_
        assumption
      · assumption
    clear_value d8
    extract_lets +onlyGivenNames d11
    refine Kept.cut d11 ?_ fun hd11 => ?_
    · subst d11
      refine Kept.foldl (fun x12 b13 hx12 => ?_) ?_
      · refine Kept.step (Device.writeRow_kept ..) ?_
        assumption
      · assumption
    clear_value d11
    extract_lets +onlyGivenNames roll14
    extract_lets +onlyGivenNames d15
    refine Kept.cut d15 ?_ fun hd15 => ?_
    · subst d15
      refine Device.setPacks_kept (fun _ h => by simpa [Packs.Shaped, upd, clearBits] using h) ?_
      assumption
    clear_value d15
    refine Kept.step (Device.balanceLoop_kept ..) ?_
    assumption
theorem execObserverRoundLate_kept (t : Tick) (s s' : State) (h : execObserverRoundLate t s = .next s') : Kept s.dev s'.dev := by
  refine State.on_kept h fun d => ?_
  refine Kept.ite ?_ ?_
  · exact Kept.refl
  · refine Kept.step (Device.roundLate_kept ..) ?_
    exact Kept.refl

/-! ## Link -/

theorem Device.setRing_kept (d : Device) (r : Nat) (f : Ring → Ring) : Kept d (Device.setRing d r f) := by
  unfold Device.setRing
  refine Device.setLink_kept (fun _ h => by simpa [Link.Shaped, upd, clearBits] using h) ?_
  exact Kept.refl
theorem Device.linkErr_kept (d : Device) (r : Nat) (kind : Nat) (lane : Nat) : Kept d (Device.linkErr d r kind lane) := by
  unfold Device.linkErr
  refine Kept.step (Device.raiseRated_kept ..) ?_
  exact Kept.refl
theorem Device.desatOnset_kept (d : Device) (c : Nat) (seq : BitVec 16) : Kept d (Device.desatOnset d c seq) := by
  unfold Device.desatOnset
  extract_lets +onlyGivenNames p1
  extract_lets +onlyGivenNames base2
  extract_lets +onlyGivenNames l3
  extract_lets +onlyGivenNames d4
  refine Kept.cut d4 ?_ fun hd4 => ?_
  · subst d4
    refine Device.setProt_kept (fun _ h => by simpa [Prot.Shaped, upd, clearBits] using h) ?_
    exact Kept.refl
  clear_value d4
  extract_lets +onlyGivenNames arms5
  refine Kept.ite ?_ ?_
  · refine Kept.step (Device.desatTrip_kept ..) ?_
    assumption
  · refine Kept.ite ?_ ?_
    · refine Kept.step (Device.desatTrip_kept ..) ?_
      assumption
    · assumption
theorem Device.timeDiff_kept (d : Device) (c : Nat) (v : Int) : Kept d (Device.timeDiff d c v) := by
  unfold Device.timeDiff
  extract_lets +onlyGivenNames a1
  extract_lets +onlyGivenNames d2
  refine Kept.cut d2 ?_ fun hd2 => ?_
  · subst d2
    refine Kept.ite ?_ ?_
    · refine Device.setLink_kept (fun _ h => by simpa [Link.Shaped, upd, clearBits] using h) ?_
      exact Kept.refl
    · exact Kept.refl
  clear_value d2
  refine Kept.ite ?_ ?_
  · refine Kept.step (Device.raiseRated_kept ..) ?_
    assumption
  · assumption
theorem Device.tableStatus_kept (d : Device) (c : Nat) (vdc : Nat) (low : Bool) : Kept d (Device.tableStatus d c vdc low) := by
  unfold Device.tableStatus
  refine Kept.step (Device.restPack_kept ..) ?_
  refine Kept.step (Device.setCell_kept ..) ?_
  exact Kept.refl
theorem Device.useStatus_kept (d : Device) (c : Nat) (seq : BitVec 16) (slot : Slot) (isP : Bool) (late : Bool) : Kept d (Device.useStatus d c seq slot isP late) := by
  unfold Device.useStatus
  extract_lets +onlyGivenNames nv1
  extract_lets +onlyGivenNames again2
  extract_lets +onlyGivenNames x3
  extract_lets +onlyGivenNames bits34
  extract_lets +onlyGivenNames onset5
  extract_lets +onlyGivenNames d6
  refine Kept.cut d6 ?_ fun hd6 => ?_
  · subst d6
    refine Kept.step (Device.setNode_kept ..) ?_
    exact Kept.refl
  clear_value d6
  extract_lets +onlyGivenNames d7
  refine Kept.cut d7 ?_ fun hd7 => ?_
  · subst d7
    refine Kept.step (Device.onFrameOf_kept ..) ?_
    assumption
  clear_value d7
  extract_lets +onlyGivenNames st8
  extract_lets +onlyGivenNames low9
  extract_lets +onlyGivenNames d10
  refine Kept.cut d10 ?_ fun hd10 => ?_
  · subst d10
    refine Kept.step (Device.setCell_kept ..) ?_
    assumption
  clear_value d10
  extract_lets +onlyGivenNames d11
  refine Kept.cut d11 ?_ fun hd11 => ?_
  · subst d11
    refine Kept.ite ?_ ?_
    · refine Kept.step (Device.setNode_kept ..) ?_
      assumption
    · refine Kept.step (Device.tableStatus_kept ..) ?_
      assumption
  clear_value d11
  extract_lets +onlyGivenNames d12
  refine Kept.cut d12 ?_ fun hd12 => ?_
  · subst d12
    refine Kept.ite ?_ ?_
    · refine Kept.step (Device.desatOnset_kept ..) ?_
      assumption
    · assumption
  clear_value d12
  extract_lets +onlyGivenNames d13
  refine Kept.cut d13 ?_ fun hd13 => ?_
  · subst d13
    refine Kept.ite ?_ ?_
    · refine Device.setProt_kept (fun _ h => by simpa [Prot.Shaped, upd, clearBits] using h) ?_
      assumption
    · assumption
  clear_value d13
  extract_lets +onlyGivenNames d14
  refine Kept.cut d14 ?_ fun hd14 => ?_
  · subst d14
    split
    · refine Kept.step (Device.bypass_kept ..) ?_
      assumption
    · assumption
  clear_value d14
  extract_lets +onlyGivenNames d15
  refine Kept.cut d15 ?_ fun hd15 => ?_
  · subst d15
    refine Kept.ite ?_ ?_
    · refine Kept.step (Device.bpClosed_kept ..) ?_
      assumption
    · assumption
  clear_value d15
  refine Kept.step (Device.timeDiff_kept ..) ?_
  assumption
theorem Device.uplink_kept (d : Device) (r : Nat) (x : TunRec) : Kept d (Device.uplink d r x) := by
  unfold Device.uplink
  extract_lets +onlyGivenNames c1
  refine Kept.ite ?_ ?_
  · exact Kept.refl
  · extract_lets +onlyGivenNames d2
    refine Kept.cut d2 ?_ fun hd2 => ?_
    · subst d2
      refine Kept.step (Device.setNode_kept ..) ?_
      exact Kept.refl
    clear_value d2
    refine Kept.step (Device.bmsFrame_kept ..) ?_
    assumption
theorem Device.takeInfo_kept (d : Device) (c : Nat) (b : List (BitVec 8)) : Kept d (Device.takeInfo d c b) := by
  unfold Device.takeInfo
  extract_lets +onlyGivenNames q1
  refine Kept.step (Device.setNode_kept ..) ?_
  exact Kept.refl
theorem Device.nodeAbsent_kept (d : Device) (r : Nat) (pos : Nat) : Kept d (Device.nodeAbsent d r pos) := by
  unfold Device.nodeAbsent
  extract_lets +onlyGivenNames d1
  refine Kept.cut d1 ?_ fun hd1 => ?_
  · subst d1
    refine Kept.step (Device.setNode_kept ..) ?_
    exact Kept.refl
  clear_value d1
  refine Kept.step (Device.setRing_kept ..) ?_
  assumption
theorem Device.enumAnswer_kept (d : Device) (r : Nat) (x : SlowReq) : Kept d (Device.enumAnswer d r x) := by
  unfold Device.enumAnswer
  extract_lets +onlyGivenNames g1
  extract_lets +onlyGivenNames next2
  refine Kept.ite ?_ ?_
  · unfold next2
    refine Kept.step (Device.setRing_kept ..) ?_
    refine Kept.ite ?_ ?_
    · refine Kept.step (Device.takeInfo_kept ..) ?_
      exact Kept.refl
    · exact Kept.refl
  · extract_lets +onlyGivenNames pos3
    extract_lets +onlyGivenNames c4
    split
    · refine Kept.ite ?_ ?_
      · refine Kept.step (Device.nodeAbsent_kept ..) ?_
        exact Kept.refl
      · unfold next2
        refine Kept.step (Device.setRing_kept ..) ?_
        refine Kept.step (Device.takeInfo_kept ..) ?_
        exact Kept.refl
    · refine Kept.ite ?_ ?_
      · unfold next2
        refine Kept.step (Device.setRing_kept ..) ?_
        exact Kept.refl
      · refine Kept.step (Device.nodeAbsent_kept ..) ?_
        exact Kept.refl
    · refine Kept.ite ?_ ?_
      · unfold next2
        refine Kept.step (Device.setRing_kept ..) ?_
        refine Kept.step (Device.setNode_kept ..) ?_
        exact Kept.refl
      · refine Kept.ite ?_ ?_
        · refine Kept.step (Device.setRing_kept ..) ?_
          exact Kept.refl
        · refine Kept.step (Device.nodeAbsent_kept ..) ?_
          exact Kept.refl
    · refine Kept.ite ?_ ?_
      · refine Kept.step (Device.nodeAbsent_kept ..) ?_
        exact Kept.refl
      · unfold next2
        refine Kept.step (Device.setRing_kept ..) ?_
        refine Kept.step (Device.setRing_kept ..) ?_
        refine Kept.step (Device.setNode_kept ..) ?_
        exact Kept.refl
theorem Device.txnAnswer_kept (d : Device) (t : NodeTxn) (x : SlowReq) : Kept d (Device.txnAnswer d t x) := by
  unfold Device.txnAnswer
  extract_lets +onlyGivenNames d1
  refine Kept.cut d1 ?_ fun hd1 => ?_
  · subst d1
    refine Device.setLink_kept (fun _ h => by simpa [Link.Shaped, upd, clearBits] using h) ?_
    exact Kept.refl
  clear_value d1
  refine Kept.ite ?_ ?_
  · refine Kept.step (Device.complete_kept ..) ?_
    refine Kept.step (Device.post_kept ..) ?_
    assumption
  · refine Kept.ite ?_ ?_
    · refine Kept.step (Device.complete_kept ..) ?_
      assumption
    · refine Kept.step (Device.complete_kept ..) ?_
      assumption
theorem Device.slowAnswer_kept (d : Device) (r : Nat) (sent : SlowReq) (x : SlowReq) : Kept d (Device.slowAnswer d r sent x) := by
  unfold Device.slowAnswer
  refine Kept.ite ?_ ?_
  · exact Kept.refl
  · split
    · refine Kept.ite ?_ ?_
      · refine Kept.step (Device.enumAnswer_kept ..) ?_
        exact Kept.refl
      · exact Kept.refl
    · refine Kept.ite ?_ ?_
      · extract_lets +onlyGivenNames c1
        extract_lets +onlyGivenNames held2
        refine Kept.step (Device.setNode_kept ..) ?_
        refine Device.setLink_kept (fun _ h => by simpa [Link.Shaped, upd, clearBits] using h) ?_
        exact Kept.refl
      · split
        · refine Kept.step (Device.txnAnswer_kept ..) ?_
          exact Kept.refl
        · exact Kept.refl
theorem Device.ringReturn_kept (d : Device) (r : Nat) (dir : Bool) (lane : Bool) (filled : List Nat) : Kept d (Device.ringReturn d r dir lane filled) := by
  unfold Device.ringReturn
  refine Kept.ite ?_ ?_
  · extract_lets +onlyGivenNames d1
    refine Kept.cut d1 ?_ fun hd1 => ?_
    · subst d1
      refine Kept.step (Device.setRing_kept ..) ?_
      exact Kept.refl
    clear_value d1
    refine Kept.ite ?_ ?_
    · assumption
    · extract_lets +onlyGivenNames last2
      extract_lets +onlyGivenNames d3
      refine Kept.cut d3 ?_ fun hd3 => ?_
      · subst d3
        refine Kept.step (Device.setRing_kept ..) ?_
        assumption
      clear_value d3
      refine Kept.step (Device.raise_kept ..) ?_
      assumption
  · extract_lets +onlyGivenNames d4
    refine Kept.cut d4 ?_ fun hd4 => ?_
    · subst d4
      refine Kept.step (Device.setRing_kept ..) ?_
      exact Kept.refl
    clear_value d4
    extract_lets +onlyGivenNames g5
    refine Kept.ite ?_ ?_
    · refine Kept.step (Device.raise_kept ..) ?_
      refine Kept.step (Device.setRing_kept ..) ?_
      assumption
    · assumption
theorem Device.takeFrame_kept (d : Device) (r : Nat) (lane : Bool) (sent : TxFrame) (b : List (BitVec 8)) : Kept d (Device.takeFrame d r lane sent b) := by
  unfold Device.takeFrame
  extract_lets +onlyGivenNames f11
  extract_lets +onlyGivenNames dir2
  extract_lets +onlyGivenNames seqN3
  extract_lets +onlyGivenNames seq4
  extract_lets +onlyGivenNames late5
  extract_lets +onlyGivenNames laneN6
  extract_lets +onlyGivenNames slots7
  extract_lets +onlyGivenNames pre8
  extract_lets +onlyGivenNames good9
  extract_lets +onlyGivenNames bad10
  split
  rename_i q11
  refine Kept.cut _ (Kept.of_snd q11 ?_) fun hx12 => ?_
  · refine Kept.step (Device.quant_kept ..) ?_
    exact Kept.refl
  extract_lets +onlyGivenNames ret13
  extract_lets +onlyGivenNames d14
  refine Kept.cut d14 ?_ fun hd14 => ?_
  · subst d14
    refine Device.setLink_kept (fun _ h => by simpa [Link.Shaped, upd, clearBits] using h) ?_
    refine Kept.step (Device.setRing_kept ..) ?_
    assumption
  clear_value d14
  extract_lets +onlyGivenNames d15
  refine Kept.cut d15 ?_ fun hd15 => ?_
  · subst d15
    refine Kept.step (Device.stamp_kept ..) ?_
    refine Kept.step (Device.ringReturn_kept ..) ?_
    assumption
  clear_value d15
  extract_lets +onlyGivenNames d16
  refine Kept.cut d16 ?_ fun hd16 => ?_
  · subst d16
    refine Kept.step (Device.pmcPulse_kept ..) ?_
    refine Kept.step (Device.pmcPulse_kept ..) ?_
    assumption
  clear_value d16
  extract_lets +onlyGivenNames d17
  refine Kept.cut d17 ?_ fun hd17 => ?_
  · subst d17
    refine Kept.ite ?_ ?_
    · refine Kept.step (Device.linkErr_kept ..) ?_
      refine Kept.step (Device.setRing_kept ..) ?_
      assumption
    · assumption
  clear_value d17
  extract_lets +onlyGivenNames d18
  refine Kept.cut d18 ?_ fun hd18 => ?_
  · subst d18
    refine Kept.foldl (fun x19 b20 hx19 => ?_) ?_
    · refine Kept.step (Device.linkErr_kept ..) ?_
      refine Kept.step (Device.setRing_kept ..) ?_
      assumption
    · assumption
  clear_value d18
  extract_lets +onlyGivenNames d21
  extract_lets +onlyGivenNames d22
  refine Kept.cut d22 ?_ fun hd22 => ?_
  · subst d22
    refine Kept.ite ?_ ?_
    · refine Kept.step (Device.setRing_kept ..) ?_
      assumption
    · assumption
  clear_value d22
  extract_lets +onlyGivenNames use23
  extract_lets +onlyGivenNames d24
  refine Kept.cut d24 ?_ fun hd24 => ?_
  · subst d24
    refine Kept.foldl (fun x25 b26 hx25 => ?_) ?_
    · refine Kept.step (Device.useStatus_kept ..) ?_
      assumption
    · assumption
  clear_value d24
  extract_lets +onlyGivenNames d27
  refine Kept.cut d27 ?_ fun hd27 => ?_
  · subst d27
    refine Kept.step (Device.mdlSend_kept ..) ?_
    assumption
  clear_value d27
  extract_lets +onlyGivenNames held28
  extract_lets +onlyGivenNames d29
  refine Kept.cut d29 ?_ fun hd29 => ?_
  · subst d29
    refine Kept.ite ?_ ?_
    · assumption
    · refine Kept.set_prov ?_
      assumption
  clear_value d29
  extract_lets +onlyGivenNames tun30
  extract_lets +onlyGivenNames d31
  refine Kept.cut d31 ?_ fun hd31 => ?_
  · subst d31
    refine Kept.step (Device.pmcPulse_kept ..) ?_
    refine Kept.foldl (fun x32 b33 hx32 => ?_) ?_
    · refine Kept.step (Device.uplink_kept ..) ?_
      assumption
    · assumption
  clear_value d31
  split
  · refine Kept.step (Device.slowAnswer_kept ..) ?_
    assumption
  · assumption
theorem execReturningFrame_kept (t : Tick) (ring : Fin 12) (lane : Bool) (frame : List (BitVec 8)) (s s' : State) (h : execReturningFrame t ring lane frame s = .next s') : Kept s.dev s'.dev := by
  refine State.on_kept h fun d => ?_
  extract_lets +onlyGivenNames r1
  extract_lets +onlyGivenNames laneN2
  refine Kept.ite ?_ ?_
  · exact Kept.refl
  · extract_lets +onlyGivenNames d3
    refine Kept.cut d3 ?_ fun hd3 => ?_
    · subst d3
      refine Kept.ite ?_ ?_
      · refine Device.setTwin_kept (fun _ h => by simpa [Twin.Shaped, upd, clearBits] using h) ?_
        exact Kept.refl
      · exact Kept.refl
    clear_value d3
    refine Kept.ite ?_ ?_
    · refine Kept.step (Device.pmcPulse_kept ..) ?_
      refine Kept.step (Device.linkErr_kept ..) ?_
      refine Kept.step (Device.setRing_kept ..) ?_
      assumption
    · extract_lets +onlyGivenNames f14
      extract_lets +onlyGivenNames head5
      split
      · refine Kept.ite ?_ ?_
        · refine Kept.step (Device.linkErr_kept ..) ?_
          assumption
        · refine Kept.step (Device.takeFrame_kept ..) ?_
          assumption
      · refine Kept.step (Device.linkErr_kept ..) ?_
        assumption
theorem execPrqReceived_kept (t : Tick) (ring : Fin 12) (lane : Bool) (tag : BitVec 8) (s s' : State) (h : execPrqReceived t ring lane tag s = .next s') : Kept s.dev s'.dev := by
  refine State.on_kept h fun d => ?_
  refine Kept.ite ?_ ?_
  · exact Kept.refl
  · refine Device.setLink_kept (fun _ h => by simpa [Link.Shaped, upd, clearBits] using h) ?_
    exact Kept.refl
theorem execRingLaneLockChange_kept (t : Tick) (ring : Fin 12) (lane : Bool) (lock : Bool) (s s' : State) (h : execRingLaneLockChange t ring lane lock s = .next s') : Kept s.dev s'.dev := by
  refine State.on_kept h fun d => ?_
  refine Kept.ite ?_ ?_
  · exact Kept.refl
  · refine Kept.step (Device.setRing_kept ..) ?_
    exact Kept.refl

end Sys2Proof.Machine
end

