-- ==== Sys2Proof/Laws/KeptSafety.lean ====
section
/-! SUPPORT. Every operation, and then every command, leaves the device the counts the spec gives it (`Kept`): start-up, Bailsil, twin frames and twin operation, load-all. -/

namespace Sys2Proof.Machine

/-! ## Startup -/

theorem Device.bootImage_kept (d : Device) (i : Nat) (other : Bool) : Kept d (Device.bootImage d i other) := by
  unfold Device.bootImage
  extract_lets +onlyGivenNames x1
  extract_lets +onlyGivenNames d2
  refine Kept.cut d2 ?_ fun hd2 => ?_
  · subst d2
    refine Device.setConv_kept ?_
    exact Kept.refl
  clear_value d2
  refine Kept.set_sec ?_
  assumption
theorem Device.romBoot_kept (d : Device) (skip : Option Nat) : Kept d (Device.romBoot d skip) := by
  unfold Device.romBoot
  extract_lets +onlyGivenNames ok1
  extract_lets +onlyGivenNames none_2
  refine Kept.cut none_2 ?_ fun hnone_2 => ?_
  · subst none_2
    refine Device.setConv_kept ?_
    exact Kept.refl
  clear_value none_2
  split
  · split
    · refine Kept.ite ?_ ?_
      · refine Kept.step (Device.bootImage_kept ..) ?_
        exact Kept.refl
      · refine Kept.step (Device.bootImage_kept ..) ?_
        exact Kept.refl
    · refine Kept.step (Device.bootImage_kept ..) ?_
      exact Kept.refl
    · refine Kept.step (Device.bootImage_kept ..) ?_
      exact Kept.refl
    · assumption
  · refine Kept.ite ?_ ?_
    · refine Kept.step (Device.bootImage_kept ..) ?_
      exact Kept.refl
    · assumption
  · assumption
  · refine Device.setConv_kept ?_
    exact Kept.refl
theorem Device.cleared_kept (d : Device) : Kept d (Device.cleared d) := by
  refine ⟨fun s => ⟨⟨rfl, rfl⟩, ⟨rfl, rfl⟩, s.parCopies, rfl, ⟨rfl, List.length_replicate ..⟩, List.length_replicate .., s.meter, ⟨rfl, List.length_replicate ..⟩, ⟨rfl, rfl, rfl⟩, s.safety, ⟨rfl, rfl, rfl⟩, ⟨rfl, rfl, rfl, rfl, rfl⟩, rfl, rfl,
    ⟨rfl, ?_⟩, ⟨rfl, rfl, rfl, rfl, rfl, rfl, ?_⟩⟩⟩
  · exact (by decide : ∀ l ∈ Zephyr.reset.pmc.ctrs, l.length = 16)
  · exact (by decide : ∀ l ∈ Net.reset.best, l.length = 2)
theorem Device.awaitBeats_kept (d : Device) : Kept d (Device.awaitBeats d) := by
  unfold Device.awaitBeats
  refine Kept.set_safety (fun h => by simpa [Safety.Shaped, upd, clearBits] using h) ?_
  exact Kept.refl
theorem Device.deviceReset_kept (d : Device) (skip : Option Nat) : Kept d (Device.deviceReset d skip) := by
  exact Kept.step (Device.romBoot_kept ..) (Kept.step (Device.awaitBeats_kept ..) (Device.cleared_kept ..))
theorem Device.recover_kept (d : Device) (b : List (BitVec 8)) : Kept d (Device.recover d b) := by
  unfold Device.recover
  refine Kept.ite Kept.refl ?_
  exact Kept.set_sec (Device.setConv_kept (Kept.step (Device.awaitBeats_kept ..) (Device.cleared_kept ..)))
theorem Device.safetyCopy_kept (d : Device) : Kept d (Device.safetyCopy d) := by
  unfold Device.safetyCopy
  extract_lets +onlyGivenNames set1
  refine Kept.set_safety (fun h => by simpa [Safety.Shaped, upd, clearBits] using h) ?_
  exact Kept.refl
theorem Device.gateRestore_kept (d : Device) : Kept d (Device.gateRestore d) := by
  unfold Device.gateRestore
  extract_lets +onlyGivenNames start1
  extract_lets +onlyGivenNames one2
  extract_lets +onlyGivenNames l3
  extract_lets +onlyGivenNames d4
  refine Kept.cut d4 ?_ fun hd4 => ?_
  · subst d4
    refine Device.setProt_kept (fun _ h => by simpa [Prot.Shaped, upd, clearBits] using h) ?_
    exact Kept.refl
  clear_value d4
  refine Device.setProt_kept (fun _ h => by simpa [Prot.Shaped, upd, clearBits] using h) ?_
  assumption
theorem Device.logRestore_kept (d : Device) : Kept d (Device.logRestore d) := by
  unfold Device.logRestore
  refine Device.setEh_kept ?_
  exact Kept.refl
theorem Device.enterOff_kept (d : Device) : Kept d (Device.enterOff d) := by
  unfold Device.enterOff
  extract_lets +onlyGivenNames d1
  refine Kept.cut d1 ?_ fun hd1 => ?_
  · subst d1
    refine Device.setConv_kept ?_
    exact Kept.refl
  clear_value d1
  extract_lets +onlyGivenNames d2
  refine Kept.cut d2 ?_ fun hd2 => ?_
  · subst d2
    refine Device.setHost_kept (fun _ h => by simpa [HostPort.Shaped, upd, clearBits] using h) ?_
    assumption
  clear_value d2
  refine Kept.ite ?_ ?_
  · refine Kept.step (Device.raise_kept ..) ?_
    assumption
  · assumption
theorem Device.stepWork_kept (d : Device) (step : Nat) : Kept d (Device.stepWork d step) := by
  unfold Device.stepWork
  refine Kept.ite ?_ ?_
  · extract_lets +onlyGivenNames d1
    refine Kept.cut d1 ?_ fun hd1 => ?_
    · subst d1
      refine Kept.step (Device.newForce_kept ..) ?_
      refine Kept.step (Device.logRestore_kept ..) ?_
      refine Kept.step (Device.gateRestore_kept ..) ?_
      refine Kept.step (Device.meterRestore_kept ..) ?_
      refine Kept.step (Device.safetyCopy_kept ..) ?_
      refine Kept.step (Device.loadParams_kept ..) ?_
      exact Kept.refl
    clear_value d1
    extract_lets +onlyGivenNames d2
    refine Kept.cut d2 ?_ fun hd2 => ?_
    · subst d2
      refine Device.setLaw_kept (fun _ h => by simpa [Law.Shaped, upd, clearBits] using h) ?_
      refine Kept.step (Device.clkoutCommit_kept ..) ?_
      assumption
    clear_value d2
    extract_lets +onlyGivenNames d3
    extract_lets +onlyGivenNames d4
    refine Kept.cut d4 ?_ fun hd4 => ?_
    · subst d4
      refine Kept.set_sec ?_
      assumption
    clear_value d4
    refine Kept.foldl (fun x5 b6 hx5 => ?_) ?_
    · refine Kept.step (Device.refreshTin_kept ..) ?_
      assumption
    · assumption
  · refine Kept.ite ?_ ?_
    · refine Kept.set_safety (fun h => by simpa [Safety.Shaped, upd, clearBits] using h) ?_
      exact Kept.refl
    · refine Kept.ite ?_ ?_
      · refine Kept.step (Device.inputActive_kept ..) ?_
        exact Kept.refl
      · refine Kept.ite ?_ ?_
        · refine Kept.step (Device.enterOff_kept ..) ?_
          exact Kept.refl
        · exact Kept.refl
theorem Device.refFaultAll_kept (d : Device) : Kept d (Device.refFaultAll d) := by
  unfold Device.refFaultAll
  refine Kept.foldl (fun x1 b2 hx1 => ?_) ?_
  · refine Kept.step (Device.refFault_kept ..) ?_
    assumption
  · exact Kept.refl
theorem Device.setLow_kept (d : Device) (v : Nat) (low : Bool) : Kept d (Device.setLow d v low) := by
  unfold Device.setLow
  refine Kept.set_rails ?_
  exact Kept.refl
theorem Device.compareRing_kept (d : Device) (r : Nat) : Kept d (Device.compareRing d r) := by
  unfold Device.compareRing
  extract_lets +onlyGivenNames expect1
  extract_lets +onlyGivenNames g2
  refine Kept.ite ?_ ?_
  · exact Kept.refl
  · extract_lets +onlyGivenNames fault3
    extract_lets +onlyGivenNames n4
    split
    extract_lets +onlyGivenNames d5
    refine Kept.cut d5 ?_ fun hd5 => ?_
    · subst d5
      refine Kept.step (Device.setRing_kept ..) ?_
      exact Kept.refl
    clear_value d5
    extract_lets +onlyGivenNames d6
    refine Kept.cut d6 ?_ fun hd6 => ?_
    · subst d6
      refine Kept.ite ?_ ?_
      · refine Kept.step (Device.raise_kept ..) ?_
        assumption
      · assumption
    clear_value d6
    extract_lets +onlyGivenNames reason7
    refine Kept.ite ?_ ?_
    · refine Kept.step (Device.raise_kept ..) ?_
      refine Device.setConv_kept ?_
      refine Kept.step (Device.setRing_kept ..) ?_
      assumption
    · extract_lets +onlyGivenNames d8
      refine Kept.cut d8 ?_ fun hd8 => ?_
      · subst d8
        refine Kept.foldl (fun x9 b10 hx9 => ?_) ?_
        · refine Kept.step (Device.setNode_kept ..) ?_
          assumption
        · assumption
      clear_value d8
      refine Kept.ite ?_ ?_
      · refine Kept.step (Device.raise_kept ..) ?_
        refine Device.setConv_kept ?_
        assumption
      · assumption
theorem Device.preChargeStart_kept (d : Device) : Kept d (Device.preChargeStart d) := by
  unfold Device.preChargeStart
  refine Kept.ite ?_ ?_
  · refine Device.setConv_kept ?_
    exact Kept.refl
  · refine Device.setConv_kept ?_
    exact Kept.refl
theorem execDeviceReset_kept (t : Tick) (power : Bool) (twinId : Bool) (twinEn : Bool) (bootSel : BitVec 2) (s s' : State) (h : execDeviceReset t power twinId twinEn bootSel s = .next s') : Kept s.dev s'.dev := by
  refine State.on_kept h fun d => ?_
  extract_lets +onlyGivenNames d1 d2
  have h1 : Kept d d1 := Kept.set_straps Kept.refl
  have h2 : Kept d d2 := Kept.ite (Device.setConv_kept (Kept.set_rails h1)) h1
  exact Kept.ite (Device.setConv_kept (Kept.step (Device.cleared_kept ..) h2)) (Kept.step (Device.deviceReset_kept ..) h2)
theorem execBootWatchdogExpiry_kept (t : Tick) (s s' : State) (h : execBootWatchdogExpiry t s = .next s') : Kept s.dev s'.dev := by
  refine State.on_kept h fun d => ?_
  refine Kept.ite Kept.refl ?_
  extract_lets +onlyGivenNames was falls other d1
  have h1 : Kept d d1 := Device.setConv_kept (Kept.step (Device.awaitBeats_kept ..) (Device.cleared_kept ..))
  refine Kept.ite ?_ (Device.setConv_kept h1)
  exact Kept.trans (Kept.step (Device.romBoot_kept ..) h1) ⟨fun s => ⟨s.clk, s.host, s.parCopies, s.brk, s.modu, s.packs, s.meter, s.link, s.prot, s.safety, s.twin, s.meas, s.law, s.recd, s.pmc, s.net⟩⟩
theorem execRecoveryImageLengthWrite_kept (t : Tick) (len : BitVec 32) (s s' : State) (h : execRecoveryImageLengthWrite t len s = .next s') : Kept s.dev s'.dev := by
  refine State.on_kept h fun d => ?_
  exact Kept.ite Kept.refl (Device.recover_kept ..)
theorem execManagementUartRecovery_kept (t : Tick) (image : List (BitVec 8)) (s s' : State) (h : execManagementUartRecovery t image s = .next s') : Kept s.dev s'.dev := by
  refine State.on_kept h fun d => ?_
  exact Kept.ite Kept.refl (Device.recover_kept ..)
theorem execBringUpStepDone_kept (t : Tick) (fail : BitVec 8) (test : BitVec 8) (s s' : State) (h : execBringUpStepDone t fail test s = .next s') : Kept s.dev s'.dev := by
  refine State.on_kept h fun d => ?_
  extract_lets +onlyGivenNames n1
  refine Kept.ite ?_ ?_
  · exact Kept.refl
  · extract_lets +onlyGivenNames d2
    refine Kept.cut d2 ?_ fun hd2 => ?_
    · subst d2
      refine Kept.foldl (fun x3 b4 hx3 => ?_) ?_
      · refine Kept.ite ?_ ?_
        · refine Kept.step (Device.errReport_kept ..) ?_
          refine Kept.step (Device.raise_kept ..) ?_
          assumption
        · refine Device.setConv_kept ?_
          assumption
      · exact Kept.refl
    clear_value d2
    refine Device.setConv_kept ?_
    refine Kept.step (Device.stepWork_kept ..) ?_
    assumption
theorem execEnumDiscoverDone_kept (t : Tick) (s s' : State) (h : execEnumDiscoverDone t s = .next s') : Kept s.dev s'.dev := by
  refine State.on_kept h fun d => ?_
  refine Kept.ite ?_ ?_
  · exact Kept.refl
  · extract_lets +onlyGivenNames d1
    refine Kept.cut d1 ?_ fun hd1 => ?_
    · subst d1
      refine Device.setConv_kept ?_
      exact Kept.refl
    clear_value d1
    extract_lets +onlyGivenNames d2
    refine Kept.cut d2 ?_ fun hd2 => ?_
    · subst d2
      refine Kept.foldl (fun x3 b4 hx3 => ?_) ?_
      · refine Kept.step (Device.compareRing_kept ..) ?_
        assumption
      · assumption
    clear_value d2
    refine Device.setConv_kept ?_
    assumption
theorem execEnumPreloadDone_kept (t : Tick) (s s' : State) (h : execEnumPreloadDone t s = .next s') : Kept s.dev s'.dev := by
  refine State.on_kept h fun d => ?_
  refine Kept.ite ?_ ?_
  · exact Kept.refl
  · extract_lets +onlyGivenNames d1
    refine Kept.cut d1 ?_ fun hd1 => ?_
    · subst d1
      refine Device.setPacks_kept (fun _ h => by simpa [Packs.Shaped, upd, clearBits] using h) ?_
      exact Kept.refl
    clear_value d1
    refine Device.setConv_kept ?_
    assumption
theorem execEnumMatchEnd_kept (t : Tick) (s s' : State) (h : execEnumMatchEnd t s = .next s') : Kept s.dev s'.dev := by
  refine State.on_kept h fun d => ?_
  extract_lets +onlyGivenNames open_1
  refine Kept.ite ?_ ?_
  · exact Kept.refl
  · refine Device.setConv_kept ?_
    refine Kept.step (Device.noProfiles_kept ..) ?_
    exact Kept.refl
theorem execChargeContactEnd_kept (t : Tick) (s s' : State) (h : execChargeContactEnd t s = .next s') : Kept s.dev s'.dev := by
  refine State.on_kept h fun d => ?_
  extract_lets +onlyGivenNames ready1
  refine Kept.ite ?_ ?_
  · exact Kept.refl
  · refine Kept.ite ?_ ?_
    · refine Kept.step (Device.chargeFail_kept ..) ?_
      exact Kept.refl
    · refine Kept.ite ?_ ?_
      · refine Device.setConv_kept ?_
        exact Kept.refl
      · refine Kept.step (Device.preChargeStart_kept ..) ?_
        exact Kept.refl
theorem execChargeCellTestEnd_kept (t : Tick) (s s' : State) (h : execChargeCellTestEnd t s = .next s') : Kept s.dev s'.dev := by
  refine State.on_kept h fun d => ?_
  refine Kept.ite ?_ ?_
  · exact Kept.refl
  · refine Kept.ite ?_ ?_
    · refine Kept.step (Device.chargeFail_kept ..) ?_
      exact Kept.refl
    · refine Kept.step (Device.preChargeStart_kept ..) ?_
      exact Kept.refl
theorem execPreChargeDwellEnd_kept (t : Tick) (s s' : State) (h : execPreChargeDwellEnd t s = .next s') : Kept s.dev s'.dev := by
  refine State.on_kept h fun d => ?_
  refine Kept.ite ?_ ?_
  · exact Kept.refl
  · refine Kept.ite ?_ ?_
    · refine Kept.step (Device.chargeFail_kept ..) ?_
      exact Kept.refl
    · refine Device.setConv_kept ?_
      exact Kept.refl

/-! ## Bailsil -/

theorem Device.setSin_kept (d : Device) (n : Nat) (f : SafeIn → SafeIn) : Kept d (Device.setSin d n f) := by
  unfold Device.setSin
  refine Device.setSaf_kept (fun _ h => by simpa [Safety.Shaped, upd, clearBits] using h) ?_
  exact Kept.refl
theorem Device.setSout_kept (d : Device) (n : Nat) (f : SafeOut → SafeOut) : Kept d (Device.setSout d n f) := by
  unfold Device.setSout
  refine Device.setSaf_kept (fun _ h => by simpa [Safety.Shaped, upd, clearBits] using h) ?_
  exact Kept.refl
theorem Device.setSafe_kept (d : Device) (f : SafeConn → SafeConn) : Kept d (Device.setSafe d f) := by
  unfold Device.setSafe
  refine Device.setSaf_kept (fun _ h => by simpa [Safety.Shaped, upd, clearBits] using h) ?_
  exact Kept.refl
theorem Device.startChecks_kept (d : Device) : Kept d (Device.startChecks d) := by
  unfold Device.startChecks
  refine Kept.foldl (fun x1 b2 hx1 => ?_) ?_
  · extract_lets +onlyGivenNames x3
    refine Kept.ite ?_ ?_
    · refine Kept.step (Device.setSout_kept ..) ?_
      assumption
    · assumption
  · exact Kept.refl
theorem Device.driveOutputs_kept (d : Device) : Kept d (Device.driveOutputs d) := by
  unfold Device.driveOutputs
  refine Kept.foldl (fun x1 b2 hx1 => ?_) ?_
  · extract_lets +onlyGivenNames x3
    extract_lets +onlyGivenNames on4
    extract_lets +onlyGivenNames chk5
    extract_lets +onlyGivenNames hs6
    extract_lets +onlyGivenNames ls7
    extract_lets +onlyGivenNames rose8
    refine Kept.step (Device.setSout_kept ..) ?_
    assumption
  · refine Kept.step (Device.startChecks_kept ..) ?_
    exact Kept.refl
theorem Device.latchFn_kept (d : Device) (fn : Nat) (src : Nat) : Kept d (Device.latchFn d fn src) := by
  unfold Device.latchFn
  refine Kept.ite ?_ ?_
  · exact Kept.refl
  · extract_lets +onlyGivenNames d1
    refine Kept.cut d1 ?_ fun hd1 => ?_
    · subst d1
      refine Device.setSaf_kept (fun _ h => by simpa [Safety.Shaped, upd, clearBits] using h) ?_
      exact Kept.refl
    clear_value d1
    refine Kept.step (Device.raise_kept ..) ?_
    assumption
theorem Device.demandOne_kept (d : Device) (fn : Nat) (src : Nat) : Kept d (Device.demandOne d fn src) := by
  unfold Device.demandOne
  refine Kept.ite ?_ ?_
  · exact Kept.refl
  · extract_lets +onlyGivenNames d1
    extract_lets +onlyGivenNames d2
    refine Kept.cut d2 ?_ fun hd2 => ?_
    · subst d2
      refine Device.setSaf_kept (fun _ h => by simpa [Safety.Shaped, upd, clearBits] using h) ?_
      exact Kept.refl
    clear_value d2
    extract_lets +onlyGivenNames d3
    refine Kept.cut d3 ?_ fun hd3 => ?_
    · subst d3
      refine Kept.step (Device.latchFn_kept ..) ?_
      assumption
    clear_value d3
    refine Kept.ite ?_ ?_
    · refine Kept.ite ?_ ?_
      · refine Kept.step (Device.squallTrigger_kept ..) ?_
        assumption
      · refine Kept.step (Device.inputActive_kept ..) ?_
        assumption
    · assumption
theorem Device.demandOn_kept (d : Device) (fn : Nat) (src : Nat) : Kept d (Device.demandOn d fn src) := by
  unfold Device.demandOn
  refine Kept.ite ?_ ?_
  · exact Kept.refl
  · refine Kept.ite ?_ ?_
    · extract_lets +onlyGivenNames was1
      extract_lets +onlyGivenNames d2
      refine Kept.cut d2 ?_ fun hd2 => ?_
      · subst d2
        refine Kept.step (Device.demandOne_kept ..) ?_
        refine Kept.step (Device.demandOne_kept ..) ?_
        exact Kept.refl
      clear_value d2
      extract_lets +onlyGivenNames d3
      refine Kept.cut d3 ?_ fun hd3 => ?_
      · subst d3
        refine Kept.ite ?_ ?_
        · assumption
        · refine Device.setSaf_kept (fun _ h => by simpa [Safety.Shaped, upd, clearBits] using h) ?_
          assumption
      clear_value d3
      refine Kept.step (Device.driveOutputs_kept ..) ?_
      assumption
    · refine Kept.step (Device.driveOutputs_kept ..) ?_
      refine Kept.step (Device.demandOne_kept ..) ?_
      exact Kept.refl
theorem Device.demandOff_kept (d : Device) (fn : Nat) (src : Nat) : Kept d (Device.demandOff d fn src) := by
  unfold Device.demandOff
  extract_lets +onlyGivenNames d1
  refine Kept.cut d1 ?_ fun hd1 => ?_
  · subst d1
    refine Device.setSaf_kept (fun _ h => by simpa [Safety.Shaped, upd, clearBits] using h) ?_
    exact Kept.refl
  clear_value d1
  refine Kept.ite ?_ ?_
  · refine Device.setSaf_kept (fun _ h => by simpa [Safety.Shaped, upd, clearBits] using h) ?_
    assumption
  · assumption
theorem Device.demandSet_kept (d : Device) (fn : Nat) (src : Nat) (on : Bool) : Kept d (Device.demandSet d fn src on) := by
  unfold Device.demandSet
  refine Kept.ite ?_ ?_
  · refine Kept.step (Device.demandOn_kept ..) ?_
    exact Kept.refl
  · refine Kept.step (Device.demandOff_kept ..) ?_
    exact Kept.refl
theorem Device.safetyReset_kept (d : Device) : Kept d (Device.safetyReset d).1 := by
  unfold Device.safetyReset
  extract_lets +onlyGivenNames f1
  split
  · refine Kept.fst_mk ?_
    exact Kept.refl
  · split
    · refine Kept.fst_mk ?_
      refine Kept.step (Device.raiseRated_kept ..) ?_
      refine Device.setSaf_kept (fun _ h => by simpa [Safety.Shaped, upd, clearBits] using h) ?_
      exact Kept.refl
    · extract_lets +onlyGivenNames d2
      refine Kept.cut d2 ?_ fun hd2 => ?_
      · subst d2
        refine Device.setSaf_kept (fun _ h => by simpa [Safety.Shaped, upd, clearBits] using h) ?_
        exact Kept.refl
      clear_value d2
      extract_lets +onlyGivenNames d3
      refine Kept.cut d3 ?_ fun hd3 => ?_
      · subst d3
        refine Kept.step (Device.raise_kept ..) ?_
        assumption
      clear_value d3
      extract_lets +onlyGivenNames d4
      refine Kept.cut d4 ?_ fun hd4 => ?_
      · subst d4
        refine Kept.step (Device.setSrc_kept ..) ?_
        refine Kept.step (Device.inputInactive_kept ..) ?_
        assumption
      clear_value d4
      refine Kept.fst_mk ?_
      refine Kept.step (Device.driveOutputs_kept ..) ?_
      assumption
theorem Device.sinFault_kept (d : Device) (n : Nat) (cause : Nat) : Kept d (Device.sinFault d n cause) := by
  unfold Device.sinFault
  refine Kept.ite ?_ ?_
  · exact Kept.refl
  · refine Kept.step (Device.raise_kept ..) ?_
    refine Kept.step (Device.setSin_kept ..) ?_
    exact Kept.refl
theorem Device.sinReset_kept (d : Device) (n : Nat) : Kept d (Device.sinReset d n) := by
  unfold Device.sinReset
  extract_lets +onlyGivenNames x1
  refine Kept.ite ?_ ?_
  · refine Kept.step (Device.setSin_kept ..) ?_
    exact Kept.refl
  · split
    · refine Kept.step (Device.setSin_kept ..) ?_
      exact Kept.refl
    · extract_lets +onlyGivenNames d2
      refine Kept.cut d2 ?_ fun hd2 => ?_
      · subst d2
        refine Kept.step (Device.setSin_kept ..) ?_
        exact Kept.refl
      clear_value d2
      extract_lets +onlyGivenNames held3
      refine Kept.ite ?_ ?_
      · refine Kept.step (Device.safetyReset_kept ..) ?_
        assumption
      · assumption
    · exact Kept.refl
theorem Device.sinTransitions_kept (d : Device) (n : Nat) : Kept d (Device.sinTransitions d n) := by
  unfold Device.sinTransitions
  extract_lets +onlyGivenNames x1
  split
  refine Kept.ite ?_ ?_
  · exact Kept.refl
  · extract_lets +onlyGivenNames note2
    extract_lets +onlyGivenNames ta3
    extract_lets +onlyGivenNames tb4
    extract_lets +onlyGivenNames d5
    refine Kept.cut d5 ?_ fun hd5 => ?_
    · subst d5
      refine Kept.step (Device.setSin_kept ..) ?_
      exact Kept.refl
    clear_value d5
    extract_lets +onlyGivenNames full6
    refine Kept.ite ?_ ?_
    · refine Kept.step (Device.sinFault_kept ..) ?_
      assumption
    · assumption
theorem Device.evalInputs_kept (d : Device) : Kept d (Device.evalInputs d) := by
  unfold Device.evalInputs
  refine Kept.ite ?_ ?_
  · exact Kept.refl
  · extract_lets +onlyGivenNames d1
    refine Kept.cut d1 ?_ fun hd1 => ?_
    · subst d1
      refine Kept.foldl (fun x2 b3 hx2 => ?_) ?_
      · extract_lets +onlyGivenNames d4
        refine Kept.cut d4 ?_ fun hd4 => ?_
        · subst d4
          refine Kept.step (Device.sinTransitions_kept ..) ?_
          assumption
        clear_value d4
        extract_lets +onlyGivenNames agree5
        extract_lets +onlyGivenNames span6
        extract_lets +onlyGivenNames d7
        refine Kept.cut d7 ?_ fun hd7 => ?_
        · subst d7
          refine Kept.step (Device.setSin_kept ..) ?_
          assumption
        clear_value d7
        extract_lets +onlyGivenNames on8
        extract_lets +onlyGivenNames d9
        refine Kept.cut d9 ?_ fun hd9 => ?_
        · subst d9
          refine Kept.foldl (fun x10 b11 hx10 => ?_) ?_
          · refine Kept.step (Device.demandSet_kept ..) ?_
            assumption
          · assumption
        clear_value d9
        refine Kept.step (Device.sinReset_kept ..) ?_
        assumption
      · exact Kept.refl
    clear_value d1
    refine Device.setSaf_kept (fun _ h => by simpa [Safety.Shaped, upd, clearBits] using h) ?_
    assumption
theorem Device.soutFault_kept (d : Device) (n : Nat) (sw : Nat) : Kept d (Device.soutFault d n sw) := by
  unfold Device.soutFault
  extract_lets +onlyGivenNames d1
  refine Kept.cut d1 ?_ fun hd1 => ?_
  · subst d1
    refine Kept.step (Device.setSout_kept ..) ?_
    exact Kept.refl
  clear_value d1
  refine Kept.step (Device.raise_kept ..) ?_
  refine Kept.step (Device.driveOutputs_kept ..) ?_
  assumption
theorem Device.scFollow_kept (d : Device) : Kept d (Device.scFollow d) := by
  unfold Device.scFollow
  refine Kept.ite ?_ ?_
  · refine Kept.ite ?_ ?_
    · exact Kept.refl
    · extract_lets +onlyGivenNames d1
      refine Kept.cut d1 ?_ fun hd1 => ?_
      · subst d1
        refine Kept.step (Device.setSafe_kept ..) ?_
        exact Kept.refl
      clear_value d1
      refine Kept.foldl (fun x2 b3 hx2 => ?_) ?_
      · refine Kept.step (Device.demandOff_kept ..) ?_
        refine Kept.step (Device.demandOff_kept ..) ?_
        assumption
      · assumption
  · refine Kept.ite ?_ ?_
    · refine Kept.step (Device.setSafe_kept ..) ?_
      exact Kept.refl
    · exact Kept.refl
theorem Device.scReturn_kept (d : Device) : Kept d (Device.scReturn d) := by
  unfold Device.scReturn
  refine Kept.ite ?_ ?_
  · refine Kept.step (Device.setSafe_kept ..) ?_
    exact Kept.refl
  · exact Kept.refl
theorem Device.fallBack_kept (d : Device) (cause : Nat) : Kept d (Device.fallBack d cause) := by
  unfold Device.fallBack
  refine Kept.ite ?_ ?_
  · exact Kept.refl
  · extract_lets +onlyGivenNames d1
    refine Kept.cut d1 ?_ fun hd1 => ?_
    · subst d1
      refine Device.setSaf_kept (fun _ h => by simpa [Safety.Shaped, upd, clearBits] using h) ?_
      exact Kept.refl
    clear_value d1
    extract_lets +onlyGivenNames d2
    refine Kept.cut d2 ?_ fun hd2 => ?_
    · subst d2
      refine Kept.ite ?_ ?_
      · assumption
      · refine Kept.step (Device.msix_kept ..) ?_
        refine Kept.step (Device.raise_kept ..) ?_
        refine Device.setEh_kept ?_
        assumption
    clear_value d2
    extract_lets +onlyGivenNames d3
    refine Kept.cut d3 ?_ fun hd3 => ?_
    · subst d3
      refine Kept.step (Device.demandOn_kept ..) ?_
      assumption
    clear_value d3
    refine Kept.foldl (fun x4 b5 hx4 => ?_) ?_
    · refine Kept.ite ?_ ?_
      · refine Kept.step (Device.demandOn_kept ..) ?_
        assumption
      · assumption
    · assumption
theorem Device.slpSample_kept (d : Device) : Kept d (Device.slpSample d) := by
  unfold Device.slpSample
  extract_lets +onlyGivenNames v1
  extract_lets +onlyGivenNames a2
  extract_lets +onlyGivenNames b3
  extract_lets +onlyGivenNames p4
  extract_lets +onlyGivenNames ok5
  refine Device.setSaf_kept (fun _ h => by simpa [Safety.Shaped, upd, clearBits] using h) ?_
  exact Kept.refl
theorem Device.statusPdu_kept (d : Device) (start : Bool) : Kept d (Device.statusPdu d start) := by
  unfold Device.statusPdu
  extract_lets +onlyGivenNames f1
  extract_lets +onlyGivenNames cn2
  split
  rename_i q3
  refine Kept.cut _ (Kept.of_snd q3 ?_) fun hx4 => ?_
  · refine Kept.step (Device.quant_kept ..) ?_
    exact Kept.refl
  extract_lets +onlyGivenNames power5
  extract_lets +onlyGivenNames b46
  extract_lets +onlyGivenNames b57
  extract_lets +onlyGivenNames b68
  extract_lets +onlyGivenNames b79
  extract_lets +onlyGivenNames head10
  extract_lets +onlyGivenNames pdu11
  extract_lets +onlyGivenNames d12
  refine Kept.cut d12 ?_ fun hd12 => ?_
  · subst d12
    refine Kept.step (Device.setSafe_kept ..) ?_
    assumption
  clear_value d12
  refine Kept.step (Device.safeSend_kept ..) ?_
  assumption
theorem Device.pduAccept_kept (d : Device) (cn : Nat) (b : List (BitVec 8)) (start : Bool) : Kept d (Device.pduAccept d cn b start) := by
  unfold Device.pduAccept
  extract_lets +onlyGivenNames permit1
  extract_lets +onlyGivenNames reset2
  extract_lets +onlyGivenNames rise3
  extract_lets +onlyGivenNames ends4
  extract_lets +onlyGivenNames d5
  refine Kept.cut d5 ?_ fun hd5 => ?_
  · subst d5
    refine Kept.step (Device.setSafe_kept ..) ?_
    exact Kept.refl
  clear_value d5
  extract_lets +onlyGivenNames d6
  refine Kept.cut d6 ?_ fun hd6 => ?_
  · subst d6
    refine Kept.foldl (fun x7 b8 hx7 => ?_) ?_
    · refine Kept.step (Device.demandSet_kept ..) ?_
      assumption
    · assumption
  clear_value d6
  extract_lets +onlyGivenNames d9
  refine Kept.cut d9 ?_ fun hd9 => ?_
  · subst d9
    refine Kept.ite ?_ ?_
    · refine Kept.foldl (fun x10 b11 hx10 => ?_) ?_
      · refine Kept.step (Device.demandOff_kept ..) ?_
        assumption
      · assumption
    · assumption
  clear_value d9
  extract_lets +onlyGivenNames d12
  refine Kept.cut d12 ?_ fun hd12 => ?_
  · subst d12
    refine Device.setSaf_kept (fun _ h => by simpa [Safety.Shaped, upd, clearBits] using h) ?_
    assumption
  clear_value d12
  extract_lets +onlyGivenNames d13
  refine Kept.cut d13 ?_ fun hd13 => ?_
  · subst d13
    refine Kept.ite ?_ ?_
    · refine Kept.step (Device.safetyReset_kept ..) ?_
      assumption
    · assumption
  clear_value d13
  refine Kept.step (Device.statusPdu_kept ..) ?_
  assumption
theorem Device.pduDiscard_kept (d : Device) (bad : Bool) : Kept d (Device.pduDiscard d bad) := by
  unfold Device.pduDiscard
  refine Kept.step (Device.setSafe_kept ..) ?_
  exact Kept.refl
theorem Device.bailsilReset_kept (d : Device) : Kept d (Device.bailsilReset d) := by
  unfold Device.bailsilReset
  extract_lets +onlyGivenNames f1
  extract_lets +onlyGivenNames fresh2
  extract_lets +onlyGivenNames fresh3
  extract_lets +onlyGivenNames d4
  refine Kept.cut d4 ?_ fun hd4 => ?_
  · subst d4
    refine Kept.foldl (fun x5 b6 hx5 => ?_) ?_
    · refine Kept.step (Device.latchFn_kept ..) ?_
      assumption
    · exact Kept.refl
  clear_value d4
  extract_lets +onlyGivenNames d7
  refine Kept.cut d7 ?_ fun hd7 => ?_
  · subst d7
    refine Device.setSaf_kept (fun _ h => by simpa [Safety.Shaped, fresh3] using And.intro h.2.1 h.2.2.1) ?_
    assumption
  clear_value d7
  refine Kept.step (Device.driveOutputs_kept ..) ?_
  refine Kept.step (Device.evalInputs_kept ..) ?_
  refine Kept.step (Device.inputActive_kept ..) ?_
  refine Kept.step (Device.scFollow_kept ..) ?_
  refine Kept.step (Device.safetyCopy_kept ..) ?_
  assumption
theorem Device.afterMove_kept (d : Device) (n : Nat) : Kept d (Device.afterMove d n) := by
  unfold Device.afterMove
  refine Kept.ite ?_ ?_
  · exact Kept.refl
  · refine Kept.step (Device.driveOutputs_kept ..) ?_
    refine Kept.step (Device.evalInputs_kept ..) ?_
    refine Kept.step (Device.scFollow_kept ..) ?_
    refine Kept.step (Device.safetyCopy_kept ..) ?_
    refine Kept.step (Device.applyProfiles_kept ..) ?_
    exact Kept.refl
theorem execSafetyInputChange_kept (t : Tick) (n : Fin 4) (chB : Bool) (level : Bool) (heldNs : Rat) (s s' : State) (h : execSafetyInputChange t n chB level heldNs s = .next s') : Kept s.dev s'.dev := by
  refine State.on_kept h fun d => ?_
  extract_lets +onlyGivenNames d1
  refine Kept.cut d1 ?_ fun hd1 => ?_
  · subst d1
    refine Device.setSaf_kept (fun _ g => by split <;> simpa [Safety.Shaped, upd] using g) ?_
    exact Kept.refl
  clear_value d1
  extract_lets +onlyGivenNames x2
  refine Kept.ite ?_ ?_
  · assumption
  · extract_lets +onlyGivenNames edge3
    refine Kept.step (Device.evalInputs_kept ..) ?_
    refine Kept.step (Device.setSin_kept ..) ?_
    assumption
theorem execSinDiscrepancy_kept (t : Tick) (n : Fin 4) (s s' : State) (h : execSinDiscrepancy t n s = .next s') : Kept s.dev s'.dev := by
  refine State.on_kept h fun d => ?_
  split
  · exact Kept.refl
  · refine Kept.ite ?_ ?_
    · refine Kept.step (Device.evalInputs_kept ..) ?_
      refine Kept.step (Device.sinFault_kept ..) ?_
      exact Kept.refl
    · exact Kept.refl
theorem execTpaTpbTestPulse_kept (t : Tick) (tpb : Bool) (s s' : State) (h : execTpaTpbTestPulse t tpb s = .next s') : Kept s.dev s'.dev := by
  refine State.on_kept h fun d => ?_
  extract_lets +onlyGivenNames f1
  extract_lets +onlyGivenNames due2
  refine Kept.ite ?_ ?_
  · exact Kept.refl
  · refine Kept.step (Device.evalInputs_kept ..) ?_
    refine Device.setSaf_kept (fun _ h => by split <;> simpa [Safety.Shaped, upd] using h) ?_
    exact Kept.refl
theorem execSinPulseMissed_kept (t : Tick) (n : Fin 4) (chB : Bool) (cross : Bool) (s s' : State) (h : execSinPulseMissed t n chB cross s = .next s') : Kept s.dev s'.dev := by
  refine State.on_kept h fun d => ?_
  extract_lets +onlyGivenNames x1
  extract_lets +onlyGivenNames level2
  extract_lets +onlyGivenNames fell3
  extract_lets +onlyGivenNames rose4
  split
  · exact Kept.refl
  · refine Kept.ite ?_ ?_
    · exact Kept.refl
    · refine Kept.ite ?_ ?_
      · refine Kept.ite ?_ ?_
        · refine Kept.step (Device.evalInputs_kept ..) ?_
          refine Kept.step (Device.sinFault_kept ..) ?_
          exact Kept.refl
        · exact Kept.refl
      · refine Kept.ite ?_ ?_
        · refine Kept.step (Device.evalInputs_kept ..) ?_
          refine Kept.step (Device.sinFault_kept ..) ?_
          exact Kept.refl
        · exact Kept.refl
theorem execTestPulseStart_kept (t : Tick) (n : Fin 6) (s s' : State) (h : execTestPulseStart t n s = .next s') : Kept s.dev s'.dev := by
  refine State.on_kept h fun d => ?_
  extract_lets +onlyGivenNames x1
  refine Kept.ite ?_ ?_
  · exact Kept.refl
  · refine Kept.step (Device.driveOutputs_kept ..) ?_
    refine Kept.step (Device.setSout_kept ..) ?_
    exact Kept.refl
theorem execTestPulseEnd_kept (t : Tick) (n : Fin 6) (pass : Bool) (s s' : State) (h : execTestPulseEnd t n pass s = .next s') : Kept s.dev s'.dev := by
  refine State.on_kept h fun d => ?_
  extract_lets +onlyGivenNames x1
  refine Kept.ite ?_ ?_
  · exact Kept.refl
  · extract_lets +onlyGivenNames d2
    refine Kept.cut d2 ?_ fun hd2 => ?_
    · subst d2
      refine Kept.step (Device.setSout_kept ..) ?_
      exact Kept.refl
    clear_value d2
    refine Kept.ite ?_ ?_
    · refine Kept.step (Device.driveOutputs_kept ..) ?_
      refine Device.setSaf_kept (fun _ h => by simpa [Safety.Shaped, upd, clearBits] using h) ?_
      refine Kept.step (Device.setSout_kept ..) ?_
      assumption
    · refine Kept.ite ?_ ?_
      · refine Kept.step (Device.driveOutputs_kept ..) ?_
        refine Device.setSaf_kept (fun _ h => by simpa [Safety.Shaped, upd, clearBits] using h) ?_
        refine Kept.step (Device.setSout_kept ..) ?_
        assumption
      · refine Kept.step (Device.soutFault_kept ..) ?_
        refine Device.setSaf_kept (fun _ h => by simpa [Safety.Shaped, upd, clearBits] using h) ?_
        assumption
theorem execSoutReadbackMismatch_kept (t : Tick) (n : Fin 6) (on : Bool) (ls : Bool) (s s' : State) (h : execSoutReadbackMismatch t n on ls s = .next s') : Kept s.dev s'.dev := by
  refine State.on_kept h fun d => ?_
  extract_lets +onlyGivenNames x1
  extract_lets +onlyGivenNames cmd2
  refine Kept.ite ?_ ?_
  · exact Kept.refl
  · refine Kept.ite ?_ ?_
    · refine Kept.step (Device.soutFault_kept ..) ?_
      exact Kept.refl
    · refine Kept.ite ?_ ?_
      · refine Kept.step (Device.soutFault_kept ..) ?_
        exact Kept.refl
      · exact Kept.refl
theorem execSwitchCheckDone_kept (t : Tick) (n : Fin 6) (pass : Bool) (ls : Bool) (s s' : State) (h : execSwitchCheckDone t n pass ls s = .next s') : Kept s.dev s'.dev := by
  refine State.on_kept h fun d => ?_
  extract_lets +onlyGivenNames x1
  extract_lets +onlyGivenNames w2
  refine Kept.ite ?_ ?_
  · exact Kept.refl
  · refine Kept.ite ?_ ?_
    · refine Kept.ite ?_ ?_
      · refine Kept.step (Device.driveOutputs_kept ..) ?_
        refine Kept.step (Device.setSout_kept ..) ?_
        exact Kept.refl
      · exact Kept.refl
    · refine Kept.ite ?_ ?_
      · refine Kept.step (Device.soutFault_kept ..) ?_
        exact Kept.refl
      · exact Kept.refl
theorem execChannelComparison_kept (t : Tick) (differs : Bool) (oscBad : Bool) (s s' : State) (h : execChannelComparison t differs oscBad s = .next s') : Kept s.dev s'.dev := by
  refine State.on_kept h fun d => ?_
  refine Kept.ite ?_ ?_
  · exact Kept.refl
  · extract_lets +onlyGivenNames d1
    refine Kept.cut d1 ?_ fun hd1 => ?_
    · subst d1
      refine Device.setSaf_kept (fun _ h => by simpa [Safety.Shaped, upd, clearBits] using h) ?_
      exact Kept.refl
    clear_value d1
    refine Kept.ite ?_ ?_
    · refine Kept.step (Device.bailsilSafeHold_kept ..) ?_
      assumption
    · refine Kept.step (Device.driveOutputs_kept ..) ?_
      refine Kept.step (Device.evalInputs_kept ..) ?_
      refine Kept.step (Device.scFollow_kept ..) ?_
      refine Kept.step (Device.scReturn_kept ..) ?_
      assumption
theorem execHeartbeat_kept (t : Tick) (flip : BitVec 4) (seq : Nat) (s s' : State) (h : execHeartbeat t flip seq s = .next s') : Kept s.dev s'.dev := by
  refine State.on_kept h fun d => ?_
  refine Kept.ite ?_ ?_
  · exact Kept.refl
  · extract_lets +onlyGivenNames d1
    refine Kept.cut d1 ?_ fun hd1 => ?_
    · subst d1
      refine Kept.step (Device.demandSet_kept ..) ?_
      exact Kept.refl
    clear_value d1
    extract_lets +onlyGivenNames own2
    extract_lets +onlyGivenNames p3
    extract_lets +onlyGivenNames d4
    refine Kept.cut d4 ?_ fun hd4 => ?_
    · subst d4
      refine Device.setSaf_kept (fun _ h => by simpa [Safety.Shaped, upd, clearBits] using h) ?_
      assumption
    clear_value d4
    refine Kept.foldl (fun x5 b6 hx5 => ?_) ?_
    · refine Kept.step (Device.demandSet_kept ..) ?_
      assumption
    · assumption
theorem execHeartbeatTimeout_kept (t : Tick) (s s' : State) (h : execHeartbeatTimeout t s = .next s') : Kept s.dev s'.dev := by
  refine State.on_kept h fun d => ?_
  refine Kept.ite ?_ ?_
  · refine Kept.step (Device.fallBack_kept ..) ?_
    exact Kept.refl
  · exact Kept.refl
theorem execLockstepMismatch_kept (t : Tick) (s s' : State) (h : execLockstepMismatch t s = .next s') : Kept s.dev s'.dev := by
  refine State.on_kept h fun d => ?_
  refine Kept.step (Device.fallBack_kept ..) ?_
  exact Kept.refl
theorem execChannelDisagreementTimeout_kept (t : Tick) (s s' : State) (h : execChannelDisagreementTimeout t s = .next s') : Kept s.dev s'.dev := by
  refine State.on_kept h fun d => ?_
  refine Kept.ite ?_ ?_
  · refine Kept.step (Device.fallBack_kept ..) ?_
    exact Kept.refl
  · exact Kept.refl
theorem execSciDelayExpiry_kept (t : Tick) (s s' : State) (h : execSciDelayExpiry t s = .next s') : Kept s.dev s'.dev := by
  refine State.on_kept h fun d => ?_
  refine Kept.ite ?_ ?_
  · exact Kept.refl
  · extract_lets +onlyGivenNames cells1
    refine Kept.step (Device.driveOutputs_kept ..) ?_
    refine Device.setSaf_kept (fun _ h => by simpa [Safety.Shaped, upd, clearBits] using h) ?_
    exact Kept.refl
theorem execSciConfirmExpiry_kept (t : Tick) (s s' : State) (h : execSciConfirmExpiry t s = .next s') : Kept s.dev s'.dev := by
  refine State.on_kept h fun d => ?_
  split
  · exact Kept.refl
  · refine Kept.ite ?_ ?_
    · exact Kept.refl
    · extract_lets +onlyGivenNames cls1
      extract_lets +onlyGivenNames of2
      extract_lets +onlyGivenNames un3
      extract_lets +onlyGivenNames mask4
      extract_lets +onlyGivenNames d5
      refine Kept.cut d5 ?_ fun hd5 => ?_
      · subst d5
        refine Device.setSaf_kept (fun _ h => by simpa [Safety.Shaped, upd, clearBits] using h) ?_
        exact Kept.refl
      clear_value d5
      extract_lets +onlyGivenNames d6
      refine Kept.cut d6 ?_ fun hd6 => ?_
      · subst d6
        refine Kept.step (Device.raise_kept ..) ?_
        assumption
      clear_value d6
      refine Kept.foldl (fun x7 b8 hx7 => ?_) ?_
      · refine Kept.step (Device.raise_kept ..) ?_
        assumption
      · assumption
theorem execSlpMonitor_kept (t : Tick) (s s' : State) (h : execSlpMonitor t s = .next s') : Kept s.dev s'.dev := by
  refine State.on_kept h fun d => ?_
  refine Kept.ite ?_ ?_
  · exact Kept.refl
  · extract_lets +onlyGivenNames f1
    extract_lets +onlyGivenNames target2
    extract_lets +onlyGivenNames ramp3
    extract_lets +onlyGivenNames step4
    extract_lets +onlyGivenNames limit5
    extract_lets +onlyGivenNames n6
    extract_lets +onlyGivenNames mean7
    extract_lets +onlyGivenNames a8
    extract_lets +onlyGivenNames b9
    extract_lets +onlyGivenNames p10
    extract_lets +onlyGivenNames ovr11
    extract_lets +onlyGivenNames d12
    refine Kept.cut d12 ?_ fun hd12 => ?_
    · subst d12
      refine Device.setSaf_kept (fun _ h => by simpa [Safety.Shaped, upd, clearBits] using h) ?_
      exact Kept.refl
    clear_value d12
    refine Kept.ite ?_ ?_
    · refine Kept.ite ?_ ?_
      · assumption
      · split
        rename_i q13
        refine Kept.cut _ (Kept.of_snd q13 ?_) fun hx14 => ?_
        · refine Kept.step (Device.quant_kept ..) ?_
          assumption
        refine Kept.step (Device.demandOn_kept ..) ?_
        refine Kept.step (Device.raise_kept ..) ?_
        refine Device.setSaf_kept (fun _ h => by simpa [Safety.Shaped, upd, clearBits] using h) ?_
        assumption
    · refine Kept.ite ?_ ?_
      · refine Kept.step (Device.demandOff_kept ..) ?_
        refine Device.setSaf_kept (fun _ h => by simpa [Safety.Shaped, upd, clearBits] using h) ?_
        assumption
      · assumption
theorem execSafeRemind_kept (t : Tick) (fn : Fin 4) (src : Fin 12) (s s' : State) (h : execSafeRemind t fn src s = .next s') : Kept s.dev s'.dev := by
  refine State.on_kept h fun d => ?_
  split
  · exact Kept.refl
  · extract_lets +onlyGivenNames n1
    refine Kept.ite ?_ ?_
    · exact Kept.refl
    · refine Kept.step (Device.reminder_kept ..) ?_
      refine Device.setSaf_kept (fun _ h => by simpa [Safety.Shaped, upd, clearBits] using h) ?_
      exact Kept.refl
theorem execSafeChannelPdu_kept (t : Tick) (s s' : State) (h : execSafeChannelPdu t s = .next s') : Kept s.dev s'.dev := by
  refine State.on_kept h fun d => ?_
  split
  · exact Kept.refl
  · extract_lets +onlyGivenNames d1
    refine Kept.cut d1 ?_ fun hd1 => ?_
    · subst d1
      refine Device.setNet_kept (fun _ h => by simpa [Net.Shaped, upd, clearBits] using h) ?_
      exact Kept.refl
    clear_value d1
    refine Kept.ite ?_ ?_
    · assumption
    · extract_lets +onlyGivenNames b2
      extract_lets +onlyGivenNames start3
      extract_lets +onlyGivenNames check4
      refine Kept.ite ?_ ?_
      · refine Kept.step (Device.pduDiscard_kept ..) ?_
        assumption
      · refine Kept.ite ?_ ?_
        · extract_lets +onlyGivenNames l5
          extract_lets +onlyGivenNames gap6
          extract_lets +onlyGivenNames cn7
          refine Kept.ite ?_ ?_
          · refine Kept.step (Device.pduDiscard_kept ..) ?_
            assumption
          · refine Kept.ite ?_ ?_
            · assumption
            · refine Kept.ite ?_ ?_
              · refine Kept.step (Device.pduDiscard_kept ..) ?_
                assumption
              · refine Kept.ite ?_ ?_
                · refine Kept.step (Device.pduDiscard_kept ..) ?_
                  assumption
                · refine Kept.step (Device.pduAccept_kept ..) ?_
                  assumption
        · refine Kept.ite ?_ ?_
          · refine Kept.step (Device.pduDiscard_kept ..) ?_
            assumption
          · refine Kept.ite ?_ ?_
            · refine Kept.step (Device.pduDiscard_kept ..) ?_
              assumption
            · refine Kept.step (Device.pduAccept_kept ..) ?_
              assumption
theorem execSafeChannelWatchdogExpiry_kept (t : Tick) (s s' : State) (h : execSafeChannelWatchdogExpiry t s = .next s') : Kept s.dev s'.dev := by
  refine State.on_kept h fun d => ?_
  refine Kept.ite ?_ ?_
  · exact Kept.refl
  · extract_lets +onlyGivenNames act1
    extract_lets +onlyGivenNames d2
    refine Kept.cut d2 ?_ fun hd2 => ?_
    · subst d2
      refine Kept.step (Device.setSafe_kept ..) ?_
      exact Kept.refl
    clear_value d2
    extract_lets +onlyGivenNames d3
    refine Kept.cut d3 ?_ fun hd3 => ?_
    · subst d3
      refine Kept.step (Device.raise_kept ..) ?_
      assumption
    clear_value d3
    refine Kept.foldl (fun x4 b5 hx4 => ?_) ?_
    · refine Kept.ite ?_ ?_
      · refine Kept.step (Device.demandOn_kept ..) ?_
        assumption
      · assumption
    · assumption
theorem execBailsilReset_kept (t : Tick) (s s' : State) (h : execBailsilReset t s = .next s') : Kept s.dev s'.dev := by
  refine State.on_kept h fun d => ?_
  refine Kept.step (Device.bailsilReset_kept ..) ?_
  exact Kept.refl

/-! ## Frames -/

theorem Device.downlink_kept (d : Device) (r : Nat) (seq : Nat) : Kept d (Device.downlink d r seq).2 := by
  unfold Device.downlink
  refine Kept.foldl_snd (fun x1 b2 hx1 => ?_) ?_
  · extract_lets +onlyGivenNames c3
    split
    · assumption
    · extract_lets +onlyGivenNames d4
      refine Kept.cut d4 ?_ fun hd4 => ?_
      · subst d4
        refine Kept.step (Device.setNode_kept ..) ?_
        assumption
      clear_value d4
      refine Kept.snd_mk ?_
      refine Kept.step (Device.tapRecord_kept ..) ?_
      assumption
  · refine Kept.snd_mk ?_
    exact Kept.refl
theorem Device.txnSent_kept (d : Device) (t : NodeTxn) (seq : BitVec 16) : Kept d (Device.txnSent d t seq) := by
  unfold Device.txnSent
  refine Kept.ite ?_ ?_
  · refine Kept.step (Device.complete_kept ..) ?_
    refine Device.setLink_kept (fun _ h => by simpa [Link.Shaped, upd, clearBits] using h) ?_
    exact Kept.refl
  · refine Device.setLink_kept (fun _ h => by simpa [Link.Shaped, upd, clearBits] using h) ?_
    exact Kept.refl
theorem Device.slowPick_kept (d : Device) (r : Nat) (seq : BitVec 16) : Kept d (Device.slowPick d r seq).2 := by
  unfold Device.slowPick
  split
  · refine Kept.snd_mk ?_
    refine Kept.ite ?_ ?_
    · refine Kept.step (Device.setRing_kept ..) ?_
      exact Kept.refl
    · exact Kept.refl
  · extract_lets +onlyGivenNames host1
    split
    · split
      · refine Kept.snd_mk ?_
        exact Kept.refl
      · unfold host1
        split
        · refine Kept.snd_mk ?_
          refine Kept.step (Device.txnSent_kept ..) ?_
          exact Kept.refl
        · refine Kept.snd_mk ?_
          exact Kept.refl
    · unfold host1
      split
      · refine Kept.snd_mk ?_
        refine Kept.step (Device.txnSent_kept ..) ?_
        exact Kept.refl
      · refine Kept.snd_mk ?_
        exact Kept.refl
theorem Device.slowMissed_kept (d : Device) : Kept d (Device.slowMissed d) := by
  unfold Device.slowMissed
  extract_lets +onlyGivenNames lim1
  extract_lets +onlyGivenNames d2
  refine Kept.cut d2 ?_ fun hd2 => ?_
  · subst d2
    refine Kept.foldl (fun x3 b4 hx3 => ?_) ?_
    · extract_lets +onlyGivenNames g5
      extract_lets +onlyGivenNames open_6
      refine Kept.ite ?_ ?_
      · assumption
      · extract_lets +onlyGivenNames d7
        refine Kept.cut d7 ?_ fun hd7 => ?_
        · subst d7
          refine Kept.step (Device.setRing_kept ..) ?_
          assumption
        clear_value d7
        refine Kept.ite ?_ ?_
        · refine Kept.step (Device.nodeAbsent_kept ..) ?_
          assumption
        · assumption
    · exact Kept.refl
  clear_value d2
  refine Device.setLink_kept (fun _ h => by simpa [Link.Shaped, upd, clearBits] using h) ?_
  assumption
theorem Device.corrOf_kept (d : Device) (disc : Bool) : Kept d (Device.corrOf d disc).2 := by
  unfold Device.corrOf
  split
  · refine Kept.snd_mk ?_
    exact Kept.refl
  · split
    rename_i q1
    refine Kept.cut _ (Kept.of_snd q1 ?_) fun hx2 => ?_
    · refine Kept.step (Device.draw_kept ..) ?_
      exact Kept.refl
    refine Kept.snd_mk ?_
    assumption
theorem Device.launchRing_kept (d : Device) (serves : Bool) (resume : Bool) (relayed : Bool) (r : Nat) : Kept d (Device.launchRing d serves resume relayed r) := by
  unfold Device.launchRing
  refine Kept.ite ?_ ?_
  · exact Kept.refl
  · extract_lets +onlyGivenNames seqN1
    extract_lets +onlyGivenNames seq2
    extract_lets +onlyGivenNames disc3
    split
    rename_i q4
    refine Kept.cut _ (Kept.of_snd q4 ?_) fun hx5 => ?_
    · refine Kept.step (Device.slowPick_kept ..) ?_
      exact Kept.refl
    split
    rename_i q6
    refine Kept.cut _ (Kept.of_snd q6 ?_) fun hx7 => ?_
    · split
      · refine Kept.snd_mk ?_
        assumption
      · refine Kept.step (Device.downlink_kept ..) ?_
        assumption
    extract_lets +onlyGivenNames slots8
    extract_lets +onlyGivenNames mk9
    extract_lets +onlyGivenNames mk10
    refine Kept.foldl (fun x11 b12 hx11 => ?_) ?_
    · split
      rename_i q13
      refine Kept.cut _ (Kept.of_snd q13 ?_) fun hx14 => ?_
      · refine Kept.step (Device.corrOf_kept ..) ?_
        assumption
      extract_lets +onlyGivenNames f15
      refine Device.setLink_kept (fun _ h => by simpa [Link.Shaped, upd, clearBits] using h) ?_
      assumption
    · assumption

/-! ## Twinning -/

theorem Device.setTArm_kept (d : Device) (a : Nat) (f : TwinArm → TwinArm) : Kept d (Device.setTArm d a f) := by
  unfold Device.setTArm
  refine Device.setTwin_kept (fun _ h => by simpa [Twin.Shaped, upd, clearBits] using h) ?_
  exact Kept.refl
theorem Device.twinStatus_kept (d : Device) : Kept d (Device.twinStatus d) := by
  unfold Device.twinStatus
  refine Kept.ite ?_ ?_
  · exact Kept.refl
  · extract_lets +onlyGivenNames fails1
    extract_lets +onlyGivenNames w2
    extract_lets +onlyGivenNames ready3
    extract_lets +onlyGivenNames able4
    extract_lets +onlyGivenNames expired5
    extract_lets +onlyGivenNames x6
    extract_lets +onlyGivenNames serving7
    extract_lets +onlyGivenNames on8
    extract_lets +onlyGivenNames first9
    extract_lets +onlyGivenNames claims10
    extract_lets +onlyGivenNames lost11
    extract_lets +onlyGivenNames d12
    refine Kept.cut d12 ?_ fun hd12 => ?_
    · subst d12
      refine Device.setTwin_kept (fun _ h => by simpa [Twin.Shaped, upd, clearBits] using h) ?_
      exact Kept.refl
    clear_value d12
    refine Kept.ite ?_ ?_
    · assumption
    · refine Kept.step (Device.raise_kept ..) ?_
      assumption
theorem Device.block_carry {d e : Device} {good : Bool} {f : Device → Device} (hf : ∀ y, Kept d y → Kept d (f y)) (h : Kept d e) : Kept d (e.block good f) :=
  have hp : Kept d (e.pmcPulse 4 6 1) := Kept.step (Device.pmcPulse_kept ..) h
  Kept.ite h (Kept.ite (Kept.step (Device.setTwin_kept (fun _ h => h) Kept.refl) hp) (Kept.ite hp (Kept.step (Device.twinStatus_kept ..) (hf _ hp))))
theorem Device.yieldMaster_kept (d : Device) (b : PeerBeacon) : Kept d (Device.yieldMaster d b) := by
  unfold Device.yieldMaster
  refine Kept.ite ?_ ?_
  · exact Kept.refl
  · extract_lets +onlyGivenNames same1
    extract_lets +onlyGivenNames yields2
    refine Kept.ite ?_ ?_
    · exact Kept.refl
    · extract_lets +onlyGivenNames d3
      refine Kept.cut d3 ?_ fun hd3 => ?_
      · subst d3
        refine Device.setTwin_kept (fun _ h => by simpa [Twin.Shaped, upd, clearBits] using h) ?_
        exact Kept.refl
      clear_value d3
      refine Kept.ite ?_ ?_
      · assumption
      · refine Kept.step (Device.raise_kept ..) ?_
        refine Device.setClk_kept (fun _ h => by simpa [Clk.Shaped, upd, clearBits] using h) ?_
        assumption
theorem Device.followState_kept (d : Device) (b : PeerBeacon) : Kept d (Device.followState d b) := by
  unfold Device.followState
  extract_lets +onlyGivenNames upTo1
  refine Kept.ite ?_ ?_
  · exact Kept.refl
  · extract_lets +onlyGivenNames fresh2
    extract_lets +onlyGivenNames n3
    extract_lets +onlyGivenNames d4
    refine Kept.cut d4 ?_ fun hd4 => ?_
    · subst d4
      refine Kept.step (Device.afterMove_kept ..) ?_
      refine Kept.step (Device.transition_kept ..) ?_
      exact Kept.refl
    clear_value d4
    refine Kept.ite ?_ ?_
    · assumption
    · refine Kept.foldl (fun x5 b6 hx5 => ?_) ?_
      · extract_lets +onlyGivenNames n7
        refine Kept.ite ?_ ?_
        · assumption
        · extract_lets +onlyGivenNames d8
          refine Kept.cut d8 ?_ fun hd8 => ?_
          · subst d8
            refine Kept.step (Device.setRing_kept ..) ?_
            assumption
          clear_value d8
          refine Kept.foldl (fun x9 b10 hx9 => ?_) ?_
          · refine Kept.step (Device.setNode_kept ..) ?_
            assumption
          · assumption
      · assumption
theorem Device.answerAsks_kept (d : Device) (b : PeerBeacon) : Kept d (Device.answerAsks d b) := by
  unfold Device.answerAsks
  refine Kept.foldl (fun x1 b2 hx1 => ?_) ?_
  · refine Kept.ite ?_ ?_
    · refine Kept.step (Device.setTArm_kept ..) ?_
      assumption
    · extract_lets +onlyGivenNames cells3
      extract_lets +onlyGivenNames n4
      extract_lets +onlyGivenNames part5
      extract_lets +onlyGivenNames m6
      extract_lets +onlyGivenNames d7
      refine Kept.cut d7 ?_ fun hd7 => ?_
      · subst d7
        refine Kept.step (Device.activeSend_kept ..) ?_
        assumption
      clear_value d7
      refine Kept.step (Device.setTArm_kept ..) ?_
      assumption
  · exact Kept.refl
theorem Device.withCopy_kept (d : Device) (arm : Nat) (r : ArmRecord) (ins : List (Rat × Nat)) : Kept d (Device.withCopy d arm r ins) := by
  unfold Device.withCopy
  extract_lets +onlyGivenNames x1
  extract_lets +onlyGivenNames c2
  extract_lets +onlyGivenNames cells3
  extract_lets +onlyGivenNames put4
  extract_lets +onlyGivenNames gput5
  refine Device.setProt_kept (fun _ h => by simpa [Prot.Shaped, upd, clearBits] using h) ?_
  refine Device.setModu_kept (fun _ h => by simpa [Modu.Shaped, upd, clearBits] using h) ?_
  exact Kept.refl
theorem Device.relaySchedule_kept (d : Device) (arm : Nat) (resume : Bool) : Kept d (Device.relaySchedule d arm resume) := by
  unfold Device.relaySchedule
  extract_lets +onlyGivenNames x1
  split
  · refine Kept.ite ?_ ?_
    · exact Kept.refl
    · extract_lets +onlyGivenNames e2
      refine Kept.cut e2 ?_ fun he2 => ?_
      · subst e2
        refine Kept.step (Device.withCopy_kept ..) ?_
        exact Kept.refl
      clear_value e2
      extract_lets +onlyGivenNames first3
      extract_lets +onlyGivenNames e4
      refine Kept.cut e4 ?_ fun he4 => ?_
      · subst e4
        refine Kept.ite ?_ ?_
        · refine Device.setModu_kept (fun _ h => by simpa [Modu.Shaped, upd, clearBits] using h) ?_
          assumption
        · assumption
      clear_value e4
      extract_lets +onlyGivenNames e5
      refine Kept.cut e5 ?_ fun he5 => ?_
      · subst e5
        refine Kept.ite ?_ ?_
        · refine Kept.step (Device.circLoop_kept ..) ?_
          assumption
        · assumption
      clear_value e5
      extract_lets +onlyGivenNames e6
      refine Kept.cut e6 ?_ fun he6 => ?_
      · subst e6
        refine Kept.ite ?_ ?_
        · refine Kept.step (Device.resumeArm_kept ..) ?_
          assumption
        · refine Kept.step (Device.scheduleCore_kept ..) ?_
          assumption
      clear_value e6
      extract_lets +onlyGivenNames cells7
      extract_lets +onlyGivenNames m8
      refine Device.setTwin_kept (fun _ h => by simpa [Twin.Shaped, upd, clearBits] using h) ?_
      refine Kept.step (Device.setTArm_kept ..) ?_
      refine Kept.set_fresh ?_
      exact Kept.refl
  · exact Kept.refl
theorem Device.compareStream_kept (d : Device) (x : Nat) (peer : Int) : Kept d (Device.compareStream d x peer) := by
  unfold Device.compareStream
  refine Kept.ite ?_ ?_
  · exact Kept.refl
  · extract_lets +onlyGivenNames own1
    extract_lets +onlyGivenNames n2
    extract_lets +onlyGivenNames far3
    extract_lets +onlyGivenNames s4
    extract_lets +onlyGivenNames s'5
    extract_lets +onlyGivenNames s'6
    extract_lets +onlyGivenNames d7
    refine Kept.cut d7 ?_ fun hd7 => ?_
    · subst d7
      refine Device.setTwin_kept (fun _ h => by simpa [Twin.Shaped, upd, clearBits] using h) ?_
      exact Kept.refl
    clear_value d7
    refine Kept.ite ?_ ?_
    · refine Kept.step (Device.raiseRated_kept ..) ?_
      assumption
    · assumption
theorem Device.mismatch_kept (d : Device) (arm : Nat) : Kept d (Device.mismatch d arm) := by
  unfold Device.mismatch
  extract_lets +onlyGivenNames run1
  extract_lets +onlyGivenNames lost2
  refine Device.setTwin_kept (fun _ h => by simpa [Twin.Shaped, upd, clearBits] using h) ?_
  refine Kept.step (Device.setTArm_kept ..) ?_
  exact Kept.refl
theorem Device.decideArm_kept (d : Device) (arm : Nat) : Kept d (Device.decideArm d arm) := by
  unfold Device.decideArm
  extract_lets +onlyGivenNames x1
  extract_lets +onlyGivenNames choose2
  split
  · unfold choose2
    refine Kept.step (Device.setTArm_kept ..) ?_
    exact Kept.refl
  · refine Kept.ite ?_ ?_
    · refine Kept.step (Device.setTArm_kept ..) ?_
      unfold choose2
      refine Kept.step (Device.setTArm_kept ..) ?_
      exact Kept.refl
    · refine Kept.step (Device.mismatch_kept ..) ?_
      unfold choose2
      refine Kept.step (Device.setTArm_kept ..) ?_
      exact Kept.refl
  · unfold choose2
    refine Kept.step (Device.setTArm_kept ..) ?_
    exact Kept.refl
theorem Device.takeCopy_kept (d : Device) (arm : Nat) : Kept d (Device.takeCopy d arm) := by
  unfold Device.takeCopy
  extract_lets +onlyGivenNames x1
  refine Kept.ite ?_ ?_
  · exact Kept.refl
  · extract_lets +onlyGivenNames c2
    extract_lets +onlyGivenNames cells3
    extract_lets +onlyGivenNames live4
    extract_lets +onlyGivenNames loops5
    refine Device.setProt_kept (fun _ h => by simpa [Prot.Shaped, upd, clearBits] using h) ?_
    refine Kept.step (Device.setArm_kept ..) ?_
    refine Device.setModu_kept (fun _ h => by simpa [Modu.Shaped, upd, clearBits] using h) ?_
    exact Kept.refl
theorem Device.roleChange_kept (d : Device) (active : Bool) : Kept d (Device.roleChange d active) := by
  unfold Device.roleChange
  extract_lets +onlyGivenNames d1
  refine Kept.cut d1 ?_ fun hd1 => ?_
  · subst d1
    refine Device.setTwin_kept (fun _ h => by simpa [Twin.Shaped, upd, clearBits] using h) ?_
    exact Kept.refl
  clear_value d1
  extract_lets +onlyGivenNames d2
  refine Kept.cut d2 ?_ fun hd2 => ?_
  · subst d2
    refine Kept.ite ?_ ?_
    · assumption
    · refine Kept.step (Device.withdrawClose_kept ..) ?_
      refine Kept.step (Device.withdrawClose_kept ..) ?_
      assumption
  clear_value d2
  refine Kept.step (Device.twinStatus_kept ..) ?_
  refine Kept.step (Device.raise_kept ..) ?_
  assumption
theorem Device.splitCheck_kept (d : Device) : Kept d (Device.splitCheck d) := by
  unfold Device.splitCheck
  refine Kept.ite ?_ ?_
  · refine Kept.step (Device.raise_kept ..) ?_
    refine Device.setTwin_kept (fun _ h => by simpa [Twin.Shaped, upd, clearBits] using h) ?_
    exact Kept.refl
  · refine Kept.ite ?_ ?_
    · refine Device.setTwin_kept (fun _ h => by simpa [Twin.Shaped, upd, clearBits] using h) ?_
      exact Kept.refl
    · exact Kept.refl
theorem Device.sendMeter_kept (d : Device) : Kept d (Device.sendMeter d) := by
  unfold Device.sendMeter
  split
  · exact Kept.refl
  · refine Device.setTwin_kept (fun _ h => by simpa [Twin.Shaped, upd, clearBits] using h) ?_
    refine Kept.step (Device.activeSend_kept ..) ?_
    exact Kept.refl
theorem Device.cycleBlocks_kept (d : Device) : Kept d (Device.cycleBlocks d) := by
  unfold Device.cycleBlocks
  extract_lets +onlyGivenNames d1
  refine Kept.cut d1 ?_ fun hd1 => ?_
  · subst d1
    refine Kept.step (Device.mdlSend_kept ..) ?_
    exact Kept.refl
  clear_value d1
  extract_lets +onlyGivenNames d2
  refine Kept.cut d2 ?_ fun hd2 => ?_
  · subst d2
    refine Kept.foldl (fun x3 b4 hx3 => ?_) ?_
    · refine Kept.step (Device.activeSend_kept ..) ?_
      assumption
    · assumption
  clear_value d2
  extract_lets +onlyGivenNames d5
  refine Kept.cut d5 ?_ fun hd5 => ?_
  · subst d5
    refine Kept.step (Device.sendMeter_kept ..) ?_
    assumption
  clear_value d5
  extract_lets +onlyGivenNames e6
  extract_lets +onlyGivenNames since7
  extract_lets +onlyGivenNames d8
  refine Kept.cut d8 ?_ fun hd8 => ?_
  · subst d8
    refine Kept.ite ?_ ?_
    · refine Kept.step (Device.mdlSend_kept ..) ?_
      assumption
    · assumption
  clear_value d8
  refine Kept.ite ?_ ?_
  · refine Kept.step (Device.mdlSend_kept ..) ?_
    assumption
  · assumption
theorem Device.sendStreams_kept (d : Device) : Kept d (Device.sendStreams d) := by
  unfold Device.sendStreams
  refine Kept.step (Device.mdlSend_kept ..) ?_
  exact Kept.refl
theorem Device.twinCycle_kept (d : Device) : Kept d (Device.twinCycle d) := by
  unfold Device.twinCycle
  refine Kept.ite ?_ ?_
  · exact Kept.refl
  · extract_lets +onlyGivenNames d1
    refine Kept.cut d1 ?_ fun hd1 => ?_
    · subst d1
      refine Kept.step (Device.mdlDrain_kept ..) ?_
      refine Kept.step (Device.splitCheck_kept ..) ?_
      exact Kept.refl
    clear_value d1
    extract_lets +onlyGivenNames lost2
    extract_lets +onlyGivenNames d3
    refine Kept.cut d3 ?_ fun hd3 => ?_
    · subst d3
      refine Kept.ite ?_ ?_
      · refine Device.setTwin_kept (fun _ h => by simpa [Twin.Shaped, Twin.loseMirror, upd] using h) ?_
        assumption
      · assumption
    clear_value d3
    extract_lets +onlyGivenNames d4
    refine Kept.cut d4 ?_ fun hd4 => ?_
    · subst d4
      split
      · refine Kept.ite ?_ ?_
        · refine Device.setLaw_kept (fun _ h => by simpa [Law.Shaped, upd, clearBits] using h) ?_
          assumption
        · assumption
      · assumption
    clear_value d4
    extract_lets +onlyGivenNames d5
    refine Kept.cut d5 ?_ fun hd5 => ?_
    · subst d5
      refine Kept.step (Device.twinStatus_kept ..) ?_
      assumption
    clear_value d5
    extract_lets +onlyGivenNames rows6
    extract_lets +onlyGivenNames d7
    refine Kept.cut d7 ?_ fun hd7 => ?_
    · subst d7
      refine Device.setTwin_kept (fun _ h => by simpa [Twin.Shaped, Twin.loseMirror, upd] using h) ?_
      assumption
    clear_value d7
    refine Kept.step (Device.cycleBlocks_kept ..) ?_
    assumption
theorem Device.twinSecond_kept (d : Device) : Kept d (Device.twinSecond d) := by
  unfold Device.twinSecond
  refine Kept.ite ?_ ?_
  · exact Kept.refl
  · extract_lets +onlyGivenNames full1
    extract_lets +onlyGivenNames frozen2
    refine Device.setTwin_kept (fun _ h => by simpa [Twin.Shaped, upd, clearBits] using h) ?_
    exact Kept.refl
theorem execMardalLaneDown_kept (t : Tick) (lane : Fin 2) (s s' : State) (h : execMardalLaneDown t lane s = .next s') : Kept s.dev s'.dev := by
  refine State.on_kept h fun d => ?_
  refine Kept.ite ?_ ?_
  · exact Kept.refl
  · extract_lets +onlyGivenNames d1
    refine Kept.cut d1 ?_ fun hd1 => ?_
    · subst d1
      refine Device.setTwin_kept (fun _ h => by simpa [Twin.Shaped, upd, clearBits] using h) ?_
      refine Kept.step (Device.mdlDrain_kept ..) ?_
      exact Kept.refl
    clear_value d1
    extract_lets +onlyGivenNames d2
    refine Kept.cut d2 ?_ fun hd2 => ?_
    · subst d2
      refine Kept.step (Device.raiseRated_kept ..) ?_
      assumption
    clear_value d2
    refine Kept.ite ?_ ?_
    · assumption
    · extract_lets +onlyGivenNames d3
      refine Kept.cut d3 ?_ fun hd3 => ?_
      · subst d3
        refine Device.setTwin_kept (fun _ h => by simpa [Twin.Shaped, upd, clearBits] using h) ?_
        assumption
      clear_value d3
      refine Kept.step (Device.twinStatus_kept ..) ?_
      refine Kept.ite ?_ ?_
      · refine Device.setClk_kept (fun _ h => by simpa [Clk.Shaped, upd, clearBits] using h) ?_
        assumption
      · assumption
theorem execMardalLaneUp_kept (t : Tick) (lane : Fin 2) (s s' : State) (h : execMardalLaneUp t lane s = .next s') : Kept s.dev s'.dev := by
  refine State.on_kept h fun d => ?_
  refine Kept.ite ?_ ?_
  · exact Kept.refl
  · extract_lets +onlyGivenNames was1
    extract_lets +onlyGivenNames now2
    extract_lets +onlyGivenNames d3
    refine Kept.cut d3 ?_ fun hd3 => ?_
    · subst d3
      refine Kept.step (Device.mdlDrain_kept ..) ?_
      exact Kept.refl
    clear_value d3
    extract_lets +onlyGivenNames d4
    refine Kept.cut d4 ?_ fun hd4 => ?_
    · subst d4
      refine Kept.ite ?_ ?_
      · refine Device.setTwin_kept (fun _ h => by simpa [Twin.Shaped, Twin.loseMirror, upd] using h) ?_
        assumption
      · assumption
    clear_value d4
    extract_lets +onlyGivenNames d5
    refine Kept.cut d5 ?_ fun hd5 => ?_
    · subst d5
      refine Device.setTwin_kept (fun _ h => by simpa [Twin.Shaped, Twin.loseMirror, upd] using h) ?_
      assumption
    clear_value d5
    refine Kept.step (Device.twinStatus_kept ..) ?_
    refine Kept.step (Device.raiseRated_kept ..) ?_
    assumption
theorem execBeacon_kept (t : Tick) (good : Bool) (b : PeerBeacon) (s s' : State) (h : execBeacon t good b s = .next s') : Kept s.dev s'.dev := by
  refine State.on_kept h fun d => ?_
  refine Device.block_carry (fun x1 hx1 => ?_) ?_
  · refine Kept.ite ?_ ?_
    · refine Kept.step (Device.raise_kept ..) ?_
      refine Device.setTwin_kept (fun _ h => by simpa [Twin.Shaped, upd, clearBits] using h) ?_
      assumption
    · extract_lets +onlyGivenNames round2
      extract_lets +onlyGivenNames d3
      refine Kept.cut d3 ?_ fun hd3 => ?_
      · subst d3
        refine Device.setTwin_kept (fun _ h => by simpa [Twin.Shaped, upd, clearBits] using h) ?_
        assumption
      clear_value d3
      extract_lets +onlyGivenNames d4
      refine Kept.cut d4 ?_ fun hd4 => ?_
      · subst d4
        refine Kept.ite ?_ ?_
        · assumption
        · refine Kept.step (Device.raise_kept ..) ?_
          refine Device.setTwin_kept (fun _ h => by simpa [Twin.Shaped, upd, clearBits] using h) ?_
          assumption
      clear_value d4
      extract_lets +onlyGivenNames d5
      refine Kept.cut d5 ?_ fun hd5 => ?_
      · subst d5
        refine Kept.step (Device.yieldMaster_kept ..) ?_
        assumption
      clear_value d5
      extract_lets +onlyGivenNames d6
      refine Kept.cut d6 ?_ fun hd6 => ?_
      · subst d6
        refine Kept.ite ?_ ?_
        · refine Device.setClk_kept (fun _ h => by simpa [Clk.Shaped, upd, clearBits] using h) ?_
          assumption
        · assumption
      clear_value d6
      refine Kept.step (Device.answerAsks_kept ..) ?_
      refine Kept.step (Device.followState_kept ..) ?_
      assumption
  exact Kept.refl
theorem execTimeProbe_kept (t : Tick) (good : Bool) (delay : Rat) (ofs : Rat) (cyc : Nat) (s s' : State) (h : execTimeProbe t good delay ofs cyc s = .next s') : Kept s.dev s'.dev := by
  refine State.on_kept h fun d => ?_
  refine Device.block_carry (fun x1 hx1 => ?_) ?_
  · extract_lets +onlyGivenNames d2
    refine Kept.cut d2 ?_ fun hd2 => ?_
    · subst d2
      refine Device.setTwin_kept (fun _ h => by simpa [Twin.Shaped, upd, clearBits] using h) ?_
      assumption
    clear_value d2
    refine Kept.ite ?_ ?_
    · refine Device.setTwin_kept (fun _ h => by simpa [Twin.Shaped, upd, clearBits] using h) ?_
      assumption
    · refine Kept.ite ?_ ?_
      · refine Device.setTwin_kept (fun _ h => by simpa [Twin.Shaped, upd, clearBits] using h) ?_
        assumption
      · refine Kept.ite ?_ ?_
        · split
          rename_i q3
          refine Kept.cut _ (Kept.of_snd q3 ?_) fun hx4 => ?_
          · refine Kept.step (Device.quant_kept ..) ?_
            assumption
          extract_lets +onlyGivenNames ctb5
          extract_lets +onlyGivenNames eK6
          extract_lets +onlyGivenNames d7
          extract_lets +onlyGivenNames d8
          refine Kept.cut d8 ?_ fun hd8 => ?_
          · subst d8
            refine Kept.set_cycle ?_
            assumption
          clear_value d8
          refine Device.setTwin_kept (fun _ h => by simpa [Twin.Shaped, upd, clearBits] using h) ?_
          refine Kept.set_now ?_
          assumption
        · refine Device.setTwin_kept (fun _ h => by simpa [Twin.Shaped, upd, clearBits] using h) ?_
          assumption
  exact Kept.refl
theorem execLawCheckpoint_kept (t : Tick) (good : Bool) (cyc : Nat) (st : LawStates) (s s' : State) (h : execLawCheckpoint t good cyc st s = .next s') : Kept s.dev s'.dev := by
  refine State.on_kept h fun d => ?_
  refine Device.block_carry (fun x1 hx1 => ?_) ?_
  · refine Kept.ite ?_ ?_
    · refine Device.setTwin_kept (fun _ h => by simpa [Twin.Shaped, upd, clearBits] using h) ?_
      assumption
    · assumption
  exact Kept.refl
theorem execBattenInputs_kept (t : Tick) (good : Bool) (cyc : Nat) (cells : List (Rat × Nat)) (s s' : State) (h : execBattenInputs t good cyc cells s = .next s') : Kept s.dev s'.dev := by
  refine State.on_kept h fun d => ?_
  refine Device.block_carry (fun x1 hx1 => ?_) ?_
  · refine Kept.ite ?_ ?_
    · refine Device.setTwin_kept (fun _ h => by simpa [Twin.Shaped, upd, clearBits] using h) ?_
      assumption
    · assumption
  exact Kept.refl
theorem execMardalArmRecord_kept (t : Tick) (cyc : Option Nat) (arm : Fin 3) (r : ArmRecord) (s s' : State) (h : execMardalArmRecord t cyc arm r s = .next s') : Kept s.dev s'.dev := by
  refine State.on_kept h fun d => ?_
  refine Device.block_carry (fun x1 hx1 => ?_) ?_
  · refine Kept.ite ?_ ?_
    · refine Kept.step (Device.relaySchedule_kept ..) ?_
      refine Kept.step (Device.setTArm_kept ..) ?_
      assumption
    · assumption
  exact Kept.refl
theorem execScheduleCheck_kept (t : Tick) (cyc : Option Nat) (arm : Fin 3) (notice : Bool) (resume : Bool) (crc : BitVec 32) (s s' : State) (h : execScheduleCheck t cyc arm notice resume crc s = .next s') : Kept s.dev s'.dev := by
  refine State.on_kept h fun d => ?_
  refine Device.block_carry (fun x1 hx1 => ?_) ?_
  · refine Kept.ite ?_ ?_
    · assumption
    · extract_lets +onlyGivenNames d2
      refine Kept.cut d2 ?_ fun hd2 => ?_
      · subst d2
        refine Kept.step (Device.setTArm_kept ..) ?_
        assumption
      clear_value d2
      refine Kept.ite ?_ ?_
      · refine Kept.step (Device.relaySchedule_kept ..) ?_
        assumption
      · assumption
  exact Kept.refl
theorem execStreamBlock_kept (t : Tick) (good : Bool) (vals : List Int) (s s' : State) (h : execStreamBlock t good vals s = .next s') : Kept s.dev s'.dev := by
  refine State.on_kept h fun d => ?_
  refine Device.block_carry (fun x1 hx1 => ?_) ?_
  · refine Kept.foldl (fun x2 b3 hx2 => ?_) ?_
    · refine Kept.step (Device.compareStream_kept ..) ?_
      assumption
    · assumption
  exact Kept.refl
theorem execStatusBlock_kept (t : Tick) (good : Bool) (ring : Fin 12) (seq : BitVec 16) (bytes : List (BitVec 8)) (s s' : State) (h : execStatusBlock t good ring seq bytes s = .next s') : Kept s.dev s'.dev := by
  refine State.on_kept h fun d => ?_
  refine Device.block_carry (fun x1 hx1 => ?_) ?_
  · extract_lets +onlyGivenNames r2
    extract_lets +onlyGivenNames late3
    extract_lets +onlyGivenNames slot4
    extract_lets +onlyGivenNames valid5
    extract_lets +onlyGivenNames use6
    extract_lets +onlyGivenNames d7
    refine Kept.cut d7 ?_ fun hd7 => ?_
    · subst d7
      refine Kept.foldl (fun x8 b9 hx8 => ?_) ?_
      · refine Kept.step (Device.useStatus_kept ..) ?_
        assumption
      · assumption
    clear_value d7
    refine Kept.ite ?_ ?_
    · assumption
    · refine Kept.set_prov ?_
      assumption
  exact Kept.refl
theorem execObserverBlock_kept (t : Tick) (good : Bool) (cell : Fin 384) (obs : Observer) (row : CellRow) (s s' : State) (h : execObserverBlock t good cell obs row s = .next s') : Kept s.dev s'.dev := by
  refine State.on_kept h fun d => ?_
  refine Device.block_carry (fun x1 hx1 => ?_) ?_
  · refine Kept.ite ?_ ?_
    · assumption
    · extract_lets +onlyGivenNames d2
      refine Kept.cut d2 ?_ fun hd2 => ?_
      · subst d2
        refine Kept.step (Device.setCell_kept ..) ?_
        refine Kept.step (Device.setPack_kept ..) ?_
        assumption
      clear_value d2
      refine Device.setTwin_kept (fun _ h => by simpa [Twin.Shaped, upd, clearBits] using h) ?_
      assumption
  exact Kept.refl
theorem execMeterBlock_kept (t : Tick) (good : Bool) (cell : Fin 384) (cnt : PackCounters) (ten : Tenancy) (s s' : State) (h : execMeterBlock t good cell cnt ten s = .next s') : Kept s.dev s'.dev := by
  refine State.on_kept h fun d => ?_
  refine Device.block_carry (fun x1 hx1 => ?_) ?_
  · refine Kept.ite ?_ ?_
    · assumption
    · extract_lets +onlyGivenNames c2
      extract_lets +onlyGivenNames own3
      extract_lets +onlyGivenNames was4
      extract_lets +onlyGivenNames dev5
      extract_lets +onlyGivenNames d6
      refine Kept.cut d6 ?_ fun hd6 => ?_
      · subst d6
        refine Kept.step (Device.setPack_kept ..) ?_
        assumption
      clear_value d6
      extract_lets +onlyGivenNames d7
      refine Kept.cut d7 ?_ fun hd7 => ?_
      · subst d7
        refine Device.setTwin_kept (fun _ h => by simpa [Twin.Shaped, upd, clearBits] using h) ?_
        assumption
      clear_value d7
      refine Kept.ite ?_ ?_
      · refine Kept.step (Device.raiseRated_kept ..) ?_
        assumption
      · assumption
  exact Kept.refl
theorem execDigestBlock_kept (t : Tick) (good : Bool) (set : BitVec 256) (fw : BitVec 32) (s s' : State) (h : execDigestBlock t good set fw s = .next s') : Kept s.dev s'.dev := by
  refine State.on_kept h fun d => ?_
  refine Device.block_carry (fun x1 hx1 => ?_) ?_
  · extract_lets +onlyGivenNames same2
    extract_lets +onlyGivenNames sameFw3
    extract_lets +onlyGivenNames d4
    refine Kept.cut d4 ?_ fun hd4 => ?_
    · subst d4
      refine Device.setTwin_kept (fun _ h => by simpa [Twin.Shaped, upd, clearBits] using h) ?_
      assumption
    clear_value d4
    refine Kept.ite ?_ ?_
    · assumption
    · extract_lets +onlyGivenNames cause5
      refine Kept.step (Device.raiseRated_kept ..) ?_
      refine Device.setTwin_kept (fun _ h => by simpa [Twin.Shaped, upd, clearBits] using h) ?_
      assumption
  exact Kept.refl
theorem execBattenStateBlock_kept (t : Tick) (good : Bool) (arm : Fin 3) (cells : List (Nat × ModCell × Gate × Gate)) (a : ModArm × Circ) (s s' : State) (h : execBattenStateBlock t good arm cells a s = .next s') : Kept s.dev s'.dev := by
  refine State.on_kept h fun d => ?_
  refine Device.block_carry (fun x1 hx1 => ?_) ?_
  · refine Kept.ite ?_ ?_
    · assumption
    · extract_lets +onlyGivenNames own2
      extract_lets +onlyGivenNames x3
      extract_lets +onlyGivenNames base4
      extract_lets +onlyGivenNames gbase5
      extract_lets +onlyGivenNames copy6
      extract_lets +onlyGivenNames gates7
      extract_lets +onlyGivenNames parts8
      extract_lets +onlyGivenNames all9
      refine Device.setTwin_kept (fun _ h => by simpa [Twin.Shaped, upd, clearBits] using h) ?_
      refine Kept.step (Device.setTArm_kept ..) ?_
      assumption
  exact Kept.refl
theorem execTwinDeadline_kept (t : Tick) (s s' : State) (h : execTwinDeadline t s = .next s') : Kept s.dev s'.dev := by
  refine State.on_kept h fun d => ?_
  refine Kept.ite ?_ ?_
  · exact Kept.refl
  · refine Kept.foldl (fun x1 b2 hx1 => ?_) ?_
    · refine Kept.ite ?_ ?_
      · refine Kept.ite ?_ ?_
        · assumption
        · refine Kept.step (Device.sendCheck_kept ..) ?_
          assumption
      · extract_lets +onlyGivenNames d3
        refine Kept.cut d3 ?_ fun hd3 => ?_
        · subst d3
          refine Kept.step (Device.reuseSchedule_kept ..) ?_
          assumption
        clear_value d3
        refine Kept.ite ?_ ?_
        · refine Kept.step (Device.mdlSend_kept ..) ?_
          assumption
        · assumption
    · exact Kept.refl
theorem execTwinDecision_kept (t : Tick) (s s' : State) (h : execTwinDecision t s = .next s') : Kept s.dev s'.dev := by
  refine State.on_kept h fun d => ?_
  refine Kept.ite ?_ ?_
  · exact Kept.refl
  · extract_lets +onlyGivenNames served1
    extract_lets +onlyGivenNames d2
    refine Kept.cut d2 ?_ fun hd2 => ?_
    · subst d2
      refine Kept.step (Device.twinStatus_kept ..) ?_
      refine Kept.ite ?_ ?_
      · refine Device.setTwin_kept (fun _ h => by simpa [Twin.Shaped, upd, clearBits] using h) ?_
        exact Kept.refl
      · exact Kept.refl
    clear_value d2
    extract_lets +onlyGivenNames ok3
    extract_lets +onlyGivenNames d4
    refine Kept.cut d4 ?_ fun hd4 => ?_
    · subst d4
      refine Kept.foldl (fun x5 b6 hx5 => ?_) ?_
      · extract_lets +onlyGivenNames d7
        refine Kept.cut d7 ?_ fun hd7 => ?_
        · subst d7
          refine Kept.step (Device.decideArm_kept ..) ?_
          refine Kept.step (Device.setTArm_kept ..) ?_
          assumption
        clear_value d7
        refine Kept.ite ?_ ?_
        · assumption
        · refine Kept.step (Device.setTArm_kept ..) ?_
          assumption
      · assumption
    clear_value d4
    extract_lets +onlyGivenNames sh8
    extract_lets +onlyGivenNames first9
    extract_lets +onlyGivenNames d10
    refine Kept.cut d10 ?_ fun hd10 => ?_
    · subst d10
      refine Device.setTwin_kept (fun _ h => by simpa [Twin.Shaped, upd, clearBits] using h) ?_
      assumption
    clear_value d10
    extract_lets +onlyGivenNames d11
    refine Kept.cut d11 ?_ fun hd11 => ?_
    · subst d11
      refine Kept.ite ?_ ?_
      · refine Kept.step (Device.raise_kept ..) ?_
        assumption
      · assumption
    clear_value d11
    refine Kept.step (Device.twinStatus_kept ..) ?_
    assumption
theorem execShadowExpired_kept (t : Tick) (s s' : State) (h : execShadowExpired t s = .next s') : Kept s.dev s'.dev := by
  refine State.on_kept h fun d => ?_
  refine Kept.ite ?_ ?_
  · exact Kept.refl
  · extract_lets +onlyGivenNames d1
    refine Kept.cut d1 ?_ fun hd1 => ?_
    · subst d1
      refine Device.setTwin_kept (fun _ h => by simpa [Twin.Shaped, upd, clearBits] using h) ?_
      exact Kept.refl
    clear_value d1
    refine Kept.step (Device.twinStatus_kept ..) ?_
    refine Kept.step (Device.raise_kept ..) ?_
    assumption
theorem execHealthToggle_kept (t : Tick) (s s' : State) (h : execHealthToggle t s = .next s') : Kept s.dev s'.dev := by
  refine State.on_kept h fun d => ?_
  extract_lets +onlyGivenNames d1
  refine Kept.cut d1 ?_ fun hd1 => ?_
  · subst d1
    refine Kept.step (Device.twinStatus_kept ..) ?_
    exact Kept.refl
  clear_value d1
  refine Kept.ite ?_ ?_
  · assumption
  · refine Device.setTwin_kept (fun _ h => by simpa [Twin.Shaped, upd, clearBits] using h) ?_
    assumption
theorem execArbGrantChange_kept (t : Tick) (level : Bool) (heldNs : Rat) (s s' : State) (h : execArbGrantChange t level heldNs s = .next s') : Kept s.dev s'.dev := by
  refine State.on_kept h fun d => ?_
  refine Kept.ite ?_ ?_
  · exact Kept.refl
  · refine Device.setTwin_kept (fun _ h => by simpa [Twin.Shaped, upd, clearBits] using h) ?_
    exact Kept.refl
theorem execTwinRoleChange_kept (t : Tick) (s s' : State) (h : execTwinRoleChange t s = .next s') : Kept s.dev s'.dev := by
  refine State.on_kept h fun d => ?_
  refine Kept.ite ?_ ?_
  · exact Kept.refl
  · extract_lets +onlyGivenNames w1
    refine Kept.ite ?_ ?_
    · refine Kept.ite ?_ ?_
      · exact Kept.refl
      · refine Kept.ite ?_ ?_
        · refine Kept.step (Device.roleChange_kept ..) ?_
          refine Kept.foldl (fun x2 b3 hx2 => ?_) ?_
          · refine Kept.step (Device.takeCopy_kept ..) ?_
            assumption
          · exact Kept.refl
        · refine Kept.step (Device.raise_kept ..) ?_
          refine Device.setTwin_kept (fun _ h => by simpa [Twin.Shaped, upd, clearBits] using h) ?_
          exact Kept.refl
    · refine Kept.ite ?_ ?_
      · refine Kept.step (Device.roleChange_kept ..) ?_
        exact Kept.refl
      · exact Kept.refl
theorem execCtbSecond_kept (t : Tick) (s s' : State) (h : execCtbSecond t s = .next s') : Kept s.dev s'.dev := by
  refine State.on_kept h fun d => ?_
  extract_lets +onlyGivenNames n1
  extract_lets +onlyGivenNames d2
  refine Kept.cut d2 ?_ fun hd2 => ?_
  · subst d2
    refine Kept.step (Device.ctbSecond_kept ..) ?_
    exact Kept.refl
  clear_value d2
  refine Kept.ite ?_ ?_
  · assumption
  · refine Kept.step (Device.twinSecond_kept ..) ?_
    assumption

/-! ## LoadAll -/

theorem Device.ringMissing_kept (d : Device) (r : Nat) : Kept d (Device.ringMissing d r) := by
  unfold Device.ringMissing
  extract_lets +onlyGivenNames g1
  extract_lets +onlyGivenNames sent2
  extract_lets +onlyGivenNames lost3
  refine Kept.step (Device.setRing_kept ..) ?_
  exact Kept.refl
theorem Device.closeFrames_kept (d : Device) : Kept d (Device.closeFrames d) := by
  unfold Device.closeFrames
  extract_lets +onlyGivenNames d1
  refine Kept.cut d1 ?_ fun hd1 => ?_
  · subst d1
    refine Kept.foldl (fun x2 b3 hx2 => ?_) ?_
    · refine Kept.step (Device.ringMissing_kept ..) ?_
      assumption
    · exact Kept.refl
  clear_value d1
  extract_lets +onlyGivenNames r4
  refine Kept.cut r4 ?_ fun hr4 => ?_
  · subst r4
    refine Kept.step (Device.meterClose_kept ..) ?_
    refine Kept.step (Device.slowMissed_kept ..) ?_
    assumption
  clear_value r4
  refine Kept.set_prov ?_
  assumption
theorem Device.restCycle_kept (d : Device) : Kept d (Device.restCycle d) := by
  unfold Device.restCycle
  refine Kept.foldl (fun x1 b2 hx1 => ?_) ?_
  · refine Kept.ite ?_ ?_
    · refine Kept.step (Device.restPack_kept ..) ?_
      assumption
    · assumption
  · refine Kept.step (Device.countRests_kept ..) ?_
    exact Kept.refl
theorem Device.bypassSteps_kept (d : Device) : Kept d (Device.bypassSteps d) := by
  unfold Device.bypassSteps
  extract_lets +onlyGivenNames now1
  extract_lets +onlyGivenNames blocked2
  refine Device.setTwin_kept (fun _ h => by simpa [Twin.Shaped, upd, clearBits] using h) ?_
  refine Device.setModu_kept (fun _ h => by simpa [Modu.Shaped, upd, clearBits] using h) ?_
  exact Kept.refl
theorem Device.restartLaw_kept (d : Device) : Kept d (Device.restartLaw d) := by
  unfold Device.restartLaw
  refine Kept.ite ?_ ?_
  · exact Kept.refl
  · refine Kept.ite ?_ ?_
    · extract_lets +onlyGivenNames d1
      refine Kept.cut d1 ?_ fun hd1 => ?_
      · subst d1
        refine Device.setTraj_kept ?_
        refine Kept.step (Device.snapToGrid_kept ..) ?_
        exact Kept.refl
      clear_value d1
      refine Device.setConv_kept ?_
      refine Kept.step (Device.lawEntry_kept ..) ?_
      assumption
    · extract_lets +onlyGivenNames f2
      extract_lets +onlyGivenNames d3
      refine Kept.cut d3 ?_ fun hd3 => ?_
      · subst d3
        refine Kept.step (Device.setAxis_kept ..) ?_
        refine Kept.step (Device.setAxis_kept ..) ?_
        exact Kept.refl
      clear_value d3
      refine Device.setConv_kept ?_
      refine Kept.step (Device.lawEntry_kept ..) ?_
      assumption
theorem Device.launchResume_kept (d : Device) : Kept d (Device.launchResume d) := by
  unfold Device.launchResume
  extract_lets +onlyGivenNames e1
  extract_lets +onlyGivenNames d2
  refine Kept.cut d2 ?_ fun hd2 => ?_
  · subst d2
    refine Kept.step (Device.restartLaw_kept ..) ?_
    exact Kept.refl
  clear_value d2
  extract_lets +onlyGivenNames d3
  refine Kept.cut d3 ?_ fun hd3 => ?_
  · subst d3
    refine Kept.foldl (fun x4 b5 hx4 => ?_) ?_
    · refine Kept.step (Device.resumeArm_kept ..) ?_
      assumption
    · assumption
  clear_value d3
  refine Device.setProt_kept (fun _ h => by simpa [Prot.Shaped, upd, clearBits] using h) ?_
  assumption
theorem Device.chooseArm_kept (d : Device) (arm : Nat) : Kept d (Device.chooseArm d arm) := by
  unfold Device.chooseArm
  extract_lets +onlyGivenNames x1
  extract_lets +onlyGivenNames own2
  extract_lets +onlyGivenNames give3
  split
  · unfold give3
    extract_lets +onlyGivenNames one4
    refine Device.setModu_kept (fun _ h => by simpa [Modu.Shaped, upd, clearBits] using h) ?_
    refine Kept.step (Device.takeCopy_kept ..) ?_
    exact Kept.refl
  · unfold give3
    extract_lets +onlyGivenNames one5
    refine Device.setModu_kept (fun _ h => by simpa [Modu.Shaped, upd, clearBits] using h) ?_
    refine Kept.step (Device.takeCopy_kept ..) ?_
    exact Kept.refl
  · exact Kept.refl
theorem Device.arms_kept (d : Device) : Kept d (Device.arms d).1 := by
  unfold Device.arms
  extract_lets +onlyGivenNames none_1
  split
  · extract_lets +onlyGivenNames resume2
    extract_lets +onlyGivenNames d3
    refine Kept.cut d3 ?_ fun hd3 => ?_
    · subst d3
      refine Kept.ite ?_ ?_
      · refine Kept.ite ?_ ?_
        · refine Kept.step (Device.launchResume_kept ..) ?_
          exact Kept.refl
        · refine Device.setProt_kept (fun _ h => by simpa [Prot.Shaped, upd, clearBits] using h) ?_
          exact Kept.refl
      · unfold none_1
        refine Kept.ite ?_ ?_
        · refine Device.setModu_kept (fun _ h => by simpa [Modu.Shaped, upd, clearBits] using h) ?_
          exact Kept.refl
        · exact Kept.refl
    clear_value d3
    refine Kept.fst_mk ?_
    refine Kept.foldl (fun x4 b5 hx4 => ?_) ?_
    · refine Kept.step (Device.chooseArm_kept ..) ?_
      assumption
    · assumption
  · split
    · refine Kept.fst_mk ?_
      refine Kept.step (Device.launchResume_kept ..) ?_
      exact Kept.refl
    · refine Kept.fst_mk ?_
      unfold none_1
      refine Kept.ite ?_ ?_
      · refine Device.setModu_kept (fun _ h => by simpa [Modu.Shaped, upd, clearBits] using h) ?_
        exact Kept.refl
      · exact Kept.refl
theorem Device.launch_kept (d : Device) (resume : Bool) : Kept d (Device.launch d resume) := by
  unfold Device.launch
  extract_lets +onlyGivenNames relayed1
  extract_lets +onlyGivenNames d2
  refine Kept.cut d2 ?_ fun hd2 => ?_
  · subst d2
    refine Device.setLink_kept (fun _ h => by simpa [Link.Shaped, upd, clearBits] using h) ?_
    exact Kept.refl
  clear_value d2
  refine Kept.ite ?_ ?_
  · assumption
  · extract_lets +onlyGivenNames d3
    refine Kept.cut d3 ?_ fun hd3 => ?_
    · subst d3
      refine Kept.foldl (fun x4 b5 hx4 => ?_) ?_
      · refine Kept.step (Device.launchRing_kept ..) ?_
        assumption
      · assumption
    clear_value d3
    extract_lets +onlyGivenNames count6
    refine Device.setLink_kept (fun _ h => by simpa [Link.Shaped, upd, clearBits] using h) ?_
    unfold count6
    extract_lets +onlyGivenNames fs7
    extract_lets +onlyGivenNames fs8
    refine Kept.step (Device.pmcPulse_kept ..) ?_
    refine Kept.step (Device.pmcPulse_kept ..) ?_
    refine Kept.step (Device.pmcPulse_kept ..) ?_
    refine Kept.step (Device.pmcPulse_kept ..) ?_
    assumption
theorem Device.sentOn_kept (d : Device) : Kept d (Device.sentOn d) := by
  unfold Device.sentOn
  refine Device.setModu_kept (fun _ h => by simpa [Modu.Shaped, upd, clearBits] using h) ?_
  exact Kept.refl
theorem Device.strobeWatch_kept (d : Device) (resume : Bool) : Kept d (Device.strobeWatch d resume) := by
  unfold Device.strobeWatch
  refine Kept.ite ?_ ?_
  · refine Kept.step (Device.squallTrigger_kept ..) ?_
    exact Kept.refl
  · exact Kept.refl
theorem Device.modShow_kept (d : Device) : Kept d (Device.modShow d) := by
  unfold Device.modShow
  extract_lets +onlyGivenNames m1
  extract_lets +onlyGivenNames a2
  extract_lets +onlyGivenNames three3
  extract_lets +onlyGivenNames cell4
  extract_lets +onlyGivenNames masks5
  extract_lets +onlyGivenNames stat6
  extract_lets +onlyGivenNames words7
  extract_lets +onlyGivenNames d8
  refine Kept.cut d8 ?_ fun hd8 => ?_
  · subst d8
    refine Kept.step (Device.hwSet_kept ..) ?_
    exact Kept.refl
  clear_value d8
  refine Device.setModu_kept (fun _ h => by simpa [Modu.Shaped, upd, clearBits] using h) ?_
  assumption
theorem execLoadAll_kept (t : Tick) (s s' : State) (h : execLoadAll t s = .next s') : Kept s.dev s'.dev := by
  refine State.on_kept h fun d => ?_
  refine Kept.ite ?_ ?_
  · exact Kept.refl
  · extract_lets +onlyGivenNames d1
    refine Kept.cut d1 ?_ fun hd1 => ?_
    · subst d1
      refine Kept.step (Device.restCycle_kept ..) ?_
      refine Kept.step (Device.closeFrames_kept ..) ?_
      exact Kept.refl
    clear_value d1
    extract_lets +onlyGivenNames d2
    refine Kept.cut d2 ?_ fun hd2 => ?_
    · subst d2
      refine Kept.ite ?_ ?_
      · refine Kept.step (Device.bypassSteps_kept ..) ?_
        assumption
      · assumption
    clear_value d2
    extract_lets +onlyGivenNames due3
    extract_lets +onlyGivenNames d4
    refine Kept.cut d4 ?_ fun hd4 => ?_
    · subst d4
      refine Device.setConv_kept ?_
      assumption
    clear_value d4
    extract_lets +onlyGivenNames d5
    refine Kept.cut d5 ?_ fun hd5 => ?_
    · subst d5
      refine Device.setProt_kept (fun _ h => by simpa [Prot.Shaped, upd, clearBits] using h) ?_
      assumption
    clear_value d5
    split
    rename_i q6
    refine Kept.cut _ (Kept.of_fst q6 ?_) fun hx7 => ?_
    · refine Kept.step (Device.arms_kept ..) ?_
      assumption
    extract_lets +onlyGivenNames d8
    refine Kept.cut d8 ?_ fun hd8 => ?_
    · subst d8
      refine Kept.step (Device.buildWindows_kept ..) ?_
      refine Kept.step (Device.bypassSteps_kept ..) ?_
      refine Kept.step (Device.launchedCells_kept ..) ?_
      refine Kept.step (Device.sentOn_kept ..) ?_
      refine Kept.step (Device.launch_kept ..) ?_
      assumption
    clear_value d8
    extract_lets +onlyGivenNames d9
    refine Kept.cut d9 ?_ fun hd9 => ?_
    · subst d9
      refine Kept.ite ?_ ?_
      · assumption
      · refine Device.setModu_kept (fun _ h => by simpa [Modu.Shaped, upd, clearBits] using h) ?_
        assumption
    clear_value d9
    extract_lets +onlyGivenNames d10
    refine Kept.cut d10 ?_ fun hd10 => ?_
    · subst d10
      refine Kept.foldl (fun x11 b12 hx11 => ?_) ?_
      · refine Kept.step (Device.availability_kept ..) ?_
        assumption
      · assumption
    clear_value d10
    extract_lets +onlyGivenNames d13
    refine Kept.cut d13 ?_ fun hd13 => ?_
    · subst d13
      refine Device.setTwin_kept (fun _ h => by simpa [Twin.Shaped, upd, clearBits] using h) ?_
      refine Kept.step (Device.meterOpen_kept ..) ?_
      refine Kept.step (Device.modShow_kept ..) ?_
      refine Device.setModu_kept (fun _ h => by simpa [Modu.Shaped, upd, clearBits] using h) ?_
      assumption
    clear_value d13
    refine Kept.step (Device.strobeWatch_kept ..) ?_
    refine Kept.step (Device.pmcPulse_kept ..) ?_
    refine Kept.step (Device.stamp_kept ..) ?_
    assumption
theorem execNodeAnswerMissed_kept (t : Tick) (s s' : State) (h : execNodeAnswerMissed t s = .next s') : Kept s.dev s'.dev := by
  refine State.on_kept h fun d => ?_
  extract_lets +onlyGivenNames gone1
  refine Kept.foldl (fun x2 b3 hx2 => ?_) ?_
  · refine Kept.step (Device.complete_kept ..) ?_
    refine Device.setLink_kept (fun _ h => by simpa [Link.Shaped, upd, clearBits] using h) ?_
    assumption
  · exact Kept.refl

end Sys2Proof.Machine
end

