-- ==== Sys2Proof/Laws/KeptHost.lean ====
section
/-! SUPPORT. Every operation, and then every command, leaves the device the counts the spec gives it (`Kept`): errors, mailbox, commands, masks, counters, housekeeping, rails, registers, the cycle start. -/

namespace Sys2Proof.Machine

/-! ## Errors -/

theorem Device.corrected_kept (d : Device) (die : Nat) (word : Nat) : Kept d (Device.corrected d die word) := by
  unfold Device.corrected
  extract_lets +onlyGivenNames near1
  extract_lets +onlyGivenNames again2
  extract_lets +onlyGivenNames d3
  refine Kept.cut d3 ?_ fun hd3 => ?_
  · subst d3
    refine Device.setEh_kept ?_
    exact Kept.refl
  clear_value d3
  extract_lets +onlyGivenNames d4
  refine Kept.cut d4 ?_ fun hd4 => ?_
  · subst d4
    refine Kept.step (Device.errReport_kept ..) ?_
    assumption
  clear_value d4
  refine Kept.ite ?_ ?_
  · refine Kept.step (Device.errReport_kept ..) ?_
    assumption
  · assumption
theorem Device.slotSentEmpty_kept (d : Device) (cell : Nat) : Kept d (Device.slotSentEmpty d cell) := by
  unfold Device.slotSentEmpty
  extract_lets +onlyGivenNames blank1
  refine Device.setLink_kept (fun _ h => by simpa [Link.Shaped, upd, clearBits] using h) ?_
  exact Kept.refl
theorem Device.dieFail_kept (d : Device) (die : Nat) : Kept d (Device.dieFail d die) := by
  unfold Device.dieFail
  extract_lets +onlyGivenNames d1
  refine Kept.cut d1 ?_ fun hd1 => ?_
  · subst d1
    refine Device.setConv_kept ?_
    exact Kept.refl
  clear_value d1
  refine Kept.ite ?_ ?_
  · refine Device.setSaf_kept (fun _ h => by simpa [Safety.Shaped, upd, clearBits] using h) ?_
    assumption
  · refine Kept.step (Device.recFail_kept ..) ?_
    assumption
theorem Device.logPersist_kept (d : Device) : Kept d (Device.logPersist d) := by
  unfold Device.logPersist
  refine Device.setEh_kept ?_
  exact Kept.refl
theorem Device.goFatal_kept (d : Device) : Kept d (Device.goFatal d) := by
  unfold Device.goFatal
  extract_lets +onlyGivenNames d1
  refine Kept.cut d1 ?_ fun hd1 => ?_
  · subst d1
    refine Kept.foldl (fun x2 b3 hx2 => ?_) ?_
    · refine Kept.step (Device.dieFail_kept ..) ?_
      assumption
    · exact Kept.refl
  clear_value d1
  extract_lets +onlyGivenNames d4
  refine Kept.cut d4 ?_ fun hd4 => ?_
  · subst d4
    refine Device.setConv_kept ?_
    refine Device.setEh_kept ?_
    assumption
  clear_value d4
  refine Device.setHost_kept (fun _ h => by simpa [HostPort.Shaped, upd, clearBits] using h) ?_
  refine Kept.step (Device.msix_kept ..) ?_
  assumption
theorem Device.classAction_kept (d : Device) (x : ErrEntry) : Kept d (Device.classAction d x) := by
  unfold Device.classAction
  extract_lets +onlyGivenNames load1
  split
  · refine Kept.step (Device.raiseRated_kept ..) ?_
    exact Kept.refl
  · extract_lets +onlyGivenNames d2
    refine Kept.cut d2 ?_ fun hd2 => ?_
    · subst d2
      refine Device.setEh_kept ?_
      refine Kept.step (Device.raise_kept ..) ?_
      exact Kept.refl
    clear_value d2
    refine Kept.step (Device.raise_kept ..) ?_
    assumption
  · extract_lets +onlyGivenNames d3
    refine Kept.cut d3 ?_ fun hd3 => ?_
    · subst d3
      refine Kept.step (Device.dieFail_kept ..) ?_
      exact Kept.refl
    clear_value d3
    extract_lets +onlyGivenNames d4
    refine Kept.cut d4 ?_ fun hd4 => ?_
    · subst d4
      split
      · refine Kept.step (Device.dieFail_kept ..) ?_
        assumption
      · assumption
    clear_value d4
    refine Kept.step (Device.raise_kept ..) ?_
    assumption
  · refine Kept.step (Device.raise_kept ..) ?_
    refine Kept.step (Device.goFatal_kept ..) ?_
    exact Kept.refl
theorem Device.logError_kept (d : Device) (x : ErrEntry) : Kept d (Device.logError d x) := by
  unfold Device.logError
  extract_lets +onlyGivenNames n1
  extract_lets +onlyGivenNames span2
  extract_lets +onlyGivenNames e3
  split
  extract_lets +onlyGivenNames adopt4
  split
  rename_i q5
  refine Kept.cut _ (Kept.of_snd q5 ?_) fun hx6 => ?_
  · refine Kept.step (Device.quant_kept ..) ?_
    exact Kept.refl
  extract_lets +onlyGivenNames d7
  refine Kept.cut d7 ?_ fun hd7 => ?_
  · subst d7
    refine Device.setEh_kept ?_
    assumption
  clear_value d7
  refine Kept.ite ?_ ?_
  · refine Kept.step (Device.logPersist_kept ..) ?_
    assumption
  · assumption
theorem Device.fwRestart_kept (d : Device) : Kept d (Device.fwRestart d) := by
  unfold Device.fwRestart
  extract_lets +onlyGivenNames d1
  refine Kept.cut d1 ?_ fun hd1 => ?_
  · subst d1
    refine Device.setHost_kept (fun _ _ => ⟨rfl, rfl⟩) ?_
    exact Kept.refl
  clear_value d1
  extract_lets +onlyGivenNames d2
  refine Kept.cut d2 ?_ fun hd2 => ?_
  · subst d2
    refine Device.setConv_kept ?_
    assumption
  clear_value d2
  extract_lets +onlyGivenNames d3
  refine Kept.cut d3 ?_ fun hd3 => ?_
  · subst d3
    refine Device.setLink_kept (fun _ h => by simpa [Link.Shaped, upd, clearBits] using h) ?_
    assumption
  clear_value d3
  extract_lets +onlyGivenNames d4
  refine Kept.cut d4 ?_ fun hd4 => ?_
  · subst d4
    refine Device.setClk_kept (fun _ h => by simpa [Clk.Shaped, upd, clearBits] using h) ?_
    assumption
  clear_value d4
  extract_lets +onlyGivenNames d5
  refine Kept.cut d5 ?_ fun hd5 => ?_
  · subst d5
    refine Device.setEh_kept ?_
    assumption
  clear_value d5
  extract_lets +onlyGivenNames d6
  refine Kept.cut d6 ?_ fun hd6 => ?_
  · subst d6
    refine Device.setSaf_kept (fun _ h => by simpa [Safety.Shaped, upd, clearBits] using h) ?_
    assumption
  clear_value d6
  extract_lets +onlyGivenNames d7
  extract_lets +onlyGivenNames d8
  extract_lets +onlyGivenNames d9
  extract_lets +onlyGivenNames d10
  extract_lets +onlyGivenNames d11
  refine Kept.cut d11 ?_ fun hd11 => ?_
  · subst d11
    refine Kept.trans (b := d6) ?_ ⟨fun s => ⟨s.clk, s.host, s.parCopies, s.brk, s.modu, s.packs, s.meter, s.link, s.prot, s.safety, s.twin, s.meas, s.law, s.recd, ⟨rfl, (by decide : ∀ l ∈ Zephyr.reset.pmc.ctrs, l.length = 16)⟩, s.net⟩⟩
    assumption
  clear_value d11
  extract_lets +onlyGivenNames d12
  refine Kept.cut d12 ?_ fun hd12 => ?_
  · subst d12
    refine Device.setSec_kept ?_
    assumption
  clear_value d12
  refine Kept.step (Device.safetyCopy_kept ..) ?_
  refine Kept.step (Device.loadParams_kept ..) ?_
  refine Device.setMeter_kept (fun _ h => by simpa [Meter.Shaped, upd, clearBits] using h) ?_
  assumption
theorem execScrubPass_kept (t : Tick) (fixed : List (Fin 3 × BitVec 32)) (bad : List (Fin 3 × BitVec 32)) (s s' : State) (h : execScrubPass t fixed bad s = .next s') : Kept s.dev s'.dev := by
  refine State.on_kept h fun d => ?_
  extract_lets +onlyGivenNames d1
  refine Kept.cut d1 ?_ fun hd1 => ?_
  · subst d1
    refine Device.setEh_kept ?_
    exact Kept.refl
  clear_value d1
  extract_lets +onlyGivenNames d2
  refine Kept.cut d2 ?_ fun hd2 => ?_
  · subst d2
    refine Kept.foldl (fun x3 b4 hx3 => ?_) ?_
    · refine Kept.step (Device.corrected_kept ..) ?_
      assumption
    · assumption
  clear_value d2
  refine Kept.foldl (fun x5 b6 hx5 => ?_) ?_
  · refine Kept.step (Device.errReport_kept ..) ?_
    assumption
  · assumption
theorem execErrorReport_kept (t : Tick) (code : BitVec 16) (island : Fin 10) (kind : Fin 10) (index : BitVec 16) (detail : BitVec 32) (s s' : State) (h : execErrorReport t code island kind index detail s = .next s') : Kept s.dev s'.dev := by
  refine State.on_kept h fun d => ?_
  extract_lets +onlyGivenNames c1
  extract_lets +onlyGivenNames i2
  extract_lets +onlyGivenNames die3
  extract_lets +onlyGivenNames d4
  refine Kept.cut d4 ?_ fun hd4 => ?_
  · subst d4
    refine Kept.ite ?_ ?_
    · refine Device.setSec_kept ?_
      exact Kept.refl
    · refine Kept.ite ?_ ?_
      · refine Kept.step (Device.setArm_kept ..) ?_
        exact Kept.refl
      · refine Kept.ite ?_ ?_
        · refine Kept.step (Device.setNode_kept ..) ?_
          exact Kept.refl
        · refine Kept.ite ?_ ?_
          · refine Kept.step (Device.slotSentEmpty_kept ..) ?_
            exact Kept.refl
          · exact Kept.refl
  clear_value d4
  refine Kept.ite ?_ ?_
  · refine Kept.step (Device.corrected_kept ..) ?_
    assumption
  · refine Kept.step (Device.errReport_kept ..) ?_
    assumption
theorem execErrorHandlingDone_kept (t : Tick) (s s' : State) (h : execErrorHandlingDone t s = .next s') : Kept s.dev s'.dev := by
  refine State.on_kept h fun d => ?_
  refine Kept.ite ?_ ?_
  · exact Kept.refl
  · split
    · exact Kept.refl
    · refine Kept.step (Device.takeError_kept ..) ?_
      refine Device.setEh_kept ?_
      refine Kept.step (Device.logError_kept ..) ?_
      refine Kept.step (Device.classAction_kept ..) ?_
      exact Kept.refl
theorem execHandlerFault_kept (t : Tick) (cause : Fin 5) (s s' : State) (h : execHandlerFault t cause s = .next s') : Kept s.dev s'.dev := by
  refine State.on_kept h fun d => ?_
  split
  · refine Kept.ite ?_ ?_
    · refine Kept.step (Device.handlerFault_kept ..) ?_
      exact Kept.refl
    · exact Kept.refl
  · refine Kept.step (Device.handlerFault_kept ..) ?_
    exact Kept.refl
  · refine Kept.step (Device.handlerFault_kept ..) ?_
    exact Kept.refl
  · exact Kept.refl
theorem execCmdEhLogRead_kept (t : Tick) (h : CmdHdr) (a : Args) (dmaOk : Bool) (s s' : State) (h : execCmdEhLogRead t h a dmaOk s = .next s') : Kept s.dev s'.dev := by
  refine State.on_kept h fun d => ?_
  extract_lets +onlyGivenNames n1
  refine Device.cmdIf_carry (fun x2 hx2 => ?_) ?_
  · extract_lets +onlyGivenNames l3
    split
    · refine Kept.fst_mk ?_
      refine Kept.step (Device.dmaFail_kept ..) ?_
      assumption
    · refine Kept.fst_mk ?_
      refine Kept.step (Device.post_kept ..) ?_
      assumption
  exact Kept.refl
theorem execCmdEhAck_kept (t : Tick) (h : CmdHdr) (a : Args) (s s' : State) (h : execCmdEhAck t h a s = .next s') : Kept s.dev s'.dev := by
  refine State.on_kept h fun d => ?_
  refine Device.cmd_carry (fun x1 hx1 => ?_) ?_
  · refine Kept.fst_mk ?_
    refine Device.setEh_kept ?_
    assumption
  exact Kept.refl
theorem execCmdEhLogClear_kept (t : Tick) (h : CmdHdr) (a : Args) (s s' : State) (h : execCmdEhLogClear t h a s = .next s') : Kept s.dev s'.dev := by
  refine State.on_kept h fun d => ?_
  refine Device.cmd_carry (fun x1 hx1 => ?_) ?_
  · split
    · refine Kept.fst_mk ?_
      assumption
    · refine Kept.fst_mk ?_
      refine Device.setEh_kept ?_
      assumption
  exact Kept.refl
theorem execCmdFwRestart_kept (t : Tick) (h : CmdHdr) (a : Args) (s s' : State) (h : execCmdFwRestart t h a s = .next s') : Kept s.dev s'.dev := by
  refine State.on_kept h fun d => ?_
  refine Device.cmd_carry (fun x1 hx1 => ?_) ?_
  · split
    · refine Kept.fst_mk ?_
      assumption
    · refine Kept.fst_mk ?_
      refine Kept.step (Device.fwRestart_kept ..) ?_
      refine Kept.step (Device.complete_kept ..) ?_
      assumption
  exact Kept.refl
theorem execCmdFwWrite_kept (t : Tick) (h : CmdHdr) (a : Args) (image : Option (List (BitVec 8))) (s s' : State) (h : execCmdFwWrite t h a image s = .next s') : Kept s.dev s'.dev := by
  refine State.on_kept h fun d => ?_
  extract_lets +onlyGivenNames len1
  refine Device.cmdIf_carry (fun x2 hx2 => ?_) ?_
  · extract_lets +onlyGivenNames k3
    split
    · refine Kept.fst_mk ?_
      assumption
    · extract_lets +onlyGivenNames d4
      refine Kept.cut d4 ?_ fun hd4 => ?_
      · subst d4
        refine Device.setSec_kept ?_
        assumption
      clear_value d4
      split
      · refine Kept.fst_mk ?_
        refine Kept.step (Device.dmaFail_kept ..) ?_
        assumption
      · extract_lets +onlyGivenNames b5
        extract_lets +onlyGivenNames f6
        refine Kept.fst_mk ?_
        refine Device.setSec_kept ?_
        assumption
  exact Kept.refl
theorem execFwWriteDone_kept (t : Tick) (s s' : State) (h : execFwWriteDone t s = .next s') : Kept s.dev s'.dev := by
  refine State.on_kept h fun d => ?_
  split
  · exact Kept.refl
  · extract_lets +onlyGivenNames k1
    extract_lets +onlyGivenNames d2
    extract_lets +onlyGivenNames d3
    refine Kept.cut d3 ?_ fun hd3 => ?_
    · subst d3
      refine Device.setSec_kept ?_
      exact Kept.refl
    clear_value d3
    refine Kept.step (Device.complete_kept ..) ?_
    assumption
theorem execCmdFwCommit_kept (t : Tick) (h : CmdHdr) (a : Args) (s s' : State) (h : execCmdFwCommit t h a s = .next s') : Kept s.dev s'.dev := by
  refine State.on_kept h fun d => ?_
  refine Device.cmd_carry (fun x1 hx1 => ?_) ?_
  · split
    · refine Kept.fst_mk ?_
      assumption
    · split
      · refine Kept.fst_mk ?_
        assumption
      · extract_lets +onlyGivenNames c2
        refine Kept.fst_mk ?_
        refine Device.setSec_kept ?_
        assumption
  exact Kept.refl
theorem execCmdSecIdentity_kept (t : Tick) (h : CmdHdr) (a : Args) (dmaOk : Bool) (s s' : State) (h : execCmdSecIdentity t h a dmaOk s = .next s') : Kept s.dev s'.dev := by
  refine State.on_kept h fun d => ?_
  refine Device.cmd_carry (fun x1 hx1 => ?_) ?_
  · split
    · refine Kept.fst_mk ?_
      refine Kept.step (Device.dmaFail_kept ..) ?_
      assumption
    · refine Kept.fst_mk ?_
      refine Kept.step (Device.post_kept ..) ?_
      assumption
  exact Kept.refl
theorem execCmdSecAttest_kept (t : Tick) (h : CmdHdr) (a : Args) (s s' : State) (h : execCmdSecAttest t h a s = .next s') : Kept s.dev s'.dev := by
  refine State.on_kept h fun d => ?_
  refine Device.cmd_carry (fun x1 hx1 => ?_) ?_
  · extract_lets +onlyGivenNames x2
    split
    · refine Kept.fst_mk ?_
      assumption
    · split
      · refine Kept.fst_mk ?_
        refine Device.setSec_kept ?_
        assumption
      · split
        · refine Kept.fst_mk ?_
          assumption
        · refine Kept.fst_mk ?_
          refine Device.setSec_kept ?_
          assumption
  exact Kept.refl
theorem execAttestSigned_kept (t : Tick) (dmaOk : Bool) (s s' : State) (h : execAttestSigned t dmaOk s = .next s') : Kept s.dev s'.dev := by
  refine State.on_kept h fun d => ?_
  split
  · exact Kept.refl
  · refine Kept.ite ?_ ?_
    · exact Kept.refl
    · extract_lets +onlyGivenNames d1
      refine Kept.cut d1 ?_ fun hd1 => ?_
      · subst d1
        refine Device.setSec_kept ?_
        exact Kept.refl
      clear_value d1
      refine Kept.ite ?_ ?_
      · refine Kept.step (Device.complete_kept ..) ?_
        assumption
      · refine Kept.ite ?_ ?_
        · refine Kept.step (Device.complete_kept ..) ?_
          refine Kept.step (Device.dmaFail_kept ..) ?_
          assumption
        · extract_lets +onlyGivenNames body2
          split
          rename_i q3
          refine Kept.cut _ (Kept.of_third q3 ?_) fun hx4 => ?_
          · refine Kept.step (Device.sign_kept ..) ?_
            assumption
          refine Kept.step (Device.complete_kept ..) ?_
          refine Kept.step (Device.post_kept ..) ?_
          assumption
theorem execCmdDbgChallenge_kept (t : Tick) (h : CmdHdr) (a : Args) (dmaOk : Bool) (s s' : State) (h : execCmdDbgChallenge t h a dmaOk s = .next s') : Kept s.dev s'.dev := by
  refine State.on_kept h fun d => ?_
  refine Device.cmd_carry (fun x1 hx1 => ?_) ?_
  · split
    rename_i q2
    refine Kept.cut _ (Kept.of_snd q2 ?_) fun hx3 => ?_
    · refine Kept.step (Device.draw_kept ..) ?_
      assumption
    extract_lets +onlyGivenNames c4
    extract_lets +onlyGivenNames d5
    refine Kept.cut d5 ?_ fun hd5 => ?_
    · subst d5
      refine Device.setSec_kept ?_
      assumption
    clear_value d5
    split
    · refine Kept.fst_mk ?_
      refine Kept.step (Device.dmaFail_kept ..) ?_
      assumption
    · refine Kept.fst_mk ?_
      refine Kept.step (Device.post_kept ..) ?_
      assumption
  exact Kept.refl
theorem execCmdDbgUnlock_kept (t : Tick) (h : CmdHdr) (a : Args) (mem : Option (List (BitVec 8))) (s s' : State) (h : execCmdDbgUnlock t h a mem s = .next s') : Kept s.dev s'.dev := by
  refine State.on_kept h fun d => ?_
  extract_lets +onlyGivenNames scope1
  refine Device.cmdIf_carry (fun x2 hx2 => ?_) ?_
  · split
    · refine Kept.fst_mk ?_
      assumption
    · split
      · refine Kept.fst_mk ?_
        assumption
      · split
        · refine Kept.fst_mk ?_
          refine Kept.step (Device.dmaFail_kept ..) ?_
          assumption
        · extract_lets +onlyGivenNames sig3
          extract_lets +onlyGivenNames ok4
          split
          · refine Kept.fst_mk ?_
            assumption
          · extract_lets +onlyGivenNames d5
            refine Kept.cut d5 ?_ fun hd5 => ?_
            · subst d5
              refine Device.setSec_kept ?_
              assumption
            clear_value d5
            refine Kept.fst_mk ?_
            refine Kept.step (Device.raise_kept ..) ?_
            assumption
  exact Kept.refl
theorem execCmdDbgLock_kept (t : Tick) (h : CmdHdr) (a : Args) (s s' : State) (h : execCmdDbgLock t h a s = .next s') : Kept s.dev s'.dev := by
  refine State.on_kept h fun d => ?_
  refine Device.cmdIf_carry (fun x1 hx1 => ?_) ?_
  · split
    · refine Kept.fst_mk ?_
      refine Kept.ite ?_ ?_
      · refine Device.setSec_kept ?_
        assumption
      · assumption
    · split
      · refine Kept.fst_mk ?_
        assumption
      · refine Kept.fst_mk ?_
        refine Device.setSec_kept ?_
        assumption
  exact Kept.refl

/-! ## Mailbox -/

theorem Device.setChan_kept (d : Device) (c : Nat) (f : Channel → Channel) : Kept d (Device.setChan d c f) := by
  unfold Device.setChan
  refine Device.setHost_kept (fun _ h => by simpa [HostPort.Shaped, upd, clearBits] using h) ?_
  exact Kept.refl
theorem Device.msixUnmask_kept (d : Device) (v : Nat) : Kept d (Device.msixUnmask d v) := by
  unfold Device.msixUnmask
  extract_lets +onlyGivenNames e1
  extract_lets +onlyGivenNames d2
  refine Kept.cut d2 ?_ fun hd2 => ?_
  · subst d2
    refine Device.setHost_kept (fun _ h => by simpa [HostPort.Shaped, upd, clearBits] using h) ?_
    exact Kept.refl
  clear_value d2
  refine Kept.ite ?_ ?_
  · refine Kept.step (Device.msix_kept ..) ?_
    assumption
  · assumption
theorem Device.stage_kept (d : Device) (pairs : List (Nat × BitVec 32)) : Kept d (Device.stage d pairs).1 := by
  unfold Device.stage
  split
  · refine Kept.fst_mk ?_
    exact Kept.refl
  · split
    · refine Kept.fst_mk ?_
      exact Kept.refl
    · refine Kept.fst_mk ?_
      refine Device.setPar_kept ?_
      exact Kept.refl
theorem Device.setDirty_kept (d : Device) : Kept d (Device.setDirty d) := by
  unfold Device.setDirty
  refine Device.setPar_kept ?_
  exact Kept.refl
theorem Device.commitEffects_kept (d : Device) (old : PSet) : Kept d (Device.commitEffects d old) := by
  unfold Device.commitEffects
  extract_lets +onlyGivenNames d1
  refine Kept.cut d1 ?_ fun hd1 => ?_
  · subst d1
    refine Kept.step (Device.newForce_kept ..) ?_
    exact Kept.refl
  clear_value d1
  extract_lets +onlyGivenNames new2
  extract_lets +onlyGivenNames d3
  refine Kept.cut d3 ?_ fun hd3 => ?_
  · subst d3
    refine Kept.ite ?_ ?_
    · assumption
    · refine Device.setLaw_kept (fun _ h => by simpa [Law.Shaped, upd, clearBits] using h) ?_
      assumption
  clear_value d3
  extract_lets +onlyGivenNames lims4
  extract_lets +onlyGivenNames d5
  refine Kept.cut d5 ?_ fun hd5 => ?_
  · subst d5
    refine Kept.ite ?_ ?_
    · assumption
    · refine Device.setTraj_kept ?_
      assumption
  clear_value d5
  extract_lets +onlyGivenNames d6
  refine Kept.cut d6 ?_ fun hd6 => ?_
  · subst d6
    refine Kept.foldl (fun x7 b8 hx7 => ?_) ?_
    · refine Kept.step (Device.refreshTin_kept ..) ?_
      assumption
    · assumption
  clear_value d6
  extract_lets +onlyGivenNames d9
  refine Kept.cut d9 ?_ fun hd9 => ?_
  · subst d9
    refine Kept.foldl (fun x10 b11 hx10 => ?_) ?_
    · refine Kept.step (Device.evalCmp_kept ..) ?_
      assumption
    · assumption
  clear_value d9
  extract_lets +onlyGivenNames d12
  refine Kept.cut d12 ?_ fun hd12 => ?_
  · subst d12
    refine Kept.step (Device.commitProfiles_kept ..) ?_
    refine Kept.step (Device.clkoutCommit_kept ..) ?_
    refine Kept.step (Device.bypassInput_kept ..) ?_
    assumption
  clear_value d12
  refine Kept.ite ?_ ?_
  · refine Device.setHost_kept (fun _ h => by simpa [HostPort.Shaped, upd, clearBits] using h) ?_
    assumption
  · assumption
theorem execChannelEnableWrite_kept (t : Tick) (v : BitVec 32) (s s' : State) (h : execChannelEnableWrite t v s = .next s') : Kept s.dev s'.dev := by
  refine State.on_kept h fun d => ?_
  extract_lets +onlyGivenNames d1
  refine Kept.cut d1 ?_ fun hd1 => ?_
  · subst d1
    refine Kept.step (Device.reserved_kept ..) ?_
    exact Kept.refl
  clear_value d1
  refine Kept.foldl (fun x2 b3 hx2 => ?_) ?_
  · extract_lets +onlyGivenNames on4
    refine Kept.ite ?_ ?_
    · assumption
    · refine Kept.ite ?_ ?_
      · refine Device.setHost_kept (fun _ h => by simpa [HostPort.Shaped, upd, clearBits] using h) ?_
        refine Kept.step (Device.setChan_kept ..) ?_
        assumption
      · extract_lets +onlyGivenNames gone5
        refine Device.setHost_kept (fun _ h => by simpa [HostPort.Shaped, upd, clearBits] using h) ?_
        refine Kept.step (Device.setChan_kept ..) ?_
        assumption
  · assumption
theorem execCommandDoorbell_kept (t : Tick) (ch : Fin 8) (v : BitVec 32) (s s' : State) (h : execCommandDoorbell t ch v s = .next s') : Kept s.dev s'.dev := by
  refine State.on_kept h fun d => ?_
  extract_lets +onlyGivenNames d1
  refine Kept.cut d1 ?_ fun hd1 => ?_
  · subst d1
    refine Kept.step (Device.reserved_kept ..) ?_
    exact Kept.refl
  clear_value d1
  extract_lets +onlyGivenNames n2
  refine Kept.ite ?_ ?_
  · refine Kept.step (Device.hostErr_kept ..) ?_
    assumption
  · refine Kept.step (Device.setChan_kept ..) ?_
    assumption
theorem execCommandFetch_kept (t : Tick) (entry : Option (BitVec 512)) (s s' : State) (h : execCommandFetch t entry s = .next s') : Kept s.dev s'.dev := by
  refine State.on_kept h fun d => ?_
  split
  · split
    · refine Kept.step (Device.dmaFail_kept ..) ?_
      exact Kept.refl
    · extract_lets +onlyGivenNames b1
      extract_lets +onlyGivenNames h2
      extract_lets +onlyGivenNames bad3
      refine Kept.ite ?_ ?_
      · exact Kept.refl
      · extract_lets +onlyGivenNames d4
        refine Kept.cut d4 ?_ fun hd4 => ?_
        · subst d4
          refine Kept.step (Device.setChan_kept ..) ?_
          exact Kept.refl
        clear_value d4
        extract_lets +onlyGivenNames d5
        refine Kept.cut d5 ?_ fun hd5 => ?_
        · subst d5
          refine Device.setHost_kept (fun _ h => by simpa [HostPort.Shaped, upd, clearBits] using h) ?_
          assumption
        clear_value d5
        clear_value bad3
        split
        · refine Kept.step (Device.complete_kept ..) ?_
          assumption
        · assumption
  · exact Kept.refl
theorem execEvqEnableWrite_kept (t : Tick) (v : BitVec 32) (s s' : State) (h : execEvqEnableWrite t v s = .next s') : Kept s.dev s'.dev := by
  refine State.on_kept h fun d => ?_
  extract_lets +onlyGivenNames d1
  refine Kept.cut d1 ?_ fun hd1 => ?_
  · subst d1
    refine Kept.step (Device.reserved_kept ..) ?_
    exact Kept.refl
  clear_value d1
  extract_lets +onlyGivenNames on2
  refine Kept.ite ?_ ?_
  · assumption
  · refine Kept.ite ?_ ?_
    · refine Kept.step (Device.drain_kept ..) ?_
      refine Device.setHost_kept (fun _ h => by simpa [HostPort.Shaped, upd, clearBits] using h) ?_
      assumption
    · refine Device.setHost_kept (fun _ h => by simpa [HostPort.Shaped, upd, clearBits] using h) ?_
      assumption
theorem execEvqHeadWrite_kept (t : Tick) (v : BitVec 32) (s s' : State) (h : execEvqHeadWrite t v s = .next s') : Kept s.dev s'.dev := by
  refine State.on_kept h fun d => ?_
  refine Kept.ite ?_ ?_
  · refine Kept.step (Device.hostErr_kept ..) ?_
    exact Kept.refl
  · refine Kept.step (Device.drain_kept ..) ?_
    refine Device.setHost_kept (fun _ h => by simpa [HostPort.Shaped, upd, clearBits] using h) ?_
    exact Kept.refl
theorem execEventRecordWrite_kept (t : Tick) (ok : Bool) (s s' : State) (h : execEventRecordWrite t ok s = .next s') : Kept s.dev s'.dev := by
  refine State.on_kept h fun d => ?_
  refine Kept.ite ?_ ?_
  · refine Kept.step (Device.drain_kept ..) ?_
    exact Kept.refl
  · refine Kept.ite ?_ ?_
    · exact Kept.refl
    · refine Kept.step (Device.errReport_kept ..) ?_
      refine Device.setHost_kept (fun _ h => by simpa [HostPort.Shaped, upd, clearBits] using h) ?_
      exact Kept.refl
theorem execEvqIrqDelayExpiry_kept (t : Tick) (s s' : State) (h : execEvqIrqDelayExpiry t s = .next s') : Kept s.dev s'.dev := by
  refine State.on_kept h fun d => ?_
  extract_lets +onlyGivenNames delay1
  refine Kept.ite ?_ ?_
  · refine Kept.step (Device.evqSignal_kept ..) ?_
    exact Kept.refl
  · exact Kept.refl
theorem execFenceWrite_kept (t : Tick) (s s' : State) (h : execFenceWrite t s = .next s') : Kept s.dev s'.dev := by
  refine State.on_kept h fun d => ?_
  refine Device.setHost_kept (fun _ h => by simpa [HostPort.Shaped, upd, clearBits] using h) ?_
  exact Kept.refl
theorem execFenceRead_kept (t : Tick) (s s' : State) (h : execFenceRead t s = .next s') : Kept s.dev s'.dev := by
  refine State.on_kept h fun d => ?_
  extract_lets +onlyGivenNames d1
  refine Kept.cut d1 ?_ fun hd1 => ?_
  · subst d1
    refine Kept.ite ?_ ?_
    · refine Device.setHost_kept (fun _ h => by simpa [HostPort.Shaped, upd, clearBits] using h) ?_
      exact Kept.refl
    · exact Kept.refl
  clear_value d1
  refine Kept.step (Device.answer_kept ..) ?_
  assumption
theorem execHostWatchdogWrite_kept (t : Tick) (s s' : State) (h : execHostWatchdogWrite t s = .next s') : Kept s.dev s'.dev := by
  refine State.on_kept h fun d => ?_
  refine Device.setHost_kept (fun _ h => by simpa [HostPort.Shaped, upd, clearBits] using h) ?_
  exact Kept.refl
theorem execHostWatchdogExpiry_kept (t : Tick) (s s' : State) (h : execHostWatchdogExpiry t s = .next s') : Kept s.dev s'.dev := by
  refine State.on_kept h fun d => ?_
  extract_lets +onlyGivenNames w1
  refine Kept.ite ?_ ?_
  · exact Kept.refl
  · refine Kept.step (Device.raise_kept ..) ?_
    refine Device.setHost_kept (fun _ h => by simpa [HostPort.Shaped, upd, clearBits] using h) ?_
    exact Kept.refl
theorem execMsixVectorUnmask_kept (t : Tick) (v : Fin 32) (s s' : State) (h : execMsixVectorUnmask t v s = .next s') : Kept s.dev s'.dev := by
  refine State.on_kept h fun d => ?_
  refine Kept.step (Device.msixUnmask_kept ..) ?_
  exact Kept.refl
theorem execHostInterfaceReset_kept (t : Tick) (s s' : State) (h : execHostInterfaceReset t s = .next s') : Kept s.dev s'.dev := by
  refine State.on_kept h fun d => ?_
  refine Device.setHost_kept (fun _ _ => ⟨rfl, rfl⟩) ?_
  exact Kept.refl
theorem execCmdParamStage_kept (t : Tick) (h : CmdHdr) (a : Args) (s s' : State) (h : execCmdParamStage t h a s = .next s') : Kept s.dev s'.dev := by
  refine State.on_kept h fun d => ?_
  extract_lets +onlyGivenNames n1
  refine Device.cmdIf_carry (fun x2 hx2 => ?_) ?_
  · refine Kept.step (Device.stage_kept ..) ?_
    assumption
  exact Kept.refl
theorem execCmdParamStageList_kept (t : Tick) (h : CmdHdr) (a : Args) (mem : Option (List (BitVec 8))) (s s' : State) (h : execCmdParamStageList t h a mem s = .next s') : Kept s.dev s'.dev := by
  refine State.on_kept h fun d => ?_
  extract_lets +onlyGivenNames n1
  refine Device.cmdIf_carry (fun x2 hx2 => ?_) ?_
  · split
    · refine Kept.fst_mk ?_
      assumption
    · split
      · refine Kept.fst_mk ?_
        refine Kept.step (Device.dmaFail_kept ..) ?_
        assumption
      · refine Kept.step (Device.stage_kept ..) ?_
        assumption
  exact Kept.refl
theorem execCmdParamStageDefaults_kept (t : Tick) (h : CmdHdr) (a : Args) (s s' : State) (h : execCmdParamStageDefaults t h a s = .next s') : Kept s.dev s'.dev := by
  refine State.on_kept h fun d => ?_
  refine Device.cmd_carry (fun x1 hx1 => ?_) ?_
  · split
    · refine Kept.fst_mk ?_
      assumption
    · extract_lets +onlyGivenNames c2
      extract_lets +onlyGivenNames ids3
      extract_lets +onlyGivenNames l4
      refine Kept.fst_mk ?_
      refine Device.setPar_kept ?_
      assumption
  exact Kept.refl
theorem execCmdParamDiscard_kept (t : Tick) (h : CmdHdr) (a : Args) (s s' : State) (h : execCmdParamDiscard t h a s = .next s') : Kept s.dev s'.dev := by
  refine State.on_kept h fun d => ?_
  refine Device.cmd_carry (fun x1 hx1 => ?_) ?_
  · split
    · refine Kept.fst_mk ?_
      assumption
    · refine Kept.fst_mk ?_
      refine Device.setPar_kept ?_
      assumption
  exact Kept.refl
theorem execCmdParamCommit_kept (t : Tick) (h : CmdHdr) (a : Args) (s s' : State) (h : execCmdParamCommit t h a s = .next s') : Kept s.dev s'.dev := by
  refine State.on_kept h fun d => ?_
  refine Device.cmd_carry (fun x1 hx1 => ?_) ?_
  · split
    · refine Kept.fst_mk ?_
      assumption
    · refine Kept.fst_mk ?_
      refine Device.setPar_kept ?_
      assumption
  exact Kept.refl
theorem execCommitCheckDone_kept (t : Tick) (s s' : State) (h : execCommitCheckDone t s = .next s') : Kept s.dev s'.dev := by
  refine State.on_kept h fun d => ?_
  split
  · exact Kept.refl
  · split
    · refine Kept.step (Device.complete_kept ..) ?_
      refine Device.setPar_kept ?_
      exact Kept.refl
    · extract_lets +onlyGivenNames ids1
      extract_lets +onlyGivenNames cyc2
      refine Kept.step (Device.setDirty_kept ..) ?_
      refine Device.setPar_kept ?_
      exact Kept.refl
theorem execCommitApply_kept (t : Tick) (s s' : State) (h : execCommitApply t s = .next s') : Kept s.dev s'.dev := by
  refine State.on_kept h fun d => ?_
  extract_lets +onlyGivenNames e1
  extract_lets +onlyGivenNames due2
  refine Kept.ite ?_ ?_
  · exact Kept.refl
  · extract_lets +onlyGivenNames old3
    extract_lets +onlyGivenNames ids4
    extract_lets +onlyGivenNames d5
    refine Kept.cut d5 ?_ fun hd5 => ?_
    · subst d5
      refine Device.setPar_kept ?_
      refine Kept.step (Device.applyWaiting_kept ..) ?_
      exact Kept.refl
    clear_value d5
    refine Kept.foldl (fun x6 b7 hx6 => ?_) ?_
    · refine Kept.step (Device.complete_kept ..) ?_
      assumption
    · refine Kept.step (Device.commitEffects_kept ..) ?_
      assumption
theorem execCmdParamRead_kept (t : Tick) (h : CmdHdr) (a : Args) (s s' : State) (h : execCmdParamRead t h a s = .next s') : Kept s.dev s'.dev := by
  refine State.on_kept h fun d => ?_
  refine Device.cmdIf_carry (fun x1 hx1 => ?_) ?_
  · extract_lets +onlyGivenNames id2
    split
    · refine Kept.fst_mk ?_
      assumption
    · split
      · refine Kept.fst_mk ?_
        assumption
      · refine Kept.fst_mk ?_
        assumption
  exact Kept.refl
theorem execCmdParamPersist_kept (t : Tick) (h : CmdHdr) (a : Args) (s s' : State) (h : execCmdParamPersist t h a s = .next s') : Kept s.dev s'.dev := by
  refine State.on_kept h fun d => ?_
  refine Device.cmd_carry (fun x1 hx1 => ?_) ?_
  · split
    · refine Kept.fst_mk ?_
      assumption
    · refine Kept.fst_mk ?_
      refine Device.setPar_kept ?_
      assumption
  exact Kept.refl
theorem execParamPersistDone_kept (t : Tick) (ok : Bool) (s s' : State) (h : execParamPersistDone t ok s = .next s') : Kept s.dev s'.dev := by
  refine State.on_kept h fun d => ?_
  split
  · exact Kept.refl
  · extract_lets +onlyGivenNames n1
    extract_lets +onlyGivenNames last2
    extract_lets +onlyGivenNames set3
    extract_lets +onlyGivenNames d4
    refine Kept.cut d4 ?_ fun hd4 => ?_
    · subst d4
      refine Kept.set_parCopies (fun h => by simpa [upd] using h) ?_
      exact Kept.refl
    clear_value d4
    extract_lets +onlyGivenNames d5
    refine Kept.cut d5 ?_ fun hd5 => ?_
    · subst d5
      refine Kept.step (Device.setDirty_kept ..) ?_
      refine Device.setPar_kept ?_
      assumption
    clear_value d5
    refine Kept.step (Device.complete_kept ..) ?_
    assumption

/-! ## Commands -/

theorem Device.cellCmd_carry {d e : Device} {h : CmdHdr} {a : Args} {body : Nat → Device → Device × Option Ending}
    (hb : ∀ c x, Kept d x → Kept d (body c x).1) (hd : Kept d e) : Kept d (e.cellCmd h a body) := Device.cmdIf_carry (hb _) hd
theorem Device.queueTxn_kept (d : Device) (h : CmdHdr) (ring : Nat) (addr : Nat) (q : SlowReq) : Kept d (Device.queueTxn d h ring addr q).1 := by
  unfold Device.queueTxn
  split
  · refine Kept.fst_mk ?_
    exact Kept.refl
  · refine Kept.fst_mk ?_
    refine Device.setLink_kept (fun _ h => by simpa [Link.Shaped, upd, clearBits] using h) ?_
    exact Kept.refl
theorem Device.hostClear_kept (d : Device) (i : Nat) : Kept d (Device.hostClear d i).1 := by
  unfold Device.hostClear
  split
  · split
    · refine Kept.fst_mk ?_
      refine Kept.step (Device.rejectClear_kept ..) ?_
      exact Kept.refl
    · refine Kept.fst_mk ?_
      exact Kept.refl
  · refine Kept.fst_mk ?_
    refine Kept.step (Device.clearRequest_kept ..) ?_
    exact Kept.refl
theorem refusedOver_carry {d e : Device} {f : Device → Nat → Device × Bool} {l : List Nat} (hf : ∀ x i, Kept d x → Kept d (f x i).1) (h : Kept d e) :
    Kept d (refusedOver f l e).1 := by
  induction l generalizing e with
  | nil => exact h
  | cons i r ih => exact ih (hf _ i h)
theorem Device.tripRearm_kept (d : Device) (i : Nat) : Kept d (Device.tripRearm d i).1 := by
  unfold Device.tripRearm
  extract_lets +onlyGivenNames quiet1
  split
  · refine Kept.fst_mk ?_
    exact Kept.refl
  · refine Kept.fst_mk ?_
    refine Kept.step (Device.refreshTin_kept ..) ?_
    refine Device.setProt_kept (fun _ h => by simpa [Prot.Shaped, upd, clearBits] using h) ?_
    exact Kept.refl
theorem Device.sinRearm_kept (d : Device) (n : Nat) : Kept d (Device.sinRearm d n).1 := by
  unfold Device.sinRearm
  extract_lets +onlyGivenNames x1
  split
  · refine Kept.fst_mk ?_
    refine Kept.step (Device.evalInputs_kept ..) ?_
    refine Kept.step (Device.setSin_kept ..) ?_
    exact Kept.refl
  · refine Kept.fst_mk ?_
    exact Kept.refl
theorem Device.soutRearm_kept (d : Device) (n : Nat) : Kept d (Device.soutRearm d n).1 := by
  unfold Device.soutRearm
  split
  · refine Kept.fst_mk ?_
    exact Kept.refl
  · refine Kept.fst_mk ?_
    refine Kept.step (Device.driveOutputs_kept ..) ?_
    refine Kept.step (Device.setSout_kept ..) ?_
    exact Kept.refl
theorem execCmdNop_kept (t : Tick) (h : CmdHdr) (a : Args) (s s' : State) (h : execCmdNop t h a s = .next s') : Kept s.dev s'.dev := by
  refine State.on_kept h fun d => ?_
  refine Device.cmd_carry (fun x1 hx1 => ?_) ?_
  · refine Kept.fst_mk ?_
    assumption
  exact Kept.refl
theorem execCmdStateReq_kept (t : Tick) (h : CmdHdr) (a : Args) (s s' : State) (h : execCmdStateReq t h a s = .next s') : Kept s.dev s'.dev := by
  refine State.on_kept h fun d => ?_
  refine Device.cmd_carry (fun x1 hx1 => ?_) ?_
  · extract_lets +onlyGivenNames target2
    split
    · refine Kept.fst_mk ?_
      assumption
    · refine Kept.fst_mk ?_
      refine Device.setConv_kept ?_
      assumption
  exact Kept.refl
theorem execCmdTrMove_kept (t : Tick) (h : CmdHdr) (a : Args) (mem : Option (List (BitVec 8))) (s s' : State) (h : execCmdTrMove t h a mem s = .next s') : Kept s.dev s'.dev := by
  refine State.on_kept h fun d => ?_
  extract_lets +onlyGivenNames n1
  extract_lets +onlyGivenNames bad2
  refine Device.cmdIf_carry (fun x3 hx3 => ?_) ?_
  · split
    · refine Kept.fst_mk ?_
      assumption
    · split
      · refine Kept.fst_mk ?_
        assumption
      · split
        · refine Kept.fst_mk ?_
          assumption
        · split
          · refine Kept.fst_mk ?_
            assumption
          · split
            · refine Kept.fst_mk ?_
              refine Kept.step (Device.dmaFail_kept ..) ?_
              assumption
            · split
              · refine Kept.fst_mk ?_
                assumption
              · extract_lets +onlyGivenNames m4
                extract_lets +onlyGivenNames d5
                refine Kept.cut d5 ?_ fun hd5 => ?_
                · subst d5
                  refine Device.setTraj_kept ?_
                  assumption
                clear_value d5
                refine Kept.fst_mk ?_
                assumption
  exact Kept.refl
theorem execCmdTrFlush_kept (t : Tick) (h : CmdHdr) (a : Args) (s s' : State) (h : execCmdTrFlush t h a s = .next s') : Kept s.dev s'.dev := by
  refine State.on_kept h fun d => ?_
  refine Device.cmd_carry (fun x1 hx1 => ?_) ?_
  · split
    · refine Kept.fst_mk ?_
      assumption
    · refine Kept.fst_mk ?_
      refine Kept.step (Device.flushMoves_kept ..) ?_
      assumption
  exact Kept.refl
theorem execCmdTrTableLoad_kept (t : Tick) (h : CmdHdr) (a : Args) (mem : Option (List (BitVec 8))) (s s' : State) (h : execCmdTrTableLoad t h a mem s = .next s') : Kept s.dev s'.dev := by
  refine State.on_kept h fun d => ?_
  refine Device.cmd_carry (fun x1 hx1 => ?_) ?_
  · split
    · refine Kept.fst_mk ?_
      assumption
    · split
      · refine Kept.fst_mk ?_
        refine Kept.step (Device.dmaFail_kept ..) ?_
        assumption
      · extract_lets +onlyGivenNames l2
        extract_lets +onlyGivenNames i3
        split
        · refine Kept.fst_mk ?_
          assumption
        · refine Kept.fst_mk ?_
          refine Device.setTraj_kept ?_
          assumption
  exact Kept.refl
theorem execCmdBlackStart_kept (t : Tick) (h : CmdHdr) (a : Args) (s s' : State) (h : execCmdBlackStart t h a s = .next s') : Kept s.dev s'.dev := by
  refine State.on_kept h fun d => ?_
  refine Device.cmd_carry (fun x1 hx1 => ?_) ?_
  · split
    · refine Kept.fst_mk ?_
      assumption
    · split
      · refine Kept.fst_mk ?_
        refine Kept.step (Device.raise_kept ..) ?_
        assumption
      · split
        · refine Kept.fst_mk ?_
          assumption
        · refine Kept.fst_mk ?_
          refine Kept.step (Device.bsBegin_kept ..) ?_
          assumption
  exact Kept.refl
theorem execCmdLand_kept (t : Tick) (h : CmdHdr) (a : Args) (s s' : State) (h : execCmdLand t h a s = .next s') : Kept s.dev s'.dev := by
  refine State.on_kept h fun d => ?_
  refine Device.cmd_carry (fun x1 hx1 => ?_) ?_
  · split
    · refine Kept.fst_mk ?_
      assumption
    · split
      · refine Kept.fst_mk ?_
        assumption
      · split
        · refine Kept.fst_mk ?_
          assumption
        · refine Kept.fst_mk ?_
          refine Device.setConv_kept ?_
          assumption
  exact Kept.refl
theorem execCmdLandAbort_kept (t : Tick) (h : CmdHdr) (a : Args) (s s' : State) (h : execCmdLandAbort t h a s = .next s') : Kept s.dev s'.dev := by
  refine State.on_kept h fun d => ?_
  refine Device.cmd_carry (fun x1 hx1 => ?_) ?_
  · split
    · refine Kept.fst_mk ?_
      assumption
    · split
      · refine Kept.fst_mk ?_
        assumption
      · refine Kept.fst_mk ?_
        refine Kept.step (Device.landAbort_kept ..) ?_
        assumption
  exact Kept.refl
theorem execCmdBrkClose_kept (t : Tick) (h : CmdHdr) (a : Args) (s s' : State) (h : execCmdBrkClose t h a s = .next s') : Kept s.dev s'.dev := by
  refine State.on_kept h fun d => ?_
  extract_lets +onlyGivenNames b1
  refine Device.cmdIf_carry (fun x2 hx2 => ?_) ?_
  · split
    · refine Kept.fst_mk ?_
      assumption
    · split
      · refine Kept.fst_mk ?_
        assumption
      · split
        · refine Kept.fst_mk ?_
          assumption
        · refine Kept.fst_mk ?_
          refine Kept.step (Device.closeCommand_kept ..) ?_
          assumption
  exact Kept.refl
theorem execCmdBrkRearm_kept (t : Tick) (h : CmdHdr) (a : Args) (s s' : State) (h : execCmdBrkRearm t h a s = .next s') : Kept s.dev s'.dev := by
  refine State.on_kept h fun d => ?_
  extract_lets +onlyGivenNames b1
  refine Device.cmdIf_carry (fun x2 hx2 => ?_) ?_
  · extract_lets +onlyGivenNames x3
    extract_lets +onlyGivenNames x4
    split
    · refine Kept.fst_mk ?_
      assumption
    · split
      · refine Kept.fst_mk ?_
        assumption
      · extract_lets +onlyGivenNames d5
        refine Kept.cut d5 ?_ fun hd5 => ?_
        · subst d5
          refine Device.setProt_kept (fun _ h => by simpa [Prot.Shaped, upd, clearBits] using h) ?_
          assumption
        clear_value d5
        refine Kept.fst_mk ?_
        refine Kept.step (Device.brkSettle_kept ..) ?_
        refine Kept.step (Device.setBrk_kept ..) ?_
        assumption
  exact Kept.refl
theorem execCmdFeedbackRearm_kept (t : Tick) (h : CmdHdr) (a : Args) (s s' : State) (h : execCmdFeedbackRearm t h a s = .next s') : Kept s.dev s'.dev := by
  refine State.on_kept h fun d => ?_
  extract_lets +onlyGivenNames m1
  refine Device.cmdIf_carry (fun x2 hx2 => ?_) ?_
  · refine Kept.fst_mk ?_
    refine Device.setLaw_kept (fun _ h => by simpa [Law.Shaped, upd, clearBits] using h) ?_
    assumption
  exact Kept.refl
theorem execCmdCellBypass_kept (t : Tick) (h : CmdHdr) (a : Args) (s s' : State) (h : execCmdCellBypass t h a s = .next s') : Kept s.dev s'.dev := by
  refine State.on_kept h fun d => ?_
  refine Device.cellCmd_carry (fun cx1 x1 hx1 => ?_) ?_
  · refine Kept.fst_mk ?_
    refine Kept.step (Device.bypass_kept ..) ?_
    assumption
  exact Kept.refl
theorem execCmdCellReturn_kept (t : Tick) (h : CmdHdr) (a : Args) (s s' : State) (h : execCmdCellReturn t h a s = .next s') : Kept s.dev s'.dev := by
  refine State.on_kept h fun d => ?_
  refine Device.cellCmd_carry (fun cx1 x1 hx1 => ?_) ?_
  · extract_lets +onlyGivenNames flags2
    split
    · refine Kept.fst_mk ?_
      assumption
    · split
      · refine Kept.fst_mk ?_
        assumption
      · split
        · refine Kept.fst_mk ?_
          assumption
        · split
          · refine Kept.fst_mk ?_
            assumption
          · extract_lets +onlyGivenNames d3
            refine Kept.cut d3 ?_ fun hd3 => ?_
            · subst d3
              refine Kept.step (Device.setCell_kept ..) ?_
              assumption
            clear_value d3
            refine Kept.fst_mk ?_
            refine Kept.step (Device.bypassInput_kept ..) ?_
            refine Device.setProt_kept (fun _ h => by simpa [Prot.Shaped, upd, clearBits] using h) ?_
            assumption
  exact Kept.refl
theorem execCmdPackRearm_kept (t : Tick) (h : CmdHdr) (a : Args) (s s' : State) (h : execCmdPackRearm t h a s = .next s') : Kept s.dev s'.dev := by
  refine State.on_kept h fun d => ?_
  refine Device.cellCmd_carry (fun cx1 x1 hx1 => ?_) ?_
  · extract_lets +onlyGivenNames d2
    refine Kept.cut d2 ?_ fun hd2 => ?_
    · subst d2
      refine Kept.step (Device.setPack_kept ..) ?_
      assumption
    clear_value d2
    refine Kept.fst_mk ?_
    refine Kept.step (Device.refreshCauses_kept ..) ?_
    assumption
  exact Kept.refl
theorem execCmdPackTenancy_kept (t : Tick) (h : CmdHdr) (a : Args) (s s' : State) (h : execCmdPackTenancy t h a s = .next s') : Kept s.dev s'.dev := by
  refine State.on_kept h fun d => ?_
  refine Device.cellCmd_carry (fun cx1 x1 hx1 => ?_) ?_
  · split
    · refine Kept.fst_mk ?_
      assumption
    · split
      · refine Kept.fst_mk ?_
        assumption
      · extract_lets +onlyGivenNames d2
        refine Kept.cut d2 ?_ fun hd2 => ?_
        · subst d2
          refine Kept.step (Device.refreshCauses_kept ..) ?_
          refine Kept.step (Device.newTenancy_kept ..) ?_
          assumption
        clear_value d2
        refine Kept.fst_mk ?_
        assumption
  exact Kept.refl
theorem execCmdBmsTap_kept (t : Tick) (h : CmdHdr) (a : Args) (s s' : State) (h : execCmdBmsTap t h a s = .next s') : Kept s.dev s'.dev := by
  refine State.on_kept h fun d => ?_
  extract_lets +onlyGivenNames c1
  extract_lets +onlyGivenNames n2
  extract_lets +onlyGivenNames stop3
  refine Device.cmdIf_carry (fun x4 hx4 => ?_) ?_
  · refine Kept.fst_mk ?_
    refine Device.setPacks_kept (fun _ h => by simpa [Packs.Shaped, upd, clearBits] using h) ?_
    assumption
  exact Kept.refl
theorem execCmdBmsSend_kept (t : Tick) (h : CmdHdr) (a : Args) (s s' : State) (h : execCmdBmsSend t h a s = .next s') : Kept s.dev s'.dev := by
  refine State.on_kept h fun d => ?_
  extract_lets +onlyGivenNames c1
  extract_lets +onlyGivenNames id2
  refine Device.cmdIf_carry (fun x3 hx3 => ?_) ?_
  · split
    · refine Kept.fst_mk ?_
      assumption
    · split
      · refine Kept.fst_mk ?_
        assumption
      · extract_lets +onlyGivenNames fr4
        refine Kept.fst_mk ?_
        refine Kept.step (Device.queueDown_kept ..) ?_
        assumption
  exact Kept.refl
theorem execCmdMeterSnapshot_kept (t : Tick) (h : CmdHdr) (a : Args) (s s' : State) (h : execCmdMeterSnapshot t h a s = .next s') : Kept s.dev s'.dev := by
  refine State.on_kept h fun d => ?_
  extract_lets +onlyGivenNames first1
  extract_lets +onlyGivenNames n2
  extract_lets +onlyGivenNames bad3
  refine Device.cmdIf_carry (fun x4 hx4 => ?_) ?_
  · split
    · refine Kept.fst_mk ?_
      assumption
    · split
      · refine Kept.fst_mk ?_
        assumption
      · refine Kept.fst_mk ?_
        refine Device.setMeter_kept (fun _ h => by simpa [Meter.Shaped, upd, clearBits] using h) ?_
        assumption
  exact Kept.refl
theorem execCmdMeterAck_kept (t : Tick) (h : CmdHdr) (a : Args) (s s' : State) (h : execCmdMeterAck t h a s = .next s') : Kept s.dev s'.dev := by
  refine State.on_kept h fun d => ?_
  refine Device.cmd_carry (fun x1 hx1 => ?_) ?_
  · refine Kept.fst_mk ?_
    refine Device.setMeter_kept (fun _ h => by simpa [Meter.Shaped, upd, clearBits] using h) ?_
    assumption
  exact Kept.refl
theorem execCmdNodeRead_kept (t : Tick) (h : CmdHdr) (a : Args) (s s' : State) (h : execCmdNodeRead t h a s = .next s') : Kept s.dev s'.dev := by
  refine State.on_kept h fun d => ?_
  extract_lets +onlyGivenNames n1
  extract_lets +onlyGivenNames bad2
  refine Device.cmdIf_carry (fun x3 hx3 => ?_) ?_
  · refine Kept.step (Device.queueTxn_kept ..) ?_
    assumption
  exact Kept.refl
theorem execCmdNodeWrite_kept (t : Tick) (h : CmdHdr) (a : Args) (s s' : State) (h : execCmdNodeWrite t h a s = .next s') : Kept s.dev s'.dev := by
  refine State.on_kept h fun d => ?_
  extract_lets +onlyGivenNames n1
  extract_lets +onlyGivenNames pos2
  extract_lets +onlyGivenNames adr3
  extract_lets +onlyGivenNames bad4
  refine Device.cmdIf_carry (fun x5 hx5 => ?_) ?_
  · split
    · refine Kept.fst_mk ?_
      assumption
    · split
      · refine Kept.fst_mk ?_
        assumption
      · refine Kept.step (Device.queueTxn_kept ..) ?_
        assumption
  exact Kept.refl
theorem execCmdTripClear_kept (t : Tick) (h : CmdHdr) (a : Args) (s s' : State) (h : execCmdTripClear t h a s = .next s') : Kept s.dev s'.dev := by
  refine State.on_kept h fun d => ?_
  refine Device.cmd_carry (fun x1 hx1 => ?_) ?_
  · refine Kept.endsMask ?_
    refine refusedOver_carry (fun x2 cx2 hx2 => ?_) ?_
    · refine Kept.step (Device.hostClear_kept ..) ?_
      assumption
    assumption
  exact Kept.refl
theorem execCmdTripRearm_kept (t : Tick) (h : CmdHdr) (a : Args) (s s' : State) (h : execCmdTripRearm t h a s = .next s') : Kept s.dev s'.dev := by
  refine State.on_kept h fun d => ?_
  refine Device.cmd_carry (fun x1 hx1 => ?_) ?_
  · refine Kept.endsMask ?_
    refine refusedOver_carry (fun x2 cx2 hx2 => ?_) ?_
    · refine Kept.step (Device.tripRearm_kept ..) ?_
      assumption
    assumption
  exact Kept.refl
theorem execCmdTripForce_kept (t : Tick) (h : CmdHdr) (a : Args) (s s' : State) (h : execCmdTripForce t h a s = .next s') : Kept s.dev s'.dev := by
  refine State.on_kept h fun d => ?_
  refine Device.cmd_carry (fun x1 hx1 => ?_) ?_
  · refine Kept.fst_mk ?_
    refine Kept.step (Device.setSrc_kept ..) ?_
    refine Kept.step (Device.inputActive_kept ..) ?_
    refine Device.setProt_kept (fun _ h => by simpa [Prot.Shaped, upd, clearBits] using h) ?_
    assumption
  exact Kept.refl
theorem execCmdGateBaseline_kept (t : Tick) (h : CmdHdr) (a : Args) (s s' : State) (h : execCmdGateBaseline t h a s = .next s') : Kept s.dev s'.dev := by
  refine State.on_kept h fun d => ?_
  extract_lets +onlyGivenNames c1
  refine Device.cmdIf_carry (fun x2 hx2 => ?_) ?_
  · extract_lets +onlyGivenNames set3
    refine Kept.fst_mk ?_
    refine Device.setProt_kept (fun _ h => by simpa [Prot.Shaped, upd, clearBits] using h) ?_
    assumption
  exact Kept.refl
theorem execCmdSafeReset_kept (t : Tick) (h : CmdHdr) (a : Args) (s s' : State) (h : execCmdSafeReset t h a s = .next s') : Kept s.dev s'.dev := by
  refine State.on_kept h fun d => ?_
  refine Device.cmd_carry (fun x1 hx1 => ?_) ?_
  · split
    · refine Kept.fst_mk ?_
      assumption
    · split
      · refine Kept.fst_mk ?_
        assumption
      · split
        rename_i q2
        refine Kept.cut _ (Kept.of_fst q2 ?_) fun hx3 => ?_
        · refine Kept.step (Device.safetyReset_kept ..) ?_
          assumption
        refine Kept.fst_mk ?_
        assumption
  exact Kept.refl
theorem execCmdSafeRearm_kept (t : Tick) (h : CmdHdr) (a : Args) (s s' : State) (h : execCmdSafeRearm t h a s = .next s') : Kept s.dev s'.dev := by
  refine State.on_kept h fun d => ?_
  extract_lets +onlyGivenNames m1
  extract_lets +onlyGivenNames outs2
  refine Device.cmdIf_carry (fun x3 hx3 => ?_) ?_
  · split
    · split
      · refine Kept.fst_mk ?_
        assumption
      · refine Kept.endsMask ?_
        refine refusedOver_carry (fun x4 cx4 hx4 => ?_) ?_
        · refine Kept.step (Device.soutRearm_kept ..) ?_
          assumption
        assumption
    · refine Kept.endsMask ?_
      refine refusedOver_carry (fun x5 cx5 hx5 => ?_) ?_
      · refine Kept.step (Device.sinRearm_kept ..) ?_
        assumption
      assumption
  exact Kept.refl

/-! ## Masks -/

theorem Device.setMask_kept (d : Device) (m : Nat) (f : MaskRun → MaskRun) : Kept d (Device.setMask d m f) := by
  unfold Device.setMask
  refine Device.setRec_kept (fun _ h => by simpa [Rec.Shaped, upd, clearBits] using h) ?_
  exact Kept.refl
theorem Device.maskViolation_kept (d : Device) (m : Nat) (t : Tick) (value : Rat) : Kept d (Device.maskViolation d m t value) := by
  unfold Device.maskViolation
  split
  rename_i q1
  refine Kept.cut _ (Kept.of_snd q1 ?_) fun hx2 => ?_
  · refine Kept.step (Device.quant_kept ..) ?_
    exact Kept.refl
  extract_lets +onlyGivenNames d3
  refine Kept.cut d3 ?_ fun hd3 => ?_
  · subst d3
    refine Kept.step (Device.hwSet_kept ..) ?_
    refine Kept.step (Device.setMask_kept ..) ?_
    assumption
  clear_value d3
  extract_lets +onlyGivenNames d4
  refine Kept.cut d4 ?_ fun hd4 => ?_
  · subst d4
    refine Kept.step (Device.raise_kept ..) ?_
    refine Kept.step (Device.onFrame_kept ..) ?_
    assumption
  clear_value d4
  extract_lets +onlyGivenNames hit5
  extract_lets +onlyGivenNames d6
  refine Kept.cut d6 ?_ fun hd6 => ?_
  · subst d6
    refine Kept.foldl (fun x7 b8 hx7 => ?_) ?_
    · refine Kept.step (Device.condMet_kept ..) ?_
      assumption
    · assumption
  clear_value d6
  refine Kept.ite ?_ ?_
  · assumption
  · extract_lets +onlyGivenNames opens9
    refine Kept.ite ?_ ?_
    · refine Device.setRec_kept (fun _ h => by simpa [Rec.Shaped, upd, clearBits] using h) ?_
      assumption
    · refine Kept.ite ?_ ?_
      · refine Kept.step (Device.recStop_kept ..) ?_
        assumption
      · assumption
theorem Device.maskCycle_kept (d : Device) (m : Nat) : Kept d (Device.maskCycle d m) := by
  unfold Device.maskCycle
  extract_lets +onlyGivenNames x1
  refine Kept.ite ?_ ?_
  · exact Kept.refl
  · refine Kept.ite ?_ ?_
    · refine Kept.step (Device.setMask_kept ..) ?_
      exact Kept.refl
    · split
      · refine Kept.step (Device.setMask_kept ..) ?_
        exact Kept.refl
      · refine Kept.ite ?_ ?_
        · exact Kept.refl
        · extract_lets +onlyGivenNames t2
          extract_lets +onlyGivenNames ms3
          refine Kept.ite ?_ ?_
          · exact Kept.refl
          · extract_lets +onlyGivenNames out4
            extract_lets +onlyGivenNames n5
            refine Kept.ite ?_ ?_
            · refine Kept.step (Device.maskViolation_kept ..) ?_
              exact Kept.refl
            · refine Kept.step (Device.setMask_kept ..) ?_
              exact Kept.refl
theorem Device.maskChecks_kept (d : Device) : Kept d (Device.maskChecks d) := by
  unfold Device.maskChecks
  refine Kept.foldl (fun x1 b2 hx1 => ?_) ?_
  · refine Kept.step (Device.maskCycle_kept ..) ?_
    assumption
  · exact Kept.refl
theorem Device.maskStarts_kept (d : Device) : Kept d (Device.maskStarts d) := by
  unfold Device.maskStarts
  extract_lets +onlyGivenNames now1
  extract_lets +onlyGivenNames one2
  refine Device.setRec_kept (fun _ h => by simpa [Rec.Shaped, upd, clearBits] using h) ?_
  exact Kept.refl
theorem execMaskPass_kept (t : Tick) (s s' : State) (h : execMaskPass t s = .next s') : Kept s.dev s'.dev := by
  refine State.on_kept h fun d => ?_
  extract_lets +onlyGivenNames ovr1
  refine Kept.foldl (fun x2 b3 hx2 => ?_) ?_
  · extract_lets +onlyGivenNames d4
    refine Kept.cut d4 ?_ fun hd4 => ?_
    · subst d4
      refine Kept.step (Device.maskCycle_kept ..) ?_
      assumption
    clear_value d4
    refine Kept.ite ?_ ?_
    · assumption
    · extract_lets +onlyGivenNames x5
      refine Kept.step (Device.raise_kept ..) ?_
      refine Kept.step (Device.setMask_kept ..) ?_
      assumption
  · exact Kept.refl

/-! ## Counters -/

theorem Device.driftDraw_kept (d : Device) : Kept d (Device.driftDraw d) := by
  unfold Device.driftDraw
  refine Kept.ite ?_ ?_
  · exact Kept.refl
  · extract_lets +onlyGivenNames r1
    extract_lets +onlyGivenNames d2
    refine Kept.cut d2 ?_ fun hd2 => ?_
    · subst d2
      refine Device.setDrift_kept ?_
      exact Kept.refl
    clear_value d2
    extract_lets +onlyGivenNames n3
    extract_lets +onlyGivenNames l4
    refine Kept.ite ?_ ?_
    · assumption
    · split
      rename_i q5
      refine Kept.cut _ (Kept.of_snd q5 ?_) fun hx6 => ?_
      · refine Kept.step (Device.draw_kept ..) ?_
        assumption
      extract_lets +onlyGivenNames t07
      extract_lets +onlyGivenNames g8
      extract_lets +onlyGivenNames g9
      refine Device.setDrift_kept ?_
      assumption
theorem execPmcConfigWrite_kept (t : Tick) (b : Fin 7) (i : Fin 16) (v : BitVec 32) (s s' : State) (h : execPmcConfigWrite t b i v s = .next s') : Kept s.dev s'.dev := by
  refine State.on_kept h fun d => ?_
  extract_lets +onlyGivenNames now1
  extract_lets +onlyGivenNames d2
  refine Kept.cut d2 ?_ fun hd2 => ?_
  · subst d2
    refine Kept.step (Device.setCtrs_kept _ _ _ fun l => by simp [upd]) ?_
    exact Kept.refl
  clear_value d2
  refine Kept.step (Device.reserved_kept ..) ?_
  assumption
theorem execCounterWrap_kept (t : Tick) (b : Fin 7) (i : Fin 16) (s s' : State) (h : execCounterWrap t b i s = .next s') : Kept s.dev s'.dev := by
  refine State.on_kept h fun d => ?_
  refine Kept.ite ?_ ?_
  · refine Kept.step (Device.ctrAdd_kept ..) ?_
    exact Kept.refl
  · exact Kept.refl
theorem execCounterPageLowRead_kept (t : Tick) (offset : BitVec 12) (s s' : State) (h : execCounterPageLowRead t offset s = .next s') : Kept s.dev s'.dev := by
  refine State.on_kept h fun d => ?_
  extract_lets +onlyGivenNames o1
  extract_lets +onlyGivenNames w2
  refine Kept.ite ?_ ?_
  · refine Kept.step (Device.answer_kept ..) ?_
    refine Kept.step (Device.hostErr_kept ..) ?_
    exact Kept.refl
  · refine Kept.ite ?_ ?_
    · refine Kept.step (Device.answer_kept ..) ?_
      refine Device.setPmc_kept (fun _ h => by simpa [Pmc.Shaped, upd, clearBits] using h) ?_
      exact Kept.refl
    · refine Kept.step (Device.answer_kept ..) ?_
      exact Kept.refl
theorem execDumpRingEnableWrite_kept (t : Tick) (v : BitVec 32) (s s' : State) (h : execDumpRingEnableWrite t v s = .next s') : Kept s.dev s'.dev := by
  refine State.on_kept h fun d => ?_
  extract_lets +onlyGivenNames on1
  extract_lets +onlyGivenNames d2
  refine Kept.cut d2 ?_ fun hd2 => ?_
  · subst d2
    refine Kept.ite ?_ ?_
    · refine Device.setPmc_kept (fun _ h => by simpa [Pmc.Shaped, upd, clearBits] using h) ?_
      exact Kept.refl
    · refine Device.setPmc_kept (fun _ h => by simpa [Pmc.Shaped, upd, clearBits] using h) ?_
      exact Kept.refl
  clear_value d2
  refine Kept.step (Device.reserved_kept ..) ?_
  assumption
theorem execAnemometerDump_kept (t : Tick) (s s' : State) (h : execAnemometerDump t s = .next s') : Kept s.dev s'.dev := by
  refine State.on_kept h fun d => ?_
  extract_lets +onlyGivenNames p1
  extract_lets +onlyGivenNames byCmd2
  extract_lets +onlyGivenNames due3
  refine Kept.ite ?_ ?_
  · exact Kept.refl
  · extract_lets +onlyGivenNames d4
    refine Kept.cut d4 ?_ fun hd4 => ?_
    · subst d4
      refine Device.setPmc_kept (fun _ h => by simpa [Pmc.Shaped, upd, clearBits] using h) ?_
      exact Kept.refl
    clear_value d4
    extract_lets +onlyGivenNames fail5
    refine Kept.ite ?_ ?_
    · unfold fail5
      clear_value byCmd2
      split
      · refine Kept.step (Device.complete_kept ..) ?_
        assumption
      · assumption
    · refine Kept.ite ?_ ?_
      · unfold fail5
        clear_value byCmd2
        split
        · refine Kept.step (Device.complete_kept ..) ?_
          refine Device.setPmc_kept (fun _ h => by simpa [Pmc.Shaped, upd, clearBits] using h) ?_
          assumption
        · refine Device.setPmc_kept (fun _ h => by simpa [Pmc.Shaped, upd, clearBits] using h) ?_
          assumption
      · extract_lets +onlyGivenNames base6
        extract_lets +onlyGivenNames w7
        refine Device.setPmc_kept (fun _ h => by simpa [Pmc.Shaped, upd, clearBits] using h) ?_
        assumption
theorem execDumpWriteDone_kept (t : Tick) (ok : Bool) (s s' : State) (h : execDumpWriteDone t ok s = .next s') : Kept s.dev s'.dev := by
  refine State.on_kept h fun d => ?_
  split
  · exact Kept.refl
  · extract_lets +onlyGivenNames finish1
    refine Kept.ite ?_ ?_
    · extract_lets +onlyGivenNames d2
      extract_lets +onlyGivenNames d3
      refine Kept.cut d3 ?_ fun hd3 => ?_
      · subst d3
        refine Kept.step (Device.post_kept ..) ?_
        exact Kept.refl
      clear_value d3
      extract_lets +onlyGivenNames d4
      refine Kept.cut d4 ?_ fun hd4 => ?_
      · subst d4
        refine Kept.step (Device.msix_kept ..) ?_
        refine Device.setPmc_kept (fun _ h => by simpa [Pmc.Shaped, upd, clearBits] using h) ?_
        assumption
      clear_value d4
      unfold finish1
      split
      · refine Kept.step (Device.complete_kept ..) ?_
        assumption
      · assumption
    · extract_lets +onlyGivenNames d5
      refine Kept.cut d5 ?_ fun hd5 => ?_
      · subst d5
        refine Kept.step (Device.dmaFail_kept ..) ?_
        refine Device.setPmc_kept (fun _ h => by simpa [Pmc.Shaped, upd, clearBits] using h) ?_
        exact Kept.refl
      clear_value d5
      refine Kept.step (Device.errReport_kept ..) ?_
      unfold finish1
      split
      · refine Kept.step (Device.complete_kept ..) ?_
        assumption
      · assumption
theorem execCmdPmcDump_kept (t : Tick) (h : CmdHdr) (a : Args) (s s' : State) (h : execCmdPmcDump t h a s = .next s') : Kept s.dev s'.dev := by
  refine State.on_kept h fun d => ?_
  refine Device.cmd_carry (fun x1 hx1 => ?_) ?_
  · split
    · refine Kept.fst_mk ?_
      assumption
    · split
      · refine Kept.fst_mk ?_
        assumption
      · refine Kept.fst_mk ?_
        refine Device.setPmc_kept (fun _ h => by simpa [Pmc.Shaped, upd, clearBits] using h) ?_
        assumption
  exact Kept.refl
theorem execCmdPmcClear_kept (t : Tick) (h : CmdHdr) (a : Args) (s s' : State) (h : execCmdPmcClear t h a s = .next s') : Kept s.dev s'.dev := by
  refine State.on_kept h fun d => ?_
  extract_lets +onlyGivenNames blocks1
  refine Device.cmdIf_carry (fun x2 hx2 => ?_) ?_
  · extract_lets +onlyGivenNames sel3
    extract_lets +onlyGivenNames one4
    refine Kept.fst_mk ?_
    refine Kept.foldl (fun x5 b6 hx5 => ?_) ?_
    · refine Kept.step (Device.setCtrs_kept _ _ _ fun l => by simp) ?_
      assumption
    · assumption
  exact Kept.refl
theorem execDriftTagEnd_kept (t : Tick) (flip : BitVec 32) (s s' : State) (h : execDriftTagEnd t flip s = .next s') : Kept s.dev s'.dev := by
  refine State.on_kept h fun d => ?_
  split
  · exact Kept.refl
  · extract_lets +onlyGivenNames ovr1
    refine Kept.ite ?_ ?_
    · exact Kept.refl
    · extract_lets +onlyGivenNames x2
      extract_lets +onlyGivenNames acked3
      extract_lets +onlyGivenNames v24
      extract_lets +onlyGivenNames mismatch5
      extract_lets +onlyGivenNames g6
      extract_lets +onlyGivenNames d7
      refine Kept.cut d7 ?_ fun hd7 => ?_
      · subst d7
        refine Device.setDrift_kept ?_
        exact Kept.refl
      clear_value d7
      refine Kept.ite ?_ ?_
      · refine Kept.step (Device.raise_kept ..) ?_
        assumption
      · assumption
theorem execCmdDriftRead_kept (t : Tick) (h : CmdHdr) (a : Args) (dmaOk : Bool) (s s' : State) (h : execCmdDriftRead t h a dmaOk s = .next s') : Kept s.dev s'.dev := by
  refine State.on_kept h fun d => ?_
  extract_lets +onlyGivenNames n1
  refine Device.cmdIf_carry (fun x2 hx2 => ?_) ?_
  · extract_lets +onlyGivenNames l3
    split
    · refine Kept.fst_mk ?_
      refine Kept.step (Device.dmaFail_kept ..) ?_
      assumption
    · refine Kept.fst_mk ?_
      refine Kept.step (Device.post_kept ..) ?_
      assumption
  exact Kept.refl

/-! ## Housekeeping -/

theorem Device.setSensor_kept (d : Device) (i : Nat) (f : HkSensor → HkSensor) : Kept d (Device.setSensor d i f) := by
  unfold Device.setSensor
  refine Device.setHk_kept ?_
  exact Kept.refl
theorem Device.setRail_kept (d : Device) (v : Nat) (f : HkSensor → HkSensor) : Kept d (Device.setRail d v f) := by
  unfold Device.setRail
  refine Device.setHk_kept ?_
  exact Kept.refl
theorem Device.setHkDie_kept (d : Device) (n : Nat) (f : HkDie → HkDie) : Kept d (Device.setHkDie d n f) := by
  unfold Device.setHkDie
  refine Device.setHk_kept ?_
  exact Kept.refl
theorem Device.dieReadings_kept (d : Device) (die : Nat) (v0 : Int) (v1 : Int) : Kept d (Device.dieReadings d die v0 v1) := by
  unfold Device.dieReadings
  extract_lets +onlyGivenNames p1
  extract_lets +onlyGivenNames s02
  extract_lets +onlyGivenNames s13
  extract_lets +onlyGivenNames apart4
  extract_lets +onlyGivenNames bad5
  split
  split
  extract_lets +onlyGivenNames d6
  refine Kept.cut d6 ?_ fun hd6 => ?_
  · subst d6
    refine Kept.step (Device.setSensor_kept ..) ?_
    refine Kept.step (Device.setSensor_kept ..) ?_
    exact Kept.refl
  clear_value d6
  extract_lets +onlyGivenNames tell7
  unfold tell7
  refine Kept.ite ?_ ?_
  · refine Kept.step (Device.raise_kept ..) ?_
    refine Kept.ite ?_ ?_
    · refine Kept.step (Device.raise_kept ..) ?_
      assumption
    · assumption
  · refine Kept.ite ?_ ?_
    · refine Kept.step (Device.raise_kept ..) ?_
      assumption
    · assumption
theorem Device.dieLimits_kept (d : Device) (die : Nat) : Kept d (Device.dieLimits d die) := by
  unfold Device.dieLimits
  extract_lets +onlyGivenNames p1
  extract_lets +onlyGivenNames x2
  extract_lets +onlyGivenNames v3
  extract_lets +onlyGivenNames T4
  extract_lets +onlyGivenNames hyst5
  extract_lets +onlyGivenNames warn6
  extract_lets +onlyGivenNames stop7
  extract_lets +onlyGivenNames n8
  extract_lets +onlyGivenNames lim9
  extract_lets +onlyGivenNames rise10
  extract_lets +onlyGivenNames rate11
  extract_lets +onlyGivenNames d12
  refine Kept.cut d12 ?_ fun hd12 => ?_
  · subst d12
    refine Kept.step (Device.setHkDie_kept ..) ?_
    exact Kept.refl
  clear_value d12
  extract_lets +onlyGivenNames d13
  refine Kept.cut d13 ?_ fun hd13 => ?_
  · subst d13
    refine Kept.ite ?_ ?_
    · refine Kept.step (Device.raise_kept ..) ?_
      assumption
    · assumption
  clear_value d13
  extract_lets +onlyGivenNames d14
  refine Kept.cut d14 ?_ fun hd14 => ?_
  · subst d14
    refine Kept.ite ?_ ?_
    · refine Kept.step (Device.raise_kept ..) ?_
      assumption
    · assumption
  clear_value d14
  refine Kept.ite ?_ ?_
  · refine Kept.step (Device.raise_kept ..) ?_
    assumption
  · assumption
theorem Device.dieRound_kept (d : Device) (temps : List Int) : Kept d (Device.dieRound d temps) := by
  unfold Device.dieRound
  refine Kept.foldl (fun x1 b2 hx1 => ?_) ?_
  · extract_lets +onlyGivenNames v3
    refine Kept.step (Device.dieLimits_kept ..) ?_
    refine Kept.step (Device.dieReadings_kept ..) ?_
    assumption
  · exact Kept.refl
theorem Device.railReading_kept (d : Device) (v : Nat) (mv : Nat) : Kept d (Device.railReading d v mv) := by
  unfold Device.railReading
  extract_lets +onlyGivenNames x1
  extract_lets +onlyGivenNames nom2
  split
  extract_lets +onlyGivenNames inside3
  extract_lets +onlyGivenNames outRun4
  extract_lets +onlyGivenNames inRun5
  extract_lets +onlyGivenNames out6
  extract_lets +onlyGivenNames d7
  refine Kept.cut d7 ?_ fun hd7 => ?_
  · subst d7
    refine Kept.step (Device.setRail_kept ..) ?_
    exact Kept.refl
  clear_value d7
  extract_lets +onlyGivenNames d8
  refine Kept.cut d8 ?_ fun hd8 => ?_
  · subst d8
    refine Kept.ite ?_ ?_
    · refine Kept.step (Device.raise_kept ..) ?_
      assumption
    · assumption
  clear_value d8
  refine Kept.ite ?_ ?_
  · refine Kept.step (Device.raise_kept ..) ?_
    assumption
  · assumption
theorem Device.supplies_kept (d : Device) (rails : List Nat) : Kept d (Device.supplies d rails) := by
  unfold Device.supplies
  refine Kept.foldl (fun x1 b2 hx1 => ?_) ?_
  · refine Kept.step (Device.railReading_kept ..) ?_
    assumption
  · exact Kept.refl
theorem Device.references_kept (d : Device) (readings : List Rat) : Kept d (Device.references d readings) := by
  unfold Device.references
  refine Kept.foldl (fun x1 b2 hx1 => ?_) ?_
  · refine Kept.step (Device.refFault_kept ..) ?_
    assumption
  · exact Kept.refl
theorem Device.summary_kept (d : Device) (r : RateRow) : Kept d (Device.summary d r) := by
  unfold Device.summary
  refine Kept.ite ?_ ?_
  · exact Kept.refl
  · extract_lets +onlyGivenNames d1
    refine Kept.cut d1 ?_ fun hd1 => ?_
    · subst d1
      refine Device.setHost_kept (fun _ h => by simpa [HostPort.Shaped, upd, clearBits] using h) ?_
      exact Kept.refl
    clear_value d1
    refine Kept.step (Device.enqueue_kept ..) ?_
    assumption
theorem Device.closeRound_kept (d : Device) : Kept d (Device.closeRound d) := by
  unfold Device.closeRound
  split
  · exact Kept.refl
  · extract_lets +onlyGivenNames rows1
    extract_lets +onlyGivenNames d2
    refine Kept.cut d2 ?_ fun hd2 => ?_
    · subst d2
      refine Device.setHost_kept (fun _ h => by simpa [HostPort.Shaped, upd, clearBits] using h) ?_
      refine Device.setHk_kept ?_
      exact Kept.refl
    clear_value d2
    refine Kept.foldl (fun x3 b4 hx3 => ?_) ?_
    · refine Kept.step (Device.summary_kept ..) ?_
      assumption
    · assumption
theorem Device.verifyNext_kept (d : Device) : Kept d (Device.verifyNext d) := by
  unfold Device.verifyNext
  extract_lets +onlyGivenNames use1
  extract_lets +onlyGivenNames next2
  clear_value next2
  split
  · exact Kept.refl
  · refine Device.setLink_kept (fun _ h => by simpa [Link.Shaped, upd, clearBits] using h) ?_
    refine Device.setHk_kept ?_
    exact Kept.refl
theorem Device.correlateRound_kept (d : Device) : Kept d (Device.correlateRound d) := by
  unfold Device.correlateRound
  extract_lets +onlyGivenNames quiet1
  extract_lets +onlyGivenNames d2
  extract_lets +onlyGivenNames d3
  refine Kept.cut d3 ?_ fun hd3 => ?_
  · subst d3
    refine Kept.set_net (fun h => by simpa [Net.Shaped, upd, clearBits] using h) ?_
    exact Kept.refl
  clear_value d3
  extract_lets +onlyGivenNames d4
  refine Kept.cut d4 ?_ fun hd4 => ?_
  · subst d4
    refine Kept.step (Device.correlate_kept ..) ?_
    assumption
  clear_value d4
  refine Kept.ite ?_ ?_
  · refine Kept.set_net (fun h => by simpa [Net.Shaped, upd, clearBits] using h) ?_
    assumption
  · assumption
theorem execZephyrRound_kept (t : Tick) (temps : List Int) (rails : List Nat) (refs : List Rat) (s s' : State) (h : execZephyrRound t temps rails refs s = .next s') : Kept s.dev s'.dev := by
  refine State.on_kept h fun d => ?_
  extract_lets +onlyGivenNames r1
  refine Kept.ite ?_ ?_
  · exact Kept.refl
  · extract_lets +onlyGivenNames late2
    extract_lets +onlyGivenNames d3
    refine Kept.cut d3 ?_ fun hd3 => ?_
    · subst d3
      refine Kept.step (Device.closeRound_kept ..) ?_
      exact Kept.refl
    clear_value d3
    extract_lets +onlyGivenNames n4
    extract_lets +onlyGivenNames d5
    refine Kept.cut d5 ?_ fun hd5 => ?_
    · subst d5
      refine Device.setHost_kept (fun _ h => by simpa [HostPort.Shaped, upd, clearBits] using h) ?_
      assumption
    clear_value d5
    extract_lets +onlyGivenNames d6
    refine Kept.cut d6 ?_ fun hd6 => ?_
    · subst d6
      refine Device.setHk_kept ?_
      assumption
    clear_value d6
    extract_lets +onlyGivenNames d7
    refine Kept.cut d7 ?_ fun hd7 => ?_
    · subst d7
      refine Device.setLink_kept (fun _ h => by simpa [Link.Shaped, upd, clearBits] using h) ?_
      assumption
    clear_value d7
    extract_lets +onlyGivenNames d8
    refine Kept.cut d8 ?_ fun hd8 => ?_
    · subst d8
      refine Kept.step (Device.correlateRound_kept ..) ?_
      assumption
    clear_value d8
    extract_lets +onlyGivenNames d9
    refine Kept.cut d9 ?_ fun hd9 => ?_
    · subst d9
      refine Kept.step (Device.references_kept ..) ?_
      refine Kept.step (Device.supplies_kept ..) ?_
      refine Kept.step (Device.dieRound_kept ..) ?_
      assumption
    clear_value d9
    extract_lets +onlyGivenNames d10
    refine Kept.cut d10 ?_ fun hd10 => ?_
    · subst d10
      refine Kept.step (Device.verifyNext_kept ..) ?_
      refine Kept.step (Device.pullUpdate_kept ..) ?_
      assumption
    clear_value d10
    extract_lets +onlyGivenNames d11
    refine Kept.cut d11 ?_ fun hd11 => ?_
    · subst d11
      refine Kept.foldl (fun x12 b13 hx12 => ?_) ?_
      · refine Kept.step (Device.xCheckRound_kept ..) ?_
        assumption
      · assumption
    clear_value d11
    refine Kept.ite ?_ ?_
    · refine Kept.step (Device.logPersist_kept ..) ?_
      assumption
    · assumption
theorem execZephyrRoundClose_kept (t : Tick) (s s' : State) (h : execZephyrRoundClose t s = .next s') : Kept s.dev s'.dev := by
  refine State.on_kept h fun d => ?_
  refine Kept.ite ?_ ?_
  · refine Kept.step (Device.closeRound_kept ..) ?_
    exact Kept.refl
  · exact Kept.refl
theorem execCmdHkRearm_kept (t : Tick) (h : CmdHdr) (a : Args) (s s' : State) (h : execCmdHkRearm t h a s = .next s') : Kept s.dev s'.dev := by
  refine State.on_kept h fun d => ?_
  refine Device.cmd_carry (fun x1 hx1 => ?_) ?_
  · extract_lets +onlyGivenNames mask2
    extract_lets +onlyGivenNames get3
    extract_lets +onlyGivenNames want4
    extract_lets +onlyGivenNames ready5
    extract_lets +onlyGivenNames fix6
    extract_lets +onlyGivenNames d'7
    refine Kept.cut d'7 ?_ fun hd'7 => ?_
    · subst d'7
      refine Kept.foldl (fun x8 b9 hx8 => ?_) ?_
      · refine Kept.ite ?_ ?_
        · refine Kept.step (Device.setSensor_kept ..) ?_
          assumption
        · refine Kept.step (Device.setRail_kept ..) ?_
          assumption
      · assumption
    clear_value d'7
    extract_lets +onlyGivenNames refused10
    refine Kept.fst_mk ?_
    assumption
  exact Kept.refl

/-! ## Rails -/

theorem execRailSupervisorUndervoltage_kept (t : Tick) (rail : Fin 8) (s s' : State) (h : execRailSupervisorUndervoltage t rail s = .next s') : Kept s.dev s'.dev := by
  refine State.on_kept h fun d => ?_
  refine Kept.ite (Device.refFaultAll_kept ..) ?_
  extract_lets +onlyGivenNames d1
  have h1 : Kept d d1 := Device.setLow_kept ..
  exact Kept.ite (Kept.ite h1 (Device.setConv_kept (Kept.step (Device.bailsilReset_kept ..) h1))) (Kept.ite h1 (Device.setConv_kept (Kept.step (Device.cleared_kept ..) h1)))
theorem execRailSupervisorRelease_kept (t : Tick) (bsl : Bool) (twinId : Bool) (twinEn : Bool) (bootSel : BitVec 2) (s s' : State) (h : execRailSupervisorRelease t bsl twinId twinEn bootSel s = .next s') : Kept s.dev s'.dev := by
  refine State.on_kept h fun d => ?_
  refine Kept.ite (Kept.ite Kept.refl (Kept.step (Device.bailsilReset_kept ..) (Device.setConv_kept (Device.setLow_kept ..)))) (Kept.ite Kept.refl ?_)
  extract_lets +onlyGivenNames d1
  have h1 : Kept d d1 := Kept.foldl (fun _ _ h => Kept.step (Device.setLow_kept ..) h) Kept.refl
  exact Kept.step (Device.deviceReset_kept ..) (Kept.set_straps h1)

/-! ## Registers -/

theorem Device.mirrorUpdate_kept (d : Device) (island : Nat) : Kept d (Device.mirrorUpdate d island) := by
  unfold Device.mirrorUpdate
  refine Kept.ite ?_ ?_
  · exact Kept.refl
  · extract_lets +onlyGivenNames stamp1
    refine Kept.set_mirrors ?_
    exact Kept.refl
theorem Device.chanBase_kept (d : Device) (off : Nat) (v : BitVec 32) : Kept d (Device.chanBase d off v) := by
  unfold Device.chanBase
  extract_lets +onlyGivenNames ch1
  refine Kept.ite ?_ ?_
  · refine Kept.step (Device.hostErr_kept ..) ?_
    exact Kept.refl
  · extract_lets +onlyGivenNames one2
    refine Device.setHost_kept (fun _ h => by simpa [HostPort.Shaped, upd, clearBits] using h) ?_
    exact Kept.refl
theorem Device.evqBase_kept (d : Device) (f : HostPort → HostPort) (hf : ∀ x : HostPort, x.Shaped → (f x).Shaped) : Kept d (d.evqBase f) :=
  Kept.ite (Device.hostErr_kept ..) (Device.setHost_kept hf Kept.refl)
theorem Device.dumpBase_kept (d : Device) (f : Pmc → Pmc) (hf : ∀ x : Pmc, x.Shaped → (f x).Shaped) : Kept d (d.dumpBase f) :=
  Kept.ite (Device.hostErr_kept ..) (Device.setPmc_kept hf Kept.refl)
theorem Device.scStore_kept (d : Device) (x : Nat) (o : Nat) (v : BitVec 32) : Kept d (Device.scStore d x o v) := by
  unfold Device.scStore
  split
  · refine Kept.step (Device.setSc_kept ..) ?_
    exact Kept.refl
  · refine Device.scHost_carry (fun x1 hx1 => ?_) ?_
    · refine Kept.step (Device.setSc_kept ..) ?_
      assumption
    exact Kept.refl
  · refine Device.scHost_carry (fun x2 hx2 => ?_) ?_
    · refine Kept.step (Device.setSc_kept ..) ?_
      assumption
    exact Kept.refl
  · refine Device.scHost_carry (fun x3 hx3 => ?_) ?_
    · refine Kept.step (Device.setSc_kept ..) ?_
      assumption
    exact Kept.refl
  · refine Device.scHost_carry (fun x4 hx4 => ?_) ?_
    · refine Kept.step (Device.setSc_kept ..) ?_
      assumption
    exact Kept.refl
  · refine Kept.step (Device.setSc_kept ..) ?_
    exact Kept.refl
  · exact Kept.refl
theorem Device.regStore_kept (d : Device) (off : Nat) (v : BitVec 32) : Kept d (Device.regStore d off v) := by
  unfold Device.regStore
  extract_lets +onlyGivenNames n1
  refine Kept.ite ?_ ?_
  · refine Kept.step (Device.chanBase_kept ..) ?_
    exact Kept.refl
  · refine Kept.ite ?_ ?_
    · refine Kept.step (Device.setCtrs_kept _ _ _ fun l => by simp [clearBits]) ?_
      exact Kept.refl
    · refine Kept.ite ?_ ?_
      · refine Device.setHk_kept ?_
        exact Kept.refl
      · refine Kept.ite ?_ ?_
        · refine Kept.step (Device.scStore_kept ..) ?_
          exact Kept.refl
        · refine Kept.ite ?_ ?_
          · refine Kept.step (Device.scStore_kept ..) ?_
            exact Kept.refl
          · split
            · refine Kept.step (Device.evqBase_kept _ _ fun _ h => h) ?_
              exact Kept.refl
            · refine Kept.step (Device.evqBase_kept _ _ fun _ h => h) ?_
              exact Kept.refl
            · refine Kept.step (Device.evqBase_kept _ _ fun _ h => h) ?_
              exact Kept.refl
            · refine Kept.step (Device.evqBase_kept _ _ fun _ h => h) ?_
              exact Kept.refl
            · refine Kept.step (Device.evqBase_kept _ _ fun _ h => h) ?_
              exact Kept.refl
            · refine Device.setHost_kept (fun _ h => by simpa [HostPort.Shaped, upd, clearBits] using h) ?_
              exact Kept.refl
            · refine Kept.set_meas (fun h => by simpa [Meas.Shaped, clearBits, h.1] using h) ?_
              exact Kept.refl
            · refine Kept.set_meas (fun h => by simpa [Meas.Shaped, clearBits, h.1] using h) ?_
              exact Kept.refl
            · refine Kept.set_meas (fun h => by simpa [Meas.Shaped, clearBits, h.1] using h) ?_
              exact Kept.refl
            · refine Device.setLaw_kept (fun _ h => by simpa [Law.Shaped, upd, clearBits] using h) ?_
              exact Kept.refl
            · refine Device.setLaw_kept (fun _ h => by simpa [Law.Shaped, upd, clearBits] using h) ?_
              exact Kept.refl
            · refine Device.setTraj_kept ?_
              exact Kept.refl
            · refine Device.setModu_kept (fun _ h => by simpa [Modu.Shaped, upd, clearBits] using h) ?_
              exact Kept.refl
            · refine Device.setPacks_kept (fun _ h => by simpa [Packs.Shaped, upd, clearBits] using h) ?_
              exact Kept.refl
            · refine Device.setPacks_kept (fun _ h => by simpa [Packs.Shaped, upd, clearBits] using h) ?_
              exact Kept.refl
            · refine Device.setLink_kept (fun _ h => by simpa [Link.Shaped, upd, clearBits] using h) ?_
              exact Kept.refl
            · refine Device.setLink_kept (fun _ h => by simpa [Link.Shaped, upd, clearBits] using h) ?_
              exact Kept.refl
            · refine Kept.set_twin (fun h => by simpa [Twin.Shaped, upd, clearBits] using h) ?_
              exact Kept.refl
            · refine Device.setEh_kept ?_
              exact Kept.refl
            · refine Kept.step (Device.dumpBase_kept _ _ fun _ h => h) ?_
              exact Kept.refl
            · refine Kept.step (Device.dumpBase_kept _ _ fun _ h => h) ?_
              exact Kept.refl
            · refine Kept.step (Device.dumpBase_kept _ _ fun _ h => h) ?_
              exact Kept.refl
            · refine Device.setRec_kept (fun _ h => by simpa [Rec.Shaped, upd, clearBits] using h) ?_
              exact Kept.refl
            · refine Device.setRec_kept (fun _ h => by simpa [Rec.Shaped, upd, clearBits] using h) ?_
              exact Kept.refl
            · refine Device.setRec_kept (fun _ h => by simpa [Rec.Shaped, upd, clearBits] using h) ?_
              exact Kept.refl
            · refine Device.setDrift_kept ?_
              exact Kept.refl
            · exact Kept.refl
theorem Device.msixStore_kept (d : Device) (off : Nat) (v : BitVec 32) : Kept d (Device.msixStore d off v) := by
  unfold Device.msixStore
  refine Kept.ite ?_ ?_
  · exact Kept.refl
  · extract_lets +onlyGivenNames i1
    extract_lets +onlyGivenNames set2
    split
    · unfold set2
      refine Device.setHost_kept (fun _ h => by simpa [HostPort.Shaped, upd, clearBits] using h) ?_
      exact Kept.refl
    · unfold set2
      refine Device.setHost_kept (fun _ h => by simpa [HostPort.Shaped, upd, clearBits] using h) ?_
      exact Kept.refl
    · unfold set2
      refine Device.setHost_kept (fun _ h => by simpa [HostPort.Shaped, upd, clearBits] using h) ?_
      exact Kept.refl
    · refine Kept.ite ?_ ?_
      · unfold set2
        refine Device.setHost_kept (fun _ h => by simpa [HostPort.Shaped, upd, clearBits] using h) ?_
        exact Kept.refl
      · refine Kept.step (Device.msixUnmask_kept ..) ?_
        exact Kept.refl
theorem execRegisterWrite_kept (t : Tick) (offset : BitVec 26) (v : BitVec 32) (s s' : State) (h : execRegisterWrite t offset v s = .next s') : Kept s.dev s'.dev := by
  refine State.on_kept h fun d => ?_
  extract_lets +onlyGivenNames off1
  refine Kept.ite ?_ ?_
  · refine Kept.ite ?_ ?_
    · refine Kept.step (Device.soffitWrite_kept ..) ?_
      exact Kept.refl
    · exact Kept.refl
  · refine Kept.ite ?_ ?_
    · exact Kept.refl
    · refine Kept.ite ?_ ?_
      · refine Kept.step (Device.msixStore_kept ..) ?_
        exact Kept.refl
      · split
        · refine Kept.step (Device.hostErr_kept ..) ?_
          exact Kept.refl
        · refine Kept.step (Device.regStore_kept ..) ?_
          refine Kept.step (Device.reserved_kept ..) ?_
          exact Kept.refl
theorem execMisalignedAccess_kept (t : Tick) (write : Bool) (s s' : State) (h : execMisalignedAccess t write s = .next s') : Kept s.dev s'.dev := by
  refine State.on_kept h fun d => ?_
  refine Kept.ite ?_ ?_
  · refine Kept.step (Device.hostErr_kept ..) ?_
    exact Kept.refl
  · refine Kept.step (Device.answer_kept ..) ?_
    refine Kept.step (Device.hostErr_kept ..) ?_
    exact Kept.refl

/-! ## Sample -/

theorem Device.frameClose_kept (d : Device) : Kept d (Device.frameClose d) := by
  unfold Device.frameClose
  extract_lets +onlyGivenNames law1
  extract_lets +onlyGivenNames arms2
  extract_lets +onlyGivenNames sched3
  extract_lets +onlyGivenNames done4
  extract_lets +onlyGivenNames reduce5
  refine Device.setRec_kept (fun _ h => by simpa [Rec.Shaped, upd, clearBits] using h) ?_
  refine Kept.step (Device.onFrame_kept ..) ?_
  exact Kept.refl
theorem Device.frameOpen_kept (d : Device) : Kept d (Device.frameOpen d) := by
  unfold Device.frameOpen
  extract_lets +onlyGivenNames f1
  extract_lets +onlyGivenNames f2
  extract_lets +onlyGivenNames frames3
  extract_lets +onlyGivenNames oldest4
  extract_lets +onlyGivenNames now5
  refine Device.setRec_kept (fun _ h => by simpa [Rec.Shaped, upd, clearBits] using h) ?_
  exact Kept.refl
theorem Device.statusEnd_kept (d : Device) (c : Nat) : Kept d (Device.statusEnd d c) := by
  unfold Device.statusEnd
  extract_lets +onlyGivenNames n1
  refine Kept.ite ?_ ?_
  · exact Kept.refl
  · extract_lets +onlyGivenNames got2
    extract_lets +onlyGivenNames d3
    refine Kept.cut d3 ?_ fun hd3 => ?_
    · subst d3
      split
      · refine Kept.step (Device.tableStatus_kept ..) ?_
        exact Kept.refl
      · exact Kept.refl
    clear_value d3
    extract_lets +onlyGivenNames d4
    refine Kept.cut d4 ?_ fun hd4 => ?_
    · subst d4
      refine Kept.step (Device.setNode_kept ..) ?_
      assumption
    clear_value d4
    refine Kept.ite ?_ ?_
    · assumption
    · refine Kept.step (Device.setCell_kept ..) ?_
      assumption
theorem Device.cycleEnd_kept (d : Device) : Kept d (Device.cycleEnd d) := by
  unfold Device.cycleEnd
  extract_lets +onlyGivenNames d1
  refine Kept.cut d1 ?_ fun hd1 => ?_
  · subst d1
    refine Kept.step (Device.inputInactive_kept ..) ?_
    refine Kept.step (Device.maskChecks_kept ..) ?_
    exact Kept.refl
  clear_value d1
  extract_lets +onlyGivenNames d2
  refine Kept.cut d2 ?_ fun hd2 => ?_
  · subst d2
    refine Kept.foldl (fun x3 b4 hx3 => ?_) ?_
    · refine Kept.step (Device.mirrorUpdate_kept ..) ?_
      assumption
    · assumption
  clear_value d2
  extract_lets +onlyGivenNames d5
  refine Kept.cut d5 ?_ fun hd5 => ?_
  · subst d5
    refine Kept.foldl (fun x6 b7 hx6 => ?_) ?_
    · refine Kept.step (Device.statusEnd_kept ..) ?_
      assumption
    · refine Kept.step (Device.frameClose_kept ..) ?_
      assumption
  clear_value d5
  refine Kept.set_cycle ?_
  assumption
theorem Device.cycleBegin_kept (d : Device) : Kept d (Device.cycleBegin d) := by
  unfold Device.cycleBegin
  extract_lets +onlyGivenNames e1
  extract_lets +onlyGivenNames d2
  extract_lets +onlyGivenNames d3
  refine Kept.cut d3 ?_ fun hd3 => ?_
  · subst d3
    refine Kept.set_cycle ?_
    exact Kept.refl
  clear_value d3
  extract_lets +onlyGivenNames d4
  refine Kept.cut d4 ?_ fun hd4 => ?_
  · subst d4
    refine Device.setTraj_kept ?_
    assumption
  clear_value d4
  extract_lets +onlyGivenNames d5
  refine Kept.cut d5 ?_ fun hd5 => ?_
  · subst d5
    refine Device.setLaw_kept (fun _ h => by simpa [Law.Shaped, upd, clearBits] using h) ?_
    assumption
  clear_value d5
  refine Device.setModu_kept (fun _ h => by simpa [Modu.Shaped, upd, clearBits] using h) ?_
  assumption
theorem Device.roundItems_kept (d : Device) (before : Tick) : Kept d (Device.roundItems d before) := by
  unfold Device.roundItems
  refine Kept.ite ?_ ?_
  · exact Kept.refl
  · extract_lets +onlyGivenNames old1
    refine Kept.step (Device.newForce_kept ..) ?_
    refine Kept.step (Device.applyWaiting_kept ..) ?_
    exact Kept.refl
theorem Device.boundaryAll_kept (d : Device) : Kept d (Device.boundaryAll d) := by
  unfold Device.boundaryAll
  extract_lets +onlyGivenNames n1
  extract_lets +onlyGivenNames d2
  refine Kept.cut d2 ?_ fun hd2 => ?_
  · subst d2
    refine Kept.step (Device.afterMove_kept ..) ?_
    refine Kept.step (Device.boundary_kept ..) ?_
    refine Kept.step (Device.closeBoundary_kept ..) ?_
    exact Kept.refl
  clear_value d2
  extract_lets +onlyGivenNames d3
  refine Kept.cut d3 ?_ fun hd3 => ?_
  · subst d3
    refine Device.setConv_kept ?_
    assumption
  clear_value d3
  refine Kept.ite ?_ ?_
  · refine Kept.step (Device.lawStop_kept ..) ?_
    assumption
  · assumption
theorem execSampleTrigger_kept (codes : List (List (BitVec 16))) (s s' : State) (h : execSampleTrigger codes s = .next s') : Kept s.dev s'.dev := by
  refine State.on_kept h fun d => ?_
  refine Kept.ite ?_ ?_
  · exact Kept.refl
  · extract_lets +onlyGivenNames before1
    extract_lets +onlyGivenNames d2
    refine Kept.cut d2 ?_ fun hd2 => ?_
    · subst d2
      refine Kept.step (Device.boundaryAll_kept ..) ?_
      refine Kept.step (Device.roundItems_kept ..) ?_
      refine Kept.step (Device.cycleBegin_kept ..) ?_
      refine Kept.step (Device.cycleEnd_kept ..) ?_
      exact Kept.refl
    clear_value d2
    extract_lets +onlyGivenNames d3
    refine Kept.cut d3 ?_ fun hd3 => ?_
    · subst d3
      refine Kept.step (Device.shiftSamples_kept ..) ?_
      refine Kept.step (Device.setpFrequency_kept ..) ?_
      refine Kept.step (Device.maskStarts_kept ..) ?_
      refine Kept.step (Device.frameOpen_kept ..) ?_
      refine Device.setProt_kept (fun _ h => by simpa [Prot.Shaped, upd, clearBits] using h) ?_
      assumption
    clear_value d3
    extract_lets +onlyGivenNames d4
    refine Kept.cut d4 ?_ fun hd4 => ?_
    · subst d4
      refine Kept.step (Device.twinCycle_kept ..) ?_
      refine Kept.step (Device.slpSample_kept ..) ?_
      refine Kept.step (Device.freezeSnapshot_kept ..) ?_
      assumption
    clear_value d4
    refine Kept.step (Device.sendStreams_kept ..) ?_
    refine Kept.step (Device.cycleSequences_kept ..) ?_
    refine Kept.step (Device.driftDraw_kept ..) ?_
    assumption
theorem execResumeEdge_kept (t : Tick) (s s' : State) (h : execResumeEdge t s = .next s') : Kept s.dev s'.dev := by
  refine State.on_kept h fun d => ?_
  split
  · exact Kept.refl
  · refine Kept.ite ?_ ?_
    · exact Kept.refl
    · extract_lets +onlyGivenNames d1
      refine Kept.cut d1 ?_ fun hd1 => ?_
      · subst d1
        refine Device.setProt_kept (fun _ h => by simpa [Prot.Shaped, upd, clearBits] using h) ?_
        exact Kept.refl
      clear_value d1
      extract_lets +onlyGivenNames d2
      refine Kept.cut d2 ?_ fun hd2 => ?_
      · subst d2
        refine Kept.step (Device.decideLatches_kept ..) ?_
        assumption
      clear_value d2
      refine Kept.ite ?_ ?_
      · assumption
      · extract_lets +onlyGivenNames d3
        refine Kept.cut d3 ?_ fun hd3 => ?_
        · subst d3
          refine Device.setProt_kept (fun _ h => by simpa [Prot.Shaped, upd, clearBits] using h) ?_
          assumption
        clear_value d3
        extract_lets +onlyGivenNames d4
        refine Kept.cut d4 ?_ fun hd4 => ?_
        · subst d4
          refine Kept.ite ?_ ?_
          · refine Device.setConv_kept ?_
            assumption
          · assumption
        clear_value d4
        extract_lets +onlyGivenNames n5
        extract_lets +onlyGivenNames d6
        refine Kept.cut d6 ?_ fun hd6 => ?_
        · subst d6
          refine Kept.ite ?_ ?_
          · assumption
          · refine Kept.ite ?_ ?_
            · refine Kept.step (Device.transition_kept ..) ?_
              assumption
            · refine Kept.step (Device.transition_kept ..) ?_
              assumption
        clear_value d6
        refine Kept.step (Device.afterMove_kept ..) ?_
        assumption

end Sys2Proof.Machine
end

