-- ==== Sys2Proof/Laws/Lists.lean ====
section
/-! SUPPORT. A list with one element changed (`upd`): its length and its elements. -/

namespace Sys2Proof.Machine

variable {α : Type}

@[simp] theorem upd_length (l : List α) (i : Nat) (f : α → α) : (upd l i f).length = l.length := by simp [upd]

theorem upd_getD (l : List α) (i j : Nat) (f : α → α) (x : α) : (upd l i f).getD j x = if i = j ∧ j < l.length then f (l.getD j x) else l.getD j x := by
  simp only [upd, List.getD_eq_getElem?_getD, List.getElem?_modify]
  by_cases h : i = j <;> by_cases g : j < l.length <;> simp [h, g]

/-- The changed element, where the list has it. -/
theorem upd_getD_same (l : List α) (i : Nat) (f : α → α) (x : α) (h : i < l.length) : (upd l i f).getD i x = f (l.getD i x) := by rw [upd_getD, if_pos ⟨rfl, h⟩]

/-- Every other element stands. -/
theorem upd_getD_other (l : List α) (i j : Nat) (f : α → α) (x : α) (h : i ≠ j) : (upd l i f).getD j x = l.getD j x := by rw [upd_getD, if_neg fun g => h g.1]

@[simp] theorem upd_getElem?_same (l : List α) (i : Nat) (f : α → α) : (upd l i f)[i]? = l[i]?.map f := by simp [upd]

end Sys2Proof.Machine
end

