-- ==== Sys2Proof/Laws/Memory.lean ====
section
/-! SUPPORT. Soffit's bytes: every operation keeps the canonical form, a byte written reads back, and the others stay. -/

namespace Sys2Proof.Machine

/-- Every address of a list lies above an address. -/
def Above (a : Nat) (m : List Host.Cell) : Prop := ∀ c ∈ m, a < c.1

theorem Memory.wf_cons (c : Host.Cell) (r : List Host.Cell) : Memory.wf (c :: r) = true ↔ c.2 ≠ soffitBlank ∧ Above c.1 r ∧ Memory.wf r = true := by
  simp [Memory.wf, Above, and_assoc]

theorem memPut_above {x : Nat} : ∀ {m : List Host.Cell} {a : Nat} {b : BitVec 8}, Above x m → x < a → Above x (memPut m a b)
  | [], a, b, _, h => by
    unfold memPut
    split
    · intro c hc; cases hc
    · intro c hc; simp only [List.mem_singleton] at hc; subst hc; exact h
  | d :: r, a, b, hm, h => by
    have hr : Above x r := fun c hc => hm c (List.mem_cons_of_mem _ hc)
    unfold memPut
    split
    · intro c hc
      cases hc with
      | head => exact hm d (List.mem_cons_self)
      | tail _ hc => exact memPut_above hr h c hc
    · have hrest : Above x (if d.1 = a then r else d :: r) := by
        split
        · exact hr
        · exact hm
      dsimp only
      split
      · exact hrest
      · intro c hc
        cases hc with
        | head => exact h
        | tail _ hc => exact hrest c hc

/-- Writing a byte keeps the canonical form. -/
theorem memPut_wf : ∀ {m : List Host.Cell} {a : Nat} {b : BitVec 8}, Memory.wf m = true → Memory.wf (memPut m a b) = true
  | [], a, b, _ => by
    unfold memPut
    split
    · rfl
    · next hb => exact (Memory.wf_cons _ _).mpr ⟨hb, fun c hc => absurd hc (by simp), rfl⟩
  | d :: r, a, b, hm => by
    have ⟨h1, h2, h3⟩ := (Memory.wf_cons d r).mp hm
    unfold memPut
    split
    · next h => exact (Memory.wf_cons _ _).mpr ⟨h1, memPut_above h2 h, memPut_wf h3⟩
    · next h =>
      have hrest : Memory.wf (if d.1 = a then r else d :: r) = true ∧ Above a (if d.1 = a then r else d :: r) := by
        split
        · next e => exact ⟨h3, e ▸ h2⟩
        · next e =>
          refine ⟨hm, fun c hc => ?_⟩
          cases hc with
          | head => omega
          | tail _ hc => have := h2 c hc; omega
      dsimp only
      split
      · exact hrest.1
      · next hb => exact (Memory.wf_cons _ _).mpr ⟨hb, hrest.2, hrest.1⟩

/-- Writing bytes keeps the canonical form. -/
theorem memWrite_wf : ∀ {l : List (BitVec 8)} {m : List Host.Cell} {a : Nat}, Memory.wf m = true → Memory.wf (memWrite m a l) = true
  | [], _, _, h => h
  | _ :: _, _, _, h => by unfold memWrite; exact memWrite_wf (memPut_wf h)

theorem memWrites_wf : ∀ {l : List (Nat × List (BitVec 8))} {m : List Host.Cell}, Memory.wf m = true →
    Memory.wf (l.foldl (fun m w => memWrite m w.1 w.2) m) = true
  | [], _, h => h
  | _ :: _, _, h => by rw [List.foldl_cons]; exact memWrites_wf (memWrite_wf h)

/-- What a command leaves in Soffit is in canonical form, if what it found was. -/
theorem Device.carryOut_wf {before after : Device} (h : Memory.wf before.recd.mem = true) : Memory.wf (before.carryOut after).recd.mem = true := by
  unfold Device.carryOut Device.soffitAfter
  apply memWrites_wf
  split
  · rfl
  · exact h

theorem memGet_nil (a : Nat) : memGet [] a = soffitBlank := rfl

theorem memGet_cons (c : Host.Cell) (r : List Host.Cell) (a : Nat) : memGet (c :: r) a = if c.1 = a then c.2 else memGet r a := by
  unfold memGet
  by_cases h : c.1 = a <;> simp [h]

theorem memGet_above {m : List Host.Cell} {a : Nat} (h : Above a m) : memGet m a = soffitBlank := by
  induction m with
  | nil => rfl
  | cons c r ih =>
    have hc := h c List.mem_cons_self
    rw [memGet_cons, if_neg (by omega)]
    exact ih fun x hx => h x (List.mem_cons_of_mem _ hx)

/-- A byte written reads back. -/
theorem memGet_memPut_same : ∀ {m : List Host.Cell} {a : Nat} {b : BitVec 8}, Memory.wf m = true → memGet (memPut m a b) a = b
  | [], a, b, _ => by
    unfold memPut
    split
    · next h => rw [h]; rfl
    · simp [memGet_cons]
  | d :: r, a, b, hm => by
    have ⟨h1, h2, h3⟩ := (Memory.wf_cons d r).mp hm
    unfold memPut
    split
    · next h => rw [memGet_cons, if_neg (by omega)]; exact memGet_memPut_same h3
    · next h =>
      dsimp only
      split
      · next hb =>
        rw [hb]
        apply memGet_above
        split
        · next e => exact e ▸ h2
        · next e =>
          intro c hc
          cases hc with
          | head => omega
          | tail _ hc => have := h2 c hc; omega
      · simp [memGet_cons]

/-- The other bytes stay. -/
theorem memGet_memPut_other : ∀ {m : List Host.Cell} {a x : Nat} {b : BitVec 8}, x ≠ a → memGet (memPut m a b) x = memGet m x
  | [], a, x, b, h => by
    unfold memPut
    split
    · rfl
    · rw [memGet_cons, if_neg (fun e => h e.symm)]
  | d :: r, a, x, b, h => by
    unfold memPut
    split
    · rw [memGet_cons, memGet_cons, memGet_memPut_other h]
    · dsimp only
      split
      · split
        · next e => rw [memGet_cons, if_neg (by omega)]
        · rfl
      · rw [memGet_cons, if_neg (fun e => h e.symm)]
        split
        · next e => rw [memGet_cons, if_neg (by omega)]
        · rfl

/-- Bytes outside those written stay. -/
theorem memGet_memWrite_other : ∀ {l : List (BitVec 8)} {m : List Host.Cell} {a x : Nat}, (∀ i < l.length, x ≠ (a + i) % 2 ^ 31) →
    memGet (memWrite m a l) x = memGet m x
  | [], _, _, _, _ => rfl
  | b :: r, m, a, x, h => by
    have h0 : x ≠ a % 2 ^ 31 := by simpa using h 0 (by simp)
    have hr : ∀ i < r.length, x ≠ (a + 1 + i) % 2 ^ 31 := fun i hi => by
      have := h (i + 1) (by simpa using hi)
      rwa [Nat.add_right_comm, Nat.add_assoc]
    unfold memWrite
    rw [memGet_memWrite_other hr, memGet_memPut_other h0]

end Sys2Proof.Machine
end

