-- ==== Sys2Proof/Laws/Parts.lean ====
section
/-! SUPPORT. What each part of `Only` says of the fields in it: a field whose part is not among those changed reads as before. -/

namespace Sys2Proof.Machine

variable {K : List Region} {a b : Device}

theorem Only.straps_eq (h : Only K a b) (hk : Region.straps ∉ K) : b.straps = a.straps := (h.same .straps hk).symm
theorem Only.cycle_eq (h : Only K a b) (hk : Region.cycle ∉ K) : b.cycle = a.cycle := (h.same .cycle hk).symm
theorem Only.meas_eq (h : Only K a b) (hk : Region.meas ∉ K) : b.meas = a.meas := (h.same .meas hk).symm
theorem Only.law_eq (h : Only K a b) (hk : Region.law ∉ K) : b.law = a.law := (h.same .law hk).symm
theorem Only.modu_eq (h : Only K a b) (hk : Region.modu ∉ K) : b.modu = a.modu := (h.same .modu hk).symm
theorem Only.packs_eq (h : Only K a b) (hk : Region.packs ∉ K) : b.packs = a.packs := (h.same .packs hk).symm
theorem Only.meter_eq (h : Only K a b) (hk : Region.meter ∉ K) : b.meter = a.meter := (h.same .meter hk).symm
theorem Only.link_eq (h : Only K a b) (hk : Region.link ∉ K) : b.link = a.link := (h.same .link hk).symm
theorem Only.safety_eq (h : Only K a b) (hk : Region.safety ∉ K) : b.safety = a.safety := (h.same .safety hk).symm
theorem Only.twin_eq (h : Only K a b) (hk : Region.twin ∉ K) : b.twin = a.twin := (h.same .twin hk).symm
theorem Only.par_eq (h : Only K a b) (hk : Region.par ∉ K) : b.par = a.par := (h.same .par hk).symm
theorem Only.parCopies_eq (h : Only K a b) (hk : Region.copies ∉ K) : b.parCopies = a.parCopies := (h.same .copies hk).symm
theorem Only.mirrors_eq (h : Only K a b) (hk : Region.mirror ∉ K) : b.mirrors = a.mirrors := (h.same .mirror hk).symm
theorem Only.conv_eq (h : Only K a b) (hk : Region.conv ∉ K) : b.conv = a.conv := (h.same .conv hk).symm
theorem Only.clk_eq (h : Only K a b) (hk : Region.clk ∉ K) : b.clk = a.clk := (h.same .clk hk).symm
theorem Only.eh_eq (h : Only K a b) (hk : Region.eh ∉ K) : b.eh = a.eh := (h.same .eh hk).symm
theorem Only.prov_eq (h : Only K a b) (hk : Region.prov ∉ K) : b.prov = a.prov := (h.same .prov hk).symm
theorem Only.sec_eq (h : Only K a b) (hk : Region.sec ∉ K) : b.sec = a.sec := (h.same .sec hk).symm
theorem Only.rails_eq (h : Only K a b) (hk : Region.rails ∉ K) : b.rails = a.rails := (h.same .rails hk).symm
theorem Only.now_eq (h : Only K a b) (hk : Region.time ∉ K) : b.now = a.now := (h.same .time hk).symm
theorem Only.ride_eq (h : Only K a b) (hk : Region.ride ∉ K) : b.grid.ride = a.grid.ride := (h.same .ride hk).symm
theorem Only.tr_eq (h : Only K a b) (hk : Region.traj ∉ K) : b.grid.tr = a.grid.tr := (h.same .traj hk).symm
theorem Only.brk_eq (h : Only K a b) (hk : Region.brk ∉ K) : b.grid.brk = a.grid.brk := (h.same .brk hk).symm
theorem Only.seq_eq (h : Only K a b) (hk : Region.seq ∉ K) : b.grid.seq = a.grid.seq := (h.same .seq hk).symm
theorem Only.drift_eq (h : Only K a b) (hk : Region.drift ∉ K) : b.zep.drift = a.zep.drift := (h.same .drift hk).symm
theorem Only.hk_eq (h : Only K a b) (hk : Region.hk ∉ K) : b.zep.hk = a.zep.hk := (h.same .hk hk).symm
theorem Only.host_chans (h : Only K a b) (hk : Region.mail ∉ K) : b.host.chans = a.host.chans := (congrArg (·.1) (h.same .mail hk)).symm
theorem Only.host_rr (h : Only K a b) (hk : Region.mail ∉ K) : b.host.rr = a.host.rr := (congrArg (·.2.1) (h.same .mail hk)).symm
theorem Only.host_outstanding (h : Only K a b) (hk : Region.mail ∉ K) : b.host.outstanding = a.host.outstanding := (congrArg (·.2.2.1) (h.same .mail hk)).symm
theorem Only.host_discarding (h : Only K a b) (hk : Region.mail ∉ K) : b.host.discarding = a.host.discarding := (congrArg (·.2.2.2.1) (h.same .mail hk)).symm
theorem Only.host_fences (h : Only K a b) (hk : Region.mail ∉ K) : b.host.fences = a.host.fences := (congrArg (·.2.2.2.2.1) (h.same .mail hk)).symm
theorem Only.host_fencePend (h : Only K a b) (hk : Region.mail ∉ K) : b.host.fencePend = a.host.fencePend := (congrArg (·.2.2.2.2.2) (h.same .mail hk)).symm
theorem Only.host_evqBaseL (h : Only K a b) (hk : Region.queue ∉ K) : b.host.evqBaseL = a.host.evqBaseL := (congrArg (·.1) (h.same .queue hk)).symm
theorem Only.host_evqBaseH (h : Only K a b) (hk : Region.queue ∉ K) : b.host.evqBaseH = a.host.evqBaseH := (congrArg (·.2.1) (h.same .queue hk)).symm
theorem Only.host_evqSize (h : Only K a b) (hk : Region.queue ∉ K) : b.host.evqSize = a.host.evqSize := (congrArg (·.2.2.1) (h.same .queue hk)).symm
theorem Only.host_evqOn (h : Only K a b) (hk : Region.queue ∉ K) : b.host.evqOn = a.host.evqOn := (congrArg (·.2.2.2.1) (h.same .queue hk)).symm
theorem Only.host_evqHead (h : Only K a b) (hk : Region.queue ∉ K) : b.host.evqHead = a.host.evqHead := (congrArg (·.2.2.2.2.1) (h.same .queue hk)).symm
theorem Only.host_shadowL (h : Only K a b) (hk : Region.queue ∉ K) : b.host.shadowL = a.host.shadowL := (congrArg (·.2.2.2.2.2.1) (h.same .queue hk)).symm
theorem Only.host_shadowH (h : Only K a b) (hk : Region.queue ∉ K) : b.host.shadowH = a.host.shadowH := (congrArg (·.2.2.2.2.2.2.1) (h.same .queue hk)).symm
theorem Only.host_evqIrq (h : Only K a b) (hk : Region.queue ∉ K) : b.host.evqIrq = a.host.evqIrq := (congrArg (·.2.2.2.2.2.2.2.1) (h.same .queue hk)).symm
theorem Only.host_evqErr (h : Only K a b) (hk : Region.queue ∉ K) : b.host.evqErr = a.host.evqErr := (congrArg (·.2.2.2.2.2.2.2.2) (h.same .queue hk)).symm
theorem Only.host_outbox (h : Only K a b) (hk : Region.posts ∉ K) : b.host.outbox = a.host.outbox := (congrArg (·.1) (h.same .posts hk)).symm
theorem Only.host_evqTail (h : Only K a b) (hk : Region.posts ∉ K) : b.host.evqTail = a.host.evqTail := (congrArg (·.2.1) (h.same .posts hk)).symm
theorem Only.host_evqSeq (h : Only K a b) (hk : Region.posts ∉ K) : b.host.evqSeq = a.host.evqSeq := (congrArg (·.2.2.1) (h.same .posts hk)).symm
theorem Only.host_unreported (h : Only K a b) (hk : Region.posts ∉ K) : b.host.unreported = a.host.unreported := (congrArg (·.2.2.2.1) (h.same .posts hk)).symm
theorem Only.host_visFrom (h : Only K a b) (hk : Region.posts ∉ K) : b.host.visFrom = a.host.visFrom := (congrArg (·.2.2.2.2.1) (h.same .posts hk)).symm
theorem Only.host_msix (h : Only K a b) (hk : Region.posts ∉ K) : b.host.msix = a.host.msix := (congrArg (·.2.2.2.2.2) (h.same .posts hk)).symm
theorem Only.host_fwRunning (h : Only K a b) (hk : Region.regs ∉ K) : b.host.fwRunning = a.host.fwRunning := (congrArg (·.1) (h.same .regs hk)).symm
theorem Only.host_dmaErr (h : Only K a b) (hk : Region.regs ∉ K) : b.host.dmaErr = a.host.dmaErr := (congrArg (·.2.1) (h.same .regs hk)).symm
theorem Only.host_hostLost (h : Only K a b) (hk : Region.regs ∉ K) : b.host.hostLost = a.host.hostLost := (congrArg (·.2.2.1) (h.same .regs hk)).symm
theorem Only.host_errCnt (h : Only K a b) (hk : Region.regs ∉ K) : b.host.errCnt = a.host.errCnt := (congrArg (·.2.2.2.1) (h.same .regs hk)).symm
theorem Only.host_wdAt (h : Only K a b) (hk : Region.regs ∉ K) : b.host.wdAt = a.host.wdAt := (congrArg (·.2.2.2.2.1) (h.same .regs hk)).symm
theorem Only.host_reply (h : Only K a b) (hk : Region.regs ∉ K) : b.host.reply = a.host.reply := (congrArg (·.2.2.2.2.2.1) (h.same .regs hk)).symm
theorem Only.host_replyBytes (h : Only K a b) (hk : Region.regs ∉ K) : b.host.replyBytes = a.host.replyBytes := (congrArg (·.2.2.2.2.2.2.1) (h.same .regs hk)).symm
theorem Only.host_poisoned (h : Only K a b) (hk : Region.regs ∉ K) : b.host.poisoned = a.host.poisoned := (congrArg (·.2.2.2.2.2.2.2.1) (h.same .regs hk)).symm
theorem Only.host_pci (h : Only K a b) (hk : Region.regs ∉ K) : b.host.pci = a.host.pci := (congrArg (·.2.2.2.2.2.2.2.2) (h.same .regs hk)).symm
theorem Only.recd_state (h : Only K a b) (hk : Region.recd ∉ K) : b.recd.state = a.recd.state := (congrArg Rec.state (h.same .recd hk)).symm
theorem Only.recd_postClamped (h : Only K a b) (hk : Region.recd ∉ K) : b.recd.postClamped = a.recd.postClamped := (congrArg Rec.postClamped (h.same .recd hk)).symm
theorem Only.recd_preCut (h : Only K a b) (hk : Region.recd ∉ K) : b.recd.preCut = a.recd.preCut := (congrArg Rec.preCut (h.same .recd hk)).symm
theorem Only.recd_preShort (h : Only K a b) (hk : Region.recd ∉ K) : b.recd.preShort = a.recd.preShort := (congrArg Rec.preShort (h.same .recd hk)).symm
theorem Only.recd_stopPend (h : Only K a b) (hk : Region.recd ∉ K) : b.recd.stopPend = a.recd.stopPend := (congrArg Rec.stopPend (h.same .recd hk)).symm
theorem Only.recd_stopMask (h : Only K a b) (hk : Region.recd ∉ K) : b.recd.stopMask = a.recd.stopMask := (congrArg Rec.stopMask (h.same .recd hk)).symm
theorem Only.recd_recNum (h : Only K a b) (hk : Region.recd ∉ K) : b.recd.recNum = a.recd.recNum := (congrArg Rec.recNum (h.same .recd hk)).symm
theorem Only.recd_p (h : Only K a b) (hk : Region.recd ∉ K) : b.recd.p = a.recd.p := (congrArg Rec.p (h.same .recd hk)).symm
theorem Only.recd_q (h : Only K a b) (hk : Region.recd ∉ K) : b.recd.q = a.recd.q := (congrArg Rec.q (h.same .recd hk)).symm
theorem Only.recd_armAt (h : Only K a b) (hk : Region.recd ∉ K) : b.recd.armAt = a.recd.armAt := (congrArg Rec.armAt (h.same .recd hk)).symm
theorem Only.recd_wrJ (h : Only K a b) (hk : Region.recd ∉ K) : b.recd.wrJ = a.recd.wrJ := (congrArg Rec.wrJ (h.same .recd hk)).symm
theorem Only.recd_armedAt (h : Only K a b) (hk : Region.recd ∉ K) : b.recd.armedAt = a.recd.armedAt := (congrArg Rec.armedAt (h.same .recd hk)).symm
theorem Only.recd_fInForce (h : Only K a b) (hk : Region.recd ∉ K) : b.recd.fInForce = a.recd.fInForce := (congrArg Rec.fInForce (h.same .recd hk)).symm
theorem Only.recd_win (h : Only K a b) (hk : Region.recd ∉ K) : b.recd.win = a.recd.win := (congrArg Rec.win (h.same .recd hk)).symm
theorem Only.recd_trigMet (h : Only K a b) (hk : Region.recd ∉ K) : b.recd.trigMet = a.recd.trigMet := (congrArg Rec.trigMet (h.same .recd hk)).symm
theorem Only.recd_records (h : Only K a b) (hk : Region.recd ∉ K) : b.recd.records = a.recd.records := (congrArg Rec.records (h.same .recd hk)).symm
theorem Only.recd_ecCe (h : Only K a b) (hk : Region.recd ∉ K) : b.recd.ecCe = a.recd.ecCe := (congrArg Rec.ecCe (h.same .recd hk)).symm
theorem Only.recd_ecUe (h : Only K a b) (hk : Region.recd ∉ K) : b.recd.ecUe = a.recd.ecUe := (congrArg Rec.ecUe (h.same .recd hk)).symm
theorem Only.recd_missing (h : Only K a b) (hk : Region.recd ∉ K) : b.recd.missing = a.recd.missing := (congrArg Rec.missing (h.same .recd hk)).symm
theorem Only.recd_failed (h : Only K a b) (hk : Region.recd ∉ K) : b.recd.failed = a.recd.failed := (congrArg Rec.failed (h.same .recd hk)).symm
theorem Only.recd_memTested (h : Only K a b) (hk : Region.recd ∉ K) : b.recd.memTested = a.recd.memTested := (congrArg Rec.memTested (h.same .recd hk)).symm
theorem Only.recd_frames (h : Only K a b) (hk : Region.recd ∉ K) : b.recd.frames = a.recd.frames := (congrArg Rec.frames (h.same .recd hk)).symm
theorem Only.recd_cur (h : Only K a b) (hk : Region.recd ∉ K) : b.recd.cur = a.recd.cur := (congrArg Rec.cur (h.same .recd hk)).symm
theorem Only.recd_past (h : Only K a b) (hk : Region.recd ∉ K) : b.recd.past = a.recd.past := (congrArg Rec.past (h.same .recd hk)).symm
theorem Only.recd_reds (h : Only K a b) (hk : Region.recd ∉ K) : b.recd.reds = a.recd.reds := (congrArg Rec.reds (h.same .recd hk)).symm
theorem Only.recd_redDone (h : Only K a b) (hk : Region.recd ∉ K) : b.recd.redDone = a.recd.redDone := (congrArg Rec.redDone (h.same .recd hk)).symm
theorem Only.recd_masks (h : Only K a b) (hk : Region.recd ∉ K) : b.recd.masks = a.recd.masks := (congrArg Rec.masks (h.same .recd hk)).symm
theorem Only.recd_regd (h : Only K a b) (hk : Region.recd ∉ K) : b.recd.regd = a.recd.regd := (congrArg Rec.regd (h.same .recd hk)).symm
theorem Only.recd_missJ (h : Only K a b) (hk : Region.recd ∉ K) : b.recd.missJ = a.recd.missJ := (congrArg Rec.missJ (h.same .recd hk)).symm
theorem Only.net_links (h : Only K a b) (hk : Region.net ∉ K) : b.net.links = a.net.links := (congrArg Net.links (h.same .net hk)).symm
theorem Only.net_ringClosed (h : Only K a b) (hk : Region.net ∉ K) : b.net.ringClosed = a.net.ringClosed := (congrArg Net.ringClosed (h.same .net hk)).symm
theorem Only.net_ownBack (h : Only K a b) (hk : Region.net ∉ K) : b.net.ownBack = a.net.ownBack := (congrArg Net.ownBack (h.same .net hk)).symm
theorem Only.net_domDiff (h : Only K a b) (hk : Region.net ∉ K) : b.net.domDiff = a.net.domDiff := (congrArg Net.domDiff (h.same .net hk)).symm
theorem Only.net_domOkRound (h : Only K a b) (hk : Region.net ∉ K) : b.net.domOkRound = a.net.domOkRound := (congrArg Net.domOkRound (h.same .net hk)).symm
theorem Only.net_nodeFull (h : Only K a b) (hk : Region.net ∉ K) : b.net.nodeFull = a.net.nodeFull := (congrArg Net.nodeFull (h.same .net hk)).symm
theorem Only.net_dup (h : Only K a b) (hk : Region.net ∉ K) : b.net.dup = a.net.dup := (congrArg Net.dup (h.same .net hk)).symm
theorem Only.net_wrong (h : Only K a b) (hk : Region.net ∉ K) : b.net.wrong = a.net.wrong := (congrArg Net.wrong (h.same .net hk)).symm
theorem Only.net_disc (h : Only K a b) (hk : Region.net ∉ K) : b.net.disc = a.net.disc := (congrArg Net.disc (h.same .net hk)).symm
theorem Only.net_scDisc (h : Only K a b) (hk : Region.net ∉ K) : b.net.scDisc = a.net.scDisc := (congrArg Net.scDisc (h.same .net hk)).symm
theorem Only.net_fwd (h : Only K a b) (hk : Region.net ∉ K) : b.net.fwd = a.net.fwd := (congrArg Net.fwd (h.same .net hk)).symm
theorem Only.net_nodes (h : Only K a b) (hk : Region.net ∉ K) : b.net.nodes = a.net.nodes := (congrArg Net.nodes (h.same .net hk)).symm
theorem Only.net_dups (h : Only K a b) (hk : Region.net ∉ K) : b.net.dups = a.net.dups := (congrArg Net.dups (h.same .net hk)).symm
theorem Only.net_seq (h : Only K a b) (hk : Region.net ∉ K) : b.net.seq = a.net.seq := (congrArg Net.seq (h.same .net hk)).symm
theorem Only.net_supAt (h : Only K a b) (hk : Region.net ∉ K) : b.net.supAt = a.net.supAt := (congrArg Net.supAt (h.same .net hk)).symm
theorem Only.net_scPeer (h : Only K a b) (hk : Region.net ∉ K) : b.net.scPeer = a.net.scPeer := (congrArg Net.scPeer (h.same .net hk)).symm
theorem Only.net_pdelay (h : Only K a b) (hk : Region.net ∉ K) : b.net.pdelay = a.net.pdelay := (congrArg Net.pdelay (h.same .net hk)).symm
theorem Only.net_pdReq (h : Only K a b) (hk : Region.net ∉ K) : b.net.pdReq = a.net.pdReq := (congrArg Net.pdReq (h.same .net hk)).symm
theorem Only.net_pdSeq (h : Only K a b) (hk : Region.net ∉ K) : b.net.pdSeq = a.net.pdSeq := (congrArg Net.pdSeq (h.same .net hk)).symm
theorem Only.net_best (h : Only K a b) (hk : Region.net ∉ K) : b.net.best = a.net.best := (congrArg Net.best (h.same .net hk)).symm
theorem Only.net_passive (h : Only K a b) (hk : Region.net ∉ K) : b.net.passive = a.net.passive := (congrArg Net.passive (h.same .net hk)).symm
theorem Only.net_held (h : Only K a b) (hk : Region.net ∉ K) : b.net.held = a.net.held := (congrArg Net.held (h.same .net hk)).symm
theorem Only.net_diff (h : Only K a b) (hk : Region.net ∉ K) : b.net.diff = a.net.diff := (congrArg Net.diff (h.same .net hk)).symm
theorem Only.net_tx (h : Only K a b) (hk : Region.net ∉ K) : b.net.tx = a.net.tx := (congrArg Net.tx (h.same .net hk)).symm
theorem Only.net_scRx (h : Only K a b) (hk : Region.net ∉ K) : b.net.scRx = a.net.scRx := (congrArg Net.scRx (h.same .net hk)).symm
theorem Only.pmc_upper (h : Only K a b) (hk : Region.dump ∉ K) : b.zep.pmc.upper = a.zep.pmc.upper := (congrArg Pmc.upper (h.same .dump hk)).symm
theorem Only.pmc_baseL (h : Only K a b) (hk : Region.dump ∉ K) : b.zep.pmc.baseL = a.zep.pmc.baseL := (congrArg Pmc.baseL (h.same .dump hk)).symm
theorem Only.pmc_baseH (h : Only K a b) (hk : Region.dump ∉ K) : b.zep.pmc.baseH = a.zep.pmc.baseH := (congrArg Pmc.baseH (h.same .dump hk)).symm
theorem Only.pmc_size (h : Only K a b) (hk : Region.dump ∉ K) : b.zep.pmc.size = a.zep.pmc.size := (congrArg Pmc.size (h.same .dump hk)).symm
theorem Only.pmc_on (h : Only K a b) (hk : Region.dump ∉ K) : b.zep.pmc.on = a.zep.pmc.on := (congrArg Pmc.on (h.same .dump hk)).symm
theorem Only.pmc_seq (h : Only K a b) (hk : Region.dump ∉ K) : b.zep.pmc.seq = a.zep.pmc.seq := (congrArg Pmc.seq (h.same .dump hk)).symm
theorem Only.pmc_lastSeq (h : Only K a b) (hk : Region.dump ∉ K) : b.zep.pmc.lastSeq = a.zep.pmc.lastSeq := (congrArg Pmc.lastSeq (h.same .dump hk)).symm
theorem Only.pmc_skip (h : Only K a b) (hk : Region.dump ∉ K) : b.zep.pmc.skip = a.zep.pmc.skip := (congrArg Pmc.skip (h.same .dump hk)).symm
theorem Only.pmc_err (h : Only K a b) (hk : Region.dump ∉ K) : b.zep.pmc.err = a.zep.pmc.err := (congrArg Pmc.err (h.same .dump hk)).symm
theorem Only.pmc_writing (h : Only K a b) (hk : Region.dump ∉ K) : b.zep.pmc.writing = a.zep.pmc.writing := (congrArg Pmc.writing (h.same .dump hk)).symm
theorem Only.pmc_cmd (h : Only K a b) (hk : Region.dump ∉ K) : b.zep.pmc.cmd = a.zep.pmc.cmd := (congrArg Pmc.cmd (h.same .dump hk)).symm
theorem Only.pmc_cmdFrom (h : Only K a b) (hk : Region.dump ∉ K) : b.zep.pmc.cmdFrom = a.zep.pmc.cmdFrom := (congrArg Pmc.cmdFrom (h.same .dump hk)).symm
theorem Only.pmc_dumped (h : Only K a b) (hk : Region.dump ∉ K) : b.zep.pmc.dumped = a.zep.pmc.dumped := (congrArg Pmc.dumped (h.same .dump hk)).symm
theorem Only.prot_srcs (h : Only K a b) (hk : Region.prot ∉ K) : b.prot.srcs = a.prot.srcs := (congrArg Prot.srcs (h.same .prot hk)).symm
theorem Only.prot_tins (h : Only K a b) (hk : Region.prot ∉ K) : b.prot.tins = a.prot.tins := (congrArg Prot.tins (h.same .prot hk)).symm
theorem Only.prot_contactChat (h : Only K a b) (hk : Region.prot ∉ K) : b.prot.contactChat = a.prot.contactChat := (congrArg Prot.contactChat (h.same .prot hk)).symm
theorem Only.prot_blank (h : Only K a b) (hk : Region.prot ∉ K) : b.prot.blank = a.prot.blank := (congrArg Prot.blank (h.same .prot hk)).symm
theorem Only.prot_burst (h : Only K a b) (hk : Region.prot ∉ K) : b.prot.burst = a.prot.burst := (congrArg Prot.burst (h.same .prot hk)).symm
theorem Only.prot_lastTrigger (h : Only K a b) (hk : Region.prot ∉ K) : b.prot.lastTrigger = a.prot.lastTrigger := (congrArg Prot.lastTrigger (h.same .prot hk)).symm
theorem Only.prot_sqFrom (h : Only K a b) (hk : Region.prot ∉ K) : b.prot.sqFrom = a.prot.sqFrom := (congrArg Prot.sqFrom (h.same .prot hk)).symm
theorem Only.prot_echoFrom (h : Only K a b) (hk : Region.prot ∉ K) : b.prot.echoFrom = a.prot.echoFrom := (congrArg Prot.echoFrom (h.same .prot hk)).symm
theorem Only.prot_blocked (h : Only K a b) (hk : Region.prot ∉ K) : b.prot.blocked = a.prot.blocked := (congrArg Prot.blocked (h.same .prot hk)).symm
theorem Only.prot_resumed (h : Only K a b) (hk : Region.prot ∉ K) : b.prot.resumed = a.prot.resumed := (congrArg Prot.resumed (h.same .prot hk)).symm
theorem Only.prot_resumeEdge (h : Only K a b) (hk : Region.prot ∉ K) : b.prot.resumeEdge = a.prot.resumeEdge := (congrArg Prot.resumeEdge (h.same .prot hk)).symm
theorem Only.prot_autoDisabled (h : Only K a b) (hk : Region.prot ∉ K) : b.prot.autoDisabled = a.prot.autoDisabled := (congrArg Prot.autoDisabled (h.same .prot hk)).symm
theorem Only.prot_autoResumes (h : Only K a b) (hk : Region.prot ∉ K) : b.prot.autoResumes = a.prot.autoResumes := (congrArg Prot.autoResumes (h.same .prot hk)).symm
theorem Only.prot_recoverUntil (h : Only K a b) (hk : Region.prot ∉ K) : b.prot.recoverUntil = a.prot.recoverUntil := (congrArg Prot.recoverUntil (h.same .prot hk)).symm
theorem Only.prot_gateFrozen (h : Only K a b) (hk : Region.prot ∉ K) : b.prot.gateFrozen = a.prot.gateFrozen := (congrArg Prot.gateFrozen (h.same .prot hk)).symm
theorem Only.prot_rxPair (h : Only K a b) (hk : Region.prot ∉ K) : b.prot.rxPair = a.prot.rxPair := (congrArg Prot.rxPair (h.same .prot hk)).symm
theorem Only.prot_hostTripUntil (h : Only K a b) (hk : Region.prot ∉ K) : b.prot.hostTripUntil = a.prot.hostTripUntil := (congrArg Prot.hostTripUntil (h.same .prot hk)).symm
theorem Only.prot_record (h : Only K a b) (hk : Region.prot ∉ K) : b.prot.record = a.prot.record := (congrArg Prot.record (h.same .prot hk)).symm
theorem Only.prot_sqCnt (h : Only K a b) (hk : Region.prot ∉ K) : b.prot.sqCnt = a.prot.sqCnt := (congrArg Prot.sqCnt (h.same .prot hk)).symm
theorem Only.prot_rejCnt (h : Only K a b) (hk : Region.prot ∉ K) : b.prot.rejCnt = a.prot.rejCnt := (congrArg Prot.rejCnt (h.same .prot hk)).symm
theorem Only.prot_echoCnt (h : Only K a b) (hk : Region.prot ∉ K) : b.prot.echoCnt = a.prot.echoCnt := (congrArg Prot.echoCnt (h.same .prot hk)).symm
theorem Only.prot_desatCnt (h : Only K a b) (hk : Region.prot ∉ K) : b.prot.desatCnt = a.prot.desatCnt := (congrArg Prot.desatCnt (h.same .prot hk)).symm
theorem Only.prot_chopCnt (h : Only K a b) (hk : Region.prot ∉ K) : b.prot.chopCnt = a.prot.chopCnt := (congrArg Prot.chopCnt (h.same .prot hk)).symm
theorem Only.prot_desatArms (h : Only K a b) (hk : Region.prot ∉ K) : b.prot.desatArms = a.prot.desatArms := (congrArg Prot.desatArms (h.same .prot hk)).symm
theorem Only.prot_desatSeq (h : Only K a b) (hk : Region.prot ∉ K) : b.prot.desatSeq = a.prot.desatSeq := (congrArg Prot.desatSeq (h.same .prot hk)).symm
theorem Only.prot_efFrom (h : Only K a b) (hk : Region.prot ∉ K) : b.prot.efFrom = a.prot.efFrom := (congrArg Prot.efFrom (h.same .prot hk)).symm
theorem Only.prot_spFrom (h : Only K a b) (hk : Region.prot ∉ K) : b.prot.spFrom = a.prot.spFrom := (congrArg Prot.spFrom (h.same .prot hk)).symm
theorem Only.prot_bypFailed (h : Only K a b) (hk : Region.prot ∉ K) : b.prot.bypFailed = a.prot.bypFailed := (congrArg Prot.bypFailed (h.same .prot hk)).symm
theorem Only.prot_gates (h : Only K a b) (hk : Region.gates ∉ K) : b.prot.gates = a.prot.gates := (congrArg (·.1) (h.same .gates hk)).symm
theorem Only.prot_gateStore (h : Only K a b) (hk : Region.gates ∉ K) : b.prot.gateStore = a.prot.gateStore := (congrArg (·.2.1) (h.same .gates hk)).symm
theorem Only.prot_gateSaved (h : Only K a b) (hk : Region.gates ∉ K) : b.prot.gateSaved = a.prot.gateSaved := (congrArg (·.2.2.1) (h.same .gates hk)).symm
theorem Only.prot_gateSel (h : Only K a b) (hk : Region.gates ∉ K) : b.prot.gateSel = a.prot.gateSel := (congrArg (·.2.2.2.1) (h.same .gates hk)).symm
theorem Only.prot_gateReady (h : Only K a b) (hk : Region.gates ∉ K) : b.prot.gateReady = a.prot.gateReady := (congrArg (·.2.2.2.2.1) (h.same .gates hk)).symm
theorem Only.prot_gateRegs (h : Only K a b) (hk : Region.gates ∉ K) : b.prot.gateRegs = a.prot.gateRegs := (congrArg (·.2.2.2.2.2) (h.same .gates hk)).symm
theorem Only.mem_eq (h : Only K a b) (hk : Region.soffit ∉ K) : b.recd.mem = a.recd.mem := (congrArg (·.1) (h.same .soffit hk)).symm

end Sys2Proof.Machine
end

