-- ==== Sys2Proof/Machine/Package.lean ====
section
/-! DEFINITION. The package (R476 to R481): the ball grid, the ball of every signal, and the groups of the balls. -/

namespace Sys2Proof.Machine

/-- The signals of Table 18-4. `neg` names the _N ball of a pair, `rx` a receive pair, `q` the Q lane of a ring. -/
inductive Signal where
  /-- LKnn_PTX, LKnn_QTX, LKnn_PRX, LKnn_QRX -/
  | ring (n : Fin 12) (rx q neg : Bool)
  /-- PE_TXk, PE_RXk -/
  | pcie (k : Fin 4) (rx neg : Bool)
  /-- PERST_N -/
  | perstN
  /-- ETH1, ETH2 -/
  | eth (n : Fin 2) (rx neg : Bool)
  /-- MDL0, MDL1 -/
  | mdl (n : Fin 2) (rx neg : Bool)
  /-- REFCLK -/
  | refclk (neg : Bool)
  /-- CLKOUT0, CLKOUT1 -/
  | clkout (n : Fin 2)
  /-- TRIP_IN0 to TRIP_IN15 -/
  | tripIn (i : Fin 16)
  /-- ATRIG0 to ATRIG3 -/
  | atrig (g : Fin 4)
  /-- SETP_PULSE -/
  | setpPulse
  /-- BRKb_A, BRKb_B -/
  | brkContact (b : Fin 2) (second : Bool)
  /-- BRKb_CLOSE -/
  | brkClose (b : Fin 2)
  /-- HEALTH -/
  | health
  /-- ARB_GRANT -/
  | arbGrant
  /-- TWIN_ID -/
  | twinId
  /-- TWIN_EN -/
  | twinEn
  /-- BOOTSEL0, BOOTSEL1 -/
  | bootsel (n : Fin 2)
  /-- RESET_N -/
  | resetN
  /-- UART_TXD, UART_RXD -/
  | uart (rx : Bool)
  /-- TCK, TMS, TDI, TDO, TRST_N -/
  | jtag (n : Fin 5)
  /-- AINii -/
  | ain (i : Fin 64)
  /-- AINCOMg -/
  | aincom (g : Fin 4)
  /-- VREFEXT_g -/
  | vrefext (g : Fin 4)
  /-- SINn_A, SINn_B -/
  | sin (n : Fin 4) (second : Bool)
  /-- TPA, TPB -/
  | testPulse (second : Bool)
  /-- SOUTn_H, SOUTn_L -/
  | sout (n : Fin 6) (low : Bool)
  /-- BSL_RESET_N -/
  | bslResetN
  deriving DecidableEq, Repr

/-- The 19 letters that name rows (Table 18-2). -/
def rowLetters : List String := ["A", "B", "C", "D", "E", "F", "G", "H", "J", "K", "L", "M", "N", "P", "T", "U", "V", "W", "Y"]
/-- The letters of the row of index i, 1 to 52 (Table 18-2). -/
def rowName (i : Nat) : String := ["", "A", "B"].getD ((i - 1) / 19) "" ++ rowLetters.getD ((i - 1) % 19) ""
/-- The name of a ball: the row's letters followed by the column (R477). -/
def ballName (b : Nat × Nat) : String := rowName b.1 ++ toString b.2

/-- The ball of a signal: row index and column (R479). -/
def Signal.ball : Signal → Nat × Nat
  | .ring n rx q neg => (if rx then 3 else 1, 3 + 4 * n.val + 2 * q.toNat + neg.toNat)
  | .pcie k rx neg => ([6, 9, 12, 15].getD k.val 0 + neg.toNat, if rx then 3 else 1)
  | .perstN => (18, 2)
  | .eth n rx neg => (20 + 3 * n.val + neg.toNat, if rx then 3 else 1)
  | .mdl n rx neg => ([6, 9].getD n.val 0 + neg.toNat, if rx then 50 else 52)
  | .refclk neg => (29 + neg.toNat, 2)
  | .clkout n => (32 + n.val, 2)
  | .tripIn i => (12 + i.val, 51)
  | .atrig g => (12 + g.val, 52)
  | .setpPulse => (16, 52)
  | .brkContact b second => (17 + 2 * b.val + second.toNat, 52)
  | .brkClose b => (21 + b.val, 52)
  | .health => (24, 52)
  | .arbGrant => (25, 52)
  | .twinId => (27, 52)
  | .twinEn => (28, 52)
  | .bootsel n => (29 + n.val, 52)
  | .resetN => (32, 52)
  | .uart rx => (33 + rx.toNat, 52)
  | .jtag n => (35 + n.val, 52)
  | .ain i => (if i.val % 16 < 8 then 52 else 50, 3 + 9 * (i.val / 16) + i.val % 8)
  | .aincom g => (52, 3 + 9 * g.val + 8)
  | .vrefext g => (50, 3 + 9 * g.val + 8)
  | .sin n second => (51, 41 + 2 * n.val + second.toNat)
  | .testPulse second => (51, 49 + second.toNat)
  | .sout n low => (49, 41 + 2 * n.val + low.toNat)
  | .bslResetN => (52, 52)

/-- Both values of a flag. -/
def bools : List Bool := [false, true]
/-- Every signal, in the order of Table 18-4. -/
def signals : List Signal :=
  ((List.finRange 12).flatMap fun n => bools.flatMap fun rx => bools.flatMap fun q => bools.map fun neg => Signal.ring n rx q neg) ++
  ((List.finRange 4).flatMap fun k => bools.flatMap fun rx => bools.map fun neg => .pcie k rx neg) ++ [.perstN] ++
  ((List.finRange 2).flatMap fun n => bools.flatMap fun rx => bools.map fun neg => .eth n rx neg) ++
  ((List.finRange 2).flatMap fun n => bools.flatMap fun rx => bools.map fun neg => .mdl n rx neg) ++
  bools.map .refclk ++ (List.finRange 2).map .clkout ++ (List.finRange 16).map .tripIn ++ (List.finRange 4).map .atrig ++ [.setpPulse] ++
  ((List.finRange 2).flatMap fun b => bools.map fun second => .brkContact b second) ++ (List.finRange 2).map .brkClose ++
  [.health, .arbGrant, .twinId, .twinEn] ++ (List.finRange 2).map .bootsel ++ [.resetN] ++ bools.map .uart ++ (List.finRange 5).map .jtag ++
  (List.finRange 64).map .ain ++ (List.finRange 4).map .aincom ++ (List.finRange 4).map .vrefext ++
  ((List.finRange 4).flatMap fun n => bools.map fun second => .sin n second) ++ bools.map .testPulse ++
  ((List.finRange 6).flatMap fun n => bools.map fun low => .sout n low) ++ [.bslResetN]

/-- The groups of Table 18-3; the rails in the order of R471. -/
inductive BallGroup where
  /-- A signal of Table 18-4 -/
  | signal
  /-- A rail: 0 VDD_CORE, 1 VDD_SRAM, 2 VDD_SD, 3 VDD_SOF, 4 VDD_BSL, 5 VDDIO, 6 VDD33, 7 AVDD5 -/
  | rail (v : Nat)
  /-- VSO -/
  | vso
  /-- VSO_RTN -/
  | vsoRtn
  /-- AGND -/
  | agnd
  /-- RSVD, left unconnected (R481) -/
  | rsvd
  /-- GND -/
  | gnd
  deriving DecidableEq, Repr

/-- A region of Table 18-5 whose balls belong to the rail where i + c is even, as rail, rows and columns. -/
def evenRegions : List (Nat × (Nat × Nat) × (Nat × Nat)) :=
  [(0, (17, 40), (14, 33)), (1, (17, 36), (34, 37)), (2, (5, 8), (5, 36)), (3, (41, 44), (14, 29)), (5, (12, 27), (47, 50)), (6, (28, 37), (47, 50))]
/-- The group of a ball that no signal takes (R480). -/
def supplyGroup (i c : Nat) : BallGroup :=
  let within := fun (x : Nat) (r : Nat × Nat) => decide (r.1 ≤ x) && decide (x ≤ r.2)
  match evenRegions.find? fun r => within i r.2.1 && within c r.2.2 && (i + c) % 2 == 0 with
  | some r => .rail r.1
  | none =>
    if i = 47 && within c (3, 18) then .rail 7
    else if i = 47 && within c (41, 44) then .vso
    else if i = 47 && within c (45, 48) then .vsoRtn
    else if (i = 52 && within c (41, 51)) || (i = 51 && c = 52) then .rail 4
    else if (i = 49 || i = 51) && within c (3, 38) then .agnd
    else if i = 45 && within c (3, 49) then .rsvd
    else .gnd
/-- The group of the ball in row i and column c (R478). -/
def ballGroup (i c : Nat) : BallGroup := if signals.any fun s => s.ball == (i, c) then .signal else supplyGroup i c
/-- Balls of the array in a group, by the supplies' placing alone. -/
def supplyCount (g : BallGroup) : Nat :=
  (((List.range 52).map fun i => ((List.range 52).filter fun c => supplyGroup (i + 1) (c + 1) == g).length).sum)

end Sys2Proof.Machine
end

