-- ==== Sys2Proof/WellFormed.lean ====
section
/-! DEFINITION. Which commands are well-formed: every operand names something that exists (rings, cells, streams, sources, channels) and fits its field. -/

namespace Sys2Proof

open Sys2Proof.Machine

/-- The codes of Table 16-3. -/
def isErrCode (c : Nat) : Bool :=
  [0x0001, 0x0002, 0x0003, 0x0010, 0x0011, 0x0012, 0x0013, 0x0014, 0x0020, 0x0021, 0x0030, 0x0031, 0x0032, 0x0040, 0x0041, 0x0050, 0x0051, 0x0060, 0x0061,
   0x0062, 0x0063, 0x0064, 0x0070, 0x0071, 0x0072, 0x0080, 0x0081, 0x0082, 0x0083].contains c
/-- The header of a mailbox command: a channel, a producer count and the row's opcode (R324, R325, R330). -/
def hdrOk (h : CmdHdr) (op : Nat) : Bool := decide (h.chan < 8) && decide (h.count < 32) && h.opcode == op

/-- The bounds on a command's operands, per row. -/
def Instr.wellFormed : Instr → Bool
  | .deviceReset _ _ _ _ _ => true
  | .bailsilReset _ => true
  | .hostInterfaceReset _ => true
  | .railSupervisorUndervoltage _ _ => true
  | .railSupervisorRelease _ _ _ _ _ => true
  | .referenceDetection _ _ => true
  | .pllLock _ _ => true
  | .pllLossOfLock _ _ => true
  | .referenceLost _ => true
  | .referenceRestored _ => true
  | .holdoverMaxExpiry _ => true
  | .pllRelockDone _ => true
  | .clkoutChangeApply _ _ => true
  | .bootWatchdogExpiry _ => true
  | .recoveryImageLengthWrite _ _ => true
  | .bringUpStepDone _ _ _ => true
  | .soffitMemoryTestDone _ _ => true
  | .sampleTrigger _ => true
  | .driftTagEnd _ _ => true
  | .maskPass _ => true
  | .filterChainOutput _ _ => true
  | .auxSequenceStart _ _ => true
  | .atrigEdge _ _ _ _ => true
  | .auxEntryEnd _ _ _ _ => true
  | .gustComplete _ _ _ => true
  | .referenceSettleEnd _ _ _ => true
  | .referenceSettleTimeout _ _ => true
  | .comparatorLevelChange _ _ x => decide (0 ≤ x) && decide (x ≤ 65535)
  | .spareDacSwitch _ _ => true
  | .setpPulseEdge _ _ => true
  | .rafterLawEvaluation _ _ _ => true
  | .setpRecovered _ _ => true
  | .feedbackSensorFault _ => true
  | .sensorReadmission _ _ => true
  | .sensorlessExit _ => true
  | .sensorlessTrip _ => true
  | .rtSyncLost _ => true
  | .rideExit _ => true
  | .rideTimeout _ => true
  | .recoveryEnd _ => true
  | .referenceOverrun _ _ => true
  | .scheduleOverrun _ _ => true
  | .armRecordArrival _ _ _ => true
  | .loadAll _ => true
  | .armRedundancyChange _ _ => true
  | .resumeEdge _ => true
  | .centreModeRecoveryEnd _ => true
  | .returningFrame _ _ _ _ => true
  | .validationMarker _ _ _ _ => true
  | .bypassCloseTimeout _ _ => true
  | .cellRestEnd _ _ => true
  | .nodeAnswerMissed _ => true
  | .prqReceived _ _ _ _ => true
  | .bmsTransmitFrame _ _ _ => true
  | .ctbSecond _ => true
  | .meterBankWriteDone _ _ => true
  | .observerRoundStart _ _ _ => true
  | .observerRoundLate _ => true
  | .tripInputChange _ _ _ _ => true
  | .blankingWindowEnd _ _ => true
  | .incomingSquall _ _ => true
  | .squallHoldEnd _ => true
  | .burstEnd _ => true
  | .echoWindowEnd _ => true
  | .multiWinElapsed _ => true
  | .autoClearRequest _ _ => true
  | .tripRemind _ _ => true
  | .earthCurrentTrip _ => true
  | .starPointTrip _ => true
  | .gateAgeingPersist _ => true
  | .safetyInputChange _ _ _ _ _ => true
  | .sinDiscrepancy _ _ => true
  | .sinPulseMissed _ _ _ _ => true
  | .testPulseStart _ _ => true
  | .testPulseEnd _ _ _ => true
  | .soutReadbackMismatch _ _ _ _ => true
  | .switchCheckDone _ _ _ _ => true
  | .channelComparison _ _ _ => true
  | .heartbeat _ _ _ => true
  | .heartbeatTimeout _ => true
  | .lockstepMismatch _ => true
  | .channelDisagreementTimeout _ => true
  | .sciDelayExpiry _ => true
  | .sciConfirmExpiry _ => true
  | .slpMonitor _ => true
  | .safeRemind _ _ _ => true
  | .safeChannelPdu _ => true
  | .safeChannelWatchdogExpiry _ => true
  | .mardalLaneDown _ _ => true
  | .mardalLaneUp _ _ => true
  | .beacon _ _ _ => true
  | .lawCheckpoint _ _ _ _ => true
  | .mardalArmRecord _ _ _ _ => true
  | .battenInputs _ _ _ _ => true
  | .scheduleCheck _ _ _ _ _ _ => true
  | .streamBlock _ _ _ => true
  | .statusBlock _ _ _ _ _ => true
  | .observerBlock _ _ _ _ _ => true
  | .meterBlock _ _ _ _ _ => true
  | .digestBlock _ _ _ _ => true
  | .battenStateBlock _ _ _ _ _ => true
  | .timeProbe _ _ _ _ _ => true
  | .twinDeadline _ => true
  | .twinDecision _ => true
  | .shadowExpired _ => true
  | .healthToggle _ => true
  | .arbGrantChange _ _ _ => true
  | .twinRoleChange _ => true
  | .breakerContactChange _ _ _ _ => true
  | .breakerDebounceDone _ _ _ => true
  | .breakerDiscrepancy _ _ => true
  | .closePulseExpiry _ _ => true
  | .closeMaxExpiry _ _ => true
  | .bsDeadConfirmed _ => true
  | .bsHoldoffEnd _ => true
  | .bsBusBandChange _ => true
  | .bsLiveConfirmed _ => true
  | .bsConfirmTimeout _ => true
  | .bsEnergiseTimeout _ => true
  | .landTrimStep _ => true
  | .landDwellComplete _ => true
  | .landTimeout _ => true
  | .landAbortHoldEnd _ => true
  | .moveStart _ _ => true
  | .segmentStart _ _ => true
  | .moveEnd _ _ => true
  | .enumDiscoverDone _ => true
  | .enumPreloadDone _ => true
  | .enumMatchEnd _ => true
  | .chargeContactEnd _ => true
  | .chargeCellTestEnd _ => true
  | .preChargeDwellEnd _ => true
  | .hostWatchdogExpiry _ => true
  | .zephyrRound _ temps rails refs => decide (temps.length = 16) && decide (rails.length = 8) && decide (refs.length = 4)
  | .zephyrRoundClose _ => true
  | .ctbSourceReturn _ => true
  | .anemometerDump _ => true
  | .dumpWriteDone _ _ => true
  | .counterWrap _ _ _ => true
  | .scrubPass _ _ _ => true
  | .recorderFrameWrite _ _ => true
  | .triggerCondition _ => true
  | .ethPortLinkChange _ _ _ _ => true
  | .ethFrameReceived _ _ _ _ _ _ _ => true
  | .safeChannelFrame _ _ _ _ _ _ => true
  | .hsrForward _ _ _ _ _ _ _ _ _ _ _ resid => decide (0 ≤ resid)
  | .supervisionFrameSend _ => true
  | .ptpSync _ _ _ _ _ _ _ _ err => decide (-4 ≤ err) && decide (err ≤ 4)
  | .ptpFollowUp _ _ _ _ _ _ _ _ => true
  | .ptpAnnounce _ _ _ _ _ _ interval _ => decide (0 < interval)
  | .pdelayReq _ _ _ _ _ _ => true
  | .domainSilent _ _ => true
  | .errorReport _ code _ _ _ _ => isErrCode code.toNat
  | .errorHandlingDone _ => true
  | .handlerFault _ _ => true
  | .commandDoorbell _ _ _ => true
  | .commandFetch _ _ => true
  | .cmdNop _ h _ => hdrOk h 0x0001
  | .cmdParamStage _ h _ => hdrOk h 0x0010
  | .cmdParamStageList _ h _ _ => hdrOk h 0x0011
  | .cmdParamStageDefaults _ h _ => hdrOk h 0x0012
  | .cmdParamDiscard _ h _ => hdrOk h 0x0013
  | .cmdParamCommit _ h _ => hdrOk h 0x0014
  | .commitCheckDone _ => true
  | .commitApply _ => true
  | .cmdParamRead _ h _ => hdrOk h 0x0015
  | .cmdParamPersist _ h _ => hdrOk h 0x0016
  | .cmdStateReq _ h _ => hdrOk h 0x0020
  | .cmdTrMove _ h _ _ => hdrOk h 0x0030
  | .cmdTrFlush _ h _ => hdrOk h 0x0031
  | .cmdTrTableLoad _ h _ _ => hdrOk h 0x0032
  | .cmdBlackStart _ h _ => hdrOk h 0x0038
  | .cmdLand _ h _ => hdrOk h 0x0039
  | .cmdLandAbort _ h _ => hdrOk h 0x003A
  | .cmdBrkClose _ h _ => hdrOk h 0x003C
  | .cmdBrkRearm _ h _ => hdrOk h 0x003D
  | .cmdFeedbackRearm _ h _ => hdrOk h 0x0040
  | .cmdCellBypass _ h _ => hdrOk h 0x0050
  | .cmdCellReturn _ h _ => hdrOk h 0x0051
  | .cmdPackRearm _ h _ => hdrOk h 0x0058
  | .cmdPackTenancy _ h _ => hdrOk h 0x0059
  | .cmdBmsTap _ h _ => hdrOk h 0x005A
  | .cmdBmsSend _ h _ => hdrOk h 0x005B
  | .cmdMeterSnapshot _ h _ => hdrOk h 0x0060
  | .snapshotSigned _ _ => true
  | .cmdMeterAck _ h _ => hdrOk h 0x0061
  | .cmdNodeRead _ h _ => hdrOk h 0x0068
  | .cmdNodeWrite _ h _ => hdrOk h 0x0069
  | .cmdTripClear _ h _ => hdrOk h 0x0070
  | .cmdTripRearm _ h _ => hdrOk h 0x0071
  | .cmdTripForce _ h _ => hdrOk h 0x0072
  | .cmdGateBaseline _ h _ => hdrOk h 0x0073
  | .cmdSafeReset _ h _ => hdrOk h 0x0078
  | .cmdSafeRearm _ h _ => hdrOk h 0x0079
  | .cmdRecArm _ h _ => hdrOk h 0x0080
  | .cmdRecStop _ h _ => hdrOk h 0x0081
  | .cmdRecTrigger _ h _ => hdrOk h 0x0082
  | .cmdRecMaskStart _ h _ => hdrOk h 0x0083
  | .cmdEhLogRead _ h _ _ => hdrOk h 0x0090
  | .cmdEhAck _ h _ => hdrOk h 0x0091
  | .cmdEhLogClear _ h _ => hdrOk h 0x009A
  | .cmdFwRestart _ h _ => hdrOk h 0x0092
  | .cmdFwWrite _ h _ _ => hdrOk h 0x0093
  | .fwWriteDone _ => true
  | .cmdFwCommit _ h _ => hdrOk h 0x0094
  | .cmdSecIdentity _ h _ _ => hdrOk h 0x0095
  | .cmdSecAttest _ h _ => hdrOk h 0x0096
  | .attestSigned _ _ => true
  | .cmdDbgChallenge _ h _ _ => hdrOk h 0x0097
  | .cmdDbgUnlock _ h _ _ => hdrOk h 0x0098
  | .cmdDbgLock _ h _ => hdrOk h 0x0099
  | .cmdPmcDump _ h _ => hdrOk h 0x00A0
  | .cmdPmcClear _ h _ => hdrOk h 0x00A1
  | .cmdDriftRead _ h _ _ => hdrOk h 0x00A2
  | .cmdHkRearm _ h _ => hdrOk h 0x00A3
  | .channelEnableWrite _ _ => true
  | .evqEnableWrite _ _ => true
  | .evqHeadWrite _ _ => true
  | .eventRecordWrite _ _ => true
  | .evqIrqDelayExpiry _ => true
  | .fenceWrite _ => true
  | .fenceRead _ => true
  | .hostWatchdogWrite _ => true
  | .gustRequestWrite _ _ => true
  | .packSelectWrite _ _ => true
  | .gateSelectWrite _ _ => true
  | .ctbNowRead _ => true
  | .ctbCycRead _ => true
  | .correlationSampleRequest _ => true
  | .scTimeRead _ _ => true
  | .scIncrementWrite _ _ _ => true
  | .scApplySet _ w => w.2.getLsbD 0
  | .scApplyStep _ w => !w.2.getLsbD 0
  | .pmcConfigWrite _ _ _ _ => true
  | .dumpRingEnableWrite _ _ => true
  | .counterPageLowRead _ offset => decide (offset.toNat % 8 = 0)
  | .bar2Readout _ _ _ len _ _ => decide (len ≤ 4096)
  | .misalignedAccess _ _ => true
  | .registerWrite _ offset _ => decide (offset.toNat % 4 = 0) && !ownRow offset.toNat
  | .paramPersistDone _ _ => true
  | .msixVectorUnmask _ _ => true
  | .managementUartRecovery _ _ => true
  | .tpaTpbTestPulse _ _ => true
  | .ringLaneLockChange _ _ _ _ => true
  | .ringClosedTimeout _ => true
  | .pdelayRespReceived _ _ _ _ _ => true
  | .pdelayReqInterval _ => true

end Sys2Proof
end

