-- ==== Sys2Proof/Tests/Slice0.lean ====
section
/-! SUPPORT. The model's own tests: an ill-formed term for each check of WellFormed, small steps worked out from the spec by hand, and for every statement with hypotheses a state and operands that meet them. -/

namespace Sys2Proof.Tests

set_option maxRecDepth 20000
set_option linter.unusedVariables false
set_option Elab.async false

open Sys2Proof Sys2Proof.Machine

/-! ## States the tests start from -/

/-- The reset state with its device changed. -/
def onReset (f : Device → Device) : State := { State.reset with dev := f State.reset.dev }
/-- A device with parameters in force. -/
def withPar (l : Machine.PSet) (d : Device) : Device := { d with par := { d.par with force := l } }
/-- Bailsil out of reset and of safe hold. -/
def bslUp (d : Device) : Device := { d with safety := { d.safety with inReset := false, safeHold := false }, conv := { d.conv with bslReset := false } }
/-- A safe-channel PDU that starts the connection. -/
def startPdu : BitVec 192 := let head : List (BitVec 8) := leBytes 1 0x31 ++ leBytes 1 1 ++ leBytes 2 1 ++ leBytes 16 0x1F; packBytes 192 (head ++ leBytes 4 (crc32c (leBytes 8 0 ++ leBytes 4 1 ++ head)))
/-- The PDU after it. -/
def nextPdu : BitVec 192 := let head : List (BitVec 8) := leBytes 1 0x31 ++ leBytes 1 0 ++ leBytes 2 2 ++ leBytes 16 0x1F; packBytes 192 (head ++ leBytes 4 (crc32c (leBytes 8 0 ++ leBytes 4 2 ++ head)))
/-- A device of a twin pair, Active or Standby. -/
def paired (act : Bool) (d : Device) : Device := { d with straps := { d.straps with twinEn := true }, twin := { d.twin with active := act, lanes := [true, true] } }
/-- A command header on channel 0. -/
def hdr0 : CmdHdr := { chan := 0, count := 0, tag := 0, opcode := 1, fence := false, noirq := false }
/-- The reset state with the channels enabled and the firmware running. -/
def served (f : Device → Device) : State := onReset fun d => f { d with host := { d.host with chans := d.host.chans.map fun c => { c with enabled := true }, fwRunning := true } }
/-- A returning frame of cycle 1 whose check sums hold. -/
def goodFrame : List (BitVec 8) :=
  let head := leBytes 24 1
  let body := head ++ leBytes 6 0 ++ leBytes 2 (crc16 head) ++ List.replicate 1592 0
  body ++ leBytes 4 (crc32 body)


/-! ## An ill-formed term for each check of WellFormed -/

theorem test_ill_header_opcode : (Instr.cmdTrFlush 0 { hdr0 with opcode := 0x0030 } 0).wellFormed = false := by decide
theorem test_ill_header_channel : (Instr.cmdNop 0 { hdr0 with chan := 8 } 0).wellFormed = false := by decide
theorem test_ill_header_count : (Instr.cmdNop 0 { hdr0 with count := 32 } 0).wellFormed = false := by decide
theorem test_ill_comparator_below : (Instr.comparatorLevelChange 0 0 (-1)).wellFormed = false := by decide +kernel
theorem test_ill_comparator_above : (Instr.comparatorLevelChange 0 0 65536).wellFormed = false := by decide +kernel
theorem test_ill_round_temps : (Instr.zephyrRound 0 [] (List.replicate 8 0) (List.replicate 4 0)).wellFormed = false := by decide
theorem test_ill_round_rails : (Instr.zephyrRound 0 (List.replicate 16 0) [] (List.replicate 4 0)).wellFormed = false := by decide
theorem test_ill_round_references : (Instr.zephyrRound 0 (List.replicate 16 0) (List.replicate 8 0) []).wellFormed = false := by decide
theorem test_ill_apply_set : (Instr.scApplySet 0 (0, 2)).wellFormed = false := by decide
theorem test_ill_apply_step : (Instr.scApplyStep 0 (0, 3)).wellFormed = false := by decide
theorem test_ill_residence : (Instr.hsrForward 0 0 0 0 0 none 0 0 0 0 0 (-1)).wellFormed = false := by decide +kernel
theorem test_ill_timestamp_error : (Instr.ptpSync 0 0 0 0 0 false 0 0 5).wellFormed = false := by decide +kernel
theorem test_ill_announce_interval : (Instr.ptpAnnounce 0 0 0 0 0 [] 0 0).wellFormed = false := by decide +kernel
theorem test_ill_error_code : (Instr.errorReport 0 0x0004 0 0 0 0).wellFormed = false := by decide
theorem test_ill_counter_offset : (Instr.counterPageLowRead 0 4).wellFormed = false := by decide
theorem test_ill_readout_length : (Instr.bar2Readout 0 false 0 4097 0 0).wellFormed = false := by decide
theorem test_ill_register_offset : (Instr.registerWrite 0 2 0).wellFormed = false := by decide +kernel

/-! ## Worked examples of the spec -/

/-- The device after one command on the reset state with its device changed. -/
def after (c : Instr) (f : Device → Device) : Device :=
  match exec c (onReset f) with
  | .next s => s.dev
  | _ => Device.reset

/-- 02, after R45: the default cycle entry 1 of ADC3 is 0x800D_0001. -/
theorem test_cycle_entry_default : Par.measAdcCycEntry [] 3 1 = 0x800D0001 := by decide +kernel
/-- 02, after R62: response code 5 has 32 taps and decimates by 4. -/
theorem test_response_code_5 : (respTaps 5, respDecim 5) = (32, 4) := by decide
/-- 04, after R124: the offset and the velocity at 0.5 s of the worked move. -/
theorem test_cubic_example : cubicAt 0 0 (1 / 4) 0 (3 / 2) (1 / 2) = (7 / 108, 2 / 9) := by decide +kernel
/-- 07, after R204: bytes 0 to 9 of the slot of the worked example. -/
theorem test_edge_words_example :
    leBytes 10 (edgeBytes [{ off := 525, state := 1 }]) = [0x0D, 0x02, 0x02, 0x00, 0xE0, 0x00, 0x00, 0x0E, 0x00, 0xE0] := by decide +kernel
/-- 07, after R204: the prefix of that slot's CRC. -/
theorem test_crc_prefix_example : recPrefix 16960 1 ++ leBytes 1 7 = [0x40, 0x42, 0x01, 0x07] := by decide
/-- 15, after R403: 3,904 bytes a frame, 268 frames a segment and 548,328 frames for rec.groups = 0x047 at 20 µs. -/
theorem test_frame_size_example : (frameSize 0x047 200, framesPerSegment 3904, recLimit 3904) = (3904, 268, 548328) := by decide +kernel
/-- R292 and R286: the check value of "123456789" under CRC-32C, as published for that polynomial. -/
theorem test_crc32c_check : crc32c [0x31, 0x32, 0x33, 0x34, 0x35, 0x36, 0x37, 0x38, 0x39] = 0xE3069283 := by decide +kernel
/-- R208: the check value of "123456789" under the frame's CRC-32, as published for that polynomial. -/
theorem test_crc32_check : crc32 [0x31, 0x32, 0x33, 0x34, 0x35, 0x36, 0x37, 0x38, 0x39] = 0xCBF43926 := by decide +kernel
/-- R201: the check value of "123456789" under the record's CRC-16, as published for that polynomial and initial value. -/
theorem test_crc16_check : crc16 [0x31, 0x32, 0x33, 0x34, 0x35, 0x36, 0x37, 0x38, 0x39] = 0x29B1 := by decide +kernel
/-- R427: SHAKE256 of the empty string, its first four bytes as published. -/
theorem test_shake256_empty : (shake256 [] 4) = [0x46, 0xB9, 0xDD, 0x2B] := by decide +kernel
/-- 02, after R69: 100 edges over 1,584,000 ticks are 50 kHz, neither low nor high nor lost. -/
theorem test_setp_frequency_example :
    let d := Device.setpFrequency { Device.reset with cycle := { Device.reset.cycle with eK := 1600000 }, meas := { Device.reset.meas with setp := { Device.reset.meas.setp with edges := (List.range 100).map fun i => 1599900 - 16000 * i } } }
    (d.meas.setp.pulseLost, d.meas.setp.pulseLow, d.meas.setp.pulseHigh) = (false, false, false) := by decide +kernel

/-- 02, R59: the middle of three samples at rank 0 of a window of 3. -/
theorem test_rank_median : rankOf 0 [5, 3, 9] = 5 := by decide +kernel

/-- 18, after R481: the balls of LK07_QRX_N, AIN37, AIN45 and PE_RX2_N, and the groups of V14 and V15. -/
theorem test_ball_names : [Signal.ring 7 true true true, .ain 37, .ain 45, .pcie 2 true true].map (fun s => ballName s.ball) = ["C34", "BP26", "BM26", "N3"] := by decide +kernel
theorem test_core_balls : (rowName 17, supplyGroup 17 14, supplyGroup 17 15) = ("V", .gnd, .rail 0) := by decide +kernel
/-- R479: no two signals share a ball. -/
theorem test_balls_distinct : (signals.map Signal.ball).Nodup := by decide +kernel
/-- 18, Table 18-3: 269 signal balls. -/
theorem test_signal_balls : signals.length = 269 := by decide +kernel

/-! ## Single steps -/

/-- The statuses and DETAILs that one command on the served reset state completes with. -/
def completions (c : Instr) (f : Device → Device) : List (Nat × Nat) :=
  match exec c (served f) with
  | .next s => s.dev.host.outbox.filterMap fun w => w.cpl.map fun x => (x.status, x.detail.toNat)
  | _ => []

/-- R327: a command ends with OK, and with MALFORMED and its offset when a byte it does not use is not zero. -/
theorem test_nop_ok : completions (.cmdNop 1 hdr0 0) id = [(0x00, 0)] := by decide +kernel
theorem test_nop_stray : completions (.cmdNop 1 hdr0 (2 ^ 400)) id = [(0x02, 58)] := by decide +kernel
/-- R230 and R237: a forced trip blocks the arms. -/
theorem test_trip_force_blocks : (after (.cmdTripForce 1 { hdr0 with opcode := 0x72 } 0) id).prot.blocked = true := by decide +kernel
/-- R43: a misaligned access is counted. -/
theorem test_misaligned_counts : (after (.misalignedAccess 1 true) id).host.errCnt = 1 := by decide +kernel
/-- 01, after R38: with two overruns in a row the third reaches 3 and the error is reported; the second does not. -/
theorem test_third_overrun : ((after (.referenceOverrun 4000 1) fun d => { d with cycle := { d.cycle with overrun := [.reset, { run := 2, inCycle := false }, .reset] } }).cycle.overrun.map OverrunArm.run) = [0, 3, 0] := by decide +kernel

/-! ## The hypotheses of the statements are met -/

/-- The hypotheses of `Obligations.AnEmptyQueueLetsOneTickPass`, clause by clause, are met. -/
theorem test_met_AnEmptyQueueLetsOneTickPass :
    ∃ s : State, s.pending = [] ∧ s.Quiet :=
  ⟨State.reset, rfl, rfl, rfl⟩

/-- The hypotheses of `Obligations.FrameOfEveryCommand`, clause by clause, are met. -/
theorem test_met_FrameOfEveryCommand :
    ∃ (c : Instr) (s s' : State), s.Quiet ∧ exec c s = .next s' :=
  ⟨.fenceWrite 0, State.reset, _, ⟨rfl, rfl⟩, rfl⟩

/-- The hypotheses of `Obligations.EveryStepKeepsSoffitCanonical`, clause by clause, are met. -/
theorem test_met_EveryStepKeepsSoffitCanonical :
    ∃ s s' : State, Memory.wf s.dev.recd.mem = true ∧ step s = .next s' :=
  ⟨State.reset, _, rfl, rfl⟩

/-- The hypotheses of `Obligations.OnlyAResumeEdgeOrAResetUnblocksTheArms`, clause by clause, are met. -/
theorem test_met_OnlyAResumeEdgeOrAResetUnblocksTheArms :
    ∃ (c : Instr) (s s' : State), s.dev.prot.blocked = true ∧ exec c s = .next s' ∧ (∀ t p i e b, c ≠ .deviceReset t p i e b) ∧ (∀ t r, c ≠ .railSupervisorUndervoltage t r) ∧
      (∀ t b i e x, c ≠ .railSupervisorRelease t b i e x) ∧ (∀ t, c ≠ .bootWatchdogExpiry t) ∧ (∀ t n, c ≠ .recoveryImageLengthWrite t n) ∧ (∀ t b, c ≠ .managementUartRecovery t b) :=
  ⟨.fenceWrite 0, onReset fun d => { d with prot := { d.prot with blocked := true } }, _, rfl, rfl, by simp⟩

/-- The hypotheses of `Obligations.BootSourceIsSampledAtDeviceReset`, clause by clause, are met. -/
theorem test_met_BootSourceIsSampledAtDeviceReset :
    (∃ s s' : State, exec (.fenceWrite 0) s = .next s') ∧ (∃ (s : State) (len : BitVec 32), s.dev.conv.recovery = some 0 ∧ len ≠ 0 ∧ len.toNat ≤ 12 * 2 ^ 20) ∧ ∃ s : State, s.dev.conv.recovery = some 1 :=
  ⟨⟨State.reset, _, rfl⟩, ⟨onReset fun d => { d with conv := { d.conv with recovery := some 0 } }, 5000, by decide +kernel⟩,
    ⟨onReset fun d => { d with conv := { d.conv with recovery := some 1 } }, rfl⟩⟩

/-- The hypotheses of `Obligations.BreakerPositionFollowsItsContacts`, clause by clause, are met. -/
theorem test_met_BreakerPositionFollowsItsContacts :
    (∃ (s : State) (t : Tick) (b c : Fin 2), ((s.dev.brkAt b).contact c).deb ≠ some ((s.dev.brkAt b).contact c).filt ∧
      (s.dev.ready t).past (((s.dev.brkAt b).contact c).filtFrom.getD 0) (msT (Par.brkDebounce s.dev.P b)) = true ∧ b.val < s.dev.grid.brk.length ∧
      ((s.dev.brkAt b).contact (1 - c.val)).deb = some ((s.dev.brkAt b).contact c).filt ∧ (s.dev.brkAt b).travelFrom = none) ∧
    (∃ (s : State) (t : Tick) (b : Fin 2) (f : Tick), (s.dev.brkAt b).travelFrom = some f ∧ b.val < s.dev.grid.brk.length ∧ (s.dev.ready t).pastBeyond f (msT (Par.brkDiscTime s.dev.P b)) = true) ∧
    (∃ (s : State) (t : Tick) (b c : Fin 2) (level : Bool × Nat), ((s.dev.brkAt b).contact c).filt ≠ level.1 ∧ Par.protBrkFilt s.dev.P ≤ level.2 ∧ b.val < s.dev.grid.brk.length ∧
      chatters (noteTransition ((s.dev.brkAt b).contact c).trans (max t s.dev.now) (Par.brkChatterN s.dev.P b)) (Par.brkChatterN s.dev.P b) (msT (Par.brkChatterWin s.dev.P b)) = true) :=
  ⟨⟨onReset fun d => { d with now := 800000000000, grid := { d.grid with brk := d.grid.brk.map fun x => { x with a := { x.a with filt := true, filtFrom := some 0, deb := none }, b := { x.b with deb := some true } } } }, 0, 0, 0, by decide +kernel⟩,
    ⟨onReset fun d => { d with now := 800000000000, grid := { d.grid with brk := d.grid.brk.map fun x => { x with travelFrom := some 0 } } }, 0, 0, 0, by decide +kernel⟩,
    ⟨onReset fun d => { d with grid := { d.grid with brk := d.grid.brk.map fun x => { x with a := { x.a with trans := List.replicate 20 0 } } } }, 0, 0, 0, (true, 100000), by decide +kernel⟩⟩

/-- The hypotheses of `Obligations.TripCommandsAreAcceptedInEveryState`, clause by clause, are met. -/
theorem test_met_TripCommandsAreAcceptedInEveryState :
    ∃ (s : State) (h : CmdHdr) (a : Args), s.dev.Accepts h ∧ fits a [(8, 6)] [] ∧ fits a [(8, 2)] [] ∧ fits a [] [] ∧ fits a [(8, 2)] [(8, decide (384 ≤ arg a 8 2) && arg a 8 2 != 0xFFFF)] :=
  ⟨served fun d => d, hdr0, 0, by decide +kernel⟩

/-- The hypotheses of `Obligations.SafetyCommandsAreAcceptedInEveryState`, clause by clause, are met. -/
theorem test_met_SafetyCommandsAreAcceptedInEveryState :
    ∃ (s : State) (h : CmdHdr) (a b : Args), s.dev.Accepts h ∧ fits a [] [] ∧ fits a [(8, 1), (9, 1)] [(8, decide (2 ≤ arg a 8 1)), (9, decide (2 ^ (if arg a 8 1 = 1 then 6 else 4) ≤ arg a 9 1))] ∧
      fits b [(8, 1), (9, 1)] [(8, decide (2 ≤ arg b 8 1)), (9, decide (2 ^ (if arg b 8 1 = 1 then 6 else 4) ≤ arg b 9 1))] ∧ arg b 8 1 = 1 ∧ s.dev.conv.state ≠ stMaint :=
  ⟨served fun d => d, hdr0, 0, 1, by decide +kernel⟩

/-- The hypotheses of `Obligations.RecorderCommandsAreAcceptedInEveryState`, clause by clause, are met. -/
theorem test_met_RecorderCommandsAreAcceptedInEveryState :
    ∃ (s : State) (h : CmdHdr) (a : Args), s.dev.Accepts h ∧ fits a [] [] ∧ fits a [(8, 1)] [(8, decide (1 < arg a 8 1))] ∧ fits a [(8, 1)] [(8, decide (3 < arg a 8 1))] :=
  ⟨served fun d => d, hdr0, 0, by decide +kernel⟩

/-- The hypotheses of `Obligations.StandbyRejectsCommandsThatActOnTheConverter`, clause by clause, are met. -/
theorem test_met_StandbyRejectsCommandsThatActOnTheConverter :
    ∃ (s : State) (h : CmdHdr) (a : Args), s.dev.Accepts h ∧ s.dev.standby = true ∧ s.Quiet ∧ fits a [] [] :=
  ⟨served (paired false), hdr0, 0, by decide +kernel⟩

/-- The hypotheses of `Obligations.AStrayByteMakesACommandMalformed`, clause by clause, are met. -/
theorem test_met_AStrayByteMakesACommandMalformed :
    ∃ (d e : Device) (h g : CmdHdr) (a : Args) (k : Nat), d.Accepts h ∧ minOpt (firstStray a []) none = some k ∧ e.fenced g = true :=
  ⟨(served fun d => d).dev, (served fun d => { d with host := { d.host with outstanding := [hdr0] } }).dev, hdr0, { hdr0 with tag := 1, fence := true }, 1, 8, by decide +kernel⟩

/-- The hypotheses of `Obligations.EqualReadsMakeEqualMemories`, clause by clause, are met. -/
theorem test_met_EqualReadsMakeEqualMemories :
    ∃ m n : List Host.Cell, Memory.wf m = true ∧ Memory.wf n = true ∧ (∀ a, memGet m a = memGet n a) :=
  ⟨memPut [] 5 7, memPut [] 5 7, by decide, by decide, fun _ => rfl⟩

/-- The hypotheses of `Obligations.SoffitWritesReadBack`, clause by clause, are met. -/
theorem test_met_SoffitWritesReadBack :
    ∃ (m : List Host.Cell) (l : List (BitVec 8)), Memory.wf m = true ∧ l.length ≤ 2 ^ 31 ∧ l ≠ [] :=
  ⟨[], [7], by decide, by decide, by decide⟩

/-- The hypotheses of `Obligations.RecoveryWindowWriteStoresItsFourBytes`, clause by clause, are met. -/
theorem test_met_RecoveryWindowWriteStoresItsFourBytes :
    ∃ (s : State) (off : BitVec 26), s.Quiet ∧ Memory.wf s.dev.recd.mem = true ∧ s.dev.conv.recovery = some 0 ∧ 0x500000 ≤ off.toNat ∧ off.toNat < 0x14FFFFC :=
  ⟨onReset fun d => { d with conv := { d.conv with recovery := some 0 } }, 0x500000, ⟨rfl, rfl⟩, by decide, by decide, by decide, by decide⟩

/-- The hypotheses of `Obligations.RecorderFrameWriteStoresItsSlotAlone`, clause by clause, are met. -/
theorem test_met_RecorderFrameWriteStoresItsSlotAlone :
    ∃ (s : State) (t : Tick) (f : RecFrame) (rest : List RecFrame), s.Quiet ∧ Memory.wf s.dev.recd.mem = true ∧ s.dev.capturing = true ∧ s.dev.recd.frames = f :: rest ∧
      f.k + 2 ≤ s.dev.cycle.k ∧ s.dev.recd.cur = none ∧ s.dev.recd.past = [] ∧ ((s.dev.ready t).frameBytes f false).length ≤ 2 ^ 31 :=
  ⟨onReset fun d => { d with cycle := { d.cycle with k := 5 }, recd := { d.recd with state := 1, frames := [RecFrame.reset] } }, 0, RecFrame.reset, [], by decide +kernel⟩

/-- The hypotheses of `Obligations.SecurityStateIsNeverGivenBack`, clause by clause, are met. -/
theorem test_met_SecurityStateIsNeverGivenBack :
    ∃ (c : Instr) (s s' : State), exec c s = .next s' ∧ s.dev.sec.rbc ≤ 65535 :=
  ⟨.fenceWrite 0, State.reset, _, rfl, by decide⟩

/-- The hypotheses of `Obligations.ResetsAndBootCompleteWithTheirEffect`, clause by clause, are met. -/
theorem test_met_ResetsAndBootCompleteWithTheirEffect :
    (∃ (s : State) (t : Tick), (s.dev.conv.booted = true) ∧ (s.dev.conv.up = false) ∧ (s.dev.conv.devReset = false) ∧ ((s.dev.ready t).past s.dev.conv.bootAt (sT 2) = true)) ∧
    (∃ (s : State) (t : Tick) (len : BitVec 32), (s.dev.conv.recovery = some 0) ∧ (len ≠ 0) ∧ (len.toNat ≤ 12 * 2 ^ 20)) ∧
    (∃ (s : State) (t : Tick) (image : List (BitVec 8)), (s.dev.conv.recovery = some 1)) ∧
    (∃ (s : State) (t : Tick) (rail : Fin 8), (s.dev.meas.groups.length = 4)) ∧
    (∃ (s : State) (t : Tick) (bsl twinId twinEn : Bool) (bootSel : BitVec 2), ((if bsl = true then s.dev.conv.bslReset = true else s.dev.conv.devReset = true))) ∧
    (∃ (s : State) (t : Tick) (fail test : BitVec 8), (s.dev.conv.booted = true) ∧ (s.dev.conv.up = false) ∧ (s.dev.conv.devReset = false) ∧ ((s.dev.conv.upStep = 0 → s.dev.clk.plls.all Pll.locked = true))) :=
  ⟨(⟨(onReset fun d => { d with now := 1600000000, conv := { d.conv with booted := true } }), default, by decide +kernel⟩),
    (⟨(onReset (fun d => { d with conv := { d.conv with recovery := some 0 } })), 0, 1, by decide +kernel⟩),
    (⟨(onReset (fun d => { d with conv := { d.conv with recovery := some 1 } })), 0, [], by decide +kernel⟩),
    (⟨State.reset, 0, 0, by decide +kernel⟩),
    (⟨(onReset (fun d => { d with conv := { d.conv with devReset := true } })), 0, false, false, false, 0, by decide +kernel⟩),
    (⟨(onReset (fun d => { d with conv := { d.conv with booted := true, upStep := 6 } })), 0, 0, 0, by decide +kernel⟩)⟩

/-- The hypotheses of `Obligations.ReferenceLockAndHoldoverCommandsComplete`, clause by clause, are met. -/
theorem test_met_ReferenceLockAndHoldoverCommandsComplete :
    (∃ (s : State) (t : Tick) (mhz : Rat), (s.dev.clk.detected = false) ∧ (s.dev.conv.devReset = false)) ∧
    (∃ (s : State) (t : Tick) (pll : Fin 4), (s.dev.clk.path.isSome = true) ∧ ((s.dev.pll pll).locked = false) ∧ ((s.dev.pll pll).relock = none) ∧ (pll.val < s.dev.clk.plls.length)) ∧
    (∃ (s : State) (t : Tick) (pll : Fin 4), ((s.dev.pll pll).locked = true) ∧ (pll.val < s.dev.clk.plls.length) ∧ s.dev.eh.Idle) ∧
    (∃ (s : State) (t : Tick), (s.dev.clk.refLost = false) ∧ (s.dev.clk.path.isSome = true) ∧ ((s.dev.ready t).backlogFull = false)) ∧
    (∃ (s : State) (t : Tick), (s.dev.clk.refLost = true) ∧ (s.dev.clk.holdReported = false) ∧ ((s.dev.ready t).pastBeyond s.dev.clk.holdFrom (sT (Par.clkHoldoverMax s.dev.P)) = false) ∧ ((s.dev.ready t).backlogFull = false)) ∧
    (∃ (s : State) (t : Tick), (s.dev.clk.refLost = true) ∧ (s.dev.clk.holdReported = false) ∧ ((s.dev.ready t).past s.dev.clk.holdFrom (sT (Par.clkHoldoverMax s.dev.P)) = true) ∧ s.dev.eh.Idle) ∧
    (∃ (s : State) (t : Tick), ((s.dev.pll 0).relock.isSome = true) ∧ (0 < s.dev.clk.plls.length)) ∧
    (∃ (s : State) (t : Tick) (o : Fin 2) (n : Bool × Nat × Nat), (o.val < s.dev.clk.outs.length) ∧ ((s.dev.clk.outs.getD o ClkOut.reset).change = some n) ∧ ((s.dev.clk.outs.getD o ClkOut.reset).oldEdge n / 6 ≤ s.dev.now)) ∧
    (∃ (s : State) (t : Tick), (s.dev.clk.srcCommit ≠ 0) ∧ (s.dev.clk.src ≠ s.dev.clk.srcCommit) ∧ (s.dev.clk.src ≠ 3) ∧ ((s.dev.ready t).pastOpt s.dev.clk.returnFrom (sT 60) = true) ∧ ((s.dev.ready t).backlogFull = false)) :=
  ⟨(⟨State.reset, 0, 25, by decide +kernel⟩),
    (⟨(onReset (fun d => { d with clk := { d.clk with path := some 0 } })), 0, 1, by decide +kernel⟩),
    (⟨(onReset (fun d => { d with clk := { d.clk with plls := d.clk.plls.map fun p => { p with locked := true } } })), 0, 1, by decide +kernel⟩),
    (⟨(onReset (fun d => { d with clk := { d.clk with path := some 0 } })), 0, by decide +kernel⟩),
    (⟨(onReset (fun d => { d with clk := { d.clk with refLost := true } })), 0, by decide +kernel⟩),
    (⟨(onReset (fun d => { d with now := 80000000000000, clk := { d.clk with refLost := true } })), 0, by decide +kernel⟩),
    (⟨(onReset (fun d => { d with clk := { d.clk with plls := d.clk.plls.map fun p => { p with relock := some 0 } } })), 0, by decide +kernel⟩),
    (⟨(onReset (fun d => { d with clk := { d.clk with outs := d.clk.outs.map fun o => { o with change := some (true, 4, 0) } } })), 0, 0, ((true, 4, 0)), by decide +kernel⟩),
    (⟨(onReset (fun d => { d with now := 48000000000, clk := { d.clk with srcCommit := 1, src := 2, returnFrom := some 0 } })), 0, by decide +kernel⟩)⟩

/-- The hypotheses of `Obligations.ChannelsAndFetchingCommandsComplete`, clause by clause, are met. -/
theorem test_met_ChannelsAndFetchingCommandsComplete :
    (∃ (s : State) (t : Tick) (v : BitVec 32), (s.dev.host.chans.length = 8)) ∧
    (∃ (s : State) (t : Tick) (ch : Fin 8) (v : BitVec 32), (ch.val < s.dev.host.chans.length) ∧ (v.toNat < 32)) ∧
    (∃ (s : State) (t : Tick) (entry : Option (BitVec 512)) (c : Nat), (s.dev.nextFetch = some c) ∧ (s.dev.host.fwRunning = true) ∧ (c < s.dev.host.chans.length)) ∧
    (∃ (s : State) (t : Tick) (v : Fin 32), (v.val < s.dev.host.msix.length)) ∧
    (∃ (s : State) (t : Tick), (Par.hostWdTime s.dev.P ≠ 0) ∧ (s.dev.host.hostLost = false) ∧ (s.dev.conv.up = true) ∧ ((s.dev.ready t).past s.dev.host.wdAt (msT (Par.hostWdTime s.dev.P)) = true) ∧ ((s.dev.ready t).backlogFull = false)) :=
  ⟨(⟨State.reset, 0, 0, by decide +kernel⟩),
    (⟨State.reset, 0, 0, 0, by decide +kernel⟩),
    (⟨(served (fun d => { d with host := { d.host with chans := d.host.chans.map fun c => { c with producer := 1 } } })), 0, (some 1), 0, by decide +kernel⟩),
    (⟨State.reset, 0, 0, by decide +kernel⟩),
    (⟨(onReset fun d => { d with now := 800000000000000, conv := { d.conv with up := true }, par := { d.par with force := [(0x0C000001, 1000)] } }), default, by decide +kernel⟩)⟩

/-- The hypotheses of `Obligations.EventQueueCommandsComplete`, clause by clause, are met. -/
theorem test_met_EventQueueCommandsComplete :
    (∃ (s : State) (t : Tick) (ok : Bool) (e : Event), (s.dev.evqSpace ≠ 0) ∧ ((s.dev.ready t).host.backlog = [{ ev := some e }]) ∧ s.dev.eh.Idle) ∧
    (∃ (s : State) (t : Tick), (s.dev.host.evqIrq.toNat / 65536 ≠ 0) ∧ ((s.dev.ready t).pastOpt s.dev.host.visFrom (usT ((s.dev.host.evqIrq.toNat / 65536 : Nat) : Rat)) = true)) :=
  ⟨(⟨(onReset (fun d => { d with host := { d.host with evqOn := true, evqSize := 4, backlog := [{ ev := some Event.reset }] } })), 0, true, Event.reset, by decide +kernel⟩),
    (⟨(onReset fun d => { d with now := 80000000, host := { d.host with evqIrq := 65536, visFrom := some 0 } }), default, by decide +kernel⟩)⟩

/-- The hypotheses of `Obligations.ParameterCommandsStageCommitAndPersist`, clause by clause, are met. -/
theorem test_met_ParameterCommandsStageCommitAndPersist :
    (∃ (s : State) (t : Tick) (h : CmdHdr) (a : Args), (s.dev.Accepts h) ∧ (fits a [(8, 1), (16, 8 * arg a 8 1)] [(8, arg a 8 1 == 0 || decide (6 < arg a 8 1))])) ∧
    (∃ (s : State) (t : Tick) (h : CmdHdr) (a : Args) (mem : Option (List (BitVec 8))), (s.dev.Accepts h) ∧ (fits a [(8, 8), (16, 4)] [(16, arg a 16 4 == 0 || decide (7488 < arg a 16 4))]) ∧ (s.dev.par.checking = none)) ∧
    (∃ (s : State) (t : Tick) (h : CmdHdr) (a : Args), (s.dev.Accepts h) ∧ (fits a [(8, 1)] []) ∧ (s.dev.par.checking = none)) ∧
    (∃ (s : State) (t : Tick) (h : CmdHdr) (a : Args), (s.dev.Accepts h) ∧ (fits a [] []) ∧ (s.dev.par.checking = none)) ∧
    (∃ (s : State) (t : Tick) (h : CmdHdr) (a : Args), (s.dev.Accepts h) ∧ (fits a [] [])) ∧
    (∃ (s : State) (t : Tick) (h : CmdHdr) (x : Tick), (s.dev.par.checking = some (h, x)) ∧ (s.dev.Answers h)) ∧
    (∃ (s : State) (t : Tick) (h : CmdHdr) (x : Tick) (ids : List Nat), (s.dev.par.applying = [(h, x, ids)]) ∧ ((x : Rat) + usT 50 ≤ (s.dev.eNext : Rat)) ∧ (s.dev.eNext ≤ s.dev.now) ∧ (s.dev.Answers h)) ∧
    (∃ (s : State) (t : Tick) (h : CmdHdr) (a : Args), (s.dev.Accepts h) ∧ (fits a [(8, 4), (12, 1)] [(12, decide (2 ≤ arg a 12 1))])) ∧
    (∃ (s : State) (t : Tick) (h : CmdHdr) (a : Args), (s.dev.Accepts h) ∧ (fits a [] [])) ∧
    (∃ (s : State) (t : Tick) (ok : Bool) (h : CmdHdr), (s.dev.par.persisting = some h) ∧ (s.dev.Answers h) ∧ (s.dev.parCopies.length = 2)) :=
  ⟨(⟨(served (fun d => d)), 0, hdr0, (1 + BitVec.ofNat 448 (allIds.headD 0) * 2 ^ 64), by decide +kernel⟩),
    (⟨(served (fun d => d)), 0, hdr0, (2 ^ 64), (some (leBytes 8 (allIds.headD 0))), by decide +kernel⟩),
    (⟨(served fun d => d), 0, hdr0, 0, by decide +kernel⟩),
    (⟨(served fun d => d), 0, hdr0, 0, by decide +kernel⟩),
    (⟨(served fun d => d), 0, hdr0, 0, by decide +kernel⟩),
    (⟨(served (fun d => { d with par := { d.par with checking := some (hdr0, 0) } })), 0, hdr0, 0, by decide +kernel⟩),
    (⟨(served (fun d => { d with now := 8000000, cycle := { d.cycle with eK := 1000000 }, par := { d.par with applying := [(hdr0, 0, [])] } })), 0, hdr0, 0, [], by decide +kernel⟩),
    (⟨(served fun d => d), 0, hdr0, 0, by decide +kernel⟩),
    (⟨(served fun d => d), 0, hdr0, 0, by decide +kernel⟩),
    (⟨(served (fun d => { d with par := { d.par with persisting := some hdr0 } })), 0, true, hdr0, by decide +kernel⟩)⟩

/-- The hypotheses of `Obligations.NopStateAndTrajectoryCommandsComplete`, clause by clause, are met. -/
theorem test_met_NopStateAndTrajectoryCommandsComplete :
    (∃ (s : State) (t : Tick) (h : CmdHdr) (a : Args), (s.dev.Accepts h) ∧ (fits a [(8, 8)] [])) ∧
    (∃ (s : State) (t : Tick) (h : CmdHdr) (a : Args), (s.dev.Accepts h) ∧ (fits a [(8, 1)] [])) ∧
    (∃ (s : State) (t : Tick) (h : CmdHdr) (a : Args) (mem : Option (List (BitVec 8))), (s.dev.Accepts h) ∧ (fits a [(8, 1), (9, 1), (10, 1), (12, 2), (16, 8), (24, 8)] [(8, decide (2 ≤ arg a 8 1)), (9, decide (2 ≤ arg a 9 1)), (10, decide (2 ≤ arg a 10 1)), (12, arg a 12 2 == 0 || decide (256 < arg a 12 2))])) ∧
    (∃ (s : State) (t : Tick) (h : CmdHdr) (a : Args), (s.dev.Accepts h) ∧ (fits a [] [])) ∧
    (∃ (s : State) (t : Tick) (h : CmdHdr) (a : Args) (mem : Option (List (BitVec 8))), (s.dev.Accepts h) ∧ (fits a [(8, 8)] [])) :=
  ⟨(⟨(served fun d => d), 0, hdr0, 0, by decide +kernel⟩),
    (⟨(served fun d => d), 0, hdr0, 0, by decide +kernel⟩),
    (⟨(served (fun d => { d with conv := { d.conv with state := stMaint } })), 0, hdr0, (2 ^ 32), (some (leBytes 16 (1 + 2 ^ 96))), by decide +kernel⟩),
    (⟨(served fun d => d), 0, hdr0, 0, by decide +kernel⟩),
    (⟨(served (fun d => { d with conv := { d.conv with state := stMaint } })), 0, hdr0, 0, default, by decide +kernel⟩)⟩

/-- The hypotheses of `Obligations.SequenceBreakerAndFeedbackCommandsComplete`, clause by clause, are met. -/
theorem test_met_SequenceBreakerAndFeedbackCommandsComplete :
    (∃ (s : State) (t : Tick) (h : CmdHdr) (a : Args), (s.dev.Accepts h) ∧ (fits a [] [])) ∧
    (∃ (s : State) (t : Tick) (h : CmdHdr) (a : Args), (s.dev.Accepts h) ∧ (fits a [] [])) ∧
    (∃ (s : State) (t : Tick) (h : CmdHdr) (a : Args), (s.dev.Accepts h) ∧ (fits a [] [])) ∧
    (∃ (s : State) (t : Tick) (h : CmdHdr) (a : Args), (s.dev.Accepts h) ∧ (fits a [(8, 1)] [(8, decide (2 ≤ arg a 8 1))]) ∧ (s.dev.grid.brk.length = 2)) ∧
    (∃ (s : State) (t : Tick) (h : CmdHdr) (a : Args), (s.dev.Accepts h) ∧ (fits a [(8, 1)] [(8, decide (2 ≤ arg a 8 1))]) ∧ (s.dev.grid.brk.length = 2)) ∧
    (∃ (s : State) (t : Tick) (h : CmdHdr) (a : Args), (s.dev.Accepts h) ∧ (fits a [(8, 2)] [(8, decide (4096 ≤ arg a 8 2))])) :=
  ⟨(⟨(served (fun d => { d with conv := { d.conv with state := stCharged }, par := { d.par with force := [(0x05002001, 1)] }, grid := { d.grid with brk := d.grid.brk.map fun x => { x with a := { x.a with deb := some false }, b := { x.b with deb := some true } } } })), 0, hdr0, 0, by decide +kernel⟩),
    (⟨(served fun d => d), 0, hdr0, 0, by decide +kernel⟩),
    (⟨(served (fun d => { d with grid := { d.grid with seq := { d.grid.seq with phase := 7 } } })), 0, hdr0, 0, by decide +kernel⟩),
    (⟨(served (fun d => { d with conv := { d.conv with state := stMaint } })), 0, hdr0, 0, by decide +kernel⟩),
    (⟨(served (fun d => { d with grid := { d.grid with brk := d.grid.brk.map fun x => { x with a := { x.a with deb := some false }, b := { x.b with deb := some true } } } })), 0, hdr0, 0, by decide +kernel⟩),
    (⟨(served fun d => d), 0, hdr0, 0, by decide +kernel⟩)⟩

/-- The hypotheses of `Obligations.CellPackAndMeterCommandsComplete`, clause by clause, are met. -/
theorem test_met_CellPackAndMeterCommandsComplete :
    (∃ (s : State) (t : Tick) (h : CmdHdr) (a : Args), (s.dev.Accepts h) ∧ (fits a [(8, 2)] [(8, decide (384 ≤ arg a 8 2))]) ∧ (arg a 8 2 < s.dev.modu.cells.length)) ∧
    (∃ (s : State) (t : Tick) (h : CmdHdr) (a : Args), (s.dev.Accepts h) ∧ (fits a [(8, 2)] [(8, decide (384 ≤ arg a 8 2))]) ∧ (arg a 8 2 < s.dev.modu.cells.length)) ∧
    (∃ (s : State) (t : Tick) (h : CmdHdr) (a : Args), (s.dev.Accepts h) ∧ (fits a [(8, 2)] [(8, decide (384 ≤ arg a 8 2))]) ∧ (arg a 8 2 < s.dev.packs.packs.length)) ∧
    (∃ (s : State) (t : Tick) (h : CmdHdr) (a : Args), (s.dev.Accepts h) ∧ (fits a [(8, 2)] [(8, decide (384 ≤ arg a 8 2))]) ∧ (arg a 8 2 < s.dev.packs.packs.length)) ∧
    (∃ (s : State) (t : Tick) (h : CmdHdr) (a : Args), (s.dev.Accepts h) ∧ (fits a [(8, 2), (12, 1), (16, 8)] [(8, decide (384 ≤ arg a 8 2) && !decide (arg a 8 2 = 0xFFFF)), (12, !decide (arg a 8 2 = 0xFFFF) && (decide (arg a 12 1 < 4) || decide (12 < arg a 12 1)))])) ∧
    (∃ (s : State) (t : Tick) (h : CmdHdr) (a : Args), (s.dev.Accepts h) ∧ (fits a [(8, 2), (12, 4), (16, 1), (24, 8)] [(8, decide (384 ≤ arg a 8 2)), (12, decide (2 ^ 30 ≤ arg a 12 4)), (16, decide (8 < arg a 16 1))]) ∧ (arg a 8 2 < s.dev.link.nodes.length)) :=
  ⟨(⟨(served fun d => d), 0, hdr0, 0, by decide +kernel⟩),
    (⟨(served (fun d => d)), 0, hdr0, 0, by decide +kernel⟩),
    (⟨(served fun d => d), 0, hdr0, 0, by decide +kernel⟩),
    (⟨(served (fun d => { d with conv := { d.conv with state := stMaint } })), 0, hdr0, 0, by decide +kernel⟩),
    (⟨(served (fun d => d)), 0, hdr0, 0xFFFF, by decide +kernel⟩),
    (⟨(served (fun d => d)), 0, hdr0, 0, by decide +kernel⟩)⟩

/-- The hypotheses of `Obligations.MeterNodeAndTripCommandsComplete`, clause by clause, are met. -/
theorem test_met_MeterNodeAndTripCommandsComplete :
    (∃ (s : State) (t : Tick) (h : CmdHdr) (a : Args), (s.dev.Accepts h) ∧ (fits a [(8, 8), (16, 4), (20, 2), (22, 2), (24, 16)] [(16, decide (arg a 16 4 < 64 + 80 * arg a 22 2 + 1284)), (20, decide (384 < arg a 20 2 + arg a 22 2)), (22, arg a 22 2 == 0 || decide (384 < arg a 22 2))])) ∧
    (∃ (s : State) (t : Tick) (h : CmdHdr) (a : Args), (s.dev.Accepts h) ∧ (fits a [] [])) ∧
    (∃ (s : State) (t : Tick) (h : CmdHdr) (a : Args), (s.dev.Accepts h) ∧ (fits a [(8, 1), (9, 1), (10, 2), (12, 1), (16, 8)] [(8, decide (12 ≤ arg a 8 1)), (9, decide (32 ≤ arg a 9 1)), (12, arg a 12 1 == 0 || decide (48 < arg a 12 1))])) ∧
    (∃ (s : State) (t : Tick) (h : CmdHdr) (a : Args), (s.dev.Accepts h) ∧ (fits a [(8, 1), (9, 1), (10, 2), (12, 1), (16, 48)] [(8, decide (12 ≤ arg a 8 1)), (9, decide (32 ≤ arg a 9 1) && arg a 9 1 != 0xFE), (12, arg a 12 1 == 0 || decide (48 < arg a 12 1))])) ∧
    (∃ (s : State) (t : Tick) (h : CmdHdr) (a : Args), (s.dev.Accepts h) ∧ (fits a [(8, 6)] []) ∧ (48 ≤ s.dev.prot.srcs.length)) ∧
    (∃ (s : State) (t : Tick) (h : CmdHdr) (a : Args), (s.dev.Accepts h) ∧ (fits a [(8, 2)] []) ∧ (16 ≤ s.dev.prot.tins.length)) :=
  ⟨(⟨(served (fun d => d)), 0, hdr0, (1428 * 2 ^ 64 + 2 ^ 112), by decide +kernel⟩),
    (⟨(served fun d => d), 0, hdr0, 0, by decide +kernel⟩),
    (⟨(served (fun d => d)), 0, hdr0, (2 ^ 32), by decide +kernel⟩),
    (⟨(served (fun d => d)), 0, hdr0, (2 ^ 32), by decide +kernel⟩),
    (⟨(served (fun d => d)), 0, hdr0, 1, by decide +kernel⟩),
    (⟨(served (fun d => d)), 0, hdr0, 1, by decide +kernel⟩)⟩

/-- The hypotheses of `Obligations.TripGateAndSafetyCommandsComplete`, clause by clause, are met. -/
theorem test_met_TripGateAndSafetyCommandsComplete :
    (∃ (s : State) (t : Tick) (h : CmdHdr) (a : Args), (s.dev.Accepts h) ∧ (fits a [] []) ∧ (46 < s.dev.prot.srcs.length)) ∧
    (∃ (s : State) (t : Tick) (h : CmdHdr) (a : Args), (s.dev.Accepts h) ∧ (fits a [(8, 2)] [(8, decide (384 ≤ arg a 8 2) && arg a 8 2 != 0xFFFF)])) ∧
    (∃ (s : State) (t : Tick) (h : CmdHdr) (a : Args), (s.dev.Accepts h) ∧ (fits a [] [])) ∧
    (∃ (s : State) (t : Tick) (h : CmdHdr) (a : Args), (s.dev.Accepts h) ∧ (fits a [(8, 1), (9, 1)] [(8, decide (2 ≤ arg a 8 1)), (9, decide (2 ^ (if arg a 8 1 = 1 then 6 else 4) ≤ arg a 9 1))]) ∧ (6 ≤ s.dev.safety.outs.length ∧ 4 ≤ s.dev.safety.ins.length)) :=
  ⟨(⟨(served (fun d => d)), 0, hdr0, 0, by decide +kernel⟩),
    (⟨(served fun d => d), 0, hdr0, 0, by decide +kernel⟩),
    (⟨(served (fun d => d)), 0, hdr0, 0, by decide +kernel⟩),
    (⟨(served (fun d => d)), 0, hdr0, 0x101, by decide +kernel⟩)⟩

/-- The hypotheses of `Obligations.TripInputsAndSquallCommandsComplete`, clause by clause, are met. -/
theorem test_met_TripInputsAndSquallCommandsComplete :
    (∃ (s : State) (t : Tick) (inp : Fin 16) (level : Bool) (held : Nat), (inp.val < s.dev.prot.tins.length) ∧ (48 ≤ s.dev.prot.srcs.length)) ∧
    (∃ (s : State) (t : Tick) (j : Fin 12), (j.val < s.dev.prot.blank.length) ∧ (48 ≤ s.dev.prot.srcs.length)) ∧
    (∃ (s : State) (t : Tick) (ring : Fin 12), (40 < s.dev.prot.srcs.length)) ∧
    (∃ (s : State) (t : Tick), ((s.dev.ready t).pastOpt s.dev.prot.rxPair (nsT 100) = true)) ∧
    (∃ (s : State) (t : Tick), (s.dev.prot.burst = true) ∧ ((s.dev.ready t).past s.dev.prot.lastTrigger (usT (Par.protSquallBurst s.dev.P)) = true)) ∧
    (∃ (s : State) (t : Tick), ((s.dev.ready t).pastOpt s.dev.prot.echoFrom (usT 8) = true)) ∧
    (∃ (s : State) (t : Tick), (s.dev.prot.record.open_ = true) ∧ ((s.dev.ready t).past s.dev.prot.record.ctb (usT (Par.protMultiWin s.dev.P)) = true) ∧ ((s.dev.ready t).roomFor 2)) :=
  ⟨(⟨State.reset, 0, 0, (!(State.reset.dev.tin 0).level), 1000, by decide +kernel⟩),
    (⟨(onReset (fun d => { d with now := 10, prot := { d.prot with blank := d.prot.blank.map fun b => { b with windows := [(0, 5)] } } })), 0, 0, by decide +kernel⟩),
    (⟨State.reset, 0, 0, by decide +kernel⟩),
    (⟨(onReset fun d => { d with now := 80, prot := { d.prot with rxPair := some 0 } }), default, by decide +kernel⟩),
    (⟨(onReset fun d => { d with now := 80000000, prot := { d.prot with burst := true } }), default, by decide +kernel⟩),
    (⟨(onReset fun d => { d with now := 80000000, prot := { d.prot with echoFrom := some 0 } }), default, by decide +kernel⟩),
    (⟨(onReset fun d => { d with now := 80000000, prot := { d.prot with record := { d.prot.record with open_ := true } } }), default, by decide +kernel⟩)⟩

/-- The hypotheses of `Obligations.ClearingResumeAndPersistCommandsComplete`, clause by clause, are met. -/
theorem test_met_ClearingResumeAndPersistCommandsComplete :
    (∃ (s : State) (t : Tick) (src : Fin 48), (src.val < s.dev.prot.srcs.length)) ∧
    (∃ (s : State) (t : Tick) (src : Fin 48), (src.val < s.dev.prot.srcs.length) ∧ ((s.dev.ready t).backlogFull = false)) ∧
    (∃ (s : State) (t : Tick), (43 < s.dev.prot.srcs.length)) ∧
    (∃ (s : State) (t : Tick), (44 < s.dev.prot.srcs.length)) ∧
    (∃ (s : State) (t : Tick), ((s.dev.ready t).past s.dev.prot.gateSaved (sT 60) = true)) ∧
    (∃ (s : State) (t : Tick) (e : Tick), (s.dev.prot.resumeEdge = some e) ∧ (e ≤ s.dev.now) ∧ (s.dev.prot.srcs.length = 48)) ∧
    (∃ (s : State) (t : Tick) (u : Tick), (s.dev.prot.recoverUntil = some u) ∧ (u ≤ s.dev.now)) :=
  ⟨(⟨(onReset (fun d => { d with now := 80000000000, prot := { d.prot with srcs := d.prot.srcs.map fun x => { x with latch := 1, quietFrom := some 0 } } })), 0, 16, by decide +kernel⟩),
    (⟨(onReset (fun d => { d with now := 80000000000, prot := { d.prot with srcs := d.prot.srcs.map fun x => { x with latch := 1, active := true } } })), 0, 0, by decide +kernel⟩),
    (⟨(onReset fun d => { d with now := 80000000000, prot := { d.prot with efFrom := some 0 } }), default, by decide +kernel⟩),
    (⟨(onReset fun d => { d with now := 80000000000, prot := { d.prot with spFrom := some 0 } }), default, by decide +kernel⟩),
    (⟨(onReset fun d => { d with now := 80000000000 }), default, by decide +kernel⟩),
    (⟨(onReset (fun d => { d with prot := { d.prot with resumeEdge := some 0, blocked := true } })), 0, 0, by decide +kernel⟩),
    (⟨(onReset (fun d => { d with prot := { d.prot with recoverUntil := some 0 } })), 0, 0, by decide +kernel⟩)⟩

/-- The hypotheses of `Obligations.ControlCycleCommandsComplete`, clause by clause, are met. -/
theorem test_met_ControlCycleCommandsComplete :
    (∃ (s : State) (t : Tick) (arm : Fin 3) (differs : Bool), (arm.val < s.dev.modu.arms.length)) ∧
    (∃ (s : State) (t : Tick) (arm : Fin 3), (arm.val < s.dev.modu.arms.length) ∧ (arm.val < s.dev.cycle.overrun.length)) ∧
    (∃ (s : State) (t : Tick) (arm : Fin 3), (arm.val < s.dev.modu.arms.length) ∧ (arm.val < s.dev.cycle.overrun.length)) ∧
    (∃ (s : State) (t : Tick) (arm : Fin 3), (arm.val < s.dev.modu.arms.length)) :=
  ⟨(⟨(onReset (fun d => { d with law := { d.law with evaluated := true } })), 0, 0, default, by decide +kernel⟩),
    (⟨(onReset (fun d => { d with now := 4000 })), 0, 0, by decide +kernel⟩),
    (⟨(onReset (fun d => { d with now := 800000 })), 0, 0, by decide +kernel⟩),
    (⟨(onReset (fun d => { d with modu := { d.modu with arms := d.modu.arms.map fun a => { a with redRun := 50 } } })), 0, 0, by decide +kernel⟩)⟩

/-- The hypotheses of `Obligations.CellAndRingCommandsComplete`, clause by clause, are met. -/
theorem test_met_CellAndRingCommandsComplete :
    (∃ (s : State) (t : Tick) (cell : Fin 384), (cell.val < s.dev.modu.cells.length)) ∧
    (∃ (s : State) (t : Tick) (cell : Fin 384), (cell.val < s.dev.modu.cells.length)) ∧
    (∃ (s : State) (t : Tick) (ring : Fin 12) (lane : Bool) (frame : List (BitVec 8)), (ring.val < s.dev.link.rings.length)) ∧
    (∃ (s : State) (t : Tick) (ring : Fin 12) (lane lock : Bool), (ring.val < s.dev.link.rings.length)) :=
  ⟨(⟨(onReset (fun d => { d with now := 800000000000, modu := { d.modu with cells := d.modu.cells.map fun m => { m with bypStep := 2 } } })), 0, 0, by decide +kernel⟩),
    (⟨(onReset (fun d => { d with modu := { d.modu with cells := d.modu.cells.map fun m => { m with restPack := some 1000000 } } })), 0, 0, by decide +kernel⟩),
    (⟨(onReset (fun d => { d with link := { d.link with tx := [TxFrame.reset] } })), 0, 0, false, goodFrame, by decide +kernel⟩),
    (⟨State.reset, 0, 0, false, true, by decide +kernel⟩)⟩

/-- The hypotheses of `Obligations.SamplingAndGustCommandsComplete`, clause by clause, are met. -/
theorem test_met_SamplingAndGustCommandsComplete :
    (∃ (s : State) (t : Tick) (n : Fin 16), (n.val < s.dev.meas.adcs.length)) ∧
    (∃ (s : State) (t : Tick) (pin : Fin 4) (rising : Bool) (heldNs : Rat), (pin.val < s.dev.meas.atrigLevel.length)) ∧
    (∃ (s : State) (t : Tick) (n : Fin 16) (codes : List (BitVec 16)) (flip : BitVec 32), (n.val < s.dev.meas.adcs.length)) ∧
    (∃ (s : State) (t : Tick) (n : Fin 16) (codes : List (List (BitVec 16))), (n.val < s.dev.meas.adcs.length)) ∧
    (∃ (s : State) (t : Tick) (j : Fin 12) (x : Rat), (j.val < s.dev.meas.cmps.length)) ∧
    (∃ (s : State) (t : Tick) (j : Fin 12), (j.val < s.dev.meas.cmps.length)) ∧
    (∃ (s : State) (t : Tick) (g : Fin 4) (reading : Rat), (g.val < s.dev.meas.groups.length)) ∧
    (∃ (s : State) (t : Tick) (g : Fin 4), (g.val < s.dev.meas.groups.length)) :=
  ⟨(⟨(onReset (withPar [(0x03040002, 1), (0x03040003, 6), (0x03040020, 0x80000000)])), 0, 0, by decide +kernel⟩),
    (⟨State.reset, 0, 0, true, 100000, by decide +kernel⟩),
    (⟨(onReset (fun d => withPar [(0x03040002, 1), (0x03040003, 6), (0x03040020, 0x80000000)] { d with now := 5000, cycle := { d.cycle with eK := 0 }, meas := { d.meas with adcs := d.meas.adcs.map fun a => { a with auxRunning := true } } })), 0, 0, [], 0, by decide +kernel⟩),
    (⟨(onReset (fun d => { d with now := 100000, meas := { d.meas with adcs := d.meas.adcs.map fun a => { a with gustRunning := true } } })), 0, 0, [], by decide +kernel⟩),
    (⟨State.reset, 0, 0, 5, by decide +kernel⟩),
    (⟨(onReset (fun d => { d with meas := { d.meas with cmps := d.meas.cmps.map fun c => { c with switchFrom := some 0 } } })), 0, 0, by decide +kernel⟩),
    (⟨State.reset, 0, 0, 0, by decide +kernel⟩),
    (⟨(onReset (fun d => { d with now := 8000000 })), 0, 0, by decide +kernel⟩)⟩

/-- The hypotheses of `Obligations.ControlLawCommandsComplete`, clause by clause, are met. -/
theorem test_met_ControlLawCommandsComplete :
    (∃ (s : State) (t : Tick), (42 < s.dev.prot.srcs.length)) ∧
    (∃ (s : State) (t : Tick), (42 < s.dev.prot.srcs.length)) ∧
    (∃ (s : State) (t : Tick), (s.dev.law.sensors.length = 12)) ∧
    (∃ (s : State) (t : Tick) (sensor : Fin 12), (sensor.val < s.dev.law.sensors.length)) ∧
    (∃ (s : State) (t : Tick), (42 < s.dev.prot.srcs.length)) :=
  ⟨(⟨(onReset fun d => { d with grid := { d.grid with ride := { d.grid.ride with slip := 1000000 } } }), default, by decide +kernel⟩),
    (⟨(onReset fun d => { d with now := 8000000000000, grid := { d.grid with ride := { d.grid.ride with active := true } } }), default, by decide +kernel⟩),
    (⟨State.reset, default, by decide +kernel⟩),
    (⟨(onReset (fun d => { d with law := { d.law with sensors := d.law.sensors.map fun _ => { faulty := true, rearmed := true, agree := 1000000 } } })), 0, 0, by decide +kernel⟩),
    (⟨(onReset fun d => { d with law := { d.law with running := true, slCnt := 1000000 } }), default, by decide +kernel⟩)⟩

/-- The hypotheses of `Obligations.BreakerCommandsComplete`, clause by clause, are met. -/
theorem test_met_BreakerCommandsComplete :
    (∃ (s : State) (t : Tick) (b : Fin 2) (c : Fin 2) (level : Bool × Nat), (b.val < s.dev.grid.brk.length)) ∧
    (∃ (s : State) (t : Tick) (b : Fin 2) (c : Fin 2), (b.val < s.dev.grid.brk.length)) ∧
    (∃ (s : State) (t : Tick) (b : Fin 2), (b.val < s.dev.grid.brk.length)) ∧
    (∃ (s : State) (t : Tick) (b : Fin 2), (b.val < s.dev.grid.brk.length)) ∧
    (∃ (s : State) (t : Tick) (b : Fin 2), (b.val < s.dev.grid.brk.length)) :=
  ⟨(⟨State.reset, 0, 0, 0, ((true, 100000)), by decide +kernel⟩),
    (⟨(onReset (fun d => { d with now := 8000000000000, grid := { d.grid with brk := d.grid.brk.map fun y => { y with a := { y.a with filtFrom := some 0, deb := none } } } })), 0, 0, 0, by decide +kernel⟩),
    (⟨(onReset (fun d => { d with now := 8000000000000, grid := { d.grid with brk := d.grid.brk.map fun y => { y with travelFrom := some 0 } } })), 0, 0, by decide +kernel⟩),
    (⟨(onReset (fun d => { d with now := 8000000000000, grid := { d.grid with brk := d.grid.brk.map fun y => { y with closeOut := true } } })), 0, 0, by decide +kernel⟩),
    (⟨(onReset (fun d => { d with now := 8000000000000, grid := { d.grid with brk := d.grid.brk.map fun y => { y with closePend := true } } })), 0, 0, by decide +kernel⟩)⟩

/-- The hypotheses of `Obligations.BlackStartSequenceCommandsComplete`, clause by clause, are met. -/
theorem test_met_BlackStartSequenceCommandsComplete :
    (∃ (s : State) (t : Tick), (s.dev.grid.brk ≠ [])) ∧
    (∃ (s : State) (t : Tick), (42 < s.dev.prot.srcs.length)) :=
  ⟨(⟨(onReset fun d => { d with now := 8000000000000, grid := { d.grid with seq := { d.grid.seq with phase := 2 } } }), default, by decide +kernel⟩),
    (⟨(onReset fun d => { d with now := 80000000000000, grid := { d.grid with seq := { d.grid.seq with phase := 5 } } }), default, by decide +kernel⟩)⟩

/-- The hypotheses of `Obligations.LandingSequenceCommandsComplete`, clause by clause, are met. -/
theorem test_met_LandingSequenceCommandsComplete :
    ∃ (s : State) (t : Tick), (s.dev.grid.brk ≠ []) :=
  ⟨(onReset fun d => { d with now := 80000000000000, grid := { d.grid with seq := { d.grid.seq with phase := 8, dwellFrom := some 0 } } }), default, by decide +kernel⟩

/-- The hypotheses of `Obligations.PackObserverAndMeterCommandsComplete`, clause by clause, are met. -/
theorem test_met_PackObserverAndMeterCommandsComplete :
    (∃ (s : State) (t : Tick) (cell : Fin 384) (q : Fin 2), (s.dev.packs.packs.length = 384) ∧ (s.dev.link.nodes.length = 384)) ∧
    (∃ (s : State) (t : Tick) (ok : Bool), (s.dev.meter.next < s.dev.meter.banks.length)) ∧
    (∃ (s : State) (t : Tick) (dmaOk : Bool) (x : Snapshot), (s.dev.meter.snap = some x)) :=
  ⟨(⟨(onReset (fun d => withPar [(0x07010021, 10 * 256 + 8)] { d with packs := { d.packs with packs := d.packs.packs.map fun x => { x with profile := some 0 } } })), 0, 0, 0, by decide +kernel⟩),
    (⟨(onReset (fun d => { d with meter := { d.meter with writing := some Bank.reset } })), 0, true, by decide +kernel⟩),
    (⟨(served (fun d => { d with meter := { d.meter with snap := some { Snapshot.reset with hdr := hdr0, frozen := true } } })), 0, true, ({ Snapshot.reset with hdr := hdr0, frozen := true }), by decide +kernel⟩)⟩

/-- The hypotheses of `Obligations.SafetyInputAndOutputCommandsComplete`, clause by clause, are met. -/
theorem test_met_SafetyInputAndOutputCommandsComplete :
    (∃ (s : State) (t : Tick) (n : Fin 4) (chB level : Bool) (heldNs : Rat), (s.dev.safety.ins.length = 4) ∧ (s.dev.safety.pinsA.length = 4) ∧ (s.dev.safety.pinsB.length = 4)) ∧
    (∃ (s : State) (t : Tick) (n : Fin 4), (s.dev.safety.ins.length = 4)) ∧
    (∃ (s : State) (t : Tick) (n : Fin 4) (chB cross : Bool), (s.dev.safety.ins.length = 4)) ∧
    (∃ (s : State) (t : Tick) (n : Fin 6), (s.dev.safety.outs.length = 6)) ∧
    (∃ (s : State) (t : Tick) (n : Fin 6) (pass : Bool), (s.dev.safety.outs.length = 6)) ∧
    (∃ (s : State) (t : Tick) (n : Fin 6) (on ls : Bool), (s.dev.safety.outs.length = 6)) ∧
    (∃ (s : State) (t : Tick) (n : Fin 6) (pass ls : Bool), (s.dev.safety.outs.length = 6)) :=
  ⟨(⟨State.reset, 0, 0, false, true, 0, by decide +kernel⟩),
    (⟨(onReset (fun d => bslUp { d with now := 80000000000, safety := { d.safety with ins := d.safety.ins.map fun x => { x with discFrom := some 0 } } })), 0, 0, by decide +kernel⟩),
    (⟨(onReset (fun d => bslUp { d with now := 80000000, safety := { d.safety with par := [(0x0A010001, 3)], tpb := some 0, ins := d.safety.ins.map fun x => { x with b := true } } })), 0, 0, true, false, by decide +kernel⟩),
    (⟨(onReset (fun d => bslUp { d with safety := { d.safety with outs := d.safety.outs.map fun x => { x with hs := true, ls := true } } })), 0, 0, by decide +kernel⟩),
    (⟨(onReset (fun d => bslUp { d with now := 800000000, safety := { d.safety with outs := d.safety.outs.map fun x => { x with testing := true } } })), 0, 0, false, by decide +kernel⟩),
    (⟨(onReset (fun d => bslUp { d with safety := { d.safety with par := [(0x0A020001, 1)] } })), 0, 0, true, false, by decide +kernel⟩),
    (⟨(onReset (fun d => bslUp { d with now := 80000000, safety := { d.safety with outs := d.safety.outs.map fun x => { x with checking := true, checkFrom := some 0 } } })), 0, 0, true, false, by decide +kernel⟩)⟩

/-- The hypotheses of `Obligations.SafeChannelCommandsComplete`, clause by clause, are met. -/
theorem test_met_SafeChannelCommandsComplete :
    ∃ (s : State) (t : Tick) (pdu : BitVec 192) (rest : List (BitVec 192)), (s.dev.net.scRx = pdu :: rest) :=
  ⟨(onReset (fun d => bslUp { d with net := { d.net with scRx := [startPdu] }, safety := { d.safety with par := [(0x0A001001, 1)] } })), 0, startPdu, [], by decide +kernel⟩

/-- The hypotheses of `Obligations.TwinMirrorAndScheduleCommandsComplete`, clause by clause, are met. -/
theorem test_met_TwinMirrorAndScheduleCommandsComplete :
    (∃ (s : State) (t : Tick) (cyc : Option Nat) (arm : Fin 3) (r : ArmRecord), (s.dev.twin.arms.length = 3)) ∧
    (∃ (s : State) (t : Tick) (cyc : Option Nat) (arm : Fin 3) (notice resume : Bool) (crc : BitVec 32), (s.dev.twin.arms.length = 3)) ∧
    (∃ (s : State) (t : Tick) (good : Bool) (vals : List Int), (s.dev.twin.streams.length = 64)) ∧
    (∃ (s : State) (t : Tick) (good : Bool) (cell : Fin 384) (obs : Observer) (row : CellRow), (s.dev.packs.packs.length = 384) ∧ (s.dev.modu.cells.length = 384)) ∧
    (∃ (s : State) (t : Tick) (good : Bool) (cell : Fin 384) (cnt : PackCounters) (ten : Tenancy), (s.dev.packs.packs.length = 384)) ∧
    (∃ (s : State) (t : Tick) (good : Bool) (arm : Fin 3) (cells : List (Nat × ModCell × Gate × Gate)) (m : ModArm × Circ), (s.dev.twin.arms.length = 3)) ∧
    (∃ (s : State) (t : Tick), (s.dev.modu.arms.length = 3)) ∧
    (∃ (s : State) (t : Tick), (s.dev.twin.arms.length = 3)) :=
  ⟨(⟨(onReset (paired false)), 0, (some 0), 0, ArmRecord.reset, by decide +kernel⟩),
    (⟨(onReset (paired false)), 0, (some 0), 0, false, false, 0, by decide +kernel⟩),
    (⟨(onReset (paired false)), 0, true, [1], by decide +kernel⟩),
    (⟨(onReset (paired false)), 0, true, 0, Observer.reset, CellRow.reset, by decide +kernel⟩),
    (⟨(onReset (paired false)), 0, true, 0, PackCounters.reset, Tenancy.reset, by decide +kernel⟩),
    (⟨(onReset (paired false)), 0, true, 0, [], ((ModArm.reset, Circ.reset)), by decide +kernel⟩),
    (⟨(onReset fun d => paired true { d with now := 800000 }), default, by decide +kernel⟩),
    (⟨(onReset fun d => paired false { d with now := 800000 }), default, by decide +kernel⟩)⟩

/-- The hypotheses of `Obligations.RecorderCommandsComplete`, clause by clause, are met. -/
theorem test_met_RecorderCommandsComplete :
    (∃ (s : State) (t : Tick) (h : CmdHdr) (a : Args), (s.dev.Accepts h) ∧ (fits a [] [])) ∧
    (∃ (s : State) (t : Tick) (h : CmdHdr) (a : Args), (s.dev.Accepts h) ∧ (fits a [(8, 1)] [(8, decide (1 < arg a 8 1))])) ∧
    (∃ (s : State) (t : Tick) (h : CmdHdr) (a : Args), (s.dev.Accepts h) ∧ (fits a [] [])) ∧
    (∃ (s : State) (t : Tick) (h : CmdHdr) (a : Args), (s.dev.Accepts h) ∧ (fits a [(8, 1)] [(8, decide (3 < arg a 8 1))]) ∧ (s.dev.recd.masks.length = 4)) :=
  ⟨(⟨(served fun d => { d with recd := { d.recd with state := 0 } }), 0, hdr0, 0, by decide +kernel⟩),
    (⟨(served fun d => { d with recd := { d.recd with state := 1 } }), 0, hdr0, 0, by decide +kernel⟩),
    (⟨(served fun d => d), 0, hdr0, 0, by decide +kernel⟩),
    (⟨(served (withPar [(0x10020001, 1)])), 0, hdr0, 0, by decide +kernel⟩)⟩

/-- The hypotheses of `Obligations.CountersDumpAndDriftCommandsComplete`, clause by clause, are met. -/
theorem test_met_CountersDumpAndDriftCommandsComplete :
    (∃ (s : State) (t : Tick) (b : Fin 7) (i : Fin 16), (s.dev.zep.pmc.ctrs.length = 7) ∧ ((s.dev.zep.pmc.ctrs.getD b []).length = 16)) ∧
    (∃ (s : State) (t : Tick) (b : Fin 7) (i : Fin 16) (v : BitVec 32), (s.dev.zep.pmc.ctrs.length = 7) ∧ ((s.dev.zep.pmc.ctrs.getD b []).length = 16)) ∧
    (∃ (s : State) (t : Tick) (h : CmdHdr) (a : Args), (s.dev.Accepts h) ∧ (fits a [] [])) ∧
    (∃ (s : State) (t : Tick) (h : CmdHdr) (a : Args), (s.dev.Accepts h) ∧ (fits a [(8, 1), (12, 2)] [(8, bit (arg a 8 1) 7)])) ∧
    (∃ (s : State) (t : Tick) (h : CmdHdr) (a : Args) (dmaOk : Bool), (s.dev.Accepts h) ∧ (fits a [(8, 8), (16, 1)] [(16, arg a 16 1 == 0 || decide (64 < arg a 16 1))])) :=
  ⟨(⟨(onReset (fun d => { d with zep := { d.zep with pmc := { d.zep.pmc with ctrs := d.zep.pmc.ctrs.map fun l => l.map fun c => { c with value := 2 ^ 48 - 1, cfg := 0x400 } } } })), 0, 0, 15, by decide +kernel⟩),
    (⟨State.reset, 0, 0, 0, 5, by decide +kernel⟩),
    (⟨(served fun d => { d with zep := { d.zep with pmc := { d.zep.pmc with on := true } } }), 0, hdr0, 0, by decide +kernel⟩),
    (⟨(served fun d => d), 0, hdr0, 0, by decide +kernel⟩),
    (⟨(served (fun d => d)), 0, hdr0, (2 ^ 64), default, by decide +kernel⟩)⟩

/-- The hypotheses of `Obligations.HousekeepingRoundCommandsComplete`, clause by clause, are met. -/
theorem test_met_HousekeepingRoundCommandsComplete :
    ∃ (s : State) (t : Tick) (h : CmdHdr) (a : Args), (s.dev.Accepts h) ∧ (fits a [(8, 3)] []) :=
  ⟨(served fun d => d), 0, hdr0, 0, by decide +kernel⟩

/-- The hypotheses of `Obligations.ErrorHandlingCommandsComplete`, clause by clause, are met. -/
theorem test_met_ErrorHandlingCommandsComplete :
    (∃ (s : State) (t : Tick) (h : CmdHdr) (a : Args) (dmaOk : Bool), (s.dev.Accepts h) ∧ (fits a [(8, 8), (16, 1), (17, 1)] [(16, decide (64 ≤ arg a 16 1)), (17, arg a 17 1 == 0 || decide (64 < arg a 17 1))])) ∧
    (∃ (s : State) (t : Tick) (h : CmdHdr) (a : Args), (s.dev.Accepts h) ∧ (fits a [(8, 1)] [])) ∧
    (∃ (s : State) (t : Tick) (h : CmdHdr) (a : Args), (s.dev.Accepts h) ∧ (fits a [] [])) :=
  ⟨(⟨(served (fun d => d)), 0, hdr0, (2 ^ 72), true, by decide +kernel⟩),
    (⟨(served fun d => d), 0, hdr0, 0, by decide +kernel⟩),
    (⟨(served (fun d => { d with conv := { d.conv with state := stMaint } })), 0, hdr0, 0, by decide +kernel⟩)⟩

/-- The hypotheses of `Obligations.FirmwareAndSecurityCommandsComplete`, clause by clause, are met. -/
theorem test_met_FirmwareAndSecurityCommandsComplete :
    (∃ (s : State) (t : Tick) (h : CmdHdr) (a : Args), (s.dev.Accepts h) ∧ (fits a [] [])) ∧
    (∃ (s : State) (t : Tick) (h : CmdHdr) (a : Args) (image : Option (List (BitVec 8))), (s.dev.Accepts h) ∧ (fits a [(8, 8), (16, 4)] [(16, arg a 16 4 == 0 || decide (12 * 2 ^ 20 < arg a 16 4))])) ∧
    (∃ (s : State) (t : Tick) (h : CmdHdr) (a : Args), (s.dev.Accepts h) ∧ (fits a [] [])) ∧
    (∃ (s : State) (t : Tick) (h : CmdHdr) (a : Args) (dmaOk : Bool), (s.dev.Accepts h) ∧ (fits a [(8, 8)] [])) ∧
    (∃ (s : State) (t : Tick) (h : CmdHdr) (a : Args), (s.dev.Accepts h) ∧ (fits a [(8, 8), (24, 16)] [])) ∧
    (∃ (s : State) (t : Tick) (h : CmdHdr) (a : Args) (dmaOk : Bool), (s.dev.Accepts h) ∧ (fits a [(8, 8)] [])) ∧
    (∃ (s : State) (t : Tick) (h : CmdHdr) (a : Args) (mem : Option (List (BitVec 8))), (s.dev.Accepts h) ∧ (fits a [(8, 1), (16, 8)] [(8, decide (4 ≤ arg a 8 1))])) ∧
    (∃ (s : State) (t : Tick) (h : CmdHdr) (a : Args), (s.dev.Accepts h) ∧ (fits a [(8, 1)] [(8, decide (2 ≤ arg a 8 1))])) :=
  ⟨(⟨(served fun d => d), 0, hdr0, 0, by decide +kernel⟩),
    (⟨(served (fun d => d)), 0, hdr0, (2 ^ 64), (some []), by decide +kernel⟩),
    (⟨(served fun d => d), 0, hdr0, 0, by decide +kernel⟩),
    (⟨(served fun d => d), 0, hdr0, 0, default, by decide +kernel⟩),
    (⟨(served fun d => d), 0, hdr0, 0, by decide +kernel⟩),
    (⟨(served fun d => d), 0, hdr0, 0, default, by decide +kernel⟩),
    (⟨(served (fun d => { d with sec := { d.sec with challenge := some (0, 0) } })), 0, hdr0, 0, (some []), by decide +kernel⟩),
    (⟨(served fun d => d), 0, hdr0, 0, by decide +kernel⟩)⟩

/-- The hypotheses of `Obligations.EthernetFrameCommandsComplete`, clause by clause, are met. -/
theorem test_met_EthernetFrameCommandsComplete :
    (∃ (s : State) (t : Tick) (port : Fin 2) (up gigabit : Bool), (s.dev.net.links.length = 2)) ∧
    (∃ (s : State) (t : Tick) (port : Fin 2) (len : Nat) (src : BitVec 48) (kind : Fin 5) (tag : Option (Nat × Nat)) (mine : Bool), (s.dev.net.ownBack.length = 2)) :=
  ⟨(⟨State.reset, 0, 0, true, true, by decide +kernel⟩),
    (⟨(onReset (fun d => { d with net := { d.net with links := [true, true] } })), 0, 0, 100, 5, 4, none, true, by decide +kernel⟩)⟩

/-- The hypotheses of `Obligations.PtpCommandsComplete`, clause by clause, are met. -/
theorem test_met_PtpCommandsComplete :
    (∃ (s : State) (t : Tick) (dom : Nat) (port : Fin 2) (src : BitVec 80) (gm : BitVec 64) (rank : List Nat) (interval : Rat) (utc : BitVec 17), (s.dev.net.best.length = 2) ∧ (∀ l ∈ s.dev.net.best, l.length = 2)) ∧
    (∃ (s : State) (t : Tick) (dom : Nat) (port : Fin 2) (src : BitVec 80) (seq : Nat) (twoStep : Bool) (origin corr err : Rat), (s.dev.net.clocks.length = 2)) ∧
    (∃ (s : State) (t : Tick) (dom : Nat) (port : Fin 2) (src : BitVec 80) (seq : Nat) (mac : BitVec 48) (origin corr : Rat), (s.dev.net.clocks.length = 2)) ∧
    (∃ (s : State) (t : Tick) (port : Fin 2) (seq : Nat) (corr err : Rat), (s.dev.net.pdReq.length = 2) ∧ (s.dev.net.pdelay.length = 2)) ∧
    (∃ (s : State) (t : Tick) (x : Fin 2), (s.dev.net.clocks.length = 2)) :=
  ⟨(⟨(onReset (fun d => { d with net := { d.net with links := [true, true] } })), 0, 0, 0, 0, 0, [], 0, 0, by decide +kernel⟩),
    (⟨(onReset (fun d => { d with net := { d.net with links := [true, true], best := d.net.best.map fun l => l.map fun b => { b with heard := true, src := 0 } } })), 0, 0, 0, 0, 0, true, 0, 0, 0, by decide +kernel⟩),
    (⟨(onReset (fun d => { d with net := { d.net with links := [true, true] } })), 0, 0, 0, 0, 0, 0, 0, 0, by decide +kernel⟩),
    (⟨(onReset (fun d => { d with net := { d.net with pdReq := [some (3, 0), none] } })), 0, 0, 3, 0, 0, by decide +kernel⟩),
    (⟨(onReset (fun d => { d with now := 800000000000, net := { d.net with clocks := d.net.clocks.map fun c => { c with port := 1 } } })), 0, 0, by decide +kernel⟩)⟩

/-- The hypotheses of `Obligations.StationClockAccessCommandsComplete`, clause by clause, are met. -/
theorem test_met_StationClockAccessCommandsComplete :
    (∃ (s : State) (t : Tick) (x : Fin 2), (s.dev.net.clocks.length = 2)) ∧
    (∃ (s : State) (t : Tick) (x : Fin 2) (frac : BitVec 32), (s.dev.net.clocks.length = 2)) ∧
    (∃ (s : State) (t : Tick) (w : Fin 2 × BitVec 32), (s.dev.net.clocks.length = 2)) ∧
    (∃ (s : State) (t : Tick) (w : Fin 2 × BitVec 32), (s.dev.net.clocks.length = 2)) :=
  ⟨(⟨State.reset, 0, 0, by decide +kernel⟩),
    (⟨State.reset, 0, 0, 5, by decide +kernel⟩),
    (⟨State.reset, 0, ((0, 1)), by decide +kernel⟩),
    (⟨State.reset, 0, ((0, 2)), by decide +kernel⟩)⟩

end Sys2Proof.Tests
end

section
/-! PROOF of O11. The breaker's position and its contacts (R127 to R130, Table 4-3): what the commands of the contacts leave as it stands, what settling a position makes of a breaker, and the statement. -/

namespace Sys2Proof.Machine

open Sys2Proof

section
variable {d e g : Device} {t : Tick} {f : Device → Device} {x y : Breaker} {b : Nat}

/-! ## Breakers as the device holds them -/

theorem Device.brkAt_setBrk_same (f : Breaker → Breaker) (hb : b < d.grid.brk.length) : (d.setBrk b f).brkAt b = f (d.brkAt b) := upd_getD_same _ _ _ _ hb

@[simp] theorem Device.setBrk_brk_length (f : Breaker → Breaker) : (d.setBrk b f).grid.brk.length = d.grid.brk.length := upd_length ..

@[simp] theorem Device.setBrk_P (f : Breaker → Breaker) : (d.setBrk b f).P = d.P := rfl

@[simp] theorem Device.ready_brkAt : (d.ready t).brkAt b = d.brkAt b := by simp [Device.brkAt]

@[simp] theorem Device.carryOut_at_brkAt : (g.carryOut (d.at_ t f)).brkAt b = (f (d.ready t)).brkAt b := by simp [Device.brkAt]

@[simp] theorem Device.carryOut_at_now : (g.carryOut (d.at_ t f)).now = (f (d.ready t)).now := (Device.at_same (d := d) (t := t) (f := f) .time).symm

/-! ## Contacts -/

@[simp] theorem Breaker.contact_setContact_same (c : Nat) (f : Contact → Contact) : (x.setContact c f).contact c = f (x.contact c) := by
  unfold Breaker.contact Breaker.setContact
  split <;> rfl

@[simp] theorem Breaker.contact_setContact_other (c : Fin 2) (f : Contact → Contact) : (x.setContact c f).contact (1 - c.val) = x.contact (1 - c.val) := by
  match c with
  | 0 => rfl
  | 1 => rfl

@[simp] theorem Breaker.setContact_travelFrom (c : Nat) (f : Contact → Contact) : (x.setContact c f).travelFrom = x.travelFrom := by
  unfold Breaker.setContact
  split <;> rfl

/-- A contact and the other one are the a- and the b-contact, in one order or the other. -/
theorem Breaker.deb_of_contacts (c : Fin 2) {v : Option Bool} (h : (x.contact c).deb = v) (hother : (x.contact (1 - c.val)).deb = v) : x.a.deb = v ∧ x.b.deb = v := by
  match c with
  | 0 => exact ⟨h, hother⟩
  | 1 => exact ⟨hother, h⟩

/-! ## Table 4-3 -/

theorem Breaker.faulty_of_discFault (h : x.discFault = true) : x.faulty = true := by simp [Breaker.faulty, h]

theorem Breaker.faulty_of_chatFault (h : x.chatFault = true) : x.faulty = true := by simp [Breaker.faulty, h]

theorem Breaker.position_of_faulty (h : x.faulty = true) : x.position = 3 := by simp [Breaker.position, h]

theorem Breaker.position_closed (h : x.faulty = false) (ha : x.a.deb = some true) (hb : x.b.deb = some false) : x.position = 1 := by
  simp [Breaker.position, h, ha, hb]

theorem Breaker.position_open (h : x.faulty = false) (ha : x.a.deb = some false) (hb : x.b.deb = some true) : x.position = 0 := by
  simp [Breaker.position, h, ha, hb]

theorem Breaker.position_travel (h : x.faulty = false) {v : Bool} (ha : x.a.deb = some v) (hb : x.b.deb = some v) : x.position = 2 := by
  cases v <;> simp [Breaker.position, h, ha, hb]

/-- The debounced contacts are equal: TRAVEL of Table 4-3, whether the breaker is FAULTY or not. -/
def Breaker.inTravel (x : Breaker) : Bool :=
  match x.a.deb, x.b.deb with
  | some p, some q => p == q
  | _, _ => false

theorem Breaker.inTravel_of_equal {v : Bool} (ha : x.a.deb = some v) (hb : x.b.deb = some v) : x.inTravel = true := by simp [Breaker.inTravel, ha, hb]

/-! ## What the consequences of a position leave -/

/-- What the inputs and the detectors of R128 and R130 have made of a breaker: all of it but the position last reported and the close output. -/
def Breaker.sensed (x : Breaker) : Contact × Contact × Option Tick × Bool × Bool := (x.a, x.b, x.travelFrom, x.discFault, x.chatFault)

theorem Breaker.faulty_congr (h : x.sensed = y.sensed) : x.faulty = y.faulty := by
  simp only [Breaker.sensed, Prod.mk.injEq] at h
  obtain ⟨-, -, -, hdisc, hchat⟩ := h
  rw [Breaker.faulty, Breaker.faulty, hdisc, hchat]

/-- The second device's breakers have the contacts and detectors of the first's. -/
structure SameSensed (d e : Device) : Prop where
  /-- Breaker by breaker -/
  same : ∀ b, (e.brkAt b).sensed = (d.brkAt b).sensed

theorem SameSensed.refl : SameSensed d d := ⟨fun _ => rfl⟩

theorem SameSensed.trans (h : SameSensed d e) (k : SameSensed e g) : SameSensed d g := ⟨fun b => (k.same b).trans (h.same b)⟩

/-- One more operation, which leaves the breakers. -/
theorem SameSensed.only {K : List Region} (k : Only K e g) (h : SameSensed d e) (hk : Region.brk ∉ K := by decide) : SameSensed d g :=
  h.trans ⟨fun b => by rw [Device.brkAt, Device.brkAt, k.brk_eq hk]⟩

theorem SameSensed.ite {c : Prop} [Decidable c] (h : SameSensed d e) (k : SameSensed d g) : SameSensed d (if c then e else g) := by
  split <;> assumption

/-- One more change of a breaker, of none of its contacts and detectors. -/
theorem SameSensed.setBrk {f : Breaker → Breaker} (hf : ∀ x, (f x).sensed = x.sensed) (h : SameSensed d e) : SameSensed d (e.setBrk b f) := by
  refine h.trans ⟨fun j => ?_⟩
  rw [show (e.setBrk b f).brkAt j = _ from upd_getD ..]
  split
  · exact hf _
  · rfl

theorem Device.withdrawClose_sensed (d : Device) (b : Nat) : SameSensed d (d.withdrawClose b) := by
  unfold Device.withdrawClose
  extract_lets x
  split
  · exact .only (Device.setSeq_only ..) (.setBrk (fun _ => rfl) .refl)
  · exact .refl

theorem Device.landAbort_sensed (d : Device) (reason : Nat) : SameSensed d (d.landAbort reason) := by
  unfold Device.landAbort
  split
  · exact .refl
  · exact .only (Device.raise_only ..) (.only (Device.setSeq_only ..) (.only (Device.setTraj_only ..) (Device.withdrawClose_sensed d 0)))

theorem Device.brkMoved_sensed (d : Device) (b pos : Nat) : SameSensed d (d.brkMoved b pos) := by
  unfold Device.brkMoved
  extract_lets x closed phase abort
  have hclosed : SameSensed d closed := by
    unfold closed
    split
    · exact .setBrk (fun _ => rfl) .refl
    · exact .refl
  clear_value closed
  refine .ite (.only (Device.landClosed_only _) hclosed) (.ite (hclosed.trans (Device.landAbort_sensed ..)) (.ite ?_ (.ite ?_ hclosed)))
  · exact .only (Device.setConv_only ..) hclosed
  · exact .only (Device.mbOpened_only _) hclosed

/-! ## Settling a position (R128) -/

/-- TRAVEL of a breaker at an instant: it begins with equal debounced contacts, and ends with unequal ones. -/
def Breaker.withTravel (now : Tick) (x : Breaker) : Breaker := { x with travelFrom := if x.inTravel then some (x.travelFrom.getD now) else none }

/-- Settling breaker b begins or ends its TRAVEL; the consequences of its position leave contacts and detectors. -/
theorem Device.brkSettle_sensed (hb : b < d.grid.brk.length) : ((d.brkSettle b).brkAt b).sensed = ((d.brkAt b).withTravel d.now).sensed := by
  unfold Device.brkSettle
  extract_lets x travel settled pos counted
  have hsettled : settled.brkAt b = (d.brkAt b).withTravel d.now := Device.brkAt_setBrk_same _ hb
  rw [← hsettled]
  split
  · rfl
  · have hcounted : SameSensed settled counted := .setBrk (fun _ => rfl) .refl
    exact ((SameSensed.only (Device.raise_only ..) hcounted).trans (Device.brkMoved_sensed ..)).same b

theorem Device.brkSettle_a (hb : b < d.grid.brk.length) : ((d.brkSettle b).brkAt b).a = (d.brkAt b).a := congrArg (·.1) (Device.brkSettle_sensed hb)

theorem Device.brkSettle_b (hb : b < d.grid.brk.length) : ((d.brkSettle b).brkAt b).b = (d.brkAt b).b := congrArg (·.2.1) (Device.brkSettle_sensed hb)

/-- With equal debounced contacts TRAVEL lasts, from now unless it has begun before. -/
theorem Device.brkSettle_travelFrom (hb : b < d.grid.brk.length) (h : (d.brkAt b).inTravel = true) :
    ((d.brkSettle b).brkAt b).travelFrom = some ((d.brkAt b).travelFrom.getD d.now) :=
  (congrArg (·.2.2.1) (Device.brkSettle_sensed hb)).trans (if_pos h)

theorem Device.brkSettle_faulty (hb : b < d.grid.brk.length) : ((d.brkSettle b).brkAt b).faulty = (d.brkAt b).faulty :=
  Breaker.faulty_congr (y := (d.brkAt b).withTravel d.now) (Device.brkSettle_sensed hb)

theorem Device.brkSettle_now : (d.brkSettle b).now = d.now := (Device.brkSettle_only d b).now_eq (by decide)

/-- The end of both detectors: a breaker that becomes FAULTY is reported and its position settled. -/
theorem Device.position_of_faulted {f : Breaker → Breaker} {name : String} {island kind index : Nat} {payload : List Int}
    (hb : b < d.grid.brk.length) (hf : (f (d.brkAt b)).faulty = true) :
    ((((d.setBrk b f).raise name island kind index payload).brkSettle b).brkAt b).position = 3 := by
  have hraise : ((d.setBrk b f).raise name island kind index payload).grid.brk = (d.setBrk b f).grid.brk := (Device.raise_only ..).brk_eq (by decide)
  apply Breaker.position_of_faulty
  rw [Device.brkSettle_faulty (by rwa [hraise, Device.setBrk_brk_length]), Device.brkAt, hraise, ← Device.brkAt, Device.brkAt_setBrk_same f hb, hf]
end

/-! ## The three commands of the contacts -/

section
variable (s : State) (t : Tick) (b c : Fin 2)

/-- BREAKER_DEBOUNCE_DONE that makes the pair equal begins TRAVEL at its instant (R128). -/
theorem breakerDebounceDone_begins_travel (hnew : ((s.dev.brkAt b).contact c).deb ≠ some ((s.dev.brkAt b).contact c).filt)
    (hdue : (s.dev.ready t).past (((s.dev.brkAt b).contact c).filtFrom.getD 0) (msT (Par.brkDebounce s.dev.P b)) = true) (hb : b.val < s.dev.grid.brk.length)
    (hother : ((s.dev.brkAt b).contact (1 - c.val)).deb = some ((s.dev.brkAt b).contact c).filt) (hnone : (s.dev.brkAt b).travelFrom = none) :
    Gives (exec (.breakerDebounceDone t b c) s) s.pending fun d => (d.brkAt b).travelFrom = some d.now ∧ (d.brkAt b).a.deb = (d.brkAt b).b.deb := by
  change Gives (State.on ..) _ _
  simp only [gives_on, Device.carryOut_at_brkAt, Device.carryOut_at_now, Device.ready_brkAt, Device.ready_P, hnew, hdue, decide_false, Bool.not_true, Bool.or_self,
    Bool.false_eq_true, if_false, true_and]
  generalize hd : (s.dev.ready t).setBrk b _ = d
  have hx : d.brkAt b = (s.dev.brkAt b).setContact c fun x => { x with deb := some x.filt } := by
    rw [← hd, Device.brkAt_setBrk_same _ (by simpa using hb), Device.ready_brkAt]
  have hlen : b.val < d.grid.brk.length := by simpa [← hd] using hb
  obtain ⟨ha, hbdeb⟩ : (d.brkAt b).a.deb = some ((s.dev.brkAt b).contact c).filt ∧ (d.brkAt b).b.deb = some ((s.dev.brkAt b).contact c).filt :=
    Breaker.deb_of_contacts c (by simp [hx]) (by simpa [hx] using hother)
  constructor
  · rw [Device.brkSettle_travelFrom hlen (Breaker.inTravel_of_equal ha hbdeb), Device.brkSettle_now, hx, Breaker.setContact_travelFrom, hnone, Option.getD_none]
  · rw [Device.brkSettle_a hlen, Device.brkSettle_b hlen, ha, hbdeb]

/-- BREAKER_DISCREPANCY after TRAVEL for more than brk[b].disc_time makes the breaker FAULTY, or finds it so (R128). -/
theorem breakerDiscrepancy_faulty (f : Tick) (hfrom : (s.dev.brkAt b).travelFrom = some f) (hb : b.val < s.dev.grid.brk.length)
    (hlong : (s.dev.ready t).pastBeyond f (msT (Par.brkDiscTime s.dev.P b)) = true) :
    Gives (exec (.breakerDiscrepancy t b) s) s.pending fun d => (d.brkAt b).position = 3 := by
  change Gives (State.on ..) _ _
  simp only [gives_on, Device.carryOut_at_brkAt, Device.ready_brkAt, Device.ready_P, hfrom, hlong, Bool.not_true, Bool.or_false, true_and]
  split
  next hfault => exact Breaker.position_of_faulty (Breaker.faulty_of_discFault (by simpa using hfault))
  next => exact Device.position_of_faulted (by simpa using hb) (Breaker.faulty_of_discFault rfl)

/-- BREAKER_CONTACT_CHANGE that finds the contact chattering makes the breaker FAULTY, or finds it so (R130). -/
theorem breakerContactChange_chatter_faulty (level : Bool × Nat) (hlevel : ((s.dev.brkAt b).contact c).filt ≠ level.1)
    (hheld : Par.protBrkFilt s.dev.P ≤ level.2) (hb : b.val < s.dev.grid.brk.length)
    (hchat : chatters (noteTransition ((s.dev.brkAt b).contact c).trans (max t s.dev.now) (Par.brkChatterN s.dev.P b)) (Par.brkChatterN s.dev.P b)
      (msT (Par.brkChatterWin s.dev.P b)) = true) :
    Gives (exec (.breakerContactChange t b c level) s) s.pending fun d => (d.brkAt b).position = 3 := by
  change Gives (State.on ..) _ _
  simp only [gives_on, Device.carryOut_at_brkAt, Device.ready_brkAt, Device.ready_P, Device.ready_now, Device.setBrk_P, hlevel, Nat.not_lt.mpr hheld, hchat, decide_false, Bool.not_true,
    Bool.or_self, Bool.false_eq_true, if_false, true_and]
  split
  next hfault => exact Breaker.position_of_faulty (Breaker.faulty_of_chatFault hfault)
  next => exact Device.position_of_faulted (by simpa using hb) (Breaker.faulty_of_chatFault rfl)
end

end Sys2Proof.Machine
end

section
open Sys2Proof Sys2Proof.Machine

/-- Settles O11: the position is read off Table 4-3, and each of the three commands of the contacts ends in settling the breaker, whose consequences leave its contacts, its TRAVEL and its FAULTY latches. -/
theorem breakerPositionFollowsItsContacts : Obligations.BreakerPositionFollowsItsContacts := by
  unfold Obligations.BreakerPositionFollowsItsContacts
  refine ⟨fun x h => ⟨x.position_closed h, x.position_open h, fun _ => x.position_travel h⟩, fun x => x.position_of_faulty, fun d => ?_,
    breakerDebounceDone_begins_travel, fun s t b => breakerDiscrepancy_faulty s t b, breakerContactChange_chatter_faulty⟩
  rw [Device.mbOpen, beq_iff_eq]

end

section
/-! PROOF of O12. The trip and gate commands of the host are accepted in every state (R262): what a well-formed command whose body leaves the mailbox alone completes with, a command that acts on each source of a mask, the four commands, and the statement. -/

namespace Sys2Proof.Machine

open Sys2Proof

section
variable {s : State} {t : Tick} {h : CmdHdr} {a : Args} {used : List (Nat × Nat)} {bad : List (Nat × Bool)} {K : List Region}

/-! ## Bodies that leave the mailbox, the posts and the timebase -/

/-- A body whose frame `K` leaves them also leaves its command's channel enabled, so that the ending it gives, whatever the rest of the device, is posted. -/
theorem cmd_completes {body : Device → Device × Option Ending} {e : Ending} (hx : s.dev.Accepts h) (hfits : fits a used bad)
    (honly : ∀ d, Only K d (body d).1) (hend : (body (s.dev.started t)).2 = some e)
    (hm : Region.mail ∉ K := by decide) (hp : Region.posts ∉ K := by decide) (ht : Region.time ∉ K := by decide) :
    Gives (s.on t fun d => d.cmdIf h a used (firstBad bad) body) s.pending fun d => Device.Completed s.dev d h e :=
  cmd_ends hx hfits (Prod.ext rfl hend) (.only (honly _) hm hp ht) fun _ hdone _ => hdone

/-! ## Bodies that act on each source of a mask (R328) -/

theorem endsMask_ending (x : Device × Nat) : ∃ e, (endsMask x).2 = some e ∧ (e = .ok 0 ∨ ∃ m, e = .refusedMask m) := by
  by_cases hnone : x.2 = 0
  · exact ⟨.ok 0, congrArg some (if_pos hnone), .inl rfl⟩
  · exact ⟨.refusedMask x.2, congrArg some (if_neg hnone), .inr ⟨x.2, rfl⟩⟩

theorem maskCmd_completes {act : Device → Nat → Device × Bool} {l : List Nat} (hx : s.dev.Accepts h) (hfits : fits a used [])
    (honly : ∀ d i, Only K d (act d i).1)
    (hm : Region.mail ∉ K := by decide) (hp : Region.posts ∉ K := by decide) (ht : Region.time ∉ K := by decide) :
    Gives (s.on t fun d => d.cmd h a used fun d => endsMask (refusedOver act l d)) s.pending fun d =>
      ∃ e, Device.Completed s.dev d h e ∧ (e = .ok 0 ∨ ∃ m, e = .refusedMask m) := by
  obtain ⟨e, hend, hkind⟩ := endsMask_ending (refusedOver act l (s.dev.started t))
  obtain ⟨s', hnext, hqueue, hdone⟩ := cmd_completes hx hfits
    (fun d => Only.endsMask (refusedOver_by (l := l) (fun _ i hd => hd.trans (honly _ i)) Only.refl)) hend hm hp ht
  exact ⟨s', hnext, hqueue, e, hdone, hkind⟩

/-! ## The four commands -/

theorem cmdTripClear_completes (hx : s.dev.Accepts h) (hfits : fits a [(8, 6)] []) :
    Gives (exec (.cmdTripClear t h a) s) s.pending fun d => ∃ e, Device.Completed s.dev d h e ∧ (e = .ok 0 ∨ ∃ m, e = .refusedMask m) :=
  maskCmd_completes hx hfits Device.hostClear_only

theorem cmdTripRearm_completes (hx : s.dev.Accepts h) (hfits : fits a [(8, 2)] []) :
    Gives (exec (.cmdTripRearm t h a) s) s.pending fun d => ∃ e, Device.Completed s.dev d h e ∧ (e = .ok 0 ∨ ∃ m, e = .refusedMask m) :=
  maskCmd_completes hx hfits Device.tripRearm_only

/-- Source 46 becomes active for one sample: what its trip begins posts nothing to the host. -/
theorem cmdTripForce_completes (hx : s.dev.Accepts h) (hfits : fits a [] []) :
    Gives (exec (.cmdTripForce t h a) s) s.pending fun d => Device.Completed s.dev d h (.ok 0) :=
  cmd_completes (K := .gates :: Region.trip) (bad := []) hx hfits
    (fun _ => .step (Device.setSrc_only ..) rfl (.step (Device.inputActive_only ..) rfl (.step (Device.setProt_only ..) rfl .refl))) rfl

theorem cmdGateBaseline_completes (hx : s.dev.Accepts h) (hfits : fits a [(8, 2)] [(8, decide (384 ≤ arg a 8 2) && arg a 8 2 != 0xFFFF)]) :
    Gives (exec (.cmdGateBaseline t h a) s) s.pending fun d => Device.Completed s.dev d h (.ok 0) :=
  cmd_completes (K := [.prot, .gates]) hx hfits (fun _ => .fst_mk (Device.setProt_only ..)) rfl
end

end Sys2Proof.Machine
end

section
open Sys2Proof Sys2Proof.Machine

/-- Settles O12: no body of the four asks for the converter state or the role, and none moves the mailbox, so each completes with the ending its body gives. -/
theorem tripCommandsAreAcceptedInEveryState : Obligations.TripCommandsAreAcceptedInEveryState := by
  unfold Obligations.TripCommandsAreAcceptedInEveryState
  intro s t h a hx
  exact ⟨cmdTripClear_completes hx, cmdTripRearm_completes hx, cmdTripForce_completes hx, cmdGateBaseline_completes hx⟩

end

section
/-! PROOF of O13. The safety commands of the host and the converter state (R294): a command known to end with a kind of ending, CMD_SAFE_RESET, CMD_SAFE_REARM where it is accepted and where it is not, and the statement. -/

namespace Sys2Proof.Machine

open Sys2Proof

theorem Gives.imp {o : Host.Outcome State Fault Refusal} {queue : List Instr} {p q : Device → Prop} (hgives : Gives o queue p) (hpq : ∀ d, p d → q d) :
    Gives o queue q := by
  obtain ⟨s', hnext, hqueue, hp⟩ := hgives
  exact ⟨s', hnext, hqueue, hpq _ hp⟩

/-! ## The STATE ending (R328) -/

theorem Only.stateEnd_eq {K : List Region} {d e : Device} (honly : Only K d e) (hconv : Region.conv ∉ K := by decide) (hride : Region.ride ∉ K := by decide) :
    e.stateEnd = d.stateEnd := by
  rw [Device.stateEnd, Device.stateEnd, Device.stateCode, Device.stateCode, honly.conv_eq hconv, honly.ride_eq hride]

section
variable {s : State} {t : Tick} {h : CmdHdr} {a : Args} {used : List (Nat × Nat)} {bad : List (Nat × Bool)} {K : List Region}
  {body : Device → Device × Option Ending}

theorem Device.started_conv : (s.dev.started t).conv = s.dev.conv := (Device.started_only ..).conv_eq (by decide)

/-! ## Bodies whose ending depends on the device they start from -/

/-- Where the body's branch for the started device leaves the mailbox, the posts and the timebase, its ending is posted and keeps its kind. -/
theorem cmd_completes_kind {kind : Ending → Prop} {d' : Device} {e : Ending} (hx : s.dev.Accepts h) (hfits : fits a used bad)
    (hbody : body (s.dev.started t) = ends d' e) (honly : Only K (s.dev.started t) d') (hkind : kind e)
    (hm : Region.mail ∉ K := by decide) (hp : Region.posts ∉ K := by decide) (ht : Region.time ∉ K := by decide) :
    Gives (s.on t fun d => d.cmdIf h a used (firstBad bad) body) s.pending fun d => ∃ e, Device.Completed s.dev d h e ∧ kind e :=
  cmd_ends hx hfits hbody (.only honly hm hp ht) fun _ hdone _ => ⟨e, hdone, hkind⟩

/-- A body whose branch for the started device acts on each source of a mask ends with OK, or with a REFUSED that names sources. -/
theorem maskBranch_completes {act : Device → Nat → Device × Bool} {l : List Nat} (hx : s.dev.Accepts h) (hfits : fits a used bad)
    (hbody : body (s.dev.started t) = endsMask (refusedOver act l (s.dev.started t))) (honly : ∀ d i, Only K d (act d i).1)
    (hm : Region.mail ∉ K := by decide) (hp : Region.posts ∉ K := by decide) (ht : Region.time ∉ K := by decide) :
    Gives (s.on t fun d => d.cmdIf h a used (firstBad bad) body) s.pending fun d =>
      ∃ e, Device.Completed s.dev d h e ∧ (e = .ok 0 ∨ ∃ m, e = .refusedMask m) := by
  obtain ⟨e, hend, hkind⟩ := endsMask_ending (refusedOver act l (s.dev.started t))
  exact cmd_completes_kind hx hfits (hbody.trans (congrArg (Prod.mk _) hend)) (refusedOver_by (fun _ i hd => hd.trans (honly _ i)) .refl) hkind hm hp ht

/-! ## CMD_SAFE_RESET (R281) -/

theorem resetEnding_ok_or_refused (rejected : Bool) :
    (if rejected then Ending.refused 2 else .ok 0) = .ok 0 ∨ ∃ n, (if rejected then Ending.refused 2 else .ok 0) = .refused n := by
  cases rejected with
  | false => exact .inl rfl
  | true => exact .inr ⟨2, rfl⟩

/-- No branch asks for the converter state: a reset the parameters do not enable, one that Bailsil does not carry out, and one that it judges. -/
theorem cmdSafeReset_completes (hx : s.dev.Accepts h) (hfits : fits a [] []) :
    Gives (exec (.cmdSafeReset t h a) s) s.pending fun d => ∃ e, Device.Completed s.dev d h e ∧ (e = .ok 0 ∨ ∃ n, e = .refused n) := by
  by_cases hdisabled : (!Par.safHostReset (s.dev.started t).safety.par) = true
  · exact cmd_completes_kind (bad := []) hx hfits (if_pos hdisabled) (Only.refl (K := [])) (.inr ⟨1, rfl⟩)
  by_cases hstopped : (!(s.dev.started t).bslRuns) = true
  · exact cmd_completes_kind (bad := []) hx hfits ((if_neg hdisabled).trans (if_pos hstopped)) (Only.refl (K := [])) (.inr ⟨2, rfl⟩)
  exact cmd_completes_kind (bad := []) hx hfits ((if_neg hdisabled).trans (if_neg hstopped)) (Device.safetyReset_only _) (resetEnding_ok_or_refused _)

/-! ## CMD_SAFE_REARM (R271, R274) -/

section
variable (hx : s.dev.Accepts h)
  (hfits : fits a [(8, 1), (9, 1)] [(8, decide (2 ≤ arg a 8 1)), (9, decide (2 ^ (if arg a 8 1 = 1 then 6 else 4) ≤ arg a 9 1))])
include hx hfits

theorem cmdSafeRearm_inputs_completes (hinputs : arg a 8 1 ≠ 1) :
    Gives (exec (.cmdSafeRearm t h a) s) s.pending fun d => ∃ e, Device.Completed s.dev d h e ∧ (e = .ok 0 ∨ ∃ m, e = .refusedMask m) :=
  maskBranch_completes hx hfits (if_neg hinputs) Device.sinRearm_only

theorem cmdSafeRearm_outputs_completes (houtputs : arg a 8 1 = 1) (hmaint : s.dev.conv.state = stMaint) :
    Gives (exec (.cmdSafeRearm t h a) s) s.pending fun d => ∃ e, Device.Completed s.dev d h e ∧ (e = .ok 0 ∨ ∃ m, e = .refusedMask m) :=
  have hstate : ¬ (s.dev.started t).conv.state ≠ stMaint := not_not_intro (Device.started_conv ▸ hmaint)
  maskBranch_completes hx hfits ((if_pos houtputs).trans (if_neg hstate)) Device.soutRearm_only

theorem cmdSafeRearm_outputs_state (houtputs : arg a 8 1 = 1) (hother : s.dev.conv.state ≠ stMaint) :
    Gives (exec (.cmdSafeRearm t h a) s) s.pending fun d => Device.Completed s.dev d h s.dev.stateEnd ∧ d.safety = s.dev.safety := by
  have hstarted := Device.started_only s.dev t
  have hstate : (s.dev.started t).conv.state ≠ stMaint := Device.started_conv ▸ hother
  refine cmd_ends hx hfits ((if_pos houtputs).trans (if_pos hstate)) .refl fun d hdone hrest => ⟨?_, ?_⟩
  · exact hstarted.stateEnd_eq ▸ hdone
  · exact (hrest .safety (by decide)).symm.trans (hstarted.safety_eq (by decide))
end
end

end Sys2Proof.Machine
end

section
open Sys2Proof Sys2Proof.Machine

/-- Settles O13: only the branch of CMD_SAFE_REARM for outputs asks for the converter state, and outside MAINT it ends the command before any output is touched. -/
theorem safetyCommandsAreAcceptedInEveryState : Obligations.SafetyCommandsAreAcceptedInEveryState := by
  unfold Obligations.SafetyCommandsAreAcceptedInEveryState
  intro s t h a hx
  refine ⟨cmdSafeReset_completes hx, fun hfits => ?_⟩
  by_cases houtputs : arg a 8 1 = 1
  case neg => exact (cmdSafeRearm_inputs_completes hx hfits houtputs).imp fun _ hdone => ⟨fun _ => hdone, fun hout => absurd hout houtputs⟩
  by_cases hmaint : s.dev.conv.state = stMaint
  case pos => exact (cmdSafeRearm_outputs_completes hx hfits houtputs hmaint).imp fun _ hdone => ⟨fun _ => hdone, fun _ hother => absurd hmaint hother⟩
  exact (cmdSafeRearm_outputs_state hx hfits houtputs hmaint).imp fun _ hdone =>
    ⟨fun haccepted => haccepted.elim (absurd houtputs) (absurd · hmaint), fun _ _ => hdone⟩

end

section
/-! PROOF of O10. The straps (R351). Which operations and commands leave them as they stand: all but the two that release a device reset. -/

namespace Sys2Proof.Machine

open Sys2Proof

section
variable {d e : Device} {s s' : State} {t : Tick}

/-! ## The straps as one part of the device -/

/-- Every part but the straps. -/
abbrev Region.butStraps : List Region := Region.all.filter (· ≠ .straps)

/-- A frame of every part but the straps says that the straps stand, so that what `Only` says of an operation that takes another one is said of the straps too. -/
theorem only_butStraps_iff : Only Region.butStraps d e ↔ e.straps = d.straps := by
  refine ⟨fun h => h.straps_eq (by decide), fun h => ⟨fun p hp => ?_⟩⟩
  have hstraps : p = .straps := by
    revert hp
    cases p <;> decide
  exact hstraps ▸ h.symm

/-- One more operation that keeps the straps. -/
theorem Only.andThen {L : List Region} {e' : Device} (h : Only Region.butStraps d e) (g : Only L e e') (hL : sub L Region.butStraps = true := by decide) : Only Region.butStraps d e' :=
  h.trans (g.mono hL)

theorem Device.foldl_straps {β : Type} {f : Device → β → Device} {l : List β} (hf : ∀ x b, (f x b).straps = x.straps) : (l.foldl f d).straps = d.straps :=
  only_butStraps_iff.mp (Only.foldl (fun x b hx => hx.trans (only_butStraps_iff.mpr (hf x b))) .refl)

theorem Device.ite_straps {c : Prop} [Decidable c] {a b : Device} : (if c then a else b).straps = if c then a.straps else b.straps := apply_ite ..

theorem Device.fst_ite_straps {c : Prop} [Decidable c] {a b : Device × Option Ending} : (if c then a else b).1.straps = if c then a.1.straps else b.1.straps :=
  apply_ite (fun x : Device × Option Ending => x.1.straps) ..

/-- A mailbox command keeps the straps if its body does. -/
theorem Device.cmdIf_straps {h : CmdHdr} {a : Args} {used : List (Nat × Nat)} {bad : Option Nat} {body : Device → Device × Option Ending}
    (hbody : ∀ x, (body x).1.straps = x.straps) : (d.cmdIf h a used bad body).straps = d.straps :=
  only_butStraps_iff.mp (Device.cmdIf_by (by decide) (fun x hx => hx.trans (only_butStraps_iff.mpr (hbody x))) .refl)

@[simp] theorem ends_fst {e : Ending} : (ends d e).1 = d := rfl

@[simp] theorem endsMask_fst {x : Device × Nat} : (endsMask x).1 = x.1 := rfl

theorem refusedOver_straps {f : Device → Nat → Device × Bool} {l : List Nat} (hf : ∀ x n, (f x n).1.straps = x.straps) : (refusedOver f l d).1.straps = d.straps :=
  only_butStraps_iff.mp (refusedOver_by (fun x n hx => hx.trans (only_butStraps_iff.mpr (hf x n))) .refl)

/-- A block from the peer keeps the straps if what it carries does. -/
theorem Device.block_straps {good : Bool} {f : Device → Device} (hf : ∀ x, (f x).straps = x.straps) : (d.block good f).straps = d.straps :=
  only_butStraps_iff.mp (Device.block_by (by decide) (fun x hx => hx.trans (only_butStraps_iff.mpr (hf x))) .refl)

theorem Device.scHost_straps {n : Nat} {f : Device → Device} (hf : ∀ x, (f x).straps = x.straps) : (d.scHost n f).straps = d.straps :=
  only_butStraps_iff.mp (Device.scHost_by (by decide) (fun x hx => hx.trans (only_butStraps_iff.mpr (hf x))) .refl)

/-- A command keeps the straps if its effect does. -/
theorem State.on_straps {f : Device → Device} (h : s.on t f = .next s') (hf : ∀ d, Only Region.butStraps d (f d)) : s'.dev.straps = s.dev.straps := by
  cases h
  simp [only_butStraps_iff.mp (hf _)]

/-! ## Operations: no frame of theirs names the straps -/

@[simp] theorem Device.draw_straps : d.draw.2.straps = d.straps := (Device.draw_only ..).straps_eq (by decide)
@[simp] theorem Device.recEvent_straps (k : Nat) (at_ : Tick) : (d.recEvent k at_).straps = d.straps := (Device.recEvent_only ..).straps_eq (by decide)
@[simp] theorem Device.trigTimeouts_straps : d.trigTimeouts.straps = d.straps := (Device.trigTimeouts_only ..).straps_eq (by decide)
@[simp] theorem Device.post_straps (w : HostWrite) : (d.post w).straps = d.straps := (Device.post_only ..).straps_eq (by decide)
@[simp] theorem Device.hwSet_straps (off mask : Nat) : (d.hwSet off mask).straps = d.straps := (Device.hwSet_only ..).straps_eq (by decide)
@[simp] theorem Device.raise_straps (name : String) (island kind index : Nat) (payload : List Int) : (d.raise name island kind index payload).straps = d.straps := (Device.raise_only ..).straps_eq (by decide)
@[simp] theorem Device.raiseRated_straps (name : String) (island kind index : Nat) (payload : List Int) : (d.raiseRated name island kind index payload).straps = d.straps := (Device.raiseRated_only ..).straps_eq (by decide)
@[simp] theorem Device.reminder_straps (name : String) (island kind index : Nat) (payload : List Int) : (d.reminder name island kind index payload).straps = d.straps := (Device.reminder_only ..).straps_eq (by decide)
@[simp] theorem Device.evqSignal_straps : d.evqSignal.straps = d.straps := (Device.evqSignal_only ..).straps_eq (by decide)
@[simp] theorem Device.drain_straps : d.drain.straps = d.straps := (Device.drain_only ..).straps_eq (by decide)
@[simp] theorem Device.complete_straps (h : CmdHdr) (e : Ending) : (d.complete h e).straps = d.straps := (Device.complete_only ..).straps_eq (by decide)
@[simp] theorem Device.dmaFail_straps : d.dmaFail.straps = d.straps := (Device.dmaFail_only ..).straps_eq (by decide)
@[simp] theorem Device.hostErr_straps : d.hostErr.straps = d.straps := (Device.hostErr_only ..).straps_eq (by decide)
@[simp] theorem Device.reserved_straps (v : BitVec 32) (mask : Nat) : (d.reserved v mask).straps = d.straps := (Device.reserved_only ..).straps_eq (by decide)
@[simp] theorem Device.setCtrs_straps (b : Nat) (f : List PmcCounter → List PmcCounter) : (d.setCtrs b f).straps = d.straps := (Device.setCtrs_only ..).straps_eq (by decide)
@[simp] theorem Device.ctrAdd_straps (b i n : Nat) : (d.ctrAdd b i n).straps = d.straps := (Device.ctrAdd_only ..).straps_eq (by decide)
@[simp] theorem Device.pmcPulse_straps (b code n : Nat) : (d.pmcPulse b code n).straps = d.straps := (Device.pmcPulse_only ..).straps_eq (by decide)
@[simp] theorem Device.setBrk_straps (b : Nat) (f : Breaker → Breaker) : (d.setBrk b f).straps = d.straps := (Device.setBrk_only ..).straps_eq (by decide)
@[simp] theorem Device.closeCommand_straps (b : Nat) : (d.closeCommand b).straps = d.straps := (Device.closeCommand_only ..).straps_eq (by decide)
@[simp] theorem Device.flushMoves_straps : d.flushMoves.straps = d.straps := (Device.flushMoves_only ..).straps_eq (by decide)
@[simp] theorem Device.endSequence_straps (reason : Nat) : (d.endSequence reason).straps = d.straps := (Device.endSequence_only ..).straps_eq (by decide)
@[simp] theorem Device.landAbort_straps (reason : Nat) : (d.landAbort reason).straps = d.straps := (Device.landAbort_only ..).straps_eq (by decide)
@[simp] theorem Device.setSrc_straps (i : Nat) (f : TripSrc → TripSrc) : (d.setSrc i f).straps = d.straps := (Device.setSrc_only ..).straps_eq (by decide)
@[simp] theorem Device.squallTrigger_straps : d.squallTrigger.straps = d.straps := (Device.squallTrigger_only ..).straps_eq (by decide)
@[simp] theorem Device.inputActive_straps (i : Nat) (note : TripNote) : (d.inputActive i note).straps = d.straps := (Device.inputActive_only ..).straps_eq (by decide)
@[simp] theorem Device.inputInactive_straps (i : Nat) : (d.inputInactive i).straps = d.straps := (Device.inputInactive_only ..).straps_eq (by decide)
@[simp] theorem Device.controlTrip_straps (cause : Nat) : (d.controlTrip cause).straps = d.straps := (Device.controlTrip_only ..).straps_eq (by decide)
@[simp] theorem Device.applyWaiting_straps (p : Nat → Bool) : (d.applyWaiting p).straps = d.straps := (Device.applyWaiting_only ..).straps_eq (by decide)
@[simp] theorem Device.quant_straps (x : Rat) : (d.quant x).2.straps = d.straps := (Device.quant_only ..).straps_eq (by decide)
@[simp] theorem Device.raiseAtClose_straps (name : String) (island kind index mask : Nat) : (d.raiseAtClose name island kind index mask).straps = d.straps := (Device.raiseAtClose_only ..).straps_eq (by decide)
@[simp] theorem Device.recState_straps (st : Nat) : (d.recState st).straps = d.straps := (Device.recState_only ..).straps_eq (by decide)
@[simp] theorem Device.onFrame_straps (f : RecFrame → RecFrame) : (d.onFrame f).straps = d.straps := (Device.onFrame_only ..).straps_eq (by decide)
@[simp] theorem Device.setAdc_straps (n : Nat) (f : Adc → Adc) : (d.setAdc n f).straps = d.straps := (Device.setAdc_only ..).straps_eq (by decide)
@[simp] theorem Device.setGrp_straps (g : Nat) (f : RefGroup → RefGroup) : (d.setGrp g f).straps = d.straps := (Device.setGrp_only ..).straps_eq (by decide)
@[simp] theorem Device.setCmp_straps (j : Nat) (f : Comparator → Comparator) : (d.setCmp j f).straps = d.straps := (Device.setCmp_only ..).straps_eq (by decide)
@[simp] theorem Device.setSetp_straps (f : Setp → Setp) : (d.setSetp f).straps = d.straps := (Device.setSetp_only ..).straps_eq (by decide)
@[simp] theorem Device.chainIn_straps (w : RawWord) : (d.chainIn w).straps = d.straps := (Device.chainIn_only ..).straps_eq (by decide)
@[simp] theorem Device.convert_straps (n e entry : Nat) (codes : List Nat) (first : Tick) (tag gust : Bool) : (d.convert n e entry codes first tag gust).2.straps = d.straps := (Device.convert_only ..).straps_eq (by decide)
@[simp] theorem Device.stamp_straps (j : Nat) (f : DriftTag → DriftTag) : (d.stamp j f).straps = d.straps := (Device.stamp_only ..).straps_eq (by decide)
@[simp] theorem Device.auxStart_straps (n : Nat) : (d.auxStart n).straps = d.straps := (Device.auxStart_only ..).straps_eq (by decide)
@[simp] theorem Device.gustRequest_straps (n : Nat) : (d.gustRequest n).straps = d.straps := (Device.gustRequest_only ..).straps_eq (by decide)
@[simp] theorem Device.countWindow_straps (j : Nat) : (d.countWindow j).straps = d.straps := (Device.countWindow_only ..).straps_eq (by decide)
@[simp] theorem Device.evalCmp_straps (j : Nat) : (d.evalCmp j).straps = d.straps := (Device.evalCmp_only ..).straps_eq (by decide)
@[simp] theorem Device.refFault_straps (g : Nat) : (d.refFault g).straps = d.straps := (Device.refFault_only ..).straps_eq (by decide)
@[simp] theorem Device.bailsilSafeHold_straps : d.bailsilSafeHold.straps = d.straps := (Device.bailsilSafeHold_only ..).straps_eq (by decide)
@[simp] theorem Device.handlerFault_straps (cause : Nat) : (d.handlerFault cause).straps = d.straps := (Device.handlerFault_only ..).straps_eq (by decide)
@[simp] theorem Device.errReport_straps (code die kind index detail : Nat) (die2 : Option Nat) (second : Bool) : (d.errReport code die kind index detail die2 second).straps = d.straps := (Device.errReport_only ..).straps_eq (by decide)
@[simp] theorem Device.mdlDrain_straps : d.mdlDrain.straps = d.straps := (Device.mdlDrain_only ..).straps_eq (by decide)
@[simp] theorem Device.mdlSend_straps (ty sub len : Nat) (b : MdlBody) : (d.mdlSend ty sub len b).straps = d.straps := (Device.mdlSend_only ..).straps_eq (by decide)
@[simp] theorem Device.setPll_straps (n : Nat) (f : Pll → Pll) : (d.setPll n f).straps = d.straps := (Device.setPll_only ..).straps_eq (by decide)
@[simp] theorem Device.setSc_straps (x : Nat) (f : StClock → StClock) : (d.setSc x f).straps = d.straps := (Device.setSc_only ..).straps_eq (by decide)
@[simp] theorem Device.setScs_straps (f : StClock → StClock) : (d.setScs f).straps = d.straps := (Device.setScs_only ..).straps_eq (by decide)
@[simp] theorem Device.answer_straps (v : Nat) : (d.answer v).straps = d.straps := (Device.answer_only ..).straps_eq (by decide)
@[simp] theorem Device.feedbacks_straps : d.feedbacks.straps = d.straps := (Device.feedbacks_only ..).straps_eq (by decide)
@[simp] theorem Device.pllLocked_straps (n : Nat) : (d.pllLocked n).straps = d.straps := (Device.pllLocked_only ..).straps_eq (by decide)
@[simp] theorem Device.ctbStart_straps : d.ctbStart.straps = d.straps := (Device.ctbStart_only ..).straps_eq (by decide)
@[simp] theorem Device.holdoverEnd_straps : d.holdoverEnd.straps = d.straps := (Device.holdoverEnd_only ..).straps_eq (by decide)
@[simp] theorem Device.portsDown_straps : d.portsDown.straps = d.straps := (Device.portsDown_only ..).straps_eq (by decide)
@[simp] theorem Device.scLose_straps (x : Nat) (stepped : Bool) : (d.scLose x stepped).straps = d.straps := (Device.scLose_only ..).straps_eq (by decide)
@[simp] theorem Device.correlate_straps : d.correlate.straps = d.straps := (Device.correlate_only ..).straps_eq (by decide)
@[simp] theorem Device.pullUpdate_straps : d.pullUpdate.straps = d.straps := (Device.pullUpdate_only ..).straps_eq (by decide)
@[simp] theorem Device.ethSend_straps (x : EthTx) : (d.ethSend x).straps = d.straps := (Device.ethSend_only ..).straps_eq (by decide)
@[simp] theorem Device.enterFrame_straps (src : BitVec 48) (seq dir : Nat) : (d.enterFrame src seq dir).straps = d.straps := (Device.enterFrame_only ..).straps_eq (by decide)
@[simp] theorem Device.scStep_straps (x : Nat) (step : Rat) (f : StClock → StClock) : (d.scStep x step f).straps = d.straps := (Device.scStep_only ..).straps_eq (by decide)
@[simp] theorem Device.scIncrement_straps (x inc : Nat) : (d.scIncrement x inc).straps = d.straps := (Device.scIncrement_only ..).straps_eq (by decide)
@[simp] theorem Device.setBest_straps (x port : Nat) (f : BestMaster → BestMaster) : (d.setBest x port f).straps = d.straps := (Device.setBest_only ..).straps_eq (by decide)
@[simp] theorem Device.selectPort_straps (x : Nat) : (d.selectPort x).straps = d.straps := (Device.selectPort_only ..).straps_eq (by decide)
@[simp] theorem Device.takeOffset_straps (x port : Nat) (offset : Rat) : (d.takeOffset x port offset).straps = d.straps := (Device.takeOffset_only ..).straps_eq (by decide)
@[simp] theorem Device.setAxis_straps (amp : Bool) (f : Axis → Axis) : (d.setAxis amp f).straps = d.straps := (Device.setAxis_only ..).straps_eq (by decide)
@[simp] theorem Device.beginSegment_straps (amp : Bool) (i : Nat) : (d.beginSegment amp i).straps = d.straps := (Device.beginSegment_only ..).straps_eq (by decide)
@[simp] theorem Device.startMove_straps (m : Move) : (d.startMove m).straps = d.straps := (Device.startMove_only ..).straps_eq (by decide)
@[simp] theorem Device.brkSettle_straps (b : Nat) : (d.brkSettle b).straps = d.straps := (Device.brkSettle_only ..).straps_eq (by decide)
@[simp] theorem Device.seqPhase_straps (ph : Nat) : (d.seqPhase ph).straps = d.straps := (Device.seqPhase_only ..).straps_eq (by decide)
@[simp] theorem Device.bsBegin_straps : d.bsBegin.straps = d.straps := (Device.bsBegin_only ..).straps_eq (by decide)
@[simp] theorem Device.lateLive_straps : d.lateLive.straps = d.straps := (Device.lateLive_only ..).straps_eq (by decide)
@[simp] theorem Device.setNode_straps (c : Nat) (f : NodeView → NodeView) : (d.setNode c f).straps = d.straps := (Device.setNode_only ..).straps_eq (by decide)
@[simp] theorem Device.setCell_straps (c : Nat) (f : ModCell → ModCell) : (d.setCell c f).straps = d.straps := (Device.setCell_only ..).straps_eq (by decide)
@[simp] theorem Device.setArm_straps (a : Nat) (f : ModArm → ModArm) : (d.setArm a f).straps = d.straps := (Device.setArm_only ..).straps_eq (by decide)
@[simp] theorem Device.bypass_straps (c cause : Nat) : (d.bypass c cause).straps = d.straps := (Device.bypass_only ..).straps_eq (by decide)
@[simp] theorem Device.bypassInput_straps : d.bypassInput.straps = d.straps := (Device.bypassInput_only ..).straps_eq (by decide)
@[simp] theorem Device.circLoop_straps (i0ref i0 : Rat) (held : Bool) : (d.circLoop i0ref i0 held).straps = d.straps := (Device.circLoop_only ..).straps_eq (by decide)
@[simp] theorem Device.scheduleArm_straps (arm : Nat) : (d.scheduleArm arm).straps = d.straps := (Device.scheduleArm_only ..).straps_eq (by decide)
@[simp] theorem Device.sendCheck_straps (arm : Nat) : (d.sendCheck arm).straps = d.straps := (Device.sendCheck_only ..).straps_eq (by decide)
@[simp] theorem Device.sendRecord_straps (arm : Nat) (r : ArmRecord) : (d.sendRecord arm r).straps = d.straps := (Device.sendRecord_only ..).straps_eq (by decide)
@[simp] theorem Device.overrun_straps (arm kind : Nat) : (d.overrun arm kind).straps = d.straps := (Device.overrun_only ..).straps_eq (by decide)
@[simp] theorem Device.reuseSchedule_straps (arm : Nat) : (d.reuseSchedule arm).straps = d.straps := (Device.reuseSchedule_only ..).straps_eq (by decide)
@[simp] theorem Device.register_straps (x : Nat) (at_ : Tick) (v : Int) : (d.register x at_ v).straps = d.straps := (Device.register_only ..).straps_eq (by decide)
@[simp] theorem Device.recArmAfresh_straps : d.recArmAfresh.straps = d.straps := (Device.recArmAfresh_only ..).straps_eq (by decide)
@[simp] theorem Device.recStop_straps (st : Nat) : (d.recStop st).straps = d.straps := (Device.recStop_only ..).straps_eq (by decide)
@[simp] theorem Device.recWrite_straps (f : RecFrame) : (d.recWrite f).straps = d.straps := (Device.recWrite_only ..).straps_eq (by decide)
@[simp] theorem Device.chargeFail_straps (cause : Nat) : (d.chargeFail cause).straps = d.straps := (Device.chargeFail_only ..).straps_eq (by decide)
@[simp] theorem Device.transition_straps (new no : Nat) : (d.transition new no).straps = d.straps := (Device.transition_only ..).straps_eq (by decide)
@[simp] theorem Device.tinLevel_straps (i : Nat) (level : Bool) : (d.tinLevel i level).straps = d.straps := (Device.tinLevel_only ..).straps_eq (by decide)
@[simp] theorem Device.clearRequest_straps (i : Nat) (auto : Bool) : (d.clearRequest i auto).straps = d.straps := (Device.clearRequest_only ..).straps_eq (by decide)
@[simp] theorem Device.decideLatches_straps : d.decideLatches.straps = d.straps := (Device.decideLatches_only ..).straps_eq (by decide)
@[simp] theorem Device.setPack_straps (c : Nat) (f : Pack → Pack) : (d.setPack c f).straps = d.straps := (Device.setPack_only ..).straps_eq (by decide)
@[simp] theorem Device.refreshCauses_straps (c add remove : Nat) : (d.refreshCauses c add remove).straps = d.straps := (Device.refreshCauses_only ..).straps_eq (by decide)
@[simp] theorem Device.xCheckRound_straps (c : Nat) (soh : Bool) : (d.xCheckRound c soh).straps = d.straps := (Device.xCheckRound_only ..).straps_eq (by decide)
@[simp] theorem Device.newTenancy_straps (c : Nat) (ident : BitVec 64) : (d.newTenancy c ident).straps = d.straps := (Device.newTenancy_only ..).straps_eq (by decide)
@[simp] theorem Device.queueDown_straps (c : Nat) (f : DownFrame) : (d.queueDown c f).straps = d.straps := (Device.queueDown_only ..).straps_eq (by decide)
@[simp] theorem Device.meterCell_straps (c : Nat) (edges : List Edge) (v : Rat) (est : Bool) : (d.meterCell c edges v est).straps = d.straps := (Device.meterCell_only ..).straps_eq (by decide)
@[simp] theorem Device.sign_straps (domain : Nat) (l : List (BitVec 8)) : (d.sign domain l).2.2.straps = d.straps := (Device.sign_only ..).straps_eq (by decide)
@[simp] theorem Device.writeRow_straps (c : Nat) : (d.writeRow c).straps = d.straps := (Device.writeRow_only ..).straps_eq (by decide)
@[simp] theorem Device.roundPack_straps (c : Nat) : (d.roundPack c).straps = d.straps := (Device.roundPack_only ..).straps_eq (by decide)
@[simp] theorem Device.balanceLoop_straps : d.balanceLoop.straps = d.straps := (Device.balanceLoop_only ..).straps_eq (by decide)
@[simp] theorem Device.roundLate_straps : d.roundLate.straps = d.straps := (Device.roundLate_only ..).straps_eq (by decide)
@[simp] theorem Device.sendObservers_straps (done : List Nat) : (d.sendObservers done).straps = d.straps := (Device.sendObservers_only ..).straps_eq (by decide)
@[simp] theorem Device.setRing_straps (r : Nat) (f : Ring → Ring) : (d.setRing r f).straps = d.straps := (Device.setRing_only ..).straps_eq (by decide)
@[simp] theorem Device.useStatus_straps (c : Nat) (seq : BitVec 16) (slot : Slot) (isP late : Bool) : (d.useStatus c seq slot isP late).straps = d.straps := (Device.useStatus_only ..).straps_eq (by decide)
@[simp] theorem Device.stepWork_straps (step : Nat) : (d.stepWork step).straps = d.straps := (Device.stepWork_only ..).straps_eq (by decide)
@[simp] theorem Device.compareRing_straps (r : Nat) : (d.compareRing r).straps = d.straps := (Device.compareRing_only ..).straps_eq (by decide)
@[simp] theorem Device.preChargeStart_straps : d.preChargeStart.straps = d.straps := (Device.preChargeStart_only ..).straps_eq (by decide)
@[simp] theorem Device.setSin_straps (n : Nat) (f : SafeIn → SafeIn) : (d.setSin n f).straps = d.straps := (Device.setSin_only ..).straps_eq (by decide)
@[simp] theorem Device.setSout_straps (n : Nat) (f : SafeOut → SafeOut) : (d.setSout n f).straps = d.straps := (Device.setSout_only ..).straps_eq (by decide)
@[simp] theorem Device.setSafe_straps (f : SafeConn → SafeConn) : (d.setSafe f).straps = d.straps := (Device.setSafe_only ..).straps_eq (by decide)
@[simp] theorem Device.driveOutputs_straps : d.driveOutputs.straps = d.straps := (Device.driveOutputs_only ..).straps_eq (by decide)
@[simp] theorem Device.demandOn_straps (fn src : Nat) : (d.demandOn fn src).straps = d.straps := (Device.demandOn_only ..).straps_eq (by decide)
@[simp] theorem Device.demandSet_straps (fn src : Nat) (on : Bool) : (d.demandSet fn src on).straps = d.straps := (Device.demandSet_only ..).straps_eq (by decide)
@[simp] theorem Device.safetyReset_straps : d.safetyReset.1.straps = d.straps := (Device.safetyReset_only ..).straps_eq (by decide)
@[simp] theorem Device.sinFault_straps (n cause : Nat) : (d.sinFault n cause).straps = d.straps := (Device.sinFault_only ..).straps_eq (by decide)
@[simp] theorem Device.evalInputs_straps : d.evalInputs.straps = d.straps := (Device.evalInputs_only ..).straps_eq (by decide)
@[simp] theorem Device.soutFault_straps (n sw : Nat) : (d.soutFault n sw).straps = d.straps := (Device.soutFault_only ..).straps_eq (by decide)
@[simp] theorem Device.scFollow_straps : d.scFollow.straps = d.straps := (Device.scFollow_only ..).straps_eq (by decide)
@[simp] theorem Device.scReturn_straps : d.scReturn.straps = d.straps := (Device.scReturn_only ..).straps_eq (by decide)
@[simp] theorem Device.fallBack_straps (cause : Nat) : (d.fallBack cause).straps = d.straps := (Device.fallBack_only ..).straps_eq (by decide)
@[simp] theorem Device.bailsilReset_straps : d.bailsilReset.straps = d.straps := (Device.bailsilReset_only ..).straps_eq (by decide)
@[simp] theorem Device.afterMove_straps (n : Nat) : (d.afterMove n).straps = d.straps := (Device.afterMove_only ..).straps_eq (by decide)
@[simp] theorem Device.setTArm_straps (a : Nat) (f : TwinArm → TwinArm) : (d.setTArm a f).straps = d.straps := (Device.setTArm_only ..).straps_eq (by decide)
@[simp] theorem Device.twinStatus_straps : d.twinStatus.straps = d.straps := (Device.twinStatus_only ..).straps_eq (by decide)
@[simp] theorem Device.yieldMaster_straps (b : PeerBeacon) : (d.yieldMaster b).straps = d.straps := (Device.yieldMaster_only ..).straps_eq (by decide)
@[simp] theorem Device.followState_straps (b : PeerBeacon) : (d.followState b).straps = d.straps := (Device.followState_only ..).straps_eq (by decide)
@[simp] theorem Device.answerAsks_straps (b : PeerBeacon) : (d.answerAsks b).straps = d.straps := (Device.answerAsks_only ..).straps_eq (by decide)
@[simp] theorem Device.relaySchedule_straps (arm : Nat) (resume : Bool) : (d.relaySchedule arm resume).straps = d.straps := (Device.relaySchedule_only ..).straps_eq (by decide)
@[simp] theorem Device.compareStream_straps (x : Nat) (peer : Int) : (d.compareStream x peer).straps = d.straps := (Device.compareStream_only ..).straps_eq (by decide)
@[simp] theorem Device.decideArm_straps (arm : Nat) : (d.decideArm arm).straps = d.straps := (Device.decideArm_only ..).straps_eq (by decide)
@[simp] theorem Device.takeCopy_straps (arm : Nat) : (d.takeCopy arm).straps = d.straps := (Device.takeCopy_only ..).straps_eq (by decide)
@[simp] theorem Device.roleChange_straps (active : Bool) : (d.roleChange active).straps = d.straps := (Device.roleChange_only ..).straps_eq (by decide)
@[simp] theorem Device.corrected_straps (die word : Nat) : (d.corrected die word).straps = d.straps := (Device.corrected_only ..).straps_eq (by decide)
@[simp] theorem Device.slotSentEmpty_straps (cell : Nat) : (d.slotSentEmpty cell).straps = d.straps := (Device.slotSentEmpty_only ..).straps_eq (by decide)
@[simp] theorem Device.logPersist_straps : d.logPersist.straps = d.straps := (Device.logPersist_only ..).straps_eq (by decide)
@[simp] theorem Device.fwRestart_straps : d.fwRestart.straps = d.straps := (Device.fwRestart_only ..).straps_eq (by decide)
@[simp] theorem Device.setChan_straps (c : Nat) (f : Channel → Channel) : (d.setChan c f).straps = d.straps := (Device.setChan_only ..).straps_eq (by decide)
@[simp] theorem Device.msixUnmask_straps (v : Nat) : (d.msixUnmask v).straps = d.straps := (Device.msixUnmask_only ..).straps_eq (by decide)
@[simp] theorem Device.stage_straps (pairs : List (Nat × BitVec 32)) : (d.stage pairs).1.straps = d.straps := (Device.stage_only ..).straps_eq (by decide)
@[simp] theorem Device.setDirty_straps : d.setDirty.straps = d.straps := (Device.setDirty_only ..).straps_eq (by decide)
@[simp] theorem Device.commitEffects_straps (old : PSet) : (d.commitEffects old).straps = d.straps := (Device.commitEffects_only ..).straps_eq (by decide)
@[simp] theorem Device.queueTxn_straps (h : CmdHdr) (ring addr : Nat) (q : SlowReq) : (d.queueTxn h ring addr q).1.straps = d.straps := (Device.queueTxn_only ..).straps_eq (by decide)
@[simp] theorem Device.hostClear_straps (i : Nat) : (d.hostClear i).1.straps = d.straps := (Device.hostClear_only ..).straps_eq (by decide)
@[simp] theorem Device.tripRearm_straps (i : Nat) : (d.tripRearm i).1.straps = d.straps := (Device.tripRearm_only ..).straps_eq (by decide)
@[simp] theorem Device.sinRearm_straps (n : Nat) : (d.sinRearm n).1.straps = d.straps := (Device.sinRearm_only ..).straps_eq (by decide)
@[simp] theorem Device.soutRearm_straps (n : Nat) : (d.soutRearm n).1.straps = d.straps := (Device.soutRearm_only ..).straps_eq (by decide)
@[simp] theorem Device.setMask_straps (m : Nat) (f : MaskRun → MaskRun) : (d.setMask m f).straps = d.straps := (Device.setMask_only ..).straps_eq (by decide)
@[simp] theorem Device.maskCycle_straps (m : Nat) : (d.maskCycle m).straps = d.straps := (Device.maskCycle_only ..).straps_eq (by decide)
@[simp] theorem Device.setSensor_straps (i : Nat) (f : HkSensor → HkSensor) : (d.setSensor i f).straps = d.straps := (Device.setSensor_only ..).straps_eq (by decide)
@[simp] theorem Device.setRail_straps (v : Nat) (f : HkSensor → HkSensor) : (d.setRail v f).straps = d.straps := (Device.setRail_only ..).straps_eq (by decide)
@[simp] theorem Device.dieRound_straps (temps : List Int) : (d.dieRound temps).straps = d.straps := (Device.dieRound_only ..).straps_eq (by decide)
@[simp] theorem Device.supplies_straps (rails : List Nat) : (d.supplies rails).straps = d.straps := (Device.supplies_only ..).straps_eq (by decide)
@[simp] theorem Device.references_straps (readings : List Rat) : (d.references readings).straps = d.straps := (Device.references_only ..).straps_eq (by decide)
@[simp] theorem Device.closeRound_straps : d.closeRound.straps = d.straps := (Device.closeRound_only ..).straps_eq (by decide)
@[simp] theorem Device.verifyNext_straps : d.verifyNext.straps = d.straps := (Device.verifyNext_only ..).straps_eq (by decide)
@[simp] theorem Device.correlateRound_straps : d.correlateRound.straps = d.straps := (Device.correlateRound_only ..).straps_eq (by decide)
end

end Sys2Proof.Machine
end

section
/-! PROOF of O10. The straps, command by command. -/

namespace Sys2Proof.Machine

open Sys2Proof

section
variable {s s' : State} {t : Tick}

/-! ## Commands that decide on several parts of the device -/

theorem execSampleTrigger_straps {codes : List (List (BitVec 16))} (h : execSampleTrigger codes s = .next s') : s'.dev.straps = s.dev.straps := by
  refine State.on_straps h fun d => Only.ite .refl ?_
  extract_lets before bounded opened mirrored
  have hbounded : Only Region.butStraps d bounded :=
    (((Only.refl.andThen (Device.cycleEnd_only ..)).andThen (Device.cycleBegin_only ..)).andThen (Device.roundItems_only ..)).andThen (Device.boundaryAll_only ..)
  have hopened : Only Region.butStraps d opened :=
    ((((hbounded.andThen (Device.setProt_only ..)).andThen (Device.frameOpen_only ..)).andThen (Device.maskStarts_only ..)).andThen (Device.setpFrequency_only ..)).andThen
      (Device.shiftSamples_only ..)
  have hmirrored : Only Region.butStraps d mirrored :=
    ((hopened.andThen (Device.freezeSnapshot_only ..)).andThen (Device.slpSample_only ..)).andThen (Device.twinCycle_only ..)
  exact ((hmirrored.andThen (Device.driftDraw_only ..)).andThen (Device.cycleSequences_only ..)).andThen (Device.sendStreams_only ..)

theorem execLoadAll_straps (h : execLoadAll t s = .next s') : s'.dev.straps = s.dev.straps := by
  refine State.on_straps h fun d => Only.ite .refl ?_
  extract_lets closed bypassed due noted cleared
  have hclosed : Only Region.butStraps d closed := (Only.refl.andThen (Device.closeFrames_only ..)).andThen (Device.restCycle_only ..)
  have hbypassed : Only Region.butStraps d bypassed := Only.ite (hclosed.andThen (Device.bypassSteps_only ..)) hclosed
  have hcleared : Only Region.butStraps d cleared := (hbypassed.andThen (Device.setConv_only ..)).andThen (Device.setProt_only ..)
  split
  next e resume harms =>
  have he : Only Region.butStraps d e := Only.of_fst harms (hcleared.andThen (Device.arms_only ..))
  extract_lets sent counted offered shown
  have hsent : Only Region.butStraps d sent :=
    ((((he.andThen (Device.launch_only ..)).andThen (Device.sentOn_only ..)).andThen (Device.launchedCells_only ..)).andThen (Device.bypassSteps_only ..)).andThen
      (Device.buildWindows_only ..)
  have hcounted : Only Region.butStraps d counted := Only.ite hsent (hsent.andThen (Device.setModu_only ..))
  have hoffered : Only Region.butStraps d offered := Only.foldl (fun _ _ hx => hx.andThen (Device.availability_only ..)) hcounted
  have hshown : Only Region.butStraps d shown :=
    (((hoffered.andThen (Device.setModu_only ..)).andThen (Device.modShow_only ..)).andThen (Device.meterOpen_only ..)).andThen (Device.setTwin_only ..)
  exact ((hshown.andThen (Device.stamp_only ..)).andThen (Device.pmcPulse_only ..)).andThen (Device.strobeWatch_only ..)

theorem execEnumMatchEnd_straps (h : execEnumMatchEnd t s = .next s') : s'.dev.straps = s.dev.straps :=
  State.on_straps h fun _ => Only.ite .refl ((Only.refl.andThen (Device.noProfiles_only ..)).andThen (Device.setConv_only ..))

theorem execCtbSecond_straps (h : execCtbSecond t s = .next s') : s'.dev.straps = s.dev.straps := by
  refine State.on_straps h fun d => ?_
  have hsecond : Only Region.butStraps d d.ctbSecond := Only.refl.andThen (Device.ctbSecond_only ..)
  exact Only.ite hsecond (hsecond.andThen (Device.twinSecond_only ..))

theorem execAnemometerDump_straps (h : execAnemometerDump t s = .next s') : s'.dev.straps = s.dev.straps := by
  refine State.on_straps h fun d => Only.ite .refl ?_
  extract_lets dumped fail
  have hdumped : Only Region.butStraps d dumped := Only.refl.andThen (Device.setPmc_only ..)
  have hfail : ∀ e, Only Region.butStraps d e → Only Region.butStraps d (fail e) := fun e he => by
    simp only [fail]
    split
    · exact he.andThen (Device.complete_only ..)
    · exact he
  exact Only.ite (hfail _ hdumped) (Only.ite (hfail _ (hdumped.andThen (Device.setPmc_only ..))) (hdumped.andThen (Device.setPmc_only ..)))

theorem execDumpWriteDone_straps {ok : Bool} (h : execDumpWriteDone t ok s = .next s') : s'.dev.straps = s.dev.straps := by
  refine State.on_straps h fun d => ?_
  split
  · exact .refl
  extract_lets finish posted noted failed
  have hfinish : ∀ e end_, Only Region.butStraps d e → Only Region.butStraps d (finish e end_) := fun e end_ he => by
    simp only [finish]
    split
    · exact he.andThen (Device.complete_only ..)
    · exact he
  refine Only.ite (hfinish _ _ ?_) ((hfinish _ _ ?_).andThen (Device.errReport_only ..))
  · exact ((Only.refl.andThen (Device.post_only ..)).andThen (Device.setPmc_only ..)).andThen (Device.msix_only ..)
  · exact (Only.refl.andThen (Device.setPmc_only ..)).andThen (Device.dmaFail_only ..)

theorem execCommandFetch_straps {entry : Option (BitVec 512)} (h : execCommandFetch t entry s = .next s') : s'.dev.straps = s.dev.straps := by
  refine State.on_straps h fun d => ?_
  split
  case h_2 => exact .refl
  split
  · exact Only.refl.andThen (Device.dmaFail_only ..)
  refine Only.ite .refl ?_
  extract_lets _ taken
  have htaken : Only Region.butStraps d taken := (Only.refl.andThen (Device.setChan_only ..)).andThen (Device.setHost_only ..)
  split
  · exact htaken.andThen (Device.complete_only ..)
  · exact htaken

theorem execEthFrameReceived_straps {port : Fin 2} {len : Nat} {src : BitVec 48} {kind : Fin 5} {tag : Option (Nat × Nat)} {mine : Bool}
    (h : execEthFrameReceived t port len src kind tag mine s = .next s') : s'.dev.straps = s.dev.straps := by
  refine State.on_straps h fun d => Only.ite .refl ?_
  extract_lets +onlyGivenNames counted
  have hcounted : Only Region.butStraps d counted := Only.refl.andThen (Device.pmcPulse_only ..)
  refine Only.ite (hcounted.andThen (Device.setNet_only ..)) (Only.ite (hcounted.andThen (Device.ownReturned_only ..)) ?_)
  extract_lets wrong noted copy dup entered
  have hnoted : Only Region.butStraps d noted := Only.ite ((hcounted.andThen (Device.setNet_only ..)).andThen (Device.raiseRated_only ..)) hcounted
  have hentered : Only Region.butStraps d entered := by
    clear_value copy
    simp only [entered]
    split
    · exact hnoted.andThen (Device.enterFrame_only ..)
    · exact hnoted
  exact Only.ite (hnoted.andThen (Device.setNet_only ..)) (Only.ite (hentered.andThen (Device.nodeSeen_only ..))
    (Only.ite (Only.ite hentered (hentered.andThen (Device.setNet_only ..))) hentered))

theorem execPtpFollowUp_straps {dom : Nat} {port : Fin 2} {src : BitVec 80} {seq : Nat} {mac : BitVec 48} {origin corr : Rat}
    (h : execPtpFollowUp t dom port src seq mac origin corr s = .next s') : s'.dev.straps = s.dev.straps := by
  refine State.on_straps h fun d => Only.ite .refl ?_
  extract_lets _ mine _ _ _ _ forwarded dropped
  have hforwarded : Only Region.butStraps d forwarded := Only.ite (Only.refl.andThen (Device.setNet_only ..)) .refl
  have hdropped : Only Region.butStraps d dropped := hforwarded.andThen (Device.setNet_only ..)
  clear_value mine
  split
  · exact hdropped
  · exact Only.foldl (fun _ _ hx => hx.andThen (Device.takeOffset_only ..)) hdropped

theorem execReturningFrame_straps {ring : Fin 12} {lane : Bool} {frame : List (BitVec 8)} (h : execReturningFrame t ring lane frame s = .next s') :
    s'.dev.straps = s.dev.straps := by
  refine State.on_straps h fun d => Only.ite .refl ?_
  extract_lets noted
  have hnoted : Only Region.butStraps d noted := Only.ite (Only.refl.andThen (Device.setTwin_only ..)) .refl
  refine Only.ite (((hnoted.andThen (Device.setRing_only ..)).andThen (Device.linkErr_only ..)).andThen (Device.pmcPulse_only ..)) ?_
  extract_lets
  split
  · exact Only.ite (hnoted.andThen (Device.linkErr_only ..)) (hnoted.andThen (Device.takeFrame_only ..))
  · exact hnoted.andThen (Device.linkErr_only ..)

theorem execSlpMonitor_straps (h : execSlpMonitor t s = .next s') : s'.dev.straps = s.dev.straps := by
  refine State.on_straps h fun d => Only.ite .refl ?_
  extract_lets _ _ _ _ _ _ _ _ _ _ _ watched
  have hwatched : Only Region.butStraps d watched := Only.refl.andThen (Device.setSaf_only ..)
  refine Only.ite (Only.ite hwatched ?_) (Only.ite ((hwatched.andThen (Device.setSaf_only ..)).andThen (Device.demandOff_only ..)) hwatched)
  split
  next v e hquant =>
  have he : Only Region.butStraps d e := Only.of_snd hquant (hwatched.andThen (Device.quant_only ..))
  exact ((he.andThen (Device.setSaf_only ..)).andThen (Device.raise_only ..)).andThen (Device.demandOn_only ..)

theorem execRegisterWrite_straps {offset : BitVec 26} {v : BitVec 32} (h : execRegisterWrite t offset v s = .next s') : s'.dev.straps = s.dev.straps := by
  refine State.on_straps h fun d => Only.ite (Only.ite (Only.refl.andThen (Device.soffitWrite_only ..)) .refl)
    (Only.ite .refl (Only.ite (Only.refl.andThen (Device.msixStore_only ..)) ?_))
  split
  · exact Only.refl.andThen (Device.hostErr_only ..)
  · exact (Only.refl.andThen (Device.reserved_only ..)).andThen (Device.regStore_only ..)

theorem execRafterLawEvaluation_straps {clocks : Nat} {fail : Fin 3} (h : execRafterLawEvaluation t clocks fail s = .next s') : s'.dev.straps = s.dev.straps := by
  refine State.on_straps h fun d => Only.ite .refl ?_
  extract_lets timed
  have htimed : Only Region.butStraps d timed := Only.refl.andThen (Device.setLaw_only ..)
  split
  · exact (((htimed.andThen (Device.lawCycle_only ..)).andThen (Device.setLaw_only ..)).andThen (Device.stamp_only ..)).andThen (Device.sendCheckpoint_only ..)
  · exact (htimed.andThen (Device.meterSamples_only ..)).andThen (Device.errReport_only ..)
  · exact (htimed.andThen (Device.meterSamples_only ..)).andThen (Device.errReport_only ..)

theorem execErrorHandlingDone_straps (h : execErrorHandlingDone t s = .next s') : s'.dev.straps = s.dev.straps := by
  refine State.on_straps h fun d => Only.ite .refl ?_
  split
  · exact .refl
  · exact (((Only.refl.andThen (Device.classAction_only ..)).andThen (Device.logError_only ..)).andThen (Device.setEh_only ..)).andThen (Device.takeError_only ..)

theorem execCommitCheckDone_straps (h : execCommitCheckDone t s = .next s') : s'.dev.straps = s.dev.straps := by
  refine State.on_straps h fun d => ?_
  split
  · exact .refl
  split
  · exact (Only.refl.andThen (Device.setPar_only ..)).andThen (Device.complete_only ..)
  · exact (Only.refl.andThen (Device.setPar_only ..)).andThen (Device.setDirty_only ..)

theorem execCmdParamRead_straps {hdr : CmdHdr} {a : Args} (h : execCmdParamRead t hdr a s = .next s') : s'.dev.straps = s.dev.straps := by
  refine State.on_straps h fun d => only_butStraps_iff.mpr (Device.cmdIf_straps fun x => ?_)
  dsimp only
  split
  · rfl
  · split <;> rfl

theorem execSafeChannelPdu_straps (h : execSafeChannelPdu t s = .next s') : s'.dev.straps = s.dev.straps := by
  refine State.on_straps h fun d => ?_
  split
  · exact .refl
  extract_lets taken _ _ _ _ _ _
  have htaken : Only Region.butStraps d taken := Only.refl.andThen (Device.setNet_only ..)
  have hdiscard : ∀ b, Only Region.butStraps d (taken.pduDiscard b) := fun b => htaken.andThen (Device.pduDiscard_only ..)
  refine Only.ite htaken (Only.ite (hdiscard _) (Only.ite ?_ (Only.ite (hdiscard _) (Only.ite (hdiscard _) (htaken.andThen (Device.pduAccept_only ..))))))
  exact Only.ite (hdiscard _) (Only.ite htaken (Only.ite (hdiscard _) (Only.ite (hdiscard _) (htaken.andThen (Device.pduAccept_only ..)))))

theorem execMardalLaneDown_straps {lane : Fin 2} (h : execMardalLaneDown t lane s = .next s') : s'.dev.straps = s.dev.straps := by
  refine State.on_straps h fun d => Only.ite .refl ?_
  extract_lets down reported lost
  have hreported : Only Region.butStraps d reported := ((Only.refl.andThen (Device.mdlDrain_only ..)).andThen (Device.setTwin_only ..)).andThen (Device.raiseRated_only ..)
  have hlost : Only Region.butStraps d lost := hreported.andThen (Device.setTwin_only ..)
  exact Only.ite hreported ((Only.ite (hlost.andThen (Device.setClk_only ..)) hlost).andThen (Device.twinStatus_only ..))

/-! ## Resets (R350 to R353, R484, R499): only a release reads the pins -/

@[simp] theorem Device.cleared_straps {d : Device} : d.cleared.straps = d.straps := rfl

@[simp] theorem Device.awaitBeats_straps {d : Device} : d.awaitBeats.straps = d.straps := rfl

@[simp] theorem Device.romBoot_straps {d : Device} {skip : Option Nat} : (d.romBoot skip).straps = d.straps := (Device.romBoot_only ..).straps_eq (by decide)

@[simp] theorem Device.deviceReset_straps {d : Device} {skip : Option Nat} : (d.deviceReset skip).straps = d.straps := Device.romBoot_straps

@[simp] theorem Device.recover_straps {d : Device} {b : List (BitVec 8)} : (d.recover b).straps = d.straps := by
  unfold Device.recover
  split <;> rfl

theorem execBootWatchdogExpiry_straps (h : execBootWatchdogExpiry t s = .next s') : s'.dev.straps = s.dev.straps := by
  refine State.on_straps h fun d => Only.ite .refl (Only.ite ?_ ?_)
  · exact only_butStraps_iff.mpr (Device.romBoot_straps (d := d.cleared.awaitBeats.setConv fun c => { c with bootFalls := d.conv.bootFalls + 1 }))
  · exact only_butStraps_iff.mpr rfl

theorem execRailSupervisorUndervoltage_straps {rail : Fin 8} (h : execRailSupervisorUndervoltage t rail s = .next s') : s'.dev.straps = s.dev.straps := by
  refine State.on_straps h fun d => Only.ite (Only.refl.andThen (Device.refFaultAll_only ..)) ?_
  have hlow : Only Region.butStraps d (d.setLow rail.val true) := Only.refl.andThen (Device.setLow_only ..)
  refine Only.ite (Only.ite hlow ((hlow.andThen (Device.bailsilReset_only ..)).andThen (Device.setConv_only ..))) (Only.ite hlow ?_)
  exact hlow.trans (only_butStraps_iff.mpr rfl)

/-- The release of Bailsil's reset reads no strap; that of a device reset does. -/
theorem execRailSupervisorRelease_straps {bsl twinId twinEn : Bool} {sel : BitVec 2} (h : execRailSupervisorRelease t bsl twinId twinEn sel s = .next s')
    (hbsl : bsl ≠ false) : s'.dev.straps = s.dev.straps := by
  refine State.on_straps h fun d => ?_
  rw [if_pos (Bool.of_not_eq_false hbsl)]
  exact Only.ite .refl (((Only.refl.andThen (Device.setLow_only ..)).andThen (Device.setConv_only ..)).andThen (Device.bailsilReset_only ..))
end

/-! ## Every command -/

/-- Only the release of a device reset, by RESET_N or by the supervisor of the core rails, changes the straps (R351). A block from the peer, a mailbox command or a write to a station clock keeps them if its body does, and so does a branch on a part of the device if each side does. -/
theorem exec_straps {c : Instr} {s s' : State} (h : exec c s = .next s') (hreset : ∀ t p i e b, c ≠ .deviceReset t p i e b)
    (hrelease : ∀ t i e b, c ≠ .railSupervisorRelease t false i e b) : s'.dev.straps = s.dev.straps := by
  cases c
  case deviceReset t p i e b => exact absurd rfl (hreset t p i e b)
  case railSupervisorRelease t bsl i e b => exact execRailSupervisorRelease_straps h fun hbsl => hrelease t i e b (by rw [hbsl])
  case sampleTrigger => exact execSampleTrigger_straps h
  case loadAll => exact execLoadAll_straps h
  case enumMatchEnd => exact execEnumMatchEnd_straps h
  case ctbSecond => exact execCtbSecond_straps h
  case anemometerDump => exact execAnemometerDump_straps h
  case dumpWriteDone => exact execDumpWriteDone_straps h
  case commandFetch => exact execCommandFetch_straps h
  case ethFrameReceived => exact execEthFrameReceived_straps h
  case ptpFollowUp => exact execPtpFollowUp_straps h
  case returningFrame => exact execReturningFrame_straps h
  case slpMonitor => exact execSlpMonitor_straps h
  case registerWrite => exact execRegisterWrite_straps h
  case rafterLawEvaluation => exact execRafterLawEvaluation_straps h
  case errorHandlingDone => exact execErrorHandlingDone_straps h
  case commitCheckDone => exact execCommitCheckDone_straps h
  case cmdParamRead => exact execCmdParamRead_straps h
  case safeChannelPdu => exact execSafeChannelPdu_straps h
  case mardalLaneDown => exact execMardalLaneDown_straps h
  case bootWatchdogExpiry => exact execBootWatchdogExpiry_straps h
  case railSupervisorUndervoltage => exact execRailSupervisorUndervoltage_straps h
  case beacon | timeProbe | lawCheckpoint | battenInputs | mardalArmRecord | scheduleCheck | streamBlock | statusBlock | observerBlock | meterBlock |
      digestBlock | battenStateBlock =>
    exact State.on_straps h fun _ => only_butStraps_iff.mpr (Device.block_straps fun _ => by simp [Device.foldl_straps, Device.ite_straps])
  case cmdRecArm | cmdRecStop | cmdRecTrigger | cmdRecMaskStart | cmdEhLogRead | cmdEhAck | cmdEhLogClear | cmdFwRestart | cmdFwCommit | cmdSecIdentity |
      cmdDbgChallenge | cmdParamStage | cmdParamStageDefaults | cmdParamDiscard | cmdParamCommit | cmdParamPersist | cmdNop | cmdStateReq | cmdTrFlush
      | cmdLandAbort | cmdBrkClose | cmdBrkRearm | cmdFeedbackRearm | cmdCellBypass | cmdCellReturn | cmdPackRearm | cmdPackTenancy | cmdBmsTap |
      cmdBmsSend | cmdMeterSnapshot | cmdMeterAck | cmdNodeRead | cmdNodeWrite | cmdTripClear | cmdTripRearm | cmdTripForce | cmdGateBaseline |
      cmdSafeReset | cmdSafeRearm | cmdPmcDump | cmdPmcClear | cmdDriftRead | cmdHkRearm =>
    exact State.on_straps h fun _ => only_butStraps_iff.mpr (Device.cmdIf_straps fun _ => by simp [Device.foldl_straps, Device.ite_straps, Device.fst_ite_straps, refusedOver_straps])
  case cmdFwWrite | cmdSecAttest | cmdDbgUnlock | cmdDbgLock | cmdParamStageList | cmdTrMove | cmdTrTableLoad | cmdBlackStart | cmdLand =>
    refine State.on_straps h fun _ => only_butStraps_iff.mpr (Device.cmdIf_straps fun _ => ?_)
    repeat' split
    all_goals simp [Device.fst_ite_straps]
  case auxSequenceStart | spareDacSwitch | pllRelockDone | pdelayRespReceived | recorderFrameWrite | centreModeRecoveryEnd | meterBankWriteDone |
      snapshotSigned | sinDiscrepancy | sciConfirmExpiry | safeRemind | handlerFault | fwWriteDone | attestSigned | paramPersistDone | driftTagEnd |
      resumeEdge =>
    refine State.on_straps h fun _ => only_butStraps_iff.mpr ?_
    split <;> simp [Device.foldl_straps, Device.ite_straps]
  case auxEntryEnd | clkoutChangeApply | moveStart | segmentStart | moveEnd | breakerDiscrepancy | triggerCondition | bmsTransmitFrame | sinPulseMissed =>
    refine State.on_straps h fun _ => only_butStraps_iff.mpr ?_
    dsimp only
    split <;> simp [Device.ite_straps]
  case scIncrementWrite | scApplySet | scApplyStep =>
    exact State.on_straps h fun _ => only_butStraps_iff.mpr (by simp [Device.scHost_straps, Device.ite_straps])
  all_goals exact State.on_straps h fun _ => only_butStraps_iff.mpr (by simp [Device.foldl_straps, Device.ite_straps])

end Sys2Proof.Machine
end

section
/-! PROOF of O10. The boot (R351, R352, R499, Table 12-2): what the ROM makes of each strap code, what recovery makes of an image, and the statement. -/

namespace Sys2Proof.Machine

open Sys2Proof

/-- The image of slot A (false) or B (true) passes the checks of R445. -/
def Device.passes (d : Device) (slot : Bool) : Bool := d.sec.slotPasses (d.slot (if slot then 1 else 0))

/-- The image of a slot runs. -/
structure Conv.Runs (c : Conv) (slot : Bool) : Prop where
  /-- An image runs. -/
  booted : c.booted = true
  /-- The ROM is not in recovery. -/
  recovery : c.recovery = none
  /-- It is the image of this slot. -/
  slot : c.bootSlot = slot

/-- The ROM waits in recovery over a port: 0 PCI Express, 1 the UART. -/
structure Conv.Recovers (c : Conv) (port : Nat) : Prop where
  /-- In recovery. -/
  recovery : c.recovery = some port
  /-- Nothing runs. -/
  booted : c.booted = false

section
variable {d : Device} {s : State} {t : Tick}

theorem Device.bootImage_runs (slot : Bool) {other : Bool} : (d.bootImage (if slot then 1 else 0) other).conv.Runs slot := ⟨rfl, rfl, by cases slot <;> rfl⟩

/-! ## Table 12-2 -/

theorem Device.romBoot_code0 (hsel : d.straps.bootSel = 0) :
    (∃ slot, d.passes slot = true ∧ (d.romBoot none).conv.Runs slot) ∨ (d.passes false = false ∧ d.passes true = false) ∧ (d.romBoot none).conv.Recovers 0 := by
  have hskip : ∀ i : Nat, ((none : Option Nat) != some i) = true := fun _ => rfl
  cases hA : d.sec.slotPasses (d.slot 0) <;> cases hB : d.sec.slotPasses (d.slot 1)
  case false.false => exact .inr ⟨⟨hA, hB⟩, by simp [Device.romBoot, hsel, hA, hB], by simp [Device.romBoot, hsel, hA, hB]⟩
  case false.true => exact .inl ⟨true, hB, by simpa [Device.romBoot, hskip, hsel, hA, hB] using Device.bootImage_runs true⟩
  case true.false => exact .inl ⟨false, hA, by simpa [Device.romBoot, hskip, hsel, hA, hB] using Device.bootImage_runs false⟩
  case true.true =>
    by_cases hnewer : (d.slot 0).version < (d.slot 1).version
    · exact .inl ⟨true, hB, by simpa [Device.romBoot, hskip, hsel, hA, hB, hnewer] using Device.bootImage_runs true⟩
    · exact .inl ⟨false, hA, by simpa [Device.romBoot, hskip, hsel, hA, hB, hnewer] using Device.bootImage_runs false⟩

theorem Device.romBoot_code1 (hsel : d.straps.bootSel = 1) :
    (d.passes false = true ∧ (d.romBoot none).conv.Runs false) ∨ d.passes false = false ∧ (d.romBoot none).conv.Recovers 0 := by
  have hskip : ((none : Option Nat) != some 0) = true := rfl
  cases hA : d.sec.slotPasses (d.slot 0)
  case false => exact .inr ⟨hA, by simp [Device.romBoot, hsel, hA], by simp [Device.romBoot, hsel, hA]⟩
  case true => exact .inl ⟨hA, by simpa [Device.romBoot, hskip, hsel, hA] using Device.bootImage_runs false⟩

theorem Device.romBoot_code2 {skip : Option Nat} (hsel : d.straps.bootSel = 2) : (d.romBoot skip).conv.Recovers 0 := by
  constructor <;> simp [Device.romBoot, hsel]

theorem Device.romBoot_code3 {skip : Option Nat} (hsel : d.straps.bootSel = 3) : (d.romBoot skip).conv.Recovers 1 := by
  constructor <;> simp [Device.romBoot, hsel]

/-- A device reset clears no image slot and nothing that their checks read. -/
theorem Device.cleared_passes (slot : Bool) : d.cleared.awaitBeats.passes slot = d.passes slot := rfl

@[simp] theorem Device.ready_passes {slot : Bool} : (d.ready t).passes slot = d.passes slot := by simp [Device.passes, Device.slot]

/-- The device at the release of RESET_N: the straps have the pins' levels, and a power-on has ended a supervisor's hold (R351, R484). -/
def Device.sampled (d : Device) (power : Bool) (pins : Straps) : Device :=
  if power then ({ d with straps := pins, rails := Rails.reset } : Device).setConv fun c => { c with bootFalls := 0, devReset := false } else { d with straps := pins }

theorem Device.sampled_straps {power : Bool} {pins : Straps} : (d.sampled power pins).straps = pins := by
  cases power <;> rfl

theorem Device.sampled_passes {power slot : Bool} {pins : Straps} : (d.sampled power pins).passes slot = d.passes slot := by
  cases power <;> rfl

theorem Device.sampled_devReset {power : Bool} {pins : Straps} (hfree : power = true ∨ d.conv.devReset = false) : (d.sampled power pins).conv.devReset = false := by
  cases power
  case false => exact hfree.resolve_left Bool.false_ne_true
  case true => rfl

theorem execDeviceReset_runs {power twinId twinEn : Bool} {sel : BitVec 2} :
    exec (.deviceReset t power twinId twinEn sel) s = s.on t fun d =>
      if (d.sampled power ⟨twinId, twinEn, sel⟩).conv.devReset then (d.sampled power ⟨twinId, twinEn, sel⟩).cleared.setConv fun c => { c with devReset := true, booted := false }
      else (d.sampled power ⟨twinId, twinEn, sel⟩).deviceReset none := by
  cases power <;> rfl

/-- The ROM boots with the pins' levels, from a device whose slots are those before the reset (R351). -/
theorem execDeviceReset_boots {power twinId twinEn : Bool} {sel : BitVec 2} (hfree : power = true ∨ s.dev.conv.devReset = false) :
    Gives (exec (.deviceReset t power twinId twinEn sel) s) s.pending fun d =>
      d.straps.bootSel = sel ∧ ∃ x : Device, x.straps.bootSel = sel ∧ (∀ slot, x.passes slot = s.dev.passes slot) ∧ d.conv = (x.romBoot none).conv := by
  have hrun := Device.sampled_devReset (d := s.dev.ready t) (pins := ⟨twinId, twinEn, sel⟩) (by rwa [Device.ready_conv])
  have hstraps := Device.sampled_straps (d := s.dev.ready t) (power := power) (pins := ⟨twinId, twinEn, sel⟩)
  rw [execDeviceReset_runs, gives_on]
  simp only [Device.carryOut_straps, Device.at_straps, Device.carryOut_conv, Device.at_conv, hrun, Bool.false_eq_true, if_false, Device.deviceReset_straps, hstraps, true_and]
  refine ⟨((s.dev.ready t).sampled power ⟨twinId, twinEn, sel⟩).cleared.awaitBeats, congrArg Straps.bootSel hstraps, fun slot => ?_, rfl⟩
  rw [Device.cleared_passes, Device.sampled_passes, Device.ready_passes]

/-! ## Recovery -/

theorem Device.recover_passing {b : List (BitVec 8)} (hpass : imageCheck d.sec.revoked d.sec.rbc b = 0) :
    (d.recover b).conv.booted = true ∧ (d.recover b).conv.recovery = none ∧ (d.recover b).sec.recImage = true := by
  simp [Device.recover, hpass, Device.cleared, Device.awaitBeats, Device.setConv, Device.reset, Conv.reset]

theorem Device.recover_failing {b : List (BitVec 8)} (hfail : imageCheck d.sec.revoked d.sec.rbc b ≠ 0) : d.recover b = d := if_pos hfail

@[simp] theorem Device.ready_soffit {addr len : Nat} : (d.ready t).soffit addr len = d.soffit addr len := by
  have hmem : (d.ready t).recd.mem = d.recd.mem := (Device.ready_only d t).mem_eq (by decide)
  simp [Device.soffit, hmem]

/-- A command whose effect is to recover with an image: one that passes is booted, another leaves the ROM as it was. -/
theorem State.on_recovers {f : Device → Device} {image : List (BitVec 8)} (hf : f (s.dev.ready t) = (s.dev.ready t).recover image) :
    Gives (s.on t f) s.pending fun d =>
      if imageCheck s.dev.sec.revoked s.dev.sec.rbc image = 0 then d.conv.booted = true ∧ d.conv.recovery = none ∧ d.sec.recImage = true else d.conv = s.dev.conv := by
  refine gives_on.mpr ⟨rfl, ?_⟩
  simp only [Device.carryOut_conv, Device.at_conv, Device.carryOut_sec, Device.at_sec, hf]
  split
  next hpass => exact Device.recover_passing (by simpa using hpass)
  next hfail => rw [Device.recover_failing (by simpa using hfail), Device.ready_conv]
end

end Sys2Proof.Machine
end

section
open Sys2Proof Sys2Proof.Machine

/-- Settles O10: a device reset runs the ROM with the pins' levels, whose four codes are those of Table 12-2; every other command but the release of the device reset frames the straps; and both commands of recovery recover with their image. -/
theorem bootSourceIsSampledAtDeviceReset : Obligations.BootSourceIsSampledAtDeviceReset := by
  unfold Obligations.BootSourceIsSampledAtDeviceReset
  refine ⟨fun s t power twinId twinEn sel hfree => (execDeviceReset_boots hfree).imp ?_, fun c s s' h hreset hrelease => congrArg Straps.bootSel (exec_straps h hreset hrelease), ?_, ?_⟩
  · rintro d ⟨hstraps, x, hsel, hpasses, hconv⟩
    rw [hconv]
    refine ⟨hstraps, ?_, ?_, ?_, ?_, ?_, ?_⟩
    · rintro rfl hrun
      obtain ⟨slot, hpass, hruns⟩ | ⟨-, hrec⟩ := Device.romBoot_code0 hsel
      · exact ⟨hruns.booted, by rw [hruns.slot]; exact (hpasses slot).symm.trans hpass⟩
      · exact absurd (hrec.recovery.symm.trans hrun) (by simp)
    · rintro rfl hrun
      obtain ⟨hpass, hruns⟩ | ⟨-, hrec⟩ := Device.romBoot_code1 hsel
      · exact ⟨hruns.booted, hruns.slot, (hpasses false).symm.trans hpass⟩
      · exact absurd (hrec.recovery.symm.trans hrun) (by simp)
    · rintro rfl hstuck
      obtain ⟨slot, -, hruns⟩ | ⟨⟨hA, hB⟩, -⟩ := Device.romBoot_code0 hsel
      · exact absurd hruns.recovery hstuck
      · exact ⟨(hpasses false).symm.trans hA, (hpasses true).symm.trans hB⟩
    · rintro rfl hstuck
      obtain ⟨-, hruns⟩ | ⟨hA, -⟩ := Device.romBoot_code1 hsel
      · exact absurd hruns.recovery hstuck
      · exact (hpasses false).symm.trans hA
    · rintro rfl
      exact ⟨(Device.romBoot_code2 hsel).recovery, (Device.romBoot_code2 hsel).booted⟩
    · rintro rfl
      exact ⟨(Device.romBoot_code3 hsel).recovery, (Device.romBoot_code3 hsel).booted⟩
  · intro s t len hrec hlen hmax
    have hchecked : ¬ (len = 0 ∨ 12 * 2 ^ 20 < len.toNat) := not_or.mpr ⟨hlen, Nat.not_lt.mpr hmax⟩
    exact State.on_recovers ((if_neg (by simpa [hrec] using hchecked)).trans (by rw [Device.ready_soffit]))
  · intro s t image hrec
    exact State.on_recovers (by simp [hrec])

end
